-- ==== Sys2Proof/Word.lean ====
section
/-! DEFINITION. The word of the machine: every register, record word and window word is 32 bits wide (R76, R596). -/

namespace Sys2Proof

/-- A 32-bit register, record or window word. -/
abbrev Word := BitVec 32

/-- A byte, the smallest addressable unit of the host address space (R75). -/
abbrev Byte := BitVec 8

end Sys2Proof
end

