-- ==== Sys2Proof/Syntax.lean ====
section
/-! DEFINITION. The commands of the block: one constructor per row of the opcode table, in its order, with the operands
the row's rule gives it. Operands that the device measures or meets (clock counts, levels, replies) are operands too. -/

namespace Sys2Proof

/-- Who asks for a supply target (R681). -/
inductive SupplyOrigin where
  | host | coordinator | powerManager
  deriving DecidableEq, Repr

/-- The commands of the block. -/
inductive Instr where
  /-- SEAM_BAD_CRC (R26). A seam packet arrives with a bad CRC-8; the sender resends it, and a fourth failure of the same packet marks that seam direction faulted. `again`: the same packet as the last failure of this direction. -/
  | seamBadCrc (seam : Nat) (cw again : Bool)
  /-- SEAM_WATCHDOG (R27). A seam request has not been acknowledged within 2 µs, so that direction is marked faulted. -/
  | seamWatchdog (seam : Nat) (cw : Bool)
  /-- SEAM_IDLE_WORD (R28). A seam direction has carried no word for 1 µs, so it sends an idle word. -/
  | seamIdleWord (seam : Nat) (cw : Bool)
  /-- SEAM_REGISTER_ACCESS (R31). A tagged register access reaches a field die; it runs exactly once, and a repeated tag returns the stored reply. `offset` is the 20-bit page and offset. -/
  | seamRegisterAccess (die tag : Nat) (write : Bool) (offset : Nat) (data : Word)
  /-- RECORD_WORD_ARRIVAL (R34). A record word from a field die reaches the anchor under seam credit, is written into the hamper, and its credit is returned. `xfer` is the transfer number of the record the word belongs to. -/
  | recordWordArrival (die xfer : Nat)
  /-- SEAM_RETRAIN_START (R41). Every SEM_RETRAIN.PERIOD ms, a loop-back test of a faulted seam starts. -/
  | seamRetrainStart (seam : Nat)
  /-- SEAM_RETRAIN_END (R41). A loop-back test of a faulted seam ends as a pass or a failure. -/
  | seamRetrainEnd (seam : Nat) (pass : Bool)
  /-- SEAM_RESTORED (R41). After three consecutive passes, the seam returns to UP at the next round boundary and traffic returns to the shortest path. -/
  | seamRestored (seam : Nat)
  /-- DIE_SEAM_SILENCE (R43). A field die has seen no word on any seam input for 2 µs, so it ramps down and holds all its slices OFF. -/
  | dieSeamSilence (die : Nat)
  /-- DIE_ANCHOR_SILENCE (R43). A field die in RUN or DOZE has received no word from the anchor for 10 µs, so it ramps down its slices. -/
  | dieAnchorSilence (die : Nat)
  /-- ANCHOR_KEEP_ALIVE (R43). The anchor has sent a die nothing for 4 µs, so it sends that die a keep-alive word in the sync class. -/
  | anchorKeepAlive (die : Nat)
  /-- REJOIN (R45). The host writes SEM_CTRL.REJOIN for a lost die that is reachable again, and the anchor starts resetting and reloading the die. `reachable`: words pass between the anchor and the die again. -/
  | rejoin (die : Nat) (reachable : Bool)
  /-- DIE_REJOINED (R45). The rejoin completes: REACHABLE is set, the die is in DOZE, and its DIE and SLICE calibration runs become DUE. -/
  | dieRejoined (die : Nat)
  /-- CARRIER_UNLOCK (R52). A field die's carrier PLL loses lock: its slices ramp down, LOCKED clears and its exchanges end SLICE_FAULT. -/
  | carrierUnlock (die : Nat)
  /-- CARRIER_RELOCK (R53). A field die's carrier PLL regains lock: LOCKED is set and the die becomes DUE for calibration. -/
  | carrierRelock (die : Nat)
  /-- TIME_LOAD (R58). A time-load sync event loads a field die's copy of device time. `offset`: the copy less anchor time, -1 to 1. -/
  | timeLoad (die : Nat) (offset : Int) (late : Bool)
  /-- REALIGNED (R62). At the first 32 kHz edge after the main crystal is ready, device time is re-aligned to main-crystal ticks. -/
  | realigned
  /-- TBS_MEAS_UPDATE (R64). A count of main-crystal ticks over 32,768 periods of the 32 kHz crystal completes and is placed in TBS_MEAS. -/
  | tbsMeasUpdate (count : Nat)
  /-- TBS_ALM_HI_WRITE (R69). A write of an alarm's HI register arms the new alarm value. -/
  | tbsAlmHiWrite (alarm : Nat) (hi : Word)
  /-- ALARM_FIRE (R67). An armed and enabled alarm is reached by device time; it raises its event once, disarms, and can wake the device. -/
  | alarmFire (alarm : Nat)
  /-- PG_CTRL_EN (R92). A write of PG_CTRL.EN enables or disables a page under the page state table. -/
  | pgCtrlEn (die page : Nat) (value : Bool)
  /-- PG_CTRL_DRAIN (R807). A write of PG_CTRL.DRAIN sets or clears the drain of a page. -/
  | pgCtrlDrain (die page : Nat) (value : Bool)
  /-- PG_CTRL_COMMIT (R101). A write of 1 to PG_CTRL.COMMIT requests a commit of the page's shadows and sets COMMIT_PEND. -/
  | pgCtrlCommit (die page : Nat)
  /-- PG_CTRL_TEST (R92). A write of 1 to PG_CTRL.TEST requests the block's self-test. -/
  | pgCtrlTest (die page : Nat)
  /-- PG_CTRL_LOCK (R90). A write of 1 to PG_CTRL.LOCK locks the page until reset. -/
  | pgCtrlLock (die page : Nat)
  /-- PAGE_READY (R92). A STARTING block becomes ready and enters ON, or DRAINING when DRAIN is set. `fault`: the block found a fault while starting. -/
  | pageReady (die page : Nat) (fault : Bool)
  /-- PAGE_DRAIN_END (R92). A DRAINING block's work ends, and the page goes to OFF, STARTING or ON, or stays DRAINING with QUIET set. -/
  | pageDrainEnd (die page : Nat)
  /-- COMMIT_TAKE_EFFECT (R101). At the page's safe boundary, all shadows take effect together, PG_SEQ increments and COMMITTED is raised. `port` counts on RCV, XEN, INV and CWT pages only. -/
  | commitTakeEffect (die page port : Nat)
  /-- PG_EVT_CLEAR (R94). A W1C write clears page event bits. -/
  | pgEvtClear (die page : Nat) (value raised : Word)
  /-- PG_FIRSTERR_CLEAR (R97). A write of PG_FIRSTERR clears CODE, COUNT and OVF. -/
  | pgFirsterrClear (die page : Nat) (value : Word) (same : Option Nat)
  /-- REGISTER_WRITE (R805). A write to a register that has no row of its own, applied under each field's access code. -/
  | registerWrite (addr : Nat) (value : Word)
  /-- WINDOW_WRITE (R86). A write to a memory window, applied or refused under the window's write rule. -/
  | windowWrite (addr : Nat) (value : Word)
  /-- STATUS (R125). The STATUS command shifts out the status byte repeatedly. `mode3`: HSCK high at the falling edge of HSEL; `clocks`: HSCK clocks of the frame, or of a part of it; `more`: HSEL stays low after them. -/
  | status (mode3 : Bool) (clocks : Nat) (more : Bool)
  /-- READ (R131). The READ command reads words from rising addresses, each checked on its own. `fast`: HSCK period below 50 ns; `ready`: token bytes of 0x00 before the data is ready, none when TOKEN_READY or READ_TIMEOUT follows; `ahead`: words fetched ahead of those clocked out. -/
  | read (addr : Nat) (mode3 fast : Bool) (clocks : Nat) (ready : Option Nat) (ahead : Nat)
  /-- WRITE (R134). The WRITE command writes each complete received word to rising addresses. `data`: the complete words received. -/
  | write (addr : Nat) (data : List Word) (mode3 : Bool) (clocks : Nat)
  /-- WRITE_COMMIT (R135). The WRITE_COMMIT command writes shadows and then commits their page when no word was rejected or partial. -/
  | writeCommit (addr : Nat) (data : List Word) (mode3 : Bool) (clocks : Nat)
  /-- HAMPER_READ (R139). The HAMPER_READ command delivers a grant word and then hamper words from the admitted classes, consuming each word sent in full. -/
  | hamperRead (mask : Nat) (mode3 fast : Bool) (clocks : Nat) (ready : Option Nat)
  /-- WAKE (R148). The WAKE command starts a wake of the device to ACTIVE from DEEP_SLEEP or WATCH. -/
  | wake (mode3 : Bool) (clocks : Nat)
  /-- PROFILE_LOAD (R149). The PROFILE_LOAD command starts a run-time load of a profile slot at the rising edge of HSEL. -/
  | profileLoad (addr : Nat) (mode3 : Bool) (clocks : Nat)
  /-- SOFT_RESET (R150). The SOFT_RESET command resets the device after the correct key bytes. -/
  | softReset (key0 key1 : Nat) (mode3 : Bool) (clocks : Nat)
  /-- UNKNOWN_CMD (R122). A frame with an undefined command byte is rejected and ignored. -/
  | unknownCmd (cmd : Nat) (mode3 : Bool) (clocks : Nat)
  /-- TOKEN_READY (R127). The first data word of a READ or HAMPER_READ is ready, so the token 0xA5 is sent and any grant is fixed. `clocks`: clocks after the token. -/
  | tokenReady (clocks ahead : Nat)
  /-- READ_TIMEOUT (R128). Data is not ready 200 µs after the address, so the token 0xE7 is sent and the frame is rejected. `clocks`: clocks after the token, on which 0x00 is sent. -/
  | readTimeout (clocks : Nat)
  /-- HSEL_WAKE (R145). A falling edge of HSEL in DEEP_SLEEP or WATCH is a wake source. -/
  | hselWake
  /-- TW_WRITE_TRANSFER (R161). A two-wire write transfer sets the pointer and writes window words or control bytes. `start`: begun by a START or repeated START with that address, so the first byte sets the pointer; `stretch`: the write of the last word completed is not ready, the clock is stretched and the bytes end there; `stop`: STOP follows. -/
  | twWriteTransfer (start : Option Nat) (bytes : List Byte) (stretch stop : Bool)
  /-- TW_READ_TRANSFER (R167). A two-wire read transfer reads window words or control bytes at the pointer. `start`: begun by a START or repeated START with that address; `count` bytes are read; `stretch`: the window word of the next byte is not ready and the clock is stretched. -/
  | twReadTransfer (start : Option Nat) (count : Nat) (stretch stop : Bool)
  /-- QUICK_COMMAND (R159). An SMBus Quick Command to the device is acknowledged and has no effect. -/
  | quickCommand (addr : Nat) (read : Bool)
  /-- WIN_MID_WRITE (R170). A write of control byte 0xF1 applies the staged WIN_BASE. -/
  | winMidWrite (value : Byte) (stop : Bool)
  /-- GRANT2_READ (R173). A read of GRANT2 fixes a hamper grant from the HMASK class mask. -/
  | grant2Read (stop : Bool)
  /-- STREAM_READ (R177). A read of STREAM delivers the next granted hamper byte, consuming a word at its fourth byte. -/
  | streamRead (stop : Bool)
  /-- TW_STRETCH_RELEASE (R169). A window access completes, so the port releases its clock stretch on HSCL. -/
  | twStretchRelease
  /-- TW_STRETCH_TIMEOUT (R169). A clock stretch has lasted 200 µs, so HSCL is released and the transfer is rejected with READ_TIMEOUT. -/
  | twStretchTimeout
  /-- BUS_PROTO (R183). A START or STOP appears where an acknowledge was due, so the transfer is aborted. `start`: the condition was a START. -/
  | busProto (start : Bool)
  /-- SCL_LOW (R184). HSCL has been held low beyond TLOW, so the transfer is aborted and the bus released. -/
  | sclLow
  /-- SDA_LOW (R185). HSDA has been held low beyond TLOW, so the transfer is aborted and HSDA released. -/
  | sdaLow
  /-- BUS_FREE (R186). HSCL and HSDA have been high for the bus free time, so the bus counts as free. -/
  | busFree
  /-- ATTENTION_START (R189). With a cause pending and the bus free, the device starts an attention write as controller. `depth`: byte 3 of the attention in progress starts (R190). -/
  | attentionStart (depth : Bool)
  /-- ATTN_SENT (R191). All four attention bytes are acknowledged and STOP is sent; the cause stops being pending. -/
  | attnSent
  /-- ATTN_NACK (R192). A byte of an attention is not acknowledged, so the device sends STOP and backs off. -/
  | attnNack
  /-- ARB_LOST (R193). The device sends a one and samples a zero, so it loses arbitration and withdraws. `edge`: lost while sending STOP, or to another controller's START or STOP; `own`: the winning address is the device's own, and `read` its direction. -/
  | arbLost (edge own read : Bool)
  /-- ATTN_BACKOFF_END (R195). The back-off of 100 µs × n after a lost attempt ends, and the next attempt starts if the bus is free. -/
  | attnBackoffEnd
  /-- TW_ADDRESS_WAKE (R179). A START with the device's own address in DEEP_SLEEP or WATCH is a wake source; it is not acknowledged. -/
  | twAddressWake
  /-- SLICE_ENERGISE (R225). At the energise tick named by a sync event, a slice enters RAMP_UP, or records a pending restart. `late`: the sync event arrived after its named tick (R30). -/
  | sliceEnergise (die slice : Nat) (late : Bool)
  /-- RAMP_UP_END (R225). The up ramp completes and the field state becomes ON. -/
  | rampUpEnd (die slice : Nat)
  /-- RAMP_DOWN_END (R225). The down ramp completes, the slice enters DRAINING, and its budget is released. -/
  | rampDownEnd (die slice : Nat)
  /-- GUARD_END (R227). The 28 fc cycle guard ends, and the slice goes to OFF or, with a restart pending, to RAMP_UP. -/
  | guardEnd (die slice : Nat)
  /-- OVERCURRENT (R230). Peak driver current exceeds 1.5 A in two consecutive fc cycles, so the driver is switched off and the slice enters FAULT. -/
  | overcurrent (die slice : Nat)
  /-- OPEN_LOAD (R231). The slice delivers less than 10 % of its level for 8 sense intervals, so it ramps down and enters FAULT. -/
  | openLoad (die slice : Nat)
  /-- SLICE_START_CHECK (R232). The bias and sense check that runs when a slice leaves OFF completes, and the page goes to ON or to FAULT. -/
  | sliceStartCheck (die slice : Nat) (pass : Bool)
  /-- SENSE_INTERVAL (R221). Each 64 fc cycle interval of an energised slice ends, and the sense registers update. The measured means; `detune` is the register code. -/
  | senseInterval (die slice pwr headroom ampl detune : Nat)
  /-- CW_START (R241). A write of SLC_CW.START asks the coordinator for a CW grant. -/
  | cwStart (die slice : Nat)
  /-- CW_STOP (R242). A write of SLC_CW.STOP ends a CW period with a ramp down. -/
  | cwStop (die slice : Nat)
  /-- CW_TIMEOUT (R242). CW_TIME has elapsed since the field reached ON, so the CW period ends. -/
  | cwTimeout (die slice : Nat)
  /-- PHASE_COMMAND (R214). A sync event sets a new commanded phase CMD, which applies at once or slews the output phase. -/
  | phaseCommand (die slice phase : Nat) (late : Bool)
  /-- FCO_RUN (R248). A write of FCO_RUN queues a single-exchange request, or is refused. -/
  | fcoRun (value : Word)
  /-- FCO_ABORT (R267). A write of FCO_ABORT withdraws the waiting candidates of a descriptor and aborts its admitted exchanges. -/
  | fcoAbort (value : Word)
  /-- CANDIDATE_AGEING (R261). A waiting candidate has waited another eighth of its ageing period, so its effective priority rises, up to AGED. `order` names the candidate. -/
  | candidateAgeing (order : Nat)
  /-- ROUND_START (R250). A plan's round starts at its period tick, taking a snapshot of the plan and forming candidates. -/
  | roundStart (plan : Nat) (late : Bool)
  /-- THERMAL_SAMPLE (R271). Every 1 ms, the highest junction temperature is sampled and the thermal factor is set. Junction temperatures in 0.1 °C, the anchor first. -/
  | thermalSample (temps : List Int)
  /-- VSUP_WINDOW_END (R270). A 1 ms VSUP window ends, and its mean updates SRL_VSUP and the supply term. The window's mean in 2 mV units. -/
  | vsupWindowEnd (vsup : Nat)
  /-- VSUP_IDLE_REQUEST (R276). HOLD ms without field work have passed, so a SET request for FCO_VSUP.IDLE is sent. -/
  | vsupIdleRequest
  /-- DIE_WAKE_LEAD (R288). FCO_WAKE.LEAD µs before a round start, RUN is requested on the dies the plan needs, together with the supply request. -/
  | dieWakeLead (plan : Nat)
  /-- DIE_DOZE_RETURN (R290). A die has been idle for FCO_WAKE.IDLE µs with no wake due, so it returns to DOZE. -/
  | dieDozeReturn (die : Nat)
  /-- LISTENER_WITHDRAW (R285). At the end of an inventory slot, a sync event withdraws a listener that a higher-priority candidate needs. `listener` is an aerial port. -/
  | listenerWithdraw (die port listener : Nat) (late : Bool)
  /-- NEIGHBOUR_TERM_SWITCH (R319). A sync event naming a neighbour's energise or ramp-down end switches the receiving port's rinse term. -/
  | neighbourTermSwitch (die port entry : Nat) (late : Bool)
  /-- SETTLE_END (R366). The settle time after the field reaches ON ends and transmission of the frame begins. -/
  | settleEnd (die port : Nat)
  /-- TX_FRAME_END (R343). The last modulation pulse of a TX frame ends, fixing the reference instant of the attempt. `resid`: the residuals measured under R323, as aerial port and value, of the ports for which a carrier was predicted. -/
  | txFrameEnd (die port : Nat) (resid : List (Nat × Nat))
  /-- REPLY_START (R344). A reply start-of-frame edge is found and judged as accepted, early or late. -/
  | replyStart (die port fdt ampl angle : Nat)
  /-- REPLY_END (R348). A reply is decoded to its end, the attempt's status is fixed, and the engine retries or writes the record. The decoded reply; `sat`: the ports whose chains had saturated samples in the window, the serving one for R303, listeners for R388. -/
  | replyEnd (die port : Nat) (data : List Byte) (nbits : Nat) (parityOk : Bool) (collision : Option Nat) (sat : List Nat)
  /-- RESPONSE_WINDOW_END (R345). No reply start has come by WMAX plus LATE, so the attempt ends NO_RESPONSE; with RESP NONE it ends OK at WMAX. `sat`: the ports whose chains had saturated samples in the window (R303, R388). -/
  | responseWindowEnd (die port : Nat) (sat : List Nat)
  /-- RETRY_START (R350). The turnaround gap after a failed attempt ends, and the next attempt sends the same frame. -/
  | retryStart (die port : Nat)
  /-- EOF_REQ_SEND (R367). WMIN fc cycles after the reference instant, a lone EOF is sent that calls an ISO/IEC 15693 write reply. -/
  | eofReqSend (die port : Nat)
  /-- ACTIVATE_NEXT_COMMAND (R368). The gap after a reply in an activation sequence ends and the next anticollision, SELECT or slot command is sent. -/
  | activateNextCommand (die port : Nat)
  /-- FIELD_HOLD_EXPIRY (R353). HOLD ms of field hold have elapsed, so the field ramps down and HOLD_EXPIRED is raised. -/
  | fieldHoldExpiry (die port : Nat)
  /-- XEN_HOLD_END (R353). A write of XEN_HOLD_END ends the field hold of the named ports. -/
  | xenHoldEnd (die : Nat) (value : Word)
  /-- STREAM_GAP (R329). A neighbour stream sample arrives more than 20 µs late, so the stream counts as broken for the slot. -/
  | streamGap (die port listener : Nat)
  /-- INV_SLOT_EOF (R380). After the turnaround gap or T3, the engine sends the next slot EOF or the round's next frame. -/
  | invSlotEof (die port : Nat)
  /-- SEPARATION_SOLVE_END (R392). A separation solve of an unclear slot ends, and each reply is accepted or rejected. `eigen`: the eigenvalues in units of 0.1 dB, from which the number of components K follows by INV_SEP.EST_DB (R389); each solved reply: bytes, amplitude, angle, residual in 0.1 dB. -/
  | separationSolveEnd (die port slot : Nat) (eigen : List Int) (replies : List (List Byte × Nat × Nat × Nat))
  /-- PROBE_DUE (R410). A port's watch probe falls due: it becomes a coordinator candidate in ACTIVE or is granted by the watch sequencer in WATCH. -/
  | probeDue (die port : Nat)
  /-- PROBE_END (R419). A probe's measurement ends and is compared with the baseline, advancing the port's watch state. -/
  | probeEnd (die port ampl : Nat) (detune : Int)
  /-- WATCH_ABSORB (R423). A port has stayed ABSORB minutes in DETECTED, so the object is absorbed into the baseline. -/
  | watchAbsorb (die port : Nat)
  /-- WATCH_TEMP_SAMPLE (R415). In WATCH, the watch domain samples the die temperature once per second. -/
  | watchTempSample (die : Nat) (temp : Int)
  /-- RX_RSSI_DETECT (R448). RSSI over 8 chips reaches RSSI_THR, so the receiver goes from SEARCH to DETECT. -/
  | rxRssiDetect (rssi : Int)
  /-- RX_PREAMBLE_QUALIFIED (R448). PRE_QUAL preamble symbols correlate, so the AGC freezes and the receiver enters QUALIFIED. -/
  | rxPreambleQualified
  /-- RX_DETECT_TIMEOUT (R448). DETECT ends without qualification or on low RSSI, and the receiver returns to SEARCH. -/
  | rxDetectTimeout (symbols : Nat) (rssi : Int)
  /-- RX_SFD_FOUND (R449). The detection path finds the start-of-frame word, reserves 6 words and enters HEADER. `rssi`: over the last 16 chips of the word, in 0.5 dB. -/
  | rxSfdFound (rssi : Int)
  /-- RX_SFD_TIMEOUT (R448). SFD_WIN symbols pass without the start-of-frame word, so the receiver returns to SEARCH. -/
  | rxSfdTimeout
  /-- RX_FREE_SFD (R450). The free-running correlator alone finds a start-of-frame word, and the receiver enters AGC_RERUN. -/
  | rxFreeSfd
  /-- RX_CAPTURE (R454). A stronger frame's start-of-frame word captures the receiver, and the current frame ends CAPTURED. `rssi`: over the 16 chips that end with the new word, in 0.5 dB; `ownWord`: it lies within the current frame's own word. -/
  | rxCapture (rssi : Int) (ownWord : Bool)
  /-- RX_AGC_RERUN_END (R450). The 8-chip AGC re-run ends and the receiver enters HEADER. RSSI over the 8 chips of the re-run and the gain it settled on. -/
  | rxAgcRerunEnd (rssi : Int) (step : Nat)
  /-- RX_HEADER_END (R451). The PHY header is received, then accepted with a raised reservation or refused. The 16 header bits (the length byte in Isari mode) and the carrier offset in 100 Hz. -/
  | rxHeaderEnd (header : Nat) (fofs : Int)
  /-- RX_PAYLOAD_END (R460). The last payload bit is decided and the reception ends. The payload bytes decoded, CRC included. -/
  | rxPayloadEnd (payload : List Byte)
  /-- RSSI_UPDATE (R458). Every 16 chips in RX, RFX_RSSI.LIVE is updated. RSSI over 16 chips in 0.5 dB and the AGC gain in dB. -/
  | rssiUpdate (rssi : Int) (step : Nat)
  /-- MASK_MEASURE (R467). Every 128 µs of an Isari transmission, the spectral mask is measured, and the frame is aborted on a double violation. Power of each mask point below the in-channel power, in dB. -/
  | maskMeasure (below : List Nat)
  /-- RADIO_CMD_SLEEP (R474). The SLEEP radio command is queued. -/
  | radioCmdSleep
  /-- RADIO_CMD_STANDBY (R474). The STANDBY radio command is queued. -/
  | radioCmdStandby
  /-- RADIO_CMD_SYNTH (R474). The SYNTH radio command, to lock and stay in SYNTH_ON, is queued. -/
  | radioCmdSynth (channel : Nat)
  /-- RADIO_CMD_RX (R474). The RX radio command, to receive on a hop entry, is queued. -/
  | radioCmdRx (channel : Nat)
  /-- RADIO_CMD_TX (R474). The TX radio command, to send a template, is queued. -/
  | radioCmdTx (after : Nat) (pri : Bool) (template channel ticket : Nat)
  /-- RADIO_CMD_CAL (R474). The CAL radio command, to calibrate one hop entry, is queued. -/
  | radioCmdCal (channel : Nat)
  /-- RADIO_CMD_CAL_ALL (R474). The CAL_ALL radio command, to calibrate every enabled hop entry, is queued. -/
  | radioCmdCalAll
  /-- RADIO_CMD_FLUSH (R474). The FLUSH radio command withdraws the TX commands queued behind it. -/
  | radioCmdFlush
  /-- RADIO_CMD_START (R475). A radio command reaches the head of the queue and starts its state transitions. -/
  | radioCmdStart
  /-- RADIO_STATE_REACHED (R475). A radio state transition completes, ending the command when its target state is reached. -/
  | radioStateReached
  /-- TX_CREDIT_RESERVED (R480). A TX command at the head of the queue gets its 6-word credit and runs its checks. -/
  | txCreditReserved
  /-- TX_RAMP_START (R482). At the latest of lock, lead and grant, the duty check runs and the PA ramp starts. -/
  | txRampStart
  /-- TX_SYNTH_DEADLINE (R483). Lock has not been reached within DEADLINE, so the TX command ends SYNTH_LATE. -/
  | txSynthDeadline
  /-- SYNTH_LOCK_LOSS (R484). The synthesiser loses lock during TX, so the PA ramps down and the frame ends LOCK_LOST. -/
  | synthLockLoss
  /-- TX_LAST_CHIP (R487). The last chip of a frame is sent, the PA ramps down and the RADIO_TX_STATUS record is written. -/
  | txLastChip
  /-- HOP_CAL_END (R479). The calibration of a hop entry completes and its VALID bit is set. The temperature in 0.1 °C and the values measured. -/
  | hopCalEnd (entry : Nat) (temp band gain : Int)
  /-- CXGNT_ASSERT (R490). CXGNT is asserted, satisfying the grant condition for the PA ramp. -/
  | cxgntAssert
  /-- COEX_GRANT_TIMEOUT (R490). CXGNT has not been asserted GNT_WAIT µs after CXREQ, so the command ends COEX_DENIED. -/
  | coexGrantTimeout
  /-- CXGNT_WITHDRAW (R490). CXGNT is withdrawn, ending a TX with ABORTED_COEX or marking an RX with COEX. -/
  | cxgntWithdraw
  /-- DUTY_CLOCK_SECOND (R493). The duty clock advances one second and the rolling duty window moves on one bin. -/
  | dutyClockSecond
  /-- SEC_KEY_LOAD (R499). SEC_KEYCMD LOAD loads the staged key into a slot. -/
  | secKeyLoad (slot : Nat)
  /-- SEC_KEY_ERASE (R499). SEC_KEYCMD ERASE empties a key slot. -/
  | secKeyErase (slot : Nat)
  /-- PLE_START (R510). A write of PLE_START triggers a list with CAUSE HOST. -/
  | pleStart (list : Nat)
  /-- PLE_STOP (R522). A write of PLE_STOP ends a list's run at the next instruction boundary and withdraws its waiting I/O. -/
  | pleStop (list : Nat)
  /-- PLE_PERIOD_DUE (R512). A PERIOD list's due time arrives; it triggers the list, or wakes or latches while asleep. -/
  | plePeriodDue (list : Nat)
  /-- PLE_END (R510). The END instruction ends the run, starts any pending trigger and fires LIST triggers. -/
  | pleEnd (list : Nat)
  /-- PLE_WAIT (R527). The WAIT instruction makes the list wait MS ms. -/
  | pleWait (list : Nat)
  /-- PLE_WAIT_END (R513). A list's WAIT time ends and the list becomes ready, or wakes or latches while asleep. -/
  | pleWaitEnd (list : Nat)
  /-- PLE_MOVI (R527). The MOVI instruction loads a signed immediate into a variable. -/
  | pleMovi (list : Nat)
  /-- PLE_MOVW (R527). The MOVW instruction loads a 32-bit word into a variable. -/
  | pleMovw (list : Nat)
  /-- PLE_LOAD (R520). The LOAD instruction reads an anchor register or window word into a variable. -/
  | pleLoad (list : Nat)
  /-- PLE_STORE (R520). The STORE instruction writes a variable to an allowed anchor register. -/
  | pleStore (list : Nat)
  /-- PLE_ADD (R525). The ADD instruction adds two variables with saturation. -/
  | pleAdd (list : Nat)
  /-- PLE_SUB (R525). The SUB instruction subtracts two variables with saturation. -/
  | pleSub (list : Nat)
  /-- PLE_SCALE (R527). The SCALE instruction multiplies a variable and shifts the product. -/
  | pleScale (list : Nat)
  /-- PLE_EXT (R527). The EXT instruction extracts a bit field of a variable. -/
  | pleExt (list : Nat)
  /-- PLE_IIR (R527). The IIR instruction applies a first-order filter step. -/
  | pleIir (list : Nat)
  /-- PLE_MEDIAN5 (R528). The MEDIAN5 instruction takes a median over a value and its history, then shifts the history. -/
  | pleMedian5 (list : Nat)
  /-- PLE_MEAN (R527). The MEAN instruction averages the VALID variables of a range. -/
  | pleMean (list : Nat)
  /-- PLE_CMPH (R529). The CMPH instruction runs a hysteresis comparison that updates a state variable. -/
  | pleCmph (list : Nat)
  /-- PLE_WINDOW (R530). The WINDOW instruction tests whether the event time lies in a time window. -/
  | pleWindow (list : Nat)
  /-- PLE_TIME (R527). The TIME instruction stores the event time plus an offset. -/
  | pleTime (list : Nat)
  /-- PLE_BRANCH (R527). The BRANCH instruction jumps on a flag condition. -/
  | pleBranch (list : Nat)
  /-- PLE_EMIT (R531). The EMIT instruction reserves credit and writes a POLL or EVENT record, or waits for credit. -/
  | pleEmit (list : Nat)
  /-- PLE_EMIT_CREDIT (R531). A waiting EMIT gets its credit and writes its record. -/
  | pleEmitCredit (list : Nat)
  /-- PLE_RAISE (R532). The RAISE instruction sets a PLE_RAISE interrupt bit. -/
  | pleRaise (list : Nat)
  /-- PLE_TRIG (R510). The TRIG instruction triggers another list. -/
  | pleTrig (list : Nat)
  /-- PLE_SPI (R533). The SPI instruction queues a sensor serial entry from a template and waits. -/
  | pleSpi (list : Nat)
  /-- PLE_SPI_DONE (R533). A list's sensor serial entry ends and its input is stored in the variables. -/
  | pleSpiDone (list : Nat)
  /-- PLE_LISTEN (R534). The LISTEN instruction takes listener words for the poll engine, waiting up to TO ms. -/
  | pleListen (list : Nat)
  /-- PLE_LISTEN_DONE (R534). A LISTEN has its NUM words or reaches its timeout and stores the count. -/
  | pleListenDone (list : Nat)
  /-- PLE_ADC (R535). The ADC instruction requests COUNT conversions of an analogue input. -/
  | pleAdc (list : Nat)
  /-- PLE_ADC_DONE (R535). A list's conversions end and their mean is stored. The input voltages converted, in nanovolts. -/
  | pleAdcDone (list : Nat) (volts : List Int)
  /-- PLE_TAG (R536). The TAG instruction places a single-exchange candidate in the poll queue and waits for its record. -/
  | pleTag (list : Nat)
  /-- PLE_TAG_DONE (R536). The exchange's result record is written and its words load into the list's variables. -/
  | pleTagDone (list : Nat)
  /-- PLE_RADIO (R538). The RADIO instruction places a TX command in the radio queue, waiting for room. -/
  | pleRadio (list : Nat)
  /-- PLE_RADIO_DONE (R538). The command's RADIO_TX_STATUS record is written and its word 3 loads into the list's variable. -/
  | pleRadioDone (list : Nat)
  /-- PLE_VARIABLE_WRITE (R524). A host write to PLE_Vn sets a sensor variable and its VALID bit between instructions. -/
  | pleVariableWrite (n : Nat) (value : Word)
  /-- PLE_VVALID_CLEAR (R523). A write of 1 to PLE_VVALID bits clears those variables' VALID bits. `hi`: PLE_VVALID_HI. -/
  | pleVvalidClear (hi : Bool) (value : Word)
  /-- PLE_RAISE_CLEAR (R532). A W1C write to PLE_RAISE clears raised interrupt bits, serving their sources. -/
  | pleRaiseClear (value : Word)
  /-- SSC_QPUSH (R550). A write of SSC_QPUSH queues a host sensor serial entry, or is refused. -/
  | sscQpush (tag buf template : Nat)
  /-- SSC_ENTRY_START (R545). The next queue entry starts after T_GAP and asserts its select. `input`: what SSDI carries in the data phase, from bit 31 of the first word; the device has each word once its last bit is shifted. -/
  | sscEntryStart (input : List Word)
  /-- SSC_ENTRY_END (R554). An entry's last transfer ends, and a host entry places its status in the done FIFO. -/
  | sscEntryEnd
  /-- SSC_DONE_POP (R554). A write of SSC_DONE_POP removes the oldest done entry. -/
  | sscDonePop
  /-- SLSEL_ASSERT (R557). SLSEL is asserted and a listener message begins. The level that the pin came to and the ticks it has held it. -/
  | slselAssert (level : Bool) (ticks : Nat)
  /-- LISTENER_WORD (R558). WIDTH bits complete a listener word, which is delivered or refused. SLDI at the rising and at the falling edge of each SLCK period since the last command, and the device time of the first capturing edge among them; a word may come in several commands. -/
  | listenerWord (sldi : List (Bool × Bool)) (start : Nat)
  /-- SLSEL_RELEASE (R559). SLSEL is released, delivering any partial word and writing the RAW_WORDS record. The level that the pin came to and the ticks it has held it. -/
  | slselRelease (level : Bool) (ticks : Nat)
  /-- SEL_STUCK (R560). SLSEL stays asserted IDLE ms without an edge, so the message is ended. -/
  | selStuck
  /-- LISTENER_RESERVE (R563). Credits allow, so the listener takes its standing reservation and drives SLRDY low. -/
  | listenerReserve
  /-- SAF_REQ (R571). A write of SAF_REQ requests conversions of an analogue input, or is refused. `count`: conversions minus 1. -/
  | safReq (count ch : Nat)
  /-- SAF_CONV_DONE (R571). A host conversion request ends, SAF_RESULT holds the mean and CONV_DONE is raised. The input voltages converted, in nanovolts. -/
  | safConvDone (volts : List Int)
  /-- COMPARATOR_STROBE (R573). A wake comparator is strobed every 2^STROBE periods of the 32 kHz crystal. Comparator and input level in threshold codes. -/
  | comparatorStrobe (k : Nat) (level : Int)
  /-- CREDIT_MISMATCH (R593). The credit sum of a class fails its check, so the class is frozen and a FAULT record is written. `found`: FREE + RESERVED + OCCUPIED as the check finds them. -/
  | creditMismatch (cls found : Nat)
  /-- SYSTEM_RECORD_WRITE (R604). A queued system record gets its credits and is written. -/
  | systemRecordWrite
  /-- HMP_MARK (R607). A write of HMP_MARK queues a MARK record. -/
  | hmpMark (value : Word)
  /-- TKT_OP_NONE (R618). A TKT commit with OP NONE does nothing. -/
  | tktOpNone
  /-- TKT_OP_WRITE (R618). A TKT commit with OP WRITE writes or frees the entry at INDEX. -/
  | tktOpWrite
  /-- TKT_OP_INSERT (R618). A TKT commit with OP INSERT writes the staged entry in the lowest FREE way of its bucket. -/
  | tktOpInsert
  /-- TKT_OP_DELETE (R618). A TKT commit with OP DELETE frees the entry at INDEX. -/
  | tktOpDelete
  /-- TKT_OP_LOOKUP (R618). A TKT commit with OP LOOKUP finds the staged identity and kind. -/
  | tktOpLookup
  /-- TKT_SNAP_SAVE (R620). A write of TKT_SNAP.SAVE starts copying the ticket table to the NV store. -/
  | tktSnapSave
  /-- TKT_SNAP_SAVE_END (R620). The snapshot save completes with SNAP_DONE, or fails with SNAP_FAIL and a FAULT record. On failure the bucket at which the save failed and the NVS error code. -/
  | tktSnapSaveEnd (ok : Bool) (bucket : Nat) (code : Nat)
  /-- TKT_SNAP_LOAD (R621). A write of TKT_SNAP.LOAD starts loading the snapshot while the TKT page is OFF. -/
  | tktSnapLoad
  /-- TKT_SNAP_LOAD_END (R621). The snapshot load completes, replacing the table, or leaves it unchanged on a CRC mismatch. -/
  | tktSnapLoadEnd (crcOk : Bool)
  /-- ICU_CLAIM (R642). A read of ICU_Tt_CLAIM claims the highest offered slot for the target and starts its moderation hold. `others`: the targets whose claims crossed in the same cycle before it; `fetch`: fetch-ahead or LOAD (R644). -/
  | icuClaim (target : Nat) (others : List Nat) (fetch : Bool)
  /-- ICU_COMPLETE (R645). A write of a slot to ICU_Tt_CLAIM completes it and re-samples the source level. -/
  | icuComplete (target : Nat) (slot : Nat)
  /-- ICU_SRC_WRITE (R636). A write of ICU_SRCs maps a source's slot and targets and subtracts from its COUNT. -/
  | icuSrcWrite (source : Nat) (value : Word)
  /-- ICU_TARGET_CFG_WRITE (R648). A write of ICU_Tt_CFG sets ASLEEP, IDLE and MODGAP; IDLE ends a hold. -/
  | icuTargetCfgWrite (target : Nat) (value : Word)
  /-- ICU_MODGAP_END (R647). A target's moderation hold of MODGAP µs ends. -/
  | icuModgapEnd (target : Nat)
  /-- ICU_LEVEL_CHANGE (R631). A source level change from a field die reaches the interrupt controller with its event counts. -/
  | icuLevelChange (source : Nat)
  /-- ICU_SLEEP_LATCH (R634). An enabled cause edge while clocks are stopped sets the source's asynchronous latch. -/
  | icuSleepLatch (source bit : Nat)
  /-- SLEEP_DEEP_REQUEST (R654). A write of PWR_SLEEP with TARGET 1 requests DEEP_SLEEP and starts the DRAIN phase. -/
  | sleepDeepRequest
  /-- SLEEP_WATCH_REQUEST (R654). A write of PWR_SLEEP with TARGET 2 requests WATCH and starts the DRAIN phase. -/
  | sleepWatchRequest
  /-- ENTRY_TIMEOUT (R657). Holders remain ENTRY_TO ms after a sleep request, so the entry is refused. -/
  | entryTimeout
  /-- SLEEP_PREPARE (R658). No holder remains, so the PREPARE phase runs its steps: pads latched, bank CRCs stored. -/
  | sleepPrepare
  /-- SLEEP_COMMIT (R659). In the commit cycle, unpowered domains turn off and the main crystal stops. -/
  | sleepCommit
  /-- WAKE_PIN_ASSERT (R662). The WAKE pin holds its active level for two 32 kHz periods, which is a wake source. -/
  | wakePinAssert (high : Bool) (periods : Nat)
  /-- WAKE_DOMAIN_READY (R664). A waking domain completes its regulator, oscillator, memory and logic steps and signals ready. `front`: the on-demand fronts; `failed`: banks whose CRC differs. -/
  | wakeDomainReady (die : Nat) (front : Bool) (found : List (Nat × Nat))
  /-- WAKE_COMPLETE (R666). The anchor reaches ACTIVE, reloads field-die time, writes held WATCH records and resumes plans. The levels of GP0 to GP7 in the first cycle after the wake. -/
  | wakeComplete (gp : Nat)
  /-- PAD_RELEASE (R673). A write of PWR_PADREL releases held pad groups. -/
  | padRelease (value : Word)
  /-- KEEP_RUN (R677). A write of DPWR_CFG.KEEP_RUN brings the die to RUN and holds it there. -/
  | keepRun (die : Nat)
  /-- DIE_OFF_IDLE (R677). A die has completed OFF_IDLE ms in DOZE, so its logic turns off. -/
  | dieOffIdle (die : Nat)
  /-- SRL_SET (R678). A SET supply request for a VSUP target is queued. -/
  | srlSet (value : Nat) (origin : SupplyOrigin)
  /-- SRL_STEP_UP (R681). A STEP_UP supply request is queued. -/
  | srlStepUp (value : Nat)
  /-- SRL_STEP_DOWN (R681). A STEP_DOWN supply request is queued. -/
  | srlStepDown (value : Nat)
  /-- SRL_QUERY (R678). A QUERY supply request is queued. -/
  | srlQuery
  /-- SRL_FRAME_START (R681). With no request in flight, the next request frame is sent on SRDA. -/
  | srlFrameStart
  /-- SRL_ACK (R680). SRAK goes high, so the request ends ACKED and the target in force changes. -/
  | srlAck
  /-- SRL_NOACK (R680). The acknowledgement timeout expires, so the request ends SRL_NOACK. -/
  | srlNoack
  /-- POWER_ON (R653). VSUP becomes valid, the always-on islands come up and EPOCH is set to 1. `iosel`: the level of IOSEL (R785). -/
  | powerOn (iosel : Bool)
  /-- VSUP_LOSS (R653). VSUP is lost and the device goes to OFF. `torn`: a REG_LOCK command that was running leaves the block programmed but not locked. -/
  | vsupLoss (torn : Bool)
  /-- VSUP_DIP (R784). VSUP falls below 2.80 V, so the device enters RESET with cause 3. -/
  | vsupDip
  /-- NRST_LOW (R653). NRST goes low, so the device enters RESET. -/
  | nrstLow
  /-- CORE_RAIL_RESET (R653). The core rail supervisor causes an internal reset. -/
  | coreRailReset
  /-- RESET_END (R653). The reset ends: straps are sampled and the start-up sequence begins. The straps PROF1:PROF0 and TWA2:TWA0. -/
  | resetEnd (prof twa : Nat)
  /-- MEMORY_TEST_END (R727). The start-up MEMORY test completes and faulty rows are remapped. The banks in which rows were found faulty, with their numbers of rows. -/
  | memoryTestEnd (faults : List (Nat × Nat))
  /-- STARTUP_READY (R776). The profile is applied, tickets and calibration are loaded, and READY becomes 1. The seams that training found UP, and the calibration sets that fail their CRC. -/
  | startupReady (seams : Nat) (badSets : List Nat)
  /-- CAL_REQ_SLICE (R703). CAL_REQ with KIND SLICE makes the named slices DUE. -/
  | calReqSlice (die mask : Nat)
  /-- CAL_REQ_SPARE (R703). CAL_REQ with KIND SPARE makes the named spares DUE. -/
  | calReqSpare (die mask : Nat)
  /-- CAL_REQ_DIE (R703). CAL_REQ with KIND DIE makes a die DUE. -/
  | calReqDie (die : Nat)
  /-- CAL_REQ_ANCHOR (R703). CAL_REQ with KIND ANCHOR makes the anchor DUE. -/
  | calReqAnchor
  /-- CAL_REQ_ALL (R703). CAL_REQ with KIND ALL makes every target DUE. -/
  | calReqAll
  /-- DIE_TEMP_UPDATE (R697). Every 1 ms, DCAL_TEMP is updated. The temperature in 0.1 °C; die 0 is the anchor. -/
  | dieTempUpdate (die : Nat) (temp : Int)
  /-- CAL_RUN_END (R708). A calibration run ends, and its accepted values enter the set as a point. `target` is the key of the set (16 × die + slice, + 15 for the die, 0 the anchor, 0x1000 + n hop entry n); the deviations of REFV and REFRES in 0.001 %, the run's temperature in 0.1 °C, the measured values (quantity, part, value) in step order. -/
  | calRunEnd (target : Nat) (refv refres temp : Int) (values : List (Nat × Nat × Int))
  /-- CAL_MAXDEFER_EXPIRY (R710). A run has been DUE for CAL_MAXDEFER, so it becomes AGED and FORCED is raised. -/
  | calMaxdeferExpiry (target : Nat)
  /-- ANCHOR_CAL_START (R712). An ANCHOR run takes the converter between two conversions. -/
  | anchorCalStart
  /-- HOP_CAL_BACKGROUND (R713). A DUE hop entry is recalibrated while the radio is in STANDBY with an empty queue. -/
  | hopCalBackground (entry : Nat)
  /-- CAL_SAVE (R718). A write of CAL_SAVE.SAVE starts writing the dirty sets to the NV store. -/
  | calSave
  /-- CAL_AUTOSAVE (R718). 24 h after DIRTY was set, the dirty sets are saved automatically. -/
  | calAutosave
  /-- CAL_SAVE_END (R718). A calibration save completes or fails. -/
  | calSaveEnd (ok : Bool)
  /-- BST_REQ_SLICE (R726). BST_REQ with KIND SLICE requests SLICE tests. -/
  | bstReqSlice (die mask : Nat)
  /-- BST_REQ_DIE (R726). BST_REQ with KIND DIE requests a DIE test. -/
  | bstReqDie (die : Nat)
  /-- BST_REQ_SEAM (R726). BST_REQ with KIND SEAM requests SEAM tests. -/
  | bstReqSeam (mask : Nat)
  /-- BST_REQ_RADIO (R726). BST_REQ with KIND RADIO requests a RADIO test of a hop entry. -/
  | bstReqRadio (entry : Nat)
  /-- BST_REQ_ANCHOR (R726). BST_REQ with KIND ANCHOR requests the ANCHOR test. -/
  | bstReqAnchor
  /-- BST_REQ_ALL (R726). BST_REQ with KIND 15 requests every unit of kinds 1 to 5. -/
  | bstReqAll
  /-- BST_PERIODIC (R726). Every BST_CFG.PERIOD hours, tests of every unit of kinds 1 to 5 are requested. -/
  | bstPeriodic
  /-- TEST_START (R729). A requested test starts once its unit and resources are available. -/
  | testStart (kind die unit : Nat)
  /-- TEST_END (R737). A test ends with a signature result, and its effects follow. The class of each step, the measured value of the first step out of class 5, and for a SEAM test the direction that failed. -/
  | testEnd (kind die unit : Nat) (classes : List Nat) (value : Int) (cw : Bool)
  /-- DRN_SWAP_CMD (R743). A write of DRN_SWAP with OP SWAP requests a swap of a port to a spare. -/
  | drnSwapCmd (die port slice : Nat)
  /-- DRN_UNDARN (R747). A write of DRN_SWAP with OP UNDARN returns a field-darned slice to OFF. -/
  | drnUndarn (die slice : Nat)
  /-- DARN_SWAP_EXECUTE (R744). Once the outgoing slice is OFF, the crossbar gives the port to the spare and the calibration is handed over. -/
  | darnSwapExecute (die port : Nat)
  /-- DARN_MAP_WRITTEN (R748). A darning map change is written to the NV store and NVPEND clears. -/
  | darnMapWritten
  /-- NETFAULT_CLEAR (R742). A write of 1 to DRN_Pp.NETFAULT clears the port's network fault. -/
  | netfaultClear (die port : Nat)
  /-- NVS_ERASE_SLOT (R774). NVS_CMD ERASE_SLOT starts the erase of a profile slot as a background operation. -/
  | nvsEraseSlot (slot : Nat)
  /-- NVS_REG_LOCK (R761). NVS_CMD REG_LOCK checks the staged words and programs the regulatory lock block. -/
  | nvsRegLock (key : Nat)
  /-- NVS_DEBUG_LOCK (R762). NVS_CMD DEBUG_LOCK programs the debug lock. -/
  | nvsDebugLock (key : Nat)
  /-- NVS_WDATA_WRITE (R774). A write of NVS_WDATA programs one word at NVS_ADDR and advances it. -/
  | nvsWdataWrite (value : Word)
  /-- NVS_RDATA_READ (R774). A read of NVS_RDATA returns the word at NVS_ADDR and advances it. `fetch`: a fetch-ahead read (R133). -/
  | nvsRdataRead (fetch : Bool)
  /-- NV_OP_DONE (R758). A background NV operation completes or fails. Whether it verified; the spare sectors left and the highest wear in % as the store finds them. -/
  | nvOpDone (ok : Bool) (spares worn : Nat)
  /-- DEV_LOAD (R768). A write of DEV_LOAD starts a run-time profile load. -/
  | devLoad (slot : Nat)
  /-- PROFILE_CHECK_END (R768). The image check of a run-time load completes, ending the load on failure or starting its drain. -/
  | profileCheckEnd
  /-- PROFILE_DRAIN_END (R768). The load's drain ends and the image is staged, checked and its windows written. -/
  | profileDrainEnd
  /-- PROFILE_LOAD_TIMEOUT (R768). The drain has not ended within LOAD_TO ms, so the load ends PROFILE_TIMEOUT. -/
  | profileLoadTimeout
  /-- PROFILE_COMMIT (R768). At the named tick, every page takes its staged values together and LOADED is raised. -/
  | profileCommit (late : Bool)
  /-- GPP_EDGE (R803). A GP input changes level, raising its RISE or FALL event. -/
  | gppEdge (pin : Nat) (level : Bool)
  /-- DOZE_TO_RUN (R677). A field die asked for RUN while in DOZE reaches RUN at most 20 µs later, which starts an admission pass. -/
  | dozeToRun (die : Nat)
  /-- TURNAROUND_GAP_END (R342). The turnaround gap after the previous exchange ends, and a linked member with KEEP set, or an exchange admitted onto a held field, starts its frame without a settle step. -/
  | turnaroundGapEnd (die port : Nat)
  /-- PHASE_SLEW_END (R214). The output phase of an energised slice reaches its commanded value one step per fc cycle later, and SLEWING clears. -/
  | phaseSlewEnd (die slice : Nat)
  deriving DecidableEq, Repr

end Sys2Proof
end

