-- ==== Sys2Proof/Decode.lean ====
section
/-! DEFINITION. The opcode table's word forms: no row of it gives a command any bits, so no word spells a command. -/

namespace Sys2Proof

/-- The command that a word spells by the bits of spec/opcode_table.json: every row's bits and fields are empty there
(a command is a host frame, a register write or an event of its environment), so there is none. -/
def decodeTableWord (_nbits _w : Nat) : Option Instr := none

end Sys2Proof
end

