-- ==== Sys2Proof/Config.lean ====
section
/-! DEFINITION. The values the manual leaves open: constants without a body, so that no proof can lean on a number. -/

namespace Sys2Proof.Config

/-- The `k`-th value that the manual does not state (each use names its log entry). -/
opaque freeNat : Nat → Nat

/-- R326: the filter to ±200 kHz of a neighbour stream, whose response the manual does not state (log entry 94). -/
opaque streamFilter : List (Int × Int) → List (Int × Int)

end Sys2Proof.Config
end

