-- ==== Sys2Proof/Machine/Fields.lean ====
section
/-! DEFINITION. Names for the fields of the registers: each is the place (page, offset, lowest bit, width) that the
register tables of chapters 01 to 21 give the field. An argument is the index of the register in its array, or the
slice number of an SLC page. -/

namespace Sys2Proof.Machine

/-- A register field: its page, offset, lowest bit and width. The die is given where it is used. -/
structure Fld where
  page : Nat
  off : Nat
  lo : Nat
  width : Nat
  deriving DecidableEq, Repr

namespace F


/-- Page header (chapter 02), offset 0x004. -/
def PG_CTRL_WORD (page : Nat) : Fld := ⟨page, 0x004, 0, 32⟩
/-- Page header (chapter 02), offset 0x004. -/
def PG_EN (page : Nat) : Fld := ⟨page, 0x004, 0, 1⟩
/-- Page header (chapter 02), offset 0x004. -/
def PG_COMMIT (page : Nat) : Fld := ⟨page, 0x004, 1, 1⟩
/-- Page header (chapter 02), offset 0x004. -/
def PG_DRAIN (page : Nat) : Fld := ⟨page, 0x004, 2, 1⟩
/-- Page header (chapter 02), offset 0x004. -/
def PG_LOCK (page : Nat) : Fld := ⟨page, 0x004, 3, 1⟩
/-- Page header (chapter 02), offset 0x004. -/
def PG_TEST (page : Nat) : Fld := ⟨page, 0x004, 4, 1⟩
/-- Page header (chapter 02), offset 0x008. -/
def PG_STATE (page : Nat) : Fld := ⟨page, 0x008, 0, 4⟩
/-- Page header (chapter 02), offset 0x008. -/
def PG_SHADOW_DIRTY (page : Nat) : Fld := ⟨page, 0x008, 8, 1⟩
/-- Page header (chapter 02), offset 0x008. -/
def PG_COMMIT_PEND (page : Nat) : Fld := ⟨page, 0x008, 9, 1⟩
/-- Page header (chapter 02), offset 0x008. -/
def PG_RESTART_PEND (page : Nat) : Fld := ⟨page, 0x008, 10, 1⟩
/-- Page header (chapter 02), offset 0x008. -/
def PG_QUIET (page : Nat) : Fld := ⟨page, 0x008, 11, 1⟩
/-- Page header (chapter 02), offset 0x00C. -/
def PG_EVT (page : Nat) : Fld := ⟨page, 0x00C, 0, 32⟩
/-- Page header (chapter 02), offset 0x010. -/
def PG_EVT_EN (page : Nat) : Fld := ⟨page, 0x010, 0, 32⟩
/-- Page header (chapter 02), offset 0x014. -/
def PG_ERR_CODE (page : Nat) : Fld := ⟨page, 0x014, 0, 16⟩
/-- Page header (chapter 02), offset 0x014. -/
def PG_ERR_COUNT (page : Nat) : Fld := ⟨page, 0x014, 16, 15⟩
/-- Page header (chapter 02), offset 0x014. -/
def PG_ERR_OVF (page : Nat) : Fld := ⟨page, 0x014, 31, 1⟩
/-- Page header (chapter 02), offset 0x018. -/
def PG_SEQ (page : Nat) : Fld := ⟨page, 0x018, 0, 32⟩
def TBS_TIME_LO_TIME_LO : Fld := ⟨0x01, 0x020, 0, 32⟩
def TBS_TIME_HI_TIME_HI : Fld := ⟨0x01, 0x024, 0, 32⟩
def TBS_INC_INT_INT : Fld := ⟨0x01, 0x028, 0, 10⟩
def TBS_INC_FRAC_FRAC : Fld := ⟨0x01, 0x02C, 0, 32⟩
def TBS_MEAS_VALID : Fld := ⟨0x01, 0x030, 31, 1⟩
def TBS_MEAS_MEAS : Fld := ⟨0x01, 0x030, 0, 25⟩
def TBS_CTRL_ALM1_EN : Fld := ⟨0x01, 0x034, 2, 1⟩
def TBS_CTRL_ALM0_EN : Fld := ⟨0x01, 0x034, 1, 1⟩
def TBS_CTRL_AUTOTRIM : Fld := ⟨0x01, 0x034, 0, 1⟩
def TBS_ALM0_LO_ALM : Fld := ⟨0x01, 0x040, 0, 32⟩
def TBS_ALM0_HI_ALM : Fld := ⟨0x01, 0x044, 0, 32⟩
def TBS_ALM1_LO_ALM : Fld := ⟨0x01, 0x048, 0, 32⟩
def TBS_ALM1_HI_ALM : Fld := ⟨0x01, 0x04C, 0, 32⟩
def SEM_DIES_REROUTED : Fld := ⟨0x02, 0x020, 24, 7⟩
def SEM_DIES_LOCKED : Fld := ⟨0x02, 0x020, 16, 7⟩
def SEM_DIES_REACHABLE : Fld := ⟨0x02, 0x020, 8, 7⟩
def SEM_DIES_PRESENT : Fld := ⟨0x02, 0x020, 0, 7⟩
def SEM_CTRL_RETRAIN_EN : Fld := ⟨0x02, 0x024, 8, 1⟩
def SEM_CTRL_REJOIN : Fld := ⟨0x02, 0x024, 0, 7⟩
def SEM_SEAM_OVF (n : Nat) : Fld := ⟨0x02, 0x040 + 4 * n, 24, 1⟩
def SEM_SEAM_CRC_ERR (n : Nat) : Fld := ⟨0x02, 0x040 + 4 * n, 16, 8⟩
def SEM_SEAM_RESENT (n : Nat) : Fld := ⟨0x02, 0x040 + 4 * n, 8, 8⟩
def SEM_SEAM_STREAMS (n : Nat) : Fld := ⟨0x02, 0x040 + 4 * n, 4, 4⟩
def SEM_SEAM_FAULT_CCW (n : Nat) : Fld := ⟨0x02, 0x040 + 4 * n, 3, 1⟩
def SEM_SEAM_FAULT_CW (n : Nat) : Fld := ⟨0x02, 0x040 + 4 * n, 2, 1⟩
def SEM_SEAM_STATE (n : Nat) : Fld := ⟨0x02, 0x040 + 4 * n, 0, 2⟩
def SEM_SYNC_LATE_OVF : Fld := ⟨0x02, 0x060, 31, 1⟩
def SEM_SYNC_LATE_COUNT : Fld := ⟨0x02, 0x060, 0, 16⟩
def SEM_RETRAIN_PERIOD : Fld := ⟨0x02, 0x064, 0, 16⟩
def HSP_CFG_DUMMY : Fld := ⟨0x06, 0x020, 0, 6⟩
def HSP_LASTERR_CODE : Fld := ⟨0x06, 0x024, 0, 16⟩
def HSP_CNT_PARTIAL_OVF : Fld := ⟨0x06, 0x028, 31, 1⟩
def HSP_CNT_PARTIAL_COUNT : Fld := ⟨0x06, 0x028, 0, 16⟩
def HSP_CNT_REJECT_OVF : Fld := ⟨0x06, 0x02C, 31, 1⟩
def HSP_CNT_REJECT_COUNT : Fld := ⟨0x06, 0x02C, 0, 16⟩
def HSP_STAT_DUMMY_RAISED : Fld := ⟨0x06, 0x030, 9, 1⟩
def HSP_STAT_MODE : Fld := ⟨0x06, 0x030, 8, 1⟩
def HSP_STAT_DUMMY_USED : Fld := ⟨0x06, 0x030, 0, 6⟩
def HTW_CFG_ATTN_SPEED : Fld := ⟨0x07, 0x020, 14, 2⟩
def HTW_CFG_ARB_MODE : Fld := ⟨0x07, 0x020, 13, 1⟩
def HTW_CFG_TLOW : Fld := ⟨0x07, 0x020, 0, 6⟩
def HTW_HOSTADDR_ADDR : Fld := ⟨0x07, 0x024, 0, 7⟩
def HTW_ATTN_EN_URGENT : Fld := ⟨0x07, 0x028, 4, 1⟩
def HTW_ATTN_EN_FLOW : Fld := ⟨0x07, 0x028, 3, 1⟩
def HTW_ATTN_EN_IRQ : Fld := ⟨0x07, 0x028, 2, 1⟩
def HTW_ATTN_EN_HAMPER_DATA : Fld := ⟨0x07, 0x028, 1, 1⟩
def HTW_ATTN_EN_READY : Fld := ⟨0x07, 0x028, 0, 1⟩
def HTW_STAT_OWN_ADDR : Fld := ⟨0x07, 0x02C, 16, 7⟩
def HTW_STAT_ATTN_PEND : Fld := ⟨0x07, 0x02C, 8, 5⟩
def HTW_STAT_CTRL : Fld := ⟨0x07, 0x02C, 7, 1⟩
def HTW_STAT_SDA_LOW : Fld := ⟨0x07, 0x02C, 6, 1⟩
def HTW_STAT_SCL_LOW : Fld := ⟨0x07, 0x02C, 5, 1⟩
def HTW_STAT_ATTEMPT : Fld := ⟨0x07, 0x02C, 1, 4⟩
def HTW_LASTERR_CODE : Fld := ⟨0x07, 0x030, 0, 16⟩
def HTW_CNT_PARTIAL_OVF : Fld := ⟨0x07, 0x034, 31, 1⟩
def HTW_CNT_PARTIAL_COUNT : Fld := ⟨0x07, 0x034, 0, 16⟩
def HTW_CNT_PROTO_OVF : Fld := ⟨0x07, 0x038, 31, 1⟩
def HTW_CNT_PROTO_COUNT : Fld := ⟨0x07, 0x038, 0, 16⟩
def HTW_CNT_ARB_OVF : Fld := ⟨0x07, 0x03C, 31, 1⟩
def HTW_CNT_ARB_COUNT : Fld := ⟨0x07, 0x03C, 0, 16⟩
def HTW_CNT_WAKENACK_OVF : Fld := ⟨0x07, 0x040, 31, 1⟩
def HTW_CNT_WAKENACK_COUNT : Fld := ⟨0x07, 0x040, 0, 16⟩
def SLC_FSTAT_LIVE (sl : Nat) : Fld := ⟨0x01 + sl, 0x020, 12, 1⟩
def SLC_FSTAT_SERVING (sl : Nat) : Fld := ⟨0x01 + sl, 0x020, 11, 1⟩
def SLC_FSTAT_PORT (sl : Nat) : Fld := ⟨0x01 + sl, 0x020, 8, 3⟩
def SLC_FSTAT_USER (sl : Nat) : Fld := ⟨0x01 + sl, 0x020, 4, 4⟩
def SLC_FSTAT_FSTATE (sl : Nat) : Fld := ⟨0x01 + sl, 0x020, 0, 4⟩
def SLC_LIMIT_LIMIT_EFF (sl : Nat) : Fld := ⟨0x01 + sl, 0x024, 16, 10⟩
def SLC_LIMIT_LIMIT (sl : Nat) : Fld := ⟨0x01 + sl, 0x024, 0, 10⟩
def SLC_TRIM_OVR (sl : Nat) : Fld := ⟨0x01 + sl, 0x028, 31, 1⟩
def SLC_TRIM_SERIES (sl : Nat) : Fld := ⟨0x01 + sl, 0x028, 16, 7⟩
def SLC_TRIM_SHUNT (sl : Nat) : Fld := ⟨0x01 + sl, 0x028, 0, 7⟩
def SLC_PHASE_SLEWING (sl : Nat) : Fld := ⟨0x01 + sl, 0x02C, 24, 1⟩
def SLC_PHASE_OUT (sl : Nat) : Fld := ⟨0x01 + sl, 0x02C, 16, 8⟩
def SLC_PHASE_CAL_OFS (sl : Nat) : Fld := ⟨0x01 + sl, 0x02C, 8, 8⟩
def SLC_PHASE_CMD (sl : Nat) : Fld := ⟨0x01 + sl, 0x02C, 0, 8⟩
def SLC_APPLIED_RAMP_DN (sl : Nat) : Fld := ⟨0x01 + sl, 0x030, 23, 6⟩
def SLC_APPLIED_RAMP_UP (sl : Nat) : Fld := ⟨0x01 + sl, 0x030, 17, 6⟩
def SLC_APPLIED_DEPTH (sl : Nat) : Fld := ⟨0x01 + sl, 0x030, 10, 7⟩
def SLC_APPLIED_LEVEL (sl : Nat) : Fld := ⟨0x01 + sl, 0x030, 0, 10⟩
def SLC_SENSE_PWR_HEADROOM (sl : Nat) : Fld := ⟨0x01 + sl, 0x034, 16, 11⟩
def SLC_SENSE_PWR_PWR (sl : Nat) : Fld := ⟨0x01 + sl, 0x034, 0, 11⟩
def SLC_SENSE_DET_AMPL (sl : Nat) : Fld := ⟨0x01 + sl, 0x038, 16, 16⟩
def SLC_SENSE_DET_DETUNE (sl : Nat) : Fld := ⟨0x01 + sl, 0x038, 0, 16⟩
def SLC_FAULT_OVF (sl : Nat) : Fld := ⟨0x01 + sl, 0x03C, 31, 1⟩
def SLC_FAULT_COUNT (sl : Nat) : Fld := ⟨0x01 + sl, 0x03C, 16, 8⟩
def SLC_FAULT_START_CHECK (sl : Nat) : Fld := ⟨0x01 + sl, 0x03C, 2, 1⟩
def SLC_FAULT_OPEN_LOAD (sl : Nat) : Fld := ⟨0x01 + sl, 0x03C, 1, 1⟩
def SLC_FAULT_OVERCURRENT (sl : Nat) : Fld := ⟨0x01 + sl, 0x03C, 0, 1⟩
def SLC_CW_START (sl : Nat) : Fld := ⟨0x01 + sl, 0x040, 31, 1⟩
def SLC_CW_STOP (sl : Nat) : Fld := ⟨0x01 + sl, 0x040, 30, 1⟩
def SLC_CW_TIME (sl : Nat) : Fld := ⟨0x01 + sl, 0x040, 16, 8⟩
def SLC_CW_RAMP (sl : Nat) : Fld := ⟨0x01 + sl, 0x040, 10, 6⟩
def SLC_CW_LEVEL (sl : Nat) : Fld := ⟨0x01 + sl, 0x040, 0, 10⟩
def FCO_CTRL_GUARD_RX : Fld := ⟨0x0A, 0x020, 0, 1⟩
def FCO_BUDGET_BUDGET : Fld := ⟨0x0A, 0x024, 0, 12⟩
def FCO_FIELD_EFF : Fld := ⟨0x0A, 0x028, 16, 12⟩
def FCO_FIELD_USED : Fld := ⟨0x0A, 0x028, 0, 12⟩
def FCO_LIMITS_REG_CEIL : Fld := ⟨0x0A, 0x02C, 16, 12⟩
def FCO_LIMITS_SUPPLY : Fld := ⟨0x0A, 0x02C, 0, 13⟩
def FCO_THERM_STOPPED : Fld := ⟨0x0A, 0x030, 31, 1⟩
def FCO_THERM_DIE : Fld := ⟨0x0A, 0x030, 24, 4⟩
def FCO_THERM_TMAX : Fld := ⟨0x0A, 0x030, 16, 8⟩
def FCO_THERM_FACTOR : Fld := ⟨0x0A, 0x030, 0, 7⟩
def FCO_VSUP_RUN : Fld := ⟨0x0A, 0x034, 16, 12⟩
def FCO_VSUP_IDLE : Fld := ⟨0x0A, 0x034, 0, 12⟩
def FCO_VSUP_CTL_AUTO : Fld := ⟨0x0A, 0x038, 31, 1⟩
def FCO_VSUP_CTL_HOLD : Fld := ⟨0x0A, 0x038, 0, 16⟩
def FCO_WAKE_IDLE : Fld := ⟨0x0A, 0x03C, 16, 16⟩
def FCO_WAKE_LEAD : Fld := ⟨0x0A, 0x03C, 0, 10⟩
def FCO_AGE_SINGLE : Fld := ⟨0x0A, 0x040, 0, 16⟩
def FCO_RUN_PRIO : Fld := ⟨0x0A, 0x044, 24, 3⟩
def FCO_RUN_DIE : Fld := ⟨0x0A, 0x044, 16, 3⟩
def FCO_RUN_INDEX : Fld := ⟨0x0A, 0x044, 0, 9⟩
def FCO_ABORT_DIE : Fld := ⟨0x0A, 0x048, 16, 3⟩
def FCO_ABORT_INDEX : Fld := ⟨0x0A, 0x048, 0, 9⟩
def FCO_QUEUE_HOST : Fld := ⟨0x0A, 0x04C, 24, 5⟩
def FCO_QUEUE_CREDIT : Fld := ⟨0x0A, 0x04C, 16, 8⟩
def FCO_QUEUE_AGED : Fld := ⟨0x0A, 0x04C, 8, 8⟩
def FCO_QUEUE_WAITING : Fld := ⟨0x0A, 0x04C, 0, 8⟩
def FCO_CNT_CREDIT_OVF : Fld := ⟨0x0A, 0x060, 31, 1⟩
def FCO_CNT_CREDIT_COUNT : Fld := ⟨0x0A, 0x060, 0, 16⟩
def FCO_CNT_SAFETY_OVF : Fld := ⟨0x0A, 0x064, 31, 1⟩
def FCO_CNT_SAFETY_COUNT : Fld := ⟨0x0A, 0x064, 0, 16⟩
def FCO_CNT_WITHDRAWN_OVF : Fld := ⟨0x0A, 0x068, 31, 1⟩
def FCO_CNT_WITHDRAWN_COUNT : Fld := ⟨0x0A, 0x068, 0, 16⟩
def FCO_CNT_PLANREF_OVF : Fld := ⟨0x0A, 0x06C, 31, 1⟩
def FCO_CNT_PLANREF_COUNT : Fld := ⟨0x0A, 0x06C, 0, 16⟩
def FCO_PORT_NOLISTEN (n : Nat) : Fld := ⟨0x0A, 0x100 + 4 * n, 16, 1⟩
def FCO_PORT_MAXLISTEN (n : Nat) : Fld := ⟨0x0A, 0x100 + 4 * n, 8, 3⟩
def FCO_PORT_PHASE (n : Nat) : Fld := ⟨0x0A, 0x100 + 4 * n, 0, 8⟩
def FCO_ADJ_ADJ3 (n : Nat) : Fld := ⟨0x0A, 0x200 + 4 * n, 24, 8⟩
def FCO_ADJ_ADJ2 (n : Nat) : Fld := ⟨0x0A, 0x200 + 4 * n, 16, 8⟩
def FCO_ADJ_ADJ1 (n : Nat) : Fld := ⟨0x0A, 0x200 + 4 * n, 8, 8⟩
def FCO_ADJ_ADJ0 (n : Nat) : Fld := ⟨0x0A, 0x200 + 4 * n, 0, 8⟩
def FCO_STEER_EN (n : Nat) : Fld := ⟨0x0A, 0x300 + 4 * n, 31, 1⟩
def FCO_STEER_PORT_A (n : Nat) : Fld := ⟨0x0A, 0x300 + 4 * n, 24, 6⟩
def FCO_STEER_PORT_B (n : Nat) : Fld := ⟨0x0A, 0x300 + 4 * n, 16, 6⟩
def FCO_STEER_DELTA (n : Nat) : Fld := ⟨0x0A, 0x300 + 4 * n, 8, 8⟩
def FCO_STEER_LEVEL_PCT (n : Nat) : Fld := ⟨0x0A, 0x300 + 4 * n, 0, 8⟩
def FCO_PLAN_CFG_EN (n : Nat) : Fld := ⟨0x0A, 0x400 + 16 * n, 31, 1⟩
def FCO_PLAN_CFG_PRIO (n : Nat) : Fld := ⟨0x0A, 0x400 + 16 * n, 28, 3⟩
def FCO_PLAN_CFG_UNIT (n : Nat) : Fld := ⟨0x0A, 0x400 + 16 * n, 27, 1⟩
def FCO_PLAN_CFG_COUNT (n : Nat) : Fld := ⟨0x0A, 0x400 + 16 * n, 16, 8⟩
def FCO_PLAN_CFG_PERIOD (n : Nat) : Fld := ⟨0x0A, 0x400 + 16 * n, 0, 16⟩
def FCO_PLAN_SET_LO_SET (n : Nat) : Fld := ⟨0x0A, 0x404 + 16 * n, 0, 32⟩
def FCO_PLAN_SET_HI_SET (n : Nat) : Fld := ⟨0x0A, 0x408 + 16 * n, 0, 24⟩
def FCO_PLAN_STAT_ROUNDS (n : Nat) : Fld := ⟨0x0A, 0x40C + 16 * n, 16, 16⟩
def FCO_PLAN_STAT_SKIPS (n : Nat) : Fld := ⟨0x0A, 0x40C + 16 * n, 8, 8⟩
def FCO_PLAN_STAT_OVF (n : Nat) : Fld := ⟨0x0A, 0x40C + 16 * n, 7, 1⟩
def FCO_PLAN_STAT_RUNNING (n : Nat) : Fld := ⟨0x0A, 0x40C + 16 * n, 0, 1⟩
def FDC_STAT_TEMP : Fld := ⟨0x00, 0x020, 24, 8⟩
def FDC_STAT_PSTATE : Fld := ⟨0x00, 0x020, 16, 2⟩
def FDC_STAT_ENERGISED : Fld := ⟨0x00, 0x020, 8, 4⟩
def FDC_STAT_LOCKED : Fld := ⟨0x00, 0x020, 0, 1⟩
def FDC_FIELD_USED : Fld := ⟨0x00, 0x024, 0, 12⟩
def RCV_CFG_DRIFT_LIM : Fld := ⟨0x0B, 0x020, 0, 10⟩
def RCV_STREAMS_RECEIVED : Fld := ⟨0x0B, 0x024, 8, 5⟩
def RCV_STREAMS_SOURCED : Fld := ⟨0x0B, 0x024, 0, 4⟩
def RCV_CNT_GAP_OVF : Fld := ⟨0x0B, 0x028, 31, 1⟩
def RCV_CNT_GAP_COUNT : Fld := ⟨0x0B, 0x028, 0, 16⟩
def RCV_P_CFG_ATT_AUTO (n : Nat) : Fld := ⟨0x0B, 0x100 + 64 * n, 31, 1⟩
def RCV_P_CFG_ATT (n : Nat) : Fld := ⟨0x0B, 0x100 + 64 * n, 24, 3⟩
def RCV_P_CFG_LO_OFS (n : Nat) : Fld := ⟨0x0B, 0x100 + 64 * n, 8, 8⟩
def RCV_P_CFG_NBR_OFF (n : Nat) : Fld := ⟨0x0B, 0x100 + 64 * n, 1, 1⟩
def RCV_P_CFG_SELF_OFF (n : Nat) : Fld := ⟨0x0B, 0x100 + 64 * n, 0, 1⟩
def RCV_P_STAT_SAT (n : Nat) : Fld := ⟨0x0B, 0x104 + 64 * n, 24, 8⟩
def RCV_P_STAT_SAT_OVF (n : Nat) : Fld := ⟨0x0B, 0x104 + 64 * n, 23, 1⟩
def RCV_P_STAT_ATT_USED (n : Nat) : Fld := ⟨0x0B, 0x104 + 64 * n, 16, 3⟩
def RCV_P_STAT_STALE (n : Nat) : Fld := ⟨0x0B, 0x104 + 64 * n, 8, 4⟩
def RCV_P_STAT_TERMS (n : Nat) : Fld := ⟨0x0B, 0x104 + 64 * n, 4, 4⟩
def RCV_P_STAT_RX_ON (n : Nat) : Fld := ⟨0x0B, 0x104 + 64 * n, 0, 1⟩
def RCV_P_SELF_I (n : Nat) : Fld := ⟨0x0B, 0x108 + 64 * n, 16, 16⟩
def RCV_P_SELF_Q (n : Nat) : Fld := ⟨0x0B, 0x108 + 64 * n, 0, 16⟩
def RCV_P_NBR0_I (n : Nat) : Fld := ⟨0x0B, 0x10C + 64 * n, 16, 16⟩
def RCV_P_NBR0_Q (n : Nat) : Fld := ⟨0x0B, 0x10C + 64 * n, 0, 16⟩
def RCV_P_NBR1_I (n : Nat) : Fld := ⟨0x0B, 0x110 + 64 * n, 16, 16⟩
def RCV_P_NBR1_Q (n : Nat) : Fld := ⟨0x0B, 0x110 + 64 * n, 0, 16⟩
def RCV_P_NBR2_I (n : Nat) : Fld := ⟨0x0B, 0x114 + 64 * n, 16, 16⟩
def RCV_P_NBR2_Q (n : Nat) : Fld := ⟨0x0B, 0x114 + 64 * n, 0, 16⟩
def RCV_P_NBR3_I (n : Nat) : Fld := ⟨0x0B, 0x118 + 64 * n, 16, 16⟩
def RCV_P_NBR3_Q (n : Nat) : Fld := ⟨0x0B, 0x118 + 64 * n, 0, 16⟩
def RCV_P_RESID_EXCEED (n : Nat) : Fld := ⟨0x0B, 0x11C + 64 * n, 31, 1⟩
def RCV_P_RESID_MASK (n : Nat) : Fld := ⟨0x0B, 0x11C + 64 * n, 16, 4⟩
def RCV_P_RESID_RESID (n : Nat) : Fld := ⟨0x0B, 0x11C + 64 * n, 0, 12⟩
def RCV_P_AGE_TDELTA (n : Nat) : Fld := ⟨0x0B, 0x120 + 64 * n, 24, 8⟩
def RCV_P_AGE_AGE (n : Nat) : Fld := ⟨0x0B, 0x120 + 64 * n, 0, 24⟩
def RCV_P_LAST_AMPL (n : Nat) : Fld := ⟨0x0B, 0x124 + 64 * n, 16, 16⟩
def RCV_P_LAST_ANGLE (n : Nat) : Fld := ⟨0x0B, 0x124 + 64 * n, 8, 8⟩
def XEN_CFG_LATE : Fld := ⟨0x0C, 0x020, 16, 8⟩
def XEN_CFG_RGAP : Fld := ⟨0x0C, 0x020, 0, 16⟩
def XEN_SETTLE_T14443 : Fld := ⟨0x0C, 0x024, 16, 16⟩
def XEN_SETTLE_T15693 : Fld := ⟨0x0C, 0x024, 0, 16⟩
def XEN_TYPEA_PAUSE : Fld := ⟨0x0C, 0x028, 8, 6⟩
def XEN_TYPEA_CHOOSE : Fld := ⟨0x0C, 0x028, 0, 1⟩
def XEN_STAT_HELD : Fld := ⟨0x0C, 0x02C, 8, 8⟩
def XEN_STAT_BUSY : Fld := ⟨0x0C, 0x02C, 0, 8⟩
def XEN_HOLD_END_END : Fld := ⟨0x0C, 0x030, 0, 8⟩
def XEN_CNT_INVALID_OVF : Fld := ⟨0x0C, 0x034, 31, 1⟩
def XEN_CNT_INVALID_COUNT : Fld := ⟨0x0C, 0x034, 0, 16⟩
def XEN_CNT_RETRY_OVF : Fld := ⟨0x0C, 0x038, 31, 1⟩
def XEN_CNT_RETRY_COUNT : Fld := ⟨0x0C, 0x038, 0, 16⟩
def XEN_LAST_STATUS (n : Nat) : Fld := ⟨0x0C, 0x040 + 4 * n, 28, 4⟩
def XEN_LAST_ATTEMPTS (n : Nat) : Fld := ⟨0x0C, 0x040 + 4 * n, 24, 4⟩
def XEN_LAST_INDEX (n : Nat) : Fld := ⟨0x0C, 0x040 + 4 * n, 0, 9⟩
def INV_SEP_RESID_LIM : Fld := ⟨0x0D, 0x020, 16, 10⟩
def INV_SEP_EST_DB : Fld := ⟨0x0D, 0x020, 8, 8⟩
def INV_SEP_SEP_EN : Fld := ⟨0x0D, 0x020, 0, 1⟩
def INV_DEPART_N : Fld := ⟨0x0D, 0x024, 0, 8⟩
def INV_TIM_T3_LOW : Fld := ⟨0x0D, 0x028, 16, 16⟩
def INV_TIM_T3_HIGH : Fld := ⟨0x0D, 0x028, 0, 16⟩
def INV_STAT_SOLVING : Fld := ⟨0x0D, 0x02C, 16, 8⟩
def INV_STAT_LISTENER : Fld := ⟨0x0D, 0x02C, 8, 8⟩
def INV_STAT_ACTIVE : Fld := ⟨0x0D, 0x02C, 0, 8⟩
def INV_CNT_UNCLEAR_OVF : Fld := ⟨0x0D, 0x030, 31, 1⟩
def INV_CNT_UNCLEAR_COUNT : Fld := ⟨0x0D, 0x030, 0, 16⟩
def INV_CNT_SEPOK_OVF : Fld := ⟨0x0D, 0x034, 31, 1⟩
def INV_CNT_SEPOK_COUNT : Fld := ⟨0x0D, 0x034, 0, 16⟩
def INV_CNT_SEPFAIL_OVF : Fld := ⟨0x0D, 0x038, 31, 1⟩
def INV_CNT_SEPFAIL_COUNT : Fld := ⟨0x0D, 0x038, 0, 16⟩
def INV_CNT_NOTICKET_OVF : Fld := ⟨0x0D, 0x03C, 31, 1⟩
def INV_CNT_NOTICKET_COUNT : Fld := ⟨0x0D, 0x03C, 0, 16⟩
def INV_CNT_INCOMPLETE_OVF : Fld := ⟨0x0D, 0x040, 31, 1⟩
def INV_CNT_INCOMPLETE_COUNT : Fld := ⟨0x0D, 0x040, 0, 16⟩
def INV_LAST_STATUS (n : Nat) : Fld := ⟨0x0D, 0x060 + 4 * n, 28, 4⟩
def INV_LAST_FOUND (n : Nat) : Fld := ⟨0x0D, 0x060 + 4 * n, 16, 8⟩
def INV_LAST_SEP_OK (n : Nat) : Fld := ⟨0x0D, 0x060 + 4 * n, 8, 8⟩
def INV_LAST_REQUESTS (n : Nat) : Fld := ⟨0x0D, 0x060 + 4 * n, 0, 8⟩
def CWT_STAT_PEND : Fld := ⟨0x0E, 0x020, 16, 8⟩
def CWT_STAT_DETECTED : Fld := ⟨0x0E, 0x020, 8, 8⟩
def CWT_STAT_PROBING : Fld := ⟨0x0E, 0x020, 0, 8⟩
def CWT_TEMP_TEMP : Fld := ⟨0x0E, 0x024, 0, 8⟩
def CWT_CNT_SKIP_OVF : Fld := ⟨0x0E, 0x028, 31, 1⟩
def CWT_CNT_SKIP_COUNT : Fld := ⟨0x0E, 0x028, 0, 16⟩
def CWT_CNT_MASKED_OVF : Fld := ⟨0x0E, 0x02C, 31, 1⟩
def CWT_CNT_MASKED_COUNT : Fld := ⟨0x0E, 0x02C, 0, 16⟩
def CWT_P_CFG_EN (n : Nat) : Fld := ⟨0x0E, 0x100 + 64 * n, 31, 1⟩
def CWT_P_CFG_SLEEP (n : Nat) : Fld := ⟨0x0E, 0x100 + 64 * n, 30, 1⟩
def CWT_P_CFG_CLASS (n : Nat) : Fld := ⟨0x0E, 0x100 + 64 * n, 28, 2⟩
def CWT_P_CFG_MASK (n : Nat) : Fld := ⟨0x0E, 0x100 + 64 * n, 24, 4⟩
def CWT_P_CFG_DEB (n : Nat) : Fld := ⟨0x0E, 0x100 + 64 * n, 20, 3⟩
def CWT_P_CFG_PERIOD (n : Nat) : Fld := ⟨0x0E, 0x100 + 64 * n, 0, 11⟩
def CWT_P_PROBE_BURST (n : Nat) : Fld := ⟨0x0E, 0x104 + 64 * n, 16, 6⟩
def CWT_P_PROBE_LEVEL (n : Nat) : Fld := ⟨0x0E, 0x104 + 64 * n, 0, 8⟩
def CWT_P_THR_THR_A (n : Nat) : Fld := ⟨0x0E, 0x108 + 64 * n, 16, 16⟩
def CWT_P_THR_THR_P (n : Nat) : Fld := ⟨0x0E, 0x108 + 64 * n, 0, 16⟩
def CWT_P_TRACK_ABSORB (n : Nat) : Fld := ⟨0x0E, 0x10C + 64 * n, 24, 8⟩
def CWT_P_TRACK_TAU (n : Nat) : Fld := ⟨0x0E, 0x10C + 64 * n, 0, 8⟩
def CWT_P_BASE_AMPL (n : Nat) : Fld := ⟨0x0E, 0x110 + 64 * n, 16, 16⟩
def CWT_P_BASE_DETUNE (n : Nat) : Fld := ⟨0x0E, 0x110 + 64 * n, 0, 16⟩
def CWT_P_LAST_AMPL (n : Nat) : Fld := ⟨0x0E, 0x114 + 64 * n, 16, 16⟩
def CWT_P_LAST_DETUNE (n : Nat) : Fld := ⟨0x0E, 0x114 + 64 * n, 0, 16⟩
def CWT_P_STAT_RUN (n : Nat) : Fld := ⟨0x0E, 0x118 + 64 * n, 24, 4⟩
def CWT_P_STAT_PEND (n : Nat) : Fld := ⟨0x0E, 0x118 + 64 * n, 16, 1⟩
def CWT_P_STAT_LCLASS (n : Nat) : Fld := ⟨0x0E, 0x118 + 64 * n, 4, 4⟩
def CWT_P_STAT_STATE (n : Nat) : Fld := ⟨0x0E, 0x118 + 64 * n, 0, 4⟩
def RFX_CFG_ISARI : Fld := ⟨0x0F, 0x020, 8, 1⟩
def RFX_CFG_UNCODED_EN : Fld := ⟨0x0F, 0x020, 4, 1⟩
def RFX_CFG_MODE_EN : Fld := ⟨0x0F, 0x020, 0, 3⟩
def RFX_DET_RSSI_THR : Fld := ⟨0x0F, 0x024, 24, 8⟩
def RFX_DET_SFD_WIN : Fld := ⟨0x0F, 0x024, 8, 8⟩
def RFX_DET_PRE_QUAL : Fld := ⟨0x0F, 0x024, 0, 4⟩
def RFX_CAPT_CAPT_EN : Fld := ⟨0x0F, 0x028, 8, 1⟩
def RFX_CAPT_CAPT_DB : Fld := ⟨0x0F, 0x028, 0, 5⟩
def RFX_RXCFG_CLASS : Fld := ⟨0x0F, 0x02C, 0, 2⟩
def RFX_TXCFG_RAMP_T : Fld := ⟨0x0F, 0x030, 16, 5⟩
def RFX_TXCFG_POWER : Fld := ⟨0x0F, 0x030, 0, 6⟩
def RFX_RAMP0_STEP3 : Fld := ⟨0x0F, 0x040, 24, 8⟩
def RFX_RAMP0_STEP2 : Fld := ⟨0x0F, 0x040, 16, 8⟩
def RFX_RAMP0_STEP1 : Fld := ⟨0x0F, 0x040, 8, 8⟩
def RFX_RAMP0_STEP0 : Fld := ⟨0x0F, 0x040, 0, 8⟩
def RFX_RAMP1_STEP3 : Fld := ⟨0x0F, 0x044, 24, 8⟩
def RFX_RAMP1_STEP2 : Fld := ⟨0x0F, 0x044, 16, 8⟩
def RFX_RAMP1_STEP1 : Fld := ⟨0x0F, 0x044, 8, 8⟩
def RFX_RAMP1_STEP0 : Fld := ⟨0x0F, 0x044, 0, 8⟩
def RFX_RAMP2_STEP3 : Fld := ⟨0x0F, 0x048, 24, 8⟩
def RFX_RAMP2_STEP2 : Fld := ⟨0x0F, 0x048, 16, 8⟩
def RFX_RAMP2_STEP1 : Fld := ⟨0x0F, 0x048, 8, 8⟩
def RFX_RAMP2_STEP0 : Fld := ⟨0x0F, 0x048, 0, 8⟩
def RFX_RAMP3_STEP3 : Fld := ⟨0x0F, 0x04C, 24, 8⟩
def RFX_RAMP3_STEP2 : Fld := ⟨0x0F, 0x04C, 16, 8⟩
def RFX_RAMP3_STEP1 : Fld := ⟨0x0F, 0x04C, 8, 8⟩
def RFX_RAMP3_STEP0 : Fld := ⟨0x0F, 0x04C, 0, 8⟩
def RFX_FIR0_TAP_HI : Fld := ⟨0x0F, 0x060, 16, 10⟩
def RFX_FIR0_TAP_LO : Fld := ⟨0x0F, 0x060, 0, 10⟩
def RFX_FIR1_TAP_HI : Fld := ⟨0x0F, 0x064, 16, 10⟩
def RFX_FIR1_TAP_LO : Fld := ⟨0x0F, 0x064, 0, 10⟩
def RFX_FIR2_TAP_HI : Fld := ⟨0x0F, 0x068, 16, 10⟩
def RFX_FIR2_TAP_LO : Fld := ⟨0x0F, 0x068, 0, 10⟩
def RFX_FIR3_TAP_HI : Fld := ⟨0x0F, 0x06C, 16, 10⟩
def RFX_FIR3_TAP_LO : Fld := ⟨0x0F, 0x06C, 0, 10⟩
def RFX_FIR4_TAP_HI : Fld := ⟨0x0F, 0x070, 16, 10⟩
def RFX_FIR4_TAP_LO : Fld := ⟨0x0F, 0x070, 0, 10⟩
def RFX_FIR5_TAP_HI : Fld := ⟨0x0F, 0x074, 16, 10⟩
def RFX_FIR5_TAP_LO : Fld := ⟨0x0F, 0x074, 0, 10⟩
def RFX_FIR6_TAP_HI : Fld := ⟨0x0F, 0x078, 16, 10⟩
def RFX_FIR6_TAP_LO : Fld := ⟨0x0F, 0x078, 0, 10⟩
def RFX_FIR7_TAP_HI : Fld := ⟨0x0F, 0x07C, 16, 10⟩
def RFX_FIR7_TAP_LO : Fld := ⟨0x0F, 0x07C, 0, 10⟩
def RFX_FIR8_TAP_HI : Fld := ⟨0x0F, 0x080, 16, 10⟩
def RFX_FIR8_TAP_LO : Fld := ⟨0x0F, 0x080, 0, 10⟩
def RFX_FIR9_TAP_HI : Fld := ⟨0x0F, 0x084, 16, 10⟩
def RFX_FIR9_TAP_LO : Fld := ⟨0x0F, 0x084, 0, 10⟩
def RFX_FIR10_TAP_HI : Fld := ⟨0x0F, 0x088, 16, 10⟩
def RFX_FIR10_TAP_LO : Fld := ⟨0x0F, 0x088, 0, 10⟩
def RFX_FIR11_TAP_HI : Fld := ⟨0x0F, 0x08C, 16, 10⟩
def RFX_FIR11_TAP_LO : Fld := ⟨0x0F, 0x08C, 0, 10⟩
def RFX_FIR12_TAP_HI : Fld := ⟨0x0F, 0x090, 16, 10⟩
def RFX_FIR12_TAP_LO : Fld := ⟨0x0F, 0x090, 0, 10⟩
def RFX_FIR13_TAP_HI : Fld := ⟨0x0F, 0x094, 16, 10⟩
def RFX_FIR13_TAP_LO : Fld := ⟨0x0F, 0x094, 0, 10⟩
def RFX_FIR14_TAP_HI : Fld := ⟨0x0F, 0x098, 16, 10⟩
def RFX_FIR14_TAP_LO : Fld := ⟨0x0F, 0x098, 0, 10⟩
def RFX_FIR15_TAP_HI : Fld := ⟨0x0F, 0x09C, 16, 10⟩
def RFX_FIR15_TAP_LO : Fld := ⟨0x0F, 0x09C, 0, 10⟩
def RFX_MASK0_OFFSET : Fld := ⟨0x0F, 0x0A0, 16, 16⟩
def RFX_MASK0_LIMIT : Fld := ⟨0x0F, 0x0A0, 0, 7⟩
def RFX_MASK1_OFFSET : Fld := ⟨0x0F, 0x0A4, 16, 16⟩
def RFX_MASK1_LIMIT : Fld := ⟨0x0F, 0x0A4, 0, 7⟩
def RFX_MASK2_OFFSET : Fld := ⟨0x0F, 0x0A8, 16, 16⟩
def RFX_MASK2_LIMIT : Fld := ⟨0x0F, 0x0A8, 0, 7⟩
def RFX_MASK3_OFFSET : Fld := ⟨0x0F, 0x0AC, 16, 16⟩
def RFX_MASK3_LIMIT : Fld := ⟨0x0F, 0x0AC, 0, 7⟩
def RFX_RSSI_LATCHED : Fld := ⟨0x0F, 0x0B0, 16, 16⟩
def RFX_RSSI_LIVE : Fld := ⟨0x0F, 0x0B0, 0, 16⟩
def RFX_STAT_GAIN : Fld := ⟨0x0F, 0x0B4, 8, 8⟩
def RFX_STAT_RXSTATE : Fld := ⟨0x0F, 0x0B4, 0, 4⟩
def RFX_CNT_FALSEDET_OVF : Fld := ⟨0x0F, 0x0C0, 31, 1⟩
def RFX_CNT_FALSEDET_COUNT : Fld := ⟨0x0F, 0x0C0, 0, 16⟩
def RFX_CNT_CAPTURED_OVF : Fld := ⟨0x0F, 0x0C4, 31, 1⟩
def RFX_CNT_CAPTURED_COUNT : Fld := ⟨0x0F, 0x0C4, 0, 16⟩
def RFX_CNT_REFUSED_OVF : Fld := ⟨0x0F, 0x0C8, 31, 1⟩
def RFX_CNT_REFUSED_COUNT : Fld := ⟨0x0F, 0x0C8, 0, 16⟩
def RFX_CNT_HDRFAIL_OVF : Fld := ⟨0x0F, 0x0CC, 31, 1⟩
def RFX_CNT_HDRFAIL_COUNT : Fld := ⟨0x0F, 0x0CC, 0, 16⟩
def RFX_CNT_CRCFAIL_OVF : Fld := ⟨0x0F, 0x0D0, 31, 1⟩
def RFX_CNT_CRCFAIL_COUNT : Fld := ⟨0x0F, 0x0D0, 0, 16⟩
def RFX_CNT_MASKABORT_OVF : Fld := ⟨0x0F, 0x0D4, 31, 1⟩
def RFX_CNT_MASKABORT_COUNT : Fld := ⟨0x0F, 0x0D4, 0, 16⟩
def RFC_CFG_FINISH_RX : Fld := ⟨0x10, 0x020, 2, 1⟩
def RFC_CFG_TXCLASS : Fld := ⟨0x10, 0x020, 0, 2⟩
def RFC_CMD_CMD : Fld := ⟨0x10, 0x024, 28, 4⟩
def RFC_CMD_AFTER : Fld := ⟨0x10, 0x024, 26, 2⟩
def RFC_CMD_PRI : Fld := ⟨0x10, 0x024, 25, 1⟩
def RFC_CMD_TEMPLATE : Fld := ⟨0x10, 0x024, 21, 4⟩
def RFC_CMD_CHANNEL : Fld := ⟨0x10, 0x024, 14, 7⟩
def RFC_CMD_TICKET : Fld := ⟨0x10, 0x024, 0, 14⟩
def RFC_STAT_DUTY_RESTART : Fld := ⟨0x10, 0x028, 23, 1⟩
def RFC_STAT_PERMIT : Fld := ⟨0x10, 0x028, 22, 1⟩
def RFC_STAT_CXGNT : Fld := ⟨0x10, 0x028, 21, 1⟩
def RFC_STAT_CXREQ : Fld := ⟨0x10, 0x028, 20, 1⟩
def RFC_STAT_QUEUE : Fld := ⟨0x10, 0x028, 16, 4⟩
def RFC_STAT_CHAN : Fld := ⟨0x10, 0x028, 8, 7⟩
def RFC_STAT_RSTATE : Fld := ⟨0x10, 0x028, 0, 4⟩
def RFC_CX_GNT_WAIT : Fld := ⟨0x10, 0x02C, 16, 16⟩
def RFC_CX_RXPRI : Fld := ⟨0x10, 0x02C, 9, 1⟩
def RFC_CX_MODE : Fld := ⟨0x10, 0x02C, 8, 1⟩
def RFC_CX_LEAD : Fld := ⟨0x10, 0x02C, 0, 8⟩
def RFC_TXDL_DEADLINE : Fld := ⟨0x10, 0x030, 0, 16⟩
def RFC_CNT_FLUSHED_OVF : Fld := ⟨0x10, 0x040, 31, 1⟩
def RFC_CNT_FLUSHED_COUNT : Fld := ⟨0x10, 0x040, 0, 16⟩
def RFC_CNT_CREDIT_OVF : Fld := ⟨0x10, 0x044, 31, 1⟩
def RFC_CNT_CREDIT_COUNT : Fld := ⟨0x10, 0x044, 0, 16⟩
def RFC_CNT_DENIED_OVF : Fld := ⟨0x10, 0x048, 31, 1⟩
def RFC_CNT_DENIED_COUNT : Fld := ⟨0x10, 0x048, 0, 16⟩
def RFC_REG_HF_LOCKED : Fld := ⟨0x10, 0x1F0, 31, 1⟩
def RFC_REG_HF_BUDGET_CEIL : Fld := ⟨0x10, 0x1F0, 16, 12⟩
def RFC_REG_HF_AERIAL_MAX : Fld := ⟨0x10, 0x1F0, 0, 10⟩
def RFC_SB_RANGE_LO (n : Nat) : Fld := ⟨0x10, 0x200 + 8 * n, 16, 16⟩
def RFC_SB_RANGE_HI (n : Nat) : Fld := ⟨0x10, 0x200 + 8 * n, 0, 16⟩
def RFC_SB_LIM_LIM (n : Nat) : Fld := ⟨0x10, 0x204 + 8 * n, 0, 32⟩
def RFC_DUTY_USED (n : Nat) : Fld := ⟨0x10, 0x280 + 4 * n, 0, 22⟩
def RFC_HOP_EN (n : Nat) : Fld := ⟨0x10, 0x400 + 4 * n, 31, 1⟩
def RFC_HOP_VALID (n : Nat) : Fld := ⟨0x10, 0x400 + 4 * n, 30, 1⟩
def RFC_HOP_FREQ (n : Nat) : Fld := ⟨0x10, 0x400 + 4 * n, 0, 20⟩
def SEC_CFG_RX_SEC : Fld := ⟨0x11, 0x020, 4, 1⟩
def SEC_CFG_TXLEVEL : Fld := ⟨0x11, 0x020, 0, 3⟩
def SEC_OWN_ID_LO_ID : Fld := ⟨0x11, 0x024, 0, 32⟩
def SEC_OWN_ID_HI_ID : Fld := ⟨0x11, 0x028, 0, 32⟩
def SEC_TXCTR_CTR : Fld := ⟨0x11, 0x02C, 0, 32⟩
def SEC_KEY_KEY (n : Nat) : Fld := ⟨0x11, 0x030 + 4 * n, 0, 32⟩
def SEC_KEYCMD_OP : Fld := ⟨0x11, 0x040, 30, 2⟩
def SEC_KEYCMD_SLOT : Fld := ⟨0x11, 0x040, 0, 6⟩
def SEC_SLOTS_LO_LOADED : Fld := ⟨0x11, 0x044, 0, 32⟩
def SEC_SLOTS_HI_LOADED : Fld := ⟨0x11, 0x048, 0, 32⟩
def PLE_CFG_MAXSTEP : Fld := ⟨0x0B, 0x020, 0, 16⟩
def PLE_START_LIST : Fld := ⟨0x0B, 0x024, 0, 5⟩
def PLE_STOP_LIST : Fld := ⟨0x0B, 0x028, 0, 5⟩
def PLE_RAISE_RAISE : Fld := ⟨0x0B, 0x02C, 0, 16⟩
def PLE_VVALID_LO_VALID : Fld := ⟨0x0B, 0x030, 0, 32⟩
def PLE_VVALID_HI_VALID : Fld := ⟨0x0B, 0x034, 0, 32⟩
def PLE_RUNNING_LISTS : Fld := ⟨0x0B, 0x038, 0, 32⟩
def PLE_PENDING_LISTS : Fld := ⟨0x0B, 0x03C, 0, 32⟩
def PLE_CNT_CREDIT_OVF : Fld := ⟨0x0B, 0x040, 31, 1⟩
def PLE_CNT_CREDIT_COUNT : Fld := ⟨0x0B, 0x040, 0, 16⟩
def PLE_V_VALUE (n : Nat) : Fld := ⟨0x0B, 0x100 + 4 * n, 0, 32⟩
def PLE_L_CFG_EN (n : Nat) : Fld := ⟨0x0B, 0x300 + 16 * n, 31, 1⟩
def PLE_L_CFG_PRIO (n : Nat) : Fld := ⟨0x0B, 0x300 + 16 * n, 29, 2⟩
def PLE_L_CFG_LAST (n : Nat) : Fld := ⟨0x0B, 0x300 + 16 * n, 12, 12⟩
def PLE_L_CFG_START (n : Nat) : Fld := ⟨0x0B, 0x300 + 16 * n, 0, 12⟩
def PLE_L_TRIG_KIND (n : Nat) : Fld := ⟨0x0B, 0x304 + 16 * n, 29, 3⟩
def PLE_L_TRIG_WAKE (n : Nat) : Fld := ⟨0x0B, 0x304 + 16 * n, 28, 1⟩
def PLE_L_TRIG_NOW (n : Nat) : Fld := ⟨0x0B, 0x304 + 16 * n, 27, 1⟩
def PLE_L_TRIG_SEL (n : Nat) : Fld := ⟨0x0B, 0x304 + 16 * n, 0, 16⟩
def PLE_L_PERIOD_PERIOD (n : Nat) : Fld := ⟨0x0B, 0x308 + 16 * n, 0, 32⟩
def PLE_L_STAT_OVF (n : Nat) : Fld := ⟨0x0B, 0x30C + 16 * n, 31, 1⟩
def PLE_L_STAT_STATE (n : Nat) : Fld := ⟨0x0B, 0x30C + 16 * n, 28, 3⟩
def PLE_L_STAT_PC (n : Nat) : Fld := ⟨0x0B, 0x30C + 16 * n, 16, 12⟩
def PLE_L_STAT_MISSED (n : Nat) : Fld := ⟨0x0B, 0x30C + 16 * n, 8, 8⟩
def PLE_L_STAT_FAULT (n : Nat) : Fld := ⟨0x0B, 0x30C + 16 * n, 0, 8⟩
def PLE_ARG_ARG (n : Nat) : Fld := ⟨0x0B, 0x500 + 4 * n, 0, 32⟩
def SSC_T_FRAME_CONT (n : Nat) : Fld := ⟨0x0C, 0x800 + 32 * n, 31, 1⟩
def SSC_T_FRAME_SEL (n : Nat) : Fld := ⟨0x0C, 0x800 + 32 * n, 28, 3⟩
def SSC_T_FRAME_MODE (n : Nat) : Fld := ⟨0x0C, 0x800 + 32 * n, 26, 2⟩
def SSC_T_FRAME_CMD_BITS (n : Nat) : Fld := ⟨0x0C, 0x800 + 32 * n, 20, 6⟩
def SSC_T_FRAME_ADDR_BITS (n : Nat) : Fld := ⟨0x0C, 0x800 + 32 * n, 14, 6⟩
def SSC_T_FRAME_DUMMY (n : Nat) : Fld := ⟨0x0C, 0x800 + 32 * n, 8, 6⟩
def SSC_T_FRAME_DIV (n : Nat) : Fld := ⟨0x0C, 0x800 + 32 * n, 0, 8⟩
def SSC_T_TIME_T_LEAD (n : Nat) : Fld := ⟨0x0C, 0x804 + 32 * n, 24, 8⟩
def SSC_T_TIME_T_REL (n : Nat) : Fld := ⟨0x0C, 0x804 + 32 * n, 16, 8⟩
def SSC_T_TIME_T_GAP (n : Nat) : Fld := ⟨0x0C, 0x804 + 32 * n, 8, 8⟩
def SSC_T_DATA_WLEN (n : Nat) : Fld := ⟨0x0C, 0x808 + 32 * n, 16, 5⟩
def SSC_T_DATA_DATA_BITS (n : Nat) : Fld := ⟨0x0C, 0x808 + 32 * n, 0, 12⟩
def SSC_T_CMD_VALUE (n : Nat) : Fld := ⟨0x0C, 0x80C + 32 * n, 0, 32⟩
def SSC_T_ADDR_VALUE (n : Nat) : Fld := ⟨0x0C, 0x810 + 32 * n, 0, 32⟩
def SSC_SELCFG_POL : Fld := ⟨0x0C, 0x020, 8, 8⟩
def SSC_SELCFG_DRIVE : Fld := ⟨0x0C, 0x020, 0, 8⟩
def SSC_QPUSH_TAG : Fld := ⟨0x0C, 0x024, 16, 16⟩
def SSC_QPUSH_BUF : Fld := ⟨0x0C, 0x024, 8, 2⟩
def SSC_QPUSH_TEMPLATE : Fld := ⟨0x0C, 0x024, 0, 6⟩
def SSC_QSTAT_DONE : Fld := ⟨0x0C, 0x028, 16, 7⟩
def SSC_QSTAT_HOST : Fld := ⟨0x0C, 0x028, 8, 7⟩
def SSC_QSTAT_FILL : Fld := ⟨0x0C, 0x028, 0, 7⟩
def SSC_DONE_TAG : Fld := ⟨0x0C, 0x02C, 16, 16⟩
def SSC_DONE_VALID : Fld := ⟨0x0C, 0x02C, 15, 1⟩
def SSC_DONE_STATUS : Fld := ⟨0x0C, 0x02C, 0, 2⟩
def SSC_DONE_POP_POP : Fld := ⟨0x0C, 0x030, 0, 1⟩
def SSL_CFG_IDLE : Fld := ⟨0x0D, 0x020, 24, 8⟩
def SSL_CFG_RECMAX : Fld := ⟨0x0D, 0x020, 16, 6⟩
def SSL_CFG_CLASS : Fld := ⟨0x0D, 0x020, 14, 2⟩
def SSL_CFG_DEST : Fld := ⟨0x0D, 0x020, 13, 1⟩
def SSL_CFG_ORDER : Fld := ⟨0x0D, 0x020, 12, 1⟩
def SSL_CFG_SELPOL : Fld := ⟨0x0D, 0x020, 11, 1⟩
def SSL_CFG_MODE : Fld := ⟨0x0D, 0x020, 9, 2⟩
def SSL_CFG_WIDTH : Fld := ⟨0x0D, 0x020, 0, 5⟩
def SSL_STAT_FIFO : Fld := ⟨0x0D, 0x024, 16, 7⟩
def SSL_STAT_HELD : Fld := ⟨0x0D, 0x024, 2, 1⟩
def SSL_STAT_READY : Fld := ⟨0x0D, 0x024, 1, 1⟩
def SSL_STAT_SELACT : Fld := ⟨0x0D, 0x024, 0, 1⟩
def SSL_REFUSED_OVF : Fld := ⟨0x0D, 0x028, 31, 1⟩
def SSL_REFUSED_COUNT : Fld := ⟨0x0D, 0x028, 0, 16⟩
def SSL_CNT_PARTIAL_OVF : Fld := ⟨0x0D, 0x02C, 31, 1⟩
def SSL_CNT_PARTIAL_COUNT : Fld := ⟨0x0D, 0x02C, 0, 16⟩
def SAF_CFG_RATE : Fld := ⟨0x0E, 0x020, 0, 7⟩
def SAF_REQ_COUNT : Fld := ⟨0x0E, 0x024, 4, 4⟩
def SAF_REQ_CH : Fld := ⟨0x0E, 0x024, 0, 3⟩
def SAF_RESULT_BUSY : Fld := ⟨0x0E, 0x028, 31, 1⟩
def SAF_RESULT_VALID : Fld := ⟨0x0E, 0x028, 30, 1⟩
def SAF_RESULT_CH : Fld := ⟨0x0E, 0x028, 16, 3⟩
def SAF_RESULT_CODE : Fld := ⟨0x0E, 0x028, 0, 16⟩
def SAF_CMPCFG_STROBE : Fld := ⟨0x0E, 0x02C, 0, 4⟩
def SAF_CMP_EN_ACT (n : Nat) : Fld := ⟨0x0E, 0x030 + 4 * n, 31, 1⟩
def SAF_CMP_EN_SLEEP (n : Nat) : Fld := ⟨0x0E, 0x030 + 4 * n, 30, 1⟩
def SAF_CMP_WAKE_RISE (n : Nat) : Fld := ⟨0x0E, 0x030 + 4 * n, 29, 1⟩
def SAF_CMP_WAKE_FALL (n : Nat) : Fld := ⟨0x0E, 0x030 + 4 * n, 28, 1⟩
def SAF_CMP_HYST (n : Nat) : Fld := ⟨0x0E, 0x030 + 4 * n, 16, 6⟩
def SAF_CMP_THR (n : Nat) : Fld := ⟨0x0E, 0x030 + 4 * n, 0, 10⟩
def SAF_CMPSTAT_STATE : Fld := ⟨0x0E, 0x040, 0, 4⟩
def HMP_LAYOUT_K3 : Fld := ⟨0x08, 0x020, 24, 5⟩
def HMP_LAYOUT_K2 : Fld := ⟨0x08, 0x020, 16, 5⟩
def HMP_LAYOUT_K1 : Fld := ⟨0x08, 0x020, 8, 5⟩
def HMP_LAYOUT_K0 : Fld := ⟨0x08, 0x020, 0, 5⟩
def HMP_HIGH_LEVEL : Fld := ⟨0x08, 0x024, 0, 17⟩
def HMP_LOW_LEVEL : Fld := ⟨0x08, 0x028, 0, 17⟩
def HMP_FILL_FLOWU : Fld := ⟨0x08, 0x02C, 18, 1⟩
def HMP_FILL_FLOWA : Fld := ⟨0x08, 0x02C, 17, 1⟩
def HMP_FILL_FILL : Fld := ⟨0x08, 0x02C, 0, 17⟩
def HMP_MARK_DATA_DATA : Fld := ⟨0x08, 0x030, 0, 32⟩
def HMP_MARK_CLASS : Fld := ⟨0x08, 0x034, 0, 2⟩
def HMP_SYSQ_OVF : Fld := ⟨0x08, 0x038, 31, 1⟩
def HMP_SYSQ_MERGED : Fld := ⟨0x08, 0x038, 8, 8⟩
def HMP_SYSQ_PENDING : Fld := ⟨0x08, 0x038, 0, 5⟩
def HMP_C_CFG_CUT (n : Nat) : Fld := ⟨0x08, 0x040 + 32 * n, 0, 10⟩
def HMP_C_FREE_WORDS (n : Nat) : Fld := ⟨0x08, 0x044 + 32 * n, 0, 17⟩
def HMP_C_RES_WORDS (n : Nat) : Fld := ⟨0x08, 0x048 + 32 * n, 0, 17⟩
def HMP_C_OCC_WORDS (n : Nat) : Fld := ⟨0x08, 0x04C + 32 * n, 0, 17⟩
def HMP_C_SEQ_NEXT_RD (n : Nat) : Fld := ⟨0x08, 0x050 + 32 * n, 16, 16⟩
def HMP_C_SEQ_NEXT_WR (n : Nat) : Fld := ⟨0x08, 0x050 + 32 * n, 0, 16⟩
def HMP_C_STAT_FROZEN (n : Nat) : Fld := ⟨0x08, 0x054 + 32 * n, 31, 1⟩
def HMP_C_STAT_OPEN_HSP (n : Nat) : Fld := ⟨0x08, 0x054 + 32 * n, 30, 1⟩
def HMP_C_STAT_OPEN_HTW (n : Nat) : Fld := ⟨0x08, 0x054 + 32 * n, 29, 1⟩
def HMP_C_STAT_WRITING (n : Nat) : Fld := ⟨0x08, 0x054 + 32 * n, 28, 1⟩
def HMP_C_STAT_DELIV (n : Nat) : Fld := ⟨0x08, 0x054 + 32 * n, 0, 17⟩
def HMP_C_LOST_OVF (n : Nat) : Fld := ⟨0x08, 0x058 + 32 * n, 31, 1⟩
def HMP_C_LOST_COUNT (n : Nat) : Fld := ⟨0x08, 0x058 + 32 * n, 0, 16⟩
def TKT_STAGE_WORD (n : Nat) : Fld := ⟨0x09, 0x020 + 4 * n, 0, 32⟩
def TKT_OP_OP : Fld := ⟨0x09, 0x030, 28, 4⟩
def TKT_OP_INDEX : Fld := ⟨0x09, 0x030, 0, 14⟩
def TKT_RESULT_RESULT : Fld := ⟨0x09, 0x034, 24, 4⟩
def TKT_RESULT_INDEX : Fld := ⟨0x09, 0x034, 0, 14⟩
def TKT_FILL_FULLBKT : Fld := ⟨0x09, 0x038, 16, 12⟩
def TKT_FILL_USED : Fld := ⟨0x09, 0x038, 0, 14⟩
def TKT_SNAP_SAVE : Fld := ⟨0x09, 0x03C, 31, 1⟩
def TKT_SNAP_LOAD : Fld := ⟨0x09, 0x03C, 30, 1⟩
def TKT_SNAP_BUSY : Fld := ⟨0x09, 0x03C, 29, 1⟩
def TKT_SNAP_VALID : Fld := ⟨0x09, 0x03C, 28, 1⟩
def TKT_SNAP_PROGRESS : Fld := ⟨0x09, 0x03C, 0, 12⟩
def TKT_CNT_FULL_OVF : Fld := ⟨0x09, 0x040, 31, 1⟩
def TKT_CNT_FULL_COUNT : Fld := ⟨0x09, 0x040, 0, 16⟩
def ICU_STAT_PENDING : Fld := ⟨0x05, 0x020, 16, 9⟩
def ICU_STAT_LINES : Fld := ⟨0x05, 0x020, 0, 4⟩
def ICU_T_CLAIM_SOURCE (n : Nat) : Fld := ⟨0x05, 0x040 + 32 * n, 16, 10⟩
def ICU_T_CLAIM_SLOT (n : Nat) : Fld := ⟨0x05, 0x040 + 32 * n, 0, 9⟩
def ICU_T_CFG_ASLEEP (n : Nat) : Fld := ⟨0x05, 0x044 + 32 * n, 31, 1⟩
def ICU_T_CFG_IDLE (n : Nat) : Fld := ⟨0x05, 0x044 + 32 * n, 30, 1⟩
def ICU_T_CFG_MODGAP (n : Nat) : Fld := ⟨0x05, 0x044 + 32 * n, 0, 16⟩
def ICU_T_STAT_LINE (n : Nat) : Fld := ⟨0x05, 0x048 + 32 * n, 31, 1⟩
def ICU_T_STAT_HOLD (n : Nat) : Fld := ⟨0x05, 0x048 + 32 * n, 30, 1⟩
def ICU_T_STAT_INSVC (n : Nat) : Fld := ⟨0x05, 0x048 + 32 * n, 16, 9⟩
def ICU_T_STAT_TOP (n : Nat) : Fld := ⟨0x05, 0x048 + 32 * n, 0, 9⟩
def ICU_PEND_SLOTS (n : Nat) : Fld := ⟨0x05, 0x100 + 4 * n, 0, 32⟩
def ICU_SVC_SLOTS (n : Nat) : Fld := ⟨0x05, 0x140 + 4 * n, 0, 32⟩
def ICU_SRC_OVF (n : Nat) : Fld := ⟨0x05, 0x400 + 4 * n, 31, 1⟩
def ICU_SRC_LEVEL (n : Nat) : Fld := ⟨0x05, 0x400 + 4 * n, 30, 1⟩
def ICU_SRC_PEND (n : Nat) : Fld := ⟨0x05, 0x400 + 4 * n, 29, 1⟩
def ICU_SRC_INSVC (n : Nat) : Fld := ⟨0x05, 0x400 + 4 * n, 28, 1⟩
def ICU_SRC_SVCT (n : Nat) : Fld := ⟨0x05, 0x400 + 4 * n, 26, 2⟩
def ICU_SRC_TARGET (n : Nat) : Fld := ⟨0x05, 0x400 + 4 * n, 20, 4⟩
def ICU_SRC_COUNT (n : Nat) : Fld := ⟨0x05, 0x400 + 4 * n, 12, 8⟩
def ICU_SRC_SLOT (n : Nat) : Fld := ⟨0x05, 0x400 + 4 * n, 0, 9⟩
def PWR_STAT_HOLDERS : Fld := ⟨0x03, 0x020, 16, 8⟩
def PWR_STAT_PADHELD : Fld := ⟨0x03, 0x020, 8, 3⟩
def PWR_STAT_PHASE : Fld := ⟨0x03, 0x020, 0, 2⟩
def PWR_SLEEP_TARGET : Fld := ⟨0x03, 0x024, 0, 2⟩
def PWR_CFG_ENTRY_TO : Fld := ⟨0x03, 0x028, 16, 8⟩
def PWR_CFG_WRCLASS : Fld := ⟨0x03, 0x028, 6, 2⟩
def PWR_CFG_WREP_ALL : Fld := ⟨0x03, 0x028, 4, 1⟩
def PWR_CFG_AUTOREL : Fld := ⟨0x03, 0x028, 3, 1⟩
def PWR_CFG_WAKE_POL : Fld := ⟨0x03, 0x028, 2, 1⟩
def PWR_WAKE_EN_ALM1 : Fld := ⟨0x03, 0x02C, 2, 1⟩
def PWR_WAKE_EN_ALM0 : Fld := ⟨0x03, 0x02C, 1, 1⟩
def PWR_WAKE_EN_WAKEPIN : Fld := ⟨0x03, 0x02C, 0, 1⟩
def PWR_VSLEEP_TARGET : Fld := ⟨0x03, 0x030, 0, 12⟩
def PWR_WAKE_SRC_ENTRY_ABORTED : Fld := ⟨0x03, 0x034, 31, 1⟩
def PWR_WAKE_SRC_FROM : Fld := ⟨0x03, 0x034, 24, 4⟩
def PWR_WAKE_SRC_SOURCE : Fld := ⟨0x03, 0x034, 20, 4⟩
def PWR_WAKE_SRC_DETAIL : Fld := ⟨0x03, 0x034, 0, 16⟩
def PWR_WAKE_TIME_LO_TIME : Fld := ⟨0x03, 0x038, 0, 32⟩
def PWR_WAKE_TIME_HI_TIME : Fld := ⟨0x03, 0x03C, 0, 32⟩
def PWR_PADREL_GROUP : Fld := ⟨0x03, 0x040, 0, 3⟩
def PWR_RET_FAIL_COUNT : Fld := ⟨0x03, 0x044, 24, 8⟩
def PWR_RET_FAIL_BANK : Fld := ⟨0x03, 0x044, 0, 16⟩
def PWR_CNT_ABORT_OVF : Fld := ⟨0x03, 0x048, 31, 1⟩
def PWR_CNT_ABORT_COUNT : Fld := ⟨0x03, 0x048, 0, 16⟩
def SRL_CFG_RATE : Fld := ⟨0x04, 0x020, 8, 2⟩
def SRL_CFG_TIMEOUT : Fld := ⟨0x04, 0x020, 0, 8⟩
def SRL_REQ_CMD : Fld := ⟨0x04, 0x024, 12, 4⟩
def SRL_REQ_VALUE : Fld := ⟨0x04, 0x024, 0, 12⟩
def SRL_STAT_BUSY : Fld := ⟨0x04, 0x028, 31, 1⟩
def SRL_STAT_PEND : Fld := ⟨0x04, 0x028, 30, 1⟩
def SRL_STAT_SRAK : Fld := ⟨0x04, 0x028, 29, 1⟩
def SRL_STAT_TARGET : Fld := ⟨0x04, 0x028, 16, 12⟩
def SRL_STAT_RESULT : Fld := ⟨0x04, 0x028, 14, 2⟩
def SRL_VSUP_VSUP : Fld := ⟨0x04, 0x02C, 0, 12⟩
def SRL_CNT_NOACK_OVF : Fld := ⟨0x04, 0x030, 31, 1⟩
def SRL_CNT_NOACK_COUNT : Fld := ⟨0x04, 0x030, 0, 16⟩
def DPWR_CFG_OFF_IDLE : Fld := ⟨0x12, 0x020, 16, 16⟩
def DPWR_CFG_KEEP_RUN : Fld := ⟨0x12, 0x020, 0, 1⟩
def DPWR_STAT_OVF : Fld := ⟨0x12, 0x024, 24, 1⟩
def DPWR_STAT_WAKES : Fld := ⟨0x12, 0x024, 8, 16⟩
def DPWR_STAT_WATCHDOM : Fld := ⟨0x12, 0x024, 2, 1⟩
def DPWR_STAT_PSTATE : Fld := ⟨0x12, 0x024, 0, 2⟩
def CAL_CFG_MAXDEFER : Fld := ⟨0x12, 0x020, 24, 8⟩
def CAL_CFG_LEVEL : Fld := ⟨0x12, 0x020, 16, 8⟩
def CAL_CFG_CLASS : Fld := ⟨0x12, 0x020, 14, 2⟩
def CAL_CFG_REPORT_ALL : Fld := ⟨0x12, 0x020, 13, 1⟩
def CAL_CFG_AUTO : Fld := ⟨0x12, 0x020, 12, 1⟩
def CAL_CFG_DT : Fld := ⟨0x12, 0x020, 0, 6⟩
def CAL_REQ_KIND : Fld := ⟨0x12, 0x024, 28, 4⟩
def CAL_REQ_DIE : Fld := ⟨0x12, 0x024, 24, 3⟩
def CAL_REQ_MASK : Fld := ⟨0x12, 0x024, 0, 10⟩
def CAL_STAT_DUE : Fld := ⟨0x12, 0x028, 16, 8⟩
def CAL_STAT_RUNNING : Fld := ⟨0x12, 0x028, 8, 8⟩
def CAL_STAT_AGED : Fld := ⟨0x12, 0x028, 0, 8⟩
def CAL_SAVE_SAVE : Fld := ⟨0x12, 0x02C, 31, 1⟩
def CAL_SAVE_BUSY : Fld := ⟨0x12, 0x02C, 30, 1⟩
def CAL_SAVE_DIRTY : Fld := ⟨0x12, 0x02C, 29, 1⟩
def CAL_SAVE_OVF : Fld := ⟨0x12, 0x02C, 16, 1⟩
def CAL_SAVE_COUNT : Fld := ⟨0x12, 0x02C, 0, 16⟩
def CAL_REF_REFRES_DEV : Fld := ⟨0x12, 0x030, 16, 16⟩
def CAL_REF_REFV_DEV : Fld := ⟨0x12, 0x030, 0, 16⟩
def CAL_ANCHOR_TEMP : Fld := ⟨0x12, 0x034, 16, 16⟩
def CAL_ANCHOR_RESULT : Fld := ⟨0x12, 0x034, 12, 4⟩
def CAL_ANCHOR_POINTS : Fld := ⟨0x12, 0x034, 0, 4⟩
def CAL_CNT_REJECT_OVF : Fld := ⟨0x12, 0x040, 31, 1⟩
def CAL_CNT_REJECT_COUNT : Fld := ⟨0x12, 0x040, 0, 16⟩
def CAL_CNT_ABORT_OVF : Fld := ⟨0x12, 0x044, 31, 1⟩
def CAL_CNT_ABORT_COUNT : Fld := ⟨0x12, 0x044, 0, 16⟩
def CAL_CNT_UNREPORTED_OVF : Fld := ⟨0x12, 0x048, 31, 1⟩
def CAL_CNT_UNREPORTED_COUNT : Fld := ⟨0x12, 0x048, 0, 16⟩
def CAL_LIM_A_MAX (n : Nat) : Fld := ⟨0x12, 0x100 + 8 * n, 16, 16⟩
def CAL_LIM_A_MIN (n : Nat) : Fld := ⟨0x12, 0x100 + 8 * n, 0, 16⟩
def CAL_LIM_B_STEP (n : Nat) : Fld := ⟨0x12, 0x104 + 8 * n, 0, 16⟩
def DCAL_TEMP_TEMP : Fld := ⟨0x0F, 0x020, 0, 16⟩
def DCAL_DUE_DIE : Fld := ⟨0x0F, 0x024, 10, 1⟩
def DCAL_DUE_SLICES : Fld := ⟨0x0F, 0x024, 0, 10⟩
def DCAL_RUN_DIE : Fld := ⟨0x0F, 0x028, 10, 1⟩
def DCAL_RUN_SLICES : Fld := ⟨0x0F, 0x028, 0, 10⟩
def DCAL_SL_TEMP (n : Nat) : Fld := ⟨0x0F, 0x040 + 4 * n, 16, 16⟩
def DCAL_SL_RESULT (n : Nat) : Fld := ⟨0x0F, 0x040 + 4 * n, 12, 4⟩
def DCAL_SL_POINTS (n : Nat) : Fld := ⟨0x0F, 0x040 + 4 * n, 0, 4⟩
def DCAL_DIE_TEMP : Fld := ⟨0x0F, 0x068, 16, 16⟩
def DCAL_DIE_RESULT : Fld := ⟨0x0F, 0x068, 12, 4⟩
def DCAL_DIE_POINTS : Fld := ⟨0x0F, 0x068, 0, 4⟩
def BST_CFG_PERIOD : Fld := ⟨0x13, 0x020, 24, 8⟩
def BST_CFG_CLASS : Fld := ⟨0x13, 0x020, 14, 2⟩
def BST_CFG_REPORT_ALL : Fld := ⟨0x13, 0x020, 13, 1⟩
def BST_CFG_STARTUP : Fld := ⟨0x13, 0x020, 12, 1⟩
def BST_CFG_TSM_ANCHOR : Fld := ⟨0x13, 0x020, 1, 1⟩
def BST_CFG_TSM_RADIO : Fld := ⟨0x13, 0x020, 0, 1⟩
def BST_REQ_KIND : Fld := ⟨0x13, 0x024, 28, 4⟩
def BST_REQ_DIE : Fld := ⟨0x13, 0x024, 24, 3⟩
def BST_REQ_UNIT : Fld := ⟨0x13, 0x024, 0, 10⟩
def BST_STAT_STARTUP_DONE : Fld := ⟨0x13, 0x028, 31, 1⟩
def BST_STAT_STARTUP_RESULT : Fld := ⟨0x13, 0x028, 24, 4⟩
def BST_STAT_PENDING : Fld := ⟨0x13, 0x028, 16, 8⟩
def BST_STAT_RUNNING : Fld := ⟨0x13, 0x028, 8, 8⟩
def BST_STAT_FAILED : Fld := ⟨0x13, 0x028, 0, 8⟩
def BST_CNT_FAIL_OVF : Fld := ⟨0x13, 0x040, 31, 1⟩
def BST_CNT_FAIL_COUNT : Fld := ⟨0x13, 0x040, 0, 16⟩
def BST_CNT_ABORT_OVF : Fld := ⟨0x13, 0x044, 31, 1⟩
def BST_CNT_ABORT_COUNT : Fld := ⟨0x13, 0x044, 0, 16⟩
def DBST_CFG_TSM_SLICE : Fld := ⟨0x10, 0x020, 0, 1⟩
def DBST_SL_RESULT (n : Nat) : Fld := ⟨0x10, 0x040 + 4 * n, 28, 4⟩
def DBST_SL_FIRST (n : Nat) : Fld := ⟨0x10, 0x040 + 4 * n, 16, 8⟩
def DBST_SL_AGE (n : Nat) : Fld := ⟨0x10, 0x040 + 4 * n, 0, 16⟩
def DBST_DIE_RESULT : Fld := ⟨0x10, 0x068, 28, 4⟩
def DBST_DIE_FIRST : Fld := ⟨0x10, 0x068, 16, 8⟩
def DBST_DIE_AGE : Fld := ⟨0x10, 0x068, 0, 16⟩
def DRN_CFG_AUTO : Fld := ⟨0x15, 0x020, 0, 1⟩
def DRN_SWAP_OP : Fld := ⟨0x15, 0x024, 30, 2⟩
def DRN_SWAP_DIE : Fld := ⟨0x15, 0x024, 24, 3⟩
def DRN_SWAP_PORT : Fld := ⟨0x15, 0x024, 8, 3⟩
def DRN_SWAP_SLICE : Fld := ⟨0x15, 0x024, 0, 4⟩
def DRN_STAT_BUSY : Fld := ⟨0x15, 0x028, 31, 1⟩
def DRN_STAT_NVPEND : Fld := ⟨0x15, 0x028, 30, 1⟩
def DRN_STAT_OUT : Fld := ⟨0x15, 0x028, 16, 6⟩
def DRN_STAT_SPARES : Fld := ⟨0x15, 0x028, 8, 8⟩
def DRN_ROWS_FIELD : Fld := ⟨0x15, 0x02C, 24, 8⟩
def DRN_ROWS_FACTORY : Fld := ⟨0x15, 0x02C, 16, 8⟩
def DRN_ROWS_BANK_OUT : Fld := ⟨0x15, 0x02C, 0, 16⟩
def DRN_CNT_SWAP_OVF : Fld := ⟨0x15, 0x040, 31, 1⟩
def DRN_CNT_SWAP_COUNT : Fld := ⟨0x15, 0x040, 0, 16⟩
def DDRN_SLICES_FACTORY : Fld := ⟨0x11, 0x020, 20, 10⟩
def DDRN_SLICES_DARNED : Fld := ⟨0x11, 0x020, 10, 10⟩
def DDRN_SLICES_ELIGIBLE : Fld := ⟨0x11, 0x020, 0, 10⟩
def DDRN_P_NETFAULT (n : Nat) : Fld := ⟨0x11, 0x040 + 4 * n, 31, 1⟩
def DDRN_P_OUT (n : Nat) : Fld := ⟨0x11, 0x040 + 4 * n, 5, 1⟩
def DDRN_P_VALID (n : Nat) : Fld := ⟨0x11, 0x040 + 4 * n, 4, 1⟩
def DDRN_P_SLICE (n : Nat) : Fld := ⟨0x11, 0x040 + 4 * n, 0, 4⟩
def DEV_ID_PART : Fld := ⟨0x00, 0x020, 16, 16⟩
def DEV_ID_ANCHOR_REV : Fld := ⟨0x00, 0x020, 8, 8⟩
def DEV_ID_FIELD_REV : Fld := ⟨0x00, 0x020, 0, 8⟩
def DEV_RESET_FRESH : Fld := ⟨0x00, 0x024, 31, 1⟩
def DEV_RESET_CAUSE : Fld := ⟨0x00, 0x024, 0, 4⟩
def DEV_PROFILE_PINS : Fld := ⟨0x00, 0x028, 30, 2⟩
def DEV_PROFILE_ACTIVE : Fld := ⟨0x00, 0x028, 28, 2⟩
def DEV_PROFILE_FALLBACK : Fld := ⟨0x00, 0x028, 27, 1⟩
def DEV_PROFILE_NONE : Fld := ⟨0x00, 0x028, 26, 1⟩
def DEV_PROFILE_LOADING : Fld := ⟨0x00, 0x028, 25, 1⟩
def DEV_PROFILE_LAYOUT_KEPT : Fld := ⟨0x00, 0x028, 24, 1⟩
def DEV_PROFILE_LOCK_SKIPPED : Fld := ⟨0x00, 0x028, 23, 1⟩
def DEV_PROFILE_LASTRES : Fld := ⟨0x00, 0x028, 0, 8⟩
def DEV_IMAGE_ID : Fld := ⟨0x00, 0x02C, 0, 32⟩
def DEV_LOAD_SLOT : Fld := ⟨0x00, 0x030, 0, 2⟩
def NVS_CFG_LOAD_TO : Fld := ⟨0x14, 0x020, 0, 8⟩
def NVS_CMD_OP : Fld := ⟨0x14, 0x024, 28, 4⟩
def NVS_CMD_KEY : Fld := ⟨0x14, 0x024, 8, 8⟩
def NVS_CMD_SLOT : Fld := ⟨0x14, 0x024, 0, 2⟩
def NVS_ADDR_SLOT : Fld := ⟨0x14, 0x028, 16, 2⟩
def NVS_ADDR_OFFSET : Fld := ⟨0x14, 0x028, 0, 16⟩
def NVS_WDATA_DATA : Fld := ⟨0x14, 0x02C, 0, 32⟩
def NVS_RDATA_DATA : Fld := ⟨0x14, 0x030, 0, 32⟩
def NVS_STAT_BUSY : Fld := ⟨0x14, 0x034, 31, 1⟩
def NVS_STAT_REG_LOCKED : Fld := ⟨0x14, 0x034, 30, 1⟩
def NVS_STAT_DEBUG_LOCKED : Fld := ⟨0x14, 0x034, 29, 1⟩
def NVS_STAT_OTP_TORN : Fld := ⟨0x14, 0x034, 28, 1⟩
def NVS_STAT_WBUF : Fld := ⟨0x14, 0x034, 8, 6⟩
def NVS_STAT_ERASED : Fld := ⟨0x14, 0x034, 4, 4⟩
def NVS_STAT_VALID : Fld := ⟨0x14, 0x034, 0, 4⟩
def NVS_WEAR_SPARES : Fld := ⟨0x14, 0x038, 24, 8⟩
def NVS_WEAR_WORN : Fld := ⟨0x14, 0x038, 16, 8⟩
def NVS_WEAR_OVF : Fld := ⟨0x14, 0x038, 15, 1⟩
def NVS_WEAR_SUSPENDS : Fld := ⟨0x14, 0x038, 0, 15⟩
def NVS_STAGE_WORD (n : Nat) : Fld := ⟨0x14, 0x100 + 4 * n, 0, 32⟩
def GPP_DIR_DIR : Fld := ⟨0x16, 0x020, 0, 8⟩
def GPP_OUT_LEVEL : Fld := ⟨0x16, 0x024, 0, 8⟩
def GPP_MODE_PULLUP : Fld := ⟨0x16, 0x028, 16, 8⟩
def GPP_MODE_PULLDN : Fld := ⟨0x16, 0x028, 8, 8⟩
def GPP_MODE_OD : Fld := ⟨0x16, 0x028, 0, 8⟩
def GPP_IN_LEVEL : Fld := ⟨0x16, 0x02C, 0, 8⟩

end F

end Sys2Proof.Machine
end

