-- ==== Sys2Proof/Machine/RegTable.lean ====
section
/-! DEFINITION. The register tables of the manual: every register of every page with its fields, access codes and
reset values, taken field by field from the register descriptions of chapters 01 to 21. A reset value that the tables
give as "per part", "per map", "strap" or "from NV" is 0 here: such a field is a computed view (Machine/View.lean). -/

namespace Sys2Proof.Machine

/-- The access codes of the Conventions (chapter 00, table Access codes). -/
inductive Access where
  | ro | rw | rws | w1c | w1s | wo | rh
  deriving DecidableEq, Repr

/-- One field row of a register table. -/
structure FieldRow where
  hi : Nat
  lo : Nat
  access : Access
  reset : Nat
  name : String
  deriving DecidableEq, Repr

/-- One register description: its name, first offset, stride and number (1 when it is not an array), the words its
entries reset to when they differ from each other, and its fields. -/
structure RegRow where
  name : String
  off : Nat
  stride : Nat
  count : Nat
  words : List Nat
  fields : List FieldRow
  deriving DecidableEq, Repr

namespace RegTable

/-- The page header (chapter 02): PG_ID, PG_CTRL, PG_STAT, PG_EVT, PG_EVT_EN, PG_FIRSTERR and PG_SEQ. `en` is the
reset value of EN (R88), `evt` the event bits the page defines, `type`, `die` and `slice` the fields of PG_ID. A page
whose EN resets to 1 is in STATE ON when the reset sequence has ended. -/
def header (type die slice en evt : Nat) : List RegRow := [
  ⟨"PG_ID", 0x000, 0, 1, [], [⟨31, 16, .ro, type, "TYPE"⟩, ⟨15, 12, .ro, die, "DIE"⟩, ⟨11, 8, .ro, slice, "SLICE"⟩,
    ⟨7, 0, .ro, 1, "LAYOUT"⟩]⟩,
  ⟨"PG_CTRL", 0x004, 0, 1, [], [⟨4, 4, .rw, 0, "TEST"⟩, ⟨3, 3, .w1s, 0, "LOCK"⟩, ⟨2, 2, .rw, 0, "DRAIN"⟩,
    ⟨1, 1, .w1s, 0, "COMMIT"⟩, ⟨0, 0, .rw, en, "EN"⟩]⟩,
  ⟨"PG_STAT", 0x008, 0, 1, [], [⟨11, 11, .ro, 1, "QUIET"⟩, ⟨10, 10, .ro, 0, "RESTART_PEND"⟩,
    ⟨9, 9, .ro, 0, "COMMIT_PEND"⟩, ⟨8, 8, .ro, 0, "SHADOW_DIRTY"⟩, ⟨3, 0, .ro, 2 * en, "STATE"⟩]⟩,
  ⟨"PG_EVT", 0x00C, 0, 1, [], (List.range 32).filterMap (fun b =>
    if evt.testBit b then some ⟨b, b, .w1c, 0, "EVT"⟩ else none)⟩,
  ⟨"PG_EVT_EN", 0x010, 0, 1, [], (List.range 32).filterMap (fun b =>
    if evt.testBit b then some ⟨b, b, .rw, 0, "EN"⟩ else none)⟩,
  ⟨"PG_FIRSTERR", 0x014, 0, 1, [], [⟨31, 31, .ro, 0, "OVF"⟩, ⟨30, 16, .ro, 0, "COUNT"⟩, ⟨15, 0, .ro, 0, "CODE"⟩]⟩,
  ⟨"PG_SEQ", 0x018, 0, 1, [], [⟨31, 0, .ro, 0, "SEQ"⟩]⟩]

/-- Registers of the DEV page (anchor page 0x00, chapter 20). -/
def dev : List RegRow := [
  ⟨"DEV_ID", 0x020, 0, 1, [], [⟨31, 16, .ro, 0, "PART"⟩, ⟨15, 8, .ro, 0xA1, "ANCHOR_REV"⟩,
    ⟨7, 0, .ro, 0xA1, "FIELD_REV"⟩]⟩,
  ⟨"DEV_RESET", 0x024, 0, 1, [], [⟨31, 31, .w1c, 1, "FRESH"⟩, ⟨3, 0, .ro, 0, "CAUSE"⟩]⟩,
  ⟨"DEV_PROFILE", 0x028, 0, 1, [], [⟨31, 30, .ro, 0, "PINS"⟩, ⟨29, 28, .ro, 0, "ACTIVE"⟩,
    ⟨27, 27, .ro, 0, "FALLBACK"⟩, ⟨26, 26, .ro, 0, "NONE"⟩, ⟨25, 25, .ro, 0, "LOADING"⟩,
    ⟨24, 24, .ro, 0, "LAYOUT_KEPT"⟩, ⟨23, 23, .ro, 0, "LOCK_SKIPPED"⟩, ⟨7, 0, .ro, 0, "LASTRES"⟩]⟩,
  ⟨"DEV_IMAGE", 0x02C, 0, 1, [], [⟨31, 0, .ro, 0, "ID"⟩]⟩,
  ⟨"DEV_LOAD", 0x030, 0, 1, [], [⟨1, 0, .wo, 0, "SLOT"⟩]⟩]

/-- Registers of the TBS page (anchor page 0x01, chapter 01). -/
def tbs : List RegRow := [
  ⟨"TBS_TIME_LO", 0x020, 0, 1, [], [⟨31, 0, .rh, 0, "TIME_LO"⟩]⟩,
  ⟨"TBS_TIME_HI", 0x024, 0, 1, [], [⟨31, 0, .ro, 0, "TIME_HI"⟩]⟩,
  ⟨"TBS_INC_INT", 0x028, 0, 1, [], [⟨9, 0, .rw, 0x33B, "INT"⟩]⟩,
  ⟨"TBS_INC_FRAC", 0x02C, 0, 1, [], [⟨31, 0, .rw, 0xA3000000, "FRAC"⟩]⟩,
  ⟨"TBS_MEAS", 0x030, 0, 1, [], [⟨31, 31, .ro, 0, "VALID"⟩, ⟨24, 0, .ro, 0, "MEAS"⟩]⟩,
  ⟨"TBS_CTRL", 0x034, 0, 1, [], [⟨2, 2, .rw, 0, "ALM1_EN"⟩, ⟨1, 1, .rw, 0, "ALM0_EN"⟩, ⟨0, 0, .rw, 0, "AUTOTRIM"⟩]⟩,
  ⟨"TBS_ALM0_LO", 0x040, 0, 1, [], [⟨31, 0, .rw, 0, "ALM"⟩]⟩,
  ⟨"TBS_ALM0_HI", 0x044, 0, 1, [], [⟨31, 0, .rw, 0, "ALM"⟩]⟩,
  ⟨"TBS_ALM1_LO", 0x048, 0, 1, [], [⟨31, 0, .rw, 0, "ALM"⟩]⟩,
  ⟨"TBS_ALM1_HI", 0x04C, 0, 1, [], [⟨31, 0, .rw, 0, "ALM"⟩]⟩]

/-- Registers of the SEM page (anchor page 0x02, chapter 01). -/
def sem : List RegRow := [
  ⟨"SEM_DIES", 0x020, 0, 1, [], [⟨30, 24, .ro, 0, "REROUTED"⟩, ⟨22, 16, .ro, 0, "LOCKED"⟩,
    ⟨14, 8, .ro, 0, "REACHABLE"⟩, ⟨6, 0, .ro, 0, "PRESENT"⟩]⟩,
  ⟨"SEM_CTRL", 0x024, 0, 1, [], [⟨8, 8, .rw, 1, "RETRAIN_EN"⟩, ⟨6, 0, .w1s, 0, "REJOIN"⟩]⟩,
  ⟨"SEM_SEAM", 0x040, 4, 8, [], [⟨24, 24, .w1c, 0, "OVF"⟩, ⟨23, 16, .ro, 0, "CRC_ERR"⟩, ⟨15, 8, .ro, 0, "RESENT"⟩,
    ⟨7, 4, .ro, 0, "STREAMS"⟩, ⟨3, 3, .ro, 0, "FAULT_CCW"⟩, ⟨2, 2, .ro, 0, "FAULT_CW"⟩, ⟨1, 0, .ro, 0, "STATE"⟩]⟩,
  ⟨"SEM_SYNC_LATE", 0x060, 0, 1, [], [⟨31, 31, .w1c, 0, "OVF"⟩, ⟨15, 0, .ro, 0, "COUNT"⟩]⟩,
  ⟨"SEM_RETRAIN", 0x064, 0, 1, [], [⟨15, 0, .rw, 0x64, "PERIOD"⟩]⟩]

/-- Registers of the PWR page (anchor page 0x03, chapter 17). -/
def pwr : List RegRow := [
  ⟨"PWR_STAT", 0x020, 0, 1, [], [⟨23, 16, .ro, 0, "HOLDERS"⟩, ⟨10, 8, .ro, 0, "PADHELD"⟩, ⟨1, 0, .ro, 0, "PHASE"⟩]⟩,
  ⟨"PWR_SLEEP", 0x024, 0, 1, [], [⟨1, 0, .wo, 0, "TARGET"⟩]⟩,
  ⟨"PWR_CFG", 0x028, 0, 1, [], [⟨23, 16, .rws, 0x64, "ENTRY_TO"⟩, ⟨7, 6, .rws, 2, "WRCLASS"⟩,
    ⟨4, 4, .rws, 0, "WREP_ALL"⟩, ⟨3, 3, .rws, 0, "AUTOREL"⟩, ⟨2, 2, .rws, 1, "WAKE_POL"⟩]⟩,
  ⟨"PWR_WAKE_EN", 0x02C, 0, 1, [], [⟨2, 2, .rws, 0, "ALM1"⟩, ⟨1, 1, .rws, 0, "ALM0"⟩, ⟨0, 0, .rws, 1, "WAKEPIN"⟩]⟩,
  ⟨"PWR_VSLEEP", 0x030, 0, 1, [], [⟨11, 0, .rws, 0x672, "TARGET"⟩]⟩,
  ⟨"PWR_WAKE_SRC", 0x034, 0, 1, [], [⟨31, 31, .ro, 0, "ENTRY_ABORTED"⟩, ⟨27, 24, .ro, 0, "FROM"⟩,
    ⟨23, 20, .ro, 0, "SOURCE"⟩, ⟨15, 0, .ro, 0, "DETAIL"⟩]⟩,
  ⟨"PWR_WAKE_TIME_LO", 0x038, 0, 1, [], [⟨31, 0, .rh, 0, "TIME"⟩]⟩,
  ⟨"PWR_WAKE_TIME_HI", 0x03C, 0, 1, [], [⟨31, 0, .ro, 0, "TIME"⟩]⟩,
  ⟨"PWR_PADREL", 0x040, 0, 1, [], [⟨2, 0, .w1s, 0, "GROUP"⟩]⟩,
  ⟨"PWR_RET_FAIL", 0x044, 0, 1, [], [⟨31, 24, .ro, 0, "COUNT"⟩, ⟨15, 0, .ro, 0xFFFF, "BANK"⟩]⟩,
  ⟨"PWR_CNT_ABORT", 0x048, 0, 1, [], [⟨31, 31, .w1c, 0, "OVF"⟩, ⟨15, 0, .ro, 0, "COUNT"⟩]⟩]

/-- Registers of the SRL page (anchor page 0x04, chapter 17). -/
def srl : List RegRow := [
  ⟨"SRL_CFG", 0x020, 0, 1, [], [⟨9, 8, .rws, 1, "RATE"⟩, ⟨7, 0, .rws, 0x14, "TIMEOUT"⟩]⟩,
  ⟨"SRL_REQ", 0x024, 0, 1, [], [⟨15, 12, .wo, 0, "CMD"⟩, ⟨11, 0, .wo, 0, "VALUE"⟩]⟩,
  ⟨"SRL_STAT", 0x028, 0, 1, [], [⟨31, 31, .ro, 0, "BUSY"⟩, ⟨30, 30, .ro, 0, "PEND"⟩, ⟨29, 29, .ro, 0, "SRAK"⟩,
    ⟨27, 16, .ro, 0, "TARGET"⟩, ⟨15, 14, .ro, 0, "RESULT"⟩]⟩,
  ⟨"SRL_VSUP", 0x02C, 0, 1, [], [⟨11, 0, .ro, 0, "VSUP"⟩]⟩,
  ⟨"SRL_CNT_NOACK", 0x030, 0, 1, [], [⟨31, 31, .w1c, 0, "OVF"⟩, ⟨15, 0, .ro, 0, "COUNT"⟩]⟩]

/-- Registers of the ICU page (anchor page 0x05, chapter 16). -/
def icu : List RegRow := [
  ⟨"ICU_STAT", 0x020, 0, 1, [], [⟨24, 16, .ro, 0, "PENDING"⟩, ⟨3, 0, .ro, 0, "LINES"⟩]⟩,
  ⟨"ICU_T_CLAIM", 0x040, 32, 4, [], [⟨25, 16, .ro, 0, "SOURCE"⟩, ⟨8, 0, .rw, 0, "SLOT"⟩]⟩,
  ⟨"ICU_T_CFG", 0x044, 32, 4, [], [⟨31, 31, .rw, 0, "ASLEEP"⟩, ⟨30, 30, .rw, 0, "IDLE"⟩, ⟨15, 0, .rw, 0, "MODGAP"⟩]⟩,
  ⟨"ICU_T_STAT", 0x048, 32, 4, [], [⟨31, 31, .ro, 0, "LINE"⟩, ⟨30, 30, .ro, 0, "HOLD"⟩, ⟨24, 16, .ro, 0, "INSVC"⟩,
    ⟨8, 0, .ro, 0, "TOP"⟩]⟩,
  ⟨"ICU_PEND", 0x100, 4, 16, [], [⟨31, 0, .ro, 0, "SLOTS"⟩]⟩,
  ⟨"ICU_SVC", 0x140, 4, 16, [], [⟨31, 0, .ro, 0, "SLOTS"⟩]⟩,
  ⟨"ICU_SRC", 0x400, 4, 420, [], [⟨31, 31, .w1c, 0, "OVF"⟩, ⟨30, 30, .ro, 0, "LEVEL"⟩, ⟨29, 29, .ro, 0, "PEND"⟩,
    ⟨28, 28, .ro, 0, "INSVC"⟩, ⟨27, 26, .ro, 0, "SVCT"⟩, ⟨23, 20, .rw, 0, "TARGET"⟩, ⟨19, 12, .rw, 0, "COUNT"⟩,
    ⟨8, 0, .rw, 0, "SLOT"⟩]⟩]

/-- Registers of the HSP page (anchor page 0x06, chapter 03). -/
def hsp : List RegRow := [
  ⟨"HSP_CFG", 0x020, 0, 1, [], [⟨5, 0, .rws, 8, "DUMMY"⟩]⟩,
  ⟨"HSP_LASTERR", 0x024, 0, 1, [], [⟨15, 0, .ro, 0, "CODE"⟩]⟩,
  ⟨"HSP_CNT_PARTIAL", 0x028, 0, 1, [], [⟨31, 31, .w1c, 0, "OVF"⟩, ⟨15, 0, .ro, 0, "COUNT"⟩]⟩,
  ⟨"HSP_CNT_REJECT", 0x02C, 0, 1, [], [⟨31, 31, .w1c, 0, "OVF"⟩, ⟨15, 0, .ro, 0, "COUNT"⟩]⟩,
  ⟨"HSP_STAT", 0x030, 0, 1, [], [⟨9, 9, .w1c, 0, "DUMMY_RAISED"⟩, ⟨8, 8, .ro, 0, "MODE"⟩,
    ⟨5, 0, .ro, 8, "DUMMY_USED"⟩]⟩]

/-- Registers of the HTW page (anchor page 0x07, chapter 04). -/
def htw : List RegRow := [
  ⟨"HTW_CFG", 0x020, 0, 1, [], [⟨15, 14, .rws, 1, "ATTN_SPEED"⟩, ⟨13, 13, .rws, 0, "ARB_MODE"⟩,
    ⟨5, 0, .rws, 0x19, "TLOW"⟩]⟩,
  ⟨"HTW_HOSTADDR", 0x024, 0, 1, [], [⟨6, 0, .rws, 8, "ADDR"⟩]⟩,
  ⟨"HTW_ATTN_EN", 0x028, 0, 1, [], [⟨4, 4, .rws, 0, "URGENT"⟩, ⟨3, 3, .rws, 0, "FLOW"⟩, ⟨2, 2, .rws, 0, "IRQ"⟩,
    ⟨1, 1, .rws, 0, "HAMPER_DATA"⟩, ⟨0, 0, .rws, 0, "READY"⟩]⟩,
  ⟨"HTW_STAT", 0x02C, 0, 1, [], [⟨22, 16, .ro, 0, "OWN_ADDR"⟩, ⟨12, 8, .ro, 0, "ATTN_PEND"⟩,
    ⟨7, 7, .ro, 0, "CTRL"⟩, ⟨6, 6, .w1c, 0, "SDA_LOW"⟩, ⟨5, 5, .w1c, 0, "SCL_LOW"⟩, ⟨4, 1, .ro, 0, "ATTEMPT"⟩]⟩,
  ⟨"HTW_LASTERR", 0x030, 0, 1, [], [⟨15, 0, .ro, 0, "CODE"⟩]⟩,
  ⟨"HTW_CNT_PARTIAL", 0x034, 0, 1, [], [⟨31, 31, .w1c, 0, "OVF"⟩, ⟨15, 0, .ro, 0, "COUNT"⟩]⟩,
  ⟨"HTW_CNT_PROTO", 0x038, 0, 1, [], [⟨31, 31, .w1c, 0, "OVF"⟩, ⟨15, 0, .ro, 0, "COUNT"⟩]⟩,
  ⟨"HTW_CNT_ARB", 0x03C, 0, 1, [], [⟨31, 31, .w1c, 0, "OVF"⟩, ⟨15, 0, .ro, 0, "COUNT"⟩]⟩,
  ⟨"HTW_CNT_WAKENACK", 0x040, 0, 1, [], [⟨31, 31, .w1c, 0, "OVF"⟩, ⟨15, 0, .ro, 0, "COUNT"⟩]⟩]

/-- Registers of the HMP page (anchor page 0x08, chapter 15). -/
def hmp : List RegRow := [
  ⟨"HMP_LAYOUT", 0x020, 0, 1, [], [⟨28, 24, .rws, 0xD, "K3"⟩, ⟨20, 16, .rws, 0xD, "K2"⟩, ⟨12, 8, .rws, 0xF, "K1"⟩,
    ⟨4, 0, .rws, 0xE, "K0"⟩]⟩,
  ⟨"HMP_HIGH", 0x024, 0, 1, [], [⟨16, 0, .rws, 0xC000, "LEVEL"⟩]⟩,
  ⟨"HMP_LOW", 0x028, 0, 1, [], [⟨16, 0, .rws, 0x8000, "LEVEL"⟩]⟩,
  ⟨"HMP_FILL", 0x02C, 0, 1, [], [⟨18, 18, .ro, 0, "FLOWU"⟩, ⟨17, 17, .ro, 0, "FLOWA"⟩, ⟨16, 0, .ro, 0, "FILL"⟩]⟩,
  ⟨"HMP_MARK_DATA", 0x030, 0, 1, [], [⟨31, 0, .rw, 0, "DATA"⟩]⟩,
  ⟨"HMP_MARK", 0x034, 0, 1, [], [⟨1, 0, .wo, 0, "CLASS"⟩]⟩,
  ⟨"HMP_SYSQ", 0x038, 0, 1, [], [⟨31, 31, .w1c, 0, "OVF"⟩, ⟨15, 8, .ro, 0, "MERGED"⟩, ⟨4, 0, .ro, 0, "PENDING"⟩]⟩,
  ⟨"HMP_C_CFG", 0x040, 32, 4, [], [⟨9, 0, .rws, 0, "CUT"⟩]⟩,
  ⟨"HMP_C_FREE", 0x044, 32, 4, [], [⟨16, 0, .ro, 0, "WORDS"⟩]⟩,
  ⟨"HMP_C_RES", 0x048, 32, 4, [], [⟨16, 0, .ro, 0, "WORDS"⟩]⟩,
  ⟨"HMP_C_OCC", 0x04C, 32, 4, [], [⟨16, 0, .ro, 0, "WORDS"⟩]⟩,
  ⟨"HMP_C_SEQ", 0x050, 32, 4, [], [⟨31, 16, .ro, 0, "NEXT_RD"⟩, ⟨15, 0, .ro, 0, "NEXT_WR"⟩]⟩,
  ⟨"HMP_C_STAT", 0x054, 32, 4, [], [⟨31, 31, .ro, 0, "FROZEN"⟩, ⟨30, 30, .ro, 0, "OPEN_HSP"⟩,
    ⟨29, 29, .ro, 0, "OPEN_HTW"⟩, ⟨28, 28, .ro, 0, "WRITING"⟩, ⟨16, 0, .ro, 0, "DELIV"⟩]⟩,
  ⟨"HMP_C_LOST", 0x058, 32, 4, [], [⟨31, 31, .w1c, 0, "OVF"⟩, ⟨15, 0, .ro, 0, "COUNT"⟩]⟩]

/-- Registers of the TKT page (anchor page 0x09, chapter 15). -/
def tkt : List RegRow := [
  ⟨"TKT_STAGE", 0x020, 4, 4, [], [⟨31, 0, .rws, 0, "WORD"⟩]⟩,
  ⟨"TKT_OP", 0x030, 0, 1, [], [⟨31, 28, .rws, 0, "OP"⟩, ⟨13, 0, .rws, 0, "INDEX"⟩]⟩,
  ⟨"TKT_RESULT", 0x034, 0, 1, [], [⟨27, 24, .ro, 0, "RESULT"⟩, ⟨13, 0, .ro, 0, "INDEX"⟩]⟩,
  ⟨"TKT_FILL", 0x038, 0, 1, [], [⟨27, 16, .ro, 0, "FULLBKT"⟩, ⟨13, 0, .ro, 0, "USED"⟩]⟩,
  ⟨"TKT_SNAP", 0x03C, 0, 1, [], [⟨31, 31, .w1s, 0, "SAVE"⟩, ⟨30, 30, .w1s, 0, "LOAD"⟩, ⟨29, 29, .ro, 0, "BUSY"⟩,
    ⟨28, 28, .ro, 0, "VALID"⟩, ⟨11, 0, .ro, 0, "PROGRESS"⟩]⟩,
  ⟨"TKT_CNT_FULL", 0x040, 0, 1, [], [⟨31, 31, .w1c, 0, "OVF"⟩, ⟨15, 0, .ro, 0, "COUNT"⟩]⟩]

/-- Registers of the FCO page (anchor page 0x0A, chapter 06). -/
def fco : List RegRow := [
  ⟨"FCO_CTRL", 0x020, 0, 1, [], [⟨0, 0, .rws, 0, "GUARD_RX"⟩]⟩,
  ⟨"FCO_BUDGET", 0x024, 0, 1, [], [⟨11, 0, .rws, 0x9C4, "BUDGET"⟩]⟩,
  ⟨"FCO_FIELD", 0x028, 0, 1, [], [⟨27, 16, .ro, 0, "EFF"⟩, ⟨11, 0, .ro, 0, "USED"⟩]⟩,
  ⟨"FCO_LIMITS", 0x02C, 0, 1, [], [⟨27, 16, .ro, 0, "REG_CEIL"⟩, ⟨12, 0, .ro, 0, "SUPPLY"⟩]⟩,
  ⟨"FCO_THERM", 0x030, 0, 1, [], [⟨31, 31, .ro, 0, "STOPPED"⟩, ⟨27, 24, .ro, 0, "DIE"⟩, ⟨23, 16, .ro, 0, "TMAX"⟩,
    ⟨6, 0, .ro, 0x64, "FACTOR"⟩]⟩,
  ⟨"FCO_VSUP", 0x034, 0, 1, [], [⟨27, 16, .rws, 0x9C4, "RUN"⟩, ⟨11, 0, .rws, 0x672, "IDLE"⟩]⟩,
  ⟨"FCO_VSUP_CTL", 0x038, 0, 1, [], [⟨31, 31, .rws, 1, "AUTO"⟩, ⟨15, 0, .rws, 0x64, "HOLD"⟩]⟩,
  ⟨"FCO_WAKE", 0x03C, 0, 1, [], [⟨31, 16, .rws, 0x3E8, "IDLE"⟩, ⟨9, 0, .rws, 0x96, "LEAD"⟩]⟩,
  ⟨"FCO_AGE", 0x040, 0, 1, [], [⟨15, 0, .rws, 0x3E8, "SINGLE"⟩]⟩,
  ⟨"FCO_RUN", 0x044, 0, 1, [], [⟨26, 24, .wo, 0, "PRIO"⟩, ⟨18, 16, .wo, 0, "DIE"⟩, ⟨8, 0, .wo, 0, "INDEX"⟩]⟩,
  ⟨"FCO_ABORT", 0x048, 0, 1, [], [⟨18, 16, .wo, 0, "DIE"⟩, ⟨8, 0, .wo, 0, "INDEX"⟩]⟩,
  ⟨"FCO_QUEUE", 0x04C, 0, 1, [], [⟨28, 24, .ro, 0, "HOST"⟩, ⟨23, 16, .ro, 0, "CREDIT"⟩, ⟨15, 8, .ro, 0, "AGED"⟩,
    ⟨7, 0, .ro, 0, "WAITING"⟩]⟩,
  ⟨"FCO_CNT_CREDIT", 0x060, 0, 1, [], [⟨31, 31, .w1c, 0, "OVF"⟩, ⟨15, 0, .ro, 0, "COUNT"⟩]⟩,
  ⟨"FCO_CNT_SAFETY", 0x064, 0, 1, [], [⟨31, 31, .w1c, 0, "OVF"⟩, ⟨15, 0, .ro, 0, "COUNT"⟩]⟩,
  ⟨"FCO_CNT_WITHDRAWN", 0x068, 0, 1, [], [⟨31, 31, .w1c, 0, "OVF"⟩, ⟨15, 0, .ro, 0, "COUNT"⟩]⟩,
  ⟨"FCO_CNT_PLANREF", 0x06C, 0, 1, [], [⟨31, 31, .w1c, 0, "OVF"⟩, ⟨15, 0, .ro, 0, "COUNT"⟩]⟩,
  ⟨"FCO_PORT", 0x100, 4, 56, [], [⟨16, 16, .rws, 0, "NOLISTEN"⟩, ⟨10, 8, .rws, 2, "MAXLISTEN"⟩,
    ⟨7, 0, .rws, 0, "PHASE"⟩]⟩,
  ⟨"FCO_ADJ", 0x200, 4, 56, [], [⟨31, 24, .rws, 0xFF, "ADJ3"⟩, ⟨23, 16, .rws, 0xFF, "ADJ2"⟩,
    ⟨15, 8, .rws, 0xFF, "ADJ1"⟩, ⟨7, 0, .rws, 0xFF, "ADJ0"⟩]⟩,
  ⟨"FCO_STEER", 0x300, 4, 16, [], [⟨31, 31, .rws, 0, "EN"⟩, ⟨29, 24, .rws, 0, "PORT_A"⟩,
    ⟨21, 16, .rws, 0, "PORT_B"⟩, ⟨15, 8, .rws, 0, "DELTA"⟩, ⟨7, 0, .rws, 0x64, "LEVEL_PCT"⟩]⟩,
  ⟨"FCO_PLAN_CFG", 0x400, 16, 64, [], [⟨31, 31, .rws, 0, "EN"⟩, ⟨30, 28, .rws, 0, "PRIO"⟩,
    ⟨27, 27, .rws, 0, "UNIT"⟩, ⟨23, 16, .rws, 0, "COUNT"⟩, ⟨15, 0, .rws, 1, "PERIOD"⟩]⟩,
  ⟨"FCO_PLAN_SET_LO", 0x404, 16, 64, [], [⟨31, 0, .rws, 0, "SET"⟩]⟩,
  ⟨"FCO_PLAN_SET_HI", 0x408, 16, 64, [], [⟨23, 0, .rws, 0, "SET"⟩]⟩,
  ⟨"FCO_PLAN_STAT", 0x40C, 16, 64, [], [⟨31, 16, .ro, 0, "ROUNDS"⟩, ⟨15, 8, .ro, 0, "SKIPS"⟩,
    ⟨7, 7, .w1c, 0, "OVF"⟩, ⟨0, 0, .ro, 0, "RUNNING"⟩]⟩]

/-- Registers of the PLE page (anchor page 0x0B, chapter 13). -/
def ple : List RegRow := [
  ⟨"PLE_CFG", 0x020, 0, 1, [], [⟨15, 0, .rws, 0x1000, "MAXSTEP"⟩]⟩,
  ⟨"PLE_START", 0x024, 0, 1, [], [⟨4, 0, .wo, 0, "LIST"⟩]⟩,
  ⟨"PLE_STOP", 0x028, 0, 1, [], [⟨4, 0, .wo, 0, "LIST"⟩]⟩,
  ⟨"PLE_RAISE", 0x02C, 0, 1, [], [⟨15, 0, .w1c, 0, "RAISE"⟩]⟩,
  ⟨"PLE_VVALID_LO", 0x030, 0, 1, [], [⟨31, 0, .w1c, 0, "VALID"⟩]⟩,
  ⟨"PLE_VVALID_HI", 0x034, 0, 1, [], [⟨31, 0, .w1c, 0, "VALID"⟩]⟩,
  ⟨"PLE_RUNNING", 0x038, 0, 1, [], [⟨31, 0, .ro, 0, "LISTS"⟩]⟩,
  ⟨"PLE_PENDING", 0x03C, 0, 1, [], [⟨31, 0, .ro, 0, "LISTS"⟩]⟩,
  ⟨"PLE_CNT_CREDIT", 0x040, 0, 1, [], [⟨31, 31, .w1c, 0, "OVF"⟩, ⟨15, 0, .ro, 0, "COUNT"⟩]⟩,
  ⟨"PLE_V", 0x100, 4, 64, [], [⟨31, 0, .rw, 0, "VALUE"⟩]⟩,
  ⟨"PLE_L_CFG", 0x300, 16, 32, [], [⟨31, 31, .rws, 0, "EN"⟩, ⟨30, 29, .rws, 0, "PRIO"⟩, ⟨23, 12, .rws, 0, "LAST"⟩,
    ⟨11, 0, .rws, 0, "START"⟩]⟩,
  ⟨"PLE_L_TRIG", 0x304, 16, 32, [], [⟨31, 29, .rws, 0, "KIND"⟩, ⟨28, 28, .rws, 0, "WAKE"⟩,
    ⟨27, 27, .rws, 0, "NOW"⟩, ⟨15, 0, .rws, 0, "SEL"⟩]⟩,
  ⟨"PLE_L_PERIOD", 0x308, 16, 32, [], [⟨31, 0, .rws, 0x3E8, "PERIOD"⟩]⟩,
  ⟨"PLE_L_STAT", 0x30C, 16, 32, [], [⟨31, 31, .w1c, 0, "OVF"⟩, ⟨30, 28, .ro, 0, "STATE"⟩, ⟨27, 16, .ro, 0, "PC"⟩,
    ⟨15, 8, .ro, 0, "MISSED"⟩, ⟨7, 0, .ro, 0, "FAULT"⟩]⟩,
  ⟨"PLE_ARG", 0x500, 4, 32, [], [⟨31, 0, .ro, 0, "ARG"⟩]⟩]

/-- Registers of the SSC page (anchor page 0x0C, chapter 14). -/
def ssc : List RegRow := [
  ⟨"SSC_T_FRAME", 0x800, 32, 64, [], [⟨31, 31, .rws, 0, "CONT"⟩, ⟨30, 28, .rws, 0, "SEL"⟩,
    ⟨27, 26, .rws, 0, "MODE"⟩, ⟨25, 20, .rws, 0, "CMD_BITS"⟩, ⟨19, 14, .rws, 0, "ADDR_BITS"⟩, ⟨13, 8, .rws, 0, "DUMMY"⟩,
    ⟨7, 0, .rws, 3, "DIV"⟩]⟩,
  ⟨"SSC_T_TIME", 0x804, 32, 64, [], [⟨31, 24, .rws, 4, "T_LEAD"⟩, ⟨23, 16, .rws, 2, "T_REL"⟩,
    ⟨15, 8, .rws, 8, "T_GAP"⟩]⟩,
  ⟨"SSC_T_DATA", 0x808, 32, 64, [], [⟨20, 16, .rws, 0x1F, "WLEN"⟩, ⟨11, 0, .rws, 0, "DATA_BITS"⟩]⟩,
  ⟨"SSC_T_CMD", 0x80C, 32, 64, [], [⟨31, 0, .rws, 0, "VALUE"⟩]⟩,
  ⟨"SSC_T_ADDR", 0x810, 32, 64, [], [⟨31, 0, .rws, 0, "VALUE"⟩]⟩,
  ⟨"SSC_SELCFG", 0x020, 0, 1, [], [⟨15, 8, .rws, 0, "POL"⟩, ⟨7, 0, .rws, 0, "DRIVE"⟩]⟩,
  ⟨"SSC_QPUSH", 0x024, 0, 1, [], [⟨31, 16, .wo, 0, "TAG"⟩, ⟨9, 8, .wo, 0, "BUF"⟩, ⟨5, 0, .wo, 0, "TEMPLATE"⟩]⟩,
  ⟨"SSC_QSTAT", 0x028, 0, 1, [], [⟨22, 16, .ro, 0, "DONE"⟩, ⟨14, 8, .ro, 0, "HOST"⟩, ⟨6, 0, .ro, 0, "FILL"⟩]⟩,
  ⟨"SSC_DONE", 0x02C, 0, 1, [], [⟨31, 16, .ro, 0, "TAG"⟩, ⟨15, 15, .ro, 0, "VALID"⟩, ⟨1, 0, .ro, 0, "STATUS"⟩]⟩,
  ⟨"SSC_DONE_POP", 0x030, 0, 1, [], [⟨0, 0, .wo, 0, "POP"⟩]⟩]

/-- Registers of the SSL page (anchor page 0x0D, chapter 14). -/
def ssl : List RegRow := [
  ⟨"SSL_CFG", 0x020, 0, 1, [], [⟨31, 24, .rws, 0x32, "IDLE"⟩, ⟨21, 16, .rws, 0x10, "RECMAX"⟩,
    ⟨15, 14, .rws, 1, "CLASS"⟩, ⟨13, 13, .rws, 0, "DEST"⟩, ⟨12, 12, .rws, 0, "ORDER"⟩, ⟨11, 11, .rws, 0, "SELPOL"⟩,
    ⟨10, 9, .rws, 0, "MODE"⟩, ⟨4, 0, .rws, 0x1F, "WIDTH"⟩]⟩,
  ⟨"SSL_STAT", 0x024, 0, 1, [], [⟨22, 16, .ro, 0, "FIFO"⟩, ⟨2, 2, .ro, 0, "HELD"⟩, ⟨1, 1, .ro, 0, "READY"⟩,
    ⟨0, 0, .ro, 0, "SELACT"⟩]⟩,
  ⟨"SSL_REFUSED", 0x028, 0, 1, [], [⟨31, 31, .w1c, 0, "OVF"⟩, ⟨15, 0, .ro, 0, "COUNT"⟩]⟩,
  ⟨"SSL_CNT_PARTIAL", 0x02C, 0, 1, [], [⟨31, 31, .w1c, 0, "OVF"⟩, ⟨15, 0, .ro, 0, "COUNT"⟩]⟩]

/-- Registers of the SAF page (anchor page 0x0E, chapter 14). -/
def saf : List RegRow := [
  ⟨"SAF_CFG", 0x020, 0, 1, [], [⟨6, 0, .rws, 0x10, "RATE"⟩]⟩,
  ⟨"SAF_REQ", 0x024, 0, 1, [], [⟨7, 4, .wo, 0, "COUNT"⟩, ⟨2, 0, .wo, 0, "CH"⟩]⟩,
  ⟨"SAF_RESULT", 0x028, 0, 1, [], [⟨31, 31, .ro, 0, "BUSY"⟩, ⟨30, 30, .ro, 0, "VALID"⟩, ⟨18, 16, .ro, 0, "CH"⟩,
    ⟨15, 0, .ro, 0, "CODE"⟩]⟩,
  ⟨"SAF_CMPCFG", 0x02C, 0, 1, [], [⟨3, 0, .rws, 5, "STROBE"⟩]⟩,
  ⟨"SAF_CMP", 0x030, 4, 4, [], [⟨31, 31, .rws, 0, "EN_ACT"⟩, ⟨30, 30, .rws, 0, "EN_SLEEP"⟩,
    ⟨29, 29, .rws, 0, "WAKE_RISE"⟩, ⟨28, 28, .rws, 0, "WAKE_FALL"⟩, ⟨21, 16, .rws, 0, "HYST"⟩,
    ⟨9, 0, .rws, 0x200, "THR"⟩]⟩,
  ⟨"SAF_CMPSTAT", 0x040, 0, 1, [], [⟨3, 0, .ro, 0, "STATE"⟩]⟩]

/-- Registers of the RFX page (anchor page 0x0F, chapter 11). -/
def rfx : List RegRow := [
  ⟨"RFX_CFG", 0x020, 0, 1, [], [⟨8, 8, .rws, 0, "ISARI"⟩, ⟨4, 4, .rws, 0, "UNCODED_EN"⟩, ⟨2, 0, .rws, 7, "MODE_EN"⟩]⟩,
  ⟨"RFX_DET", 0x024, 0, 1, [], [⟨31, 24, .rws, 0x8E, "RSSI_THR"⟩, ⟨15, 8, .rws, 0x30, "SFD_WIN"⟩,
    ⟨3, 0, .rws, 4, "PRE_QUAL"⟩]⟩,
  ⟨"RFX_CAPT", 0x028, 0, 1, [], [⟨8, 8, .rws, 1, "CAPT_EN"⟩, ⟨4, 0, .rws, 8, "CAPT_DB"⟩]⟩,
  ⟨"RFX_RXCFG", 0x02C, 0, 1, [], [⟨1, 0, .rws, 1, "CLASS"⟩]⟩,
  ⟨"RFX_TXCFG", 0x030, 0, 1, [], [⟨20, 16, .rws, 8, "RAMP_T"⟩, ⟨5, 0, .rws, 0x28, "POWER"⟩]⟩,
  ⟨"RFX_RAMP0", 0x040, 0, 1, [], [⟨31, 24, .rws, 0x25, "STEP3"⟩, ⟨23, 16, .rws, 0x15, "STEP2"⟩,
    ⟨15, 8, .rws, 0xA, "STEP1"⟩, ⟨7, 0, .rws, 2, "STEP0"⟩]⟩,
  ⟨"RFX_RAMP1", 0x044, 0, 1, [], [⟨31, 24, .rws, 0x80, "STEP3"⟩, ⟨23, 16, .rws, 0x67, "STEP2"⟩,
    ⟨15, 8, .rws, 0x4F, "STEP1"⟩, ⟨7, 0, .rws, 0x39, "STEP0"⟩]⟩,
  ⟨"RFX_RAMP2", 0x048, 0, 1, [], [⟨31, 24, .rws, 0xDA, "STEP3"⟩, ⟨23, 16, .rws, 0xC6, "STEP2"⟩,
    ⟨15, 8, .rws, 0xB0, "STEP1"⟩, ⟨7, 0, .rws, 0x98, "STEP0"⟩]⟩,
  ⟨"RFX_RAMP3", 0x04C, 0, 1, [], [⟨31, 24, .rws, 0xFF, "STEP3"⟩, ⟨23, 16, .rws, 0xFD, "STEP2"⟩,
    ⟨15, 8, .rws, 0xF5, "STEP1"⟩, ⟨7, 0, .rws, 0xEA, "STEP0"⟩]⟩,
  ⟨"RFX_FIR0", 0x060, 0, 1, [], [⟨25, 16, .rws, 1, "TAP_HI"⟩, ⟨9, 0, .rws, 0, "TAP_LO"⟩]⟩,
  ⟨"RFX_FIR1", 0x064, 0, 1, [], [⟨25, 16, .rws, 4, "TAP_HI"⟩, ⟨9, 0, .rws, 2, "TAP_LO"⟩]⟩,
  ⟨"RFX_FIR2", 0x068, 0, 1, [], [⟨25, 16, .rws, 8, "TAP_HI"⟩, ⟨9, 0, .rws, 6, "TAP_LO"⟩]⟩,
  ⟨"RFX_FIR3", 0x06C, 0, 1, [], [⟨25, 16, .rws, 0xE, "TAP_HI"⟩, ⟨9, 0, .rws, 0xB, "TAP_LO"⟩]⟩,
  ⟨"RFX_FIR4", 0x070, 0, 1, [], [⟨25, 16, .rws, 0x15, "TAP_HI"⟩, ⟨9, 0, .rws, 0x12, "TAP_LO"⟩]⟩,
  ⟨"RFX_FIR5", 0x074, 0, 1, [], [⟨25, 16, .rws, 0x1A, "TAP_HI"⟩, ⟨9, 0, .rws, 0x18, "TAP_LO"⟩]⟩,
  ⟨"RFX_FIR6", 0x078, 0, 1, [], [⟨25, 16, .rws, 0x1E, "TAP_HI"⟩, ⟨9, 0, .rws, 0x1C, "TAP_LO"⟩]⟩,
  ⟨"RFX_FIR7", 0x07C, 0, 1, [], [⟨25, 16, .rws, 0x20, "TAP_HI"⟩, ⟨9, 0, .rws, 0x1F, "TAP_LO"⟩]⟩,
  ⟨"RFX_FIR8", 0x080, 0, 1, [], [⟨25, 16, .rws, 0x1F, "TAP_HI"⟩, ⟨9, 0, .rws, 0x20, "TAP_LO"⟩]⟩,
  ⟨"RFX_FIR9", 0x084, 0, 1, [], [⟨25, 16, .rws, 0x1C, "TAP_HI"⟩, ⟨9, 0, .rws, 0x1E, "TAP_LO"⟩]⟩,
  ⟨"RFX_FIR10", 0x088, 0, 1, [], [⟨25, 16, .rws, 0x18, "TAP_HI"⟩, ⟨9, 0, .rws, 0x1A, "TAP_LO"⟩]⟩,
  ⟨"RFX_FIR11", 0x08C, 0, 1, [], [⟨25, 16, .rws, 0x12, "TAP_HI"⟩, ⟨9, 0, .rws, 0x15, "TAP_LO"⟩]⟩,
  ⟨"RFX_FIR12", 0x090, 0, 1, [], [⟨25, 16, .rws, 0xB, "TAP_HI"⟩, ⟨9, 0, .rws, 0xE, "TAP_LO"⟩]⟩,
  ⟨"RFX_FIR13", 0x094, 0, 1, [], [⟨25, 16, .rws, 6, "TAP_HI"⟩, ⟨9, 0, .rws, 8, "TAP_LO"⟩]⟩,
  ⟨"RFX_FIR14", 0x098, 0, 1, [], [⟨25, 16, .rws, 2, "TAP_HI"⟩, ⟨9, 0, .rws, 4, "TAP_LO"⟩]⟩,
  ⟨"RFX_FIR15", 0x09C, 0, 1, [], [⟨25, 16, .rws, 0, "TAP_HI"⟩, ⟨9, 0, .rws, 1, "TAP_LO"⟩]⟩,
  ⟨"RFX_MASK0", 0x0A0, 0, 1, [], [⟨31, 16, .rws, 0x96, "OFFSET"⟩, ⟨6, 0, .rws, 0x14, "LIMIT"⟩]⟩,
  ⟨"RFX_MASK1", 0x0A4, 0, 1, [], [⟨31, 16, .rws, 0xFA, "OFFSET"⟩, ⟨6, 0, .rws, 0x23, "LIMIT"⟩]⟩,
  ⟨"RFX_MASK2", 0x0A8, 0, 1, [], [⟨31, 16, .rws, 0x190, "OFFSET"⟩, ⟨6, 0, .rws, 0x2D, "LIMIT"⟩]⟩,
  ⟨"RFX_MASK3", 0x0AC, 0, 1, [], [⟨31, 16, .rws, 0x258, "OFFSET"⟩, ⟨6, 0, .rws, 0x32, "LIMIT"⟩]⟩,
  ⟨"RFX_RSSI", 0x0B0, 0, 1, [], [⟨31, 16, .ro, 0, "LATCHED"⟩, ⟨15, 0, .ro, 0, "LIVE"⟩]⟩,
  ⟨"RFX_STAT", 0x0B4, 0, 1, [], [⟨15, 8, .ro, 0, "GAIN"⟩, ⟨3, 0, .ro, 0, "RXSTATE"⟩]⟩,
  ⟨"RFX_CNT_FALSEDET", 0x0C0, 0, 1, [], [⟨31, 31, .w1c, 0, "OVF"⟩, ⟨15, 0, .ro, 0, "COUNT"⟩]⟩,
  ⟨"RFX_CNT_CAPTURED", 0x0C4, 0, 1, [], [⟨31, 31, .w1c, 0, "OVF"⟩, ⟨15, 0, .ro, 0, "COUNT"⟩]⟩,
  ⟨"RFX_CNT_REFUSED", 0x0C8, 0, 1, [], [⟨31, 31, .w1c, 0, "OVF"⟩, ⟨15, 0, .ro, 0, "COUNT"⟩]⟩,
  ⟨"RFX_CNT_HDRFAIL", 0x0CC, 0, 1, [], [⟨31, 31, .w1c, 0, "OVF"⟩, ⟨15, 0, .ro, 0, "COUNT"⟩]⟩,
  ⟨"RFX_CNT_CRCFAIL", 0x0D0, 0, 1, [], [⟨31, 31, .w1c, 0, "OVF"⟩, ⟨15, 0, .ro, 0, "COUNT"⟩]⟩,
  ⟨"RFX_CNT_MASKABORT", 0x0D4, 0, 1, [], [⟨31, 31, .w1c, 0, "OVF"⟩, ⟨15, 0, .ro, 0, "COUNT"⟩]⟩]

/-- Registers of the RFC page (anchor page 0x10, chapter 12). -/
def rfc : List RegRow := [
  ⟨"RFC_CFG", 0x020, 0, 1, [], [⟨2, 2, .rws, 1, "FINISH_RX"⟩, ⟨1, 0, .rws, 1, "TXCLASS"⟩]⟩,
  ⟨"RFC_CMD", 0x024, 0, 1, [], [⟨31, 28, .wo, 0, "CMD"⟩, ⟨27, 26, .wo, 0, "AFTER"⟩, ⟨25, 25, .wo, 0, "PRI"⟩,
    ⟨24, 21, .wo, 0, "TEMPLATE"⟩, ⟨20, 14, .wo, 0, "CHANNEL"⟩, ⟨13, 0, .wo, 0, "TICKET"⟩]⟩,
  ⟨"RFC_STAT", 0x028, 0, 1, [], [⟨23, 23, .w1c, 0, "DUTY_RESTART"⟩, ⟨22, 22, .ro, 0, "PERMIT"⟩,
    ⟨21, 21, .ro, 0, "CXGNT"⟩, ⟨20, 20, .ro, 0, "CXREQ"⟩, ⟨19, 16, .ro, 0, "QUEUE"⟩, ⟨14, 8, .ro, 0, "CHAN"⟩,
    ⟨3, 0, .ro, 0, "RSTATE"⟩]⟩,
  ⟨"RFC_CX", 0x02C, 0, 1, [], [⟨31, 16, .rws, 0x3E8, "GNT_WAIT"⟩, ⟨9, 9, .rws, 0, "RXPRI"⟩,
    ⟨8, 8, .rws, 0, "MODE"⟩, ⟨7, 0, .rws, 0, "LEAD"⟩]⟩,
  ⟨"RFC_TXDL", 0x030, 0, 1, [], [⟨15, 0, .rws, 0x1F4, "DEADLINE"⟩]⟩,
  ⟨"RFC_CNT_FLUSHED", 0x040, 0, 1, [], [⟨31, 31, .w1c, 0, "OVF"⟩, ⟨15, 0, .ro, 0, "COUNT"⟩]⟩,
  ⟨"RFC_CNT_CREDIT", 0x044, 0, 1, [], [⟨31, 31, .w1c, 0, "OVF"⟩, ⟨15, 0, .ro, 0, "COUNT"⟩]⟩,
  ⟨"RFC_CNT_DENIED", 0x048, 0, 1, [], [⟨31, 31, .w1c, 0, "OVF"⟩, ⟨15, 0, .ro, 0, "COUNT"⟩]⟩,
  ⟨"RFC_REG_HF", 0x1F0, 0, 1, [], [⟨31, 31, .ro, 0, "LOCKED"⟩, ⟨27, 16, .ro, 0, "BUDGET_CEIL"⟩,
    ⟨9, 0, .ro, 0, "AERIAL_MAX"⟩]⟩,
  ⟨"RFC_SB_RANGE", 0x200, 8, 8, [], [⟨31, 16, .ro, 0, "LO"⟩, ⟨15, 0, .ro, 0, "HI"⟩]⟩,
  ⟨"RFC_SB_LIM", 0x204, 8, 8, [], [⟨31, 0, .ro, 0, "LIM"⟩]⟩,
  ⟨"RFC_DUTY", 0x280, 4, 8, [], [⟨21, 0, .ro, 0, "USED"⟩]⟩,
  ⟨"RFC_HOP", 0x400, 4, 128, [], [⟨31, 31, .rws, 0, "EN"⟩, ⟨30, 30, .ro, 0, "VALID"⟩, ⟨19, 0, .rws, 0xD2B98, "FREQ"⟩]⟩]

/-- Registers of the SEC page (anchor page 0x11, chapter 12). -/
def sec : List RegRow := [
  ⟨"SEC_CFG", 0x020, 0, 1, [], [⟨4, 4, .rws, 0, "RX_SEC"⟩, ⟨2, 0, .rws, 5, "TXLEVEL"⟩]⟩,
  ⟨"SEC_OWN_ID_LO", 0x024, 0, 1, [], [⟨31, 0, .rws, 0, "ID"⟩]⟩,
  ⟨"SEC_OWN_ID_HI", 0x028, 0, 1, [], [⟨31, 0, .rws, 0, "ID"⟩]⟩,
  ⟨"SEC_TXCTR", 0x02C, 0, 1, [], [⟨31, 0, .rws, 0, "CTR"⟩]⟩,
  ⟨"SEC_KEY", 0x030, 4, 4, [], [⟨31, 0, .wo, 0, "KEY"⟩]⟩,
  ⟨"SEC_KEYCMD", 0x040, 0, 1, [], [⟨31, 30, .wo, 0, "OP"⟩, ⟨5, 0, .wo, 0, "SLOT"⟩]⟩,
  ⟨"SEC_SLOTS_LO", 0x044, 0, 1, [], [⟨31, 0, .ro, 0, "LOADED"⟩]⟩,
  ⟨"SEC_SLOTS_HI", 0x048, 0, 1, [], [⟨31, 0, .ro, 0, "LOADED"⟩]⟩]

/-- Registers of the CAL page (anchor page 0x12, chapter 18). -/
def cal : List RegRow := [
  ⟨"CAL_CFG", 0x020, 0, 1, [], [⟨31, 24, .rws, 0xA, "MAXDEFER"⟩, ⟨23, 16, .rws, 0x64, "LEVEL"⟩,
    ⟨15, 14, .rws, 2, "CLASS"⟩, ⟨13, 13, .rws, 0, "REPORT_ALL"⟩, ⟨12, 12, .rws, 1, "AUTO"⟩, ⟨5, 0, .rws, 8, "DT"⟩]⟩,
  ⟨"CAL_REQ", 0x024, 0, 1, [], [⟨31, 28, .wo, 0, "KIND"⟩, ⟨26, 24, .wo, 0, "DIE"⟩, ⟨9, 0, .wo, 0, "MASK"⟩]⟩,
  ⟨"CAL_STAT", 0x028, 0, 1, [], [⟨23, 16, .ro, 0, "DUE"⟩, ⟨15, 8, .ro, 0, "RUNNING"⟩, ⟨7, 0, .ro, 0, "AGED"⟩]⟩,
  ⟨"CAL_SAVE", 0x02C, 0, 1, [], [⟨31, 31, .w1s, 0, "SAVE"⟩, ⟨30, 30, .ro, 0, "BUSY"⟩, ⟨29, 29, .ro, 0, "DIRTY"⟩,
    ⟨16, 16, .w1c, 0, "OVF"⟩, ⟨15, 0, .ro, 0, "COUNT"⟩]⟩,
  ⟨"CAL_REF", 0x030, 0, 1, [], [⟨31, 16, .ro, 0, "REFRES_DEV"⟩, ⟨15, 0, .ro, 0, "REFV_DEV"⟩]⟩,
  ⟨"CAL_ANCHOR", 0x034, 0, 1, [], [⟨31, 16, .ro, 0, "TEMP"⟩, ⟨15, 12, .ro, 0, "RESULT"⟩, ⟨3, 0, .ro, 0, "POINTS"⟩]⟩,
  ⟨"CAL_CNT_REJECT", 0x040, 0, 1, [], [⟨31, 31, .w1c, 0, "OVF"⟩, ⟨15, 0, .ro, 0, "COUNT"⟩]⟩,
  ⟨"CAL_CNT_ABORT", 0x044, 0, 1, [], [⟨31, 31, .w1c, 0, "OVF"⟩, ⟨15, 0, .ro, 0, "COUNT"⟩]⟩,
  ⟨"CAL_CNT_UNREPORTED", 0x048, 0, 1, [], [⟨31, 31, .w1c, 0, "OVF"⟩, ⟨15, 0, .ro, 0, "COUNT"⟩]⟩,
  ⟨"CAL_LIM_A", 0x108, 8, 16, [0x7f0000, 0x7f0000, 0x49a0366, 0x0, 0x7fff0148, 0x20000000, 0x44c0384, 0x12cfed4, 0x10cd0f33, 0x40ffc0, 0x10520fae, 0x0, 0x3f0000, 0xf00010, 0x10290fd7, 0x20ffe0], [⟨31, 16, .rws, 0, "MAX"⟩,
    ⟨15, 0, .rws, 0, "MIN"⟩]⟩,
  ⟨"CAL_LIM_B", 0x10C, 8, 16, [0x10, 0x10, 0x1a, 0x6, 0x666, 0x148, 0x14, 0x14, 0x29, 0x10, 0x14, 0x4, 0x2, 0x18, 0x8, 0x4], [⟨15, 0, .rws, 0, "STEP"⟩]⟩]

/-- Registers of the BST page (anchor page 0x13, chapter 19). -/
def bst : List RegRow := [
  ⟨"BST_CFG", 0x020, 0, 1, [], [⟨31, 24, .rws, 0, "PERIOD"⟩, ⟨15, 14, .rws, 2, "CLASS"⟩,
    ⟨13, 13, .rws, 0, "REPORT_ALL"⟩, ⟨12, 12, .rws, 0, "STARTUP"⟩, ⟨1, 1, .rws, 0, "TSM_ANCHOR"⟩,
    ⟨0, 0, .rws, 0, "TSM_RADIO"⟩]⟩,
  ⟨"BST_REQ", 0x024, 0, 1, [], [⟨31, 28, .wo, 0, "KIND"⟩, ⟨26, 24, .wo, 0, "DIE"⟩, ⟨9, 0, .wo, 0, "UNIT"⟩]⟩,
  ⟨"BST_STAT", 0x028, 0, 1, [], [⟨31, 31, .ro, 0, "STARTUP_DONE"⟩, ⟨27, 24, .ro, 0, "STARTUP_RESULT"⟩,
    ⟨23, 16, .ro, 0, "PENDING"⟩, ⟨15, 8, .ro, 0, "RUNNING"⟩, ⟨7, 0, .ro, 0, "FAILED"⟩]⟩,
  ⟨"BST_CNT_FAIL", 0x040, 0, 1, [], [⟨31, 31, .w1c, 0, "OVF"⟩, ⟨15, 0, .ro, 0, "COUNT"⟩]⟩,
  ⟨"BST_CNT_ABORT", 0x044, 0, 1, [], [⟨31, 31, .w1c, 0, "OVF"⟩, ⟨15, 0, .ro, 0, "COUNT"⟩]⟩]

/-- Registers of the NVS page (anchor page 0x14, chapter 20). -/
def nvs : List RegRow := [
  ⟨"NVS_CFG", 0x020, 0, 1, [], [⟨7, 0, .rws, 0x64, "LOAD_TO"⟩]⟩,
  ⟨"NVS_CMD", 0x024, 0, 1, [], [⟨31, 28, .wo, 0, "OP"⟩, ⟨15, 8, .wo, 0, "KEY"⟩, ⟨1, 0, .wo, 0, "SLOT"⟩]⟩,
  ⟨"NVS_ADDR", 0x028, 0, 1, [], [⟨17, 16, .rw, 0, "SLOT"⟩, ⟨15, 0, .rw, 0, "OFFSET"⟩]⟩,
  ⟨"NVS_WDATA", 0x02C, 0, 1, [], [⟨31, 0, .wo, 0, "DATA"⟩]⟩,
  ⟨"NVS_RDATA", 0x030, 0, 1, [], [⟨31, 0, .ro, 0, "DATA"⟩]⟩,
  ⟨"NVS_STAT", 0x034, 0, 1, [], [⟨31, 31, .ro, 0, "BUSY"⟩, ⟨30, 30, .ro, 0, "REG_LOCKED"⟩,
    ⟨29, 29, .ro, 0, "DEBUG_LOCKED"⟩, ⟨28, 28, .ro, 0, "OTP_TORN"⟩, ⟨13, 8, .ro, 0, "WBUF"⟩, ⟨7, 4, .ro, 0, "ERASED"⟩,
    ⟨3, 0, .ro, 0, "VALID"⟩]⟩,
  ⟨"NVS_WEAR", 0x038, 0, 1, [], [⟨31, 24, .ro, 125, "SPARES"⟩, ⟨23, 16, .ro, 0, "WORN"⟩, ⟨15, 15, .w1c, 0, "OVF"⟩,
    ⟨14, 0, .ro, 0, "SUSPENDS"⟩]⟩,
  ⟨"NVS_STAGE", 0x100, 4, 17, [], [⟨31, 0, .rw, 0, "WORD"⟩]⟩]

/-- Registers of the DRN page (anchor page 0x15, chapter 19). -/
def drn : List RegRow := [
  ⟨"DRN_CFG", 0x020, 0, 1, [], [⟨0, 0, .rws, 1, "AUTO"⟩]⟩,
  ⟨"DRN_SWAP", 0x024, 0, 1, [], [⟨31, 30, .wo, 0, "OP"⟩, ⟨26, 24, .wo, 0, "DIE"⟩, ⟨10, 8, .wo, 0, "PORT"⟩,
    ⟨3, 0, .wo, 0, "SLICE"⟩]⟩,
  ⟨"DRN_STAT", 0x028, 0, 1, [], [⟨31, 31, .ro, 0, "BUSY"⟩, ⟨30, 30, .ro, 0, "NVPEND"⟩, ⟨21, 16, .ro, 0, "OUT"⟩,
    ⟨15, 8, .ro, 0, "SPARES"⟩]⟩,
  ⟨"DRN_ROWS", 0x02C, 0, 1, [], [⟨31, 24, .ro, 0, "FIELD"⟩, ⟨23, 16, .ro, 0, "FACTORY"⟩,
    ⟨15, 0, .ro, 0xFFFF, "BANK_OUT"⟩]⟩,
  ⟨"DRN_CNT_SWAP", 0x040, 0, 1, [], [⟨31, 31, .w1c, 0, "OVF"⟩, ⟨15, 0, .ro, 0, "COUNT"⟩]⟩]

/-- Registers of the GPP page (anchor page 0x16, chapter 21). -/
def gpp : List RegRow := [
  ⟨"GPP_DIR", 0x020, 0, 1, [], [⟨7, 0, .rws, 0, "DIR"⟩]⟩,
  ⟨"GPP_OUT", 0x024, 0, 1, [], [⟨7, 0, .rws, 0, "LEVEL"⟩]⟩,
  ⟨"GPP_MODE", 0x028, 0, 1, [], [⟨23, 16, .rws, 0, "PULLUP"⟩, ⟨15, 8, .rws, 0, "PULLDN"⟩, ⟨7, 0, .rws, 0, "OD"⟩]⟩,
  ⟨"GPP_IN", 0x02C, 0, 1, [], [⟨7, 0, .ro, 0, "LEVEL"⟩]⟩]

/-- Registers of the FDC page (field-die page 0x00, chapter 06). -/
def fdc : List RegRow := [
  ⟨"FDC_STAT", 0x020, 0, 1, [], [⟨31, 24, .ro, 0, "TEMP"⟩, ⟨17, 16, .ro, 0, "PSTATE"⟩,
    ⟨11, 8, .ro, 0, "ENERGISED"⟩, ⟨0, 0, .ro, 0, "LOCKED"⟩]⟩,
  ⟨"FDC_FIELD", 0x024, 0, 1, [], [⟨11, 0, .ro, 0, "USED"⟩]⟩]

/-- Registers of the SLC page (field-die page 0x01, chapter 05). -/
def slc : List RegRow := [
  ⟨"SLC_FSTAT", 0x020, 0, 1, [], [⟨12, 12, .ro, 0, "LIVE"⟩, ⟨11, 11, .ro, 0, "SERVING"⟩, ⟨10, 8, .ro, 0, "PORT"⟩,
    ⟨7, 4, .ro, 0, "USER"⟩, ⟨3, 0, .ro, 0, "FSTATE"⟩]⟩,
  ⟨"SLC_LIMIT", 0x024, 0, 1, [], [⟨25, 16, .ro, 0x3E8, "LIMIT_EFF"⟩, ⟨9, 0, .rws, 0x3E8, "LIMIT"⟩]⟩,
  ⟨"SLC_TRIM", 0x028, 0, 1, [], [⟨31, 31, .rws, 0, "OVR"⟩, ⟨22, 16, .rws, 0x40, "SERIES"⟩,
    ⟨6, 0, .rws, 0x40, "SHUNT"⟩]⟩,
  ⟨"SLC_PHASE", 0x02C, 0, 1, [], [⟨24, 24, .ro, 0, "SLEWING"⟩, ⟨23, 16, .ro, 0, "OUT"⟩, ⟨15, 8, .ro, 0, "CAL_OFS"⟩,
    ⟨7, 0, .ro, 0, "CMD"⟩]⟩,
  ⟨"SLC_APPLIED", 0x030, 0, 1, [], [⟨28, 23, .ro, 0xF, "RAMP_DN"⟩, ⟨22, 17, .ro, 0xF, "RAMP_UP"⟩,
    ⟨16, 10, .ro, 8, "DEPTH"⟩, ⟨9, 0, .ro, 0, "LEVEL"⟩]⟩,
  ⟨"SLC_SENSE_PWR", 0x034, 0, 1, [], [⟨26, 16, .ro, 0, "HEADROOM"⟩, ⟨10, 0, .ro, 0, "PWR"⟩]⟩,
  ⟨"SLC_SENSE_DET", 0x038, 0, 1, [], [⟨31, 16, .ro, 0, "AMPL"⟩, ⟨15, 0, .ro, 0, "DETUNE"⟩]⟩,
  ⟨"SLC_FAULT", 0x03C, 0, 1, [], [⟨31, 31, .w1c, 0, "OVF"⟩, ⟨23, 16, .ro, 0, "COUNT"⟩,
    ⟨2, 2, .w1c, 0, "START_CHECK"⟩, ⟨1, 1, .w1c, 0, "OPEN_LOAD"⟩, ⟨0, 0, .w1c, 0, "OVERCURRENT"⟩]⟩,
  ⟨"SLC_CW", 0x040, 0, 1, [], [⟨31, 31, .w1s, 0, "START"⟩, ⟨30, 30, .w1s, 0, "STOP"⟩, ⟨23, 16, .rws, 0xA, "TIME"⟩,
    ⟨15, 10, .rws, 0xF, "RAMP"⟩, ⟨9, 0, .rws, 0x64, "LEVEL"⟩]⟩]

/-- Registers of the RCV page (field-die page 0x0B, chapter 07). -/
def rcv : List RegRow := [
  ⟨"RCV_CFG", 0x020, 0, 1, [], [⟨9, 0, .rws, 0x1F4, "DRIFT_LIM"⟩]⟩,
  ⟨"RCV_STREAMS", 0x024, 0, 1, [], [⟨12, 8, .ro, 0, "RECEIVED"⟩, ⟨3, 0, .ro, 0, "SOURCED"⟩]⟩,
  ⟨"RCV_CNT_GAP", 0x028, 0, 1, [], [⟨31, 31, .w1c, 0, "OVF"⟩, ⟨15, 0, .ro, 0, "COUNT"⟩]⟩,
  ⟨"RCV_P_CFG", 0x100, 64, 8, [], [⟨31, 31, .rws, 1, "ATT_AUTO"⟩, ⟨26, 24, .rws, 2, "ATT"⟩,
    ⟨15, 8, .rws, 0, "LO_OFS"⟩, ⟨1, 1, .rws, 0, "NBR_OFF"⟩, ⟨0, 0, .rws, 0, "SELF_OFF"⟩]⟩,
  ⟨"RCV_P_STAT", 0x104, 64, 8, [], [⟨31, 24, .ro, 0, "SAT"⟩, ⟨23, 23, .w1c, 0, "SAT_OVF"⟩,
    ⟨18, 16, .ro, 0, "ATT_USED"⟩, ⟨11, 8, .ro, 0, "STALE"⟩, ⟨7, 4, .ro, 0, "TERMS"⟩, ⟨0, 0, .ro, 0, "RX_ON"⟩]⟩,
  ⟨"RCV_P_SELF", 0x108, 64, 8, [], [⟨31, 16, .ro, 0, "I"⟩, ⟨15, 0, .ro, 0, "Q"⟩]⟩,
  ⟨"RCV_P_NBR0", 0x10C, 64, 8, [], [⟨31, 16, .ro, 0, "I"⟩, ⟨15, 0, .ro, 0, "Q"⟩]⟩,
  ⟨"RCV_P_NBR1", 0x110, 64, 8, [], [⟨31, 16, .ro, 0, "I"⟩, ⟨15, 0, .ro, 0, "Q"⟩]⟩,
  ⟨"RCV_P_NBR2", 0x114, 64, 8, [], [⟨31, 16, .ro, 0, "I"⟩, ⟨15, 0, .ro, 0, "Q"⟩]⟩,
  ⟨"RCV_P_NBR3", 0x118, 64, 8, [], [⟨31, 16, .ro, 0, "I"⟩, ⟨15, 0, .ro, 0, "Q"⟩]⟩,
  ⟨"RCV_P_RESID", 0x11C, 64, 8, [], [⟨31, 31, .w1c, 0, "EXCEED"⟩, ⟨19, 16, .ro, 0, "MASK"⟩, ⟨11, 0, .ro, 0, "RESID"⟩]⟩,
  ⟨"RCV_P_AGE", 0x120, 64, 8, [], [⟨31, 24, .ro, 0, "TDELTA"⟩, ⟨23, 0, .ro, 0, "AGE"⟩]⟩,
  ⟨"RCV_P_LAST", 0x124, 64, 8, [], [⟨31, 16, .ro, 0, "AMPL"⟩, ⟨15, 8, .ro, 0, "ANGLE"⟩]⟩]

/-- Registers of the XEN page (field-die page 0x0C, chapter 08). -/
def xen : List RegRow := [
  ⟨"XEN_CFG", 0x020, 0, 1, [], [⟨23, 16, .rws, 0x20, "LATE"⟩, ⟨15, 0, .rws, 0x400, "RGAP"⟩]⟩,
  ⟨"XEN_SETTLE", 0x024, 0, 1, [], [⟨31, 16, .rws, 0x13EC, "T14443"⟩, ⟨15, 0, .rws, 0x44C, "T15693"⟩]⟩,
  ⟨"XEN_TYPEA", 0x028, 0, 1, [], [⟨13, 8, .rws, 0x20, "PAUSE"⟩, ⟨0, 0, .rws, 1, "CHOOSE"⟩]⟩,
  ⟨"XEN_STAT", 0x02C, 0, 1, [], [⟨15, 8, .ro, 0, "HELD"⟩, ⟨7, 0, .ro, 0, "BUSY"⟩]⟩,
  ⟨"XEN_HOLD_END", 0x030, 0, 1, [], [⟨7, 0, .wo, 0, "END"⟩]⟩,
  ⟨"XEN_CNT_INVALID", 0x034, 0, 1, [], [⟨31, 31, .w1c, 0, "OVF"⟩, ⟨15, 0, .ro, 0, "COUNT"⟩]⟩,
  ⟨"XEN_CNT_RETRY", 0x038, 0, 1, [], [⟨31, 31, .w1c, 0, "OVF"⟩, ⟨15, 0, .ro, 0, "COUNT"⟩]⟩,
  ⟨"XEN_LAST", 0x040, 4, 8, [], [⟨31, 28, .ro, 0, "STATUS"⟩, ⟨27, 24, .ro, 0, "ATTEMPTS"⟩, ⟨8, 0, .ro, 0, "INDEX"⟩]⟩]

/-- Registers of the INV page (field-die page 0x0D, chapter 09). -/
def inv : List RegRow := [
  ⟨"INV_SEP", 0x020, 0, 1, [], [⟨25, 16, .rws, 0x96, "RESID_LIM"⟩, ⟨15, 8, .rws, 0x64, "EST_DB"⟩,
    ⟨0, 0, .rws, 1, "SEP_EN"⟩]⟩,
  ⟨"INV_DEPART", 0x024, 0, 1, [], [⟨7, 0, .rws, 3, "N"⟩]⟩,
  ⟨"INV_TIM", 0x028, 0, 1, [], [⟨31, 16, .rws, 0x1D00, "T3_LOW"⟩, ⟨15, 0, .rws, 0x1400, "T3_HIGH"⟩]⟩,
  ⟨"INV_STAT", 0x02C, 0, 1, [], [⟨23, 16, .ro, 0, "SOLVING"⟩, ⟨15, 8, .ro, 0, "LISTENER"⟩, ⟨7, 0, .ro, 0, "ACTIVE"⟩]⟩,
  ⟨"INV_CNT_UNCLEAR", 0x030, 0, 1, [], [⟨31, 31, .w1c, 0, "OVF"⟩, ⟨15, 0, .ro, 0, "COUNT"⟩]⟩,
  ⟨"INV_CNT_SEPOK", 0x034, 0, 1, [], [⟨31, 31, .w1c, 0, "OVF"⟩, ⟨15, 0, .ro, 0, "COUNT"⟩]⟩,
  ⟨"INV_CNT_SEPFAIL", 0x038, 0, 1, [], [⟨31, 31, .w1c, 0, "OVF"⟩, ⟨15, 0, .ro, 0, "COUNT"⟩]⟩,
  ⟨"INV_CNT_NOTICKET", 0x03C, 0, 1, [], [⟨31, 31, .w1c, 0, "OVF"⟩, ⟨15, 0, .ro, 0, "COUNT"⟩]⟩,
  ⟨"INV_CNT_INCOMPLETE", 0x040, 0, 1, [], [⟨31, 31, .w1c, 0, "OVF"⟩, ⟨15, 0, .ro, 0, "COUNT"⟩]⟩,
  ⟨"INV_LAST", 0x060, 4, 8, [], [⟨31, 28, .ro, 0, "STATUS"⟩, ⟨23, 16, .ro, 0, "FOUND"⟩, ⟨15, 8, .ro, 0, "SEP_OK"⟩,
    ⟨7, 0, .ro, 0, "REQUESTS"⟩]⟩]

/-- Registers of the CWT page (field-die page 0x0E, chapter 10). -/
def cwt : List RegRow := [
  ⟨"CWT_STAT", 0x020, 0, 1, [], [⟨23, 16, .ro, 0, "PEND"⟩, ⟨15, 8, .ro, 0, "DETECTED"⟩, ⟨7, 0, .ro, 0, "PROBING"⟩]⟩,
  ⟨"CWT_TEMP", 0x024, 0, 1, [], [⟨7, 0, .ro, 0, "TEMP"⟩]⟩,
  ⟨"CWT_CNT_SKIP", 0x028, 0, 1, [], [⟨31, 31, .w1c, 0, "OVF"⟩, ⟨15, 0, .ro, 0, "COUNT"⟩]⟩,
  ⟨"CWT_CNT_MASKED", 0x02C, 0, 1, [], [⟨31, 31, .w1c, 0, "OVF"⟩, ⟨15, 0, .ro, 0, "COUNT"⟩]⟩,
  ⟨"CWT_P_CFG", 0x100, 64, 8, [], [⟨31, 31, .rws, 0, "EN"⟩, ⟨30, 30, .rws, 0, "SLEEP"⟩, ⟨29, 28, .rws, 2, "CLASS"⟩,
    ⟨27, 24, .rws, 5, "MASK"⟩, ⟨22, 20, .rws, 1, "DEB"⟩, ⟨10, 0, .rws, 0x64, "PERIOD"⟩]⟩,
  ⟨"CWT_P_PROBE", 0x104, 64, 8, [], [⟨21, 16, .rws, 8, "BURST"⟩, ⟨7, 0, .rws, 0x96, "LEVEL"⟩]⟩,
  ⟨"CWT_P_THR", 0x108, 64, 8, [], [⟨31, 16, .rws, 0xA, "THR_A"⟩, ⟨15, 0, .rws, 0xA, "THR_P"⟩]⟩,
  ⟨"CWT_P_TRACK", 0x10C, 64, 8, [], [⟨31, 24, .rws, 0, "ABSORB"⟩, ⟨7, 0, .rws, 0x1E, "TAU"⟩]⟩,
  ⟨"CWT_P_BASE", 0x110, 64, 8, [], [⟨31, 16, .ro, 0, "AMPL"⟩, ⟨15, 0, .ro, 0, "DETUNE"⟩]⟩,
  ⟨"CWT_P_LAST", 0x114, 64, 8, [], [⟨31, 16, .ro, 0, "AMPL"⟩, ⟨15, 0, .ro, 0, "DETUNE"⟩]⟩,
  ⟨"CWT_P_STAT", 0x118, 64, 8, [], [⟨27, 24, .ro, 0, "RUN"⟩, ⟨16, 16, .ro, 0, "PEND"⟩, ⟨7, 4, .ro, 0, "LCLASS"⟩,
    ⟨3, 0, .ro, 0, "STATE"⟩]⟩]

/-- Registers of the DCAL page (field-die page 0x0F, chapter 18). -/
def dcal : List RegRow := [
  ⟨"DCAL_TEMP", 0x020, 0, 1, [], [⟨15, 0, .ro, 0, "TEMP"⟩]⟩,
  ⟨"DCAL_DUE", 0x024, 0, 1, [], [⟨10, 10, .ro, 0, "DIE"⟩, ⟨9, 0, .ro, 0, "SLICES"⟩]⟩,
  ⟨"DCAL_RUN", 0x028, 0, 1, [], [⟨10, 10, .ro, 0, "DIE"⟩, ⟨9, 0, .ro, 0, "SLICES"⟩]⟩,
  ⟨"DCAL_SL", 0x040, 4, 10, [], [⟨31, 16, .ro, 0, "TEMP"⟩, ⟨15, 12, .ro, 0, "RESULT"⟩, ⟨3, 0, .ro, 0, "POINTS"⟩]⟩,
  ⟨"DCAL_DIE", 0x068, 0, 1, [], [⟨31, 16, .ro, 0, "TEMP"⟩, ⟨15, 12, .ro, 0, "RESULT"⟩, ⟨3, 0, .ro, 0, "POINTS"⟩]⟩]

/-- Registers of the DBST page (field-die page 0x10, chapter 19). -/
def dbst : List RegRow := [
  ⟨"DBST_CFG", 0x020, 0, 1, [], [⟨0, 0, .rws, 0, "TSM_SLICE"⟩]⟩,
  ⟨"DBST_SL", 0x040, 4, 10, [], [⟨31, 28, .ro, 0xF, "RESULT"⟩, ⟨23, 16, .ro, 0xFF, "FIRST"⟩,
    ⟨15, 0, .ro, 0xFFFF, "AGE"⟩]⟩,
  ⟨"DBST_DIE", 0x068, 0, 1, [], [⟨31, 28, .ro, 0xF, "RESULT"⟩, ⟨23, 16, .ro, 0xFF, "FIRST"⟩,
    ⟨15, 0, .ro, 0xFFFF, "AGE"⟩]⟩]

/-- Registers of the DRN page (field-die page 0x11, chapter 19). -/
def ddrn : List RegRow := [
  ⟨"DRN_SLICES", 0x020, 0, 1, [], [⟨29, 20, .ro, 0, "FACTORY"⟩, ⟨19, 10, .ro, 0, "DARNED"⟩,
    ⟨9, 0, .ro, 0, "ELIGIBLE"⟩]⟩,
  ⟨"DRN_P", 0x040, 4, 8, [0x10, 0x11, 0x12, 0x13, 0x14, 0x15, 0x16, 0x17], [⟨31, 31, .w1c, 0, "NETFAULT"⟩,
    ⟨5, 5, .ro, 0, "OUT"⟩, ⟨4, 4, .ro, 0, "VALID"⟩, ⟨3, 0, .ro, 0, "SLICE"⟩]⟩]

/-- Registers of the DPWR page (field-die page 0x12, chapter 17). -/
def dpwr : List RegRow := [
  ⟨"DPWR_CFG", 0x020, 0, 1, [], [⟨31, 16, .rw, 0, "OFF_IDLE"⟩, ⟨0, 0, .rw, 0, "KEEP_RUN"⟩]⟩,
  ⟨"DPWR_STAT", 0x024, 0, 1, [], [⟨24, 24, .w1c, 0, "OVF"⟩, ⟨23, 8, .ro, 0, "WAKES"⟩, ⟨2, 2, .ro, 0, "WATCHDOM"⟩,
    ⟨1, 0, .ro, 0, "PSTATE"⟩]⟩]

/-- The event bits of PG_EVT that the page defines (rules R71, R74, R96, R157, R199 and so on to R804). -/
def evtMask (die page : Nat) : Nat :=
  if die = 0 then
    match page with
    | 0x00 => 0x3
    | 0x01 => 0xF
    | 0x02 => 0x7F
    | 0x03 => 0xC000000F
    | 0x04 => 0xC0000003
    | 0x05 => 0x3
    | 0x06 => 0xC000000F
    | 0x07 => 0xC00001FF
    | 0x08 => 0xC00000FF
    | 0x09 => 0xC000001F
    | 0x0A => 0xC00001FF
    | 0x0B => 0xC0000007
    | 0x0C => 0xC0000007
    | 0x0D => 0xC0000007
    | 0x0E => 0xC00001FF
    | 0x0F => 0xC000003F
    | 0x10 => 0xC000001F
    | 0x11 => 0xC000000F
    | 0x12 => 0xC000003F
    | 0x13 => 0xC0000007
    | 0x14 => 0xC0000007
    | 0x15 => 0xC000001F
    | 0x16 => 0xC000FFFF
    | _ => 0
  else if 1 ≤ page ∧ page ≤ 10 then 0xC000003F
  else
    match page with
    | 0x00 => 0x0
    | 0x0B => 0xC000001F
    | 0x0C => 0xC0000007
    | 0x0D => 0xC000000F
    | 0x0E => 0xC000000F
    | 0x0F => 0x7
    | 0x10 => 0xC0000003
    | 0x11 => 0x0
    | 0x12 => 0x0
    | _ => 0

/-- R88: EN resets to 1 on DEV, TBS, SEM, PWR, SRL, ICU, HSP, HTW, HMP, TKT, NVS and DPWR. -/
def enReset (die page : Nat) : Nat :=
  if die = 0 then (if page ≤ 9 ∨ page = 0x14 then 1 else 0) else if page = 0x12 then 1 else 0

/-- R115, R116: the register pages that a die implements. -/
def implemented (die page : Nat) : Bool :=
  if die = 0 then decide (page ≤ 0x16) else decide (page ≤ 0x12)

/-- The block registers of a page (offsets 0x020 to 0xFFC). -/
def blockRows (die page : Nat) : List RegRow :=
  if die = 0 then
    match page with
    | 0x00 => dev
    | 0x01 => tbs
    | 0x02 => sem
    | 0x03 => pwr
    | 0x04 => srl
    | 0x05 => icu
    | 0x06 => hsp
    | 0x07 => htw
    | 0x08 => hmp
    | 0x09 => tkt
    | 0x0A => fco
    | 0x0B => ple
    | 0x0C => ssc
    | 0x0D => ssl
    | 0x0E => saf
    | 0x0F => rfx
    | 0x10 => rfc
    | 0x11 => sec
    | 0x12 => cal
    | 0x13 => bst
    | 0x14 => nvs
    | 0x15 => drn
    | 0x16 => gpp
    | _ => []
  else if 1 ≤ page ∧ page ≤ 10 then slc
  else
    match page with
    | 0x00 => fdc
    | 0x0B => rcv
    | 0x0C => xen
    | 0x0D => inv
    | 0x0E => cwt
    | 0x0F => dcal
    | 0x10 => dbst
    | 0x11 => ddrn
    | 0x12 => dpwr
    | _ => []

/-- The page type of PG_ID (R115, R116): slice pages all carry 0xF001. -/
def pageType (die page : Nat) : Nat :=
  if die = 0 then 0xA000 + page else if 1 ≤ page ∧ page ≤ 10 then 0xF001 else 0xF000 + page

/-- The header rows of a page. -/
def headerRows (die page : Nat) : List RegRow :=
  header (pageType die page) die (if die ≠ 0 ∧ 1 ≤ page ∧ page ≤ 10 then page - 1 else 0) (enReset die page)
    (evtMask die page)

/-- The array index of `off` in a register row, when the row covers it. -/
def index? (r : RegRow) (off : Nat) : Option Nat :=
  if off < r.off then none
  else if r.stride = 0 then (if off = r.off then some 0 else none)
  else if (off - r.off) % r.stride = 0 ∧ (off - r.off) / r.stride < r.count then some ((off - r.off) / r.stride)
  else none

/-- The first row that covers `off`, with the index. -/
def search : List RegRow → Nat → Option (RegRow × Nat)
  | [], _ => none
  | r :: rs, off =>
    match index? r off with
    | some i => some (r, i)
    | none => search rs off

/-- The register at an offset of a page (R78: none at an unassigned offset). -/
def lookup (die page off : Nat) : Option (RegRow × Nat) :=
  if implemented die page then
    if off < 0x020 then search (headerRows die page) off else search (blockRows die page) off
  else none

/-- The word that the reset values of a row's fields make. -/
def fieldsReset : List FieldRow → Nat
  | [] => 0
  | f :: fs => f.reset * 2 ^ f.lo + fieldsReset fs

/-- The bits of a row's fields that have one of the given access codes. -/
def maskOf (p : Access → Bool) : List FieldRow → Nat
  | [] => 0
  | f :: fs => (if p f.access then (2 ^ (f.hi + 1 - f.lo) - 1) * 2 ^ f.lo else 0) + maskOf p fs

/-- The reset word of entry `i` of a row. -/
def rowReset (r : RegRow) (i : Nat) : Nat := (r.words[i]?).getD (fieldsReset r.fields)

/-- The reset word of the register at a host address (die, page, offset). -/
def reset (die page off : Nat) : Word :=
  match lookup die page off with
  | some (r, i) => BitVec.ofNat 32 (rowReset r i)
  | none => 0

end RegTable

end Sys2Proof.Machine
end

