-- ==== Sys2Proof/Machine/Store.lean ====
section
/-! DEFINITION. Sparse stores: lists of key and value pairs in one canonical form (keys strictly rising, no entry that
holds the value an unlisted key reads as), and the bytes of the memory windows kept the same way. -/

namespace Sys2Proof.Machine

variable {α : Type}

/-- The first entry of a key. -/
def Store.find? : List (Nat × α) → Nat → Option α
  | [], _ => none
  | (k', v) :: t, k => if k' = k then some v else Store.find? t k

/-- The store without a key. -/
def Store.erase (l : List (Nat × α)) (k : Nat) : List (Nat × α) := l.filter (fun e => e.1 != k)

/-- A new entry in its place among rising keys. -/
def Store.insert : List (Nat × α) → Nat → α → List (Nat × α)
  | [], k, v => [(k, v)]
  | (k', v') :: t, k, v => if k < k' then (k, v) :: (k', v') :: t else (k', v') :: Store.insert t k v

/-- A write that keeps the canonical form: `dflt` is what an unlisted key reads as. -/
def Store.put [DecidableEq α] (l : List (Nat × α)) (k : Nat) (dflt v : α) : List (Nat × α) :=
  if v = dflt then Store.erase l k else Store.insert (Store.erase l k) k v

/-- A read: `dflt` is what an unlisted key reads as. -/
def Store.get (l : List (Nat × α)) (k : Nat) (dflt : α) : α := (Store.find? l k).getD dflt

/-- Keys strictly rising. -/
def Store.sorted : List (Nat × α) → Bool
  | [] => true
  | [_] => true
  | (k, _) :: (k', v') :: t => decide (k < k') && Store.sorted ((k', v') :: t)

/-- The canonical form of a memory: addresses strictly rising and no entry that reads as an unlisted byte (0). -/
def Memory.wf (m : List Host.Cell) : Bool := Store.sorted m && m.all (fun c => c.2 != 0)

/-- A byte of the memory windows; a byte that nothing has written reads 0 (assumption log). -/
def Memory.readByte (m : List Host.Cell) (a : Nat) : Byte := Store.get m a 0

/-- A write of one byte. -/
def Memory.writeByte (m : List Host.Cell) (a : Nat) (b : Byte) : List Host.Cell := Store.put m a 0 b

/-- A window word, least significant byte at the lowest address (R334). -/
def Memory.readWord (m : List Host.Cell) (a : Nat) : Word :=
  BitVec.ofNat 32 ((Memory.readByte m a).toNat + 256 * (Memory.readByte m (a + 1)).toNat
    + 65536 * (Memory.readByte m (a + 2)).toNat + 16777216 * (Memory.readByte m (a + 3)).toNat)

/-- Byte `k` of a word, 0 the least significant. -/
def byteOf (w : Word) (k : Nat) : Byte := BitVec.ofNat 8 (w.toNat / 256 ^ k)

/-- A write of one window word. -/
def Memory.writeWord (m : List Host.Cell) (a : Nat) (w : Word) : List Host.Cell :=
  Memory.writeByte (Memory.writeByte (Memory.writeByte (Memory.writeByte m a (byteOf w 0)) (a + 1) (byteOf w 1))
    (a + 2) (byteOf w 2)) (a + 3) (byteOf w 3)

/-- A block of window words written from `a` upwards. -/
def Memory.writeWords (m : List Host.Cell) (a : Nat) : List Word → List Host.Cell
  | [] => m
  | w :: ws => Memory.writeWords (Memory.writeWord m a w) (a + 4) ws

/-- A block of `n` window words read from `a` upwards. -/
def Memory.readWords (m : List Host.Cell) (a : Nat) : Nat → List Word
  | 0 => []
  | n + 1 => Memory.readWord m a :: Memory.readWords m (a + 4) n

/-- The window words of a span cleared to 0: its bytes are no longer listed. -/
def Memory.clear (m : List Host.Cell) (a bytes : Nat) : List Host.Cell :=
  m.filter (fun c => decide (c.1 < a ∨ a + bytes ≤ c.1))

/-- `w` bits of a word from bit `lo`. -/
def bits (x : Word) (lo w : Nat) : Nat := (x.toNat / 2 ^ lo) % 2 ^ w

/-- Bit `i` of a word. -/
def bit (x : Word) (i : Nat) : Bool := x.getLsbD i

/-- The word with `w` bits from `lo` all one. -/
def maskBits (lo w : Nat) : Word := BitVec.ofNat 32 ((2 ^ w - 1) * 2 ^ lo)

/-- `x` with the `w` bits from `lo` replaced by those of `v`. -/
def putBits (x : Word) (lo w v : Nat) : Word :=
  (x &&& ~~~ maskBits lo w) ||| BitVec.ofNat 32 ((v % 2 ^ w) * 2 ^ lo)

/-- A word from a number. -/
abbrev word (n : Nat) : Word := BitVec.ofNat 32 n

/-- 1 for true, 0 for false. -/
def b2n (b : Bool) : Nat := if b then 1 else 0

/-- A field value as a two's complement number of `w` bits. -/
def signed (w v : Nat) : Int := if v < 2 ^ (w - 1) then v else (v : Int) - 2 ^ w

/-- An integer as a field of `w` bits, two's complement. -/
def field (w : Nat) (i : Int) : Nat := (i % (2 ^ w : Int)).toNat

/-- An integer saturated to a range. -/
def clampI (lo hi i : Int) : Int := if i < lo then lo else if hi < i then hi else i

end Sys2Proof.Machine
end

