-- ==== Sys2Proof/Machine/Types.lean ====
section
/-! DEFINITION. The kinds of hidden state: what the manual says the blocks remember besides their registers. Every
type is plain data. -/

namespace Sys2Proof.Machine

/-- The family members (R1). -/
inductive Part where
  | kf0802 | kf2404 | kf5608
  deriving DecidableEq, Repr

/-- Number of field dies of a part (R1). -/
def Part.fieldDies : Part → Nat
  | .kf0802 => 1
  | .kf2404 => 3
  | .kf5608 => 7

/-- The device states of R652. -/
inductive Device where
  | off | reset | deepSleep | watch | active
  deriving DecidableEq, Repr

/-- A host port: it keeps its own holds of RH pairs (R112) and its own open record (R143). -/
inductive HostPort where
  | hsp | htw
  deriving DecidableEq, Repr

/-- Timebase state outside the registers: the carried fraction (R60), the increment in use since the last sleep entry in
units of 2^-32 ticks, the armed flags (R67), the alarm low words held apart until the high word is written (R114), and
whether re-alignment is due (R62). -/
structure Timebase where
  frac : Nat := 0
  inc : Nat := 0x33BA3000000
  armed0 : Bool := false
  armed1 : Bool := false
  lo0 : Word := 0
  lo1 : Word := 0
  align : Bool := false
  deriving DecidableEq, Repr

/-- One seam: failures of the packet in flight per direction (R26), idle words sent since it was last trained (R28), loop-back passes in a row and
whether the return to UP waits for the round boundary (R41). -/
structure Seam where
  badCw : Nat := 0
  badCcw : Nat := 0
  idleCw : Nat := 0
  idleCcw : Nat := 0
  passes : Nat := 0
  restoring : Bool := false
  deriving DecidableEq, Repr

/-- The result that a record reports, for the records R44 has the coordinator write itself. -/
structure ResultId where
  kind : Nat
  port : Nat
  index : Nat
  user : Nat
  deriving DecidableEq, Repr

/-- What the completed write of a record does elsewhere: a reported departure clears its ticket (R614), a WATCH record
leaves its port (R425), a TAG instruction's record loads its list's variables (R536), a queued TX status its list
(R538). -/
inductive Note where
  | none
  | departure (ticket : Nat)
  | watch (die port : Nat)
  | tag (list : Nat)
  | radio (list : Nat)
  deriving DecidableEq, Repr

/-- A record that a field die keeps in its outbound buffer until the anchor has all of it (R35). `reserved` words of its
class are reserved for it, `xfer` is its transfer number. -/
structure OutRec where
  cls : Nat
  type : Nat
  time : Nat
  payload : List Word
  reserved : Nat
  xfer : Nat
  note : Note
  result : Option ResultId
  deriving DecidableEq, Repr

/-- A field die: the tags of the register accesses it has executed with their replies, and the reply it returned last
(R31), records waiting, the words of the first one that the anchor has received and those it has written into the hamper
(R34, R35), transfer numbers, whether its time copy is loaded (R58), whether it holds its slices OFF (R43, R52),
whether it is rejoining (R45), a RUN request not yet met (R288), the keep-alive words the anchor sent it since it was last
trained (R43), whether its watch oscillator was trimmed when it went to sleep (R658), and the solves that its unit has in
hand as port and slot (R389). -/
structure Die where
  replies : List (Nat × Word) := []
  lastReply : Word := 0
  out : List OutRec := []
  sent : Nat := 0
  written : Nat := 0
  nextXfer : Nat := 0
  acked : Nat := 0
  timeLoaded : Bool := false
  timeOffset : Int := 0
  heldOff : Bool := false
  rejoining : Bool := false
  runAsked : Bool := false
  keepAlive : Nat := 0
  watchOscTrimmed : Bool := false
  solves : List (Nat × Nat) := []
  deriving DecidableEq, Repr

/-- The settings of a granted user of a slice (R236): its USER code, the level in force and whether the request was
lowered (R202), depth, ramps and commanded phase. -/
structure Drive where
  user : Nat
  level : Nat
  clamped : Bool
  depth : Nat
  rampUp : Nat
  rampDn : Nat
  phase : Nat
  deriving DecidableEq, Repr

/-- A slice: the granted drive whose energise tick has not come, the pending restart (R227), a field-off held in
RAMP_UP or MODULATING (R226) or by the guard of R287 and whether the guard holds it (a shut-down under R43 or R52 is not
held), an OPEN_LOAD fault due after the guard (R231), a TEST held until OFF (R240), a CW period from its energise on
(R241, R242), a CW request waiting for its grant, the instant from which the output phase moves (R214), and the instant and
the level from which the amplitude moves to the one asked for (R209, R210). -/
structure Slice where
  want : Option Drive := none
  restart : Option Drive := none
  offHeld : Bool := false
  offAbort : Bool := false
  openFault : Bool := false
  testHeld : Bool := false
  cw : Bool := false
  cwAsked : Bool := false
  slewAt : Nat := 0
  moveAt : Nat := 0
  moveFrom : Nat := 0
  deriving DecidableEq, Repr

/-- A member of a chain as snapshotted at the candidate's start (R87, R247): descriptor index, its eight words and the
bytes of its TX frame. -/
structure Member where
  index : Nat
  desc : List Word
  frame : List Byte
  deriving DecidableEq, Repr

/-- Where a candidate comes from (R246). -/
inductive Origin where
  | round (plan ref : Nat)
  | host
  | list (n : Nat)
  | probe
  | cal (kind unit : Nat)
  | test (kind unit : Nat)
  | cw
  deriving DecidableEq, Repr

/-- A waiting candidate: die, port (the slice for CW, calibration and test work), chain members, level in force, credits
needed per class, base priority (−1: below 0), the eighths of its ageing period it has waited (R261), candidate time
and order, whether it is forced to AGED (R710) or tried ahead of the others (R709), whether it waits for budget or
credits, the classes whose hamper OVERSIZE was raised for it (R591), and whether OVERSIZE of R265 was. -/
structure Cand where
  origin : Origin
  die : Nat
  port : Nat
  members : List Member
  level : Nat
  res : List Nat
  prio : Int
  eighths : Nat
  since : Nat
  order : Nat
  forced : Bool
  first : Bool
  budgetWait : Bool
  creditWait : Bool
  overRes : List Nat
  oversizeSeen : Bool
  deriving DecidableEq, Repr

/-- A reference of a running round: waiting for its turn, a candidate or an admitted exchange on the port of its snapshot
(R87, R253), or completed. -/
inductive RefState where
  | waiting
  | active (port : Nat)
  | done
  deriving DecidableEq, Repr

/-- A running round on its snapshot (R251). -/
structure PlanRun where
  plan : Nat
  refs : List (Nat × RefState)
  setLo : Nat
  setHi : Nat
  prio : Nat
  period : Nat
  deriving DecidableEq, Repr

/-- A field hold (R352): the held level, its beginning (for the order of R353). -/
structure Hold where
  level : Nat
  begun : Nat
  deriving DecidableEq, Repr

/-- What a sync event tells the rinse of a listing port about the source (R286, R319): switched on at a level and phase,
off, a new level (R210) or a new target phase (R214). -/
inductive TermChange where
  | on (level phase : Nat)
  | off
  | level (l : Nat)
  | phase (p : Nat)
  deriving DecidableEq, Repr

/-- A sync event on its way to the rinse of a port (R286): the listing aerial port, its adjacency entry, the change. -/
structure TermEvent where
  port : Nat
  entry : Nat
  change : TermChange
  deriving DecidableEq, Repr

/-- The coordinator: waiting candidates, running rounds, plan start instants, the FCO_RUN queue entries that wait as
candidates are marked by `origin`; consecutive over-limit evaluations (R272), the ordinal for candidate times, and
whether the thermal and supply figures were evaluated. -/
structure Coord where
  /-- Thermal factor of R271 in units of 1/320, and whether a thermal stop holds. -/
  thermal : Nat := 320
  cands : List Cand := []
  runs : List PlanRun := []
  starts : List (Nat × Nat) := []
  order : Nat := 0
  /-- The instant of the last round start or completion (R291). -/
  edge : Option Nat := none
  overV : Nat := 0
  overT : Nat := 0
  idleSent : Bool := false
  /-- Aerial ports whose first SLICE run since reset or rejoin has ended (R705). -/
  released : List Nat := []
  /-- Dies that wait for a DIE run to accept LINE_OFS (R705). -/
  lineBlocked : List Nat := []
  /-- Sync events of R286 that have not reached their rinse, oldest first. -/
  termEvents : List TermEvent := []
  /-- Level and target phase that the rinse of a port holds for a neighbour term (R319), by 4 × port + entry. -/
  terms : List (Nat × (Nat × Nat)) := []
  /-- The anchor's junction temperature in 0.1 °C (R697). -/
  anchorTemp : Int := 0
  /-- A run-time profile load drains: no candidate is admitted and no round starts (R768). -/
  loading : Bool := false
  deriving DecidableEq, Repr

/-- A request of an inventory round (R383). -/
structure InvReq where
  sixteen : Bool
  mask : Nat
  len : Nat
  deriving DecidableEq, Repr

/-- A UID found in a round (R382) with what its record entry carries (R402). -/
structure FoundTag where
  uid : Nat
  dsfid : Nat
  sep : Bool
  slot : Nat
  ticket : Nat
  ampl : Nat
  angle : Nat
  rstat : Nat
  data : List Byte
  time : Nat
  arrival : Bool
  lastSeen : Nat
  deriving DecidableEq, Repr

/-- An unclear slot of the running request: being solved or waiting for a solver, with the usable streams of the slot,
the serving one included (R389); resolved or not (R391). -/
inductive SlotState where
  | solving (streams : Nat)
  | resolved
  | unresolved
  deriving DecidableEq, Repr

/-- The frames of an inventory round (R378). -/
inductive InvFrame where
  | request
  | slotEof
  | read (uid : Nat)
  | quiet (uid : Nat)
  deriving DecidableEq, Repr

/-- An inventory round (R379 to R386): the stack, the running request, the frame sent or due, the slot, the unclear
slots, the UIDs of this request (those found by separation also in `sepUids`), the follow-up frames left, what was
found, the counts of the record, listeners broken in this slot (R388), whether one stopped under R40, the reference
instants of the first and the running request, what made the round incomplete, and the tickets seen (R399). -/
structure Inv where
  stack : List InvReq := []
  cur : InvReq := { sixteen := false, mask := 0, len := 0 }
  frame : InvFrame := .request
  slot : Nat := 0
  unclearSlots : List (Nat × SlotState) := []
  newUids : List Nat := []
  sepUids : List Nat := []
  follow : List InvFrame := []
  found : List FoundTag := []
  requests : Nat := 0
  unclear : Nat := 0
  sepTried : Nat := 0
  sepOk : Nat := 0
  streamsLost : Nat := 0
  broken : List Nat := []
  stopped : Bool := false
  firstRef : Option Nat := none
  reqRef : Nat := 0
  unfound : Bool := false
  maskFull : Bool := false
  seen : List Nat := []
  deriving DecidableEq, Repr

/-- The outcome of an exchange's last attempt: status (R354), the stored bytes and bits, the position of the first
collision when one was seen (R357), TRUNC. -/
structure Result where
  status : Nat := 1
  data : List Byte := []
  bits : Nat := 0
  coll : Option Nat := none
  trunc : Bool := false
  deriving DecidableEq, Repr

/-- An activation sequence (R368 to R372): the command awaiting its reply, cascade level, UID bits known so far, data
collected, slot number and slot maps. -/
inductive ActStep where
  | request | anticollision | select | slot
  deriving DecidableEq, Repr

structure Act where
  step : ActStep := .request
  level : Nat := 1
  bits : List Bool := []
  atqa : List Byte := []
  uid : List Byte := []
  sak : Byte := 0
  slot : Nat := 1
  valid : Nat := 0
  collided : Nat := 0
  entries : List Byte := []
  collPos : Option Nat := none
  deriving DecidableEq, Repr

/-- The steps of an exchange (chapter 08, table Steps of an exchange). `gap` is the turnaround gap before a retry,
`linkGap` the one of R342 before the first frame, `next` the gap before the next frame of a sequence, `solve` the wait
for separation (R384). -/
inductive Phase where
  | energise | settle | transmit | listen | gap | linkGap | next | solve | records | probing | working
  deriving DecidableEq, Repr

/-- How a reply start was judged (R344). -/
inductive Timing where
  | accepted | early | late
  deriving DecidableEq, Repr

/-- An admitted exchange, probe or other granted work on a port: `level` and `partnerLevel` are what it counts against the
budget on its own and its partner's slice (R255, R280); `heard` is the last reply start that its running attempt found, with
amplitude and angle (R357); `sat` names the aerial ports whose chain had a saturated sample (R303); `recXfer` is the transfer
number of a round's result record (R379); `last` is what its last attempt stored. -/
structure Exch where
  origin : Origin
  members : List Member
  cur : Nat
  prio : Int
  admitted : Nat
  level : Nat
  res : List Nat
  phase : Phase
  attempt : Nat
  reference : Option Nat
  fdt : Option Nat
  timing : Timing
  ampl : Nat
  angle : Nat
  heard : Option (Nat × Nat × Nat) := none
  sat : List Nat
  recXfer : Nat := 0
  eofSent : Bool
  listeners : List Nat
  listenersHeld : Nat
  partner : Option Nat
  partnerLevel : Nat := 0
  act : Act
  inv : Inv
  last : Result := {}
  deriving DecidableEq, Repr

/-- A watched port (chapter 10): the state held under SUSPENDED, trackers with 16 fractional bits, LEARN sums and
count, whether probed since OFF, whether a commit has changed LEVEL or BURST since the last LEARN, the latest ΔA, ΔP, AMPL and DETUNE (newest first), whether the detection is reported, the probes since
the last record, the pending record, and whether a new baseline is due (R417); with it what else a port keeps: whether
new rinse coefficients are due (R316) and for which neighbour terms, when and at which temperature the last were taken (R325), and the neighbour terms
that become stale at its next exchange boundary (R317). -/
structure Watch where
  saved : Nat := 0
  trkA : Int := 0
  trkP : Int := 0
  sumA : Int := 0
  sumP : Int := 0
  learned : Nat := 0
  probed : Bool := false
  relearn : Bool := false
  deltas : List (Int × Int × Int × Int) := []
  reported : Bool := false
  probes : Nat := 0
  pendingRec : Option (Nat × List Word) := none
  probing : Bool := false
  refresh : Bool := false
  rinse : Bool := false
  rinseTerms : Nat := 0
  rinseTime : Nat := 0
  rinseTemp : Int := 0
  staleDue : Nat := 0
  deriving DecidableEq, Repr

/-- A record in a class region (R596 to R600): SEQ, length, the words written, how many of them are consumed, the region
position of its header, the die that sends it (0: the anchor), the words still reserved for it, its note, and
whether its eligibility was counted (R628). -/
structure Rec where
  seq : Nat
  len : Nat
  words : List Word
  consumed : Nat
  pos : Nat
  die : Nat
  reserved : Nat
  note : Note
  counted : Bool
  deriving DecidableEq, Repr

/-- A record of the anchor that waits because a record of its class is being written (R597). -/
structure PendRec where
  type : Nat
  time : Nat
  payload : List Word
  reserved : Nat
  note : Note
  deriving DecidableEq, Repr

/-- A class of the hamper: the three counts of R587, the pointers of R584, the records oldest first, records waiting for
the one being written, the next SEQ, FROZEN (R593) and the port a record is open to (R143). -/
structure HClass where
  free : Nat := 0
  reserved : Nat := 0
  occupied : Nat := 0
  wptr : Nat := 0
  rptr : Nat := 0
  recs : List Rec := []
  waiting : List PendRec := []
  nextSeq : Nat := 0
  frozen : Bool := false
  openTo : Option HostPort := none
  deriving DecidableEq, Repr

/-- A queued system record (R604): FAULT carries its code, die and details, built into words when it is
written; a report is a WAKE_REPORT, CAL_REPORT or TEST_REPORT (R667, R719, R738). -/
inductive SysRec where
  | fault (code die : Nat) (d0 d1 : Word) (time : Nat)
  | mark (cls : Nat) (data : Word) (time : Nat)
  | report (cls type : Nat) (payload : List Word) (time : Nat)
  deriving DecidableEq, Repr

/-- A ticket entry (R610), kept by its four words. -/
structure Ticket where
  lo : Word := 0
  hi : Word := 0
  ctl : Word := 0
  last : Word := 0
  deriving DecidableEq, Repr

/-- A temperature point of a calibration set (R694): its temperature in 0.1 °C and the values it holds, keyed by
16 × quantity + part (part 0 and 1: I and Q; for RINSE_NBR entry k: 2k and 2k + 1). -/
structure CalPoint where
  temp : Int
  vals : List (Nat × Int)
  deriving DecidableEq, Repr

/-- A calibration set (R716). -/
structure CalSet where
  lastTemp : Int := 0
  port : Nat := 255
  seq : Nat := 0
  adj : Word := 0
  watch : Word := 0
  points : List CalPoint := []
  deriving DecidableEq, Repr

/-- A calibration target (R702 to R704): DUE and since when, AGED by CAL_MAXDEFER (R710), a run in progress, whether it
is (or the run was) made DUE by a relock or rejoin (R690, R705), the temperature from which a failed reference check
re-arms it (R690), the adjacency in force when the run became a candidate (R701) and the instant the sets were last
stored since the last save. -/
structure CalTarget where
  due : Bool := false
  since : Nat := 0
  aged : Bool := false
  running : Bool := false
  line : Bool := false
  runLine : Bool := false
  armTemp : Option Int := none
  adj : Word := 0
  dirty : Bool := false
  deriving DecidableEq, Repr

/-- A unit under test (R728, R729): requested, its candidate admitted, running, the result of its last test (15: none
since reset), and when that test ended. -/
structure TestUnit where
  requested : Bool := false
  granted : Bool := false
  running : Bool := false
  last : Nat := 15
  ended : Nat := 0
  deriving DecidableEq, Repr

/-- A swap in progress (R744): its port, the spare asked for (15: any), the outgoing slice, the EN its page had, and the
spares that failed the test of R740. -/
structure Swap where
  die : Nat
  port : Nat
  spare : Nat
  outgoing : Option Nat
  outEn : Bool
  passed : List Nat
  deriving DecidableEq, Repr

/-- The darning control (chapter 19): swaps in progress, faulted slices whose network is being judged (R741), the start-up
self-test's units left and whether one did not pass, and the field and factory maps in the NV store (ports as die and
slice keys). -/
structure Darn where
  swaps : List Swap := []
  judging : List Nat := []
  startup : List Nat := []
  startupBad : Bool := false
  deriving DecidableEq, Repr

/-- The hamper outside its classes: the system queue, causes merged since the last FAULT record (R605), the flow pin
FLOWA, whether class 3 was non-empty (R601, R602), and whether OVERSIZE was raised for the record at the head (R591). -/
structure Hamper where
  sysq : List SysRec := []
  merged : Nat := 0
  flowA : Bool := false
  urgent : Bool := false
  tooBig : Bool := false
  deriving DecidableEq, Repr

/-- A background operation of the NV store that ends with NV_OP_DONE (R757, R774): an erase of a slot, the program of a
word, the lock block, the debug lock, a store of the frame counter (R497), or of a calibration set (R718). -/
inductive NvOp where
  | calSet (key : Nat) (set : CalSet)
  | eraseSlot (slot : Nat)
  | program (slot offset : Nat) (w : Word)
  | regLock (words : List Word)
  | debugLock
  | counter (v : Nat)
  | calSave
  | snapSave
  | darnMap
  deriving DecidableEq, Repr

/-- What the NV store and the one-time array keep, as far as blocks read it back: calibration sets (R718), the field
darning map as darned slices and ports (16 × die + unit; slice 15: no slice), and the factory map (R739, R748). -/
structure Nv where
  cal : List (Nat × CalSet) := []
  fieldDarn : List Nat := []
  fieldPorts : List (Nat × Nat) := []
  factoryDarn : List Nat := []
  txCtr : Nat := 0
  ops : List NvOp := []
  /-- Programmed words of the profile slots, key 16,384 × slot + word; a word that is not listed is erased. -/
  slots : List (Nat × Word) := []
  /-- The regulatory lock block: its 17 words, whether LOCKED is programmed, whether it is torn (R761, R762). -/
  lockWords : List Word := []
  lockDone : Bool := false
  torn : Bool := false
  debugLock : Bool := false
  /-- The ticket snapshot, none while it is not complete (R620), and memory rows remapped per bank (R749). -/
  snap : Option (List (Nat × Ticket)) := none
  /-- The entries that the running save has copied so far (R620). -/
  saving : List (Nat × Ticket) := []
  remaps : List (Nat × Nat) := []
  /-- Memory rows that the factory remapped per bank, in one-time NV (R749). -/
  factoryRows : List (Nat × Nat) := []
  /-- The kinds of test without an expected signature in one-time NV, as 256 × kind + die (R731). -/
  noExpect : List Nat := []
  deriving DecidableEq, Repr

/-- The interrupt controller outside its registers: events of field-die sources on their way (R631), the asynchronous
latches of R634 as source and event bit, the slot each target claimed last, and after a run-time load the staged map of
the sources in service and the sources left unmapped until such a slot is free (R770). -/
structure Icu where
  travel : List (Nat × Nat) := []
  latches : List (Nat × Nat) := []
  claims : List (Nat × Nat) := []
  /-- The IRQ lines of the last evaluation before the island stopped (R641). -/
  lines : Nat := 0
  staged : List (Nat × Word) := []
  unmapped : List (Nat × Nat) := []
  deriving DecidableEq, Repr

/-- The phases of a sleep entry (R655 to R659). -/
inductive EntryPhase where
  | none | drain | prepare
  deriving DecidableEq, Repr

/-- The power manager: the sleep target and time of the request, whether PREPARE waits for the supply, the instant of
the commit cycle, the waking domains that are ready, the wake in progress, banks found failed, watch records lost, banks
without enough spare rows (R749), and the words of the GPP page and of SSC_SELCFG that the held GP and SENSOR groups show
(R673). -/
structure Power where
  phase : EntryPhase := .none
  toWatch : Bool := false
  frozenHolders : Option Nat := none
  sleptAt : Nat := 0
  waking : Bool := false
  frontReady : Bool := true
  wakeSrc : Nat := 0
  wakeDetail : Nat := 0
  wakeFrom : Nat := 0
  wakeTime : Nat := 0
  failed : List Nat := []
  lostWatch : Nat := 0
  badBanks : List Nat := []
  padLatch : List Word := []
  /-- SSCK and SSDO as the held SENSOR group shows them; none: high impedance (R673). -/
  sscLatch : Option (Bool × Bool) := none
  /-- The steps of PREPARE after its supply request have run (R658). -/
  prepared : Bool := false
  /-- The CRC-32 stored for each retention bank, by 256 × die + bank (R670). -/
  crcs : List (Nat × Nat) := []
  /-- The anchor has passed its wake steps (R664). -/
  anchorReady : Bool := true
  deriving DecidableEq, Repr

/-- A supply request (R678). -/
structure SupplyReq where
  cmd : Nat
  value : Nat
  deriving DecidableEq, Repr

/-- The supply request link: the request in flight and the frame's target, the waiting one, the target in force. -/
structure Supply where
  flight : Option SupplyReq := none
  sent : Nat := 0
  waiting : Option SupplyReq := none
  inForce : Option Nat := none
  deriving DecidableEq, Repr

/-- A radio command in the queue (R474): the fields of RFC_CMD and the poll list whose RADIO instruction queued it. -/
structure RadioCmd where
  code : Nat
  after : Nat
  pri : Bool
  template : Nat
  channel : Nat
  ticket : Nat
  list : Option Nat
  deriving DecidableEq, Repr

/-- A TX command that has its credit and passed its checks (R480, R481): its class, template byte 1 and payload as
snapshotted (R85), the security level and key of a secured frame, the LENGTH on air, power in force and whether it is
clamped, sub-band; from the ramp start the bytes sent after the header, the frame counter, the charge in µs and the
instant of the first chip; and the mask points violated by the last measurement. -/
structure TxRun where
  cls : Nat
  flags : Nat
  body : List Byte
  secure : Option (Nat × Nat × List Word)
  len : Nat
  power : Nat
  clamped : Bool
  subband : Nat
  started : Bool := false
  frame : List Byte := []
  fcnt : Nat := 0
  charge : Nat := 0
  firstChip : Nat := 0
  maskBad : List Nat := []
  deriving DecidableEq, Repr

/-- A reception from its start-of-frame word (R449 to R460): NOQUAL, COEX, the end of the word, class and words reserved,
the header (the length byte in Isari mode) once received, carrier offset, noise and Isari mode. -/
structure RxRun where
  noqual : Bool
  coex : Bool
  time : Nat
  cls : Nat
  reserved : Nat
  header : Nat
  fofs : Int
  noise : Option Int
  isari : Bool
  deriving DecidableEq, Repr

/-- The radio (chapters 11 and 12): the command queue, its head running or waiting for credit, the transmission, the
target state and hop entry still to be reached, hop entries to calibrate, the background calibration (R713), the entries calibrated at start-up (R477), CXPRI, the reception, the RSSI
last seen in SEARCH in 0.5 dB, the duty clock and charges (sub-band, second, µs; R493), the key slots and the key
operations that wait for a frame (R499). -/
structure Radio where
  queue : List RadioCmd := []
  running : Bool := false
  creditSeen : Bool := false
  tx : Option TxRun := none
  goal : Option (Nat × Nat) := none
  calLeft : List Nat := []
  hopRun : Option Nat := none
  startup : List Nat := []
  cxpri : Bool := false
  rx : Option RxRun := none
  noise : Option Int := none
  second : Nat := 0
  charges : List (Nat × Nat × Nat) := []
  keys : List (Nat × List Word) := []
  keyOps : List (Nat × List Word) := []
  deriving DecidableEq, Repr

/-- What a poll list waits for (R518): the end of a WAIT, credit for an EMIT, room in a queue, or the end of an I/O
instruction (a LISTEN with the end of its TO). -/
inductive PleWait where
  | none
  | time (due : Nat)
  | credit
  | room
  | spi
  | listen (due : Nat)
  | adc
  | tag
  | radio
  deriving DecidableEq, Repr

/-- A run of a poll list (R509, R539): the PRIO, START and LAST it started with, the word of its next instruction, the
flags of R526, instructions executed, the event time T and what it waits for. -/
structure PleRun where
  prio : Nat
  start : Nat
  last : Nat
  pc : Nat
  flags : Nat
  steps : Nat
  time : Nat
  wait : PleWait
  deriving DecidableEq, Repr

/-- A poll list: its run, its pending trigger (instant and argument, R510), the next due time (R512), FAULTED (R519), and
the last instant at which triggers were counted missed, with their number (R516). -/
structure PleList where
  run : Option PleRun := none
  pend : Option (Nat × Word) := none
  due : Option Nat := none
  faulted : Bool := false
  missed : Nat × Nat := (0, 0)
  deriving DecidableEq, Repr

/-- A trigger cause of R511 at the device time `at`: its trigger kind and what it brings (kind 2: comparator and edge, 3: the
source list, 4: event and port, 0: the one list that a start names), the instant T and the argument of the run (R509,
R515). -/
structure PleCause where
  time : Nat
  kind : Nat
  a : Nat
  b : Nat
  instant : Nat
  arg : Word
  deriving DecidableEq, Repr

/-- The poll engine: the lists, for each PRIO the list that executed last (R518; none: 31), the trigger causes of the present
instant (R516), and the variables that the last instruction wrote, with the instant (R524). -/
structure Ple where
  lists : List (Nat × PleList) := []
  last : List (Nat × Nat) := []
  causes : List PleCause := []
  wrote : List Nat := []
  wroteAt : Nat := 0
  deriving DecidableEq, Repr

/-- A sensor serial entry (R549): its template, and a host entry's buffer and tag or a poll entry's list. -/
structure SscEntry where
  template : Nat
  buf : Nat
  tag : Nat
  list : Option Nat
  deriving DecidableEq, Repr

/-- The sensor serial controller: the queue with the entry that runs at its head, the template words in force when it
started (R542), the instant of its start and the input words of its data phase (R551), the select asserted, the bits of each of its transfers on SSDO (R543, R547), the clock mode of the last
entry that moved a pin (R544), the done FIFO (tag and status) and the results that
poll lists have not taken (list, status, input, release of the select). -/
structure Ssc where
  queue : List SscEntry := []
  running : Bool := false
  begun : Nat := 0
  input : List Word := []
  tmpl : List Word := []
  sel : Option Nat := none
  sent : List (List Bool) := []
  mode : Nat := 0
  done : List (Nat × Nat) := []
  results : List (Nat × Nat × List Word × Nat) := []
  deriving DecidableEq, Repr

/-- The listener: whether a message is in progress (R557, R560), the word in progress (its bits so far, the instant of its
first capturing edge, whether SLRDY was low at it; R559, R562), the words of the record being filled (bit count and word),
whether the next record begins a message, the first edge of its first word, the reservation held and the next record's
(class and words; R563, R564), the poll FIFO (bit count, word, instant, whether it is a partial word), and whether
OVERSIZE was raised for the reservation it waits for (R591). -/
structure Ssl where
  active : Bool := false
  part : List Bool := []
  start : Nat := 0
  took : Bool := false
  words : List (Nat × Word) := []
  first : Bool := true
  time : Nat := 0
  held : Option (Nat × Nat) := none
  next : Option (Nat × Nat) := none
  fifo : List (Nat × Word × Nat × Bool) := []
  tooBig : Bool := false
  deriving DecidableEq, Repr

/-- The analogue inputs: the conversion requests in order (channel, conversions, poll list or host) and the comparators
strobed since they were enabled (R573). -/
structure Saf where
  reqs : List (Nat × Nat × Option Nat) := []
  primed : List Nat := []
  deriving DecidableEq, Repr

/-- The host serial port: the status byte it sampled last, the bits of HSDO in the last frame, one for each clock (R121), and
the data words among them, ERR (R124), HSEL low (R656), a STATUS frame that goes on (R125), and a READ (false) or
HAMPER_READ (true) frame in its token phase with its address or mask. -/
structure Hsp where
  selLow : Bool := false
  status : Nat := 0
  line : List Bool := []
  out : List Word := []
  statusOn : Bool := false
  err : Bool := false
  frame : Option (Bool × Nat) := none
  deriving DecidableEq, Repr

/-- A window access that the two-wire port stretches the clock for (R169): a read, or a write of a word. -/
inductive Stretch where
  | read (addr : Nat)
  | write (addr : Nat) (value : Word)
  deriving DecidableEq, Repr

/-- The host two-wire port: pointer and window (R161, R170), class mask, the grant as classes of its words and as its bytes,
bytes sent of the word in the stream, the transfer in progress (between START and STOP, whether it reads, the cause of its
rejection, whether it is addressed to the device since its last START, whether its next written byte is the pointer (R161),
the word being assembled with its address, the words read in it, the stretch, whether a stretch has timed out), ERR, the
bytes of the last read, whether the bus is free, the attention conditions as last seen, the attention in progress, its
back-off, the depth that its byte 3 took (R190) and its bytes. -/
structure Htw where
  pointer : Nat := 0
  base : Nat := 0
  hi : Nat := 0
  mid : Nat := 0
  lo : Nat := 0
  hmask : Nat := 15
  grant : Option (List Nat) := none
  grantWord : Word := 0
  streamed : Nat := 0
  busy : Bool := false
  reading : Bool := false
  code : Nat := 0
  served : Bool := false
  fresh : Bool := false
  wbuf : Option (Nat × List Byte) := none
  rbuf : List (Nat × Word) := []
  stretch : Option Stretch := none
  dead : Bool := false
  err : Bool := false
  out : List Byte := []
  busFree : Bool := false
  levels : Nat := 0
  attn : Option Nat := none
  backoff : Bool := false
  depth : Option Nat := none
  sent : List Nat := []
  deriving DecidableEq, Repr

/-- The steps of a run-time profile load (R768). -/
inductive LoadPhase where
  | check | drain | staged
  deriving DecidableEq, Repr

/-- A run-time profile load: its slot and step, the radio state to return to and the staged words of RW
fields. -/
structure Load where
  slot : Nat
  phase : LoadPhase
  radio : Option (Nat × Nat) := none
  held : List (Nat × Word) := []
  deriving DecidableEq, Repr

end Sys2Proof.Machine
end

