-- ==== Sys2Proof/Machine/State.lean ====
section
/-! DEFINITION. The state of the block: every register of every page (in `regs`, at its host address, an unlisted
register holding its reset value), the shadows, the memory windows, and what the manual says the blocks hold besides. -/

namespace Sys2Proof.Machine

/-- The state. -/
structure State where
  /-- The family member (R1). -/
  part : Part
  /-- The device state of R652 and READY of the host status byte (R123). -/
  device : Device
  ready : Bool
  /-- IOSEL as it was sampled at the last power-up: the I/O rail is 3.3 V, else 1.8 V (R785). -/
  rail33 : Bool
  /-- EPOCH of the status byte (R15). -/
  epoch : Bool
  /-- Device time in ticks (R57). -/
  time : Nat
  /-- Register words by host address (R75); an unlisted register holds its reset value. -/
  regs : List (Nat × Word)
  /-- Written shadows of registers with RWS fields (R99); none for an unlisted one. -/
  shadow : List (Nat × Word)
  /-- RH holds per host port (R111 to R113) and the HMP holds of R594: key 2^24 × port + address. -/
  holds : List (Nat × Word)
  /-- The bytes of the memory windows (R85) by host address; an unlisted byte reads 0. -/
  mem : List Host.Cell
  tb : Timebase
  seams : List (Nat × Seam)
  dieX : List (Nat × Die)
  slices : List (Nat × Slice)
  exchs : List (Nat × Exch)
  fieldHolds : List (Nat × Hold)
  watches : List (Nat × Watch)
  coord : Coord
  classes : List (Nat × HClass)
  hamper : Hamper
  /-- Tickets by index (R609); an unlisted entry is FREE. -/
  tickets : List (Nat × Ticket)
  /-- Tickets whose departure is decided and not yet reported, oldest first (R400). -/
  departs : List Nat
  /-- Calibration sets (R715): key 16 × die + slice, 16 × die + 15 the die's, 0 the anchor's, 0x1000 + n hop entry n's;
  an unlisted set is empty. -/
  calSets : List (Nat × CalSet)
  /-- The regulatory lock block in force since the last reset: its 17 words, or none while it is not locked (R492). -/
  lockBlock : List Word
  /-- Records written for a poll list's TAG (key n) or RADIO (key 32 + n), until the list takes their words. -/
  recDone : List (Nat × List Word)
  /-- Calibration targets by the key of their set, tests by 65,536 × kind + 256 × die + unit, and the darning control. -/
  cal : List (Nat × CalTarget)
  tests : List (Nat × TestUnit)
  darn : Darn
  nv : Nv
  icu : Icu
  power : Power
  supply : Supply
  radio : Radio
  ple : Ple
  ssc : Ssc
  ssl : Ssl
  saf : Saf
  hsp : Hsp
  htw : Htw
  /-- A run-time profile load in progress (R768). -/
  load : Option Load
  /-- Page bookkeeping: the STATE a page was in before its test (R92), ports that took a pending commit (R109). -/
  testFrom : List (Nat × Nat)
  commitPorts : List (Nat × Nat)
  /-- Free values used so far (the model's own counter: it numbers the values the manual leaves open). -/
  free : Nat
  /-- The commands that wait, first in, first out. -/
  pending : List Instr
  deriving DecidableEq, Repr

/-- The classes of the hamper at reset: every word free (R586). -/
def resetClasses : List (Nat × HClass) :=
  [(0, { free := 16384 }), (1, { free := 32768 }), (2, { free := 8192 }), (3, { free := 8192 })]

/-- The state after reset: every register at its reset value, every store empty. -/
def State.reset : State where
  part := .kf5608
  device := .reset
  ready := false
  rail33 := false
  epoch := true
  time := 0
  regs := []
  shadow := []
  holds := []
  mem := []
  tb := {}
  seams := []
  dieX := []
  slices := []
  exchs := []
  fieldHolds := []
  watches := []
  coord := {}
  classes := resetClasses
  hamper := {}
  tickets := []
  departs := []
  calSets := []
  lockBlock := []
  recDone := []
  cal := []
  tests := []
  darn := {}
  nv := {}
  icu := {}
  power := {}
  supply := {}
  radio := {}
  ple := {}
  ssc := {}
  ssl := {}
  saf := {}
  hsp := {}
  htw := {}
  load := none
  testFrom := []
  commitPorts := []
  free := 0
  pending := []

/-- Why a step stops with a fault. -/
inductive Fault where
  deriving DecidableEq, Repr

/-- Why a command is refused by the model. -/
inductive Refusal where
  /-- Raised by an arm of Dispatch.lean for a command that has no meaning yet: safe, nothing can be proved of it. -/
  | notModelled (mnemonic : String)
  deriving DecidableEq, Repr

end Sys2Proof.Machine
end

