-- ==== Sys2Proof/Machine/Ops.lean ====
section
/-! DEFINITION. The named operations over State that every block uses: registers and their shadows, page events and
errors, event counters, window memory, dies and ports. -/

namespace Sys2Proof.Machine

/-- What a meaning answers. -/
abbrev Out := Host.Outcome State Fault Refusal

/-- A free value: the next number the manual leaves open. -/
def State.fresh (s : State) : State × Nat := ({ s with free := s.free + 1 }, Config.freeNat s.free)

/-- The state after a command that answers a next state. -/
def State.run (s : State) (f : State → Out) : State :=
  match f s with
  | .next t => t
  | _ => s

/-- The host address of a register or window word (R75). -/
def hostAddr (die page off : Nat) : Nat := die * 1048576 + page * 4096 + off

/-- The word a register key resets to. -/
def resetAt (a : Nat) : Word := RegTable.reset (a / 1048576) (a / 4096 % 256) (a % 4096)

/-- The stored word of a register (R100: for RWS fields the value in force). -/
def State.reg (s : State) (die page off : Nat) : Word :=
  Store.get s.regs (hostAddr die page off) (resetAt (hostAddr die page off))

/-- A register word replaced. -/
def State.setReg (s : State) (die page off : Nat) (v : Word) : State :=
  { s with regs := Store.put s.regs (hostAddr die page off) (resetAt (hostAddr die page off)) v }

/-- A field of a register on a die. -/
def State.get (s : State) (die : Nat) (f : Fld) : Nat := bits (s.reg die f.page f.off) f.lo f.width

/-- A one-bit field as a truth value. -/
def State.flag (s : State) (die : Nat) (f : Fld) : Bool := s.get die f = 1

/-- A field of a register replaced; its neighbours keep their values. -/
def State.set (s : State) (die : Nat) (f : Fld) (v : Nat) : State :=
  s.setReg die f.page f.off (putBits (s.reg die f.page f.off) f.lo f.width v)

/-- The shadow of a register word; without one, the value in force (R99, R100). -/
def State.shadowWord (s : State) (die page off : Nat) : Word :=
  (Store.find? s.shadow (hostAddr die page off)).getD (s.reg die page off)

/-- A field as the shadow set has it. -/
def State.sget (s : State) (die : Nat) (f : Fld) : Nat := bits (s.shadowWord die f.page f.off) f.lo f.width

/-- R14: an event counter adds `n`; at its maximum it stays there and its sticky overflow flag is set. -/
def State.countUp (s : State) (die : Nat) (cnt ovf : Fld) (n : Nat) : State :=
  let v := s.get die cnt + n
  if 2 ^ cnt.width - 1 ≤ v then (s.set die cnt (2 ^ cnt.width - 1)).set die ovf 1 else s.set die cnt v

/-- R14: a count without a flag saturates. -/
def satAdd (w a b : Nat) : Nat := min (2 ^ w - 1) (a + b)

/-- R628: the interrupt source of a page. -/
def pageSource (die page : Nat) : Nat := if die = 0 then page else 140 + 40 * (die - 1) + page

/-- R628: sources 44 to 139 of the anchor and 19 to 39 of a field die are reserved. -/
def reservedSource (n : Nat) : Bool := if n < 140 then decide (44 ≤ n) else decide (19 ≤ (n - 140) % 40)

/-- R630: `n` events of a source are added to its COUNT; at 255 it stays and OVF is set. Answers whether it saturated
now, from a COUNT below 255. -/
def State.icuAdd (s : State) (src n : Nat) : State × Bool :=
  if reservedSource src ∨ 420 ≤ src then (s, false)
  else
    let v := s.get 0 (F.ICU_SRC_COUNT src) + n
    if 255 ≤ v then
      ((s.set 0 (F.ICU_SRC_COUNT src) 255).set 0 (F.ICU_SRC_OVF src) 1, decide (s.get 0 (F.ICU_SRC_COUNT src) < 255))
    else (s.set 0 (F.ICU_SRC_COUNT src) v, false)

/-- R630, R650: events counted at the interrupt controller; a saturation raises CNT_OVF there, itself an event of the
ICU's page source when it is enabled. -/
def State.icuCount (s : State) (src n : Nat) : State :=
  let (t, sat) := s.icuAdd src n
  if sat then
    let t := t.setReg 0 0x05 0x00C (t.reg 0 0x05 0x00C ||| 1)
    if bit (t.reg 0 0x05 0x010) 0 then (t.icuAdd 5 1).1 else t
  else t

/-- R631: events of a field-die source travel with its level change; those of an anchor source are counted at once. -/
def State.sourceEvent (s : State) (src n : Nat) : State :=
  if src < 140 then s.icuCount src n
  else { s with icu := { s.icu with travel := Store.put s.icu.travel src 0 (Store.get s.icu.travel src 0 + n) } }

/-- R641, R664: the interrupt island is stopped: the device sleeps, and the on-demand fronts of a wake are not ready yet. -/
def State.islandStopped (s : State) : Bool :=
  (s.device = .deepSleep ∨ s.device = .watch) && !(s.power.waking && s.power.frontReady)

/-- R634: the pages whose sources have an asynchronous latch, while the interrupt island is stopped. -/
def State.latched (s : State) (die page : Nat) : Bool :=
  s.islandStopped &&
    ((die = 0 && (page = 0x01 || page = 0x03 || page = 0x0E || page = 0x06 || page = 0x07)) ||
      (die ≠ 0 && page = 0x0E))

/-- An event bit of a page is set. -/
def State.setEvent (s : State) (die page evt : Nat) : State :=
  s.setReg die page 0x00C (s.reg die page 0x00C ||| BitVec.ofNat 32 (2 ^ evt))

/-- R634: a latched cause is presented: the page's event, one count, and level 1 at the controller. -/
def State.present1 (s : State) (die page evt : Nat) : State :=
  let s := (s.setEvent die page evt).icuCount (pageSource die page) 1
  if 140 ≤ pageSource die page ∧ pageSource die page < 420 then s.set 0 (F.ICU_SRC_LEVEL (pageSource die page)) 1 else s

/-- R94, R628: an event bit of a page is set, whether or not it was set before; when it is enabled, the page's source
counts one event. While the interrupt island is stopped an enabled cause goes to its asynchronous latch (R634), and one
that is not enabled is a raw event of its page (DEDUCED, log entry 107). The latch of a die whose logic clock alone is
stopped presents its cause at once. -/
def State.raise (s : State) (die page evt : Nat) : State :=
  let en := bit (s.reg die page 0x010) evt
  if s.latched die page then
    if en then { s with icu := { s.icu with latches := Store.put s.icu.latches (pageSource die page * 32 + evt) 0 1 } }
    else s.setEvent die page evt
  else if en && die != 0 && page == 0x0E && s.get die F.DPWR_STAT_PSTATE == 0 then s.present1 die page evt
  else
    let s := s.setEvent die page evt
    if en then s.sourceEvent (pageSource die page) 1 else s

/-- R97: an error is recorded in PG_FIRSTERR: the first one since the last clear gives CODE, every one adds to COUNT. -/
def State.err (s : State) (die page code : Nat) : State :=
  let s := if s.get die (F.PG_ERR_COUNT page) = 0 then s.set die (F.PG_ERR_CODE page) code else s
  s.countUp die (F.PG_ERR_COUNT page) (F.PG_ERR_OVF page) 1

/-- Number of field dies in the package. -/
def State.dies (s : State) : Nat := s.part.fieldDies

/-- R1, R48: the package contains the die. -/
def State.present (s : State) (die : Nat) : Bool := decide (die ≤ s.dies)

/-- A present field die. -/
def State.fieldDie (s : State) (die : Nat) : Bool := decide (1 ≤ die ∧ die ≤ s.dies)

/-- A field die that is reachable and in service (SEM_DIES.REACHABLE). -/
def State.inService (s : State) (die : Nat) : Bool :=
  s.fieldDie die && (s.get 0 F.SEM_DIES_REACHABLE).testBit (die - 1)

/-- SEM_DIES.LOCKED of a die. -/
def State.locked (s : State) (die : Nat) : Bool := (s.get 0 F.SEM_DIES_LOCKED).testBit (die - 1)

/-- Bit `i` of a field set or cleared. -/
def State.setBit (s : State) (die : Nat) (f : Fld) (i : Nat) (v : Bool) : State :=
  let old := s.get die f
  let base := if old.testBit i then old - 2 ^ i else old
  s.set die f (if v then base + 2 ^ i else base)

/-- The page's STATE (R91): 0 OFF, 1 STARTING, 2 ON, 3 DRAINING, 4 TESTING, 5 FAULT, 6 DARNED. -/
def State.pageState (s : State) (die page : Nat) : Nat := s.get die (F.PG_STATE page)

/-- The page is in service. -/
def State.pageOn (s : State) (die page : Nat) : Bool := s.pageState die page = 2

/-- The page is moved to a STATE. -/
def State.setPage (s : State) (die page st : Nat) : State := s.set die (F.PG_STATE page) st

/-- R20: die and port of an aerial port, and back. -/
def portDie (n : Nat) : Nat := n / 8 + 1

def portIx (n : Nat) : Nat := n % 8

def aerial (die p : Nat) : Nat := 8 * (die - 1) + p

/-- The hidden state of a die. -/
def State.die (s : State) (d : Nat) : Die := Store.get s.dieX d {}

def State.setDie (s : State) (d : Nat) (x : Die) : State := { s with dieX := Store.put s.dieX d {} x }

/-- The hidden state of a slice. -/
def sliceKey (d sl : Nat) : Nat := 16 * d + sl

def State.slice (s : State) (d sl : Nat) : Slice := Store.get s.slices (sliceKey d sl) {}

def State.setSlice (s : State) (d sl : Nat) (x : Slice) : State :=
  { s with slices := Store.put s.slices (sliceKey d sl) {} x }

/-- The admitted work of a port. -/
def portKey (d p : Nat) : Nat := 16 * d + p

def State.exch (s : State) (d p : Nat) : Option Exch := Store.find? s.exchs (portKey d p)

def State.setExch (s : State) (d p : Nat) (e : Exch) : State :=
  { s with exchs := Store.insert (Store.erase s.exchs (portKey d p)) (portKey d p) e }

def State.dropExch (s : State) (d p : Nat) : State := { s with exchs := Store.erase s.exchs (portKey d p) }

/-- The watch of a port. -/
def State.watchOf (s : State) (d p : Nat) : Watch := Store.get s.watches (portKey d p) {}

def State.setWatch (s : State) (d p : Nat) (w : Watch) : State :=
  { s with watches := Store.put s.watches (portKey d p) {} w }

/-- A window word. -/
def State.memWord (s : State) (a : Nat) : Word := Memory.readWord s.mem a

def State.setMemWord (s : State) (a : Nat) (w : Word) : State := { s with mem := Memory.writeWord s.mem a w }

/-- R60, R57: device time counts ticks and wraps at 64 bits. -/
def State.advance (s : State) (n : Nat) : State := { s with time := (s.time + n) % 2 ^ 64 }

/-- Ticks in a millisecond and a microsecond times 100 (27.12 MHz, R57). -/
def ticksPerMs : Nat := 27120

def usTicks (us : Nat) : Nat := us * 2712 / 100

/-- The low and high words of device time. -/
def loWord (t : Nat) : Word := BitVec.ofNat 32 t

def hiWord (t : Nat) : Word := BitVec.ofNat 32 (t / 2 ^ 32)

/-- A guard: a command whose condition does not hold has no effect (assumption log). -/
def State.when (s : State) (c : Bool) (f : State → State) : State := if c then f s else s

/-- The device is in ACTIVE. -/
def State.awake (s : State) : Bool := s.device = .active

/-- R90: a write to a page. While LOCK is 1 it is discarded and WRITE_LOCKED is recorded; the device takes writes in
ACTIVE only (R117). -/
def State.hostWrite (s : State) (die page : Nat) (f : State → State) : State :=
  if !s.awake then s else if s.flag die (F.PG_LOCK page) then s.err die page 1 else f s

/-- The bits of a register that a write can reach: every field but RO and RH ones. -/
def writableMask (die page off : Nat) : Word :=
  match RegTable.lookup die page off with
  | some (r, _) => BitVec.ofNat 32 (RegTable.maskOf (fun a => a != .ro && a != .rh) r.fields)
  | none => 0

/-- R805: a 1 written to a reserved bit or an RO field is recorded. -/
def State.writeRo (s : State) (die page off : Nat) (v : Word) : State :=
  if v &&& ~~~ writableMask die page off = 0 then s else s.err die page 2

/-- R109: a field as a port of a page that commits port by port has it: a port that has taken the pending commit sees the
shadow. -/
def State.portGet (s : State) (die port : Nat) (f : Fld) : Nat :=
  if (Store.get s.commitPorts (256 * die + f.page) 0).testBit port then s.sget die f else s.get die f

end Sys2Proof.Machine
end

