-- ==== Sys2Proof/Machine/Trigger.lean ====
section
/-! DEFINITION. Triggers of poll lists (chapter 13, R509 to R516): what starts a run, is latched or is counted missed. -/

namespace Sys2Proof.Machine

def State.pleList (s : State) (n : Nat) : PleList := Store.get s.ple.lists n {}

def State.setList (s : State) (n : Nat) (l : PleList) : State :=
  { s with ple := { s.ple with lists := Store.put s.ple.lists n {} l } }

/-- EN in force of a list. -/
def State.listOn (s : State) (n : Nat) : Bool := s.flag 0 (F.PLE_L_CFG_EN n)

/-- R510: a trigger counted as missed. -/
def State.pleMissed (s : State) (n : Nat) : State :=
  (s.countUp 0 (F.PLE_L_STAT_MISSED n) (F.PLE_L_STAT_OVF n) 1).raise 0 0x0B 1

/-- R509: a run starts at START with its argument; T is the instant of the trigger. -/
def State.pleStart (s : State) (n instant : Nat) (arg : Word) : State :=
  let r : PleRun :=
    { prio := s.get 0 (F.PLE_L_CFG_PRIO n), start := s.get 0 (F.PLE_L_CFG_START n), last := s.get 0 (F.PLE_L_CFG_LAST n),
      pc := s.get 0 (F.PLE_L_CFG_START n), flags := 0, steps := 0, time := instant, wait := .none }
  (s.setList n { s.pleList n with run := some r }).set 0 (F.PLE_ARG_ARG n) arg.toNat

/-- R515: the argument of a run. -/
def pleArg (cause event port index : Nat) : Word :=
  word (cause * 268435456 + event * 16777216 + port * 65536 + index)

/-- R510, R516: a trigger counted as missed, and the instant noted. -/
def State.pleMiss (s : State) (n : Nat) : State :=
  let l := s.pleList n
  (s.setList n { l with missed := (s.time, if l.missed.1 = s.time then l.missed.2 + 1 else 1) }).pleMissed n

/-- R509, R510: a trigger of a list: it starts a run, is latched as pending, or is missed. Asleep it is latched (R513), and
so it is while a profile load keeps the engine stopped (R768). -/
def State.pleTrigger (s : State) (n instant : Nat) (arg : Word) : State :=
  let l := s.pleList n
  if !s.listOn n ∨ !(s.pageOn 0 0x0B) then s
  else if l.faulted then s.pleMiss n
  else if l.run.isNone ∧ s.awake ∧ !s.coord.loading then s.pleStart n instant arg
  else if l.pend.isNone then s.setList n { l with pend := some (instant, arg) }
  else s.pleMiss n

/-- The pending trigger of an idle list starts its run (R510, R513). -/
def State.pleNext (s : State) (n : Nat) : State :=
  let l := s.pleList n
  if !s.awake ∨ s.coord.loading then s
  else match l.run, l.pend with
  | none, some (t, arg) => (s.setList n { l with pend := none }).pleStart n t arg
  | _, _ => s

/-- R511: a cause triggers a list: its kind is the list's and its selector takes it in, or it names the list. -/
def State.causeHits (s : State) (e : PleCause) (n : Nat) : Bool :=
  let sel := s.get 0 (F.PLE_L_TRIG_SEL n)
  match e.kind with
  | 0 => e.a == n
  | 2 => s.get 0 (F.PLE_L_TRIG_KIND n) == 2 && Nat.testBit sel e.a && Nat.testBit (sel / 16) (e.b - 1)
  | 3 => s.get 0 (F.PLE_L_TRIG_KIND n) == 3 && sel % 32 == e.a
  | _ => s.get 0 (F.PLE_L_TRIG_KIND n) == 4 && Nat.testBit sel (e.a - 1)
      && (e.a == 3 || sel / 256 % 64 == 63 || sel / 256 % 64 == e.b)

/-- R511, R516: a cause triggers the enabled lists that it hits, and is kept for a commit of the same instant. -/
def State.pleCause (s : State) (e : PleCause) : State :=
  let s := { s with ple := { s.ple with causes := s.ple.causes.filter (fun c => c.time == s.time) ++ [e] } }
  ((List.range 32).filter (s.causeHits e)).foldl (fun s n => s.pleTrigger n e.instant e.arg) s

/-- R511, R541: a start of one list. -/
def State.listStart (s : State) (n instant : Nat) (arg : Word) : State := s.pleCause ⟨s.time, 0, n, 0, instant, arg⟩

/-- R511: a TICKET event: 1 arrival and 2 departure at a port, 3 a peer frame. -/
def State.ticketTrigger (s : State) (event port index instant : Nat) : State :=
  s.pleCause ⟨s.time, 4, event, port, instant, pleArg 4 event (if event = 3 then 0 else port) (index % 16384)⟩

/-- R511, R575: a crossing of a comparator: 1 rising, 2 falling. -/
def State.comparatorTrigger (s : State) (k edge instant : Nat) : State :=
  s.pleCause ⟨s.time, 2, k, edge, instant, pleArg 2 edge 0 k⟩

/-- R511: a source list ended a run with END. -/
def State.listTrigger (s : State) (src instant : Nat) : State :=
  s.pleCause ⟨s.time, 3, src, 0, instant, pleArg 3 0 0 src⟩

/-- R516: the causes of this instant are judged for a list that a commit of the same instant has enabled. -/
def State.triggerLate (s : State) (n : Nat) : State :=
  (s.ple.causes.filter (fun e => e.time == s.time && s.causeHits e n)).foldl (fun s e => s.pleTrigger n e.instant e.arg) s

/-- R516: a trigger of this instant had no effect on a list that a commit of the same instant has disabled: the run that it
started has not executed and ends, and the triggers counted missed leave the count. -/
def State.triggerUndo (s : State) (n : Nat) : State :=
  let l := s.pleList n
  let s := match l.run with
    | some r => if r.steps = 0 ∧ r.pc = r.start ∧ r.wait = .none ∧ r.time = s.time then s.setList n { l with run := none } else s
    | none => s
  if l.missed.1 = s.time ∧ !s.flag 0 (F.PLE_L_STAT_OVF n) then
    s.set 0 (F.PLE_L_STAT_MISSED n) (s.get 0 (F.PLE_L_STAT_MISSED n) - l.missed.2)
  else s

end Sys2Proof.Machine
end

