-- ==== Sys2Proof/Machine/Hamper.lean ====
section
/-! DEFINITION. The hamper (chapter 15): classes and their credits, records, reading, watermarks, system records and
marks. -/

namespace Sys2Proof.Machine

/-- A class of the hamper. -/
def State.cls (s : State) (c : Nat) : HClass := Store.get s.classes c {}

def State.setCls (s : State) (c : Nat) (k : HClass) : State := { s with classes := Store.put s.classes c {} k }

/-- The exponent K of a class in HMP_LAYOUT. -/
def layoutFld (c : Nat) : Fld :=
  if c = 0 then F.HMP_LAYOUT_K0 else if c = 1 then F.HMP_LAYOUT_K1 else if c = 2 then F.HMP_LAYOUT_K2
  else F.HMP_LAYOUT_K3

/-- R583: a class owns 2^K words. -/
def State.regionSize (s : State) (c : Nat) : Nat := 2 ^ s.get 0 (layoutFld c)

/-- R583: the regions lie one after another in class order. -/
def State.regionBase (s : State) : Nat → Nat
  | 0 => 0
  | c + 1 => s.regionBase c + s.regionSize c

/-- A record is complete when its last word is written. -/
def Rec.complete (r : Rec) : Bool := decide (r.len ≤ r.words.length)

/-- A record of the class is being written (R597). -/
def HClass.writing (k : HClass) : Bool :=
  match k.recs.getLast? with
  | some r => !r.complete
  | none => false

/-- R599: a record may be delivered when it is complete, or when CUT is not 0 and at least CUT of its words are written. -/
def Rec.eligible (cut : Nat) (r : Rec) : Bool := r.complete || (cut != 0 && decide (cut ≤ r.words.length))

/-- R599: a class is non-empty while its head record is eligible. -/
def State.classNonEmpty (s : State) (c : Nat) : Bool :=
  match (s.cls c).recs with
  | r :: _ => r.eligible (s.get 0 (F.HMP_C_CFG_CUT c))
  | [] => false

/-- R601: FILL is the sum of OCCUPIED. -/
def State.fill (s : State) : Nat :=
  (s.cls 0).occupied + (s.cls 1).occupied + (s.cls 2).occupied + (s.cls 3).occupied

/-- R628: one event of a class source for each record that becomes eligible. -/
def markEligible (cut : Nat) : List Rec → List Rec × Nat
  | [] => ([], 0)
  | r :: rs =>
    let (rs', n) := markEligible cut rs
    if r.eligible cut && !r.counted then ({ r with counted := true } :: rs', n + 1) else (r :: rs', n)

def State.countEligible (s : State) (c : Nat) : State :=
  let (rs, n) := markEligible (s.get 0 (F.HMP_C_CFG_CUT c)) (s.cls c).recs
  if n = 0 then s else (s.setCls c { s.cls c with recs := rs }).sourceEvent (39 + c) n

/-- R601: FLOWA is asserted from HMP_HIGH upwards and released from HMP_LOW downwards. -/
def State.flowUpdate (s : State) : State :=
  if !s.hamper.flowA && decide (s.get 0 F.HMP_HIGH_LEVEL ≤ s.fill) then
    ({ s with hamper := { s.hamper with flowA := true } }.raise 0 0x08 0).sourceEvent 43 1
  else if s.hamper.flowA && decide (s.fill ≤ s.get 0 F.HMP_LOW_LEVEL) then
    { s with hamper := { s.hamper with flowA := false } }.raise 0 0x08 1
  else s

/-- R602, R623: URGENT when class 3 becomes non-empty. -/
def State.urgentUpdate (s : State) : State :=
  let now := s.classNonEmpty 3
  if now && !s.hamper.urgent then { s with hamper := { s.hamper with urgent := true } }.raise 0 0x08 2
  else if !now && s.hamper.urgent then { s with hamper := { s.hamper with urgent := false } }
  else s

/-- What follows every change of the hamper: eligibility, watermarks and URGENT. -/
def State.hamperAfter (s : State) : State :=
  ((((s.countEligible 0).countEligible 1).countEligible 2).countEligible 3).flowUpdate.urgentUpdate

/-- R589, R593, R595: a request can be granted while the HMP page is ON, the class is not frozen and FREE is at least its
size. -/
def State.canReserve (s : State) (c n : Nat) : Bool :=
  s.pageOn 0 0x08 && !(s.cls c).frozen && decide (n ≤ (s.cls c).free)

/-- R588: FREE to RESERVED, the whole request. -/
def State.reserve (s : State) (c n : Nat) : State :=
  s.setCls c { s.cls c with free := (s.cls c).free - n, reserved := (s.cls c).reserved + n }

/-- R588, R12: a reservation returns to FREE. -/
def State.unreserve (s : State) (c n : Nat) : State :=
  s.setCls c { s.cls c with free := (s.cls c).free + n, reserved := (s.cls c).reserved - n }

/-- R591: a request larger than its region is reported; its producer keeps that it was, and goes on waiting. -/
def State.oversize (s : State) (c n : Nat) : State :=
  if s.regionSize c < n then (s.raise 0 0x08 3).err 0 0x08 0x0102 else s

/-- R596: the header word of a record. -/
def headerWord (type c len seq : Nat) : Word :=
  BitVec.ofNat 32 (type * 268435456 + c * 67108864 + len * 65536 + seq)

/-- The words of a record. -/
def recWords (type c seq time : Nat) (payload : List Word) : List Word :=
  headerWord type c (payload.length + 3) seq :: loWord time :: hiWord time :: payload

/-- R588, R597: a record of the anchor is written in one burst; what is not used of its reservation settles to FREE. -/
def HClass.writeWhole (k : HClass) (c size : Nat) (r : PendRec) : HClass :=
  let ws := recWords r.type c k.nextSeq r.time r.payload
  { k with
    reserved := k.reserved - r.reserved
    free := k.free + (r.reserved - ws.length)
    occupied := k.occupied + ws.length
    wptr := (k.wptr + ws.length) % (2 * size)
    nextSeq := (k.nextSeq + 1) % 65536
    recs := k.recs ++ [{ seq := k.nextSeq, len := ws.length, words := ws, consumed := 0, pos := k.wptr % size,
                         die := 0, reserved := 0, note := r.note, counted := false }] }

/-- R620: a snapshot save runs. -/
def State.snapSaving (s : State) : Bool := s.flag 0 F.TKT_SNAP_BUSY && s.flag 0 F.TKT_SNAP_SAVE

/-- R620: the buckets up to `n` are copied, each entry whole as it stands. -/
def State.saveTo (s : State) (n : Nat) : State :=
  let p := s.get 0 F.TKT_SNAP_PROGRESS
  let new := s.tickets.filter (fun e => decide (4 * p ≤ e.1 ∧ e.1 < 4 * n))
  { s with nv := { s.nv with saving := s.nv.saving ++ new } }.set 0 F.TKT_SNAP_PROGRESS n

/-- R620: before an entry changes, a running save has copied some of the buckets that were left: how many is a free value
(log entry 77). -/
def State.saveStep (s : State) : State :=
  if !s.snapSaving || s.nv.ops.head? != some .snapSave then s
  else
    let (s, v) := s.fresh
    let p := s.get 0 F.TKT_SNAP_PROGRESS
    s.saveTo (p + v % (3072 - p + 1))

/-- R614, R616: the departure of a ticket is reported: an HF_TAG entry whose departure is still pending, while the TKT page
is ON. -/
def State.departed (s : State) (t : Nat) : State :=
  let e := Store.get s.tickets t {}
  if s.pageOn 0 0x09 && bits e.ctl 29 3 == 1 && bit e.ctl 27 then
    { s.saveStep with tickets := Store.put s.tickets t {} { e with ctl := putBits e.ctl 27 2 0 } }
  else s

/-- What the completed write of a record does elsewhere (see `Note`). -/
def State.noteDone (s : State) (n : Note) (ws : List Word) : State :=
  match n with
  | .none => s
  | .departure t => s.departed t
  | .watch d p => s.setWatch d p { s.watchOf d p with pendingRec := none }
  | .tag l => { s with recDone := Store.insert (Store.erase s.recDone l) l ws }
  | .radio l => { s with recDone := Store.insert (Store.erase s.recDone (32 + l)) (32 + l) ws }

/-- A record of the anchor against its reservation: at once, or after the record of its class being written (R597). -/
def State.writeRecord (s : State) (c : Nat) (r : PendRec) : State :=
  let k := s.cls c
  if k.writing then s.setCls c { k with waiting := k.waiting ++ [r] }
  else
    ((s.setCls c (k.writeWhole c (s.regionSize c) r)).noteDone r.note
      (recWords r.type c k.nextSeq r.time r.payload)).hamperAfter

/-- The records that waited for a part-written one are written when it is complete. -/
def State.flushWaiting (s : State) (c : Nat) : State :=
  (s.cls c).waiting.foldl (fun s r => s.writeRecord c r) (s.setCls c { s.cls c with waiting := [] })

/-- Word `i` of a record from a field die, the header made with the class's next SEQ. -/
def outWord (r : OutRec) (seq i : Nat) : Word := ((recWords r.type r.cls seq r.time r.payload)[i]?).getD 0

/-- R597, R588: the next word of a field-die record enters its class: RESERVED to OCCUPIED; the header takes the next
SEQ; with the last word the rest of the reservation settles. -/
def HClass.writeWord (k : HClass) (d size : Nat) (r : OutRec) (i : Nat) : HClass :=
  let len := r.payload.length + 3
  let k := { k with reserved := k.reserved - 1, occupied := k.occupied + 1 }
  let k :=
    if i = 0 then
      { k with
        recs := k.recs ++ [{ seq := k.nextSeq, len := len, words := [outWord r k.nextSeq 0], consumed := 0,
                             pos := k.wptr % size, die := d, reserved := r.reserved - len, note := r.note,
                             counted := false }]
        nextSeq := (k.nextSeq + 1) % 65536 }
    else
      match k.recs.reverse with
      | x :: xs => { k with recs := (xs.reverse) ++ [{ x with words := x.words ++ [outWord r x.seq i] }] }
      | [] => k
  let k := { k with wptr := (k.wptr + 1) % (2 * size) }
  if i + 1 = len then { k with reserved := k.reserved - (r.reserved - len), free := k.free + (r.reserved - len) } else k

/-- R511: a written TAG_CHANGE record is a TICKET event at its port. -/
def State.changeTrigger (s : State) (r : OutRec) : State :=
  if r.type = 3 then
    let w := (r.payload[0]?).getD 0
    s.ticketTrigger (bits w 28 4) (bits w 16 6) (bits w 0 14) s.time
  else s

/-- R34: the words that the anchor's receive buffer for a die holds, and so the seam credits of the die while it is
empty: at least one; the manual gives no number (assumption log). -/
def seamPlaces (d : Nat) : Nat := Sys2Proof.Config.freeNat (2 ^ 42 + d) + 1

/-- R34: the seam credits that a die has: the places of the receive buffer that hold no word. -/
def Die.credits (x : Die) (d : Nat) : Nat := seamPlaces d - (x.sent - x.written)

/-- R34: the anchor writes the words of the die's first record that stand in its receive buffer; each returns its seam
credit. The header waits there while another record of its class is being written (R597). With the last word the record
is acknowledged and leaves the outbound buffer (R35). -/
def State.drainDie (d : Nat) : Nat → State → State
  | 0, s => s
  | n + 1, s =>
    let x := s.die d
    match x.out with
    | [] => s
    | r :: rest =>
      let k := s.cls r.cls
      if decide (x.sent ≤ x.written) || (x.written == 0 && k.writing) then s
      else
        let s := s.setCls r.cls (k.writeWord d (s.regionSize r.cls) r x.written)
        if x.written + 1 = r.payload.length + 3 then
          let s := s.setDie d { x with out := rest, sent := 0, written := 0, acked := r.xfer }
          let s := s.noteDone r.note (((s.cls r.cls).recs.getLast?.map Rec.words).getD [])
          let s := s.changeTrigger r
          (s.flushWaiting r.cls).hamperAfter
        else ((s.setDie d { x with written := x.written + 1 }).hamperAfter).drainDie d n

/-- Every receive buffer is written as far as R597 allows, the lowest die first; a die may wait for the record of a higher
one, so the dies are gone through once for each of them. -/
def State.drainDies (s : State) : State :=
  ((List.range s.dies).flatMap (fun _ => List.range s.dies)).foldl
    (fun s i => s.drainDie (i + 1) (s.die (i + 1)).sent) s

/-- R34: the next word of the die's first record is received against a seam credit, and written when its class allows. -/
def State.arrive (s : State) (d : Nat) : State :=
  let x := s.die d
  match x.out with
  | [] => s
  | r :: _ =>
    if x.sent < r.payload.length + 3 ∧ 0 < x.credits d then (s.setDie d { x with sent := x.sent + 1 }).drainDies
    else s

/-- A record made on a field die is put in its outbound buffer with the next transfer number (R35). -/
def State.sendRecord (s : State) (d : Nat) (r : OutRec) : State :=
  let x := s.die d
  s.setDie d { x with out := x.out ++ [{ r with xfer := x.nextXfer }], nextXfer := (x.nextXfer + 1) % 65536 }

/-- R604: a FAULT cause joins the queue of system records; when the queue is full it is merged. -/
def State.queueFault (s : State) (code die : Nat) (d0 d1 : Word) : State :=
  if 16 ≤ s.hamper.sysq.length then
    ({ s with hamper := { s.hamper with merged := satAdd 8 s.hamper.merged 1 } }.countUp 0 F.HMP_SYSQ_MERGED
      F.HMP_SYSQ_OVF 1).raise 0 0x08 7
  else { s with hamper := { s.hamper with sysq := s.hamper.sysq ++ [.fault code die d0 d1 s.time] } }

/-- A WAKE_REPORT or MARK joins the queue (R604); one that finds it full is not queued (assumption log). -/
def State.queueSys (s : State) (r : SysRec) : State :=
  if 16 ≤ s.hamper.sysq.length then s else { s with hamper := { s.hamper with sysq := s.hamper.sysq ++ [r] } }

/-- Class, type, timestamp and payload of a system record (R605, R607, R668). -/
def SysRec.build (merged : Nat) : SysRec → Nat × PendRec
  | .fault code die d0 d1 t =>
    (3, { type := 0xD, time := t,
          payload := [BitVec.ofNat 32 (code * 16777216 + die * 1048576 + merged * 256), d0, d1],
          reserved := 6, note := .none })
  | .mark c data t => (c, { type := 0xE, time := t, payload := [data], reserved := 4, note := .none })
  | .report c ty p t => (c, { type := ty, time := t, payload := p, reserved := p.length + 3, note := .none })

def SysRec.isFault : SysRec → Bool
  | .fault .. => true
  | _ => false

def SysRec.isMark : SysRec → Bool
  | .mark .. => true
  | _ => false

/-- R590: the queued system records that get their credits are written, before any other request of a class is served. -/
def State.serveSys : Nat → State → State
  | 0, s => s
  | n + 1, s =>
    match s.hamper.sysq with
    | [] => s
    | r :: rest =>
      let (c, p) := r.build s.hamper.merged
      if s.canReserve c p.reserved then
        let h := { s.hamper with sysq := rest, merged := if r.isFault then 0 else s.hamper.merged, tooBig := false }
        ((({ s with hamper := h }.reserve c p.reserved).writeRecord c p)).serveSys n
      else s

/-- SYSTEM_RECORD_WRITE (R604): the first queued system record gets its credits and is written. -/
def execSystemRecordWrite (s : State) : Out :=
  .next <|
    match s.hamper.sysq with
    | [] => s
    | r :: _ =>
      let (c, p) := r.build s.hamper.merged
      if s.canReserve c p.reserved then s.serveSys 1
      else if s.hamper.tooBig then s
      else
        { s with hamper := { s.hamper with tooBig := decide (s.regionSize c < p.reserved) } }.oversize c p.reserved

/-- HMP_MARK (R607): a MARK is queued, or refused with MARK_BUSY while one is still queued. -/
def execHmpMark (value : Word) (s : State) : Out :=
  .next <| s.hostWrite 0 0x08 fun s =>
    let s := s.writeRo 0 0x08 0x034 value
    if s.hamper.sysq.any SysRec.isMark || decide (16 ≤ s.hamper.sysq.length) then s.err 0 0x08 0x0101
    else s.queueSys (.mark (bits value 0 2) (s.reg 0 0x08 0x030) s.time)

/-- CREDIT_MISMATCH (R593): the class is frozen, the error recorded and raised, and a FAULT record queued unless class 3
is the frozen class. -/
def execCreditMismatch (c found : Nat) (s : State) : Out :=
  .next <| s.when (s.awake && decide (c ≤ 3) && decide (found ≠ s.regionSize c)) fun s =>
    let s := s.setCls c { s.cls c with frozen := true }
    let s := (s.err 0 0x08 0x0103).raise 0 0x08 4
    if c = 3 then s else s.queueFault 0x03 0 (word c) (word (found % 131072))

/-- R598: what is left of a part-written record of a lost die is filled with zeros, and RECORD_CUT is reported. -/
def HClass.cut (k : HClass) (d size : Nat) : HClass × Option Rec :=
  match k.recs.reverse with
  | r :: xs =>
    if r.die = d && !r.complete then
      let n := r.len - r.words.length
      ({ k with recs := xs.reverse ++ [{ r with words := r.words ++ List.replicate n 0, reserved := 0 }],
                reserved := k.reserved - (n + r.reserved), occupied := k.occupied + n, free := k.free + r.reserved,
                wptr := (k.wptr + n) % (2 * size) }, some r)
    else (k, none)
  | [] => (k, none)

def State.cutRecords (s : State) (d : Nat) : State :=
  [0, 1, 2, 3].foldl (fun s c =>
    match (s.cls c).cut d (s.regionSize c) with
    | (k, some r) =>
      let s := (s.setCls c k).raise 0 0x08 5
      let s := s.queueFault 0x02 d (word (c * 65536 + r.seq)) (word (r.len * 65536 + r.words.length))
      let s := s.noteDone r.note ((k.recs.getLast?.map Rec.words).getD [])
      (s.flushWaiting c).hamperAfter.drainDies
    | (_, none) => s) s

/-- R584: the read pointer of a class whose records are `left`: at the next word of the first, or at the write pointer. -/
def HClass.readAt (k : HClass) (size : Nat) (left : List Rec) : Nat :=
  match left with
  | r :: _ => (k.rptr + ((r.pos + r.consumed) % size + size - k.rptr % size) % size) % (2 * size)
  | [] => k.wptr

/-- One word of a class's head record leaves the hamper (R588 Consume); a record behind it whose place a lost one left
(R603) is read where it stands. -/
def HClass.consume (k : HClass) (size : Nat) : HClass :=
  match k.recs with
  | r :: rs =>
    let r' := { r with consumed := r.consumed + 1 }
    let done := decide (r.len ≤ r'.consumed)
    { k with
      occupied := k.occupied - 1
      free := k.free + 1
      rptr := if done then k.readAt size rs else (k.rptr + 1) % (2 * size)
      recs := if done then rs else r' :: rs
      openTo := if done then none else k.openTo }
  | [] => k

/-- The next word to be delivered from a class. -/
def HClass.nextWord (k : HClass) : Option Word :=
  match k.recs with
  | r :: _ => r.words[r.consumed]?
  | [] => none

/-- Whether a record has a word in region positions of a hamper bank. -/
def Rec.inBank (r : Rec) (base size bank : Nat) : Bool :=
  (List.range r.len).any (fun i => (base + (r.pos + i) % size) / 4096 == bank)

/-- R603: a failed hamper bank discards every record with a word in it; the words return to FREE. -/
def State.discardBank (s : State) (bank : Nat) : State :=
  let s := [0, 1, 2, 3].foldl (fun s c =>
    let k := s.cls c
    let hit := fun r => Rec.inBank r (s.regionBase c) (s.regionSize c) bank
    let bad := k.recs.filter hit
    if bad.isEmpty then s
    else
      let words := (bad.map (fun r => r.words.length - r.consumed)).foldl (· + ·) 0
      let left := k.recs.filter (fun r => !hit r)
      let k := { k with recs := left, occupied := k.occupied - words, free := k.free + words,
                        rptr := k.readAt (s.regionSize c) left,
                        openTo := if (k.recs.head?.map hit).getD false then none else k.openTo }
      ((s.setCls c k).countUp 0 (F.HMP_C_LOST_COUNT c) (F.HMP_C_LOST_OVF c) bad.length).raise 0 0x08 6) s
  s.hamperAfter

/-- R671: a failure of the HMP register bank empties every class, and each record is counted in HMP_Cc_LOST. -/
def State.emptyClasses (s : State) : State :=
  ([0, 1, 2, 3].foldl (fun s c =>
    let k := s.cls c
    (s.setCls c { k with recs := [], waiting := [], occupied := 0, reserved := 0, free := s.regionSize c, wptr := 0,
                         rptr := 0, openTo := none }).countUp 0 (F.HMP_C_LOST_COUNT c) (F.HMP_C_LOST_OVF c)
      k.recs.length) s).hamperAfter

end Sys2Proof.Machine
end

