-- ==== Sys2Proof/Machine/Tickets.lean ====
section
/-! DEFINITION. The ticket table (chapter 15): entries, buckets, device updates (R614, R615), host operations (R617 to
R619) and snapshots (R620, R621). -/

namespace Sys2Proof.Machine

/-- Number of entries (R609). -/
def ticketCount : Nat := 12288

/-- The index a record carries when there is no ticket. -/
def noTicket : Nat := 0x3FFF

def State.ticket (s : State) (i : Nat) : Ticket := Store.get s.tickets i {}

def State.setTicket (s : State) (i : Nat) (t : Ticket) : State :=
  { s.saveStep with tickets := Store.put s.tickets i {} t }

/-- Fields of entry word 2 (R610). -/
def Ticket.kind (t : Ticket) : Nat := bits t.ctl 29 3
def Ticket.present (t : Ticket) : Bool := bit t.ctl 28
def Ticket.depPend (t : Ticket) : Bool := bit t.ctl 27
def Ticket.auto (t : Ticket) : Bool := bit t.ctl 26
def Ticket.keyed (t : Ticket) : Bool := bit t.ctl 25
def Ticket.keySlot (t : Ticket) : Nat := bits t.ctl 19 6
def Ticket.home (t : Ticket) : Nat := bits t.ctl 8 8
def Ticket.state (t : Ticket) : Nat := bits t.ctl 0 8
def Ticket.setPresent (t : Ticket) (b : Bool) : Ticket := { t with ctl := putBits t.ctl 28 1 (b2n b) }
def Ticket.setDepPend (t : Ticket) (b : Bool) : Ticket := { t with ctl := putBits t.ctl 27 1 (b2n b) }
def Ticket.setHome (t : Ticket) (h : Nat) : Ticket := { t with ctl := putBits t.ctl 8 8 h }
def Ticket.setState (t : Ticket) (v : Nat) : Ticket := { t with ctl := putBits t.ctl 0 8 v }
def Ticket.setLast (t : Ticket) (v : Nat) : Ticket := { t with last := BitVec.ofNat 32 v }

/-- The 64-bit identity of an entry (R610). -/
def Ticket.ident (t : Ticket) : Nat := t.hi.toNat * 4294967296 + t.lo.toNat

/-- R612: the bucket of an identity of a kind. -/
def bucketOf (kind ident : Nat) : Nat :=
  ((BitVec.ofNat 32 (ident / 4294967296) ^^^ BitVec.ofNat 32 ident ^^^ BitVec.ofNat 32 (kind * 268435456)).toNat) % 3072

/-- R613: the way of the identity's bucket that holds the identity and kind. -/
def State.findTicket (s : State) (kind ident : Nat) : Option Nat :=
  [0, 1, 2, 3].findSome? fun w =>
    let i := 4 * bucketOf kind ident + w
    if (s.ticket i).kind = kind ∧ (s.ticket i).ident = ident then some i else none

/-- R615: the lowest-numbered FREE way of a bucket. -/
def State.freeWay (s : State) (b : Nat) : Option Nat :=
  [0, 1, 2, 3].findSome? fun w => if (s.ticket (4 * b + w)).kind = 0 then some (4 * b + w) else none

/-- R610: last-seen time in seconds. -/
def State.seconds (s : State) : Nat := s.time / 27120000

/-- A made entry (R615) of a kind and identity. -/
def newTicket (kind ident : Nat) : Ticket :=
  { lo := BitVec.ofNat 32 ident, hi := BitVec.ofNat 32 (ident / 4294967296),
    ctl := BitVec.ofNat 32 (kind * 536870912 + 67108864), last := 0 }

/-- R615: a device-made ticket; a full bucket is counted and raised. -/
def State.makeTicket (s : State) (kind ident : Nat) : State × Option Nat :=
  match s.freeWay (bucketOf kind ident) with
  | some i => (s.setTicket i (newTicket kind ident), some i)
  | none => (((s.countUp 0 F.TKT_CNT_FULL_COUNT F.TKT_CNT_FULL_OVF 1).raise 0 0x09 2).err 0 0x09 0x0101, none)

/-- R401, R12: the TAG_CHANGE record of a departure that a sighting cancels leaves its die's outbound buffer before its
first word is sent, and its reservation returns. One that is being sent is written whole (log entry 123). -/
def State.cancelDeparture (s : State) (t : Nat) : State :=
  (List.range s.dies).foldl (fun s i =>
    let x := s.die (i + 1)
    let kept := x.out.take (if x.sent = 0 then 0 else 1)
    let rest := x.out.drop kept.length
    let mine := rest.filter (fun r => r.note == .departure t)
    if mine.isEmpty then s
    else
      mine.foldl (fun s r => s.unreserve r.cls r.reserved)
        (s.setDie (i + 1) { x with out := kept ++ rest.filter (fun r => r.note != .departure t) })) s

/-- R395, R397, R401, R614: a sighting of an HF tag at an aerial port. Answers the ticket, if one could be made (R398), and
whether it is an arrival (R397). -/
def State.sight (s : State) (ident port : Nat) : State × Option Nat × Bool :=
  if !s.pageOn 0 0x09 then (s, none, true)
  else
    let upd := fun (s : State) (i : Nat) =>
      s.setTicket i (((((s.ticket i).setPresent true).setDepPend false).setHome port).setState 0 |>.setLast s.seconds)
    match s.findTicket 1 ident with
    | some i =>
      let t := if (s.ticket i).depPend then s.cancelDeparture i else s
      (upd t i, some i, !(s.ticket i).present)
    | none =>
      let (s, ticket) := s.makeTicket 1 ident
      (match ticket with | some i => upd s i | none => s, ticket, true)

/-- R361, R614: a binding whose status is OK updates the entry it names. -/
def State.bindTicket (s : State) (i port : Nat) : State :=
  let t := s.ticket i
  if !s.pageOn 0 0x09 then s
  else if t.kind = 1 then s.setTicket i (((t.setPresent true).setHome port).setState 0 |>.setLast s.seconds)
  else if t.kind = 2 then
    s.setTicket i (((t.setPresent true).setHome port).setState (satAdd 8 t.state 1) |>.setLast s.seconds)
  else if t.kind = 3 then s.setTicket i (t.setPresent true)
  else s

/-- R399: the sweep adds to the silent counts of the present HF tags homed at the port that match the mask and were not
seen; at `n` the departure is decided. -/
def State.sweep (s : State) (port mask len n : Nat) (seen : List Nat) : State :=
  if !s.pageOn 0 0x09 then s
  else
    s.tickets.foldl (fun s e =>
      let t := s.ticket e.1
      if t.kind = 1 && t.present && t.home == port && t.ident % 2 ^ len == mask % 2 ^ len && !seen.contains e.1 then
        let v := satAdd 8 t.state 1
        let s := s.setTicket e.1 ((t.setState v).setDepPend (t.depPend || decide (n ≤ v)))
        if !t.depPend && decide (n ≤ v) then { s with departs := s.departs.filter (· != e.1) ++ [e.1] } else s
      else s) s

/-- R618: a reserved KIND, or reserved bits set with a KIND other than FREE, in the staged entry. -/
def stagedBad (ctl : Word) : Bool :=
  decide (5 ≤ bits ctl 29 3) || (bits ctl 29 3 != 0 && bits ctl 16 3 != 0)

/-- The staged entry and operation in the shadow set of the TKT page. -/
def State.staged (s : State) : Ticket :=
  { lo := s.shadowWord 0 0x09 0x020, hi := s.shadowWord 0 0x09 0x024, ctl := s.shadowWord 0 0x09 0x028,
    last := s.shadowWord 0 0x09 0x02C }

/-- R105, R618: what refuses a TKT commit. -/
def State.tktCommitOk (s : State) : Bool :=
  let op := s.sget 0 F.TKT_OP_OP
  let idx := s.sget 0 F.TKT_OP_INDEX
  let t := s.staged
  decide (op ≤ 4) && decide (idx < ticketCount) && !((op == 1 || op == 2 || op == 4) && stagedBad t.ctl)
    && !((op == 2 || op == 4) && t.kind == 0)

/-- The result of a host operation (TKT_RESULT), its event and error (R617, R627). -/
def State.tktResult (s : State) (code index : Nat) : State :=
  let s := (s.set 0 F.TKT_RESULT_RESULT code).set 0 F.TKT_RESULT_INDEX index
  if code = 0 then s.raise 0 0x09 0 else (s.raise 0 0x09 1).err 0 0x09 (0x0100 + code)

/-- R618 WRITE. -/
def State.tktWrite (s : State) : State :=
  let t := s.staged
  let i := s.sget 0 F.TKT_OP_INDEX
  if t.kind = 0 then (s.setTicket i {}).tktResult 0 i
  else if i / 4 ≠ bucketOf t.kind t.ident then s.tktResult 3 noTicket
  else
    match s.findTicket t.kind t.ident with
    | some j => if j = i then (s.setTicket i t).tktResult 0 i else s.tktResult 2 j
    | none => (s.setTicket i t).tktResult 0 i

/-- R618 INSERT. -/
def State.tktInsert (s : State) : State :=
  let t := s.staged
  match s.findTicket t.kind t.ident with
  | some j => s.tktResult 2 j
  | none =>
    match s.freeWay (bucketOf t.kind t.ident) with
    | some i => (s.setTicket i t).tktResult 0 i
    | none => s.tktResult 1 noTicket

/-- R618 DELETE. -/
def State.tktDelete (s : State) : State :=
  let i := s.sget 0 F.TKT_OP_INDEX
  (s.setTicket i {}).tktResult 0 i

/-- R618 LOOKUP. -/
def State.tktLookup (s : State) : State :=
  let t := s.staged
  match s.findTicket t.kind t.ident with
  | some j => s.tktResult 0 j
  | none => s.tktResult 4 noTicket

/-- R617: the operation staged in TKT_OP. -/
def State.tktRun (s : State) : State :=
  let op := s.sget 0 F.TKT_OP_OP
  if op = 1 then s.tktWrite else if op = 2 then s.tktInsert else if op = 3 then s.tktDelete
  else if op = 4 then s.tktLookup else s.tktResult 0 noTicket

/-- Entries not FREE, and buckets with no FREE way (TKT_FILL). -/
def State.ticketsUsed (s : State) : Nat := (s.tickets.filter (fun e => e.2.kind != 0)).length

def State.fullBuckets (s : State) : Nat :=
  ((s.tickets.filter (fun e => e.1 % 4 == 0)).filter (fun e =>
    [0, 1, 2, 3].all (fun w => (s.ticket (e.1 + w)).kind != 0))).length

/-- R621: an entry as a snapshot load leaves it. -/
def Ticket.loaded (t : Ticket) : Ticket :=
  let t := (t.setPresent false).setDepPend false
  if t.kind = 1 then (t.setState 0).setLast 0 else if t.kind = 2 then t.setLast 0 else t

end Sys2Proof.Machine
end

