-- ==== Sys2Proof/Machine/CalValues.lean ====
section
/-! DEFINITION. Calibrated values in force (chapter 18, R691 to R698): interpolation between temperature points. -/

namespace Sys2Proof.Machine

/-- The crossbar (chapter 19): the slice that serves a port; none while the port is out or its NETFAULT is 1 (R742). -/
def State.servingSlice (s : State) (d p : Nat) : Option Nat :=
  if s.flag d (F.DDRN_P_VALID p) && !s.flag d (F.DDRN_P_NETFAULT p) then some (s.get d (F.DDRN_P_SLICE p)) else none

/-- The port that a slice serves (R237). -/
def State.servedPort (s : State) (d sl : Nat) : Option Nat :=
  (List.range 8).find? fun p => s.flag d (F.DDRN_P_VALID p) && s.get d (F.DDRN_P_SLICE p) == sl

def State.calSet (s : State) (k : Nat) : CalSet := Store.get s.calSets k {}

def State.setCalSet (s : State) (k : Nat) (c : CalSet) : State := { s with calSets := Store.put s.calSets k {} c }

def sliceSet (d sl : Nat) : Nat := 16 * d + sl
def dieSet (d : Nat) : Nat := 16 * d + 15
def hopSet (n : Nat) : Nat := 0x1000 + n

/-- Key of a quantity in a point. -/
def qKey (q part : Nat) : Nat := 16 * q + part

def CalPoint.val? (p : CalPoint) (k : Nat) : Option Int := Store.find? p.vals k

/-- The points of a set that hold a value, as temperature and value. -/
def CalSet.held (c : CalSet) (k : Nat) : List (Int × Int) :=
  c.points.filterMap fun p => (p.val? k).map fun v => (p.temp, v)

/-- R696: a quotient rounded to the nearest unit, halves upward. -/
def roundDiv (a b : Int) : Int := (2 * a + b) / (2 * b)

/-- The shorter difference of two phases, −128 to 127 steps (R696). -/
def phaseDiff (a b : Int) : Int := (a - b + 128) % 256 - 128

/-- R695, R696: linear interpolation at `t` between the nearest points around it; beyond the outermost points their
values hold. `circ` interpolates a phase the shorter way round. -/
def interp (circ : Bool) (t : Int) : List (Int × Int) → Option Int
  | [] => none
  | [(_, v)] => some v
  | (t0, v0) :: (t1, v1) :: rest =>
    if t ≤ t0 then some v0
    else if t ≤ t1 then
      let dv := if circ then phaseDiff v1 v0 else v1 - v0
      let v := v0 + roundDiv (dv * (t - t0)) (t1 - t0)
      some (if circ then v % 256 else v)
    else interp circ t ((t1, v1) :: rest)

/-- A set's value of a quantity at a temperature, when it holds one. -/
def CalSet.value (c : CalSet) (q part : Nat) (t : Int) : Option Int :=
  interp (q == 4 || q == 12) t (c.held (qKey q part))

/-- The die temperature of DCAL_TEMP in 0.1 °C (R697). -/
def State.dieTemp (s : State) (d : Nat) : Int := signed 16 (s.get d F.DCAL_TEMP_TEMP)

/-- R698: the trim, rinse and watch quantities of a slice set belong to the port that the set names. -/
def State.sliceValue (s : State) (d sl q part : Nat) (t : Int) : Option Int :=
  let c := s.calSet (sliceSet d sl)
  if q = 1 ∨ q = 2 ∨ 5 ≤ q then
    match s.servedPort d sl with
    | some p => if c.port = aerial d p then c.value q part t else none
    | none => none
  else c.value q part t

/-- R691: the empty value of a quantity; none for the watch and synthesiser quantities. -/
def emptyValue (q : Nat) : Option Int :=
  match q with
  | 1 | 2 => some 64
  | 3 => some 1024
  | 9 | 11 | 15 => some 4096
  | 4 | 5 | 6 | 10 | 12 | 16 => some 0
  | _ => none

/-- R697: the temperature at which a set is interpolated: that of its die, of the anchor for the anchor and radio sets. -/
def State.setTemp (s : State) (k : Nat) : Int :=
  if k = 0 ∨ 0x1000 ≤ k then s.coord.anchorTemp else s.dieTemp (k / 16)

/-- R691, R695, R698: the value in force of a quantity of a set, its empty value where the set holds none. -/
def State.quantity (s : State) (k q part : Nat) : Option Int :=
  let t := s.setTemp k
  let v := if k < 0x1000 ∧ k % 16 < 10 ∧ k ≠ 0 then s.sliceValue (k / 16) (k % 16) q part t else (s.calSet k).value q part t
  match v with
  | some x => some x
  | none => emptyValue q

/-- R693: CAL_OFS of a slice. -/
def State.calOfs (s : State) (d sl : Nat) : Nat :=
  let t := s.dieTemp d
  ((((s.calSet (sliceSet d sl)).value 4 0 t).getD 0 + ((s.calSet (dieSet d)).value 12 0 t).getD 0) % 256).toNat

/-- R217: the trim codes in force of a slice: from its set, or from SLC_TRIM with OVR. -/
def State.trimCodes (s : State) (d sl : Nat) : Nat × Nat :=
  if s.flag d (F.SLC_TRIM_OVR sl) then (s.get d (F.SLC_TRIM_SERIES sl), s.get d (F.SLC_TRIM_SHUNT sl))
  else
    let t := s.dieTemp d
    (((s.sliceValue d sl 1 0 t).getD 64).toNat, ((s.sliceValue d sl 2 0 t).getD 64).toNat)

/-- R220: a code at either end of its bank. -/
def trimEnd (c : Nat) : Bool := decide (c ≤ 7 ∨ 120 ≤ c)

/-- R315: the rinse coefficients of a port's serving slice at the die's temperature: part 0 self, 1 + k neighbour k. -/
def State.rinse (s : State) (d sl term : Nat) : Int × Int :=
  let t := s.dieTemp d
  let v := fun part => (if term = 0 then s.sliceValue d sl 5 part t else s.sliceValue d sl 6 (2 * (term - 1) + part) t)
  ((v 0).getD 0, (v 1).getD 0)

/-- R415: the calibrated watch baseline of a slice, when its set holds one. -/
def State.watchBase (s : State) (d sl : Nat) (t : Int) : Option (Int × Int) :=
  match s.sliceValue d sl 7 0 t, s.sliceValue d sl 8 0 t with
  | some a, some p => some (a, p)
  | _, _ => none

/-- R492: the per-aerial maximum of the lock block, 1,000 mW until it is locked. -/
def State.aerialMax (s : State) : Nat :=
  match s.lockBlock[16]? with
  | some w => bits w 0 10
  | none => 1000

/-- R492: the budget ceiling of the lock block, 4,000 mW until it is locked. -/
def State.budgetCeil (s : State) : Nat :=
  match s.lockBlock[16]? with
  | some w => bits w 16 12
  | none => 4000

end Sys2Proof.Machine
end

