-- ==== Sys2Proof/Machine/Slices.lean ====
section
/-! DEFINITION. Aerial slices and drivers (chapter 05): level in force, field states, restart, faults, phase and sense. -/

namespace Sys2Proof.Machine

/-- The SLC page of a slice (R116). -/
def slcPage (sl : Nat) : Nat := 1 + sl

/-- R224: the field state. 0 OFF, 1 RAMP_UP, 2 ON, 3 MODULATING, 4 RAMP_DOWN, 5 DRAINING, 6 TESTING, 7 FAULT, 8 DARNED. -/
def State.fstate (s : State) (d sl : Nat) : Nat := s.get d (F.SLC_FSTAT_FSTATE sl)

def State.setFstate (s : State) (d sl st : Nat) : State := s.set d (F.SLC_FSTAT_FSTATE sl) st

/-- R224: a slice is energised in RAMP_UP, ON, MODULATING and RAMP_DOWN. -/
def energisedState (st : Nat) : Bool := decide (1 ≤ st ∧ st ≤ 4)

/-- R202, R201: the lowest of the requested level (at most 1,000), LIMIT and the regulatory maximum. -/
def State.levelInForce (s : State) (d sl req : Nat) : Nat :=
  min (min (min req 1000) (s.get d (F.SLC_LIMIT_LIMIT sl))) s.aerialMax

/-- R201, R202: LIMIT or the regulatory maximum lowers a requested level; codes above 1,000 act as 1,000. -/
def State.lowered (s : State) (d sl req : Nat) : Bool := decide (s.levelInForce d sl req < min req 1000)

/-- The level in force of a slice (SLC_APPLIED.LEVEL). -/
def State.level (s : State) (d sl : Nat) : Nat := s.get d (F.SLC_APPLIED_LEVEL sl)

/-- R255, R257, R280: what the admitted exchange of a slice took at its admission: for a chain the highest level among its
members, and on a field hold the level that is applied only at the end of the turnaround gap. -/
def State.admittedLevel (s : State) (d sl : Nat) : Nat :=
  s.exchs.foldl (fun n e =>
    if e.2.members.isEmpty then n
    else if decide (e.1 / 16 = d) && s.servingSlice d (e.1 % 16) == some sl then max n e.2.level
    else match e.2.partner with
      | some q => if portDie q == d && s.servingSlice d (portIx q) == some sl then max n e.2.partnerLevel else n
      | none => n) 0

/-- R256: what a slice counts in the budget: its level in force while energised, the higher of old and new while a
restart or a granted energise is pending, the new level only from DRAINING onwards; at least what its admitted exchange
took; a slice under test its 50 mW loop level (R725). -/
def State.sliceBudget (s : State) (d sl : Nat) : Nat :=
  let x := s.slice d sl
  let new := max ((x.restart.map Drive.level).getD 0) ((x.want.map Drive.level).getD 0)
  let st := s.fstate d sl
  let old := if energisedState st then s.level d sl else if st = 6 then 50 else 0
  max (s.admittedLevel d sl) (max old new)

/-- FDC_FIELD.USED: a die's share of the budget in use. -/
def State.dieBudget (s : State) (d : Nat) : Nat := ((List.range 10).map (s.sliceBudget d)).foldl (· + ·) 0

/-- FCO_FIELD.USED (R256). -/
def State.budgetUsed (s : State) : Nat := ((List.range s.dies).map (fun i => s.dieBudget (i + 1))).foldl (· + ·) 0

/-- Energised slices of a die (FDC_STAT.ENERGISED). -/
def State.energisedCount (s : State) (d : Nat) : Nat :=
  ((List.range 10).filter (fun sl => energisedState (s.fstate d sl))).length

/-- R212: the output phase the commanded phase and the calibrated offset ask for. -/
def State.phaseTarget (s : State) (d sl : Nat) : Nat :=
  (s.get d (F.SLC_PHASE_CMD sl) + s.get d (F.SLC_PHASE_CAL_OFS sl)) % 256

/-- R214: the phase that a move from one phase to another has reached after some fc cycles: one step per cycle, the
shorter way round. -/
def phaseStep (old new cycles : Nat) : Nat :=
  let way := phaseDiff new old
  if way.natAbs ≤ cycles then new
  else (((old : Int) + (if way < 0 then -(cycles : Int) else cycles)) % 256).toNat

/-- R214, R212: the present output phase: while SLEWING reads 1 it moves, except in MODULATING. A cycle of fc is two
ticks. -/
def State.phaseOut (s : State) (d sl : Nat) : Nat :=
  let out := s.get d (F.SLC_PHASE_OUT sl)
  if s.flag d (F.SLC_PHASE_SLEWING sl) && s.fstate d sl != 3 then
    phaseStep out (s.phaseTarget d sl) ((s.time - (s.slice d sl).slewAt) / 2)
  else out

/-- The move of the output phase stands where it is, and goes on from now. -/
def State.phaseHere (s : State) (d sl : Nat) : State :=
  let out := s.phaseOut d sl
  (s.set d (F.SLC_PHASE_OUT sl) out).setSlice d sl { s.slice d sl with slewAt := s.time }

/-- R214: the output phase follows: at once while not energised, by slewing otherwise, held while MODULATING. It slews in the
ramps too (DESIGN CHOICE, log entry 146). -/
def State.phaseMove (s : State) (d sl : Nat) : State :=
  let st := s.fstate d sl
  if st = 3 then s
  else if energisedState st then
    s.set d (F.SLC_PHASE_SLEWING sl) (b2n (s.get d (F.SLC_PHASE_OUT sl) != s.phaseTarget d sl))
  else (s.set d (F.SLC_PHASE_OUT sl) (s.phaseTarget d sl)).set d (F.SLC_PHASE_SLEWING sl) 0

/-- R213, R214: a new commanded phase. -/
def State.command (s : State) (d sl phase : Nat) : State :=
  ((s.phaseHere d sl).set d (F.SLC_PHASE_CMD sl) phase).phaseMove d sl

/-- A granted drive's settings take force (R202, R206, R209). USER shows the user from here on (DESIGN CHOICE, log entry 146). -/
def State.applyDrive (s : State) (d sl : Nat) (r : Drive) : State :=
  let s := (s.set d (F.SLC_APPLIED_LEVEL sl) r.level).set d (F.SLC_APPLIED_DEPTH sl) r.depth
  let s := (s.set d (F.SLC_APPLIED_RAMP_UP sl) r.rampUp).set d (F.SLC_APPLIED_RAMP_DN sl) r.rampDn
  let s := s.set d (F.SLC_FSTAT_USER sl) r.user
  if r.clamped then s.raise d (slcPage sl) 5 else s

/-- The ports that list a port in their adjacency entries, with the entry (R282): only a written register lists one. -/
def State.listing (s : State) (n : Nat) : List (Nat × Nat) :=
  (s.regs.filter (fun e => decide (0xA200 ≤ e.1 ∧ e.1 < 0xA2E0))).flatMap fun e =>
    ([0, 1, 2, 3].filter (fun k => bits e.2 (8 * k) 8 == n)).map (fun k => ((e.1 - 0xA200) / 4, k))

/-- R286, R319: a change of the field of the port that a slice serves is sent as a sync event to the rinse of every port
that lists it. -/
def State.announce (s : State) (d sl : Nat) (change : TermChange) : State :=
  match if s.awake then s.servedPort d sl else none with
  | some p =>
    { s with coord := { s.coord with
        termEvents := s.coord.termEvents ++ (s.listing (aerial d p)).map (fun e => ⟨e.1, e.2, change⟩) } }
  | none => s

/-- R304, R328: a listener that is energised has its chain running. -/
def State.listenerOn (s : State) (d sl : Nat) : State :=
  match s.servedPort d sl with
  | some p => if (s.get d F.INV_STAT_LISTENER).testBit p then s.set d (F.RCV_P_STAT_RX_ON p) 1 else s
  | none => s

/-- R209, R210: from now on the amplitude moves from that of a level to the one asked for. -/
def State.moveLevel (s : State) (d sl level : Nat) : State :=
  s.setSlice d sl { s.slice d sl with moveAt := s.time, moveFrom := level }

/-- R225: OFF, or the end of the guard with a restart pending: the ramp up starts with the new user's settings and
commanded phase, and the neighbours hear of it (R286). LIVE reads 0 until the first interval of the new period; a CW
period begins with its energise (R242). A limit lowered since the grant counts (R202). -/
def State.startRamp (s : State) (d sl : Nat) (r : Drive) : State :=
  let r := { r with level := s.levelInForce d sl r.level, clamped := r.clamped || s.lowered d sl r.level }
  let s := s.command d sl r.phase
  let s := (s.applyDrive d sl r).set d (F.SLC_FSTAT_LIVE sl) 0
  let s := (s.setSlice d sl { s.slice d sl with cw := r.user == 5 }).moveLevel d sl 0
  ((s.setFstate d sl 1).announce d sl (.on r.level (s.phaseTarget d sl))).listenerOn d sl

/-- R225 to R227: the energise of a granted user at its tick: a ramp up from OFF, a pending restart in RAMP_DOWN or
DRAINING; on a slice already ON the settings wait for the exchange's start (R210, R342). -/
def State.energise (s : State) (d sl : Nat) : State :=
  let x := s.slice d sl
  match x.want with
  | none => s
  | some r =>
    let st := s.fstate d sl
    if st = 0 then (s.setSlice d sl { x with want := none }).startRamp d sl r
    else if st = 4 ∨ st = 5 then s.setSlice d sl { x with want := none, restart := some r }
    else s

/-- A granted energise or restart is cancelled (R229). -/
def State.cancelDrive (s : State) (d sl : Nat) : State :=
  s.setSlice d sl { s.slice d sl with want := none, restart := none }

/-- The down ramp starts, from the present envelope (R225). -/
def State.rampDown (s : State) (d sl : Nat) : State :=
  let s := (s.setSlice d sl { s.slice d sl with offHeld := false, offAbort := false }).moveLevel d sl (s.level d sl)
  ((s.phaseHere d sl).setFstate d sl 4).phaseMove d sl

/-- R225, R226, R229: field-off by the user, or (`abort`) by budget, host, R43 or R52. A ramp up is never cut short, and
only an abort ends a frame part-way; a pending restart or energise is cancelled. -/
def State.fieldOff (s : State) (d sl : Nat) (abort : Bool) : State :=
  let s := s.cancelDrive d sl
  let x := s.slice d sl
  let st := s.fstate d sl
  if st = 1 ∨ (st = 3 ∧ !abort) then s.setSlice d sl { x with offHeld := true, offAbort := abort || x.offAbort }
  else if st = 2 ∨ st = 3 then s.rampDown d sl
  else s

/-- R226: a held field-off acts once the state is ON. -/
def State.heldOff (s : State) (d sl : Nat) : State :=
  let x := s.slice d sl
  if x.offHeld ∧ s.fstate d sl = 2 then s.rampDown d sl else s

/-- R233: the slice enters FAULT, and with it the page; a code is recorded and the entry counted. The field of an energised
one has ended, which its neighbours hear (R314). -/
def State.sliceFault (s : State) (d sl code : Nat) : State :=
  let x := s.slice d sl
  let s := if energisedState (s.fstate d sl) then s.announce d sl .off else s
  let s := s.setSlice d sl
    { x with want := none, restart := none, offHeld := false, offAbort := false, openFault := false, cw := false }
  let s := ((s.setFstate d sl 7).set d (F.SLC_FSTAT_USER sl) 0).phaseMove d sl
  let s := (s.setPage d (slcPage sl) 5).raise d (slcPage sl) 0
  (s.countUp d (F.SLC_FAULT_COUNT sl) (F.SLC_FAULT_OVF sl) 1).err d (slcPage sl) code

/-- R221, R204, R408: an interval's means are placed in the sense registers; above the headroom limit the slice delivers
that limit. Probe measurements do not update them. -/
def execSenseInterval (d sl pwr headroom ampl detune : Nat) (s : State) : Out :=
  .next <| s.when (s.fieldDie d && decide (sl < 10) && energisedState (s.fstate d sl)
      && s.get d (F.SLC_FSTAT_USER sl) != 2) fun s =>
    let above := decide (headroom < s.level d sl)
    let s := (s.set d (F.SLC_SENSE_PWR_PWR sl) (if above then headroom else pwr)).set d (F.SLC_SENSE_PWR_HEADROOM sl)
      headroom
    let s := (s.set d (F.SLC_SENSE_DET_AMPL sl) ampl).set d (F.SLC_SENSE_DET_DETUNE sl) detune
    let s := s.set d (F.SLC_FSTAT_LIVE sl) 1
    if above then s.raise d (slcPage sl) 1 else s

/-- R30: a sync event that arrives after its named tick is counted and raised; it is applied on arrival. -/
def State.syncLate (s : State) (late : Bool) : State :=
  if late then (s.countUp 0 F.SEM_SYNC_LATE_COUNT F.SEM_SYNC_LATE_OVF 1).raise 0 0x02 4 else s

/-- PHASE_COMMAND (R213, R214): a new CMD from a sync event. The rinse of the ports that list an energised source follows
its move (R319). -/
def execPhaseCommand (d sl phase : Nat) (late : Bool) (s : State) : Out :=
  .next <| s.when (s.inService d && decide (sl < 10)) fun s =>
    let s := (s.syncLate late).command d sl phase
    if energisedState (s.fstate d sl) then s.announce d sl (.phase (s.phaseTarget d sl)) else s

/-- PHASE_SLEW_END (R214): the output phase reaches its target and SLEWING clears; the move is held while MODULATING. -/
def execPhaseSlewEnd (d sl : Nat) (s : State) : Out :=
  .next <| s.when (s.fieldDie d && decide (sl < 10) && s.flag d (F.SLC_PHASE_SLEWING sl) && s.fstate d sl != 3) fun s =>
    (s.set d (F.SLC_PHASE_OUT sl) (s.phaseTarget d sl)).set d (F.SLC_PHASE_SLEWING sl) 0

/-- R215, R218: at a slice's exchange boundary the trim codes and the phase offset in force follow the calibration set. -/
def State.sliceBoundary (s : State) (d sl : Nat) : State :=
  let ofs := s.calOfs d sl
  let s := if s.get d (F.SLC_PHASE_CAL_OFS sl) = ofs then s
    else ((s.phaseHere d sl).set d (F.SLC_PHASE_CAL_OFS sl) ofs).phaseMove d sl
  let (a, b) := s.trimCodes d sl
  (s.set d (F.SLC_TRIM_SERIES sl) a).set d (F.SLC_TRIM_SHUNT sl) b

end Sys2Proof.Machine
end

