-- ==== Sys2Proof/Machine/Supply.lean ====
section
/-! DEFINITION. The supply request link (chapter 17, R678 to R681). -/

namespace Sys2Proof.Machine

/-- R678: VALUE of a SET lies from 1,500 to 2,750. -/
def setRange (v : Nat) : Bool := decide (1500 ≤ v ∧ v ≤ 2750)

/-- R681: a request waits for the one in flight; a newer request replaces a waiting one. -/
def State.supplyRequest (s : State) (r : SupplyReq) : State := { s with supply := { s.supply with waiting := some r } }

/-- R681: the target in force; before any request has ended ACKED it is the measured VSUP. -/
def State.supplyTarget (s : State) : Nat := s.supply.inForce.getD (s.get 0 F.SRL_VSUP_VSUP)

/-- R678: the 18 bits of a request frame on SRDA: start bit 1, the request most significant bit first, odd parity. -/
def requestFrame (cmd value : Nat) : List Bool :=
  let req := cmd * 4096 + value % 4096
  let bs := (List.range 16).map (fun i => req.testBit (15 - i))
  true :: bs ++ [(bs.filter id).length % 2 == 0]

/-- R681: what a host request asks; a reserved CMD or a SET VALUE outside 1,500 to 2,750 is refused with REQ_RANGE. -/
def State.hostSupply (s : State) (cmd value : Nat) : State :=
  s.hostWrite 0 0x04 fun s =>
    let ok := (cmd == 1 && setRange value) || cmd == 2 || cmd == 3 || cmd == 4
    if ok then s.supplyRequest { cmd := cmd, value := value } else s.err 0 0x04 0x0102

/-- SRL_SET (R678, R681). -/
def execSrlSet (value : Nat) (origin : SupplyOrigin) (s : State) : Out :=
  .next <| match origin with
    | .host => s.hostSupply 1 value
    | _ => s.when s.awake (·.supplyRequest { cmd := 1, value := value })

/-- SRL_STEP_UP (R678, R681). -/
def execSrlStepUp (value : Nat) (s : State) : Out := .next (s.hostSupply 2 value)

/-- SRL_STEP_DOWN (R678, R681). -/
def execSrlStepDown (value : Nat) (s : State) : Out := .next (s.hostSupply 3 value)

/-- SRL_QUERY (R678). -/
def execSrlQuery (s : State) : Out := .next (s.hostSupply 4 0)

/-- A value clamped to 1,500 to 2,750 (R681). -/
def clampTarget (v : Int) : Nat := (clampI 1500 2750 v).toNat

/-- SRL_FRAME_START (R681): with no request in flight the waiting one is sent; steps apply to the target in force now, and
SRL_STAT.TARGET shows the target of a SET or STEP. -/
def execSrlFrameStart (s : State) : Out :=
  .next <|
    match s.supply.flight, s.supply.waiting with
    | none, some r =>
      let base : Int := s.supplyTarget
      let target := if r.cmd = 1 then r.value else if r.cmd = 2 then clampTarget (base + r.value)
        else if r.cmd = 3 then clampTarget (base - r.value) else s.supplyTarget
      let s := { s with supply := { s.supply with flight := some r, waiting := none, sent := target } }
      let s := s.set 0 F.SRL_STAT_SRAK 0
      if r.cmd = 4 then s else s.set 0 F.SRL_STAT_TARGET target
    | _, _ => s

/-- R680: the request in flight ends with a result. -/
def State.supplyEnded (s : State) (result : Nat) : State :=
  ({ s with supply := { s.supply with flight := none } }).set 0 F.SRL_STAT_RESULT result

/-- R276: the coordinator's SET for FCO_VSUP.RUN, when AUTO is 1 and VSUP is below it. -/
def State.supplyForRun (s : State) : State :=
  let run := s.get 0 F.FCO_VSUP_RUN
  if s.flag 0 F.FCO_VSUP_CTL_AUTO && decide (s.get 0 F.SRL_VSUP_VSUP < run) then
    { s.supplyRequest { cmd := 1, value := run } with
      coord := { s.coord with idleSent := false } }
  else { s with coord := { s.coord with idleSent := false } }

end Sys2Proof.Machine
end

