-- ==== Sys2Proof/Machine/WatchState.lean ====
section
/-! DEFINITION. The states of a watched port (chapter 10, R417, R418, R424, R429) as other blocks move them, and the
writing of held WATCH records (R430). -/

namespace Sys2Proof.Machine

/-- R424: 0 OFF, 1 LEARN, 2 ARMED, 3 COUNTING, 4 DETECTED, 5 SUSPENDED. -/
def State.watchState (s : State) (d p : Nat) : Nat := s.get d (F.CWT_P_STAT_STATE p)

def State.setWatchState (s : State) (d p st : Nat) : State := s.set d (F.CWT_P_STAT_STATE p) st

/-- R429: the enable of the present power state. -/
def State.watchEnabled (s : State) (d p : Nat) : Bool :=
  (s.device = .active && s.flag d (F.CWT_P_CFG_EN p)) || (s.device = .watch && s.flag d (F.CWT_P_CFG_SLEEP p))

/-- R424: a serving slice that is neither in FAULT, TESTING nor DARNED, in a power state in which the port is watched. -/
def State.watchable (s : State) (d p : Nat) : Bool :=
  s.watchEnabled d p &&
    (match s.servingSlice d p with
      | some sl => decide (s.pageState d (slcPage sl) ≤ 3)
      | none => false)

/-- R415: the temperature of the baseline in 0.1 °C: FDC_STAT.TEMP in ACTIVE, the watch domain's sample in WATCH. -/
def State.watchTemp (s : State) (d : Nat) : Int :=
  if s.device = .active then 10 * signed 8 (s.get d F.FDC_STAT_TEMP) else 10 * signed 8 (s.get d F.CWT_TEMP_TEMP)

/-- R415, R418: the calibrated baseline of a port, when its serving slice's set holds one. -/
def State.portBase (s : State) (d p : Nat) : Option (Int × Int) :=
  match s.servingSlice d p with
  | some sl => s.watchBase d sl (s.watchTemp d)
  | none => none

/-- R410: a dropped probe. -/
def State.skipProbe (s : State) (d : Nat) : State :=
  (s.countUp d F.CWT_CNT_SKIP_COUNT F.CWT_CNT_SKIP_OVF 1).err d 0x0E 0x0101

/-- R424: the probe that waits of a port that is not watched any more is not sent. -/
def State.dropWaiting (s : State) (d p : Nat) : State :=
  let s := { s with coord := { s.coord with
    cands := s.coord.cands.filter (fun (c : Cand) => !(decide (c.origin = Origin.probe) && c.die == d && c.port == p)) } }
  match s.exch d p with
  | some (e : Exch) => if e.origin = Origin.probe ∧ e.phase = Phase.next then s.dropExch d p else s
  | none => s

/-- R418: the port enters LEARN. -/
def State.enterLearn (s : State) (d p : Nat) : State :=
  let s := (s.setWatchState d p 1).set d (F.CWT_P_STAT_RUN p) 0
  s.setWatch d p { s.watchOf d p with sumA := 0, sumP := 0, learned := 0, deltas := [], reported := false }

/-- R424: ARMED, or LEARN when a commit has changed LEVEL or BURST, or the slice's set holds no watch baseline (R418). -/
def State.armOrLearn (s : State) (d p : Nat) : State :=
  if (s.watchOf d p).relearn then s.enterLearn d p
  else if (s.portBase d p).isNone then (s.enterLearn d p).err d 0x0E 0x0102
  else (s.setWatchState d p 2).set d (F.CWT_P_STAT_RUN p) 0

/-- R424: SUSPENDED: the state, the count and the tracker are kept. -/
def State.suspendWatch (s : State) (d p : Nat) : State :=
  ((s.setWatch d p { s.watchOf d p with saved := s.watchState d p }).setWatchState d p 5).dropWaiting d p

/-- R424: the cause of SUSPENDED is removed. -/
def State.resumeWatch (s : State) (d p : Nat) : State :=
  let w := s.watchOf d p
  if !w.probed || w.saved == 0 then s.armOrLearn d p
  else if w.saved = 1 then s.setWatchState d p 1
  else (s.setWatchState d p w.saved).set d (F.CWT_P_STAT_RUN p) 0

/-- R424, R429: a port is SUSPENDED exactly while it may not be probed. -/
def State.watchSync (s : State) (d p : Nat) : State :=
  let st := s.watchState d p
  if st = 0 then s
  else if s.watchable d p then (if st = 5 then s.resumeWatch d p else s)
  else if st = 5 then s else s.suspendWatch d p

def State.watchSyncDie (s : State) (d : Nat) : State := (List.range 8).foldl (fun s p => s.watchSync d p) s

def State.watchSyncAll (s : State) : State := (List.range s.dies).foldl (fun s i => s.watchSyncDie (i + 1)) s

/-- R432, R410: the next probe of a port, where it waits as a candidate, reserves its record in the class in force. -/
def State.reclass (s : State) (d p : Nat) : State :=
  let k := s.get d (F.CWT_P_CFG_CLASS p)
  { s with coord := { s.coord with cands := s.coord.cands.map (fun (c : Cand) =>
      if c.origin = Origin.probe ∧ c.die = d ∧ c.port = p then { c with res := [0, 1, 2, 3].map (fun i => if i = k then 7 else 0) }
      else c) } }

/-- R424, R418: a commit of the CWT page has reached a port; `changed`: its LEVEL or BURST changed. -/
def State.watchCommit (s : State) (d p : Nat) (changed : Bool) : State :=
  let s := s.reclass d p
  let s := if changed then s.setWatch d p { s.watchOf d p with relearn := true } else s
  if !s.flag d (F.CWT_P_CFG_EN p) && !s.flag d (F.CWT_P_CFG_SLEEP p) then
    ((s.setWatchState d p 0).setWatch d p { s.watchOf d p with probed := false, saved := 0 }).dropWaiting d p
  else
    let st := s.watchState d p
    let s := if st = 0 then s.setWatchState d p 5
      else if changed then
        (if st = 5 then (s.enterLearn d p).suspendWatch d p else s.enterLearn d p)
      else s
    s.watchSync d p

/-- Ports whose record waits for credits, by the instant of their probes (R430). -/
def insertHeld (x : Nat × Nat) : List (Nat × Nat) → List (Nat × Nat)
  | [] => [x]
  | y :: ys => if x.1 ≤ y.1 then x :: y :: ys else y :: insertHeld x ys

def State.heldRecords (s : State) : List (Nat × Nat) :=
  s.watches.foldr (fun e l => match e.2.pendingRec with
    | some (t, _ :: _) => if s.inService (e.1 / 16) then insertHeld (t, e.1) l else l
    | _ => l) []

/-- A WATCH record goes to the die's outbound buffer on its reservation of 7 words in a class; PEND lasts until it is
written. -/
def State.sendWatch (s : State) (d p cls time : Nat) (body : List Word) : State :=
  let s := s.setWatch d p { s.watchOf d p with pendingRec := some (time, []) }
  s.sendRecord d { cls := cls, type := 4, time := time, payload := body, reserved := 7, xfer := 0,
                   note := .watch d p, result := none }

/-- R430: a WATCH record of another die is not yet written. -/
def State.watchElse (s : State) (d : Nat) : Bool :=
  (List.range s.dies).any fun i => i + 1 != d && (s.die (i + 1)).out.any (fun r => r.type == 4)

/-- R430, R58: held records take their credits and are written in order of their probe instants; the first that lacks credits,
whose die waits for its copy of device time, or that an earlier one of another die has to precede, waits, and with it those
behind it. -/
def State.flushHeld : List (Nat × Nat) → State → State
  | [], s => s
  | (t, k) :: rest, s =>
    let d := k / 16
    let p := k % 16
    let c := s.get d (F.CWT_P_CFG_CLASS p)
    match (s.watchOf d p).pendingRec with
    | some (_, body) =>
      if (s.die d).timeLoaded && s.canReserve c 7 && !s.watchElse d then ((s.reserve c 7).sendWatch d p c t body).flushHeld rest else s
    | none => s.flushHeld rest

def State.flushWatch (s : State) : State := if s.awake then s.flushHeld s.heldRecords else s

/-- R411, R427: the die's watch sequencer probes: from the entry into WATCH until the device is ACTIVE and the die's carrier
PLL is locked. -/
def State.sequenced (s : State) (d : Nat) : Bool := s.flag d F.DPWR_STAT_WATCHDOM

/-- R411, R412, R409: the watch sequencer starts the die's longest-waiting probe once none of the die runs; one whose level in
force is below 20 mW by then is skipped. -/
def State.startProbes (d : Nat) : Nat → State → State
  | 0, s => s
  | n + 1, s =>
  let mine := s.exchs.filter (fun e => decide (e.1 / 16 = d) && decide (e.1 < 4096) &&
    (match e.2.origin with
      | .probe => true
      | _ => false))
  let busy := mine.any (fun e => e.2.phase != .next) ||
    (List.range 10).any (fun sl => energisedState (s.fstate d sl) || s.fstate d sl == 5)
  if !s.sequenced d ∨ busy then s
  else
    match mine.foldl (fun (b : Option (Nat × Exch)) e => match b with
        | some x => if e.2.admitted < x.2.admitted then some e else b
        | none => some e) none with
    | none => s
    | some (k, e) =>
      let p := k % 16
      match s.servingSlice d p with
      | none => s.dropExch d p
      | some sl =>
        if s.levelInForce d sl (s.get d (F.CWT_P_PROBE_LEVEL p)) < 20 then State.startProbes d n ((s.dropExch d p).skipProbe d)
        else (s.setExch d p { e with phase := .energise }).startRamp d sl
          { user := 2, level := s.levelInForce d sl (s.get d (F.CWT_P_PROBE_LEVEL p)), clamped := s.lowered d sl (s.get d (F.CWT_P_PROBE_LEVEL p)),
            depth := s.get d (F.SLC_APPLIED_DEPTH sl), rampUp := 0, rampDn := 0, phase := s.get d (F.SLC_PHASE_CMD sl) }

/-- The sequencer of a die goes on with what waits: at most one probe for each of its ports. -/
def State.startWatchProbe (s : State) (d : Nat) : State := State.startProbes d 8 s

end Sys2Proof.Machine
end

