-- ==== Sys2Proof/Machine/Descriptor.lean ====
section
/-! DEFINITION. Exchange descriptors (R336, R376): fields, the checks of R338, R339 and R377, snapshots, chains and
largest records. -/

namespace Sys2Proof.Machine

/-- Word `i` of a member's descriptor. -/
def Member.w (m : Member) (i : Nat) : Word := (m.desc[i]?).getD 0

def Member.kind (m : Member) : Nat := bits (m.w 0) 30 2
def Member.proto (m : Member) : Nat := bits (m.w 0) 24 4
def Member.keep (m : Member) : Bool := bit (m.w 0) 23
def Member.listen (m : Member) : Bool := bit (m.w 0) 22
def Member.linkEn (m : Member) : Bool := bit (m.w 0) 21
def Member.link (m : Member) : Nat := bits (m.w 0) 12 9
def Member.retry (m : Member) : Nat := bits (m.w 0) 8 4
def Member.linkOk (m : Member) : Bool := bit (m.w 0) 7
def Member.port (m : Member) : Nat := bits (m.w 0) 0 3
def Member.rampDn (m : Member) : Nat := bits (m.w 1) 23 6
def Member.rampUp (m : Member) : Nat := bits (m.w 1) 17 6
def Member.depth (m : Member) : Nat := bits (m.w 1) 10 7
def Member.reqLevel (m : Member) : Nat := bits (m.w 1) 0 10
def Member.txCrc (m : Member) : Bool := bit (m.w 2) 31
def Member.txBits (m : Member) : Nat := bits (m.w 2) 16 13
def Member.txRef (m : Member) : Nat := bits (m.w 2) 0 12
def Member.wmax (m : Member) : Nat := bits (m.w 3) 0 27
def Member.wmin (m : Member) : Nat := bits (m.w 4) 12 20
def Member.rxRef (m : Member) : Nat := bits (m.w 4) 0 12
def Member.resp (m : Member) : Nat := bits (m.w 5) 28 4
def Member.rxCrc (m : Member) : Bool := bit (m.w 5) 27
def Member.rxEn (m : Member) : Bool := bit (m.w 5) 26
def Member.maxLen (m : Member) : Nat := bits (m.w 5) 16 10
def Member.eofReq (m : Member) : Bool := bit (m.w 5) 15
def Member.bind (m : Member) : Nat := bits (m.w 6) 30 2
def Member.ticket (m : Member) : Nat := bits (m.w 6) 16 14
def Member.cls (m : Member) : Nat := bits (m.w 6) 14 2
def Member.user (m : Member) : Nat := bits (m.w 7) 16 16
def Member.hold (m : Member) : Nat := bits (m.w 7) 0 16
def Member.afi (m : Member) : Nat := bits (m.w 2) 16 8
def Member.nexp (m : Member) : Nat := bits (m.w 2) 13 3
def Member.wup (m : Member) : Bool := bit (m.w 2) 12
def Member.afiEn (m : Member) : Bool := bit (m.w 2) 31
def Member.nslot16 (m : Member) : Bool := bit (m.w 2) 30
def Member.actCode (m : Member) : Nat := bits (m.w 2) 28 2
def Member.mode (m : Member) : Nat := bits (m.w 2) 26 2
def Member.tkt (m : Member) : Bool := bit (m.w 2) 25
def Member.maskLen (m : Member) : Nat := bits (m.w 2) 8 8
def Member.maxTags (m : Member) : Nat := bits (m.w 2) 0 8
def Member.mask (m : Member) : Nat := (m.w 4).toNat * 4294967296 + (m.w 3).toNat
def Member.readBlk (m : Member) : Nat := bits (m.w 5) 24 8
def Member.readLen (m : Member) : Nat := bits (m.w 5) 19 5 + 1
def Member.maxReq (m : Member) : Nat := bits (m.w 5) 8 8
def Member.maxDep (m : Member) : Nat := bits (m.w 5) 0 8

/-- R376: the mask bits of word `i` of an INVENTORY descriptor that are not reserved: those below MASKLEN. -/
def tagMask (kind len i : Nat) : Word :=
  if kind = 3 ∧ i = 3 then word (2 ^ min len 32 - 1)
  else if kind = 3 ∧ i = 4 then word (2 ^ min (len - 32) 32 - 1)
  else 0xFFFFFFFF

/-- R336, R377: the bits of word `i` of a descriptor of a KIND that are not reserved. -/
def descMask (kind i : Nat) : Word :=
  match i with
  | 0 => 0xCFFFFF87
  | 1 => 0x1FFFFFFF
  | 2 => if kind = 0 then 0x9FFF0FFF else if kind = 3 then 0xFEFFFFFF else if kind = 1 then 0x00001000 else 0x00FFF000
  | 3 => if kind = 0 then 0x07FFFFFF else if kind = 3 then 0xFFFFFFFF else 0
  | 4 => if kind = 0 ∨ kind = 3 then 0xFFFFFFFF else 0
  | 5 => if kind = 0 then 0xFFFF8000 else if kind = 3 then 0xFFF8FFFF else 0
  | 6 => 0xFFFFC000
  | _ => 0xFFFFFFFF

/-- R337: protocol groups. -/
def protoA (p : Nat) : Bool := decide (p ≤ 3)
def protoB (p : Nat) : Bool := decide (4 ≤ p ∧ p ≤ 7)
def protoV (p : Nat) : Bool := decide (8 ≤ p)

/-- R337: dual subcarrier and high data rate of an ISO/IEC 15693 PROTO. -/
def dualSub (p : Nat) : Bool := p % 2 == 1
def highRate (p : Nat) : Bool := decide (p % 4 ≤ 1)

/-- R347, R338: the storage limit of a reply in bytes. -/
def Member.storeLimit (m : Member) : Nat :=
  if m.resp = 1 then m.maxLen + (if m.rxCrc then 0 else 2) else if m.resp = 2 then 1 else 0

/-- R338, first check: every field inside its range (DEPTH that of R206) and every reserved bit 0. -/
def Member.rangeOk (m : Member) : Bool :=
  let head := bits (m.w 0) 28 2 == 0 && bits (m.w 0) 3 4 == 0 && bits (m.w 1) 29 3 == 0
    && decide (8 ≤ m.depth ∧ m.depth ≤ 100) && decide (m.bind ≤ 2) && bits (m.w 6) 0 14 == 0 && (m.bind != 1 || decide (m.ticket < ticketCount))
  let body :=
    if m.kind = 0 then
      bits (m.w 2) 29 2 == 0 && bits (m.w 2) 12 4 == 0 && decide (7 ≤ m.txBits ∧ m.txBits ≤ 4096)
        && bits (m.w 3) 27 5 == 0 && decide (m.wmax ≤ 67158016) && decide (m.resp ≤ 2) && bits (m.w 5) 0 15 == 0
    else if m.kind = 3 then
      bits (m.w 2) 24 1 == 0 && decide (m.actCode ≤ 2) && decide (m.mode ≤ 1)
        && decide (m.maskLen ≤ (if m.nslot16 then 60 else 64)) && decide (1 ≤ m.maxTags ∧ m.maxTags ≤ 64)
        && decide (m.mask < 2 ^ m.maskLen) && bits (m.w 5) 16 3 == 0 && decide (1 ≤ m.maxReq) && decide (m.maxDep ≤ 64)
    else
      bits (m.w 2) 24 8 == 0 && bits (m.w 2) 0 12 == 0 && m.w 3 == 0 && m.w 4 == 0 && m.w 5 == 0
        && (if m.kind = 1 then m.afi == 0 && m.nexp == 0 else decide (m.nexp ≤ 4))
  head && body

/-- R362: DEPTH of a protocol. -/
def depthOk (p d : Nat) : Bool :=
  if p ≤ 3 then decide (90 ≤ d ∧ d ≤ 100) else if p ≤ 7 then decide (15 ≤ d ∧ d ≤ 24)
  else decide ((19 ≤ d ∧ d ≤ 46) ∨ (90 ≤ d ∧ d ≤ 100))

/-- R338: the consistency checks, and R377 for KIND INVENTORY. -/
def Member.protoOk (m : Member) : Bool :=
  let p := m.proto
  depthOk p m.depth && (m.kind != 1 || p == 0) && (m.kind != 2 || p == 4) && (m.kind != 3 || protoV p)
    && (!m.listen || m.kind == 3) && (m.bind != 2 || m.kind == 1 || m.kind == 2)
    && (m.kind != 0 ||
      ((if protoA p then m.txBits == 7 || m.txBits % 8 == 0 else m.txBits % 8 == 0) && !(m.txBits == 7 && m.txCrc)
        && !(m.resp == 2 && (!protoA p || m.rxCrc)) && !(m.eofReq && !protoV p)))
    && (m.kind != 3 || (m.retry == 0 && m.bind == 0 && !(m.mode == 1 && !m.tkt)))

/-- R338: the TX frame and, with RX_EN, the RX area stay below byte 16,384. -/
def Member.bufferOk (m : Member) : Bool :=
  m.kind != 0 || (decide (4 * m.txRef + (m.txBits + 7) / 8 ≤ 16384)
    && (!m.rxEn || decide (4 * m.rxRef + m.storeLimit ≤ 16384)))

/-- R338: the request flags of an ISO/IEC 15693 frame match PROTO. -/
def Member.flagsOk (m : Member) : Bool :=
  m.kind != 0 || !protoV m.proto ||
    (let f := (m.frame[0]?).getD 0
     f.getLsbD 0 == dualSub m.proto && f.getLsbD 1 == highRate m.proto)

/-- R338, R339: the code of the first check that fails, in the order of R338. -/
def Member.check (m : Member) : Option Nat :=
  if !m.rangeOk then some 0x0101
  else if !m.protoOk then some 0x0102
  else if !m.bufferOk then some 0x0103
  else if !m.flagsOk then some 0x0102
  else if m.kind = 0 ∧ m.wmax < m.wmin then some 0x0101
  else none

/-- Bytes of a die's frame buffer (R333, R334). -/
def State.frameBytes (s : State) (d b : Nat) : Nat → List Byte
  | 0 => []
  | n + 1 => Memory.readByte s.mem (hostAddr d 0x44 0 + b) :: s.frameBytes d (b + 1) n

/-- R247: the snapshot of a descriptor and its TX frame. -/
def State.snapMember (s : State) (d index : Nat) : Member :=
  let m : Member := { index := index, desc := Memory.readWords s.mem (hostAddr d 0x40 0 + 32 * index) 8, frame := [] }
  if m.kind = 0 then { m with frame := s.frameBytes d (4 * m.txRef) (min 512 ((m.txBits + 7) / 8)) } else m

/-- R341, R351: a chain from its first member: the members that run, the code that ended it, whether the link of the
16th member was cut (R255). -/
def State.chainFrom (s : State) (d port : Nat) : Nat → Nat → List Member × Option Nat × Bool
  | 0, _ => ([], none, true)
  | n + 1, index =>
    let m := s.snapMember d index
    match m.check with
    | some c => ([], some c, false)
    | none =>
      if m.port ≠ port then ([], some 0x0104, false)
      else if m.linkEn then
        let (rest, e, cut) := s.chainFrom d port n m.link
        (m :: rest, e, cut)
      else ([m], none, false)

/-- Words of the largest record of a member (R359, R370, R372, R404). -/
def Member.largest (m : Member) : Nat :=
  if m.kind = 0 then
    8 + ((if m.resp = 1 then m.maxLen + (if m.rxCrc then 0 else 2) else if m.resp = 2 then 1 else 0) + 3) / 4
  else if m.kind = 1 then 12
  else if m.kind = 2 then 8 + (4 + 16 * 2 ^ m.nexp) / 4
  else if m.mode = 0 then 8 + m.maxTags * (if m.actCode = 2 then 4 + (m.readLen + 3) / 4 else 4)
  else 8 + 9 * (m.maxTags + m.maxDep)

/-- R255: per class, the sum of the largest records of the members that name it. -/
def chainCredits (ms : List Member) : List Nat :=
  [0, 1, 2, 3].map fun c => ((ms.filter (fun m => m.cls == c)).map Member.largest).foldl (· + ·) 0

/-- R255: a chain counts at the highest level in force among its members. -/
def State.chainLevel (s : State) (d p : Nat) (ms : List Member) : Nat :=
  match s.servingSlice d p with
  | none => 0
  | some sl => (ms.map (fun m => s.levelInForce d sl m.reqLevel)).foldl max 0

/-- R339: an invalid descriptor is recorded, counted and raised; it forms no candidate. -/
def State.descInvalid (s : State) (d code : Nat) : State :=
  ((s.err d 0x0C code).countUp d F.XEN_CNT_INVALID_COUNT F.XEN_CNT_INVALID_OVF 1).raise d 0x0C 0

/-- R247, R339 to R341: the chain that a descriptor starts on a die, with the engine's reports; no members when it forms
no candidate. -/
def State.formChain (s : State) (d index : Nat) : State × List Member :=
  if !s.pageOn d 0x0C then (s.descInvalid d 0x0007, [])
  else
    let (ms, e, cut) := s.chainFrom d (s.snapMember d index).port 16 index
    let s := match e with
      | some c => s.descInvalid d c
      | none => s
    (if cut then s.raise 0 0x0A 8 else s, ms)

/-- CRC-16 with x¹⁶ + x¹² + x⁵ + 1, least significant bit first (R363). -/
def crc16Bit (c : Nat) (b : Bool) : Nat :=
  let x := (c % 2 == 1) != b
  (c / 2) ^^^ (if x then 0x8408 else 0)

def crc16Byte (c : Nat) (b : Byte) : Nat := (List.range 8).foldl (fun c i => crc16Bit c (b.getLsbD i)) c

def crc16 (init : Nat) (bs : List Byte) : Nat := bs.foldl crc16Byte init

/-- R363: the protocol's 16-bit CRC. -/
def protoCrc (p : Nat) (bs : List Byte) : Nat :=
  if protoA p then crc16 0x6363 bs else 0xFFFF - crc16 0xFFFF bs

/-- The two CRC bytes, least significant first. -/
def crcBytes (c : Nat) : List Byte := [BitVec.ofNat 8 c, BitVec.ofNat 8 (c / 256)]

/-- The bytes of the frame a member sends: its TX frame with the CRC appended when TX_CRC is set (R363). -/
def Member.airFrame (m : Member) : List Byte :=
  if m.txCrc then m.frame ++ crcBytes (protoCrc m.proto m.frame) else m.frame

end Sys2Proof.Machine
end

