-- ==== Sys2Proof/Machine/Grants.lean ====
section
/-! DEFINITION. Grants of slices and dies (chapter 06): keys of admitted work, adjacency, steering, streams, requests for
RUN, field holds, and the ends of calibration runs and tests that foreground work or a fault cuts (R711, R733). -/

namespace Sys2Proof.Machine

/-- Keys of admitted work that is not on a port: a slice's (calibration, CW) and a die's (DIE runs and tests). -/
def sliceWork (d sl : Nat) : Nat := 4096 + 16 * d + sl

def dieWork (d : Nat) : Nat := 8192 + d

/-- The calibration target of a key. -/
def State.calTarget (s : State) (k : Nat) : CalTarget := Store.get s.cal k {}

def State.setCalTarget (s : State) (k : Nat) (c : CalTarget) : State := { s with cal := Store.put s.cal k {} c }

/-- Key of a unit under test (R724). -/
def testKey (kind die unit : Nat) : Nat := 65536 * kind + 256 * die + unit

def State.testUnit (s : State) (k : Nat) : TestUnit := Store.get s.tests k {}

def State.setTest (s : State) (k : Nat) (t : TestUnit) : State := { s with tests := Store.put s.tests k {} t }

/-- Words of an adjacency register (R282): entry k of port n, or none when it is 0xFF. -/
def State.adj (s : State) (n k : Nat) : Option Nat :=
  let v := bits (s.reg 0 0x0A (0x200 + 4 * n)) (8 * k) 8
  if v = 0xFF then none else some v

def State.adjacent (s : State) (n : Nat) : List Nat := [0, 1, 2, 3].filterMap (s.adj n)

/-- R279: the enabled steering entry whose PORT_A is the port. -/
def State.steering (s : State) (n : Nat) : Option Nat :=
  (List.range 16).find? fun k => s.flag 0 (F.FCO_STEER_EN k) && s.get 0 (F.FCO_STEER_PORT_A k) == n

/-- R279, R280: the partner port and the level asked of it for an exchange at a level in force. -/
def State.partnerOf (s : State) (n level : Nat) : Option (Nat × Nat) :=
  (s.steering n).map fun k => (s.get 0 (F.FCO_STEER_PORT_B k), level * s.get 0 (F.FCO_STEER_LEVEL_PCT k) / 100)

/-- R280, R202: the partner's level in force for an exchange at a level in force; 0 without a partner. -/
def State.partnerLevel (s : State) (n level : Nat) : Nat :=
  match s.partnerOf n level with
  | some (q, l) =>
    (match s.servingSlice (portDie q) (portIx q) with
      | some sl => s.levelInForce (portDie q) sl l
      | none => l)
  | none => 0

/-- PSTATE of a die (DPWR_STAT): 0 logic off, 1 DOZE, 2 RUN. -/
def State.pstate (s : State) (d : Nat) : Nat := s.get d F.DPWR_STAT_PSTATE

/-- R288, R677: RUN is requested on a die. -/
def State.askRun (s : State) (d : Nat) : State :=
  if s.inService d && s.pstate d != 2 then s.setDie d { s.die d with runAsked := true } else s

def State.askRunPorts (s : State) (ns : List Nat) : State :=
  (ns.filter (fun n => s.inService (portDie n))).foldl (fun s n => s.askRun (portDie n)) s

/-- R287: while GUARD_RX is 1, a port that is adjacent to one whose exchange is in its response window. -/
def State.guarded (s : State) (n : Nat) : Bool :=
  s.flag 0 F.FCO_CTRL_GUARD_RX &&
    s.exchs.any (fun e => decide (e.1 < 4096) && decide (e.2.phase = .listen)
      && (s.adjacent (aerial (e.1 / 16) (e.1 % 16))).contains n)

/-- R287: the guard holds the ramps of the port that a slice serves. -/
def State.guardedSlice (s : State) (d sl : Nat) : Bool :=
  match s.servedPort d sl with
  | some p => s.guarded (aerial d p)
  | none => false

/-- R287: a port's down ramp waits at ON while it is guarded. -/
def State.userFieldOff (s : State) (d sl : Nat) : State :=
  if s.guardedSlice d sl && s.fstate d sl == 2 then
    let s := s.cancelDrive d sl
    s.setSlice d sl { s.slice d sl with offHeld := true }
  else s.fieldOff d sl false

/-- R225, R287: field-off by a host or budget abort: a frame ends part-way, and on a guarded port the ramp waits at ON. -/
def State.abortFieldOff (s : State) (d sl : Nat) : State :=
  if s.guardedSlice d sl && decide (1 ≤ s.fstate d sl ∧ s.fstate d sl ≤ 3) then
    let s := s.cancelDrive d sl
    let s := s.setSlice d sl { s.slice d sl with offHeld := true }
    if s.fstate d sl = 3 then ((s.phaseHere d sl).setFstate d sl 2).phaseMove d sl else s
  else if s.fstate d sl = 1 then s.fieldOff d sl false
  else s.fieldOff d sl true

/-- R287: held down ramps of the package whose window has ended, or that a commit of FCO_CTRL has freed. -/
def State.releaseGuarded (s : State) : State :=
  s.slices.foldl (fun s e =>
    let d := e.1 / 16
    let sl := e.1 % 16
    if s.guardedSlice d sl then s else s.heldOff d sl) s

/-- The seam that joins two neighbouring field dies (R22). -/
def seamBetween (a b : Nat) : Nat := min a b

/-- The listeners of an exchange on a die whose streams cross a seam. -/
def crossing (d seam : Nat) (l : List Nat) : List Nat := l.filter (fun n => portDie n != d && seamBetween d (portDie n) == seam)

/-- Neighbour streams of admitted exchanges that cross a seam (R36); with `running`, only those that run (R328). -/
def State.streamsOver (s : State) (seam : Nat) (running : Bool) : Nat :=
  (s.exchs.map (fun e =>
    let d := e.1 / 16
    if e.1 < 4096 ∧ (!running ∨ e.2.phase ≠ .energise) then
      (crossing d seam e.2.listeners).length
    else 0)).foldl (· + ·) 0

/-- R39: some seam is faulted. -/
def State.anySeamFault (s : State) : Bool :=
  (List.range 8).any (fun n => decide (2 ≤ s.get 0 (F.SEM_SEAM_STATE n)))

/-- R36, R39: the streams that may cross one seam. -/
def State.streamLimit (s : State) : Nat := if s.anySeamFault then 6 else 12

/-- R283: the stream from a listener, beside those from the listeners chosen before it, keeps every seam within R36 or
R39, on a seam that is UP (R37, R40). -/
def State.streamFits (s : State) (d : Nat) (chosen : List Nat) (listener : Nat) : Bool :=
  let e := portDie listener
  if e = d then true
  else if e + 1 = d ∨ d + 1 = e then
    let k := seamBetween d e
    s.get 0 (F.SEM_SEAM_STATE k) == 1 && decide (s.streamsOver k false + (crossing d k chosen).length < s.streamLimit)
  else false

/-- R257: the slice is granted to another user; a slice in RAMP_DOWN or DRAINING may take a new grant (R227). -/
def State.sliceGranted (s : State) (d sl : Nat) : Bool :=
  let x := s.slice d sl
  let st := s.fstate d sl
  x.want.isSome || x.restart.isSome || x.openFault || (s.get d (F.SLC_FSTAT_USER sl) != 0 && st != 4 && st != 5)

/-- R257: the slice is in page STATE ON and may be granted. -/
def State.sliceFree (s : State) (d sl : Nat) : Bool := s.pageOn d (slcPage sl) && !s.sliceGranted d sl

/-- R352: the port's field hold. -/
def State.fieldHold (s : State) (d p : Nat) : Option Hold := Store.find? s.fieldHolds (portKey d p)

/-- The hold of a port is over. -/
def State.dropHold (s : State) (d p : Nat) : State :=
  { s with fieldHolds := Store.erase s.fieldHolds (portKey d p) }.setBit d F.XEN_STAT_HELD p false

/-- The slice that serves an aerial ends its user's field. -/
def State.servedFieldOff (s : State) (d p : Nat) : State :=
  match s.servingSlice d p with
  | some sl => s.userFieldOff d sl
  | none => s

/-- R353: a field hold ends with a down ramp. -/
def State.endHold (s : State) (d p : Nat) : State :=
  match s.fieldHold d p with
  | none => s
  | some _ => (s.dropHold d p).servedFieldOff d p

/-- Every field hold of the package, or of a die, ends (R353). -/
def State.endHolds (s : State) (only : Option Nat) : State :=
  (s.fieldHolds.filter (fun e => only.isNone || only == some (e.1 / 16))).foldl
    (fun s e => s.endHold (e.1 / 16) (e.1 % 16)) s

/-- Reserved credits left over return to FREE (R12). -/
def State.unreserveAll (s : State) (res : List Nat) : State :=
  [0, 1, 2, 3].foldl (fun s c =>
    let n := (res[c]?).getD 0
    if n = 0 then s else s.unreserve c n) s

/-- R719: the class of CAL_REPORT records, and R738 of TEST_REPORT records. -/
def State.calClass (s : State) : Nat := s.get 0 F.CAL_CFG_CLASS

def State.testClass (s : State) : Nat := s.get 0 F.BST_CFG_CLASS

/-- Words 3 to 7 of a CAL_REPORT record (R719). -/
def calReport (kind result die slice target skipped temp points accepted rejected first : Nat) (value : Word) : List Word :=
  [word (kind * 268435456 + result * 16777216 + die * 1048576 + slice * 65536 + target * 256 + skipped * 16),
   word (temp * 65536 + points * 256), word (accepted * 65536 + rejected), word (first * 16777216), value]

/-- Die, slice and target port fields of a run on a key. -/
def State.calUnit (s : State) (k : Nat) : Nat × Nat × Nat × Nat :=
  if k = 0 then (4, 0, 0, 0xFF)
  else if 0x1000 ≤ k then (5, 0, 0, k - 0x1000)
  else
    let d := k / 16
    let sl := k % 16
    if sl = 15 then (3, d, 0, 0xFF)
    else
      match s.servedPort d sl with
      | some p => (1, d, sl, aerial d p)
      | none => (2, d, sl, 0xFF)

/-- RESULT of the target's last run (DCAL_SLs, DCAL_DIE, CAL_ANCHOR); with `temp`, the temperature of an accepted one. -/
def State.calResult (s : State) (k result : Nat) (temp : Option Nat) (points : Nat) : State :=
  if k = 0 then
    let s := (s.set 0 F.CAL_ANCHOR_RESULT result).set 0 F.CAL_ANCHOR_POINTS points
    match temp with
    | some t => s.set 0 F.CAL_ANCHOR_TEMP t
    | none => s
  else if 0x1000 ≤ k then s
  else
    let d := k / 16
    let off := if k % 16 = 15 then 0x068 else 0x040 + 4 * (k % 16)
    let f : Nat → Nat → Fld := fun lo w => ⟨0x0F, off, lo, w⟩
    let s := (s.set d (f 12 4) result).set d (f 0 4) points
    match temp with
    | some t => s.set d (f 16 16) t
    | none => s

/-- Work that uses a slice: as its port's exchange or probe, as its partner's, or by its own key. -/
def State.usesSlice (s : State) (d sl : Nat) (e : Nat × Exch) : Bool :=
  match e.2.origin with
  | .cal _ _ => e.2.listeners.contains (16 * d + sl)
  | .test _ _ => e.1 == sliceWork d sl
  | .cw => e.1 == sliceWork d sl
  | _ => s.servingSlice (e.1 / 16) (e.1 % 16) == some sl && e.1 / 16 == d
      || (match e.2.partner with
        | some q => portDie q == d && s.servingSlice (portDie q) (portIx q) == some sl
        | none => false)

/-- The keys of admitted work that uses a slice. -/
def State.sliceUsers (s : State) (d sl : Nat) : List Nat := (s.exchs.filter (s.usesSlice d sl)).map (·.1)

/-- R108: work that rests between two exchanges: the next member waits for its gap, or the energise tick has not come. -/
def Exch.resting (e : Exch) (pending : Bool) : Bool := e.phase == .linkGap || (e.phase == .energise && pending)

/-- R108: a slice is idle or between two exchanges; one that listens for another port's exchange (R283) is in it. -/
def State.sliceRests (s : State) (d sl : Nat) : Bool :=
  !((s.servedPort d sl).map (s.get d F.INV_STAT_LISTENER).testBit).getD false && s.exchs.all (fun e => !s.usesSlice d sl e || e.2.resting (s.slice d sl).want.isSome)

/-- R108: a port is idle or lies between two exchanges. -/
def State.portAtBoundary (s : State) (d p : Nat) : Bool :=
  !(s.get d F.INV_STAT_LISTENER).testBit p &&
    (match s.servingSlice d p with
      | some sl => s.sliceRests d sl
      | none => (s.exch d p).isNone)

/-- Entry `k` of an adjacency word. -/
def adjEntry (w : Word) (k : Nat) : Nat := bits w (8 * k) 8

/-- R315: the coefficients in force of a port follow the calibration set; a stale term keeps its register. -/
def State.takeRinse (s : State) (d p sl : Nat) : State :=
  let place := fun (s : State) (off : Nat) (v : Int × Int) =>
    s.setReg d 0x0B (off + 0x40 * p) (word (field 16 v.1 * 65536 + field 16 v.2))
  let s := place s 0x108 (s.rinse d sl 0)
  [0, 1, 2, 3].foldl (fun s k =>
    if (s.get d (F.RCV_P_STAT_STALE p)).testBit k then s else place s (0x10C + 4 * k) (s.rinse d sl (k + 1))) s

/-- R108: a port's exchange boundary: the slice's calibrated values (R215, R218), new stale terms (R317), a refresh
(R316) and the rinse coefficients (R315). -/
def State.portBoundary (s : State) (d p : Nat) : State :=
  match s.servingSlice d p with
  | none => s
  | some sl =>
    let s := s.sliceBoundary d sl
    let w := s.watchOf d p
    let s := if w.staleDue = 0 then s
      else
        let s := s.set d (F.RCV_P_STAT_STALE p) (s.get d (F.RCV_P_STAT_STALE p) ||| w.staleDue)
        (s.setWatch d p { w with staleDue := 0 }).raise d 0x0B 1
    let w := s.watchOf d p
    let s := if w.rinse then
        let set := (s.calSet (sliceSet d sl)).adj
        let now := s.reg 0 0x0A (0x200 + 4 * aerial d p)
        let fresh := ([0, 1, 2, 3].filter (fun k => w.rinseTerms.testBit k && adjEntry set k == adjEntry now k)).foldl
          (fun m k => m + 2 ^ k) 0
        let s := s.set d (F.RCV_P_STAT_STALE p) (s.get d (F.RCV_P_STAT_STALE p) &&& (15 - fresh))
        (s.setWatch d p { w with rinse := false, rinseTerms := 0, rinseTime := s.time, rinseTemp := s.dieTemp d }).raise d 0x0B 4
      else s
    s.takeRinse d p sl

/-- R108, R215, R218, R315: the slices and ports of a die that are at their exchange boundary take their calibrated
values as they are now. -/
def State.refreshDie (s : State) (d : Nat) : State := s.when (s.fieldDie d) fun s =>
  let s := (List.range 8).foldl (fun s p => if s.portAtBoundary d p then s.portBoundary d p else s) s
  (List.range 10).foldl (fun s sl =>
    if (s.servedPort d sl).isNone && s.sliceRests d sl then s.sliceBoundary d sl else s) s

/-- The same for every die. -/
def State.refreshAll (s : State) : State := (List.range s.dies).foldl (fun s i => s.refreshDie (i + 1)) s

/-- R108, R215, R217, R315: a slice that has come to rest is at its exchange boundary, and with it the port that it serves. -/
def State.restSlice (s : State) (d sl : Nat) : State :=
  match s.servedPort d sl with
  | some p => if s.portAtBoundary d p then s.portBoundary d p else s
  | none => if s.sliceRests d sl then s.sliceBoundary d sl else s

def State.restSlices (s : State) (l : List (Nat × Nat)) : State := l.foldl (fun s e => s.restSlice e.1 e.2) s

/-- The exchange-store entry of work by key. -/
def State.work (s : State) (k : Nat) : Option Exch := Store.find? s.exchs k

def State.dropWork (s : State) (k : Nat) : State := { s with exchs := Store.erase s.exchs k }

/-- Field-off on every slice that a list names. -/
def State.slicesOff (s : State) (l : List (Nat × Nat)) (abort : Bool) : State :=
  l.foldl (fun s e => if abort then s.abortFieldOff e.1 e.2 else s.userFieldOff e.1 e.2) s

/-- Slices that a calibration run holds: its own and those of its neighbour steps, kept as `16 × die + slice`. -/
def Exch.slices (e : Exch) : List (Nat × Nat) := e.listeners.map (fun k => (k / 16, k % 16))

/-- R719: the report of a run that reserved its record; the rest of the reservation returns (R12). -/
def State.reportRun (s : State) (res : List Nat) (write : Bool) (payload : List Word) : State :=
  if write then
    match (List.range 4).find? (fun c => (res[c]?).getD 0 != 0) with
    | some c => s.writeRecord c { type := 0xA, time := s.time, payload := payload, reserved := 8, note := .none }
    | none => s
  else s.unreserveAll res

/-- The calibration target whose run is admitted under a key. -/
def calTargetOf (key : Nat) : Nat := if key < 8192 then key - 4096 else dieSet (key - 8192)

/-- The die page bits DCAL_DUE and DCAL_RUN of a target. -/
def State.calBits (s : State) (k : Nat) : State :=
  if k = 0 ∨ 0x1000 ≤ k then s
  else
    let d := k / 16
    let b := if k % 16 = 15 then 10 else k % 16
    let t := s.calTarget k
    (s.setBit d ⟨0x0F, 0x024, 0, 11⟩ b t.due).setBit d ⟨0x0F, 0x028, 0, 11⟩ b t.running

/-- R711: a run ended early stores nothing, keeps its target DUE and ends ABORTED. -/
def State.calAbort (s : State) (key : Nat) : State :=
  match s.work key with
  | none => s
  | some e =>
    match e.origin with
    | .cal _ _ =>
      let k := calTargetOf key
      let t := s.calTarget k
      let s := (s.dropWork key).setCalTarget k
        { t with running := false, due := true, since := if t.due then t.since else s.time, line := t.line || t.runLine }
      let s := s.calBits k
      let s := (s.slicesOff e.slices true).restSlices e.slices
      let (kind, d, sl, target) := s.calUnit k
      let pts := (s.calSet k).points.length
      let s := if kind = 1 then
          { s with coord := { s.coord with released := target :: s.coord.released.filter (· != target) } } else s
      let s := (s.calResult k 4 none pts).countUp 0 F.CAL_CNT_ABORT_COUNT F.CAL_CNT_ABORT_OVF 1
      let s := if d = 0 then s else s.raise d 0x0F 2
      s.reportRun e.res true (calReport kind 4 d sl target 0 (field 16 (s.dieTemp d)) pts 0 0 0 0)
    | _ => s

/-- Words 3 to 7 of a TEST_REPORT record (R738). -/
def testReport (kind result die unit steps : Nat) (sig expected : Word) (first cls old new : Nat) (value : Word) : List Word :=
  [word (kind * 268435456 + result * 16777216 + die * 1048576 + unit * 4096 + steps), sig, expected,
   word (first * 16777216 + cls * 1048576 + old * 4096 + new * 256), value]

/-- The page on which a kind's tests run and report (R724): die and page. -/
def testPage (kind die unit : Nat) : Nat × Nat :=
  if kind = 1 then (die, slcPage unit) else if kind = 2 then (die, 0x10) else if kind = 3 then (0, 0x02)
  else if kind = 4 then (0, 0x10) else (0, 0x13)

/-- The page leaves TESTING for the STATE it had before (R92); TEST clears. -/
def State.leaveTest (s : State) (die page : Nat) : State :=
  let s := if s.pageState die page = 4 then
      let st := Store.get s.testFrom (256 * die + page) 0
      s.setPage die page (if st = 2 ∧ s.flag die (F.PG_DRAIN page) then 3 else st)
    else s
  { s with testFrom := Store.erase s.testFrom (256 * die + page) }.set die (F.PG_TEST page) 0

/-- R726: the page of a kind leaves TESTING with its unit's test; SEM with the last seam tested. -/
def State.pageTested (s : State) (kind die unit : Nat) : State :=
  let more := (List.range 8).any fun n =>
    n != unit && ((s.testUnit (testKey 3 0 n)).requested || (s.testUnit (testKey 3 0 n)).running)
  if kind = 3 ∧ more then s else s.leaveTest (testPage kind die unit).1 (testPage kind die unit).2

/-- R725, R733: a slice leaves TESTING for OFF. -/
def State.sliceLeavesTest (s : State) (d sl : Nat) : State :=
  let s := s.setSlice d sl { s.slice d sl with want := none }
  let s := if s.fstate d sl = 6 then (s.setFstate d sl 0).set d (F.SLC_FSTAT_USER sl) 0 else s
  ((s.leaveTest d (slcPage sl)).watchSyncDie d).restSlice d sl

/-- R738: the report of a test, on its reservation (SLICE and DIE) or as a system record. -/
def State.reportTest (s : State) (kind : Nat) (res : List Nat) (result : Nat) (payload : List Word) : State :=
  let write := s.flag 0 F.BST_CFG_REPORT_ALL || result != 0
  if kind ≤ 2 then
    match (List.range 4).find? (fun c => (res[c]?).getD 0 != 0) with
    | some c =>
      if write then
        s.writeRecord c { type := 0xB, time := s.time, payload := payload, reserved := 8, note := .none }
      else s.unreserveAll res
    | none => s
  else if write then s.queueSys (.report s.testClass 0xB payload s.time) else s

/-- The result of a test is kept: DBST for SLICE and DIE, and the unit's last result (BST_STAT.FAILED). -/
def State.testResult (s : State) (kind die unit result first : Nat) : State :=
  let k := testKey kind die unit
  let s := s.setTest k { s.testUnit k with last := result, ended := s.time, running := false, granted := false }
  if kind = 1 ∨ kind = 2 then
    let off := if kind = 1 then 0x040 + 4 * unit else 0x068
    (s.set die ⟨0x10, off, 28, 4⟩ result).set die ⟨0x10, off, 16, 8⟩ first
  else s

/-- Page event of a test's end (R751, R752): SLICE and DIE tests on DBST, the others on BST. -/
def State.testEvent (s : State) (kind die evt : Nat) : State :=
  if kind ≤ 2 then s.raise die 0x10 evt else s.raise 0 0x13 evt

/-- R726: the start-up self-test's list loses a unit; with its last one STARTUP_DONE follows. -/
def State.startupTested (s : State) (k result : Nat) : State :=
  if s.darn.startup.contains k then
    let left := s.darn.startup.filter (· != k)
    let bad := s.darn.startupBad || result != 0
    let s := { s with darn := { s.darn with startup := left, startupBad := bad } }
    if left.isEmpty then
      ((s.set 0 F.BST_STAT_STARTUP_DONE 1).set 0 F.BST_STAT_STARTUP_RESULT (if bad then 2 else 1)).raise 0 0x13 2
    else s
  else s

/-- R732, R733, R735: a test ends ABORTED. A test that was requested only goes on waiting. -/
def State.testAbort (s : State) (kind die unit : Nat) : State :=
  let k := testKey kind die unit
  let t := s.testUnit k
  if t.granted || t.running then
    let key := if kind = 1 then sliceWork die unit else dieWork die
    let res := if kind ≤ 2 then ((s.work key).map Exch.res).getD [] else []
    let s := if kind ≤ 2 then s.dropWork key else s
    let s := if kind = 1 then s.sliceLeavesTest die unit else s.pageTested kind die unit
    let s := s.testResult kind die unit 2 0xFF
    let s := (s.countUp 0 F.BST_CNT_ABORT_COUNT F.BST_CNT_ABORT_OVF 1).testEvent kind die 1
    let s := s.reportTest kind res 2 (testReport kind 2 die unit 0 0 0 0xFF 0 0 0 0)
    s.startupTested k 2
  else s

end Sys2Proof.Machine
end

