-- ==== Sys2Proof/Machine/ExchEnd.lean ====
section
/-! DEFINITION. The end of an exchange (chapters 08 and 09): status, records, ticket binding, links, field holds, and what
happens at a port's exchange boundary (R108). -/

namespace Sys2Proof.Machine

/-- A die's copy of device time (R58, R59). -/
def State.dieTime (s : State) (d : Nat) : Nat := ((s.time : Int) + (s.die d).timeOffset).toNat

/-- R334, R358: bytes packed into words, the first in bits [7:0]. -/
def packBytes : List Byte → List Word
  | a :: b :: c :: e :: t => (e ++ c ++ b ++ a) :: packBytes t
  | [a, b, c] => [(0 : Byte) ++ c ++ b ++ a]
  | [a, b] => [(0 : Byte) ++ (0 : Byte) ++ b ++ a]
  | [a] => [(0 : Byte) ++ (0 : Byte) ++ (0 : Byte) ++ a]
  | [] => []

/-- The member of an exchange that runs. -/
def Exch.member (e : Exch) : Member := (e.members[e.cur]?).getD { index := 0, desc := [], frame := [] }

/-- The settings that a member asks of its slice (R202, R210, R277). -/
def State.driveOf (s : State) (d p sl level : Nat) (m : Member) : Drive :=
  { user := 1, level := s.levelInForce d sl level, clamped := s.lowered d sl level, depth := m.depth,
    rampUp := m.rampUp, rampDn := m.rampDn, phase := s.get 0 (F.FCO_PORT_PHASE (aerial d p)) }

/-- R361, R614, R616: the ticket index that the record of an exchange carries, and the entry that its binding updates. -/
def State.binding (s : State) (m : Member) (status : Nat) (ident : Option Nat) : Nat × Option Nat :=
  if m.bind = 1 then
    if !s.pageOn 0 0x09 then (m.ticket, none)
    else if (s.ticket m.ticket).kind = 0 then (noTicket, none)
    else (m.ticket, if status = 0 then some m.ticket else none)
  else if m.bind = 2 ∧ status = 0 ∧ s.pageOn 0 0x09 then
    match ident.bind (s.findTicket 2) with
    | some i => (i, some i)
    | none => (noTicket, none)
  else (noTicket, none)

/-- The card identity of an activation's data (R610): kind, then the UID of ACTIVATE_A or the PUPI of the first entry of
ACTIVATE_B. -/
def Member.identity (m : Member) (data : List Byte) : Option Nat :=
  let val := fun (l : List Byte) => l.foldr (fun b n => b.toNat + 256 * n) 0
  if m.kind = 1 then
    let uid := data.drop 4
    if uid.isEmpty then none else some (val (uid.take 7) + uid.length * 2 ^ 56)
  else if m.kind = 2 then
    let atqb := (data.drop 6).take 12
    if atqb.length < 12 then none else some (val ((atqb.drop 1).take 4) + 0x84 * 2 ^ 56)
  else none

/-- R536: the note that a member's result record carries: the poll list that waits for the record of its descriptor, the
first member of its chain. -/
def Exch.note (e : Exch) : Note :=
  match e.origin, e.cur with
  | .list n, 0 => .tag n
  | _, _ => .none

/-- Words 3 to 7 and the data of an EXCHANGE record (R357, R358). -/
def exchPayload (e : Exch) (m : Member) (n ticket : Nat) (r : Result) : List Word :=
  [word (r.status * 268435456 + (e.attempt - 1) * 16777216 + m.kind * 4194304 + n * 65536 + m.index),
   word (m.user * 65536 + ticket),
   (match e.heard with
    | some h => word (2147483648 + h.1 % 2 ^ 27)
    | none => 0),
   word (b2n r.coll.isSome * 2147483648 + b2n r.trunc * 1073741824 + (r.coll.getD 0) % 16384 * 65536 + r.bits),
   (match e.heard with
    | some h => word (h.2.1 * 65536 + h.2.2 * 256)
    | none => 0)] ++ packBytes r.data

/-- R357, R361: the EXCHANGE record of the running member, with its binding. -/
def State.exchRecord (s : State) (d p : Nat) (e : Exch) (r : Result) : State :=
  let m := e.member
  let (ticket, upd) := s.binding m r.status (m.identity r.data)
  let s := match upd with
    | some i => s.bindTicket i (aerial d p)
    | none => s
  s.sendRecord d { cls := m.cls, type := 1, time := e.reference.getD (s.dieTime d),
                   payload := exchPayload e m (aerial d p) ticket r, reserved := m.largest, xfer := 0, note := e.note,
                   result := some { kind := m.kind, port := aerial d p, index := m.index, user := m.user } }

/-- R385: requests remain although no further one is sent. -/
def Inv.cutShort (i : Inv) (m : Member) : Bool :=
  !i.stack.isEmpty && decide (m.maxReq ≤ i.requests ∨ m.maxTags ≤ i.found.length)

/-- R385: the round is incomplete. -/
def Inv.incomplete (i : Inv) (m : Member) : Bool := i.cutShort m || i.maskFull || i.unfound

/-- R386: the status of a round that ran to its end. -/
def Inv.status (i : Inv) (m : Member) : Nat := if i.incomplete m then 3 else if i.found.isEmpty then 1 else 0

/-- An entry of the INVENTORY record (R402). -/
def FoundTag.entry (m : Member) (t : FoundTag) : List Word :=
  [word t.uid, word (t.uid / 4294967296), word (t.dsfid * 16777216 + b2n t.sep * 8388608 + t.slot * 65536 + t.ticket),
   word (t.ampl * 65536 + t.angle * 256 + t.rstat)] ++
    (if m.actCode = 2 then
      packBytes ((t.data ++ List.replicate (4 * ((m.readLen + 3) / 4) - t.data.length) 0).take (4 * ((m.readLen + 3) / 4)))
    else [])

/-- Words 3 to 8 of a TAG_CHANGE record (R403). -/
def tagChange (change n ticket uid user silent dsfid ampl angle last : Nat) : List Word :=
  [word (change * 268435456 + n * 65536 + ticket), word uid, word (uid / 4294967296),
   word (user * 65536 + silent * 256 + dsfid), word (ampl * 65536 + angle * 256), word last]

/-- A TAG_CHANGE record of a round in the outbound buffer: 9 words of the round's reservation. -/
def State.sendChange (s : State) (d : Nat) (m : Member) (time : Nat) (note : Note) (payload : List Word) : State :=
  s.sendRecord d { cls := m.cls, type := 3, time := time, payload := payload, reserved := 9, xfer := 0, note := note,
                   result := none }

/-- R402: the INVENTORY record's words 3 to 7. -/
def invPayload (e : Exch) (m : Member) (n status arrivals departures deferred : Nat) : List Word :=
  let i := e.inv
  let entries := if m.mode = 0 then i.found.length else 0
  [word (status * 268435456 + 3 * 4194304 + n * 65536 + m.index),
   word (m.user * 65536 + i.found.length * 256 + entries),
   word (i.requests * 16777216 + satAdd 8 i.unclear 0 * 65536 + satAdd 8 i.sepTried 0 * 256 + satAdd 8 i.sepOk 0),
   word (arrivals * 16777216 + departures * 65536 + satAdd 8 deferred 0 * 256
     + b2n (decide (m.maxTags ≤ i.found.length)) * 128 + b2n (i.incomplete m) * 64 + e.listenersHeld * 8),
   word (satAdd 8 i.streamsLost 0 * 16777216)] ++
    (if m.mode = 0 then (i.found.map (FoundTag.entry m)).flatten else [])

/-- R399, R400, R402: the sweep of a changed-only round and all its records, TAG_CHANGE records first. -/
def State.roundRecords (s : State) (d p : Nat) (e : Exch) (status : Nat) : State :=
  let m := e.member
  let n := aerial d p
  let i := e.inv
  let s := if m.mode = 1 && (status == 0 || status == 1) && !m.afiEn then
      s.sweep n m.mask m.maskLen (s.portGet d p F.INV_DEPART_N) i.seen else s
  let first := i.firstRef.getD (s.dieTime d)
  let arrivals := if m.mode = 1 then i.found.filter (·.arrival) else []
  let s := arrivals.foldl (fun s t =>
    s.sendChange d m t.time .none (tagChange 1 n t.ticket t.uid m.user 0 t.dsfid t.ampl t.angle t.lastSeen)) s
  let due := if m.mode = 1 ∧ s.pageOn 0 0x09 then s.departs.filter (fun k => (s.ticket k).depPend && (s.ticket k).home == n) else []
  let now := due.take m.maxDep
  let s := now.foldl (fun s k =>
    s.sendChange d m first (.departure k)
      (tagChange 2 n k (s.ticket k).ident m.user (s.portGet d p F.INV_DEPART_N) 0 0 0 (s.ticket k).last.toNat)) s
  let s := { s with departs := s.departs.filter (fun k => !now.contains k) }
  let deferred := due.length - now.length
  let s := if deferred = 0 then s else s.raise d 0x0D 2
  s.sendRecord d { cls := m.cls, type := 2, time := first,
                   payload := invPayload e m n status arrivals.length now.length deferred,
                   reserved := m.largest - 9 * (arrivals.length + now.length), xfer := 0, note := e.note,
                   result := some { kind := 3, port := n, index := m.index, user := m.user } }

/-- R385, R405: what a round leaves in the registers of the INV page. -/
def State.roundStatus (s : State) (d p : Nat) (e : Exch) (status : Nat) : State :=
  let i := e.inv
  let m := e.member
  let s := (s.set d (F.INV_LAST_STATUS p) status).set d (F.INV_LAST_FOUND p) i.found.length
  let s := (s.set d (F.INV_LAST_SEP_OK p) (satAdd 8 i.sepOk 0)).set d (F.INV_LAST_REQUESTS p) i.requests
  let s := (s.setBit d F.INV_STAT_ACTIVE p false).setBit d F.INV_STAT_SOLVING p false
  let s := s.setDie d { s.die d with solves := (s.die d).solves.filter (·.1 != p) }
  if i.incomplete m then
    let s := if decide (m.maxTags ≤ i.found.length) && (i.unfound || !i.stack.isEmpty) then s.err d 0x0D 0x0102
      else if i.cutShort m then s.err d 0x0D 0x0101 else s
    (s.countUp d F.INV_CNT_INCOMPLETE_COUNT F.INV_CNT_INCOMPLETE_OVF 1).raise d 0x0D 0
  else s

/-- R303: the chain of a port had a saturated sample in an exchange: counted, and raised once. -/
def State.saturated (s : State) (d p : Nat) : State :=
  let v := s.get d (F.RCV_P_STAT_SAT p) + 1
  let s := if 255 ≤ v then (s.set d (F.RCV_P_STAT_SAT p) 255).set d (F.RCV_P_STAT_SAT_OVF p) 1
    else s.set d (F.RCV_P_STAT_SAT p) v
  (s.raise d 0x0B 2).err d 0x0B 0x0102

/-- R303: the named ports whose chain runs for the exchange on a port: its own and its listeners'. -/
def Exch.chains (e : Exch) (d p : Nat) (l : List Nat) : List Nat :=
  l.filter fun n => n == aerial d p || e.listeners.contains n

/-- R303, R332: what the receive chains report of an exchange. -/
def State.chainReport (s : State) (d p : Nat) (e : Exch) : State :=
  let s := e.sat.eraseDups.foldl (fun s n => s.saturated (portDie n) (portIx n)) s
  if s.get d (F.RCV_P_STAT_STALE p) != 0 && (e.reference.isSome || decide (1 < e.attempt)) then s.err d 0x0B 0x0101 else s

/-- R283, R285, R304, R328: listeners are released: their slices ramp down, their chains and streams end, and their ports
are at their boundary. -/
def State.releaseListeners (s : State) (ns : List Nat) : State :=
  ns.foldl (fun s n =>
    let s := s.setBit (portDie n) F.INV_STAT_LISTENER (portIx n) false
    let s := (s.set (portDie n) (F.RCV_P_STAT_RX_ON (portIx n)) 0).portBoundary (portDie n) (portIx n)
    match s.servingSlice (portDie n) (portIx n) with
    | some sl => s.userFieldOff (portDie n) sl
    | none => s) s

/-- A reference of a round is complete (R252). -/
def State.refDone (s : State) (o : Origin) : State :=
  match o with
  | .round plan ref =>
    { s with coord := { s.coord with runs := s.coord.runs.map (fun r =>
        if r.plan = plan then { r with refs := r.refs.mapIdx (fun i x => if i = ref then (x.1, .done) else x) } else r) } }
  | _ => s

/-- R283, R705: a port may listen: its slice is free, its die in RUN and not waiting for LINE_OFS, NOLISTEN is 0. -/
def State.mayListen (s : State) (n : Nat) : Bool :=
  let e := portDie n
  let q := portIx n
  s.inService e && s.pstate e == 2 && !s.flag 0 (F.FCO_PORT_NOLISTEN n) && (s.exch e q).isNone
    && !s.coord.lineBlocked.contains e
    && (match s.servingSlice e q with
      | some sl => s.sliceFree e sl
      | none => false)

/-- R283: up to `most` listeners for an exchange on a die, in the order of FCO_ADJn; each stream counts for the next. The
slice of a steering partner is the exchange's own (R279). -/
def State.chooseListeners (s : State) (d most : Nat) (partner : Option Nat) : List Nat → List Nat → List Nat
  | [], chosen => chosen
  | n :: ns, chosen =>
    if chosen.length < most && partner != some n && s.mayListen n && s.streamFits d chosen n then
      s.chooseListeners d most partner ns (chosen ++ [n])
    else s.chooseListeners d most partner ns chosen

/-- R283: the slice of a listener is asked for a field of level 0. -/
def State.wantListener (s : State) (k : Nat) : State :=
  let s := s.setBit (portDie k) F.INV_STAT_LISTENER (portIx k) true
  (s.servingSlice (portDie k) (portIx k)).elim s fun sl =>
    s.setSlice (portDie k) sl { s.slice (portDie k) sl with
      want := some { user := 1, level := 0, clamped := false, depth := 0, rampUp := 0, rampDn := 0,
                     phase := s.get 0 (F.FCO_PORT_PHASE k) } }

/-- Listeners of an exchange: taken, granted at level 0 and shown in INV_STAT.LISTENER (R283, R284). -/
def State.takeListeners (s : State) (d p : Nat) (partner : Option Nat) (m : Member) : State × List Nat :=
  if m.listen then
    let n := aerial d p
    let l := s.chooseListeners d (s.get 0 (F.FCO_PORT_MAXLISTEN n)) partner (s.adjacent n) []
    (l.foldl State.wantListener s, l)
  else (s, [])

/-- The first request of a round (R383). -/
def Member.firstRequest (m : Member) : InvReq := { sixteen := m.nslot16, mask := m.mask, len := m.maskLen }

/-- An exchange as it starts a member (R342): `held` when the field stays ON. -/
def Exch.start (e : Exch) (cur : Nat) (held : Bool) (listeners : List Nat) : Exch :=
  let m := (e.members[cur]?).getD { index := 0, desc := [], frame := [] }
  { e with
    cur := cur
    phase := if held then .linkGap else .energise
    attempt := 1
    reference := none
    fdt := none
    timing := .accepted
    ampl := 0
    angle := 0
    heard := none
    sat := []
    eofSent := false
    last := {}
    listeners := listeners
    listenersHeld := listeners.length
    act := {}
    inv := { stack := if m.kind = 3 then [m.firstRequest] else [] } }

/-- The drive that a member asks of its partner's slice (R279): the partner's level follows from the level in force. -/
def State.partnerDrive (s : State) (n level : Nat) (partner : Option Nat) (m : Member) : List (Nat × Nat × Drive) :=
  match s.partnerOf n level with
  | some (q, l) =>
    match if partner = some q then s.servingSlice (portDie q) (portIx q) else none with
    | some sl =>
      let ph := (s.get 0 (F.FCO_PORT_PHASE n) + s.get 0 (F.FCO_STEER_DELTA ((s.steering n).getD 0))) % 256
      [(portDie q, sl, { s.driveOf (portDie q) (portIx q) sl l m with phase := ph })]
    | none => []
  | none => []

/-- The drives of a member: its slice's and, steered, its partner's (R279). -/
def State.memberDrives (s : State) (d p : Nat) (partner : Option Nat) (m : Member) : List (Nat × Nat × Drive) :=
  match s.servingSlice d p with
  | some sl =>
    let own := s.driveOf d p sl m.reqLevel m
    (d, sl, own) :: s.partnerDrive (aerial d p) own.level partner m
  | none => []

/-- The drives of a member are granted and wait for their tick. -/
def State.wantMember (s : State) (d p : Nat) (partner : Option Nat) (m : Member) : State :=
  (s.memberDrives d p partner m).foldl (fun s (d, sl, r) => s.setSlice d sl { s.slice d sl with want := some r }) s

/-- The slices of an exchange: its port's and, steered, its partner's (R279). -/
def State.exchSlices (s : State) (d p : Nat) (e : Exch) : List (Nat × Nat) :=
  ((s.servingSlice d p).map (fun sl => (d, sl))).toList ++
    (match e.partner with
      | some q => ((s.servingSlice (portDie q) (portIx q)).map (fun sl => (portDie q, sl))).toList
      | none => [])

/-- Field-off on the slices of an exchange. -/
def State.exchFieldOff (s : State) (d p : Nat) (e : Exch) (abort : Bool) : State := s.slicesOff (s.exchSlices d p e) abort

/-- R108: the ports of an exchange, its own and its partner's, are at their exchange boundary. -/
def State.exchBoundary (s : State) (d p : Nat) (e : Exch) : State :=
  match e.partner with
  | some q => (s.portBoundary d p).portBoundary (portDie q) (portIx q)
  | none => s.portBoundary d p

/-- The slices of an exchange stand at ON. -/
def State.fieldOn (s : State) (d p : Nat) : Bool :=
  match s.servingSlice d p with
  | some sl => s.fstate d sl == 2
  | none => false

/-- R352: the port enters field hold: the slice stays ON at the level in force, holding no credits, until the hold's expiry
event (time is the sender's, assumption log). -/
def State.beginHold (s : State) (d p : Nat) : State :=
  match s.servingSlice d p with
  | none => s
  | some sl =>
    let h : Hold := { level := s.level d sl, begun := s.time }
    { s with fieldHolds := Store.insert (Store.erase s.fieldHolds (portKey d p)) (portKey d p) h }.setBit d
      F.XEN_STAT_HELD p true

/-- The records and status of the running member. -/
def State.memberRecords (s : State) (d p : Nat) (e : Exch) (r : Result) : State :=
  let m := e.member
  let s := if m.kind = 3 then (s.roundRecords d p e r.status).roundStatus d p e r.status else s.exchRecord d p e r
  let s := (s.set d (F.XEN_LAST_STATUS p) r.status).set d (F.XEN_LAST_ATTEMPTS p) (e.attempt - 1)
  (s.set d (F.XEN_LAST_INDEX p) m.index).chainReport d p e

/-- The reservations left when a member has used its own. -/
def Exch.resAfter (e : Exch) : List Nat :=
  e.res.mapIdx (fun c n => if c = e.member.cls then n - e.member.largest else n)

/-- R351: the link of the running member is followed. -/
def Exch.follows (e : Exch) (status : Nat) : Bool :=
  decide (status < 6) && e.member.linkEn && decide (e.cur + 1 < e.members.length) && (!e.member.linkOk || status == 0)

/-- R304, R351, R352, R356: the records of the running member are written: its chain and its listeners' end, its link is
followed, or the exchange ends in a field hold or a down ramp. Only an abort by budget or host ends a frame part-way
(R226). -/
def State.finishTail (s : State) (d p : Nat) (e : Exch) (r : Result) : State :=
  let m := e.member
  let s := (s.set d (F.RCV_P_STAT_RX_ON p) 0).releaseListeners e.listeners
  if e.follows r.status then
    let next := (e.members[e.cur + 1]?).getD m
    let (s, l) := s.takeListeners d p e.partner next
    let s := if m.keep then s else (s.exchFieldOff d p e false).wantMember d p e.partner next
    let s := if next.kind = 3 then s.setBit d F.INV_STAT_ACTIVE p true else s
    ((s.setExch d p (e.start (e.cur + 1) m.keep l)).exchBoundary d p e).releaseGuarded
  else
    let s := s.unreserveAll e.res
    let held := m.keep && decide (0 < m.hold ∧ r.status < 6) && s.fieldOn d p && s.pageOn d 0x0C
      && decide (s.power.phase = .none)
    let s := if held then
        (match e.partner with
          | some q => s.exchFieldOff (portDie q) (portIx q) { e with partner := none } false
          | none => s).beginHold d p
      else s.exchFieldOff d p e (decide (r.status = 6 ∨ r.status = 7))
    let s := (s.dropExch d p).setBit d F.XEN_STAT_BUSY p false
    ((s.refDone e.origin).exchBoundary d p e).releaseGuarded

/-- R348, R379: the running member of a port's exchange ends with a result, and its records go to the die's outbound buffer.
The field of a round stays ON until they are written, unless an abort ends it. -/
def State.finish (s : State) (d p : Nat) (r : Result) : State :=
  match s.exch d p with
  | none => s
  | some e =>
    let s := s.memberRecords d p e r
    let e := { e with res := e.resAfter, last := r }
    if e.member.kind = 3 ∧ r.status < 6 then
      (s.setExch d p { e with phase := .records, recXfer := ((s.die d).nextXfer + 65535) % 65536 }).releaseGuarded
    else s.finishTail d p e r

/-- R379: the rounds whose records have left their die's outbound buffer, and so are written (R35), go on to their end. -/
def State.roundsWritten (s : State) : State :=
  s.exchs.foldl (fun s k =>
    let d := k.1 / 16
    let p := k.1 % 16
    match if k.1 < 4096 then s.exch d p else none with
    | some e =>
      if e.phase = .records ∧ !(s.die d).out.any (fun r => r.xfer == e.recXfer) then s.finishTail d p e e.last else s
    | none => s) s

/-- `n` free bytes: bits that had come in when an abort cut a reply; what they are is known to the air only. -/
def State.freshBytes : Nat → State → State × List Byte
  | 0, s => (s, [])
  | n + 1, s =>
    let (s, v) := s.fresh
    let (s, l) := s.freshBytes n
    (s, BitVec.ofNat 8 v :: l)

/-- Bytes from bits, the first in bit 0. -/
def bitsToBytes : Nat → List Bool → List Byte
  | 0, _ => []
  | n + 1, l =>
    BitVec.ofNat 8 ((l.take 8).zipIdx.foldl (fun v (b, i) => v + b2n b * 2 ^ i) 0) :: bitsToBytes n (l.drop 8)

/-- R370: the data of ACTIVATE_A. -/
def Act.dataA (a : Act) : List Byte := a.atqa.take 2 ++ [a.sak, BitVec.ofNat 8 a.uid.length] ++ a.uid

/-- R354, R356, R370: what a sequence of ACTIVATE_A that fails or is cut has received, in the layout of its data: ATQA,
SAK, the whole UID bytes so far and their number; nothing before the first byte of ATQA. -/
def Act.partA (a : Act) : List Byte :=
  let cur := bitsToBytes (min 4 (a.bits.length / 8)) a.bits
  let cur := if cur[0]? = some 0x88 then cur.drop 1 else cur
  if a.atqa.isEmpty then [] else { a with atqa := (a.atqa ++ [0]).take 2, uid := (a.uid ++ cur).take 10 }.dataA

/-- R372: the data of ACTIVATE_B: the slot map and the entries. -/
def Act.dataB (a : Act) : List Byte :=
  let map : Word := word (a.valid + 65536 * a.collided)
  [byteOf map 0, byteOf map 1, byteOf map 2, byteOf map 3] ++ a.entries

/-- What an activation that ends without its full data stores: the sequence so far. -/
def Act.soFar (a : Act) (kind : Nat) : List Byte :=
  if kind = 1 then a.partA else if a.valid = 0 ∧ a.collided = 0 then [] else a.dataB

/-- A reply of ACTIVATE_A that an abort cuts: the bits that had come in are known to the air only. -/
def State.cutAct (s : State) (a : Act) : State × Act :=
  let (s, v) := s.fresh
  match a.step with
  | .request =>
    let (s, l) := s.freshBytes (v % 3)
    (s, { a with atqa := l })
  | .anticollision =>
    let (s, l) := s.freshBytes ((40 - a.bits.length) / 8)
    (s, { a with bits := a.bits ++ (((l.map fun x => (List.range 8).map x.getLsbD).flatten).take (v % (41 - a.bits.length))) })
  | .select =>
    let (s, l) := s.freshBytes (v % 2)
    (s, { a with sak := (l[0]?).getD 0 })
  | .slot => (s, a)

/-- R356: what an abort leaves of the running attempt: the bits received so far of a reply that has started, in an
activation with what its sequence held before, else what the last attempt stored. -/
def State.cutReply (s : State) (e : Exch) : State × Result :=
  let m := e.member
  let started := e.phase = .listen ∧ e.fdt.isSome
  if m.kind = 0 then
    if started then
      let (s, v) := s.fresh
      let n := v % (8 * m.storeLimit + 1)
      let (s, l) := s.freshBytes ((n + 7) / 8)
      (s, { data := l, bits := n })
    else if e.phase = .listen ∨ e.phase = .transmit then (s, {})
    else (s, e.last)
  else if m.kind = 3 then (s, {})
  else if e.phase = .gap then (s, e.last)
  else
    let (s, a) := if started ∧ m.kind = 1 then s.cutAct e.act else (s, e.act)
    let bs := a.soFar m.kind
    (s, { data := bs, bits := 8 * bs.length, coll := a.collPos })

/-- The ports of a list of which a free bit each says that they are picked. -/
def State.freshPick : List Nat → State → State × List Nat
  | [], s => (s, [])
  | n :: ns, s =>
    let (s, v) := s.fresh
    let (s, l) := State.freshPick ns s
    (s, if v % 2 = 1 then n :: l else l)

/-- R303: whether a sample had saturated in an exchange that ends while its chains run, but not with a reply or a response
window, is known to the air only. -/
def State.cutSat (s : State) (d p : Nat) (e : Exch) : State :=
  let (s, l) := State.freshPick ((aerial d p :: e.listeners).filter fun n => s.flag (portDie n) (F.RCV_P_STAT_RX_ON (portIx n))) s
  s.setExch d p { e with sat := e.sat ++ l }

/-- R360: the stored bytes go to the RX area. -/
def State.storeRx (s : State) (d : Nat) (m : Member) (bs : List Byte) : State :=
  if m.kind = 0 && m.rxEn then
    { s with mem := (bs.zipIdx).foldl (fun mem (b, i) =>
        Memory.writeByte mem (hostAddr d 0x44 0 + 4 * m.rxRef + i) b) s.mem }
  else s

/-- R402: the read status and data of a found tag. -/
def Exch.setRead (e : Exch) (uid rstat : Nat) (data : List Byte) : Exch :=
  { e with inv := { e.inv with found := e.inv.found.map (fun t =>
      if t.uid = uid then { t with rstat := rstat, data := data } else t) } }

/-- R402, R354: a read that an abort cuts after its frame has begun takes the abort's status. -/
def Exch.cutRead (e : Exch) (status : Nat) : Exch :=
  match e.inv.frame with
  | .read uid => if e.member.kind = 3 ∧ (e.phase = .transmit ∨ e.phase = .listen) then e.setRead uid status [] else e
  | _ => e

/-- R356, R386: an end from outside gives the exchange its status; what was received or found before is reported. A round
whose records are on their way keeps them. -/
def State.abortExch (s : State) (d p status : Nat) : State :=
  match s.exch d p with
  | none => s
  | some e =>
    if e.phase = .records then s.finishTail d p e { e.last with status := status }
    else
      let s := s.cutSat d p (e.cutRead status)
      let (s, r) := s.cutReply e
      (s.storeRx d e.member r.data).finish d p { r with status := status }

/-- R410, R12: a probe that ends without a record returns its reservation; the field goes off. -/
def State.dropProbe (s : State) (d p : Nat) (abort : Bool) : State :=
  match s.exch d p with
  | none => s
  | some e =>
    let s := (s.dropExch d p).unreserveAll e.res
    let s := s.setWatch d p { s.watchOf d p with probing := false }
    let l := s.exchSlices d p e
    ((s.exchFieldOff d p e abort).restSlices l).startWatchProbe d

/-- R242: a CW period ends with a ramp down; CW_END follows at the guard's end. -/
def State.endCw (s : State) (d sl : Nat) (abort : Bool) : State :=
  ((s.dropWork (sliceWork d sl)).slicesOff [(d, sl)] abort).restSlice d sl

/-- Admitted work by its key, ended by budget (6), host (7) or fault (8). -/
def State.endWork (s : State) (key status : Nat) : State :=
  match s.work key with
  | none => s
  | some e =>
    match e.origin with
    | .cal _ _ => s.calAbort key
    | .test k u => s.testAbort k (if key < 8192 then (key - 4096) / 16 else key - 8192) u
    | .cw => s.endCw ((key - 4096) / 16) ((key - 4096) % 16) true
    | .probe => s.dropProbe (key / 16) (key % 16) true
    | _ => s.abortExch (key / 16) (key % 16) status

/-- A listener is lost to its exchange (R283, R285): its chain ends (R304) and its stream is missing from the slot
(R388). -/
def State.loseListener (s : State) (n : Nat) : State :=
  let s := if (s.get (portDie n) F.INV_STAT_LISTENER).testBit (portIx n) then
      (s.setBit (portDie n) F.INV_STAT_LISTENER (portIx n) false).set (portDie n) (F.RCV_P_STAT_RX_ON (portIx n)) 0
    else s
  { s with exchs := s.exchs.map (fun e =>
      match e.2.origin with
      | .cal _ _ => e
      | _ => if e.2.listeners.contains n then
          (e.1, { e.2 with listeners := e.2.listeners.filter (· != n),
                           inv := { e.2.inv with broken := e.2.inv.broken ++ [n] } })
        else e) }

/-- R233, R711, R733: a slice enters FAULT and what used it ends. -/
def State.faultSlice (s : State) (d sl code : Nat) : State :=
  let users := s.sliceUsers d sl
  let s := match s.servedPort d sl with
    | some p => s.loseListener (aerial d p)
    | none => s
  (users.foldl (fun s k => s.endWork k 8) (s.sliceFault d sl code)).watchSyncDie d

end Sys2Proof.Machine
end

