-- ==== Sys2Proof/Machine/Coordinator.lean ====
section
/-! DEFINITION. The field coordinator (chapter 06): the effective budget, candidates and their admission, round plans, the
safety limit, waking dies, and CW grants. -/

namespace Sys2Proof.Machine

/-- R270: the supply term, 770 mW per volt, of a VSUP in 2 mV units, in hundredths of a mW. -/
def supplyCenti (v : Nat) : Nat := 154 * v

/-- R269, R272: min(limit, supply) × thermal factor, truncated to whole mW. -/
def State.scaled (s : State) (limit : Nat) : Nat :=
  min (100 * limit) (supplyCenti (s.get 0 F.SRL_VSUP_VSUP)) * s.coord.thermal / 32000

/-- R269: FCO_FIELD.EFF. -/
def State.effBudget (s : State) : Nat := s.scaled (min (s.get 0 F.FCO_BUDGET_BUDGET) s.budgetCeil)

/-- R272: the safety limit. -/
def State.safetyLimit (s : State) : Nat := s.scaled s.budgetCeil

/-- R271: the thermal factor in 1/320 at a junction temperature in 0.1 °C. -/
def thermalFactor (t : Int) : Nat :=
  if t ≤ 1120 then 320 else if t ≤ 1200 then (320 - 3 * (t - 1120)).toNat else if t < 1220 then 80 else 0

/-- R261: the effective priority of a candidate, and whether it is AGED (R710 forces it). -/
def Cand.eff (c : Cand) : Int := if c.forced then 8 else min 8 (c.prio + c.eighths)

def Cand.aged (c : Cand) : Bool := decide (c.eff = 8)

/-- A candidate for a port: an exchange or a watch probe. -/
def Origin.onPort : Origin → Bool
  | .cal _ _ => false
  | .test _ _ => false
  | .cw => false
  | _ => true

/-- The port of a candidate on its die: a slice's is the port that the slice serves; after them, by number, candidates
whose slice or die serves none. -/
def State.candPort (s : State) (c : Cand) : Nat :=
  if c.origin.onPort then c.port else ((s.servedPort c.die c.port)).getD (8 + c.port)

/-- R262, R263: the order in which candidates are tried. -/
def State.before (s : State) (a b : Cand) : Bool :=
  if a.eff != b.eff then decide (b.eff < a.eff)
  else if a.since != b.since then decide (a.since < b.since)
  else if a.die != b.die then decide (a.die < b.die)
  else if s.candPort a != s.candPort b then decide (s.candPort a < s.candPort b)
  else decide (a.order ≤ b.order)

/-- Insertion of a candidate before the first of a list that it precedes. -/
def insertCand (precedes : Cand → Bool) (c : Cand) : List Cand → List Cand
  | [] => [c]
  | x :: xs => if precedes x then c :: x :: xs else x :: insertCand precedes c xs

def State.sortCands (s : State) : List Cand → List Cand
  | [] => []
  | c :: cs => insertCand (s.before c) c (s.sortCands cs)

def Origin.isProbe : Origin → Bool
  | .probe => true
  | _ => false

def Origin.isExchange (o : Origin) : Bool := o.onPort && !o.isProbe

/-- R258: an exchange or probe for a port whose slice is in FAULT, or which no slice serves. -/
def State.unserved (s : State) (c : Cand) : Bool :=
  c.origin.onPort &&
    (match s.servingSlice c.die c.port with
      | none => true
      | some sl => s.pageState c.die (slcPage sl) == 5)

/-- R701, R709: the serving slices that a SLICE run's neighbour steps use. -/
def State.neighbourSlices (s : State) (d sl : Nat) : List (Nat × Nat) :=
  let w := (s.calTarget (sliceSet d sl)).adj
  [0, 1, 2, 3].filterMap fun k =>
    let n := adjEntry w k
    if n = 0xFF then none
    else
      match if s.inService (portDie n) then s.servingSlice (portDie n) (portIx n) else none with
      | some x => if s.pageOn (portDie n) (slcPage x) then some (portDie n, x) else none
      | none => none

/-- R257, R280, R709, R729: the slices that a candidate needs. -/
def State.needs (s : State) (c : Cand) : List (Nat × Nat) :=
  match c.origin with
  | .cal 1 sl => (c.die, sl) :: s.neighbourSlices c.die sl
  | .cal 2 sl => [(c.die, sl)]
  | .cal _ _ => []
  | .test 1 sl => [(c.die, sl)]
  | .test _ _ => []
  | .cw => [(c.die, c.port)]
  | .probe => ((s.servingSlice c.die c.port).map (fun sl => (c.die, sl))).toList
  | _ =>
    ((s.servingSlice c.die c.port).map (fun sl => (c.die, sl))).toList ++
      (match s.partnerOf (aerial c.die c.port) c.level with
        | some (q, _) =>
          (match s.servingSlice (portDie q) (portIx q) with
            | some sl => [(portDie q, sl)]
            | none => [(portDie q, 15)])
        | none => [])

/-- R352: an exchange on its own port's field hold takes the held slice. -/
def State.onHold (s : State) (c : Cand) : Bool := c.origin.isExchange && (s.fieldHold c.die c.port).isSome

/-- R257: every slice that the candidate needs may be granted. -/
def State.slicesFree (s : State) (c : Cand) : Bool :=
  (!c.origin.onPort || (s.exch c.die c.port).isNone) &&
  (s.needs c).all (fun (d, sl) =>
    (match c.origin with
      | .test _ _ => s.pageState d (slcPage sl) == 0 && !s.sliceGranted d sl
      | _ => false) ||
    (s.onHold c && d == c.die && s.servingSlice c.die c.port == some sl
        && s.pageOn d (slcPage sl) && s.fstate d sl == 2) || s.sliceFree d sl)
  && (match c.origin with
    | .test 1 sl => s.fstate c.die sl == 0
    | .cw => (s.servedPort c.die c.port).isSome
    | _ => true)

/-- A die in RUN whose copy of device time is loaded (R58). -/
def State.dieRuns (s : State) (d : Nat) : Bool := s.inService d && s.pstate d == 2 && (s.die d).timeLoaded

/-- R257: every die that the candidate needs is in RUN. -/
def State.diesRun (s : State) (c : Cand) : Bool := s.dieRuns c.die && (s.needs c).all (fun (d, _) => s.dieRuns d)

/-- R705, R53: a port on which the coordinator may admit an exchange, a probe or a CW grant: no calibration run is waited
for, on the port or on its die. -/
def State.portReleased (s : State) (d p : Nat) : Bool :=
  !s.coord.lineBlocked.contains d && s.coord.released.contains (aerial d p)

/-- R45, R53, R705: what the coordinator admits on the dies and ports that a candidate needs, as they wait for their
calibration runs. -/
def State.calReleased (s : State) (c : Cand) : Bool :=
  let line := s.coord.lineBlocked.contains c.die || (s.needs c).any (fun e => s.coord.lineBlocked.contains e.1)
  match c.origin with
  | .cal 3 _ => true
  | .cal _ _ => !line
  | .test _ _ => !line
  | .cw =>
    !line && (match s.servedPort c.die c.port with
      | some p => s.coord.released.contains (aerial c.die p)
      | none => true)
  | _ => !line && (s.unserved c || (s.needs c).all (fun e => match s.servedPort e.1 e.2 with
      | some p => s.portReleased e.1 p
      | none => true))

/-- R744: a port whose swap is in progress. -/
def State.swapping (s : State) (d p : Nat) : Bool := s.darn.swaps.any (fun w => w.die == d && w.port == p)

/-- R744: a candidate for a port whose swap is in progress, or that needs the slice of one. -/
def State.swapHeld (s : State) (c : Cand) : Bool :=
  (c.origin.onPort && s.swapping c.die c.port) || (s.needs c).any (fun e => match s.servedPort e.1 e.2 with
    | some p => s.swapping e.1 p
    | none => false)

/-- R202, R255, R257: the level in force that a candidate asks for, as the limits stand now. -/
def State.candLevel (s : State) (c : Cand) : Nat :=
  match c.origin with
  | .cal 3 _ => 0
  | .cal _ u => s.levelInForce c.die u c.level
  | .test _ _ => c.level
  | .cw => s.levelInForce c.die c.port (s.get c.die (F.SLC_CW_LEVEL c.port))
  | .probe => ((s.servingSlice c.die c.port).map (fun sl =>
      s.levelInForce c.die sl (s.get c.die (F.CWT_P_PROBE_LEVEL c.port)))).getD 0
  | _ => s.chainLevel c.die c.port c.members

/-- The period of a plan in ticks. -/
def State.planPeriod (s : State) (n : Nat) : Nat :=
  s.get 0 (F.FCO_PLAN_CFG_PERIOD n) * (if s.flag 0 (F.FCO_PLAN_CFG_UNIT n) then 27120000 else ticksPerMs)

/-- The next point of a plan's period grid after an instant (R250, R252). -/
def State.nextStart (s : State) (n : Nat) : Option Nat :=
  if s.flag 0 (F.FCO_PLAN_CFG_EN n) then
    (Store.find? s.coord.starts n).map fun t0 =>
      let per := max 1 (s.planPeriod n)
      t0 + ((s.time - t0) / per + 1) * per
  else none

/-- Whether a port is in a set's two words. -/
def inSet (lo hi n : Nat) : Bool := if n < 32 then lo.testBit n else hi.testBit (n - 32)

def State.planHas (s : State) (n port : Nat) : Bool :=
  inSet (s.get 0 (F.FCO_PLAN_SET_LO_SET n)) (s.get 0 (F.FCO_PLAN_SET_HI_SET n)) port

/-- Plans that are enabled and have started once. -/
def State.plansRunning (s : State) : List Nat :=
  (List.range 64).filter (fun n => s.flag 0 (F.FCO_PLAN_CFG_EN n))

/-- R709: the ports concerned by a calibration run: those of the slices it needs; for a DIE run, the die's. -/
def State.calPorts (s : State) (c : Cand) : List Nat :=
  match c.origin with
  | .cal 3 _ => (List.range 8).map (aerial c.die)
  | _ => (s.needs c).filterMap (fun (d, sl) => (s.servedPort d sl).map (aerial d))

/-- R709: an exchange, probe or CW candidate of a port that a calibration run concerns. -/
def State.concerns (s : State) (run x : Cand) : Bool :=
  (match x.origin with
    | .cal _ _ => false
    | .test _ _ => false
    | _ => true) && (s.calPorts run).contains (aerial x.die (s.candPort x))

/-- R262, R709: the candidates of a pass in the order in which they are tried: a run that a port or die waits for goes
ahead of the candidates of the ports concerned. -/
def State.passOrder (s : State) : List Cand :=
  let (urgent, rest) := s.coord.cands.partition (fun c => c.first)
  (s.sortCands urgent).foldr (fun c l => insertCand (fun x => s.concerns c x || s.before c x) c l) (s.sortCands rest)

/-- R709: no exchange or probe waits for a port concerned, and no round that covers one starts within G. -/
def State.calQuiet (s : State) (c : Cand) : Bool :=
  match c.origin with
  | .cal kind _ =>
    if c.forced || c.first then true
    else
      let ports := s.calPorts c
      let max := if kind = 1 then 1900 + 200 * ((s.needs c).length - 1) else 700
      let g := usTicks (if max < 2000 then 2000 else max)
      !(s.coord.cands.any (fun x => x.origin.onPort && ports.contains (aerial x.die x.port)))
        && !(s.plansRunning.any (fun n => ports.any (s.planHas n) &&
              (match s.nextStart n with
                | some t => decide (t ≤ s.time + g)
                | none => false)))
  | _ => true

/-- R352, R257: what a candidate adds to the budget in use. -/
def State.charge (s : State) (c : Cand) : Nat :=
  let partner := if c.origin.isExchange then s.partnerLevel (aerial c.die c.port) c.level else 0
  let own := if s.onHold c then c.level - ((s.fieldHold c.die c.port).map Hold.level).getD 0 else c.level
  own + partner

/-- R287: a port that the candidate would energise is guarded. -/
def State.candGuarded (s : State) (c : Cand) : Bool :=
  (s.needs c).any (fun (d, sl) => match s.servedPort d sl with
    | some p => s.guarded (aerial d p)
    | none => false)

/-- The waiting candidates with one replaced. -/
def State.setCand (s : State) (c : Cand) : State :=
  { s with coord := { s.coord with cands := s.coord.cands.map (fun x => if x.order = c.order then c else x) } }

def State.dropCand (s : State) (order : Nat) : State :=
  { s with coord := { s.coord with cands := s.coord.cands.filter (fun x => x.order != order) } }

/-- The classes in which a candidate lacks credits. -/
def State.lacks (s : State) (c : Cand) (k : Nat) : Bool :=
  let n := (c.res[k]?).getD 0
  n != 0 && !s.canReserve k n

/-- R260: a candidate in credit wait of equal or higher effective priority lacks credits in a class of this one. -/
def State.creditBlocked (s : State) (c : Cand) : Bool :=
  s.coord.cands.any (fun x => x.creditWait && x.order != c.order && decide (c.eff ≤ x.eff) &&
    [0, 1, 2, 3].any (fun k => s.lacks x k && (c.res[k]?).getD 0 != 0))

/-- R263: an AGED candidate waits for budget. -/
def State.agedHold (s : State) : Bool := s.coord.cands.any (fun x => x.aged && x.budgetWait)

/-- An exchange that takes over a held field: the field goes on, and only a steered one changes. -/
def State.wantHeld (s : State) (d p : Nat) (m : Member) : State :=
  match s.steering (aerial d p) with
  | some _ =>
    let own := (s.servingSlice d p).getD 0
    let s := s.wantMember d p ((s.exch d p).bind Exch.partner) m
    s.setSlice d own { s.slice d own with want := none }
  | none => s

/-- R256, R257: the admitted exchange: its work, its slices' drives, its listeners, the end of its port's hold. -/
def State.admitExchange (s : State) (c : Cand) : State :=
  let held := s.onHold c
  let m := (c.members[0]?).getD { index := 0, desc := [], frame := [] }
  let d := c.die
  let p := c.port
  let partner := (s.partnerOf (aerial d p) c.level).map (·.1)
  let e : Exch :=
    { origin := c.origin, members := c.members, cur := 0, prio := c.eff, admitted := s.time, level := c.level,
      res := c.res, phase := .energise, attempt := 1, reference := none, fdt := none, timing := .accepted, ampl := 0,
      angle := 0, sat := [], eofSent := false, listeners := [], listenersHeld := 0,
      partner := if s.unserved c then none else partner, partnerLevel := s.partnerLevel (aerial d p) c.level, act := {},
      inv := {} }
  let s := s.setBit d F.XEN_STAT_BUSY p true
  let s := if m.kind = 3 then s.setBit d F.INV_STAT_ACTIVE p true else s
  if s.unserved c then (s.setExch d p (e.start 0 false [])).finish d p { status := 8 }
  else
    let (s, l) := s.takeListeners d p partner m
    let s := s.setExch d p (e.start 0 held l)
    if held then (s.dropHold d p).wantHeld d p m
    else s.wantMember d p e.partner m

/-- R277: the commanded phase of an energise in independent mode: FCO_PORTn.PHASE of the port that the slice serves; a
slice that serves none keeps its own. -/
def State.portPhase (s : State) (d sl : Nat) : Nat :=
  match s.servedPort d sl with
  | some p => s.get 0 (F.FCO_PORT_PHASE (aerial d p))
  | none => s.get d (F.SLC_PHASE_CMD sl)

/-- A drive of a user other than an exchange: depth and ramps as given, the phase in force. -/
def State.wantUser (s : State) (d sl user level ramp : Nat) (phase : Nat) : State :=
  s.setSlice d sl { s.slice d sl with
    want := some { user := user, level := s.levelInForce d sl level, clamped := s.lowered d sl level,
                   depth := s.get d (F.SLC_APPLIED_DEPTH sl), rampUp := ramp, rampDn := ramp, phase := phase } }

/-- Work other than an exchange under a key. -/
def State.addWork (s : State) (key : Nat) (c : Cand) (phase : Phase) (slices : List Nat) : State :=
  let e : Exch :=
    { origin := c.origin, members := [], cur := 0, prio := c.eff, admitted := s.time, level := c.level, res := c.res,
      phase := phase, attempt := 1, reference := none, fdt := none, timing := .accepted, ampl := 0, angle := 0,
      sat := [], eofSent := false, listeners := slices, listenersHeld := 0, partner := none,
      act := {}, inv := {} }
  { s with exchs := Store.insert (Store.erase s.exchs key) key e }

/-- R709, R257: the level that a calibration run asks of its own slice; a DIE run asks none. -/
def State.calLevel (s : State) (kind d sl : Nat) : Nat :=
  let base := s.get 0 F.CAL_CFG_LEVEL
  if kind = 3 then 0
  else if kind = 1 then
    match s.servedPort d sl with
    | some p => max base (s.get d (F.CWT_P_PROBE_LEVEL p))
    | none => base
  else base

/-- R704: a calibration run starts: DUE clears, and it holds its slices. -/
def State.admitCal (s : State) (c : Cand) (kind unit : Nat) : State :=
  let key := if kind = 3 then dieSet c.die else sliceSet c.die unit
  let t := s.calTarget key
  let s := (s.setCalTarget key { t with due := false, aged := false, running := true, line := false,
                                        runLine := t.line }).calBits key
  let sl := s.needs c
  let s := s.addWork (if kind = 3 then dieWork c.die else sliceWork c.die unit) c .working
    (sl.map (fun (d, x) => 16 * d + x))
  sl.foldl (fun s (d, x) =>
    let (s, ramp) := s.fresh
    s.wantUser d x 3 (if d = c.die ∧ x = unit then s.calLevel kind d x else 0) (ramp % 64) (s.portPhase d x)) s

/-- R729: a SLICE or DIE test is admitted; it starts at TEST_START. -/
def State.admitTest (s : State) (c : Cand) (kind unit : Nat) : State :=
  let k := testKey kind c.die unit
  let s := s.setTest k { s.testUnit k with granted := true, requested := false }
  let s := s.addWork (if kind = 1 then sliceWork c.die unit else dieWork c.die) c .working []
  if kind = 1 then
    s.setSlice c.die unit { s.slice c.die unit with
      want := some { user := 4, level := 50, clamped := false, depth := 0, rampUp := 0, rampDn := 0, phase := 0 } }
  else s

/-- R257: admission: budget and credits are taken in one instant and the work is granted. -/
def State.admitNow (s : State) (c : Cand) : State :=
  let s := [0, 1, 2, 3].foldl (fun s k =>
    let n := (c.res[k]?).getD 0
    if n = 0 then s else s.reserve k n) (s.dropCand c.order)
  match c.origin with
  | .cal kind unit => s.admitCal c kind unit
  | .test kind unit => s.admitTest c kind unit
  | .cw =>
    let s := (s.addWork (sliceWork c.die c.port) c .working []).set c.die (F.SLC_CW_START c.port) 0
    let s := s.wantUser c.die c.port 5 (s.get c.die (F.SLC_CW_LEVEL c.port)) (s.get c.die (F.SLC_CW_RAMP c.port))
      (s.portPhase c.die c.port)
    s.setSlice c.die c.port { s.slice c.die c.port with cwAsked := false }
  | .probe =>
    if s.unserved c then s.unreserveAll c.res
    else if s.candLevel c < 20 then (s.unreserveAll c.res).skipProbe c.die
    else
      let s := s.addWork (portKey c.die c.port) c .energise []
      match s.servingSlice c.die c.port with
      | some sl => s.wantUser c.die sl 2 (s.get c.die (F.CWT_P_PROBE_LEVEL c.port)) 0 (s.portPhase c.die sl)
      | none => s
  | _ => s.admitExchange c

/-- R734, R735: a candidate that lacks only slices under a test in YIELD abandons that test. -/
def State.yieldTests (s : State) (c : Cand) : State :=
  match c.origin with
  | .cal _ _ => s
  | .test _ _ => s
  | _ =>
    (s.needs c).foldl (fun s (d, sl) =>
      let t := s.testUnit (testKey 1 d sl)
      if (t.running || t.granted) && !s.flag d F.DBST_CFG_TSM_SLICE then s.testAbort 1 d sl else s) s

/-- Whether every slice that is not free is one under a test in YIELD. -/
def State.yieldable (s : State) (c : Cand) : Bool :=
  (match c.origin with
    | .cal _ _ => false
    | .test _ _ => false
    | _ => true) &&
  (s.needs c).all (fun (d, sl) =>
    let t := s.testUnit (testKey 1 d sl)
    s.sliceFree d sl || ((t.running || t.granted) && !s.flag d F.DBST_CFG_TSM_SLICE))
  && (s.needs c).any (fun (d, sl) => (s.testUnit (testKey 1 d sl)).running || (s.testUnit (testKey 1 d sl)).granted)

/-- R591: the classes whose credits a candidate lacks because its request is larger than the region, each reported once. -/
def State.overRequests (s : State) (c : Cand) : List Nat :=
  [0, 1, 2, 3].filter (fun k =>
    s.lacks c k && !c.overRes.contains k && decide (s.regionSize k < (c.res[k]?).getD 0))

/-- R259, R591: a wait for credits; its beginning is an entry into credit wait. -/
def State.enterCreditWait (s : State) (c : Cand) : State :=
  let big := s.overRequests c
  let s := s.setCand { c with budgetWait := false, creditWait := true, overRes := c.overRes ++ big }
  let s := big.foldl (fun s k => s.oversize k ((c.res[k]?).getD 0)) s
  if c.creditWait then s else (s.raise 0 0x0A 0).countUp 0 F.FCO_CNT_CREDIT_COUNT F.FCO_CNT_CREDIT_OVF 1

/-- R263, R287: entry into (or stay in) a wait for budget; a wait for credits ends once they are back (R259). -/
def State.enterBudgetWait (s : State) (c : Cand) : State :=
  s.setCand { c with budgetWait := true, creditWait := c.creditWait && [0, 1, 2, 3].any (s.lacks c) }

/-- R289: a candidate that waits for neither budget nor, once they are back, credits. -/
def State.passOver (s : State) (c : Cand) : State :=
  s.setCand { c with budgetWait := false, creditWait := c.creditWait && [0, 1, 2, 3].any (s.lacks c) }

/-- The level that a candidate asks of the budget: its own and its partner's (R280). -/
def State.wholeLevel (s : State) (c : Cand) : Nat :=
  c.level + (if c.origin.isExchange then s.partnerLevel (aerial c.die c.port) c.level else 0)

/-- R265: OVERSIZE once for each waiting candidate whose level exceeds FCO_FIELD.EFF; one that needs no budget (R258) has
no level. -/
def State.markOversize (s : State) : State :=
  s.coord.cands.foldl (fun s c =>
    let c := { c with level := s.candLevel c }
    if !c.oversizeSeen && !s.unserved c && decide (s.effBudget < s.wholeLevel c) then
      (s.setCand { c with oversizeSeen := true }).raise 0 0x0A 3
    else s) s

/-- R257 to R265: one candidate of an admission pass. -/
def State.tryCand (s : State) (c : Cand) : State :=
  let c := { c with level := s.candLevel c }
  let lone := s.unserved c
  if s.agedHold && !c.aged && !lone then s.setCand { c with creditWait := c.creditWait && [0, 1, 2, 3].any (s.lacks c) }
  else if s.creditBlocked c || !s.calReleased c || !s.calQuiet c || s.swapHeld c then
    s.passOver c
  else if lone then
    if !(s.die c.die).timeLoaded then s.passOver c
    else if [0, 1, 2, 3].any (s.lacks c) then s.enterCreditWait c else s.admitNow c
  else if !s.diesRun c then s.passOver c
  else if !s.slicesFree c && !s.yieldable c then s.passOver c
  else if s.candGuarded c || decide (s.effBudget < s.budgetUsed + s.charge c) then s.enterBudgetWait c
  else if [0, 1, 2, 3].any (s.lacks c) then s.enterCreditWait c
  else if s.slicesFree c then s.admitNow c
  else
    let s := s.yieldTests c
    if s.slicesFree c then s.admitNow c else s

/-- Whether the coordinator admits anything: ACTIVE, the FCO page ON, no sleep entry, no profile drain, no thermal stop
(R95, R655, R768, R273). -/
def State.admits (s : State) : Bool :=
  s.awake && s.pageOn 0 0x0A && decide (s.power.phase = .none) && !s.coord.loading && !s.flag 0 F.FCO_THERM_STOPPED

/-- R262, R266: one admission pass; the candidates are tried in their order, each as it then stands. -/
def State.passOnce (s : State) : State :=
  s.passOrder.foldl (fun s c =>
    match s.coord.cands.find? (fun x => x.order == c.order) with
    | some x => s.tryCand x
    | none => s) s

/-- R288: the dies that a candidate asks for RUN. -/
def State.askRunFor (s : State) (c : Cand) (listen : Bool) : State :=
  let s := s.askRun c.die
  let s := (s.needs c).foldl (fun s (d, _) => s.askRun d) s
  if listen then s.askRunPorts (s.adjacent (aerial c.die c.port)) else s

/-- A candidate is withdrawn without a record (R267, R655, R806); runs and tests stay DUE or requested. -/
def State.withdraw (s : State) (c : Cand) : State :=
  let s := (s.dropCand c.order).countUp 0 F.FCO_CNT_WITHDRAWN_COUNT F.FCO_CNT_WITHDRAWN_OVF 1
  let s := s.refDone c.origin
  match c.origin with
  | .list n => { s with recDone := Store.insert (Store.erase s.recDone n) n [] }
  | .cw => (s.setSlice c.die c.port { s.slice c.die c.port with cwAsked := false }).set c.die (F.SLC_CW_START c.port) 0
  | _ => s

/-- A candidate appears (R247, R266): it asks for RUN and, where VSUP is below it, for the supply (R276). One that appears
during a sleep entry is withdrawn like those that waited (R655). -/
def State.addCand (s : State) (c : Cand) : State :=
  let c := { c with order := s.coord.order, since := s.time }
  let s := { s with coord := { s.coord with order := s.coord.order + 1, cands := s.coord.cands ++ [c] } }
  if s.power.phase = .none then (s.askRunFor c (c.members.any Member.listen)).supplyForRun else s.withdraw c

/-- A new candidate of an origin. -/
def mkCand (o : Origin) (d p level : Nat) (res : List Nat) (prio : Int) : Cand :=
  { origin := o, die := d, port := p, members := [], level := level, res := res, prio := prio, eighths := 0, since := 0,
    order := 0, forced := false, first := false, budgetWait := false, creditWait := false, overRes := [],
    oversizeSeen := false }

/-- R427: a die's carrier PLL is locked in ACTIVE: its watch sequencer ends, and a probe of it that waits is a candidate. -/
def State.endSequencer (s : State) (d : Nat) : State :=
  let s := s.set d F.DPWR_STAT_WATCHDOM 0
  (List.range 8).foldl (fun s p =>
    match s.exch d p with
    | some e =>
      if e.origin.isProbe ∧ e.phase = .next then
        let k := s.get d (F.CWT_P_CFG_CLASS p)
        (s.dropExch d p).addCand (mkCand .probe d p e.level ([0, 1, 2, 3].map (fun i => if i = k then 7 else 0)) 7)
      else s
    | none => s) s

/-- A slice that is not DARNED. -/
def State.sound (s : State) (d sl : Nat) : Bool := s.pageState d (slcPage sl) != 6

/-- No candidate is taken: a sleep entry or a run-time profile load drains (R655, R768). -/
def State.draining (s : State) : Bool := decide (s.power.phase ≠ .none) || s.coord.loading

/-- The candidate of a DUE slice, spare or die (R699, R709, R719): its level, its reservation, whether it is AGED (R710)
and whether a port or die waits for it under R705. -/
def State.calCand (s : State) (k : Nat) : Cand :=
  let (kind, d, _, n) := s.calUnit k
  let unit := k % 16
  let res := [0, 1, 2, 3].map (fun c => if c = s.calClass then 8 else 0)
  let first := if kind = 3 then s.coord.lineBlocked.contains d
    else kind == 1 && !s.coord.released.contains n
  { mkCand (.cal kind unit) d (if kind = 3 then 8 else unit) (s.calLevel kind d unit) res (-1) with
    forced := (s.calTarget k).aged, first := first }

/-- A candidate waits for the target. -/
def State.calWaiting (s : State) (k : Nat) : Bool :=
  s.coord.cands.any (fun c => match c.origin with
    | .cal 3 _ => dieSet c.die == k
    | .cal _ u => sliceSet c.die u == k
    | _ => false)

/-- R709, R714: a DUE slice, spare or die in service forms its candidate, unless it runs or a drain is on. -/
def State.offerCal (s : State) (k : Nat) : State :=
  let t := s.calTarget k
  if t.due && !t.running && !s.calWaiting k && k != 0 && decide (k < 0x1000) && s.awake && !s.draining
      && s.inService (k / 16) && (k % 16 == 15 || s.sound (k / 16) (k % 16)) then
    let n := (s.calUnit k).2.2.2
    let s := s.setCalTarget k { t with adj := if n = 0xFF then 0xFFFFFFFF else s.reg 0 0x0A (0x200 + 4 * n) }
    s.addCand (s.calCand k)
  else s

/-- A candidate waits for a unit's test. -/
def State.testWaiting (s : State) (kind d unit : Nat) : Bool :=
  s.coord.cands.any (fun c => c.die == d && decide (c.origin = .test kind unit))

/-- R729: a requested SLICE or DIE test of a die in service forms its candidate, unless a drain is on. -/
def State.offerTest (s : State) (kind d unit : Nat) : State :=
  if decide (kind = 1 ∨ kind = 2) && (s.testUnit (testKey kind d unit)).requested && !s.testWaiting kind d unit && s.awake
      && !s.draining && s.inService d then
    s.addCand (mkCand (.test kind unit) d (if kind = 2 then 8 else unit) (if kind = 1 then 50 else 0)
      ([0, 1, 2, 3].map (fun c => if c = s.testClass then 8 else 0)) 0)
  else s

/-- R709, R729, R806: every DUE target and requested test that has no candidate forms one, where it may. -/
def State.offerDue (s : State) : State :=
  let s := s.cal.foldl (fun s e => s.offerCal e.1) s
  s.tests.foldl (fun s e => s.offerTest (e.1 / 65536) (e.1 / 256 % 256) (e.1 % 256)) s

/-- R247: an exchange candidate of a formed chain. -/
def State.addExchange (s : State) (o : Origin) (d p : Nat) (ms : List Member) (prio : Nat) : State :=
  s.addCand { mkCand o d p (s.chainLevel d p ms) (chainCredits ms) prio with members := ms }

/-- A reference of a round plan (R249): die and descriptor index. -/
def refDie (r : Nat) : Nat := r / 4096 % 8
def refIndex (r : Nat) : Nat := r % 512

/-- The port that a reference's descriptor names, as it stands in the window. -/
def State.refPort (s : State) (r : Nat) : Nat :=
  bits (s.memWord (hostAddr (refDie r) 0x40 0 + 32 * refIndex r)) 0 3

/-- R254: a reference that names no die in service or a port outside the aerial set. -/
def State.refSkipped (s : State) (run : PlanRun) (r : Nat) : Bool :=
  !s.inService (refDie r) || !inSet run.setLo run.setHi (aerial (refDie r) (s.refPort r))

/-- State of one reference in the running rounds. -/
def State.setRef (s : State) (plan i : Nat) (x : RefState) : State :=
  { s with coord := { s.coord with runs := s.coord.runs.map (fun r =>
      if r.plan = plan then { r with refs := r.refs.mapIdx (fun j y => if j = i then (y.1, x) else y) } else r) } }

/-- R253, R254: one reference of a round, in list order: skipped, or a candidate once every earlier reference for its port
has completed. During a drain it is withdrawn without a record (R252, R655, R768). -/
def State.stepRef (s : State) (run : PlanRun) (i r : Nat) : State :=
  if s.draining then
    (s.setRef run.plan i .done).countUp 0 F.FCO_CNT_WITHDRAWN_COUNT F.FCO_CNT_WITHDRAWN_OVF 1
  else if s.refSkipped run r then
    ((s.setRef run.plan i .done).err 0 0x0A 0x0104).countUp 0 F.FCO_CNT_PLANREF_COUNT F.FCO_CNT_PLANREF_OVF 1
  else
    let d := refDie r
    let p := s.refPort r
    let cur := ((s.coord.runs.find? (fun x => x.plan == run.plan)).map PlanRun.refs).getD []
    let busy := (cur.take i).any (fun (q, st) => refDie q == d && (match st with
      | .waiting => s.refPort q == p
      | .active a => a == p
      | .done => false))
    if busy then s
    else
      let (s, ms) := s.formChain d (refIndex r)
      if ms.isEmpty then s.setRef run.plan i .done
      else (s.setRef run.plan i (.active p)).addExchange (.round run.plan i) d p ms run.prio

/-- R252, R253: every running round goes on; a round whose references have all completed is over. -/
def State.stepRounds (s : State) : State :=
  let s := s.coord.runs.foldl (fun s run =>
    (run.refs.zipIdx).foldl (fun s ((r, st), i) => if st = .waiting then s.stepRef run i r else s) s) s
  s.coord.runs.foldl (fun s run =>
    if run.refs.all (fun x => x.2 == .done) then
      let enabled := s.flag 0 (F.FCO_PLAN_CFG_EN run.plan)
      { s with coord := { s.coord with runs := s.coord.runs.filter (fun r => r.plan != run.plan),
                                       edge := if enabled then some s.time else s.coord.edge } }.set 0
        (F.FCO_PLAN_STAT_RUNNING run.plan) 0
    else s) s

/-- R253, R266: rounds go on and an admission pass runs, again while exchanges that cannot be energised end at once. -/
def State.settleWork : Nat → State → State
  | 0, s => s
  | n + 1, s =>
    let s := s.stepRounds
    if s.admits then
      let t := s.passOnce
      if t.coord.runs.any (fun r => r.refs.any (fun x => x.2 == .done) && r.refs.any (fun x => x.2 == .waiting))
          && t.coord.cands.length < s.coord.cands.length then t.settleWork n
      else t.stepRounds
    else s

/-- What follows every release, new candidate or change of the budget (R266, R430): credits go to the producers that wait in
the order of R590, with an admission pass, and OVERSIZE for the candidates that still wait (R265). -/
def State.coordinate (s : State) : State :=
  ((((s.roundsWritten.serveSys 16).offerDue).settleWork 130).flushWatch).markOversize

/-- R263, R292: a candidate waiting for budget becomes AGED. -/
def State.ageCand (s : State) (c : Cand) : State :=
  let c' := { c with eighths := c.eighths + 1 }
  let s := s.setCand c'
  if c'.aged && !c.aged && c.budgetWait then s.raise 0 0x0A 1 else s

/-- CANDIDATE_AGEING (R261): a waiting candidate's effective priority rises; calibration runs do not age. -/
def execCandidateAgeing (order : Nat) (s : State) : Out :=
  .next <|
    match s.coord.cands.find? (fun c => c.order == order) with
    | some c => if c.aged || decide (c.prio < 0) then s else s.ageCand c
    | none => s

/-- Requests in the FCO_RUN queue (R248). -/
def State.hostQueue (s : State) : Nat := (s.coord.cands.filter (fun c => decide (c.origin = .host))).length

/-- FCO_RUN (R248, R247, R266): a single-exchange request is queued, refused by the coordinator or by the engine. -/
def execFcoRun (value : Word) (s : State) : Out :=
  .next <| s.hostWrite 0 0x0A fun s =>
    let s := s.writeRo 0 0x0A 0x044 value
    let d := bits value 16 3
    if 16 ≤ s.hostQueue then s.err 0 0x0A 0x0101
    else if !s.inService d || !s.pageOn d 0x0C then s.err 0 0x0A 0x0102
    else
      let (s, ms) := s.formChain d (bits value 0 9)
      if ms.isEmpty then s
      else (s.addExchange .host d ((ms[0]?).map Member.port |>.getD 0) ms (bits value 24 3)).coordinate

/-- FCO_ABORT (R267, R356): waiting candidates of the descriptor are withdrawn, admitted exchanges end ABORTED_HOST. -/
def execFcoAbort (value : Word) (s : State) : Out :=
  .next <| s.hostWrite 0 0x0A fun s =>
    let s := s.writeRo 0 0x0A 0x048 value
    let d := bits value 16 3
    let i := bits value 0 9
    let uses := fun (ms : List Member) => ms.any (fun m => m.index == i)
    let cs := s.coord.cands.filter (fun c => c.die == d && uses c.members)
    let es := s.exchs.filter (fun e => decide (e.1 / 16 = d) && uses (e.2.members.drop e.2.cur))
    if cs.isEmpty && es.isEmpty then s.err 0 0x0A 0x0103
    else
      let s := cs.foldl (fun s c => s.withdraw c) s
      (es.foldl (fun s e => s.endWork e.1 7) s).coordinate

/-- The references that a plan's window holds (R249). -/
def State.planRefs (s : State) (n count : Nat) : List Nat :=
  (List.range count).map fun i =>
    let w := s.memWord (hostAddr 0 (0xB4 + n / 16) (256 * (n % 16)) + 4 * (i / 2))
    if i % 2 = 0 then bits w 0 16 else bits w 16 16

/-- R251: a round starts on its snapshot. -/
def State.startRound (s : State) (n : Nat) : State :=
  let run : PlanRun :=
    { plan := n, refs := (s.planRefs n (s.get 0 (F.FCO_PLAN_CFG_COUNT n))).map (fun r => (r, .waiting)),
      setLo := s.get 0 (F.FCO_PLAN_SET_LO_SET n), setHi := s.get 0 (F.FCO_PLAN_SET_HI_SET n),
      prio := s.get 0 (F.FCO_PLAN_CFG_PRIO n), period := s.planPeriod n }
  let s := (s.set 0 (F.FCO_PLAN_STAT_ROUNDS n) ((s.get 0 (F.FCO_PLAN_STAT_ROUNDS n) + 1) % 65536)).set 0
    (F.FCO_PLAN_STAT_RUNNING n) 1
  { s with coord := { s.coord with
      edge := some s.time, runs := s.coord.runs ++ [run] } }

/-- R250, R252: the start of a plan's round is due: it starts, is skipped because the one before still runs, or is
dropped. Its period grid goes on in each case. -/
def State.roundDue (s : State) (plan : Nat) : State :=
  let s := { s with coord := { s.coord with starts := Store.insert (Store.erase s.coord.starts plan) plan s.time } }
  if s.draining || !s.awake || !s.pageOn 0 0x0A then s
  else if s.coord.runs.any (fun r => r.plan == plan) then
    let v := s.get 0 (F.FCO_PLAN_STAT_SKIPS plan) + 1
    let s := if 255 ≤ v then (s.set 0 (F.FCO_PLAN_STAT_SKIPS plan) 255).set 0 (F.FCO_PLAN_STAT_OVF plan) 1
      else s.set 0 (F.FCO_PLAN_STAT_SKIPS plan) v
    s.raise 0 0x0A 2
  else s.startRound plan

/-- ROUND_START (R250 to R254): the start of an enabled plan's round is due. -/
def execRoundStart (plan : Nat) (late : Bool) (s : State) : Out :=
  .next <| s.when (s.awake && decide (plan < 64) && s.flag 0 (F.FCO_PLAN_CFG_EN plan)) fun s =>
    ((s.syncLate late).roundDue plan).coordinate

/-- Budget in use that stays when every down ramp without a restart, and every one that waits at ON or for its frame's end,
has ended (R272). -/
def State.budgetStanding (s : State) : Nat :=
  ((List.range s.dies).map (fun i => ((List.range 10).map (fun sl =>
    if (s.fstate (i + 1) sl = 4 ∨ (s.slice (i + 1) sl).offHeld) ∧ (s.slice (i + 1) sl).restart.isNone
        ∧ (s.slice (i + 1) sl).want.isNone then 0
    else s.sliceBudget (i + 1) sl)).foldl (· + ·) 0)).foldl (· + ·) 0

/-- R272: an item ended for safety is counted and raised. -/
def State.safetyItem (s : State) : State :=
  (s.countUp 0 F.FCO_CNT_SAFETY_COUNT F.FCO_CNT_SAFETY_OVF 1).raise 0 0x0A 7

/-- R353: the most recently begun field hold. -/
def latestHold : List (Nat × Hold) → Option (Nat × Hold)
  | [] => none
  | h :: t =>
    match latestHold t with
    | some x => if h.2.begun ≤ x.2.begun then some x else some h
    | none => some h

/-- R272: the admitted work of lowest effective priority, among equals the latest admitted. -/
def lowestWork : List (Nat × Exch) → Option (Nat × Exch)
  | [] => none
  | h :: t =>
    match lowestWork t with
    | some x =>
      if x.2.prio < h.2.prio ∨ (x.2.prio = h.2.prio ∧ h.2.admitted ≤ x.2.admitted) then some x else some h
    | none => some h

/-- R272, R353: holds first, then admitted work, one item at a time until the budget in use fits. -/
def State.shed : Nat → State → State
  | 0, s => s
  | n + 1, s =>
    if s.budgetStanding ≤ s.safetyLimit then s
    else
      match latestHold s.fieldHolds with
      | some (k, _) =>
        let t := (s.dropHold (k / 16) (k % 16))
        let t := match t.servingSlice (k / 16) (k % 16) with
          | some sl => t.abortFieldOff (k / 16) sl
          | none => t
        (t.safetyItem).shed n
      | none =>
        match lowestWork (s.exchs.filter (fun e => e.2.level != 0)) with
        | some (k, _) => ((s.endWork k 6).safetyItem).shed n
        | none => s

/-- R273: every energised slice ramps down at once, guarded or not, and all admitted work ends. -/
def State.thermalStop (s : State) : State :=
  let s := (s.set 0 F.FCO_THERM_STOPPED 1).raise 0 0x0A 5
  let s := s.fieldHolds.foldl (fun s h =>
    (s.dropHold (h.1 / 16) (h.1 % 16)).safetyItem) s
  let s := s.exchs.foldl (fun s e => (s.endWork e.1 6).safetyItem) s
  (List.range s.dies).foldl (fun s i => (List.range 10).foldl (fun s sl =>
    if energisedState (s.fstate (i + 1) sl) then s.fieldOff (i + 1) sl true else s) s) s

/-- The highest temperature of a list with its die; the lowest die among equals. -/
def hottest : List Int → Nat → Option (Int × Nat)
  | [], _ => none
  | t :: ts, d =>
    match hottest ts (d + 1) with
    | some (u, e) => if t < u then some (u, e) else some (t, d)
    | none => some (t, d)

/-- R272: one evaluation of the safety limit; `above` counts the consecutive ones in which the budget in use exceeds it. -/
def State.overLimit (s : State) (above : Nat) : Nat := if s.safetyLimit < s.budgetUsed then above + 1 else 0

/-- VSUP_WINDOW_END (R270, R272): the window's mean goes to SRL_VSUP, FCO_LIMITS.SUPPLY and the supply term together. -/
def execVsupWindowEnd (vsup : Nat) (s : State) : Out :=
  .next <| s.when s.awake fun s =>
    let s := (s.set 0 F.SRL_VSUP_VSUP vsup).set 0 F.FCO_LIMITS_SUPPLY (supplyCenti vsup / 100)
    let above : Nat := s.overLimit s.coord.overV
    let s := { s with coord := { s.coord with overV := above } }
    let s : State := if 2 ≤ above then s.shed 200 else s
    s.coordinate

/-- R276: no round start falls within the next HOLD ms. -/
def State.noStartWithin (s : State) (ticks : Nat) : Bool :=
  s.plansRunning.all (fun n => match s.nextStart n with
    | some t => decide (s.time + ticks < t)
    | none => true)

/-- R291: the round boundary: a round of an enabled plan starts or completes now, or no round is in progress and none
starts within 1 µs. -/
def State.roundBoundary (s : State) : Bool :=
  s.coord.edge == some s.time || (s.coord.runs.isEmpty && s.noStartWithin 27)

/-- No slice energised, no candidate waiting and no round in progress (R276). -/
def State.fieldIdle (s : State) : Bool :=
  (List.range s.dies).all (fun i => s.energisedCount (i + 1) == 0) && s.coord.cands.isEmpty && s.coord.runs.isEmpty

/-- VSUP_IDLE_REQUEST (R276): one SET request for FCO_VSUP.IDLE. -/
def execVsupIdleRequest (s : State) : Out :=
  .next <| s.when (s.awake && s.flag 0 F.FCO_VSUP_CTL_AUTO && s.fieldIdle && !s.coord.idleSent
      && s.noStartWithin (s.get 0 F.FCO_VSUP_CTL_HOLD * ticksPerMs)) fun s =>
    { s.supplyRequest { cmd := 1, value := s.get 0 F.FCO_VSUP_IDLE } with
      coord := { s.coord with idleSent := true } }

/-- R288: the ports of a plan's aerial set and their adjacent ports. -/
def State.planPorts (s : State) (n : Nat) : List Nat :=
  let own := (List.range 56).filter (s.planHas n)
  own ++ (own.map s.adjacent).flatten

/-- DIE_WAKE_LEAD (R288, R276): RUN is asked of the dies that a plan needs, with the supply request. -/
def execDieWakeLead (plan : Nat) (s : State) : Out :=
  .next <| s.when (s.awake && decide (plan < 64) && s.flag 0 (F.FCO_PLAN_CFG_EN plan)
      && decide (s.power.phase = .none)) fun s =>
    (s.askRunPorts (s.planPorts plan)).supplyForRun

/-- R290: every slice of the die is idle, and nothing waits or runs on it. -/
def State.dieIdle (s : State) (d : Nat) : Bool :=
  (List.range 10).all (fun sl => (s.fstate d sl == 0 || decide (7 ≤ s.fstate d sl)) && !s.sliceGranted d sl)
    && !s.coord.cands.any (fun c => c.die == d || (s.needs c).any (fun e => e.1 == d))
    && !s.exchs.any (fun e => decide (e.1 / 16 = d) || e.1 == dieWork d ||
          (decide (4096 ≤ e.1 ∧ e.1 < 8192) && decide ((e.1 - 4096) / 16 = d)))

/-- The first of the instants `w`, `w + per`, `w + 2 per`, … that is not past. -/
def nextOf (w per now : Nat) : Nat := if now ≤ w then w else w + (now - w + per - 1) / per * per

/-- R290: no wake of the die under R288 falls due within the next IDLE µs. -/
def State.noWakeDue (s : State) (d : Nat) : Bool :=
  s.plansRunning.all (fun n =>
    match s.nextStart n with
    | some t =>
      let w := nextOf (t - usTicks (s.get 0 F.FCO_WAKE_LEAD)) (max 1 (s.planPeriod n)) s.time
      !((s.planPorts n).any (fun p => portDie p == d)) || decide (s.time + usTicks (s.get 0 F.FCO_WAKE_IDLE) < w)
    | none => true)

/-- DIE_DOZE_RETURN (R290): an idle die goes back to DOZE. -/
def execDieDozeReturn (die : Nat) (s : State) : Out :=
  .next <| s.when (s.awake && s.fieldDie die && s.pstate die == 2 && s.dieIdle die && s.noWakeDue die
      && !s.flag die F.DPWR_CFG_KEEP_RUN) fun s =>
    (s.set die F.DPWR_STAT_PSTATE 1).setDie die { s.die die with runAsked := false }

/-- DOZE_TO_RUN (R677, R266): a die asked for RUN in DOZE reaches it. -/
def execDozeToRun (die : Nat) (s : State) : Out :=
  .next <| s.when (s.awake && s.inService die && s.pstate die == 1
      && ((s.die die).runAsked || s.flag die F.DPWR_CFG_KEEP_RUN)) fun s =>
    ((s.set die F.DPWR_STAT_PSTATE 2).setDie die { s.die die with runAsked := false }).coordinate

/-- A CW grant of a slice that has been admitted and not ended. -/
def State.cwLive (s : State) (d sl : Nat) : Bool :=
  match s.work (sliceWork d sl) with
  | some e => decide (e.origin = .cw)
  | none => false

/-- CW_START (R241, R243): a CW grant is asked for, or refused. While a request waits START reads 1, and writing it
changes nothing. -/
def execCwStart (die slice : Nat) (s : State) : Out :=
  .next <| s.hostWrite die (slcPage slice) fun s => s.when (s.inService die && decide (slice < 10)) fun s =>
    if s.pageOn die (slcPage slice) && (s.servedPort die slice).isSome && s.fstate die slice == 0
        && (s.slice die slice).restart.isNone then
      if (s.slice die slice).cwAsked then s
      else
        let s := (s.set die (F.SLC_CW_START slice) 1).setSlice die slice { s.slice die slice with cwAsked := true }
        (s.addCand (mkCand .cw die slice (s.levelInForce die slice (s.get die (F.SLC_CW_LEVEL slice)))
          [0, 0, 0, 0] 0)).coordinate
    else (s.set die (F.SLC_CW_START slice) 0).err die (slcPage slice) 0x0101

/-- CW_STOP (R242): a CW period ends with a ramp down. -/
def execCwStop (die slice : Nat) (s : State) : Out :=
  .next <| s.hostWrite die (slcPage slice) fun s => s.when (s.inService die && decide (slice < 10) && s.cwLive die slice) fun s =>
    (s.endCw die slice false).coordinate

/-- CW_TIMEOUT (R242): CW_TIME has elapsed from the field state reaching ON. -/
def execCwTimeout (die slice : Nat) (s : State) : Out :=
  .next <| s.when (s.fieldDie die && decide (slice < 10) && s.cwLive die slice && (s.slice die slice).cw
      && s.fstate die slice == 2) fun s =>
    (s.endCw die slice false).coordinate

/-- LISTENER_WITHDRAW (R285): at the end of the inventory slot a listener goes to a candidate of higher priority. -/
def execListenerWithdraw (die port listener : Nat) (late : Bool) (s : State) : Out :=
  .next <| s.when s.awake fun s =>
    match s.exch die port with
    | some e =>
      if e.listeners.contains listener ∧ e.phase ≠ .listen ∧
          s.coord.cands.any (fun c => decide (e.prio < c.eff)
            && (s.needs c).any (fun (d, sl) => d == portDie listener
              && s.servingSlice d (portIx listener) == some sl)) then
        let s := (s.syncLate late).setExch die port { e with listeners := e.listeners.filter (· != listener) }
        (s.releaseListeners [listener]).coordinate
      else s
    | none => s

/-- RECORD_WORD_ARRIVAL (R34, R35, R266): the next word of a die's first record reaches the anchor under seam credit; a
copy of a record that the anchor has already acknowledged is discarded. What the record leaves of its reservation is free
for an admission pass. -/
def execRecordWordArrival (d xfer : Nat) (s : State) : Out :=
  .next <| s.when (s.awake && s.inService d) fun s =>
    match (s.die d).out with
    | r :: _ => if r.xfer = xfer then (s.arrive d).coordinate else s
    | [] => s

end Sys2Proof.Machine
end

