-- ==== Sys2Proof/Machine/Nvs.lean ====
section
/-! DEFINITION. The NV store (chapter 20): writing and reading profile slots, the lock block, the debug lock and the
background operations. -/

namespace Sys2Proof.Machine

/-- The slot of the active profile, none under DEV_PROFILE.NONE (R767). -/
def State.activeSlot (s : State) : Option Nat :=
  if s.flag 0 F.DEV_PROFILE_NONE then none else some (s.get 0 F.DEV_PROFILE_ACTIVE)

/-- Words of a slot (R755), and the key of a word in the NV store. -/
def slotWords : Nat := 16384

def nvKey (slot off : Nat) : Nat := slotWords * slot + off

/-- A programmed word of a slot; none while it is erased. -/
def State.nvWord (s : State) (slot off : Nat) : Option Word := Store.find? s.nv.slots (nvKey slot off)

/-- R775: the word is erased, or will be when the operations that wait have run. -/
def State.wordErased (s : State) (slot off : Nat) : Bool :=
  s.nv.ops.foldl (fun e o =>
    match o with
    | .eraseSlot k => e || k == slot
    | .program k i _ => e && !(k == slot && i == off)
    | _ => e) (s.nvWord slot off).isNone

def NvOp.isProgram : NvOp → Bool
  | .program _ _ _ => true
  | _ => false

def NvOp.isLock : NvOp → Bool
  | .regLock _ => true
  | _ => false

def NvOp.isDebug : NvOp → Bool
  | .debugLock => true
  | _ => false

/-- NVS_STAT.WBUF: words waiting in the program buffer. -/
def State.programs (s : State) : Nat := (s.nv.ops.filter NvOp.isProgram).length

/-- R758: a background operation joins those that wait. -/
def State.nvQueue (s : State) (o : NvOp) : State := { s with nv := { s.nv with ops := s.nv.ops ++ [o] } }

/-- R774: NVS_ADDR.OFFSET advances by 4 and wraps within the slot. -/
def State.nvAdvance (s : State) : State := s.set 0 F.NVS_ADDR_OFFSET (s.get 0 F.NVS_ADDR_OFFSET + 4)

/-- NVS_ERASE_SLOT (R774, R775). -/
def execNvsEraseSlot (slot : Nat) (s : State) : Out :=
  .next <| s.hostWrite 0 0x14 fun s =>
    if s.activeSlot = some (slot % 4) then s.err 0 0x14 0x0101 else s.nvQueue (.eraseSlot (slot % 4))

/-- The staged words of R761. -/
def State.stagedLock (s : State) : List Word := (List.range 17).map (fun w => s.reg 0 0x14 (0x100 + 4 * w))

/-- R761: a sub-band's two words. -/
def subBandOk (r l : Word) : Bool :=
  let lo := bits r 16 16
  let hi := bits r 0 16
  bits l 22 9 == 0 && bits l 10 6 == 0
    && (!bit l 31 || decide (lo ≤ hi ∧ ((34520 ≤ lo ∧ hi ≤ 34800) ∨ (36080 ≤ lo ∧ hi ≤ 37120))))
    && decide (bits l 16 6 ≤ 48 ∧ 1 ≤ bits l 0 10 ∧ bits l 0 10 ≤ 1000)

/-- R761: the check of the staged words; LOCKED is to be written 0. -/
def lockOk (ws : List Word) : Bool :=
  let w := fun (i : Nat) => (ws[i]?).getD 0
  (List.range 8).all (fun b => subBandOk (w (2 * b)) (w (2 * b + 1)))
    && bits (w 16) 28 4 == 0 && bits (w 16) 10 6 == 0
    && decide (bits (w 16) 0 10 ≤ 1000 ∧ bits (w 16) 16 12 ≤ 4000)

/-- NVS_REG_LOCK (R761, R762). -/
def execNvsRegLock (key : Nat) (s : State) : Out :=
  .next <| s.hostWrite 0 0x14 fun s =>
    if key % 256 != 0xA5 then s.err 0 0x14 0x0107
    else if s.nv.lockDone || s.nv.torn || s.nv.ops.any NvOp.isLock then s.err 0 0x14 0x0105
    else if !lockOk s.stagedLock then s.err 0 0x14 0x0104
    else s.nvQueue (.regLock s.stagedLock)

/-- NVS_DEBUG_LOCK (R762). -/
def execNvsDebugLock (key : Nat) (s : State) : Out :=
  .next <| s.hostWrite 0 0x14 fun s =>
    if key % 256 != 0xA5 then s.err 0 0x14 0x0107
    else if s.nv.debugLock || s.nv.ops.any NvOp.isDebug then s.err 0 0x14 0x0105
    else s.nvQueue .debugLock

/-- NVS_WDATA_WRITE (R774, R775): the word at NVS_ADDR is to be programmed; a refused word does not advance the
address. -/
def execNvsWdataWrite (value : Word) (s : State) : Out :=
  .next <| s.hostWrite 0 0x14 fun s =>
    let slot := s.get 0 F.NVS_ADDR_SLOT
    let off := s.get 0 F.NVS_ADDR_OFFSET / 4
    if s.activeSlot = some slot then s.err 0 0x14 0x0101
    else if 64 ≤ s.programs then s.err 0 0x14 0x0103
    else if !s.wordErased slot off then s.err 0 0x14 0x0102
    else (s.nvQueue (.program slot off value)).nvAdvance

/-- What a word of a slot reads as; an erased word reads a value that the manual leaves open. -/
def State.nvRead (s : State) (slot off : Nat) : Word :=
  (s.nvWord slot off).getD (BitVec.ofNat 32 (Config.freeNat (2 ^ 40 + nvKey slot off)))

/-- R757, R758: a background operation runs or waits: those of the NVS page and the counter, a save of calibration sets
or of the ticket snapshot, or a write of the field map. -/
def State.nvBusy (s : State) : Bool := !s.nv.ops.isEmpty

/-- R757: a foreground read suspends a running background operation. -/
def State.nvForeground (s : State) : State :=
  if s.nvBusy then s.countUp 0 F.NVS_WEAR_SUSPENDS F.NVS_WEAR_OVF 1 else s

/-- NVS_RDATA_READ (R774, R757): the answer stands in NVS_RDATA. A fetch-ahead read returns 0 and does not advance. -/
def execNvsRdataRead (fetch : Bool) (s : State) : Out :=
  .next <| s.when s.awake fun s =>
    if fetch then s.set 0 F.NVS_RDATA_DATA 0
    else
      let w := s.nvRead (s.get 0 F.NVS_ADDR_SLOT) (s.get 0 F.NVS_ADDR_OFFSET / 4)
      ((s.setReg 0 0x14 0x030 w).nvForeground).nvAdvance

/-- What a background operation that verified leaves in the store. -/
def Nv.apply (n : Nv) : NvOp → Nv
  | .eraseSlot k => { n with slots := n.slots.filter (fun e => e.1 / slotWords != k) }
  | .program k off w => { n with slots := Store.insert (Store.erase n.slots (nvKey k off)) (nvKey k off) w }
  | .regLock ws =>
    let last := (ws[16]?).getD 0 ||| 0x80000000#32
    { n with lockWords := ws.take 16 ++ [last], lockDone := true }
  | .debugLock => { n with debugLock := true }
  | .counter v => { n with txCtr := v }
  | .calSet k c => { n with cal := Store.put n.cal k {} c }
  | .calSave | .snapSave | .darnMap => n

/-- Operations whose end is a command of its own: a save of calibration sets or of the snapshot, a write of the field map. -/
def NvOp.apart : NvOp → Bool
  | .calSave | .snapSave | .darnMap => true
  | _ => false

/-- R757, R758: the operation that runs, the one that came first. -/
def State.nvRuns (s : State) (o : NvOp) : Bool := s.nv.ops.head? == some o

/-- The operation that ran leaves. -/
def State.nvPop (s : State) : State := { s with nv := { s.nv with ops := s.nv.ops.tail } }

/-- R748: a change of the map awaits its write; one write takes all that came before it. -/
def State.mapPending (s : State) : State :=
  let s := s.set 0 F.DRN_STAT_NVPEND 1
  if s.nv.ops.contains .darnMap then s else s.nvQueue .darnMap

/-- The end of an operation: its effect and DONE, or the failure (R758, R759). -/
def State.nvEnd (s : State) (o : NvOp) (ok : Bool) : State :=
  if ok then { s with nv := s.nv.apply o }.raise 0 0x14 0 else (s.err 0 0x14 0x0106).raise 0 0x14 1

end Sys2Proof.Machine
end

