-- ==== Sys2Proof/Machine/Calibration.lean ====
section
/-! DEFINITION. Calibration (chapter 18): targets that fall DUE, runs and their acceptance, points, storage, reports. -/

namespace Sys2Proof.Machine

/-- R703, R704: a target becomes DUE; `line` for a carrier relock or a rejoin. -/
def State.makeDue (s : State) (k : Nat) (line : Bool) : State :=
  let t := s.calTarget k
  let s := if t.due then s.setCalTarget k { t with line := t.line || line }
    else s.setCalTarget k { t with due := true, since := s.time, aged := false, line := line }
  (s.calBits k).offerCal k

/-- Slices of a die in a mask that satisfy a condition. -/
def maskSlices (mask : Nat) (f : Nat → Bool) : List Nat := (List.range 10).filter (fun sl => mask.testBit sl && f sl)

/-- The request of CAL_REQ for named slices (R703, R722): SLICE or SPARE. -/
def State.calReqSlices (s : State) (d mask : Nat) (serving : Bool) : State :=
  s.hostWrite 0 0x12 fun s =>
    let l := if s.fieldDie d then
        maskSlices mask (fun sl => s.sound d sl && (s.servedPort d sl).isSome == serving) else []
    if l.isEmpty then s.err 0 0x12 0x0102
    else (l.foldl (fun s sl => s.makeDue (sliceSet d sl) false) s).coordinate

/-- CAL_REQ_SLICE (R703). -/
def execCalReqSlice (die mask : Nat) (s : State) : Out := .next (s.calReqSlices die mask true)

/-- CAL_REQ_SPARE (R703). -/
def execCalReqSpare (die mask : Nat) (s : State) : Out := .next (s.calReqSlices die mask false)

/-- CAL_REQ_DIE (R703). -/
def execCalReqDie (die : Nat) (s : State) : Out :=
  .next <| s.hostWrite 0 0x12 fun s =>
    if s.fieldDie die then (s.makeDue (dieSet die) false).coordinate else s.err 0 0x12 0x0102

/-- CAL_REQ_ANCHOR (R703). -/
def execCalReqAnchor (s : State) : Out := .next (s.hostWrite 0 0x12 fun s => s.makeDue 0 false)

/-- R703: every slice, spare, die and the anchor. -/
def State.allDue (s : State) : State :=
  let s := (List.range s.dies).foldl (fun s i =>
    let d := i + 1
    let s := (maskSlices 1023 (s.sound d)).foldl (fun s sl => s.makeDue (sliceSet d sl) false) s
    s.makeDue (dieSet d) false) s
  s.makeDue 0 false

/-- CAL_REQ_ALL (R703). -/
def execCalReqAll (s : State) : Out := .next (s.hostWrite 0 0x12 fun s => s.allDue.coordinate)

/-- CAL_DT in 0.1 °C. -/
def State.calDt (s : State) : Nat := 5 * s.get 0 F.CAL_CFG_DT

/-- R690, R703: the temperature of a target lies at least CAL_DT from its last accepted run's, or from that of a failed
reference check. A target that has had no run has no such temperature. -/
def State.tempCause (s : State) (k : Nat) (t : Int) : Bool :=
  let base := match (s.calTarget k).armTemp with
    | some x => some x
    | none => if (s.calSet k).seq = 0 then none else some (s.calSet k).lastTemp
  match base with
  | some b => decide ((s.calDt : Int) ≤ (t - b).natAbs)
  | none => false

/-- R703: the temperature causes of a die's targets; that of the ANCHOR run makes the enabled hop entries due with the
anchor. A target that is due or runs meets no new cause (DEDUCED, log entry 162). -/
def State.tempCauses (s : State) (d : Nat) (t : Int) : State :=
  if s.flag 0 F.CAL_CFG_AUTO then
    let rests := fun (s : State) (k : Nat) => !(s.calTarget k).due && !(s.calTarget k).running
    let keys := if d = 0 then
        if s.tempCause 0 t && rests s 0 then
          0 :: ((List.range 128).filter (fun n => s.flag 0 (F.RFC_HOP_EN n))).map hopSet
        else []
      else (dieSet d :: (maskSlices 1023 (s.sound d)).map (sliceSet d)).filter (fun k => s.tempCause k t)
    keys.foldl (fun s k => if rests s k then s.makeDue k false else s) s
  else s

/-- R697, R703: the anchor's temperature and its causes. -/
def State.anchorSample (s : State) (temp : Int) : State :=
  ({ s with coord := { s.coord with anchorTemp := temp } } : State).tempCauses 0 temp

/-- THERMAL_SAMPLE (R271 to R273, R294): the temperatures of the anchor and the present dies set the
thermal factor; that of the anchor may make its targets due (R703). -/
def execThermalSample (temps : List Int) (s : State) : Out :=
  .next <| s.when s.awake fun s =>
    match hottest (temps.take (s.dies + 1)) 0 with
    | none => s
    | some (t, d) =>
      let f := thermalFactor t
      let old := s.coord.thermal
      let s := (s.set 0 F.FCO_THERM_TMAX (field 8 (t / 10))).set 0 F.FCO_THERM_DIE d
      let s := { s with coord := { s.coord with thermal := f } }.set 0 F.FCO_THERM_FACTOR (f * 100 / 320)
      let s := (List.range s.dies).foldl (fun s i =>
        s.set (i + 1) F.FDC_STAT_TEMP (field 8 (((temps[i + 1]?).getD 0) / 10))) s
      let s : State := if f < 320 && old == 320 then s.raise 0 0x0A 4 else s
      let s : State := if f = 0 && !s.flag 0 F.FCO_THERM_STOPPED then s.thermalStop
        else if s.flag 0 F.FCO_THERM_STOPPED && decide (t < (1150 : Int)) then (s.set 0 F.FCO_THERM_STOPPED 0).raise 0 0x0A 6
        else s
      let above : Nat := s.overLimit s.coord.overT
      let s := { s with coord := { s.coord with overT := above } }
      let s : State := if 2 ≤ above then s.shed 200 else s
      (s.anchorSample ((temps[0]?).getD 0)).coordinate

/-- DIE_TEMP_UPDATE (R697, R703, R294): the die's temperature, the targets that it makes DUE, and the calibrated values
that idle slices and ports take at it (R215, R218, R315). -/
def execDieTempUpdate (die : Nat) (temp : Int) (s : State) : Out :=
  .next <| s.when (s.awake && s.present die) fun s =>
    let s := if die = 0 then { s with coord := { s.coord with anchorTemp := temp } }
      else s.set die F.DCAL_TEMP_TEMP (field 16 temp)
    let s := s.tempCauses die temp
    (if die = 0 then s else s.refreshDie die).coordinate

/-- The limits of a quantity (R691): MIN, MAX, STEP as in force. -/
def State.calLimits (s : State) (q : Nat) : Int × Int × Nat :=
  let a := s.reg 0 0x12 (0x100 + 8 * q)
  (signed 16 (bits a 0 16), signed 16 (bits a 16 16), bits (s.reg 0 0x12 (0x104 + 8 * q)) 0 16)

/-- A measured quantity or coefficient: its code, the key of its first part, its values (one, or I and Q). -/
structure Measured where
  q : Nat
  key : Nat
  vals : List Int
  deriving DecidableEq, Repr

/-- The measured values of a run grouped by quantity and neighbour entry, in step order. -/
def groupValues : List (Nat × Nat × Int) → List Measured
  | [] => []
  | (q, part, v) :: t =>
    let rest := groupValues t
    match rest with
    | m :: ms => if m.q = q ∧ m.key = qKey q (part + 1) ∧ part % 2 = 0 ∧ (q = 5 ∨ q = 6) then
        { q := q, key := qKey q part, vals := v :: m.vals } :: ms
      else { q := q, key := qKey q part, vals := [v] } :: rest
    | [] => [{ q := q, key := qKey q part, vals := [v] }]

/-- Sum of squares. -/
def sumSq : List Int → Int
  | [] => 0
  | v :: t => v * v + sumSq t

/-- R706, R692: MIN and MAX, then STEP against the value that the set held before the run. -/
def State.plausible (s : State) (c : CalSet) (t : Int) (noStep : Bool) (m : Measured) : Bool :=
  let (lo, hi, step) := s.calLimits m.q
  let old := (List.range m.vals.length).filterMap (fun i => interp (m.q == 4 || m.q == 12) t (c.held (m.key + i)))
  let range := if m.q = 4 ∨ m.q = 12 then true
    else if m.q = 5 ∨ m.q = 6 then decide (lo * lo ≤ sumSq m.vals ∧ sumSq m.vals ≤ hi * hi)
    else m.vals.all (fun v => decide (lo ≤ v ∧ v ≤ hi))
  let stepOk := if old.length < m.vals.length ∨ noStep then true
    else if m.q = 4 ∨ m.q = 12 then
      (m.vals.zip old).all (fun (v, o) => decide ((phaseDiff v o).natAbs ≤ step))
    else if m.q = 5 ∨ m.q = 6 then
      decide (sumSq ((m.vals.zip old).map (fun (v, o) => v - o)) ≤ (step : Int) * step)
    else (m.vals.zip old).all (fun (v, o) => decide ((v - o).natAbs ≤ step))
  range && stepOk

/-- Keys that a set's points hold. -/
def CalSet.keys (c : CalSet) : List Nat :=
  (c.points.map (fun p => p.vals.map (·.1))).flatten.eraseDups

/-- R708: the point of a run: accepted values, and for the rest the values interpolated before the run. -/
def newPoint (c : CalSet) (t : Int) (accepted : List (Nat × Int)) : CalPoint :=
  let kept := (c.keys.filter (fun k => (Store.find? accepted k).isNone)).filterMap (fun k =>
    (interp (k / 16 == 4 || k / 16 == 12) t (c.held k)).map (fun v => (k, v)))
  { temp := t, vals := (accepted ++ kept).foldl (fun l e => Store.insert (Store.erase l e.1) e.1 e.2) [] }

/-- A point in ascending order of temperature (R694). -/
def insertPoint (p : CalPoint) : List CalPoint → List CalPoint
  | [] => [p]
  | x :: xs => if p.temp < x.temp then p :: x :: xs else x :: insertPoint p xs

/-- The temperature of the point nearest to `t`, the lower among equals. -/
def nearestPoint (t : Int) : List CalPoint → Option Int
  | [] => none
  | p :: ps =>
    match nearestPoint t ps with
    | some x => if (x - t).natAbs < (p.temp - t).natAbs then some x else some p.temp
    | none => some p.temp

/-- R708: the run's point enters the set; answers whether it was inserted (true) or replaced a point. -/
def storePoint (dt : Nat) (p : CalPoint) (ps : List CalPoint) : List CalPoint × Bool :=
  match nearestPoint p.temp ps with
  | none => ([p], true)
  | some x =>
    let without := ps.filter (fun y => y.temp != x)
    if 2 * (x - p.temp).natAbs ≤ dt then (insertPoint p without, false)
    else if ps.length < 8 then (insertPoint p ps, true)
    else (insertPoint p without, false)

/-- R718, R758: a set that gained a point is written to the NV store at once, as a background operation; a replaced point
makes it dirty. -/
def State.storeSet (s : State) (k : Nat) (c : CalSet) (inserted : Bool) : State :=
  let s := s.setCalSet k c
  if inserted then { s with nv := { s.nv with ops := s.nv.ops ++ [NvOp.calSet k c] } }
  else (s.setCalTarget k { s.calTarget k with dirty := true }).set 0 F.CAL_SAVE_DIRTY 1

/-- R719, R604: the report of a run that made no reservation; a full queue leaves it unwritten. -/
def State.reportSys (s : State) (payload : List Word) : State :=
  if 16 ≤ s.hamper.sysq.length then
    s.countUp 0 F.CAL_CNT_UNREPORTED_COUNT F.CAL_CNT_UNREPORTED_OVF 1
  else s.queueSys (.report s.calClass 0xA payload s.time)

/-- A bit mask of quantities (bit q − 1). -/
def qMask (l : List Nat) : Nat := (l.eraseDups).foldl (fun m q => m + 2 ^ (q - 1)) 0

/-- The measured value of the first rejected quantity (R719). -/
def Measured.word (m : Measured) : Word :=
  match m.vals with
  | [i, q] => Sys2Proof.Machine.word (field 16 i * 65536 + field 16 q)
  | v :: _ => Sys2Proof.Machine.word (field 32 v)
  | [] => 0

/-- The adjacency entries whose neighbour coefficient a run has accepted, as a bit mask. -/
def acceptedTerms (good : List Measured) : Nat :=
  ([0, 1, 2, 3].filter (fun k => good.any (fun m => m.q == 6 && m.key == qKey 6 (2 * k)))).foldl (fun v k => v + 2 ^ k) 0

/-- R220: a run that chooses a trim code at either end of its bank. -/
def endCode (good : List Measured) : Bool :=
  good.any (fun m => (m.q == 1 || m.q == 2) && m.vals.any (fun v => trimEnd v.toNat))

/-- The effects of a run's accepted values outside its set (R220, R316, R417, R705). -/
def State.runEffects (s : State) (kind d sl n : Nat) (good : List Measured) : State :=
  let qs := good.map Measured.q
  let s := if kind = 1 then
      let p := portIx n
      let w := s.watchOf d p
      let w := { w with rinse := w.rinse || qs.contains 5 || qs.contains 6,
                        rinseTerms := w.rinseTerms ||| acceptedTerms good,
                        refresh := w.refresh || qs.contains 7 || qs.contains 8 }
      let s := if endCode good then s.raise d (slcPage sl) 2 else s
      { s.setWatch d p w with coord := { s.coord with released := n :: s.coord.released.filter (· != n) } }
    else s
  if kind = 3 && qs.contains 12 then
    { s with coord := { s.coord with lineBlocked := s.coord.lineBlocked.filter (· != d) } }
  else s

/-- The page that reports a run: DCAL of its die, or CAL. -/
def calPage (d : Nat) : Nat := if d = 0 then 0x12 else 0x0F

/-- R701, R716: the adjacency that a set's neighbour terms belong to: of the entries in a mask as the run had them, of the
others as before. -/
def mixAdj (mask : Nat) (run old : Word) : Word :=
  word (([0, 1, 2, 3].map (fun k => adjEntry (if mask.testBit k then run else old) k * 2 ^ (8 * k))).foldl (· + ·) 0)

/-- R698: the set as a run on a port finds it: trim, rinse and watch quantities of another port are empty. -/
def CalSet.forPort (c : CalSet) (n : Nat) : CalSet :=
  if c.port = n then c
  else
    { c with adj := 0xFFFFFFFF, points := c.points.map (fun p =>
        { p with vals := p.vals.filter (fun e => e.1 / 16 == 3 || e.1 / 16 == 4) }) }

/-- R699: the quantities that a kind of run measures. -/
def kindHolds (kind q : Nat) : Bool :=
  if kind = 1 then decide (1 ≤ q ∧ q ≤ 8) else if kind = 2 then decide (q = 3 ∨ q = 4)
  else if kind = 3 then decide (9 ≤ q ∧ q ≤ 12) else if kind = 4 then decide (q = 15 ∨ q = 16)
  else decide (q = 13 ∨ q = 14)

/-- R701: the neighbour steps that a SLICE run skips: an entry that is 0xFF, or whose port has no serving slice in STATE ON
that the run holds. -/
def State.skippedSteps (s : State) (kind : Nat) (adj : Word) (slices : List (Nat × Nat)) : Nat :=
  if kind = 1 then
    ([0, 1, 2, 3].filter (fun k =>
      let n := adjEntry adj k
      n == 0xFF || (match s.servingSlice (portDie n) (portIx n) with
        | some x => !(slices.contains (portDie n, x) && s.pageOn (portDie n) (slcPage x))
        | none => true))).foldl (fun v k => v + 2 ^ k) 0
  else 0

/-- R700: the WATCH step of a SLICE run is skipped while neither EN nor SLEEP of the port is 1. -/
def State.watchStepSkipped (s : State) (kind d n : Nat) : Bool :=
  kind == 1 && !s.flag d (F.CWT_P_CFG_EN (portIx n)) && !s.flag d (F.CWT_P_CFG_SLEEP (portIx n))

/-- R690: the reference check passes: neither part lies more than 1.0 % from its nominal value, in 0.001 %. -/
def refPasses (refv refres : Int) : Bool := decide (refv.natAbs ≤ 1000 ∧ refres.natAbs ≤ 1000)

/-- R706, R719: what a stored set keeps beside its points: the slice's port and adjacency, the watch levels, the hop
frequency. -/
def State.measuredSet (s : State) (kind d n : Nat) (adj : Word) (good : List Measured) (c : CalSet) : CalSet :=
  let qs := good.map Measured.q
  let c := if kind = 1 then { c with port := n, adj := mixAdj (acceptedTerms good) adj c.adj } else c
  let c := if kind = 1 && (qs.contains 7 || qs.contains 8) then
      { c with watch := word (s.get d (F.CWT_P_PROBE_BURST (portIx n)) * 65536
                              + s.get d (F.CWT_P_PROBE_LEVEL (portIx n))) } else c
  if kind = 5 then { c with adj := word (s.get 0 (F.RFC_HOP_FREQ n)) } else c

/-- R707, R708: the errors of a run: each rejected measurement, and a reference that failed. -/
def State.calRejects (s : State) (d : Nat) (refOk : Bool) (bad : List Measured) : State :=
  let s := bad.foldl (fun s m => ((s.err d (calPage d) (0x0200 + m.q)).raise d (calPage d) 1).countUp 0
    F.CAL_CNT_REJECT_COUNT F.CAL_CNT_REJECT_OVF 1) s
  if refOk then s else (s.err d (calPage d) 0x0101).raise 0 0x12 2

/-- A run's report: of its own record, or of the system's when it is to be written. -/
def State.calReported (s : State) (kind : Nat) (res : List Nat) (write : Bool) (payload : List Word) : State :=
  if kind ≤ 3 then s.reportRun res write payload else if write then s.reportSys payload else s

/-- R706, R719: the accepted measurements of a run of unit `u` join the set's points. -/
def State.calStore (s : State) (k : Nat) (u : Nat × Nat × Nat × Nat) (adj : Word) (c : CalSet) (temp : Int) (good : List Measured) : State :=
  if good.isEmpty then s
  else
    let accepted := (good.map (fun m => m.vals.zipIdx.map (fun (v, i) => (m.key + i, v)))).flatten
    let p := storePoint s.calDt (newPoint c temp accepted) c.points
    s.storeSet k (s.measuredSet u.1 u.2.1 u.2.2.2 adj good
      { c with points := p.1, seq := (c.seq + 1) % 2 ^ 32, lastTemp := temp }) p.2

/-- R706 to R708: the result of a run of unit `u`, its event and its report; `whole`: no step was skipped. -/
def State.calFinish (s : State) (k : Nat) (u : Nat × Nat × Nat × Nat) (refOk whole : Bool) (temp : Int) (skipped : Nat)
    (res : List Nat) (good bad : List Measured) : State :=
  let (kind, d, sl, n) := u
  let result := if !refOk then 3 else if good.isEmpty then 2
    else if bad.isEmpty && whole then 0 else 1
  let pts := (s.calSet k).points.length
  let s := s.calResult k result (if good.isEmpty then none else some (field 16 temp)) pts
  let s := if kind = 5 then s else s.raise d (calPage d) 0
  let write := s.flag 0 F.CAL_CFG_REPORT_ALL || result != 0
  let payload := calReport kind result d sl n skipped (field 16 temp) pts (qMask (good.map Measured.q))
    (qMask (bad.map Measured.q)) ((bad[0]?).map Measured.q |>.getD 0) ((bad[0]?).map Measured.word |>.getD 0)
  ((s.calReported kind res write payload).calBits k).offerCal k

/-- R706 to R708, R719: a run that is in progress ends with its measured values. -/
def State.endRun (s : State) (k : Nat) (refOk : Bool) (temp : Int) (values : List (Nat × Nat × Int)) : State :=
  let t := s.calTarget k
  let (kind, d, sl, n) := s.calUnit k
  let c := if kind = 1 then (s.calSet k).forPort n else s.calSet k
  let key := if kind = 3 then dieWork d else sliceWork d sl
  let res := ((s.work key).map Exch.res).getD []
  let slices := ((s.work key).map Exch.slices).getD []
  let skipped := s.skippedSteps kind t.adj slices
  let idle := s.watchStepSkipped kind d n
  let s := if kind ≤ 3 then (s.dropWork key).slicesOff slices false else s
  let s := s.setCalTarget k { t with running := false, runLine := false, armTemp := if refOk then none else some temp }
  let ms := (groupValues values).filter (fun m => kindHolds kind m.q && !(idle && 7 ≤ m.q)
    && !(m.q == 6 && skipped.testBit ((m.key - qKey 6 0) / 2)))
  let ms := if refOk then ms else if kind = 3 ∧ t.runLine then ms.filter (fun m => m.q == 12) else []
  let good := ms.filter (fun m => s.plausible c temp (m.q == 12 && t.runLine) m)
  let bad := ms.filter (fun m => !s.plausible c temp (m.q == 12 && t.runLine) m)
  let s := (s.calRejects d refOk bad).calStore k (kind, d, sl, n) t.adj c temp good
  (s.runEffects kind d sl n good).calFinish k (kind, d, sl, n) refOk (skipped == 0 && !idle) temp skipped res good bad

/-- CAL_RUN_END (R690, R708): a calibration run in progress ends with its reference check, in 0.001 % of deviation, and its
measured values. What it stored is taken by the slices and ports of the die that are at their boundary (R215, R218,
R316). -/
def execCalRunEnd (target : Nat) (refv refres temp : Int) (values : List (Nat × Nat × Int)) (s : State) : Out :=
  .next <| s.when (s.awake && (s.calTarget target).running) fun s =>
    let s := if 0x1000 ≤ target then s
      else (s.set 0 F.CAL_REF_REFV_DEV (field 16 refv)).set 0 F.CAL_REF_REFRES_DEV (field 16 refres)
    let s := s.endRun target (refPasses refv refres || decide (0x1000 ≤ target)) temp values
    (s.refreshDie (target % 0x1000 / 16)).coordinate

/-- CAL_MAXDEFER_EXPIRY (R710): a run that has been DUE for CAL_MAXDEFER is AGED and needs only R257; one that waits for
budget raises AGED of the coordinator (R292). -/
def execCalMaxdeferExpiry (target : Nat) (s : State) : Out :=
  .next <| s.when (s.awake && (s.calTarget target).due && !(s.calTarget target).aged) fun s =>
    let s := (s.setCalTarget target { s.calTarget target with aged := true }).raise 0 0x12 4
    let hit := fun (c : Cand) => match c.origin with
      | .cal 3 _ => dieSet c.die == target
      | .cal _ u => sliceSet c.die u == target
      | _ => false
    let s := if s.coord.cands.any (fun c => hit c && c.budgetWait && !c.aged) then s.raise 0 0x0A 1 else s
    ({ s with coord := { s.coord with
        cands := s.coord.cands.map (fun c => if hit c then { c with forced := true } else c) } }).coordinate

/-- R718, R758: a save of the dirty sets joins the background operations. -/
def State.startSave (s : State) : State := (s.set 0 F.CAL_SAVE_BUSY 1).nvQueue .calSave

/-- CAL_SAVE (R718): the dirty sets are to be written. -/
def execCalSave (s : State) : Out :=
  .next <| s.hostWrite 0 0x12 fun s =>
    if s.flag 0 F.CAL_SAVE_BUSY then s.err 0 0x12 0x0103 else s.startSave

/-- CAL_AUTOSAVE (R718): 24 h after DIRTY was set. -/
def execCalAutosave (s : State) : Out :=
  .next <| s.when (s.awake && s.flag 0 F.CAL_SAVE_DIRTY && !s.flag 0 F.CAL_SAVE_BUSY) fun s =>
    s.startSave

end Sys2Proof.Machine
end

