-- ==== Sys2Proof/Machine/Crypto.lean ====
section
/-! DEFINITION. The codes of the radio (chapters 11 and 12): CRC-32, the header check, the Isari CRC-16, AES-128 and CCM*
(R441, R440, R464, R495). -/

namespace Sys2Proof.Machine

/-- One bit of CRC-32, least significant bit first (R441). -/
def crc32Bit (c : Nat) (b : Bool) : Nat := (c / 2) ^^^ (if (c % 2 == 1) != b then 0xEDB88320 else 0)

def crc32Byte (c : Nat) (x : Byte) : Nat := (List.range 8).foldl (fun c i => crc32Bit c (x.getLsbD i)) c

/-- CRC-32 of a byte string (R441). -/
def crc32 (bs : List Byte) : Nat := 0xFFFFFFFF - bs.foldl crc32Byte 0xFFFFFFFF

/-- The four bytes of a number, least significant first. -/
def le4 (n : Nat) : List Byte := (List.range 4).map (fun i => BitVec.ofNat 8 (n / 256 ^ i))

/-- R440: the header check over bits [15:4], bit 15 first. -/
def headerCheck (h : Nat) : Nat :=
  (List.range 12).foldl (fun c i =>
    let x := (c / 8 % 2 == 1) != h.testBit (15 - i)
    ((c * 2) % 16) ^^^ (if x then 3 else 0)) 15

/-- R464: CRC-16, most significant bit first, initial value 0xFFFF. -/
def crcIsari (bs : List Byte) : Nat :=
  bs.foldl (fun c x => (List.range 8).foldl (fun c i =>
    let t := (c / 32768 % 2 == 1) != x.getLsbD (7 - i)
    ((c * 2) % 65536) ^^^ (if t then 0x1021 else 0)) c) 0xFFFF

/-- The AES S-box. -/
def aesSbox : List Nat :=
  [0x63, 0x7C, 0x77, 0x7B, 0xF2, 0x6B, 0x6F, 0xC5, 0x30, 0x01, 0x67, 0x2B, 0xFE, 0xD7, 0xAB, 0x76]
  ++ [0xCA, 0x82, 0xC9, 0x7D, 0xFA, 0x59, 0x47, 0xF0, 0xAD, 0xD4, 0xA2, 0xAF, 0x9C, 0xA4, 0x72, 0xC0]
  ++ [0xB7, 0xFD, 0x93, 0x26, 0x36, 0x3F, 0xF7, 0xCC, 0x34, 0xA5, 0xE5, 0xF1, 0x71, 0xD8, 0x31, 0x15]
  ++ [0x04, 0xC7, 0x23, 0xC3, 0x18, 0x96, 0x05, 0x9A, 0x07, 0x12, 0x80, 0xE2, 0xEB, 0x27, 0xB2, 0x75]
  ++ [0x09, 0x83, 0x2C, 0x1A, 0x1B, 0x6E, 0x5A, 0xA0, 0x52, 0x3B, 0xD6, 0xB3, 0x29, 0xE3, 0x2F, 0x84]
  ++ [0x53, 0xD1, 0x00, 0xED, 0x20, 0xFC, 0xB1, 0x5B, 0x6A, 0xCB, 0xBE, 0x39, 0x4A, 0x4C, 0x58, 0xCF]
  ++ [0xD0, 0xEF, 0xAA, 0xFB, 0x43, 0x4D, 0x33, 0x85, 0x45, 0xF9, 0x02, 0x7F, 0x50, 0x3C, 0x9F, 0xA8]
  ++ [0x51, 0xA3, 0x40, 0x8F, 0x92, 0x9D, 0x38, 0xF5, 0xBC, 0xB6, 0xDA, 0x21, 0x10, 0xFF, 0xF3, 0xD2]
  ++ [0xCD, 0x0C, 0x13, 0xEC, 0x5F, 0x97, 0x44, 0x17, 0xC4, 0xA7, 0x7E, 0x3D, 0x64, 0x5D, 0x19, 0x73]
  ++ [0x60, 0x81, 0x4F, 0xDC, 0x22, 0x2A, 0x90, 0x88, 0x46, 0xEE, 0xB8, 0x14, 0xDE, 0x5E, 0x0B, 0xDB]
  ++ [0xE0, 0x32, 0x3A, 0x0A, 0x49, 0x06, 0x24, 0x5C, 0xC2, 0xD3, 0xAC, 0x62, 0x91, 0x95, 0xE4, 0x79]
  ++ [0xE7, 0xC8, 0x37, 0x6D, 0x8D, 0xD5, 0x4E, 0xA9, 0x6C, 0x56, 0xF4, 0xEA, 0x65, 0x7A, 0xAE, 0x08]
  ++ [0xBA, 0x78, 0x25, 0x2E, 0x1C, 0xA6, 0xB4, 0xC6, 0xE8, 0xDD, 0x74, 0x1F, 0x4B, 0xBD, 0x8B, 0x8A]
  ++ [0x70, 0x3E, 0xB5, 0x66, 0x48, 0x03, 0xF6, 0x0E, 0x61, 0x35, 0x57, 0xB9, 0x86, 0xC1, 0x1D, 0x9E]
  ++ [0xE1, 0xF8, 0x98, 0x11, 0x69, 0xD9, 0x8E, 0x94, 0x9B, 0x1E, 0x87, 0xE9, 0xCE, 0x55, 0x28, 0xDF]
  ++ [0x8C, 0xA1, 0x89, 0x0D, 0xBF, 0xE6, 0x42, 0x68, 0x41, 0x99, 0x2D, 0x0F, 0xB0, 0x54, 0xBB, 0x16]

def sbox (x : Nat) : Nat := (aesSbox[x % 256]?).getD 0

/-- Multiplication by x in the field of AES. -/
def xtime (x : Nat) : Nat := ((2 * x) % 256) ^^^ (if x / 128 % 2 = 1 then 0x1B else 0)

def xorBytes (a b : List Nat) : List Nat := List.zipWith (· ^^^ ·) a b

/-- One word of the key schedule from the four words before it. -/
def nextKeyWords (rcon : Nat) (k : List Nat) : List Nat :=
  let w := fun i => (k.drop (4 * i)).take 4
  let last := w 3
  let t := [sbox ((last[1]?).getD 0) ^^^ rcon, sbox ((last[2]?).getD 0), sbox ((last[3]?).getD 0),
            sbox ((last[0]?).getD 0)]
  let a := xorBytes (w 0) t
  let b := xorBytes (w 1) a
  let c := xorBytes (w 2) b
  a ++ b ++ c ++ xorBytes last c

/-- Round keys 0 to 10. -/
def aesKeys : Nat → Nat → List Nat → List (List Nat)
  | 0, _, k => [k]
  | n + 1, rcon, k => k :: aesKeys n (xtime rcon) (nextKeyWords rcon k)

/-- SubBytes and ShiftRows; the block is kept column by column. -/
def subShift (b : List Nat) : List Nat :=
  (List.range 16).map fun i => sbox ((b[(i % 4 + 4 * ((i / 4 + i % 4) % 4))]?).getD 0)

/-- MixColumns. -/
def mixColumns (b : List Nat) : List Nat :=
  (List.range 16).map fun i =>
    let c := 4 * (i / 4)
    let v := fun k => (b[c + (i + k) % 4]?).getD 0
    xtime (v 0) ^^^ (xtime (v 1) ^^^ v 1) ^^^ v 2 ^^^ v 3

def aesRounds : List (List Nat) → List Nat → List Nat
  | [], b => b
  | [k], b => xorBytes (subShift b) k
  | k :: ks, b => aesRounds ks (xorBytes (mixColumns (subShift b)) k)

/-- AES-128 of one block of 16 bytes under a key of 16 bytes. -/
def aes128 (key block : List Nat) : List Nat :=
  match aesKeys 10 1 key with
  | k0 :: ks => aesRounds ks (xorBytes block k0)
  | [] => block

/-- Zero padding to whole blocks. -/
def padBlock (l : List Nat) : List Nat := l ++ List.replicate ((16 - l.length % 16) % 16) 0

def cbcMac (key : List Nat) : Nat → List Nat → List Nat → List Nat
  | 0, x, _ => x
  | n + 1, x, l => if l.isEmpty then x else cbcMac key n (aes128 key (xorBytes x (l.take 16))) (l.drop 16)

/-- R495: the CCM* tag over authenticated data and message, for a nonce of 13 bytes. -/
def ccmTag (key nonce a m : List Nat) (micLen : Nat) : List Nat :=
  let flags := (if a.isEmpty then 0 else 64) + (if micLen = 0 then 0 else 8 * ((micLen - 2) / 2)) + 1
  let b0 := flags :: nonce ++ [m.length / 256, m.length % 256]
  let data := b0 ++ padBlock ([a.length / 256, a.length % 256] ++ a) ++ padBlock m
  (cbcMac key (data.length / 16 + 1) (List.replicate 16 0) data).take micLen

/-- The CTR key stream of CCM*, from block `i`. -/
def ccmStream (key nonce : List Nat) : Nat → Nat → List Nat
  | 0, _ => []
  | n + 1, i => aes128 key (1 :: nonce ++ [i / 256, i % 256]) ++ ccmStream key nonce n (i + 1)

/-- Encryption and decryption of a body (the same operation). -/
def ccmCrypt (key nonce m : List Nat) : List Nat := xorBytes m (ccmStream key nonce (m.length / 16 + 1) 1)

/-- The encrypted tag. -/
def ccmMic (key nonce a m : List Nat) (micLen : Nat) : List Nat :=
  xorBytes (ccmTag key nonce a m micLen) (ccmStream key nonce 1 0)

/-- R495: MIC length of a level. -/
def micLength (level : Nat) : Nat := if level % 4 = 0 then 0 else 2 * 2 ^ (level % 4)

end Sys2Proof.Machine
end

