-- ==== Sys2Proof/Machine/Icu.lean ====
section
/-! DEFINITION. The interrupt controller (chapter 16): levels, slots, targets, claim and completion, moderation. -/

namespace Sys2Proof.Machine

/-- The level of a source where it arises (R628). -/
def State.originLevel (s : State) (src : Nat) : Bool :=
  let page := fun (d p : Nat) => decide (s.reg d p 0x00C &&& s.reg d p 0x010 ≠ 0)
  if src < 140 then
    if src ≤ 22 then page 0 src
    else if src ≤ 38 then bit (s.reg 0 0x0B 0x02C) (src - 23)
    else if src ≤ 42 then s.classNonEmpty (src - 39)
    else src == 43 && s.hamper.flowA
  else !reservedSource src && page ((src - 140) / 40 + 1) ((src - 140) % 40)

/-- The level the controller sees: at once for an anchor source, as last reported for a field die's (R631); a lost die's
sources are at level 0 (R633). -/
def State.sourceLevel (s : State) (src : Nat) : Bool :=
  if src < 140 then s.originLevel src
  else !reservedSource src && s.inService ((src - 140) / 40 + 1) && s.flag 0 (F.ICU_SRC_LEVEL src)

/-- The mapped sources with their register words: only a written register can hold a SLOT (R649). -/
def State.mapped (s : State) : List (Nat × Word) :=
  s.regs.filterMap fun e =>
    if 0x5400 ≤ e.1 ∧ e.1 < 0x5400 + 1680 ∧ bits e.2 0 9 ≠ 0 then some ((e.1 - 0x5400) / 4, e.2) else none

/-- The source that holds a slot (R635). -/
def State.slotSource (s : State) (slot : Nat) : Option (Nat × Word) := s.mapped.find? (fun e => bits e.2 0 9 == slot)

/-- R637: mapped, level 1 and not in service; the sources in `free` count as not in service (for the snapshot of R643). -/
def State.pendingWords (s : State) (free : List Nat) : List (Nat × Word) :=
  s.mapped.filter (fun e => s.sourceLevel e.1 && (!bit e.2 28 || free.contains e.1))

/-- R638: a pending source is offered to its awake targets, or to all of them when none is awake. -/
def State.offered (s : State) (t : Nat) (w : Word) : Bool :=
  let l := (List.range 4).filter (fun k => bit w (20 + k))
  let awake := l.filter (fun k => !s.flag 0 (F.ICU_T_CFG_ASLEEP k))
  if awake.isEmpty then l.contains t else awake.contains t

/-- The highest slot of a list of source words, with its source. -/
def topSlot : List (Nat × Word) → Nat × Nat
  | [] => (0, 0)
  | e :: t => let r := topSlot t
              if r.1 < bits e.2 0 9 then (bits e.2 0 9, e.1) else r

/-- The highest slot offered to a target and its source; 0 when none (R642). -/
def State.topFor (s : State) (t : Nat) (free : List Nat) : Nat × Nat :=
  topSlot ((s.pendingWords free).filter (fun e => s.offered t e.2))

/-- R640, R647, R648: the request line of a target. -/
def State.irq (s : State) (t : Nat) : Bool :=
  (s.topFor t []).1 != 0 && !(s.flag 0 (F.ICU_T_STAT_HOLD t) && !s.flag 0 (F.ICU_T_CFG_IDLE t))

/-- R640, R641: the state of an IRQ pin: while the interrupt island is stopped, that of the last evaluation. -/
def State.irqLine (s : State) (t : Nat) : Bool := if s.islandStopped then s.icu.lines.testBit t else s.irq t

/-- R641: the evaluation that the pins keep while the island is stopped. -/
def State.keepLines (s : State) : State :=
  { s with icu := { s.icu with lines := b2n (s.irq 0) + 2 * b2n (s.irq 1) + 4 * b2n (s.irq 2) + 8 * b2n (s.irq 3) } }

/-- The conditions of R188 as they stand: bit 0 READY, 1 hamper not empty, 2 to 5 the four IRQ lines, 6 FLOWA, 7 class 3 not
empty. -/
def State.attnLevels (s : State) : Nat :=
  b2n s.ready + 2 * b2n ([0, 1, 2, 3].any s.classNonEmpty)
    + 4 * b2n (s.irqLine 0) + 8 * b2n (s.irqLine 1) + 16 * b2n (s.irqLine 2) + 32 * b2n (s.irqLine 3)
    + 64 * b2n s.hamper.flowA + 128 * b2n (s.classNonEmpty 3)

/-- R188: causes whose condition rose since it was last looked at become pending when they are enabled. It is looked at
before and after every command that can end a condition, and whenever the pending causes matter. -/
def State.attnSync (s : State) : State :=
  let now := s.attnLevels
  let rose := fun (i : Nat) => now.testBit i && !s.htw.levels.testBit i
  let causes := b2n (rose 0) + 2 * b2n (rose 1) + 4 * b2n (rose 2 || rose 3 || rose 4 || rose 5) + 8 * b2n (rose 6)
    + 16 * b2n (rose 7)
  let s : State := { s with htw := { s.htw with levels := now } }
  s.set 0 F.HTW_STAT_ATTN_PEND (s.get 0 F.HTW_STAT_ATTN_PEND ||| (causes &&& bits (s.reg 0 0x07 0x028) 0 5))

/-- ICU_CLAIM (R642 to R644, R647, R648): `others` are the targets whose claims crossed in the same cycle before this one.
The value the claim returns stands in ICU_Tt_CLAIM. -/
def execIcuClaim (target : Nat) (others : List Nat) (fetch : Bool) (s : State) : Out :=
  .next <| s.when (s.awake && decide (target < 4)) fun s =>
    let s := s.attnSync
    let back := fun (s : State) (v : Nat) => s.setReg 0 0x05 (0x040 + 32 * target) (word v)
    let before := s.icu.claims
    let s := { s with icu := { s.icu with claims := Store.erase s.icu.claims target } }
    if fetch then back (s.err 0 0x05 0x0105) 0
    else
      let taken := (others.filter (fun t => decide (t < target))).filterMap (fun t => Store.find? before t)
      let free := taken.filterMap (fun k => (s.slotSource k).map Prod.fst)
      let (slot, src) := s.topFor target free
      if slot = 0 then back s 0
      else if taken.contains slot then back (s.raise 0 0x05 1) 511
      else
        let s := (s.set 0 (F.ICU_SRC_INSVC src) 1).set 0 (F.ICU_SRC_SVCT src) target
        let s := (s.set 0 (F.ICU_T_CFG_IDLE target) 0).set 0 (F.ICU_T_STAT_HOLD target)
          (b2n (s.get 0 (F.ICU_T_CFG_MODGAP target) != 0))
        (back { s with icu := { s.icu with claims := Store.insert s.icu.claims target slot } }
          (src * 65536 + slot)).attnSync

/-- R770: a source leaves service with the map that a profile load staged for it; a source whose staged slot waited for
the slot it held is mapped in the same cycle. -/
def State.takeStagedMap (s : State) (src slot : Nat) : State :=
  match Store.find? s.icu.staged src with
  | none => s
  | some w =>
    let s := (s.set 0 (F.ICU_SRC_SLOT src) 0).set 0 (F.ICU_SRC_TARGET src) (bits w 20 4)
    let s := { s with icu := { s.icu with staged := Store.erase s.icu.staged src } }
    let next := bits w 0 9
    let busy := next != 0 && s.icu.staged.any (fun e => s.get 0 (F.ICU_SRC_SLOT e.1) == next)
    let s := if busy then { s with icu := { s.icu with unmapped := Store.insert (Store.erase s.icu.unmapped src) src next } }
      else s.set 0 (F.ICU_SRC_SLOT src) next
    match s.icu.unmapped.find? (fun e => e.2 == slot) with
    | some (k, _) =>
      { s with icu := { s.icu with unmapped := Store.erase s.icu.unmapped k } }.set 0 (F.ICU_SRC_SLOT k) slot
    | none => s

/-- ICU_COMPLETE (R645): a write of a slot to ICU_Tt_CLAIM; 0 and 511 do nothing. -/
def execIcuComplete (target : Nat) (slot : Nat) (s : State) : Out :=
  .next <| s.hostWrite 0 0x05 fun s => s.when (decide (target < 4)) fun s =>
    let k := slot % 512
    if k = 0 ∨ k = 511 then s
    else
      match s.slotSource k with
      | some (src, w) =>
        if bit w 28 && bits w 26 2 == target then
          ((s.set 0 (F.ICU_SRC_INSVC src) 0).set 0 (F.ICU_SRC_SVCT src) 0).takeStagedMap src k
        else s.err 0 0x05 0x0104
      | none => s.err 0 0x05 0x0104

/-- R635, R770: another source holds a slot, or takes it at the completion that its staged map waits for (DEDUCED, log
entry 128). -/
def State.slotHeld (s : State) (source slot : Nat) : Bool :=
  s.mapped.any (fun e => e.1 != source && bits e.2 0 9 == slot)
    || s.icu.staged.any (fun e => e.1 != source && bits e.2 0 9 == slot)
    || s.icu.unmapped.any (fun e => e.1 != source && e.2 == slot)

/-- ICU_SRC_WRITE (R630, R636, R805). A write to a source that waits unmapped under R770 gives it its slot. -/
def execIcuSrcWrite (source : Nat) (value : Word) (s : State) : Out :=
  .next <| s.hostWrite 0 0x05 fun s => s.when (decide (source < 420)) fun s =>
    let s := s.attnSync
    let slot := bits value 0 9
    if reservedSource source then s.err 0 0x05 2
    else if slot = 511 then s.err 0 0x05 0x0102
    else if slot != 0 && s.slotHeld source slot then s.err 0 0x05 0x0101
    else if s.flag 0 (F.ICU_SRC_INSVC source) && s.get 0 (F.ICU_SRC_SLOT source) != slot then s.err 0 0x05 0x0103
    else
      let s := s.writeRo 0 0x05 (0x400 + 4 * source) value
      let s := { s with icu := { s.icu with unmapped := Store.erase s.icu.unmapped source } }
      let s := (s.set 0 (F.ICU_SRC_SLOT source) slot).set 0 (F.ICU_SRC_TARGET source) (bits value 20 4)
      let s := s.set 0 (F.ICU_SRC_COUNT source) (s.get 0 (F.ICU_SRC_COUNT source) - bits value 12 8)
      (if bit value 31 then s.set 0 (F.ICU_SRC_OVF source) 0 else s).attnSync

/-- ICU_TARGET_CFG_WRITE (R638, R647, R648): IDLE written 1 ends a hold. -/
def execIcuTargetCfgWrite (target : Nat) (value : Word) (s : State) : Out :=
  .next <| s.hostWrite 0 0x05 fun s => s.when (decide (target < 4)) fun s =>
    let s := s.attnSync
    let s := s.writeRo 0 0x05 (0x044 + 32 * target) value
    let s := s.setReg 0 0x05 (0x044 + 32 * target) (value &&& writableMask 0 0x05 (0x044 + 32 * target))
    (if bit value 30 then s.set 0 (F.ICU_T_STAT_HOLD target) 0 else s).attnSync

/-- ICU_MODGAP_END (R647): the hold of a target ends. While the interrupt island is stopped the lines stay as they are (R641). -/
def execIcuModgapEnd (target : Nat) (s : State) : Out :=
  .next <| s.when (s.awake && decide (target < 4)) fun s => s.set 0 (F.ICU_T_STAT_HOLD target) 0

/-- R631: the present level of a field-die source reaches the controller, and with it the events counted on the way. -/
def State.icuDeliver (s : State) (src : Nat) : State :=
  let n := Store.get s.icu.travel src 0
  let s := { s with icu := { s.icu with travel := Store.erase s.icu.travel src } }
  let s := s.set 0 (F.ICU_SRC_LEVEL src) (b2n (s.originLevel src))
  if n = 0 then s else s.icuCount src n

/-- R632: every level change of a die's sources has reached the controller. -/
def State.icuDeliverDie (s : State) (d : Nat) : State :=
  (List.range 19).foldl (fun s j =>
    let src := pageSource d j
    if Store.get s.icu.travel src 0 != 0 || s.flag 0 (F.ICU_SRC_LEVEL src) != s.originLevel src then s.icuDeliver src
    else s) s

/-- ICU_LEVEL_CHANGE (R631). -/
def execIcuLevelChange (source : Nat) (s : State) : Out :=
  .next <| s.when (s.awake && decide (140 ≤ source ∧ source < 420) && !reservedSource source
      && s.inService ((source - 140) / 40 + 1)) fun s => (s.attnSync.icuDeliver source).attnSync

/-- ICU_SLEEP_LATCH (R634): an enabled cause of a page with an asynchronous latch, while its clock is stopped. -/
def execIcuSleepLatch (source bit : Nat) (s : State) : Out :=
  let d := if source < 140 then 0 else (source - 140) / 40 + 1
  let j := if source < 140 then source else (source - 140) % 40
  .next <| s.when (decide (source < 420 ∧ bit < 32) && s.latched d j) fun s => s.raise d j bit

/-- R634: in the first cycle in which the island runs again every latched cause becomes a page event, counted once. -/
def State.presentLatches (s : State) : State :=
  let l := s.icu.latches
  l.foldl (fun s e =>
    let src := e.1 / 32
    s.present1 (if src < 140 then 0 else (src - 140) / 40 + 1) (if src < 140 then src else (src - 140) % 40) (e.1 % 32))
    { s with icu := { s.icu with latches := [] } }

end Sys2Proof.Machine
end

