-- ==== Sys2Proof/Machine/Seams.lean ====
section
/-! DEFINITION. Seams and dies (chapter 01): faults, reroute, lost dies, retraining, carrier lock and time loads. -/

namespace Sys2Proof.Machine

def State.seam (s : State) (n : Nat) : Seam := Store.get s.seams n {}

def State.setSeam (s : State) (n : Nat) (x : Seam) : State := { s with seams := Store.put s.seams n {} x }

/-- R73: STATE of a seam: 0 ABSENT, 1 UP, 2 FAULT, 3 RETRAIN. -/
def State.seamState (s : State) (n : Nat) : Nat := s.get 0 (F.SEM_SEAM_STATE n)

/-- R22: the seams that a part of N field dies has. -/
def seamsOf (n : Nat) : List Nat := 0 :: ((List.range n).filter (· != 0)) ++ [7]

/-- R22, R32: the seams of the clockwise path to a die, and those of the anticlockwise one. -/
def cwPath (d : Nat) : List Nat := List.range d

def ccwPath (n d : Nat) : List Nat := 7 :: (List.range n).filter (fun k => decide (d ≤ k))

/-- R38, R42: the paths whose seams are all in service. -/
def State.pathUp (s : State) (l : List Nat) : Bool := l.all (fun k => s.seamState k == 1)

def State.cwUp (s : State) (d : Nat) : Bool := s.pathUp (cwPath d)

def State.ccwUp (s : State) (d : Nat) : Bool := s.pathUp (ccwPath s.dies d)

/-- SEM_DIES with PRESENT as the part has it (R48). -/
def State.semDies (s : State) : Word := putBits (s.reg 0 0x02 0x020) 0 7 (2 ^ s.dies - 1)

/-- R32, SEM_DIES.REROUTED: dies reached on a path that is not a shortest one. -/
def State.reroute (s : State) : State :=
  (List.range s.dies).foldl (fun s i =>
    let d := i + 1
    let short := (decide (d ≤ s.dies + 1 - d) && s.cwUp d) || (decide (s.dies + 1 - d ≤ d) && s.ccwUp d)
    s.setBit 0 F.SEM_DIES_REROUTED i (!short && (s.cwUp d || s.ccwUp d))) s

/-- R44: the result record that the coordinator writes for an exchange of a lost die. -/
def State.lostRecord (s : State) (x : ResultId) (c reserved : Nat) (note : Note) : State :=
  s.writeRecord c
    { type := if x.kind = 3 then 2 else 1, time := s.time,
      payload := [word (8 * 268435456 + x.kind * 4194304 + x.port * 65536 + x.index), word (x.user * 65536), 0, 0, 0],
      reserved := reserved, note := note }

/-- R44, R598: the records in a lost die's outbound buffer whose header has not reached the anchor. -/
def State.lostBuffer (s : State) (d : Nat) : State :=
  let x := s.die d
  let left := if x.written = 0 then x.out else x.out.drop 1
  let s := (s.setDie d { x with out := [], sent := 0, written := 0 }).cutRecords d
  let back := left.filterMap (fun r => match r.note with
    | .departure k => some k
    | _ => none)
  let s := { s with departs := back ++ s.departs.filter (fun k => !back.contains k) }
  left.foldl (fun s r =>
    match r.result with
    | some i => s.lostRecord i r.cls r.reserved r.note
    | none => s.unreserve r.cls r.reserved) s

/-- R44, R711, R733: admitted work of a lost die. -/
def State.lostWork (s : State) (d key : Nat) (e : Exch) : State :=
  match e.origin with
  | .cal _ _ => s.calAbort key
  | .test k u => s.testAbort k d u
  | .cw => s.endCw d ((key - 4096) % 16) true
  | .probe => s.dropProbe d (key % 16) true
  | _ =>
    let m := e.member
    let s := s.releaseListeners e.listeners
    let s := s.exchFieldOff d (key % 16) e false
    let made := decide (e.phase = .records)
    let s := (s.dropWork key).unreserveAll (if made then e.res else e.resAfter)
    let s := if made then s
      else s.lostRecord { kind := m.kind, port := aerial d (key % 16), index := m.index, user := m.user } m.cls m.largest
        e.note
    s.refDone e.origin

/-- Admitted work of a die by its key. -/
def ownWork (d key : Nat) : Bool :=
  decide (key / 16 = d) || decide (4096 ≤ key ∧ key < 8192 ∧ (key - 4096) / 16 = d) || key == dieWork d

/-- The admitted work of a die. -/
def State.dieKeys (s : State) (d : Nat) : List (Nat × Exch) := s.exchs.filter (fun e => ownWork d e.1)

/-- Work of other dies that uses a slice of a die: as a steering partner, or in a run's neighbour steps. -/
def State.guestKeys (s : State) (d : Nat) : List (Nat × Exch) :=
  s.exchs.filter (fun e => !ownWork d e.1 && (List.range 10).any (fun sl => s.usesSlice d sl e))

/-- R43, R52: every energised slice of a die ramps down and all are held OFF; its field holds end. -/
def State.rampDie (s : State) (d : Nat) : State :=
  let s := (List.range 8).foldl (fun s p => if (s.fieldHold d p).isSome then s.dropHold d p else s) s
  let s := (List.range 10).foldl (fun s sl => s.fieldOff d sl true) s
  s.setDie d { s.die d with heldOff := true }

/-- Listeners on a die are lost to their exchanges. -/
def State.loseDieListeners (s : State) (d : Nat) : State :=
  (List.range 8).foldl (fun s p => s.loseListener (aerial d p)) s

/-- R40: neighbour streams of an exchange stop: their listeners are released, and the slot that they leave is incomplete. -/
def State.stopStreams (s : State) (key : Nat) (cut : List Nat) : State :=
  match if cut.isEmpty then none else s.work key with
  | some x =>
    { s with exchs := Store.insert (Store.erase s.exchs key) key { x with
        listeners := x.listeners.filter (fun n => !cut.contains n),
        inv := { x.inv with stopped := true, broken := x.inv.broken ++ cut } } }.releaseListeners cut
  | none => s

/-- R40: the streams over a faulted seam stop. -/
def State.cutSeam (s : State) (seam : Nat) : State :=
  s.exchs.foldl (fun s e =>
    if e.1 < 4096 then s.stopStreams e.1 (crossing (e.1 / 16) seam e.2.listeners) else s) s

/-- R39: while a seam is faulted at most 6 streams cross a remaining seam. The ones beyond stop like those of R40; which
stop, those of the highest ports, is the model's choice (DESIGN CHOICE, log entry 98). -/
def State.trimSeam (s : State) (seam : Nat) : State :=
  (s.exchs.foldl (fun (st : State × Nat) e =>
    let c := if e.1 < 4096 then crossing (e.1 / 16) seam e.2.listeners else []
    (st.1.stopStreams e.1 (c.drop st.2), st.2 - c.length)) (s, 6)).1

/-- R42 to R44, R806: a present die that is reachable in neither direction is lost: its own work ends as R44 says, other
dies' work on its slices with SLICE_FAULT or ABORTED, and every candidate that needs it is withdrawn. -/
def State.loseDie (s : State) (d : Nat) : State :=
  let waiting := s.coord.cands.filter (fun c => c.die == d || (s.needs c).any (fun e => e.1 == d))
  let guests := s.guestKeys d
  let s := s.attnSync
  let s := s.setBit 0 F.SEM_DIES_REACHABLE (d - 1) false
  let s := (s.raise 0 0x02 2).queueFault 0x01 d s.semDies 0
  let s := s.loseDieListeners d
  let s := (s.dieKeys d).foldl (fun s e => s.lostWork d e.1 e.2) s
  let s := guests.foldl (fun s e => s.endWork e.1 8) s
  let s := s.lostBuffer d
  let s := waiting.foldl (fun s c => s.withdraw c) s
  { s.rampDie d with icu := { s.icu with travel := s.icu.travel.filter (fun e => !decide (140 + 40 * (d - 1) ≤ e.1 ∧ e.1 < 140 + 40 * d)) } }.attnSync

/-- R38 to R40, R42: what follows the fault of a seam: the streams over it and those beyond R39 stop, dies out of reach
are lost. -/
def State.afterSeams (s : State) (seam : Nat) : State :=
  let s := (List.range 8).foldl (fun s k => s.trimSeam k) (s.cutSeam seam)
  let s := s.reroute
  (List.range s.dies).foldl (fun s i =>
    if s.inService (i + 1) && !(s.cwUp (i + 1) || s.ccwUp (i + 1)) then s.loseDie (i + 1) else s) s

/-- R26, R27, R38: a direction of a seam is marked faulted. -/
def State.seamFault (s : State) (n : Nat) (cw : Bool) : State :=
  let f := if cw then F.SEM_SEAM_FAULT_CW n else F.SEM_SEAM_FAULT_CCW n
  if s.seamState n = 0 ∨ s.flag 0 f then s
  else
    let s := ((s.set 0 f 1).set 0 (F.SEM_SEAM_STATE n) (if s.seamState n = 3 then 3 else 2)).raise 0 0x02 0
    (s.setSeam n { s.seam n with passes := 0, restoring := false }).afterSeams n

/-- SEM_SEAMn: a saturating count with the shared OVF flag. -/
def State.seamCount (s : State) (n : Nat) (f : Fld) : State :=
  let v := s.get 0 f + 1
  if 255 ≤ v then (s.set 0 f 255).set 0 (F.SEM_SEAM_OVF n) 1 else s.set 0 f v

/-- SEAM_BAD_CRC (R26): a packet with a bad CRC-8 is sent again; its fourth failure marks the direction faulted. -/
def execSeamBadCrc (seam : Nat) (cw again : Bool) (s : State) : Out :=
  .next <| s.when (decide (seam < 8) && s.seamState seam != 0) fun s =>
    let s := s.seamCount seam (F.SEM_SEAM_CRC_ERR seam)
    let x := s.seam seam
    let n := if again then (if cw then x.badCw else x.badCcw) + 1 else 1
    if 4 ≤ n then
      ((s.setSeam seam (if cw then { x with badCw := 0 } else { x with badCcw := 0 })).seamFault seam cw).coordinate
    else
      (s.setSeam seam (if cw then { x with badCw := n } else { x with badCcw := n })).seamCount seam
        (F.SEM_SEAM_RESENT seam)

/-- SEAM_WATCHDOG (R27): an unacknowledged request marks the direction faulted. -/
def execSeamWatchdog (seam : Nat) (cw : Bool) (s : State) : Out :=
  .next <| s.when (decide (seam < 8) && s.seamState seam != 0) fun s => (s.seamFault seam cw).coordinate

/-- A direction of a seam that carries words: of a seam that is UP, or FAULT in the other direction only (R28, R38). -/
def State.carries (s : State) (seam : Nat) (cw : Bool) : Bool :=
  s.seamState seam == 1 || (s.seamState seam == 2 &&
    !s.flag 0 (if cw then F.SEM_SEAM_FAULT_CW seam else F.SEM_SEAM_FAULT_CCW seam))

/-- SEAM_IDLE_WORD (R28). -/
def execSeamIdleWord (seam : Nat) (cw : Bool) (s : State) : Out :=
  .next <| s.when (decide (seam < 8) && s.carries seam cw) fun s =>
    let x := s.seam seam
    s.setSeam seam (if cw then { x with idleCw := x.idleCw + 1 } else { x with idleCcw := x.idleCcw + 1 })

/-- SEAM_RETRAIN_START (R41): a loop-back test of a faulted seam starts. -/
def execSeamRetrainStart (seam : Nat) (s : State) : Out :=
  .next <| s.when (s.awake && decide (seam < 8) && s.flag 0 F.SEM_CTRL_RETRAIN_EN && s.seamState seam == 2) fun s =>
    s.set 0 (F.SEM_SEAM_STATE seam) 3

/-- SEAM_RETRAIN_END (R41): the test ends; after three passes in a row the seam waits for the round boundary. -/
def execSeamRetrainEnd (seam : Nat) (pass : Bool) (s : State) : Out :=
  .next <| s.when (decide (seam < 8) && s.seamState seam == 3) fun s =>
    let x := s.seam seam
    let n := if pass then x.passes + 1 else 0
    (s.set 0 (F.SEM_SEAM_STATE seam) 2).setSeam seam { x with passes := n, restoring := decide (3 ≤ n) }

/-- SEAM_RESTORED (R41, R291): at the round boundary the seam returns to UP and traffic to the shortest path. -/
def execSeamRestored (seam : Nat) (s : State) : Out :=
  .next <| s.when (decide (seam < 8) && s.seamState seam == 2 && (s.seam seam).restoring && s.roundBoundary) fun s =>
    let s := ((s.set 0 (F.SEM_SEAM_FAULT_CW seam) 0).set 0 (F.SEM_SEAM_FAULT_CCW seam) 0).set 0
      (F.SEM_SEAM_STATE seam) 1
    ((s.setSeam seam {}).raise 0 0x02 1).reroute

/-- R43, R52: what an unled die ends: exchanges on its slices with SLICE_FAULT, runs and tests ABORTED, its fields. -/
def State.cutFields (s : State) (d : Nat) : State :=
  let l := s.dieKeys d ++ s.guestKeys d
  let s := s.loseDieListeners d
  let s := s.rampDie d
  l.foldl (fun s e => s.endWork e.1 8) s

/-- DIE_SEAM_SILENCE (R43): a die that hears no word on any seam input. -/
def execDieSeamSilence (die : Nat) (s : State) : Out :=
  .next <| s.when (s.fieldDie die && decide (1 ≤ s.pstate die)) fun s => (s.cutFields die).coordinate

/-- DIE_ANCHOR_SILENCE (R43): a die in RUN or DOZE that no word of the anchor has reached. -/
def execDieAnchorSilence (die : Nat) (s : State) : Out :=
  .next <| s.when (s.fieldDie die && decide (1 ≤ s.pstate die)) fun s => (s.cutFields die).coordinate

/-- ANCHOR_KEEP_ALIVE (R43): a word of the anchor reaches a die in RUN or DOZE; its slices are no longer held OFF for
silence. That they may be energised again from this word on, while the die is locked, is the model's choice (DESIGN
CHOICE, log entry 99). -/
def execAnchorKeepAlive (die : Nat) (s : State) : Out :=
  .next <| s.when (s.awake && s.inService die && decide (1 ≤ s.pstate die)) fun s =>
    let x := s.die die
    s.setDie die { x with keepAlive := x.keepAlive + 1, heldOff := x.heldOff && !s.locked die }

/-- CARRIER_UNLOCK (R52): a loss of lock while the die's logic runs. -/
def execCarrierUnlock (die : Nat) (s : State) : Out :=
  .next <| s.when (s.inService die && s.locked die && decide (1 ≤ s.pstate die)) fun s =>
    let s := (s.setBit 0 F.SEM_DIES_LOCKED (die - 1) false).raise 0 0x02 5
    (s.cutFields die).coordinate

/-- CARRIER_RELOCK (R53, R703, R705): the die is DUE, and nothing else is admitted on it until LINE_OFS is accepted. -/
def execCarrierRelock (die : Nat) (s : State) : Out :=
  .next <| s.when (s.inService die && !s.locked die && decide (1 ≤ s.pstate die)) fun s =>
    let s := (s.setBit 0 F.SEM_DIES_LOCKED (die - 1) true).raise 0 0x02 6
    let s := { s.setDie die { s.die die with heldOff := false } with
      coord := { s.coord with lineBlocked := die :: s.coord.lineBlocked.filter (· != die) } }
    (s.makeDue (dieSet die) true).coordinate

/-- TIME_LOAD (R58): a time-load sync event loads a die's copy of device time, within one tick. -/
def execTimeLoad (die : Nat) (offset : Int) (late : Bool) (s : State) : Out :=
  .next <| s.when (s.awake && s.inService die) fun s =>
    let s := s.syncLate late
    (s.setDie die { s.die die with timeLoaded := true, timeOffset := clampI (-1) 1 offset }).coordinate

/-- REJOIN (R45): the rejoin of a lost die that is reachable again starts; otherwise the write has no effect. -/
def execRejoin (die : Nat) (reachable : Bool) (s : State) : Out :=
  .next <| s.hostWrite 0 0x02 fun s => s.when (s.fieldDie die && !s.inService die && reachable) fun s =>
    s.setDie die { s.die die with rejoining := true }

end Sys2Proof.Machine
end

