-- ==== Sys2Proof/Machine/SelfTest.lean ====
section
/-! DEFINITION. Self-test and darning (chapter 19): test requests, signatures, results; swaps, the crossbar and the
darning map. -/

namespace Sys2Proof.Machine

/-- The steps of a kind's test (R724); of MEMORY one for each anchor bank of R669. -/
def testSteps (kind : Nat) : Nat :=
  if kind = 1 then 24 else if kind = 2 then 10 else if kind = 3 then 6 else if kind = 4 then 12 else if kind = 6 then 57 else 8

/-- A unit that is present (R750). -/
def State.unitPresent (s : State) (kind die unit : Nat) : Bool :=
  if kind = 1 then s.fieldDie die && decide (unit < 10)
  else if kind = 2 then s.fieldDie die
  else if kind = 3 then decide (unit < 8) && s.get 0 (F.SEM_SEAM_STATE unit) != 0
  else if kind = 4 then decide (unit < 128) && s.flag 0 (F.RFC_HOP_EN unit)
  else kind == 5

/-- R728, R729: a test is requested; SLICE and DIE tests become candidates of the coordinator. -/
def State.requestTest (s : State) (kind die unit : Nat) : State :=
  let k := testKey kind die unit
  let t := s.testUnit k
  if t.requested || t.granted || t.running then s
  else
    (s.setTest k { t with requested := true }).offerTest kind die unit

/-- The request of BST_REQ for a list of units; one that names no present unit is refused (R751). -/
def State.bstRequest (s : State) (kind die : Nat) (units : List Nat) : State :=
  s.hostWrite 0 0x13 fun s =>
    let l := units.filter (s.unitPresent kind die)
    if l.isEmpty then s.err 0 0x13 0x0101
    else (l.foldl (fun s u => s.requestTest kind die u) s).coordinate

/-- BST_REQ_SLICE (R726). A DARNED slice is no unit of a SLICE test (R729). -/
def execBstReqSlice (die mask : Nat) (s : State) : Out := .next (s.bstRequest 1 die (maskSlices mask (s.sound die)))

/-- BST_REQ_DIE (R726). -/
def execBstReqDie (die : Nat) (s : State) : Out := .next (s.bstRequest 2 die [0])

/-- BST_REQ_SEAM (R726). -/
def execBstReqSeam (mask : Nat) (s : State) : Out := .next (s.bstRequest 3 0 ((List.range 8).filter mask.testBit))

/-- BST_REQ_RADIO (R726). -/
def execBstReqRadio (entry : Nat) (s : State) : Out := .next (s.bstRequest 4 0 [entry])

/-- BST_REQ_ANCHOR (R726). -/
def execBstReqAnchor (s : State) : Out := .next (s.bstRequest 5 0 [0])

/-- R726: every unit of kinds 1 to 5, as kind, die and unit; RADIO uses the lowest-numbered enabled hop entry. -/
def State.allUnits (s : State) : List (Nat × Nat × Nat) :=
  ((List.range s.dies).map (fun i =>
    (maskSlices 1023 (s.sound (i + 1))).map (fun sl => (1, i + 1, sl)) ++ [(2, i + 1, 0)])).flatten
  ++ ((List.range 8).filter (s.unitPresent 3 0)).map (fun n => (3, 0, n))
  ++ (((List.range 128).find? (s.unitPresent 4 0)).map (fun n => (4, 0, n))).toList ++ [(5, 0, 0)]

def State.requestAll (s : State) : State := s.allUnits.foldl (fun s u => s.requestTest u.1 u.2.1 u.2.2) s

/-- BST_REQ_ALL (R726). -/
def execBstReqAll (s : State) : Out := .next (s.hostWrite 0 0x13 fun s => s.requestAll.coordinate)

/-- BST_PERIODIC (R726): every BST_CFG.PERIOD hours; 0 is none. -/
def execBstPeriodic (s : State) : Out :=
  .next (s.when (s.awake && s.get 0 F.BST_CFG_PERIOD != 0 && decide (s.power.phase = .none)) fun s =>
    s.requestAll.coordinate)

/-- R730: one fold of the signature register: the CRC-32 polynomial, most significant bit first. -/
def misr (sig w : Word) : Word := ((sig <<< 1) ^^^ (if bit sig 31 then 0x04C11DB7 else 0)) ^^^ w

/-- R730: the signature of a test's steps, their numbers from 1; a full test folds its count and the closing word. -/
def signature (kind : Nat) (classes : List Nat) : Word :=
  let sig := (classes.zipIdx).foldl (fun g (c, i) =>
    misr g (word ((i + 1) * 16777216 + kind * 65536 + c % 16 * 4096))) (0xFFFFFFFF : Word)
  if classes.length < testSteps kind then sig
  else misr (misr sig (word classes.length)) (word (0xC105E000 + kind))

/-- R731: the expected signature: that of a test whose every step lies within limits (assumption log). -/
def expectedSignature (kind : Nat) : Word := signature kind (List.replicate (testSteps kind) 5)

/-- R731, R738: the expected signature that one-time NV holds for a kind on a die; 0 when it holds none. -/
def State.expected (s : State) (kind die : Nat) : Word :=
  if s.nv.noExpect.contains (256 * kind + die) then 0 else expectedSignature kind

/-- R731: 0 PASS, 1 FAIL, 3 NO_EXPECTED. -/
def State.testVerdict (s : State) (kind die : Nat) (sig : Word) : Nat :=
  if s.nv.noExpect.contains (256 * kind + die) then 3 else if sig = expectedSignature kind then 0 else 1

/-- R740: a spare eligible for a swap. -/
def State.eligible (s : State) (d sl : Nat) : Bool :=
  (s.servedPort d sl).isNone && s.sound d sl
    && (s.pageState d (slcPage sl) == 0 || s.pageState d (slcPage sl) == 2) && (s.testUnit (testKey 1 d sl)).last == 0

/-- R740: a spare without a passed test. -/
def State.untested (s : State) (d sl : Nat) : Bool :=
  (s.servedPort d sl).isNone && s.sound d sl
    && (s.pageState d (slcPage sl) == 0 || s.pageState d (slcPage sl) == 2) && (s.testUnit (testKey 1 d sl)).last != 0

/-- R744: a swap of a port starts: it takes no new candidate and its field hold ends. -/
def State.startSwap (s : State) (d p spare : Nat) : State :=
  if s.swapping d p then s
  else
    let out := if s.flag d (F.DDRN_P_VALID p) then some (s.get d (F.DDRN_P_SLICE p)) else none
    let en := match out with
      | some sl => s.flag d (F.PG_EN (slcPage sl))
      | none => true
    let w : Swap := { die := d, port := p, spare := spare, outgoing := out, outEn := en, passed := [] }
    { s with darn := { s.darn with swaps := s.darn.swaps ++ [w] } }.endHold d p

/-- R92, R240: a faulted slice whose EN is cleared is OFF, and a TEST held until then takes effect. -/
def State.faultCleared (s : State) (d sl : Nat) : State :=
  let held := (s.slice d sl).testHeld
  let s := ((s.setPage d (slcPage sl) 0).setFstate d sl 0).setSlice d sl { s.slice d sl with testHeld := false }
  if held then s.requestTest 1 d sl else s

/-- R741: what the darning control does about a faulted slice: a swap for START_CHECK, else its page's EN is cleared and
it is tested. -/
def State.darnFault (s : State) (d sl : Nat) (startCheck : Bool) : State :=
  if s.flag 0 F.DRN_CFG_AUTO then
    match s.servedPort d sl with
    | none => s
    | some p =>
      if startCheck then s.startSwap d p 15
      else
        let s := (s.set d (F.PG_EN (slcPage sl)) 0).faultCleared d sl
        let s := { s with darn := { s.darn with
          judging := (16 * d + sl) :: s.darn.judging.filter (· != 16 * d + sl) } }
        (s.watchSyncDie d).requestTest 1 d sl
  else s

/-- Words 3 to 7 of a SWAP report, queued as a system record (R738, R741, R744, R746). -/
def State.swapReport (s : State) (result d p old new : Nat) : State :=
  s.queueSys (.report s.testClass 0xB (testReport 7 result d (aerial d p) 0 0 0 0xFF 0 old new 0) s.time)

/-- TEST_START (R729): a requested test starts: SLICE and DIE tests once admitted; SEAM at once; RADIO with the radio in
STANDBY and an empty queue; ANCHOR between two conversions. -/
def State.beginTest (s : State) (kind die unit : Nat) : State :=
  let k := testKey kind die unit
  let s := s.setTest k { s.testUnit k with requested := false, running := true }
  if kind = 1 then
    let pg := slcPage unit
    let st := s.pageState die pg
    let s := { s with testFrom := Store.insert (Store.erase s.testFrom (256 * die + pg)) (256 * die + pg) st }
    let s := s.setSlice die unit { s.slice die unit with want := none }
    (((s.setPage die pg 4).setFstate die unit 6).set die (F.SLC_FSTAT_USER unit) 4).watchSyncDie die
  else s

/-- The bits of the darning registers of a die: DARNED, and eligibility follows as a view. -/
def State.setDarned (s : State) (d sl : Nat) (v : Bool) : State := s.setBit d F.DDRN_SLICES_DARNED sl v

/-- R744: a slice becomes DARNED; what waited for it is withdrawn, a requested test with it. -/
def State.darnSlice (s : State) (d sl : Nat) : State :=
  let s := ((s.setPage d (slcPage sl) 6).setFstate d sl 8).setDarned d sl true
  let s := (s.set d (F.PG_TEST (slcPage sl)) 0).setSlice d sl { s.slice d sl with testHeld := false, cwAsked := false }
  let s := (s.set d (F.SLC_CW_START sl) 0).setTest (testKey 1 d sl) { s.testUnit (testKey 1 d sl) with requested := false }
  { s with coord := { s.coord with cands := s.coord.cands.filter (fun x => x.origin.onPort || x.die != d || x.port != sl) } }

/-- R746: the port is DARNED-out; the outgoing slice becomes DARNED. -/
def State.darnOut (s : State) (w : Swap) : State :=
  let d := w.die
  let p := w.port
  let s := { s with darn := { s.darn with swaps := s.darn.swaps.filter (fun x => !(x.die == d && x.port == p)) } }
  let s := (s.set d (F.DDRN_P_VALID p) 0).set d (F.DDRN_P_OUT p) 1
  let s := match w.outgoing with
    | some sl => s.darnSlice d sl
    | none => s
  let s := s.mapPending.raise 0 0x15 1
  (s.watchSyncDie d).swapReport 5 d p (w.outgoing.getD 15) 15

/-- R744 step 4: the incoming page takes the shadow and in-force values of the outgoing page's RWS fields, and with the
shadows its SHADOW_DIRTY. -/
def State.copyPage (s : State) (d old new : Nat) : State :=
  let s := s.set d (F.PG_SHADOW_DIRTY (slcPage new)) (s.get d (F.PG_SHADOW_DIRTY (slcPage old)))
  (RegTable.slc.filter (fun r => RegTable.maskOf (fun a => a == .rws) r.fields != 0)).foldl (fun s r =>
    let m := BitVec.ofNat 32 (RegTable.maskOf (fun a => a == .rws) r.fields)
    let v := (s.reg d (slcPage new) r.off &&& ~~~ m) ||| (s.reg d (slcPage old) r.off &&& m)
    let s := s.setReg d (slcPage new) r.off v
    match Store.find? s.shadow (hostAddr d (slcPage old) r.off) with
    | some x =>
      let a := hostAddr d (slcPage new) r.off
      { s with shadow := Store.insert (Store.erase s.shadow a) a ((v &&& ~~~ m) ||| (x &&& m)) }
    | none => { s with shadow := Store.erase s.shadow (hostAddr d (slcPage new) r.off) }) s

/-- R745: the incoming slice's calibration set is rebuilt for the port. Without an outgoing slice the header words stay
(DEDUCED, log entry 103). -/
def handOver (n : Nat) (out : Option CalSet) (new : CalSet) : CalSet :=
  let old := out.getD { adj := new.adj, watch := new.watch }
  let own := fun (p : CalPoint) (k : Nat) =>
    (interp (k == qKey 4 0) p.temp (new.held k)).map (fun v => (k, v))
  let points :=
    if old.port = n then
      old.points.map (fun p => { p with vals :=
        ((p.vals.filter (fun e => e.1 != qKey 3 0 && e.1 != qKey 4 0))
          ++ ([qKey 3 0, qKey 4 0].filterMap (own p))).foldl (fun l e => Store.insert (Store.erase l e.1) e.1 e.2) [] })
    else new.points.map (fun p => { p with vals := p.vals.filter (fun e => e.1 == qKey 3 0 || e.1 == qKey 4 0) })
  { new with port := n, adj := old.adj, watch := old.watch, points := points, seq := (new.seq + 1) % 2 ^ 32 }

/-- R744, R745: the crossbar gives the port to the spare. -/
def State.swapTo (s : State) (w : Swap) (spare : Nat) : State :=
  let d := w.die
  let p := w.port
  let n := aerial d p
  let s := { s with darn := { s.darn with swaps := s.darn.swaps.filter (fun x => !(x.die == d && x.port == p)) } }
  let s := ((s.set d (F.DDRN_P_SLICE p) spare).set d (F.DDRN_P_VALID p) 1).set d (F.DDRN_P_OUT p) 0
  let s := match w.outgoing with
    | some sl => (s.darnSlice d sl).copyPage d sl spare
    | none => s
  let s := if w.outEn then
      if s.pageState d (slcPage spare) = 0 then (s.set d (F.PG_EN (slcPage spare)) 1).setPage d (slcPage spare) 1 else s
    else (s.set d (F.PG_EN (slcPage spare)) 0).setPage d (slcPage spare) 0
  let k := sliceSet d spare
  let c := handOver n (w.outgoing.map (fun sl => s.calSet (sliceSet d sl))) (s.calSet k)
  let s := s.setCalSet k c
  let s := { s with nv := { s.nv with ops := s.nv.ops ++ [NvOp.calSet k c] } }
  let s := s.setWatch d p { s.watchOf d p with refresh := true }
  let s := { s with coord := { s.coord with cands := s.coord.cands.filter (fun x => match x.origin with
      | .cal _ u => !(x.die == d && u == spare)
      | _ => true) } }
  let s := ((s.swapReport 4 d p (w.outgoing.getD 15) spare).raise 0 0x15 0).countUp 0 F.DRN_CNT_SWAP_COUNT
    F.DRN_CNT_SWAP_OVF 1
  (s.mapPending.portBoundary d p |>.watchSyncDie d).makeDue k false

/-- R744 step 2: the outgoing slice is out of work: its field state is OFF and its page neither DRAINING nor TESTING. A
faulted page has its EN cleared first. -/
def State.clearFaulted (s : State) (w : Swap) : State :=
  match w.outgoing with
  | some sl =>
    if s.pageState w.die (slcPage sl) = 5 then
      (s.set w.die (F.PG_EN (slcPage sl)) 0).faultCleared w.die sl
    else s
  | none => s

def State.outgoingIdle (s : State) (w : Swap) : Bool :=
  (s.exch w.die w.port).isNone &&
  (match w.outgoing with
    | some sl =>
      s.fstate w.die sl == 0 && !s.sliceGranted w.die sl && s.pageState w.die (slcPage sl) != 3
        && s.pageState w.die (slcPage sl) != 4
    | none => true)

/-- R743, R740: the spare that a swap takes: the one asked for while it is eligible, else the lowest-numbered eligible one
(log entry 103). -/
def State.pickSpare (s : State) (w : Swap) : Option Nat :=
  if w.spare != 15 && s.eligible w.die w.spare then some w.spare else (List.range 10).find? (s.eligible w.die)

/-- R740: a spare of the die waits for its SLICE test or is under it. -/
def State.spareTested (s : State) (d : Nat) : Bool :=
  (List.range 10).any fun x => (s.servedPort d x).isNone && s.sound d x &&
    (let t := s.testUnit (testKey 1 d x)
     t.requested || t.granted || t.running)

/-- R238, R744: the crossbar gives the port to a spare that is OFF and free. -/
def State.takeSpare (s : State) (w : Swap) (x : Nat) : State :=
  if s.fstate w.die x = 0 && !s.sliceGranted w.die x then (s.swapTo w x).coordinate else s

/-- R740, R746: no spare is eligible: the lowest-numbered one without a passed test that has not failed in this swap is
tested, one at a time; without one the port is DARNED-out. -/
def State.testSpare (s : State) (w : Swap) : State :=
  if s.spareTested w.die then s
  else
    match (List.range 10).find? (fun x => s.untested w.die x && !w.passed.contains x) with
    | some x => (s.requestTest 1 w.die x).coordinate
    | none => (s.darnOut w).coordinate

/-- DARN_SWAP_EXECUTE (R740, R744 to R746): the crossbar changes once the outgoing slice is OFF; a spare without a passed
test is tested first; without a spare the port is DARNED-out. -/
def execDarnSwapExecute (die port : Nat) (s : State) : Out :=
  .next <| s.when s.awake fun s =>
    match s.darn.swaps.find? (fun w => w.die == die && w.port == port) with
    | none => s
    | some w =>
      let s := s.clearFaulted w
      if s.outgoingIdle w then
        match s.pickSpare w with
        | some x => s.takeSpare w x
        | none => s.testSpare w
      else s

/-- R740: the swaps of a die pass over a spare whose test failed. -/
def State.passSpare (s : State) (d sl : Nat) : State :=
  { s with darn := { s.darn with swaps := s.darn.swaps.map (fun w =>
      if w.die = d then { w with passed := sl :: w.passed.filter (· != sl) } else w) } }

/-- R737, R740, R741: what a SLICE test's result means for darning. -/
def State.darnTested (s : State) (d sl result : Nat) : State :=
  let key := 16 * d + sl
  let s := if result = 1 ∨ result = 3 then s.passSpare d sl else s
  if s.darn.judging.contains key then
    if result = 2 then s.requestTest 1 d sl
    else
      let s := { s with darn := { s.darn with judging := s.darn.judging.filter (· != key) } }
      match s.servedPort d sl with
      | none => s
      | some p =>
        if result = 1 then s.startSwap d p 15
        else if result = 0 then (((s.set d (F.DDRN_P_NETFAULT p) 1).watchSyncDie d).swapReport 6 d p sl sl).raise 0 0x15 2
        else s
  else if result = 1 && s.flag 0 F.DRN_CFG_AUTO then
    match s.servedPort d sl with
    | some p => s.startSwap d p 15
    | none => s
  else s

/-- The first step out of class 5, from 1, and its class (R738). -/
def firstBad (i : Nat) : List Nat → Option (Nat × Nat)
  | [] => none
  | c :: cs => if c = 5 then firstBad (i + 1) cs else some (i, c)

/-- R731, R737, R738: the end of a running test that was not cut short. -/
def State.endTest (s : State) (kind die unit : Nat) (classes : List Nat) (value : Int) (cw : Bool) : State :=
  let sig := signature kind classes
  let result := s.testVerdict kind die sig
  let expected := s.expected kind die
  let (first, cls) := (firstBad 1 classes).getD (0xFF, 0)
  let key := if kind = 1 then sliceWork die unit else dieWork die
  let res := if kind ≤ 2 then ((s.work key).map Exch.res).getD [] else []
  let s := if kind ≤ 2 then s.dropWork key else s
  let s := if kind = 1 then s.sliceLeavesTest die unit
    else s.pageTested kind die unit
  let s := s.testResult kind die unit result first
  let s := if result = 1 then
      (s.countUp 0 F.BST_CNT_FAIL_COUNT F.BST_CNT_FAIL_OVF 1).testEvent kind die 0 else s
  let s := s.reportTest kind res result (testReport kind result die unit classes.length sig expected first
    cls 0 0 (if first = 0xFF then 0 else word (field 32 value)))
  let s := if kind = 3 ∧ result = 1 then s.seamFault unit cw else s
  let s := if kind = 1 then s.darnTested die unit result else s
  s.startupTested (testKey kind die unit) result

/-- TEST_END (R737): a running test ends with the classes of its steps. -/
def execTestEnd (kind die unit : Nat) (classes : List Nat) (value : Int) (cw : Bool) (s : State) : Out :=
  .next <| s.when (s.awake && (s.testUnit (testKey kind die unit)).running
      && decide (classes.length = testSteps kind)) fun s =>
    (s.endTest kind die unit classes value cw).coordinate

/-- DRN_SWAP_CMD (R743, R754): a host write of OP SWAP. -/
def execDrnSwapCmd (die port slice : Nat) (s : State) : Out :=
  .next <| s.hostWrite 0 0x15 fun s =>
    if !s.fieldDie die || decide (8 ≤ port) || (slice != 15 && !(decide (slice < 10) && s.eligible die slice)) then
      s.err 0 0x15 0x0101
    else if s.swapping die port then s.err 0 0x15 0x0103
    else s.startSwap die port slice

/-- DRN_UNDARN (R747): a slice that field darning has made DARNED returns to OFF. -/
def execDrnUndarn (die slice : Nat) (s : State) : Out :=
  .next <| s.hostWrite 0 0x15 fun s =>
    if !s.fieldDie die || decide (10 ≤ slice) then s.err 0 0x15 0x0101
    else if (s.get die F.DDRN_SLICES_FACTORY).testBit slice then s.err 0 0x15 0x0102
    else if !(s.get die F.DDRN_SLICES_DARNED).testBit slice then s.err 0 0x15 0x0101
    else
      let s := ((s.setPage die (slcPage slice) 0).setFstate die slice 0).setDarned die slice false
      let s := (s.set die (F.PG_EN (slcPage slice)) 0).mapPending
      let k := testKey 1 die slice
      (s.setTest k { s.testUnit k with last := 15 }).set die ⟨0x10, 0x040 + 4 * slice, 28, 4⟩ 15

/-- The field darning map as the crossbars stand (R748). -/
def State.darnMap (s : State) : List Nat × List (Nat × Nat) :=
  let dies := List.range s.dies
  ((dies.map (fun i => ((List.range 10).filter (fun sl =>
      (s.get (i + 1) F.DDRN_SLICES_DARNED).testBit sl && !(s.get (i + 1) F.DDRN_SLICES_FACTORY).testBit sl)).map
      (fun sl => 16 * (i + 1) + sl))).flatten,
   (dies.map (fun i => ((List.range 8).filter (fun p =>
      !s.flag (i + 1) (F.DDRN_P_VALID p) || s.get (i + 1) (F.DDRN_P_SLICE p) != p)).map (fun p =>
      (16 * (i + 1) + p, if s.flag (i + 1) (F.DDRN_P_VALID p) then s.get (i + 1) (F.DDRN_P_SLICE p) else 15)))).flatten)

/-- NETFAULT_CLEAR (R742, R238): the host clears a port's NETFAULT; the slice that serves it is at its boundary. -/
def execNetfaultClear (die port : Nat) (s : State) : Out :=
  .next <| s.hostWrite die 0x11 fun s => s.when (s.inService die && decide (port < 8)) fun s =>
    let s := (s.set die (F.DDRN_P_NETFAULT port) 0).watchSyncDie die
    (match s.servingSlice die port with
      | some sl => s.restSlice die sl
      | none => s).coordinate

end Sys2Proof.Machine
end

