-- ==== Sys2Proof/Machine/FieldStates.lean ====
section
/-! DEFINITION. The field states of a slice (chapter 05, R225 to R233) with what each change does to the work that uses
the slice. -/

namespace Sys2Proof.Machine

/-- R92: a block is ready: ON, or DRAINING with QUIET when DRAIN is 1. -/
def State.pageStarted (s : State) (die page : Nat) : State :=
  if s.flag die (F.PG_DRAIN page) then s.setPage die page 3 else s.setPage die page 2

/-- R226, R287: a held field-off acts at ON; but for a shut-down under R43 or R52 it waits while the port is guarded. -/
def State.releaseOff (s : State) (d sl : Nat) : State :=
  if s.guardedSlice d sl && !(s.slice d sl).offAbort then s else s.heldOff d sl

/-- R299: the level in force of an adjacent port that is energised or admitted, as the prediction counts it. -/
def State.nearLevel (s : State) (n : Nat) : Nat :=
  match s.servingSlice (portDie n) (portIx n) with
  | some sl => s.sliceBudget (portDie n) sl
  | none => 0

/-- R299: the predicted total carrier at RXSn is not 0: some coefficient in force and the level of its source are not. -/
def State.predicted (s : State) (d p level : Nat) : Bool :=
  (s.reg d 0x0B (0x108 + 0x40 * p) != 0 && level != 0) ||
  [0, 1, 2, 3].any (fun k => s.reg d 0x0B (0x10C + 4 * k + 0x40 * p) != 0 &&
    (match s.adj (aerial d p) k with
      | some n => s.nearLevel n != 0
      | none => false))

/-- A coefficient register of a port (RCV_Pp_SELF, RCV_Pp_NBRk). -/
def State.coefficient (s : State) (d off : Nat) : Int × Int :=
  let w := s.reg d 0x0B off
  (signed 16 (bits w 16 16), signed 16 (bits w 0 16))

/-- The square root of a number below 2^64, rounded down. -/
def isqrt (x : Nat) : Nat :=
  (List.range 32).foldl (fun r i => if (r + 2 ^ (31 - i)) * (r + 2 ^ (31 - i)) ≤ x then r + 2 ^ (31 - i) else r) 0

/-- R299, R311: what a source at a level adds to the predicted carrier: |c| × √level, in 1/1024 of the coefficient's step. -/
def carrierPart (c : Int × Int) (level : Nat) : Nat := isqrt ((c.1 * c.1 + c.2 * c.2).toNat * level * 2 ^ 20)

/-- R299: the predicted total carrier at RXSn, in that unit: the port's own and those of its adjacent ports, added as
amplitudes (DESIGN CHOICE, log entry 49). -/
def State.totalCarrier (s : State) (d p level : Nat) : Nat :=
  carrierPart (s.coefficient d (0x108 + 0x40 * p)) level +
    (([0, 1, 2, 3].map (fun k => match s.adj (aerial d p) k with
      | some n => carrierPart (s.coefficient d (0x10C + 4 * k + 0x40 * p)) (s.nearLevel n)
      | none => 0)).foldl (· + ·) 0)

/-- The differential fundamental voltage at the balls at 1,000 mW, in mVpp, which the manual does not state (log entry 49). -/
def ballVoltage : Nat := Sys2Proof.Config.freeNat (2 ^ 43)

/-- R298, R299: the lowest of the settings left that brings a predicted carrier to 100 mVpp or less at the mixer, the last
one when none does: 6 dB is half the amplitude; a coefficient's step is 1/32,768 and its level is taken to 1,000 mW. -/
def lowestAtt (total ball : Nat) : List Nat → Nat
  | [] => 5
  | a :: as => if (total * ball) ^ 2 ≤ (100 * 2 ^ a * 32768 * 1024) ^ 2 * 1000 then a else lowestAtt total ball as

/-- R299, R300: the attenuation of an exchange is chosen at its start: by the predicted total carrier with ATT_AUTO. -/
def State.chooseAtt (s : State) (d p level : Nat) : State :=
  if s.flag d (F.RCV_P_CFG_ATT_AUTO p) then
    s.set d (F.RCV_P_STAT_ATT_USED p) (lowestAtt (s.totalCarrier d p level) ballVoltage [0, 1, 2, 3, 4])
  else s.set d (F.RCV_P_STAT_ATT_USED p) (s.get d (F.RCV_P_CFG_ATT p))

/-- R283: a listener is energised from the tick on which the serving port reaches ON; other slices at their own tick. -/
def State.tickCome (s : State) (d sl : Nat) : Bool :=
  match s.servedPort d sl with
  | some p =>
    !(s.get d F.INV_STAT_LISTENER).testBit p ||
      s.exchs.any (fun e => decide (e.1 < 4096) && e.2.listeners.contains (aerial d p)
        && e.2.phase != .energise && e.2.phase != .linkGap)
  | none => true

/-- SLICE_ENERGISE (R225, R227, R30): the granted user's energise tick. The die holds its slices OFF under R43 and R52, no
field is permitted before LINE_OFS has been measured again (R53), and a guarded port waits (R287). -/
def execSliceEnergise (die slice : Nat) (late : Bool) (s : State) : Out :=
  .next <| s.when (s.fieldDie die && decide (slice < 10) && (s.slice die slice).want.isSome && !(s.die die).heldOff
      && !s.coord.lineBlocked.contains die && decide (s.fstate die slice ≤ 5) && s.tickCome die slice
      && !s.guardedSlice die slice) fun s =>
    let s := s.syncLate late
    let own := match s.servedPort die slice with
      | some p => (match s.exch die p with
        | some e => if e.phase = .energise && e.origin.isExchange then some p else none
        | none => none)
      | none => none
    let s := match own with
      | some p => s.chooseAtt die p (((s.slice die slice).want.map Drive.level).getD 0)
      | none => s
    s.energise die slice

/-- R283, R225: the exchange's listeners are energised at level 0 on the tick on which the serving port reaches ON; a
guarded one waits (R287). -/
def State.listenersOn (s : State) (ns : List Nat) : State :=
  ns.foldl (fun s n =>
    match s.servingSlice (portDie n) (portIx n) with
    | some sl =>
      if s.guardedSlice (portDie n) sl || (s.die (portDie n)).heldOff then s else s.energise (portDie n) sl
    | none => s) s

/-- The work of a port whose slice has reached ON: an exchange settles, a probe measures. -/
def State.portOn (s : State) (d p : Nat) : State :=
  match s.exch d p with
  | none => s
  | some e =>
    if e.phase = .energise then
      if e.origin.isProbe then s.setExch d p { e with phase := .probing }
      else
        ((s.setExch d p { e with phase := .settle }).set d (F.RCV_P_STAT_RX_ON p) 1).listenersOn e.listeners
    else s

/-- RAMP_UP_END (R225, R226): RAMP_UP to ON; a field-off held since then starts its ramp. -/
def execRampUpEnd (die slice : Nat) (s : State) : Out :=
  .next <| s.when (s.fieldDie die && decide (slice < 10) && s.fstate die slice == 1) fun s =>
    let s := s.setFstate die slice 2
    let s := match s.servedPort die slice with
      | some p => s.portOn die p
      | none => s
    s.releaseOff die slice

/-- RAMP_DOWN_END (R225, R256, R266): RAMP_DOWN to DRAINING; the level leaves the budget and an admission pass follows. -/
def execRampDownEnd (die slice : Nat) (s : State) : Out :=
  .next <| s.when (s.fieldDie die && decide (slice < 10) && s.fstate die slice == 4) fun s =>
    ((((s.setFstate die slice 5).set die (F.SLC_FSTAT_LIVE slice) 0).phaseMove die slice).announce die slice .off).coordinate

/-- R225: the guard ends with nothing pending: OFF, with CW_END after a CW period (R242), the next probe of WATCH (R411) and a held TEST (R240). -/
def State.guardOff (s : State) (d sl : Nat) : State :=
  let x := s.slice d sl
  let s := (s.setFstate d sl 0).set d (F.SLC_FSTAT_USER sl) 0
  let s := s.setSlice d sl { s.slice d sl with cw := false, testHeld := false }
  let s := if x.cw then s.raise d (slcPage sl) 4 else s
  let s := (s.restSlice d sl).startWatchProbe d
  if x.testHeld then s.requestTest 1 d sl else s

/-- GUARD_END (R225, R227 to R229, R231): the 28 fc cycles are over: OFF, the pending restart, or FAULT after OPEN_LOAD, with
CW_END of a CW period that had ended before (R242). A guarded port starts no up ramp (R287): its restart waits. -/
def execGuardEnd (die slice : Nat) (s : State) : Out :=
  .next <| s.when (s.fieldDie die && decide (slice < 10) && s.fstate die slice == 5
      && !((s.slice die slice).restart.isSome && !(s.slice die slice).openFault && s.guardedSlice die slice)) fun s =>
    let x := s.slice die slice
    if x.openFault then
      let s := if x.cw && (s.work (sliceWork die slice)).isNone then s.raise die (slcPage slice) 4 else s
      (((s.faultSlice die slice 0x0111).startWatchProbe die).darnFault die slice false).coordinate
    else
      match x.restart with
      | some r =>
        let s := (s.setSlice die slice { x with restart := none }).startRamp die slice r
        let s := s.raise die (slcPage slice) 3
        if x.cw then s.raise die (slcPage slice) 4 else s
      | none => (s.guardOff die slice).coordinate

/-- OVERCURRENT (R230, R233, R741): the driver is switched off without a ramp and the slice enters FAULT. -/
def execOvercurrent (die slice : Nat) (s : State) : Out :=
  .next <| s.when (s.fieldDie die && decide (slice < 10) && energisedState (s.fstate die slice)) fun s =>
    let s := (s.set die (F.SLC_FAULT_OVERCURRENT slice) 1).set die (F.SLC_FSTAT_LIVE slice) 0
    (((s.faultSlice die slice 0x0110).startWatchProbe die).darnFault die slice false).coordinate

/-- OPEN_LOAD (R231): the slice ramps down, completes the guard and then enters FAULT. -/
def execOpenLoad (die slice : Nat) (s : State) : Out :=
  .next <| s.when (s.fieldDie die && decide (slice < 10) && energisedState (s.fstate die slice)
      && decide (20 ≤ s.level die slice) && !(s.slice die slice).openFault) fun s =>
    let s := (s.set die (F.SLC_FAULT_OPEN_LOAD slice) 1).fieldOff die slice false
    s.setSlice die slice { s.slice die slice with openFault := true }

/-- SLICE_START_CHECK (R232, R741): the check of a starting slice ends; the page goes to ON (or drains), or to FAULT. -/
def execSliceStartCheck (die slice : Nat) (pass : Bool) (s : State) : Out :=
  .next <| s.when (s.fieldDie die && decide (slice < 10) && s.pageState die (slcPage slice) == 1) fun s =>
    if pass then (s.pageStarted die (slcPage slice)).coordinate
    else
      let s := s.set die (F.SLC_FAULT_START_CHECK slice) 1
      ((s.faultSlice die slice 0x0112).darnFault die slice true).coordinate

end Sys2Proof.Machine
end

