-- ==== Sys2Proof/Machine/Wake.lean ====
section
/-! DEFINITION. Wake sources (chapter 17, R660 to R663): a wake of the sleeping device, or the end of a sleep entry. -/

namespace Sys2Proof.Machine

/-- R673: pad groups are released. -/
def State.releasePads (s : State) (groups : Nat) : State :=
  s.set 0 F.PWR_STAT_PADHELD (s.get 0 F.PWR_STAT_PADHELD &&& (7 - groups % 8))

/-- The phase of a sleep entry as PWR_STAT shows it. -/
def State.setPhase (s : State) (ph : EntryPhase) : State :=
  let s := { s with power := { s.power with phase := ph } }
  s.set 0 F.PWR_STAT_PHASE (match ph with
    | .none => 0
    | .drain => 1
    | .prepare => 2)

/-- R663: the recorded source. -/
def State.recordWake (s : State) (aborted : Bool) (left src detail : Nat) : State :=
  let s := (s.set 0 F.PWR_WAKE_SRC_ENTRY_ABORTED (b2n aborted)).set 0 F.PWR_WAKE_SRC_FROM left
  let s := (s.set 0 F.PWR_WAKE_SRC_SOURCE src).set 0 F.PWR_WAKE_SRC_DETAIL detail
  (s.setReg 0 0x03 0x038 (loWord s.time)).setReg 0 0x03 0x03C (hiWord s.time)

/-- R660, R663: a wake source fires: it abandons an entry, or starts the wake; of several in one 32 kHz period the
lowest value is recorded. In ACTIVE without an entry it does nothing here. -/
def State.wakeBy (s : State) (src detail : Nat) : State :=
  if s.device = .active then
    if s.power.phase = .none then s
    else
      let s := ((s.setPhase .none).releasePads 7).recordWake true 0 src detail
      ((s.raise 0 0x03 1).countUp 0 F.PWR_CNT_ABORT_COUNT F.PWR_CNT_ABORT_OVF 1).coordinate
  else if s.device = .deepSleep ∨ s.device = .watch then
    let left := if s.device = .watch then 2 else 1
    let w := s.power
    if !w.waking then
      { s with power := { w with waking := true, frontReady := false, anchorReady := false, wakeSrc := src, wakeDetail := detail,
                                 wakeFrom := left, wakeTime := s.time, failed := [], lostWatch := 0 } }.recordWake false left src detail
    else if w.wakeTime = s.time ∧ src < w.wakeSrc then
      { s with power := { w with wakeSrc := src, wakeDetail := detail } }.recordWake false left src detail
    else s
  else s

/-- WAKE_PIN_ASSERT (R661, R662): the pin has held the level `high` for `periods` periods of the 32 kHz crystal. -/
def execWakePinAssert (high : Bool) (periods : Nat) (s : State) : Out :=
  .next <| s.when (s.flag 0 F.PWR_WAKE_EN_WAKEPIN && high == s.flag 0 F.PWR_CFG_WAKE_POL && decide (2 ≤ periods)) fun s =>
    s.wakeBy 1 0

end Sys2Proof.Machine
end

