-- ==== Sys2Proof/Machine/Watch.lean ====
section
/-! DEFINITION. Card watch (chapter 10): probes, baselines and trackers, detection, release, absorption. -/

namespace Sys2Proof.Machine

/-- R59, R431: the time of a WATCH record: the die's copy in ACTIVE; in WATCH device time, at the resolution of R61. -/
def State.watchTime (s : State) (d : Nat) : Nat := if s.sequenced d then s.time else s.dieTime d

/-- A quotient whose rounding the manual leaves open: exact, or one of the two neighbours. -/
def State.freeDiv (s : State) (a b : Int) : State × Int :=
  if a % b = 0 then (s, a / b)
  else
    let (s, v) := s.fresh
    (s, a / b + (v % 2 : Nat))

/-- The candidate of the port's previous probe, while it still waits. -/
def State.waitingProbe (s : State) (d p : Nat) : Option Cand :=
  s.coord.cands.find? (fun c => c.origin.isProbe && c.die == d && c.port == p)

/-- PROBE_DUE (R409 to R411): the port's probe falls due: a candidate in ACTIVE, the sequencer's work in WATCH. -/
def execProbeDue (die port : Nat) (s : State) : Out :=
  .next <| s.when (s.fieldDie die && decide (port < 8) && s.watchState die port != 0 && s.watchState die port != 5
      && s.pageOn die 0x0E && decide (s.power.phase = .none)) fun s =>
    match s.servingSlice die port with
    | none => s
    | some sl =>
      let level := s.levelInForce die sl (s.get die (F.CWT_P_PROBE_LEVEL port))
      if s.device = .active ∧ !s.sequenced die then
        let s := match s.waitingProbe die port with
          | some c => (s.dropCand c.order).skipProbe die
          | none => s
        if level < 20 then s.skipProbe die
        else
          let c := s.get die (F.CWT_P_CFG_CLASS port)
          (s.addCand (mkCand .probe die port level ([0, 1, 2, 3].map (fun k => if k = c then 7 else 0)) 7)).coordinate
      else if s.sequenced die then
        if level < 20 then s.skipProbe die
        else
          let c := mkCand .probe die port level [0, 0, 0, 0] 7
          if (s.exch die port).isSome then s else (s.addWork (portKey die port) c .next []).startWatchProbe die
      else s

/-- R417: what a new baseline does at the port's next probe; a set without one makes the port learn (R418). -/
def State.takeBaseline (s : State) (d p : Nat) : State :=
  let w := s.watchOf d p
  if w.refresh then
    let s := s.setWatch d p { w with refresh := false, trkA := 0, trkP := 0 }
    if (s.portBase d p).isNone && s.watchState d p != 1 then (s.enterLearn d p).err d 0x0E 0x0102 else s
  else s

/-- The calibrated baseline, 0 where the set holds none (the tracker then carries all of it, R418). -/
def State.calBase (s : State) (d p : Nat) : Int × Int := (s.portBase d p).getD (0, 0)

/-- R415: the baseline in force, shown in CWT_Pp_BASE. -/
def State.takeBase (s : State) (d p : Nat) : State × Int × Int :=
  let s := if s.device = .active then s.set d F.CWT_TEMP_TEMP (s.get d F.FDC_STAT_TEMP) else s
  let w := s.watchOf d p
  let (a, q) := s.calBase d p
  let (s, ta) := s.freeDiv w.trkA 65536
  let (s, tp) := s.freeDiv w.trkP 65536
  let s := (s.set d (F.CWT_P_BASE_AMPL p) (field 16 (a + ta))).set d (F.CWT_P_BASE_DETUNE p) (field 16 (q + tp))
  (s, a + ta, q + tp)

/-- R420: the first test that holds for the sums over `n` probes. -/
def watchClass (n : Nat) (sumA sumP thrA thrP : Int) : Nat :=
  if n * thrP ≤ sumP then 1
  else if sumP ≤ -(n * thrP) ∧ sumA ≤ -(n * thrA) then 2
  else if sumA ≤ -(n * thrA) then 3
  else 4

/-- R431: words 3 to 6 of a WATCH record; the probes since the last one start anew. -/
def State.watchRecord (s : State) (d p event : Nat) (woke : Bool) (base : Int × Int) (n : Nat) : State × List Word :=
  let w := s.watchOf d p
  let l := w.deltas.take n
  let (s, a) := s.freeDiv (l.foldl (fun v x => v + x.1) 0) (max 1 n : Nat)
  let (s, q) := s.freeDiv (l.foldl (fun v x => v + x.2.1) 0) (max 1 n : Nat)
  let s := s.setWatch d p { w with probes := 0 }
  (s, [word (event * 268435456 + s.get d (F.CWT_P_STAT_LCLASS p) * 16777216 + b2n woke * 8388608 + aerial d p * 65536
          + (s.servingSlice d p).getD 0 * 256 + s.get d F.CWT_TEMP_TEMP),
       word (field 16 a * 65536 + field 16 q), word (field 16 base.1 * 65536 + field 16 base.2),
       word (w.probes * 65536)])

/-- R416: the tracker of one quantity after a probe that does not exceed. -/
def State.track (s : State) (d p : Nat) (trk calib meas : Int) : State × Int :=
  let period : Nat := s.get d (F.CWT_P_CFG_PERIOD p)
  let tau : Nat := max 1 (s.get d (F.CWT_P_TRACK_TAU p))
  let (s, v) := s.freeDiv ((meas * 65536 - (calib * 65536 + trk)) * period) (tau * 60000 : Nat)
  (s, trk + v)

/-- R415: CWT_Pp_BASE follows the baseline in force. -/
def State.showBase (s : State) (d p : Nat) : State := (s.takeBase d p).1

/-- R418: a probe in LEARN; the eighth seeds the tracker. -/
def State.learnProbe (s : State) (d p : Nat) (ampl detune : Int) : State :=
  let w := s.watchOf d p
  let (a, q) := s.calBase d p
  let sa := w.sumA + (ampl - a)
  let sp := w.sumP + (detune - q)
  if w.learned + 1 < 8 then s.setWatch d p { w with sumA := sa, sumP := sp, learned := w.learned + 1 }
  else
    let s := s.setWatch d p { w with trkA := sa * 8192, trkP := sp * 8192, sumA := 0, sumP := 0, learned := 0, relearn := false }
    (((s.showBase d p).setWatchState d p 2).set d (F.CWT_P_STAT_RUN p) 0).raise d 0x0E 3

/-- R420, R421, R426: the D-th consecutive exceedance. Answers the record's words when the detection is reported. On a port
with SLEEP it also ends a sleep entry (R660, R661). -/
def State.detect (s : State) (d p n : Nat) (base : Int × Int) : State × Option (List Word) :=
  let w := s.watchOf d p
  let l := w.deltas.take n
  let c := watchClass n (l.foldl (fun v x => v + x.1) 0) (l.foldl (fun v x => v + x.2.1) 0)
    (s.get d (F.CWT_P_THR_THR_A p)) (s.get d (F.CWT_P_THR_THR_P p))
  let s := ((s.setWatchState d p 4).set d (F.CWT_P_STAT_RUN p) 0).set d (F.CWT_P_STAT_LCLASS p) c
  if (s.get d (F.CWT_P_CFG_MASK p)).testBit (c - 1) then
    let s := (s.setWatch d p { s.watchOf d p with reported := true }).raise d 0x0E 0
    let woke := decide (s.device = .watch) && !s.power.waking
    let s := if s.device = .watch || s.flag d (F.CWT_P_CFG_SLEEP p) then s.wakeBy 4 (aerial d p) else s
    let (s, r) := s.watchRecord d p 1 woke base n
    (s, some r)
  else
    ((s.setWatch d p { s.watchOf d p with reported := false }).countUp d F.CWT_CNT_MASKED_COUNT F.CWT_CNT_MASKED_OVF 1, none)

/-- R420, R423: a probe joins the latest ones, with its differences from the baseline in force. Answers that baseline. -/
def State.keepProbe (s : State) (d p : Nat) (ampl detune : Int) : State × Int × Int :=
  let base := s.takeBase d p
  let w := base.1.watchOf d p
  (base.1.setWatch d p { w with
    deltas := ((ampl - base.2.1, detune - base.2.2, ampl, detune) :: w.deltas).take 8 }, base.2)

/-- R416, R419 to R422, R424: a probe evaluated in ARMED, COUNTING or DETECTED. -/
def State.evalProbe (s : State) (d p : Nat) (ampl detune : Int) : State × Option (List Word) :=
  let base := s.keepProbe d p ampl detune
  let s := base.1
  let n := s.get d (F.CWT_P_CFG_DEB p) + 1
  let da := ampl - base.2.1
  let dp := detune - base.2.2
  let exceeds := decide ((s.get d (F.CWT_P_THR_THR_A p) : Int) ≤ da.natAbs ∨ (s.get d (F.CWT_P_THR_THR_P p) : Int) ≤ dp.natAbs)
  let run := s.get d (F.CWT_P_STAT_RUN p)
  if s.watchState d p = 4 then
    if exceeds then (s.set d (F.CWT_P_STAT_RUN p) 0, none)
    else if run + 1 < n then (s.set d (F.CWT_P_STAT_RUN p) (run + 1), none)
    else
      let s := (s.setWatchState d p 2).set d (F.CWT_P_STAT_RUN p) 0
      if (s.watchOf d p).reported then
        let x := (s.raise d 0x0E 1).watchRecord d p 2 false base.2 n
        (x.1.setWatch d p { x.1.watchOf d p with reported := false }, some x.2)
      else (s, none)
  else if exceeds then
    if run + 1 < n then ((s.setWatchState d p 3).set d (F.CWT_P_STAT_RUN p) (run + 1), none)
    else s.detect d p n base.2
  else if s.watchState d p = 2 then
    let calib := s.calBase d p
    let w := s.watchOf d p
    let x := s.track d p w.trkA calib.1 ampl
    let y := x.1.track d p w.trkP calib.2 detune
    ((y.1.setWatch d p { w with trkA := x.2, trkP := y.2 }).showBase d p, none)
  else ((s.setWatchState d p 2).set d (F.CWT_P_STAT_RUN p) 0, none)

/-- R425: a probe is not evaluated while the port's record is not yet written. -/
def State.judgeProbe (s : State) (d p : Nat) (ampl detune : Int) : State × Option (List Word) :=
  if (s.watchOf d p).pendingRec.isSome then ((s.keepProbe d p ampl detune).1, none)
  else
  let s := s.takeBaseline d p
  if s.watchState d p = 1 then (s.learnProbe d p ampl detune, none)
  else if s.watchState d p = 0 ∨ s.watchState d p = 5 then (s, none)
  else s.evalProbe d p ampl detune

/-- PROBE_END (R408, R419 to R425, R431): a probe's measurement ends, is placed in CWT_Pp_LAST and judged; the field
goes off, and a record takes the probe's reservation (R410) or is held (R430). -/
def execProbeEnd (die port ampl : Nat) (detune : Int) (s : State) : Out :=
  .next <|
    match s.exch die port with
    | some e =>
      if e.origin.isProbe ∧ e.phase = .probing ∧ s.fieldOn die port then
        let s := (s.set die (F.CWT_P_LAST_AMPL port) ampl).set die (F.CWT_P_LAST_DETUNE port) (field 16 detune)
        let s := if s.device = .active then s.set die F.CWT_TEMP_TEMP (s.get die F.FDC_STAT_TEMP) else s
        let w := s.watchOf die port
        let s := s.setWatch die port { w with probed := true, probes := min 65535 (w.probes + 1) }
        let (s, rec) := s.judgeProbe die port (ampl % 65536) detune
        let s := s.dropExch die port
        let s := match rec with
          | none => s.unreserveAll e.res
          | some r =>
            if e.res.any (· != 0) then s.sendWatch die port (e.res.findIdx (· != 0)) (s.watchTime die) r
            else s.setWatch die port { s.watchOf die port with pendingRec := some (s.watchTime die, r) }
        let l := s.exchSlices die port e
        ((s.exchFieldOff die port e false).restSlices l).coordinate
      else s
    | none => s

/-- WATCH_ABSORB (R423): a port has stayed ABSORB minutes in DETECTED: the baseline becomes the mean of its last D
probes. -/
def execWatchAbsorb (die port : Nat) (s : State) : Out :=
  .next <| s.when (s.fieldDie die && decide (port < 8) && s.watchState die port == 4
      && s.get die (F.CWT_P_TRACK_ABSORB port) != 0 && (s.watchOf die port).pendingRec.isNone) fun s =>
    let n := s.get die (F.CWT_P_CFG_DEB port) + 1
    let base := s.takeBase die port
    let s := base.1
    let w := s.watchOf die port
    let l := w.deltas.take n
    let calib := s.calBase die port
    let x := s.freeDiv (l.foldl (fun v x => v + x.2.2.1) 0 * 65536) (n : Nat)
    let y := x.1.freeDiv (l.foldl (fun v x => v + x.2.2.2) 0 * 65536) (n : Nat)
    let s := (y.1.setWatchState die port 2).set die (F.CWT_P_STAT_RUN port) 0
    let s := (s.setWatch die port
      { w with trkA := x.2 - calib.1 * 65536, trkP := y.2 - calib.2 * 65536, reported := false }).showBase die port
    if w.reported then
      let z := (s.raise die 0x0E 2).watchRecord die port 3 false base.2 n
      (z.1.setWatch die port { z.1.watchOf die port with pendingRec := some (z.1.watchTime die, z.2) }).flushWatch
    else s

/-- WATCH_TEMP_SAMPLE (R415): the watch domain samples the die's temperature in WATCH, in °C. -/
def execWatchTempSample (die : Nat) (temp : Int) (s : State) : Out :=
  .next <| s.when (s.fieldDie die && decide (s.device = .watch)) fun s => s.set die F.CWT_TEMP_TEMP (field 8 temp)

end Sys2Proof.Machine
end

