-- ==== Sys2Proof/Machine/Radio.lean ====
section
/-! DEFINITION. Radio control (chapter 12): the command queue, the states and their transitions, hop calibration, the
checks, charge and record of a transmission, coexistence, duty accounting and the key slots. -/

namespace Sys2Proof.Machine

/-- RFC_STAT.RSTATE (R473): 0 SLEEP, 1 STANDBY, 2 CAL, 3 SYNTH_ON, 4 RX, 5 TX. -/
def State.rstate (s : State) : Nat := s.get 0 F.RFC_STAT_RSTATE

def State.chan (s : State) : Nat := s.get 0 F.RFC_STAT_CHAN

/-- RFX_STAT.RXSTATE (R447). -/
def State.rxState (s : State) : Nat := s.get 0 F.RFX_STAT_RXSTATE

def State.setRx (s : State) (st : Nat) : State := s.set 0 F.RFX_STAT_RXSTATE st

/-- A reception is in HEADER or PAYLOAD. -/
def State.receiving (s : State) : Bool := decide (s.rxState = 5 ∨ s.rxState = 6)

def State.hopEn (s : State) (n : Nat) : Bool := s.flag 0 (F.RFC_HOP_EN n)

def State.hopValid (s : State) (n : Nat) : Bool := s.flag 0 (F.RFC_HOP_VALID n)

/-- R474: a command that is refused with CMD_INVALID. -/
def State.radioInvalid (s : State) (c : RadioCmd) : Bool :=
  decide (c.code = 0 ∨ 8 < c.code) || (c.code == 5 && decide (2 < c.after))
    || ((c.code == 3 || c.code == 4 || c.code == 5 || c.code == 6) && !s.hopEn c.channel)

/-- R474: a command arrives at the queue of 8; a refused command leaves it unchanged. -/
def State.queueRadio (s : State) (c : RadioCmd) : State :=
  if 8 ≤ s.radio.queue.length then s.err 0 0x10 0x0101
  else if s.radioInvalid c then s.err 0 0x10 0x0102
  else { s with radio := { s.radio with queue := s.radio.queue ++ [c] } }

/-- A host command: a write of RFC_CMD in ACTIVE. -/
def State.radioCmd (s : State) (code after : Nat) (pri : Bool) (template channel ticket : Nat) : State :=
  s.hostWrite 0 0x10 fun s =>
    s.queueRadio { code := code, after := after, pri := pri, template := template, channel := channel,
                   ticket := ticket, list := none }

/-- RADIO_CMD_SLEEP (R474). -/
def execRadioCmdSleep (s : State) : Out := .next (s.radioCmd 1 0 false 0 0 noTicket)

/-- RADIO_CMD_STANDBY (R474). -/
def execRadioCmdStandby (s : State) : Out := .next (s.radioCmd 2 0 false 0 0 noTicket)

/-- RADIO_CMD_SYNTH (R474). -/
def execRadioCmdSynth (channel : Nat) (s : State) : Out := .next (s.radioCmd 3 0 false 0 channel noTicket)

/-- RADIO_CMD_RX (R474). -/
def execRadioCmdRx (channel : Nat) (s : State) : Out := .next (s.radioCmd 4 0 false 0 channel noTicket)

/-- RADIO_CMD_TX (R474). -/
def execRadioCmdTx (after : Nat) (pri : Bool) (template channel ticket : Nat) (s : State) : Out :=
  .next (s.radioCmd 5 after pri template channel ticket)

/-- RADIO_CMD_CAL (R474). -/
def execRadioCmdCal (channel : Nat) (s : State) : Out := .next (s.radioCmd 6 0 false 0 channel noTicket)

/-- RADIO_CMD_CAL_ALL (R474). -/
def execRadioCmdCalAll (s : State) : Out := .next (s.radioCmd 7 0 false 0 0 noTicket)

/-- RADIO_CMD_FLUSH (R474). -/
def execRadioCmdFlush (s : State) : Out := .next (s.radioCmd 8 0 false 0 0 noTicket)

/-- R489: CXREQ is released when the radio is in neither RX nor TX and is not on its way to one of them. -/
def State.cxRelease (s : State) : State :=
  let busy := s.rstate == 4 || s.rstate == 5
    || (s.radio.calLeft.isEmpty && (match s.radio.goal with
        | some (g, _) => decide (4 ≤ g)
        | none => false))
  if busy then s else s.set 0 F.RFC_STAT_CXREQ 0

/-- R489: CXREQ and CXPRI at the start of an RX or TX command. -/
def State.cxAssert (s : State) (pri : Bool) : State :=
  { s with radio := { s.radio with cxpri := pri } }.set 0 F.RFC_STAT_CXREQ 1

/-- The target state is reached: SLEEP and STANDBY anywhere, the others on their hop entry with a stored calibration
(R479). -/
def State.atGoal (s : State) (g : Nat × Nat) : Bool :=
  s.rstate == g.1 && (decide (g.1 ≤ 1) || (s.chan == g.2 && s.hopValid g.2))

/-- The radio is to go to a state on a hop entry. -/
def State.headFor (s : State) (g : Nat × Nat) : State :=
  { s with radio := { s.radio with goal := if s.atGoal g then none else some g } }.cxRelease

/-- The command at the head of the queue ends (R475). -/
def State.popRadio (s : State) : State :=
  { s with radio := { s.radio with queue := s.radio.queue.tail, running := false, creditSeen := false } }

/-- R477: a withdrawn TX command writes no record and is counted; a poll list that waits for it gets none. -/
def State.withdrawTx (s : State) (c : RadioCmd) : State :=
  let s := s.countUp 0 F.RFC_CNT_FLUSHED_COUNT F.RFC_CNT_FLUSHED_OVF 1
  match c.list with
  | some l => { s with recDone := Store.insert (Store.erase s.recDone (32 + l)) (32 + l) [] }
  | none => s

/-- R474: FLUSH withdraws the queued TX commands. -/
def State.flushTx (s : State) : State :=
  let out := s.radio.queue.filter (fun c => c.code == 5)
  out.foldl State.withdrawTx { s with radio := { s.radio with queue := s.radio.queue.filter (fun c => c.code != 5) } }

/-- R477: entry to a sleep state withdraws every queued command but a running one. -/
def State.withdrawQueue (s : State) : State :=
  let (keep, out) := if s.radio.running then (s.radio.queue.take 1, s.radio.queue.drop 1) else ([], s.radio.queue)
  (out.filter (fun c => c.code == 5)).foldl State.withdrawTx { s with radio := { s.radio with queue := keep } }

/-- The 8 bytes of an identity, most significant first (R495). -/
def identBytes (n : Nat) : List Byte := (List.range 8).map (fun i => BitVec.ofNat 8 (n / 256 ^ (7 - i)))

def byteNats (l : List Byte) : List Nat := l.map BitVec.toNat

def natBytes (l : List Nat) : List Byte := l.map (BitVec.ofNat 8)

/-- Own identity (SEC_OWN_ID). -/
def State.ownId (s : State) : Nat := s.get 0 F.SEC_OWN_ID_HI_ID * 4294967296 + s.get 0 F.SEC_OWN_ID_LO_ID

/-- The 16 bytes of a key, most significant word SEC_KEY3, most significant byte first. -/
def keyBytes (k : List Word) : List Nat := (k.reverse.map (fun w => [3, 2, 1, 0].map (fun i => (byteOf w i).toNat))).flatten

/-- R495: the nonce: identity, counter, control byte. -/
def secNonce (ident ctr ctl : Nat) : List Nat :=
  byteNats (identBytes ident) ++ [ctr / 16777216 % 256, ctr / 65536 % 256, ctr / 256 % 256, ctr % 256, ctl]

/-- R495: identity, control byte and counter of a secured frame. -/
def secHeader (ident ctr ctl : Nat) : List Byte := identBytes ident ++ [BitVec.ofNat 8 ctl] ++ le4 ctr

/-- The body as sent and its MIC, with the whole control byte authenticated: encrypted at levels 4 to 7; at levels 1 to 3 it is authenticated in clear. -/
def secSeal (key : List Word) (ident ctr ctl : Nat) (body : List Byte) : List Byte :=
  let k := keyBytes key
  let level := ctl % 8
  let nonce := secNonce ident ctr ctl
  let hdr := byteNats (secHeader ident ctr ctl)
  let b := byteNats body
  if 4 ≤ level then natBytes (ccmCrypt k nonce b ++ ccmMic k nonce hdr b (micLength level))
  else body ++ natBytes (ccmMic k nonce (hdr ++ b) [] (micLength level))

/-- R498: verification and decryption of a received body with its MIC under the control byte as received. -/
def secOpen (key : List Word) (ident ctr ctl : Nat) (rest : List Byte) : Option (List Byte) :=
  let level := ctl % 8
  let n := micLength level
  if rest.length < n then none
  else
    let k := keyBytes key
    let nonce := secNonce ident ctr ctl
    let c := rest.take (rest.length - n)
    let plain := if 4 ≤ level then natBytes (ccmCrypt k nonce (byteNats c)) else c
    if (secSeal key ident ctr ctl plain).drop plain.length = rest.drop (rest.length - n) then some plain else none

/-- Byte `i` of TX template `t` (R443). -/
def State.templateByte (s : State) (t i : Nat) : Byte := Memory.readByte s.mem (hostAddr 0 0xB8 (256 * t + i))

/-- R492, R481: the lowest-numbered enabled sub-band that holds the frequency of a hop entry. -/
def State.subBand (s : State) (n : Nat) : Option Nat :=
  let f := s.get 0 (F.RFC_HOP_FREQ n)
  (List.range 8).find? fun b =>
    match s.lockBlock[2 * b]?, s.lockBlock[2 * b + 1]? with
    | some r, some l => bit l 31 && decide (25 * bits r 16 16 ≤ f ∧ f ≤ 25 * bits r 0 16)
    | _, _ => false

/-- PMAX and DUTY of a sub-band. -/
def State.pmax (s : State) (b : Nat) : Nat := ((s.lockBlock[2 * b + 1]?).map (fun w => bits w 16 6)).getD 0

def State.dutyLimit (s : State) (b : Nat) : Nat := ((s.lockBlock[2 * b + 1]?).map (fun w => bits w 0 10)).getD 0

/-- R493: the charge of a sub-band over the current second and the 3,599 before it, in µs. -/
def State.dutyUsed (s : State) (b : Nat) : Nat :=
  s.radio.charges.foldl (fun n c => if c.1 = b ∧ s.radio.second < c.2.1 + 3600 then n + c.2.2 else n) 0

/-- R442, R493: the air time of a frame in µs. -/
def airTime (isari : Bool) (flags len : Nat) : Nat :=
  let sf := 4 * 2 ^ (flags % 8)
  if isari then (48 + 8 * len) * 100
  else if flags / 16 % 2 = 1 then 2560 + (8 * len + 6) * sf * 5
  else 2560 + 20 * len * sf

/-- AIR in units of 10 µs; the rounding of a charge that is nearer to the unit below is open. -/
def State.airUnits (s : State) (us : Nat) : State × Nat :=
  if us % 10 = 0 then (s, us / 10)
  else if 5 ≤ us % 10 then (s, us / 10 + 1)
  else
    let (s, v) := s.fresh
    (s, us / 10 + v % 2)

/-- The events, counters and errors of a transmit status (R501, R467, R444). -/
def State.txStatusEffects (s : State) (status : Nat) : State :=
  let s := if status = 2 then (s.countUp 0 F.RFC_CNT_DENIED_COUNT F.RFC_CNT_DENIED_OVF 1).raise 0 0x10 1 else s
  let s := if status = 1 then s.raise 0 0x10 2 else s
  let s := if status = 3 ∨ status = 9 then s.raise 0 0x10 3 else s
  let s := if status = 4 then s.err 0 0x0F 0x0102 else s
  let s := if status = 5 then
      ((s.countUp 0 F.RFX_CNT_MASKABORT_COUNT F.RFX_CNT_MASKABORT_OVF 1).raise 0 0x0F 4).err 0 0x0F 0x0103 else s
  if status = 10 then s.raise 0 0x11 3 else s

/-- R487: the RADIO_TX_STATUS record of a command; its time is that of the first chip, or, where no chip was sent, the
instant that fixed the status. -/
def State.txRecord (s : State) (status : Nat) (c : RadioCmd) (t : TxRun) : State :=
  let (s, air) := if t.started then s.airUnits t.charge else (s, 0)
  let w3 := status * 268435456 + c.template * 16777216 + b2n t.secure.isSome * 8388608 + c.channel * 65536
    + t.power * 256 + (if t.started then t.subband else 15) * 16
  let time := if t.started ∧ t.firstChip ≤ s.time then t.firstChip else s.time
  let note : Note := match c.list with
    | some l => .radio l
    | none => .none
  let rec6 : PendRec :=
    { type := 6, time := time, payload := [word w3, word (air * 65536 + c.ticket), word t.fcnt], reserved := 6, note := note }
  ((s.writeRecord t.cls rec6).raise 0 0x10 0).txStatusEffects status

/-- R499: a key operation takes effect: four words load a slot, none empties it. -/
def State.keySet (s : State) (slot : Nat) (k : List Word) : State :=
  { s with radio := { s.radio with keys := Store.put s.radio.keys slot [] k } }

/-- The key operations that waited for the frame. -/
def State.keyFlush (s : State) : State :=
  s.radio.keyOps.foldl (fun s e => s.keySet e.1 e.2) { s with radio := { s.radio with keyOps := [] } }

/-- The state after a TX command (R486). -/
def RadioCmd.afterGoal (c : RadioCmd) : Nat × Nat :=
  if c.after = 0 then (3, c.channel) else if c.after = 1 then (4, c.channel) else (1, 0)

/-- A running TX command ends with a status and the radio goes on to a state. -/
def State.endTx (s : State) (status : Nat) (late : Bool) : State :=
  match s.radio.queue.head?, s.radio.tx with
  | some c, some t =>
    let s := (s.txRecord status c t).popRadio
    let s := { s with radio := { s.radio with tx := none } }.keyFlush
    s.headFor (if late then (3, c.channel) else c.afterGoal)
  | _, _ => s

/-- NOISE in dBm from the RSSI seen in SEARCH (R460); without one, and between two values, the value is open. -/
def State.noiseField (s : State) : Option Int → State × Nat
  | none =>
    let (s, v) := s.fresh
    (s, v % 256)
  | some n =>
    let (s, q) := s.freeDiv n 2
    (s, field 8 q)

/-- R460, R461: the RADIO_RX record of a reception. -/
def State.rxRecord (s : State) (r : RxRun) (status fec mode len : Nat) (fofs auth ticket : Nat) (data : List Byte) :
    State :=
  let (s, noise) := s.noiseField r.noise
  let w3 := status * 268435456 + b2n r.coex * 134217728 + b2n r.noqual * 67108864 + b2n r.isari * 33554432
    + fec * 16777216 + mode * 2097152 + len * 256 + s.chan
  let w4 := s.get 0 F.RFX_RSSI_LATCHED * 65536 + fofs
  let w5 := noise * 16777216 + auth * 16384 + ticket
  let rec5 : PendRec :=
    { type := 5, time := r.time, payload := [word w3, word w4, word w5] ++ packBytes data, reserved := r.reserved, note := .none }
  s.writeRecord r.cls rec5

/-- R453, R454: a reception in HEADER or PAYLOAD ends early; fields of a header not yet received are open. -/
def State.cutRx (s : State) (status : Nat) : State :=
  match s.radio.rx with
  | some r =>
    let s := { s with radio := { s.radio with rx := none } }
    if s.rxState = 6 then
      let (fec, mode, len) := if r.isari then (0, 0, r.header) else (r.header / 16 % 2, r.header / 32 % 8, r.header / 256)
      s.rxRecord r status fec mode len (field 16 r.fofs) 0 noTicket []
    else
      let (s, v) := s.fresh
      let (s, f) := s.fresh
      let (fec, mode) := if r.isari then (0, 0) else (v / 256 % 2, v / 512 % 8)
      s.rxRecord r status fec mode (v % 256) (f % 65536) 0 noTicket []
  | none => s

/-- R448, R453: the radio leaves RX. -/
def State.leaveRx (s : State) : State :=
  let s := if s.receiving then s.cutRx 3
    else match s.radio.rx with
      | some r => { s with radio := { s.radio with rx := none } }.unreserve r.cls r.reserved
      | none => s
  s.setRx 0

/-- A transmission that radiates. -/
def State.sending (s : State) : Bool :=
  match s.radio.tx with
  | some t => t.started
  | none => false

/-- The radio's next state and hop entry (R475). An entry without a stored calibration is calibrated first (R479); a
turnaround from RX to TX passes SYNTH_ON, where a commit is taken (R468; DEDUCED, log entry 129). -/
def State.radioNext (s : State) : Option (Nat × Nat) :=
  let st := s.rstate
  let toward : Nat → Option (Nat × Nat) := fun n =>
    if st = 0 then some (1, s.chan)
    else if st = 4 ∨ st = 5 then some (3, s.chan)
    else if s.hopValid n then some (3, n)
    else if st = 2 ∧ s.chan = n then none
    else some (2, n)
  if s.sending then none
  else match s.radio.calLeft, s.radio.goal with
  | n :: _, _ =>
    if st = 0 then some (1, s.chan)
    else if st = 4 ∨ st = 5 then some (3, s.chan)
    else if st = 2 ∧ s.chan = n then none
    else some (2, n)
  | [], none => none
  | [], some (g, n) =>
    if st = 5 then some (3, s.chan)
    else if g ≤ 1 then some (g, s.chan)
    else if st = 3 ∧ s.chan = n ∧ s.hopValid n then (if g = 4 then some (4, n) else none)
    else if st = 4 ∧ s.chan = n ∧ s.hopValid n ∧ g = 4 then none
    else toward n

/-- The command ends when its target state is reached (R475); a CAL or CAL_ALL raises CAL_DONE (R501). -/
def State.radioSettle (s : State) : State :=
  match s.radio.calLeft, s.radio.goal with
  | [], some g =>
    if s.atGoal g ∧ s.radio.tx.isNone then
      let s := { s with radio := { s.radio with goal := none } }
      match s.radio.running, s.radio.queue.head? with
      | true, some c =>
        let s := s.popRadio
        if c.code = 6 ∨ c.code = 7 then s.raise 0 0x10 4 else s
      | _, _ => s
    else s
  | _, _ => s

/-- R476: a transition out of RX waits for the reception while FINISH_RX is 1. -/
def State.finishWaits (s : State) : Bool := s.rstate == 4 && s.receiving && s.flag 0 F.RFC_CFG_FINISH_RX

/-- RADIO_STATE_REACHED (R475). RX entered again after a calibration asserts CXREQ again (R489; DESIGN CHOICE, log entry
130). -/
def execRadioStateReached (s : State) : Out :=
  .next <| s.when s.awake fun s =>
    match s.radioNext with
    | some (st, n) =>
      s.when (!s.finishWaits) fun s =>
        let s := if s.rstate = 4 then s.leaveRx else s
        let s := (s.set 0 F.RFC_STAT_RSTATE st).set 0 F.RFC_STAT_CHAN n
        let s := if st = 4 then s.setRx 1 else s
        let s := if st = 4 ∧ !s.flag 0 F.RFC_STAT_CXREQ then s.cxAssert (s.flag 0 F.RFC_CX_RXPRI) else s
        (s.radioSettle.cxRelease).coordinate
    | none => s

/-- R713: a command abandons the background calibration of a hop entry, which stays DUE. -/
def State.abandonHop (s : State) : State :=
  match s.radio.hopRun with
  | some n =>
    let s := { s with radio := { s.radio with hopRun := none } }
    (s.setCalTarget (hopSet n) { s.calTarget (hopSet n) with running := false }).set 0 F.RFC_STAT_RSTATE 1
  | none => s

/-- A RADIO test is running (R729). -/
def State.radioTested (s : State) : Bool := s.tests.any (fun e => e.1 / 65536 == 4 && e.2.running)

/-- RADIO_CMD_START (R475, R477): the command at the head starts when the radio is permitted and at its last target. -/
def execRadioCmdStart (s : State) : Out :=
  .next <| s.when (s.awake && !s.radio.running && s.radio.goal.isNone && s.flag 0 F.RFC_STAT_PERMIT
      && s.pageOn 0 0x10 && s.pageOn 0 0x0F && !s.radioTested && !(s.get 0 F.PWR_STAT_PADHELD).testBit 2
      && !s.coord.loading && decide (s.power.phase = .none)) fun s =>
    match s.radio.queue with
    | [] => s
    | c :: _ =>
      let s := s.abandonHop
      let s := { s with radio := { s.radio with running := true } }
      if c.code = 8 then s.flushTx.popRadio
      else if c.code = 5 then
        let cls := s.get 0 F.RFC_CFG_TXCLASS
        if s.canReserve cls 6 ∨ s.radio.creditSeen then s
        else { s with radio := { s.radio with creditSeen := true } }.countUp 0 F.RFC_CNT_CREDIT_COUNT F.RFC_CNT_CREDIT_OVF 1
      else if c.code = 6 ∨ c.code = 7 then
        let todo := if c.code = 6 then [c.channel] else (List.range 128).filter s.hopEn
        { s with radio := { s.radio with calLeft := todo, goal := some (s.rstate, s.chan) } }.radioSettle
      else
        let g : Nat × Nat := (c.code - 1 + (if 3 ≤ c.code then 1 else 0), c.channel)
        let s := if c.code = 4 then s.cxAssert (s.flag 0 F.RFC_CX_RXPRI) else s
        ({ s with radio := { s.radio with goal := some g } }.radioSettle).cxRelease

/-- R444, R496: TEMPLATE_BAD for a template of `plen` bytes, `mic` the length of its MIC when secured. -/
def State.templateBad (s : State) (flags plen : Nat) (mic : Option Nat) : Bool :=
  let isari := s.flag 0 F.RFX_CFG_ISARI
  let total := match mic with
    | some m => plen + 13 + m
    | none => plen
  if isari then decide (plen < 1 ∨ 62 < plen ∨ 62 < total)
  else decide (251 < plen ∨ 251 < total ∨ 2 < flags % 8) || (flags / 16 % 2 == 0 && !s.flag 0 F.RFX_CFG_UNCODED_EN)

/-- R480, R481: the transmission that a TX command prepares, with 0 or the status of the first check that fails. -/
def State.prepareTx (s : State) (c : RadioCmd) (cls : Nat) : Nat × TxRun :=
  let plen := (s.templateByte c.template 0).toNat
  let flags := (s.templateByte c.template 1).toNat
  let body := (List.range plen).map (fun i => s.templateByte c.template (2 + i))
  let level := s.get 0 F.SEC_CFG_TXLEVEL
  let fecFlags := flags % 8 + (if flags.testBit 3 then 16 else 0)
  let secured := flags.testBit 4
  let tkt := s.ticket c.ticket
  let slot := tkt.keySlot
  let key := Store.get s.radio.keys slot []
  let band := s.subBand c.channel
  let pw := s.get 0 F.RFX_TXCFG_POWER
  let power := match band with
    | some b => min pw (s.pmax b)
    | none => pw
  let mic := if secured then some (micLength level) else none
  let total := match mic with
    | some m => plen + 13 + m
    | none => plen
  let keyBad := c.ticket == noTicket || tkt.kind != 3 || !tkt.keyed || key.isEmpty
  let status := if s.templateBad fecFlags plen none then 4
    else if band.isNone then 6
    else if secured && keyBad then 7
    else if s.templateBad fecFlags plen mic then 4
    else if secured && s.get 0 F.SEC_TXCTR_CTR == 0xFFFFFFFF then 10
    else 0
  (status,
    { cls := cls, flags := fecFlags, body := body, secure := if secured && status == 0 then some (level, slot, key) else none,
      len := total + (if s.flag 0 F.RFX_CFG_ISARI then 2 else 4), power := power, clamped := decide (power < pw),
      subband := band.getD 15 })

/-- TX_CREDIT_RESERVED (R480, R481, R486): the credit is reserved, the template is snapshotted (DEDUCED, log entry 113) and
the command is checked; the first check that fails ends it with a record at once, and the radio goes to its AFTER state. -/
def execTxCreditReserved (s : State) : Out :=
  .next <| s.when (s.awake && s.radio.running && s.radio.tx.isNone) fun s =>
    match s.radio.queue.head? with
    | some c =>
      let cls := s.get 0 F.RFC_CFG_TXCLASS
      s.when (c.code == 5 && s.canReserve cls 6) fun s =>
        let s := s.reserve cls 6
        let x := s.prepareTx c cls
        if x.1 = 0 then
          let s := { s with radio := { s.radio with tx := some x.2, goal := some (5, c.channel) } }
          s.cxAssert c.pri
        else ((s.cxAssert c.pri).txRecord x.1 c x.2).popRadio.headFor c.afterGoal
    | none => s

/-- The bytes after the header: payload, secured when asked, and the CRC of the mode in use (R441, R464, R495). -/
def txFrame (isari : Bool) (t : TxRun) (ident ctr : Nat) : List Byte :=
  let body := match t.secure with
    | some (level, _, key) => secHeader ident ctr level ++ secSeal key ident ctr level t.body
    | none => t.body
  if isari then
    let crc := crcIsari (BitVec.ofNat 8 t.len :: body)
    body ++ [BitVec.ofNat 8 (crc / 256), BitVec.ofNat 8 crc]
  else body ++ le4 (crc32 body)

/-- The conditions of R482 that the state shows: locked on the hop entry, and the grant in grant mode. -/
def State.rampReady (s : State) : Bool :=
  match s.radio.queue.head?, s.radio.tx with
  | some c, some t =>
    !t.started && s.rstate == 3 && s.chan == c.channel && s.hopValid c.channel && s.radio.calLeft.isEmpty
      && (!s.flag 0 F.RFC_CX_MODE || s.flag 0 F.RFC_STAT_CXGNT)
  | _, _ => false

/-- R497: the counter resumes at the stored value plus 4,096, and that value is stored in turn, so that no value of it is
used twice (DEDUCED, log entry 131); at its end it stays there. -/
def State.resumeCounter (s : State) : State :=
  let v := min 0xFFFFFFFF (s.nv.txCtr + 4096)
  { s with nv := { s.nv with txCtr := v } }.set 0 F.SEC_TXCTR_CTR v

/-- R497: the counter advances; when its low 12 bits wrap to 0 it is stored in the NV store. -/
def State.nextCounter (s : State) : State :=
  let v := s.get 0 F.SEC_TXCTR_CTR + 1
  let s := s.set 0 F.SEC_TXCTR_CTR v
  if v % 4096 = 0 then { s with nv := { s.nv with ops := s.nv.ops ++ [.counter v] } } else s

/-- TX_RAMP_START (R482, R485, R493): the duty check runs; the charge is booked and the PA ramp starts, or the command
ends DUTY_DENIED. -/
def execTxRampStart (s : State) : Out :=
  .next <| s.when (s.awake && s.rampReady) fun s =>
    match s.radio.tx with
    | some t =>
      let isari := s.flag 0 F.RFX_CFG_ISARI
      let charge := airTime isari t.flags t.len + 2 * s.get 0 F.RFX_TXCFG_RAMP_T
      let duty := s.dutyLimit t.subband
      if duty = 1000 ∨ s.dutyUsed t.subband + charge ≤ duty * 3600000 then
        let ctr := s.get 0 F.SEC_TXCTR_CTR
        let t := { t with started := true, charge := charge, frame := txFrame isari t s.ownId ctr,
                          fcnt := if t.secure.isSome then ctr else 0,
                          firstChip := s.time + usTicks (s.get 0 F.RFX_TXCFG_RAMP_T) }
        let s := if t.secure.isSome then s.nextCounter else s
        let s := { s with radio := { s.radio with
          tx := some t, charges := s.radio.charges ++ [(t.subband, s.radio.second, charge)] } }
        let s := s.set 0 F.RFC_STAT_RSTATE 5
        (if t.clamped then s.raise 0 0x0F 5 else s).coordinate
      else (s.endTx 2 false).coordinate
    | none => s

/-- TX_LAST_CHIP (R487, R490): the frame is complete. -/
def execTxLastChip (s : State) : Out := .next <| s.when s.sending fun s => (s.endTx 0 false).coordinate

/-- TX_SYNTH_DEADLINE (R483): the command ends SYNTH_LATE; the synthesiser goes on to lock. -/
def execTxSynthDeadline (s : State) : Out :=
  .next <| s.when (s.radio.tx.isSome && !s.sending) fun s =>
    match s.radio.queue.head? with
    | some c =>
      s.when (!((s.rstate == 3 || s.rstate == 4) && s.chan == c.channel && s.hopValid c.channel)) fun s =>
        (s.endTx 1 true).coordinate
    | none => s

/-- SYNTH_LOCK_LOSS (R484): a frame being sent ends LOCK_LOST. -/
def execSynthLockLoss (s : State) : Out := .next <| s.when s.sending fun s => (s.endTx 8 false).coordinate

/-- COEX_GRANT_TIMEOUT (R490): in grant mode, without the grant, the command ends COEX_DENIED. -/
def execCoexGrantTimeout (s : State) : Out :=
  .next <| s.when (s.radio.tx.isSome && !s.sending && s.flag 0 F.RFC_CX_MODE && !s.flag 0 F.RFC_STAT_CXGNT) fun s =>
    (s.endTx 9 false).coordinate

/-- CXGNT_ASSERT (R490). -/
def execCxgntAssert (s : State) : Out := .next (s.set 0 F.RFC_STAT_CXGNT 1)

/-- The instant at which the last chip of a transmission ends: its air time after the first chip. -/
def TxRun.lastChip (t : TxRun) (ramp : Nat) : Nat := t.firstChip + usTicks (t.charge - 2 * ramp)

/-- CXGNT_WITHDRAW (R490): in grant mode it ends a frame being sent, OK when its last chip has ended, in whichever order
the two come within that cycle, and marks a reception. -/
def execCxgntWithdraw (s : State) : Out :=
  .next <|
    let s := s.set 0 F.RFC_STAT_CXGNT 0
    if !s.flag 0 F.RFC_CX_MODE then s
    else if s.sending then
      let done := match s.radio.tx with
        | some t => decide (t.lastChip (s.get 0 F.RFX_TXCFG_RAMP_T) ≤ s.time)
        | none => false
      (s.endTx (if done then 0 else 3) false).coordinate
    else { s with radio := { s.radio with rx := s.radio.rx.map (fun r => { r with coex := true }) } }

/-- The mask points that a measurement violates (R467). -/
def State.maskViolated (s : State) (below : List Nat) : List Nat :=
  (List.range 4).filter fun i =>
    let w := s.reg 0 0x0F (0x0A0 + 4 * i)
    decide (bits w 16 16 ≠ 0) && decide ((below[i]?).getD 255 < bits w 0 7)

/-- MASK_MEASURE (R467): a point violated in two consecutive measurements of an Isari transmission ends it. -/
def execMaskMeasure (below : List Nat) (s : State) : Out :=
  .next <| s.when (s.sending && s.flag 0 F.RFX_CFG_ISARI) fun s =>
    match s.radio.tx with
    | some t =>
      let bad := s.maskViolated below
      if bad.any t.maskBad.contains then (s.endTx 5 false).coordinate
      else { s with radio := { s.radio with tx := some { t with maskBad := bad } } }
    | none => s

/-- HOP_CAL_END (R479): the calibration of the entry being calibrated completes: at start-up, for a command, or in the
background (R713). -/
def execHopCalEnd (entry : Nat) (temp band gain : Int) (s : State) : Out :=
  .next <|
    let start := s.radio.startup.head? == some entry
    let run := s.rstate == 2 && s.chan == entry
    let back := s.radio.hopRun == some entry
    s.when (s.awake && (start || run || back)) fun s =>
      let k := hopSet entry
      let s := s.setCalTarget k { s.calTarget k with due := false, aged := false }
      let s := (s.set 0 (F.RFC_HOP_VALID entry) 1).endRun k true temp [(13, 0, band), (14, 0, gain)]
      let r := s.radio
      let s := { s with radio := { r with calLeft := if run then r.calLeft.filter (· != entry) else r.calLeft,
                                          hopRun := if back then none else r.hopRun,
                                          startup := if start then r.startup.tail else r.startup } }
      let s := if back then s.set 0 F.RFC_STAT_RSTATE 1 else s
      let s := if start ∧ s.radio.startup.isEmpty then (s.set 0 F.RFC_STAT_PERMIT 1).set 0 F.RFC_STAT_RSTATE 0 else s
      s.coordinate

/-- HOP_CAL_BACKGROUND (R713): a DUE entry is recalibrated in STANDBY with an empty queue, one at a time. -/
def execHopCalBackground (entry : Nat) (s : State) : Out :=
  .next <| s.when (s.awake && s.rstate == 1 && s.radio.queue.isEmpty && s.radio.goal.isNone && s.radio.hopRun.isNone
      && (s.calTarget (hopSet entry)).due && s.hopEn entry && decide (s.power.phase = .none) && s.pageOn 0 0x12
      && !s.radioTested) fun s =>
    let k := hopSet entry
    let s := s.setCalTarget k { s.calTarget k with running := true }
    { s with radio := { s.radio with hopRun := some entry } }.set 0 F.RFC_STAT_RSTATE 2

/-- DUTY_CLOCK_SECOND (R493): the duty clock counts while VSUP is present; charges older than the window leave it. -/
def execDutyClockSecond (s : State) : Out :=
  .next <| s.when (s.device != .off) fun s =>
    let n := s.radio.second + 1
    { s with radio := { s.radio with second := n, charges := s.radio.charges.filter (fun c => decide (n < c.2.1 + 3600)) } }

/-- R499: a key operation, held back while a frame uses the slot. -/
def State.keyOp (s : State) (slot : Nat) (k : List Word) : State :=
  let busy := match s.radio.tx with
    | some t => (match t.secure with
      | some (_, n, _) => n == slot
      | none => false)
    | none => false
  if busy then { s with radio := { s.radio with keyOps := s.radio.keyOps ++ [(slot, k)] } } else s.keySet slot k

/-- SEC_KEY_LOAD (R499): the staged words SEC_KEY0 to SEC_KEY3 load a slot. -/
def execSecKeyLoad (slot : Nat) (s : State) : Out :=
  .next <| s.hostWrite 0 0x11 fun s => s.when (decide (slot < 64)) fun s =>
    s.keyOp slot ((List.range 4).map (fun n => s.reg 0 0x11 (0x030 + 4 * n)))

/-- SEC_KEY_ERASE (R499). -/
def execSecKeyErase (slot : Nat) (s : State) : Out := .next <| s.hostWrite 0 0x11 fun s => s.when (decide (slot < 64)) fun s => s.keyOp slot []

end Sys2Proof.Machine
end

