-- ==== Sys2Proof/Machine/Air.lean ====
section
/-! DEFINITION. What the radio sends: the bits of a frame, the convolutional code, the chips of both modes and the branch
each goes on (R435 to R441, R444, R464), and the steps of the power ramp (R445). They are functions of the transmission in
progress and of the registers, so no state holds them. -/

namespace Sys2Proof.Machine

/-- The lowest `n` bits of a number, the most significant first. -/
def airBits (n x : Nat) : List Bool := (List.range n).map fun i => x.testBit (n - 1 - i)

/-- R436: the chips of a bit 0 at the spreading factor of a mode: 0 SF4, 1 SF8, 2 SF16. -/
def spreadZero (mode : Nat) : List Bool :=
  if mode = 0 then airBits 4 0xB else if mode = 1 then airBits 8 0x4E else airBits 16 0x3D4C

/-- R436: a bit is its sequence, or the complement of it for a 1. -/
def spreadBits (seq : List Bool) (bs : List Bool) : List Bool := (bs.map fun b => seq.map (· != b)).flatten

/-- The six bits before a bit, newest first, against the taps of a generator: 133 and 171 octal (R437). -/
def convTaps (gen : Nat) (window : List Bool) : Bool :=
  ((window.zip (airBits 7 gen)).filter (fun e => e.1 && e.2)).length % 2 == 1

/-- R437: rate 1/2, constraint length 7; the output of generator 133 goes first. -/
def convFrom : List Bool → List Bool → List Bool
  | _, [] => []
  | reg, b :: bs => convTaps 0o133 (b :: reg) :: convTaps 0o171 (b :: reg) :: convFrom ((b :: reg).take 6) bs

/-- R437: the coded payload: the encoder starts in the zero state, and six 0 bits bring it back. -/
def convCode (bs : List Bool) : List Bool := convFrom (List.replicate 6 false) (bs ++ List.replicate 6 false)

/-- R441: payload bits, each byte least significant bit first. -/
def payloadBits (bs : List Byte) : List Bool := (bs.map fun x => (List.range 8).map x.getLsbD).flatten

/-- R440, R444: the PHY header of a frame of LENGTH `len` (`flags` holds MODE in bits 2:0 and FEC in bit 4). -/
def phyHeader (flags len : Nat) : Nat :=
  let h := (len % 256) * 256 + (flags % 8) * 32 + (flags / 16 % 2) * 16
  h + headerCheck h

/-- R439: the chips of a Wearunak frame whose payload with its CRC is `frame`. -/
def wearunakChips (flags len : Nat) (frame : List Byte) : List Bool :=
  let bits := payloadBits frame
  spreadBits (spreadZero 2) (List.replicate 32 false ++ airBits 16 0xE5C3 ++ airBits 16 (phyHeader flags len)) ++
    spreadBits (spreadZero (flags % 8)) (if flags / 16 % 2 = 1 then convCode bits else bits)

/-- R464: the chips of an Isari frame; every field goes most significant bit first. -/
def isariChips (len : Nat) (frame : List Byte) : List Bool :=
  spreadBits (airBits 10 0x3B2) (List.replicate 24 false ++ airBits 16 0x9B1E ++ airBits 8 len ++
    (frame.map fun x => airBits 8 x.toNat).flatten)

/-- The chips of the transmission in progress, in the order they go on air. -/
def State.airChips (s : State) : List Bool :=
  match s.radio.tx with
  | some t => if !t.started then [] else
      if s.flag 0 F.RFX_CFG_ISARI then isariChips t.len t.frame else wearunakChips t.flags t.len t.frame
  | none => []

/-- R435: even-numbered chips go on the I branch, odd-numbered ones on the Q branch. -/
def branchChips (odd : Bool) (chips : List Bool) : List Bool :=
  (chips.zipIdx.filter fun e => (e.2 % 2 == 1) == odd).map Prod.fst

/-- R435, R464: the chip on air now: chips last 2.5 µs (67.8 ticks), or 10 µs in Isari mode, from the end of the up ramp. -/
def State.chipNow (s : State) : Option Bool :=
  match s.radio.tx with
  | some t => if s.time < t.firstChip then none
      else s.airChips[(s.time - t.firstChip) * 10 / (if s.flag 0 F.RFX_CFG_ISARI then 2712 else 678)]?
  | none => none

/-- R435: the half-sine of a chip, in 1/1000 of the amplitude, at each 0.25 µs of its 5.0 µs: round(1000 sin(πk/20)). The
step in time and in amplitude is the model's (DESIGN CHOICE, log entry 132). -/
def halfSine (k : Nat) : Int :=
  if 20 < k then 0
  else (([0, 156, 309, 454, 588, 707, 809, 891, 951, 988, 1000] : List Int)[if k ≤ 10 then k else 20 - k]?).getD 0

/-- R435: the level of a branch at `k` × 0.25 µs from the first chip: one pulse of 5.0 µs for each of its chips, positive
for a 1 and negative for a 0; the Q branch is one chip period, 2.5 µs, behind the I branch. -/
def branchLevel (odd : Bool) (chips : List Bool) (k : Nat) : Int :=
  let t := if odd then k - 10 else k
  if odd ∧ k < 10 then 0
  else
    match (branchChips odd chips)[t / 20]? with
    | some c => if c then halfSine (t % 20) else -(halfSine (t % 20))
    | none => 0

/-- R445: the amplitude of step `i` of the up ramp, in 1/255 of the final one; the fall runs through them in reverse. -/
def State.rampStep (s : State) (down : Bool) (i : Nat) : Nat :=
  let k := if down then 15 - i else i
  bits (s.reg 0 0x0F (0x040 + 4 * (k / 4))) (8 * (k % 4)) 8

/-- R466: tap `k` of the transmit filter. -/
def State.firTap (s : State) (k : Nat) : Int := signed 10 (bits (s.reg 0 0x0F (0x060 + 4 * (k / 2))) (16 * (k % 2)) 10)

/-- R466: a sample of the chip stream at 8 samples per chip: 1 or -1, and 0 outside the frame. -/
def chipSample (chips : List Bool) (n : Nat) : Int :=
  match chips[n / 8]? with
  | some c => if c then 1 else -1
  | none => 0

/-- R466: a sample that the transmitter sends in Isari mode; 511 is full amplitude. A chip lasts for its eight samples, so
that a constant stream gives the sum of the taps (DEDUCED, log entry 114). -/
def State.firSample (s : State) (chips : List Bool) (n : Nat) : Int :=
  (((List.range 32).filter (· ≤ n)).map fun k => s.firTap k * chipSample chips (n - k)).foldl (· + ·) 0

end Sys2Proof.Machine
end

