-- ==== Sys2Proof/Machine/Frames.lean ====
section
/-! DEFINITION. Attempts and replies of an exchange (chapter 08): transmitting, windows, decoding, retries, and the
activation sequences (R368 to R372). -/

namespace Sys2Proof.Machine

/-- R225, R214: slices at ON start to modulate; a move of their phase stands still. -/
def State.modulate (s : State) (l : List (Nat × Nat)) : State :=
  l.foldl (fun s (d, sl) => if s.fstate d sl = 2 then (s.phaseHere d sl).setFstate d sl 3 else s) s

/-- R225, R214, R226: the last pulse has ended: the slices are back at ON, their phase moves on, and a held field-off
acts. -/
def State.demodulated (s : State) (l : List (Nat × Nat)) : State :=
  l.foldl (fun s (d, sl) =>
    if s.fstate d sl = 3 then (((s.phaseHere d sl).setFstate d sl 2).phaseMove d sl).releaseOff d sl else s) s

/-- R287: a response window is over: the ramps and candidates that waited for its end go on. -/
def State.windowOver (s : State) : State := if s.flag 0 F.FCO_CTRL_GUARD_RX then s.releaseGuarded.coordinate else s

/-- What an exchange forgets when a frame starts. -/
def Exch.fresh (e : Exch) : Exch :=
  { e with phase := .transmit, fdt := none, timing := .accepted, ampl := 0, angle := 0, eofSent := false, last := {} }

/-- R383: the most recently pushed request is the one sent. -/
def Inv.nextRequest (i : Inv) : Inv :=
  match i.stack with
  | r :: rest =>
    { i with stack := rest, cur := r, requests := i.requests + 1, slot := 0, unclearSlots := [], newUids := [],
             sepUids := [], follow := [] }
  | [] => i

/-- A frame starts: its slices modulate (R225). A round that sends a request takes it from its stack. -/
def State.startTx (s : State) (d p : Nat) (e : Exch) : State :=
  let e := e.fresh
  let e := if e.member.kind = 3 ∧ e.inv.frame = .request then { e with inv := e.inv.nextRequest } else e
  (s.setExch d p e).modulate (s.exchSlices d p e)

/-- SETTLE_END (R366): the settle time is over and the first frame starts. -/
def execSettleEnd (die port : Nat) (s : State) : Out :=
  .next <|
    match s.exch die port with
    | some e => if e.phase = .settle ∧ s.fieldOn die port then s.startTx die port e else s
    | none => s

/-- R210, R342, R319: a member's level, depth and ramps take force on slices that stayed ON; the rinse of the ports that
list one follows a change of its level. A slice still to be energised takes them with its ramp. -/
def State.applyAtOn (s : State) (l : List (Nat × Nat × Drive)) : State :=
  l.foldl (fun s (d, sl, r) =>
    if s.fstate d sl = 2 then
      let t := s.applyDrive d sl r
      if s.level d sl = r.level then t else (t.moveLevel d sl (s.level d sl)).announce d sl (.level r.level)
    else s) s

/-- TURNAROUND_GAP_END (R342): the gap before the first frame on a field that stayed ON is over; level, depth and ramps
of the member apply (R210, R300), on the partner's slice too (R279). -/
def execTurnaroundGapEnd (die port : Nat) (s : State) : Out :=
  .next <|
    match s.exch die port with
    | some e =>
      if e.phase = .linkGap ∧ s.fieldOn die port then
        match s.servingSlice die port with
        | some sl =>
          let l := s.memberDrives die port e.partner e.member
          let s := (s.chooseAtt die port (s.levelInForce die sl e.member.reqLevel)).applyAtOn l
          let s := (s.set die (F.RCV_P_STAT_RX_ON port) 1).listenersOn e.listeners
          s.startTx die port e
        | none => s
      else s
    | none => s

/-- R323, R324: the residual of a port measured before the response window. With no carrier predicted none is
measured. -/
def State.residual (s : State) (d p level : Nat) (resid : Option Nat) : State :=
  match if s.predicted d p level then resid else none with
  | none => s
  | some r =>
    let s := (s.set d (F.RCV_P_RESID_RESID p) r).set d (F.RCV_P_RESID_MASK p) (s.get d (F.RCV_P_STAT_TERMS p))
    if r < s.portGet d p F.RCV_CFG_DRIFT_LIM then (s.set d (F.RCV_P_RESID_EXCEED p) 1).raise d 0x0B 0 else s

/-- What the end of a round's frame means for the round: its reference instants; a stay quiet expects no reply (R384). -/
def Exch.roundFrameEnd (e : Exch) (now : Nat) : Exch :=
  let i := e.inv
  match i.frame with
  | .request =>
    { e with inv := { i with reqRef := now, firstRef := some (i.firstRef.getD now), broken := [], stopped := false } }
  | .slotEof => { e with inv := { i with broken := [], stopped := false } }
  | _ => e

/-- TX_FRAME_END (R343, R225): the last pulse has ended: the reference instant of the attempt. After a stay quiet, which
expects no reply, the round's next frame follows; that choice is made by the round (Inventory.lean). -/
def State.txEnd (s : State) (d p : Nat) (e : Exch) (resid : List (Nat × Nat)) : State :=
  let now := s.dieTime d
  let e := { e with phase := .listen, reference := some now }
  let e := if e.member.kind = 3 then e.roundFrameEnd now else e
  let s := (s.setExch d p e).demodulated (s.exchSlices d p e)
  let level := ((s.servingSlice d p).map (s.level d)).getD 0
  let s := s.residual d p level (Store.find? resid (aerial d p))
  e.listeners.foldl (fun s n => s.residual (portDie n) (portIx n) 0 (Store.find? resid n)) s

/-- R349: the attempt failed and another follows after the gap, or the member ends (R350). -/
def State.attemptEnd (s : State) (d p : Nat) (e : Exch) (r : Result) : State :=
  if (r.status = 1 ∨ r.status = 2) ∧ e.attempt ≤ e.member.retry then
    (s.setExch d p { e with phase := .gap, last := r }).windowOver
  else ((s.setExch d p { e with last := r }).finish d p r).coordinate

/-- The first and last accepted reply start of the frame that an exchange awaits (R344, R367, R368, R371, R380). -/
def Exch.window (e : Exch) : Nat × Nat :=
  let m := e.member
  if m.kind = 0 then (if m.eofReq then (4288, 4352) else (m.wmin, m.wmax))
  else if m.kind = 1 then (1156, 1268)
  else if m.kind = 2 then (1024, 7680)
  else (4288, 4352)

/-- R380: T3 of a round. -/
def State.slotEnd (s : State) (d : Nat) (m : Member) : Nat :=
  s.portGet d m.port (if highRate m.proto then F.INV_TIM_T3_HIGH else F.INV_TIM_T3_LOW)

/-- R344, R345: whether a start at `fdt` is looked for: the receiver is evaluated and the window with LATE still runs.
Slots of ACTIVATE_B end at 7,680 fc; slots of a round at T3 (R380). -/
def State.startSeen (s : State) (d : Nat) (e : Exch) (fdt : Nat) : Bool :=
  let m := e.member
  let late := 16 * s.portGet d m.port F.XEN_CFG_LATE
  decide (16 < fdt) &&
    (if m.kind = 0 then m.resp != 0 && (!m.eofReq || e.eofSent) && decide (fdt ≤ e.window.2 + late)
     else if m.kind = 1 then decide (fdt ≤ e.window.2 + late)
     else if m.kind = 2 then decide (fdt ≤ 7680)
     else
       match e.inv.frame with
       | .read _ => decide (fdt ≤ e.window.2 + late)
       | _ => decide (fdt ≤ s.slotEnd d m))

/-- REPLY_START (R344, R310): a reply start is found and judged. -/
def execReplyStart (die port fdt ampl angle : Nat) (s : State) : Out :=
  .next <|
    match s.exch die port with
    | some e =>
      if e.phase = .listen ∧ e.fdt.isNone ∧ s.startSeen die e fdt then
        let (lo, hi) := e.window
        let t : Timing := if fdt < lo then .early else if hi < fdt then .late else .accepted
        let s := (s.set die (F.RCV_P_LAST_AMPL port) ampl).set die (F.RCV_P_LAST_ANGLE port) angle
        s.setExch die port { e with fdt := some fdt, timing := t, ampl := ampl % 65536, angle := angle % 256,
                                     heard := some (fdt, ampl % 65536, angle % 256) }
      else s
    | none => s

/-- R363: a reply's CRC over its whole bytes. -/
def crcValid (proto : Nat) (bs : List Byte) : Bool :=
  decide (2 ≤ bs.length) && bs.drop (bs.length - 2) == crcBytes (protoCrc proto (bs.take (bs.length - 2)))

/-- A received reply: whole bytes, bits, whether parity and coding were valid, the first collision. -/
structure Reply where
  data : List Byte
  nbits : Nat
  parityOk : Bool
  collision : Option Nat
  deriving DecidableEq, Repr

/-- Whole bytes with a valid CRC and no collision or invalid coding. -/
def Reply.clean (r : Reply) (proto : Nat) : Bool :=
  r.parityOk && r.collision.isNone && r.nbits % 8 == 0 && crcValid proto (r.data.take (r.nbits / 8))

/-- The bytes of a reply without its CRC. -/
def Reply.body (r : Reply) : List Byte := r.data.take (r.nbits / 8 - 2)

/-- R355: the status of a decoded reply. -/
def replyStatus (coll bad : Bool) (t : Timing) : Nat :=
  if coll then 3 else if bad then 2 else
    match t with
    | .early => 4
    | .late => 5
    | .accepted => 0

/-- R346 to R348, R354: what a FRAME attempt stores of its reply, and its status. -/
def Member.decode (m : Member) (r : Reply) (t : Timing) : Result :=
  if m.resp = 2 then
    let st := replyStatus r.collision.isSome (!r.parityOk || r.nbits != 4) t
    { status := st, data := [((r.data[0]?).getD 0) &&& 0x0F], bits := min 4 r.nbits, coll := r.collision,
      trunc := decide (8 < r.nbits) }
  else
    match r.collision with
    | some c =>
      let bs := r.data.take (c / 8 + 1)
      let kept := bs.take m.storeLimit
      { status := 3, data := kept, bits := min (8 * kept.length) r.nbits, coll := some c,
        trunc := decide (m.storeLimit < bs.length) }
    | none =>
      if m.rxCrc then
        let ok := r.nbits % 8 == 0 && crcValid m.proto (r.data.take (r.nbits / 8))
        let body := r.data.take (r.nbits / 8 - 2)
        let kept := body.take m.maxLen
        { status := replyStatus false (!r.parityOk || !ok) t, data := kept, bits := 8 * kept.length,
          trunc := decide (m.maxLen < body.length) }
      else
        let kept := r.data.take m.storeLimit
        { status := replyStatus false (!r.parityOk) t, data := kept, bits := min (8 * kept.length) r.nbits,
          trunc := decide (8 * m.storeLimit < r.nbits) }

/-- The bits of a reply in order of reception. -/
def Reply.bitList (r : Reply) : List Bool :=
  (List.range r.nbits).map fun i => ((r.data[i / 8]?).getD 0).getLsbD (i % 8)

/-- What one reply of an activation leads to: the next command, or the end of the attempt. -/
inductive ActNext where
  | next (a : Act)
  | done (r : Result)
  deriving DecidableEq, Repr

/-- R354, R369: an activation attempt that fails stores what its sequence has received (assumption log). -/
def actFail (status : Nat) (a : Act) : ActNext :=
  .done { status := status, data := a.partA, bits := 8 * a.partA.length, coll := a.collPos }

/-- R355: an attempt goes on unless its reply came early or late. -/
def Act.inTime (a : Act) (late : Option Nat) (n : ActNext) : ActNext :=
  match late with
  | some st => actFail st a
  | none => n

/-- R368, R355: the 40 bits of a cascade level are held: the BCC is checked, and after a reply in time SELECT follows. -/
def Act.levelHeld (a : Act) (late : Option Nat) : ActNext :=
  let b := bitsToBytes 5 a.bits
  let bcc := (b.take 4).foldl (· ^^^ ·) 0
  if (b[4]?).getD 0 = bcc then a.inTime late (.next { a with step := .select }) else actFail 2 a

/-- R368, R369: a reply in ACTIVATE_A; `choose` is XEN_TYPEA.CHOOSE. -/
def Act.replyA (a : Act) (r : Reply) (t : Timing) (choose : Bool) : ActNext :=
  let late := match t with
    | .accepted => none
    | .early => some 4
    | .late => some 5
  match a.step with
  | .request =>
    let a := { a with atqa := r.data.take 2 }
    if r.collision.isNone ∧ (!r.parityOk ∨ r.nbits < 16) then actFail 2 a
    else a.inTime late (.next { a with step := .anticollision, atqa := (r.data ++ [0, 0]).take 2, bits := [] })
  | .anticollision =>
    let bs := r.bitList
    match r.collision with
    | some c =>
      let held := a.bits ++ bs.take c ++ [choose]
      let x := { a with collPos := some (a.collPos.getD c), bits := held.take 40 }
      if 40 ≤ held.length then x.levelHeld late
      else { a with bits := a.bits ++ bs.take c }.inTime late (.next x)
    | none =>
      let held := a.bits ++ bs
      if !r.parityOk ∨ held.length ≠ 40 then actFail 2 { a with bits := held }
      else { a with bits := held }.levelHeld late
  | .select =>
    let a := { a with sak := (r.data[0]?).getD 0 }
    if r.collision.isSome then actFail 3 { a with collPos := some (a.collPos.getD (r.collision.getD 0)) }
    else if !r.clean 0 ∨ r.nbits ≠ 24 then actFail 2 a
    else
      let sak := (r.data[0]?).getD 0
      let b := (bitsToBytes 5 a.bits).take 4
      if sak.getLsbD 2 then
        if 3 ≤ a.level then actFail 2 a
        else a.inTime late
          (.next { a with step := .anticollision, level := a.level + 1, bits := [], uid := a.uid ++ b.drop 1 })
      else
        let x := { a with sak := sak, uid := a.uid ++ b }
        a.inTime late (.done { status := 0, data := x.dataA, bits := 8 * x.dataA.length, coll := x.collPos })
  | .slot => .next a

/-- R372: the data of ACTIVATE_B and the status of the sequence. -/
def Act.resultB (a : Act) : Result :=
  if a.entries.isEmpty ∧ a.collided = 0 then { status := 1, coll := a.collPos }
  else
    { status := if a.entries.isEmpty then 3 else 0, data := a.dataB, bits := 8 * a.dataB.length, coll := a.collPos }

/-- R371: the next slot of ACTIVATE_B, or the end of the sequence after 2^NEXP slots. -/
def Act.slotDone (a : Act) (nexp : Nat) : ActNext :=
  if a.slot < 2 ^ nexp then .next { a with step := .slot, slot := a.slot + 1 } else .done a.resultB

/-- R371, R372: a reply in a slot of ACTIVATE_B. -/
def Act.replyB (a : Act) (r : Reply) (t : Timing) (nexp : Nat) : ActNext :=
  let body := r.body
  let a :=
    if r.collision.isSome then
      { a with collided := a.collided + 2 ^ (a.slot - 1), collPos := some (a.collPos.getD (r.collision.getD 0)) }
    else if r.clean 4 ∧ t = .accepted ∧ (body.length = 12 ∨ body.length = 13) then
      { a with
        valid := a.valid + 2 ^ (a.slot - 1)
        entries := a.entries ++
          ([BitVec.ofNat 8 a.slot, BitVec.ofNat 8 body.length] ++ body ++ List.replicate 14 0).take 16 }
    else a
  a.slotDone nexp

/-- An activation goes on with its next command after the gap, or its attempt ends. -/
def State.actGo (s : State) (d p : Nat) (e : Exch) (n : ActNext) : State :=
  match n with
  | .next a => (s.setExch d p { e with phase := .next, act := a }).windowOver
  | .done r => s.attemptEnd d p e r

/-- RETRY_START (R350): the gap is over and the next attempt sends the same frame; an activation restarts (R369). -/
def execRetryStart (die port : Nat) (s : State) : Out :=
  .next <|
    match s.exch die port with
    | some e =>
      if e.phase = .gap ∧ s.fieldOn die port then
        let s := (s.countUp die F.XEN_CNT_RETRY_COUNT F.XEN_CNT_RETRY_OVF 1).raise die 0x0C 2
        s.startTx die port { e with attempt := e.attempt + 1, reference := none, act := {},
                                     heard := none }
      else s
    | none => s

/-- EOF_REQ_SEND (R367): WMIN after the reference instant a lone EOF is sent; its end is the new reference instant. -/
def execEofReqSend (die port : Nat) (s : State) : Out :=
  .next <|
    match s.exch die port with
    | some e =>
      if e.phase = .listen ∧ e.member.kind = 0 ∧ e.member.eofReq ∧ !e.eofSent then
        s.setExch die port { e with eofSent := true, reference := some (s.dieTime die) }
      else s
    | none => s

/-- ACTIVATE_NEXT_COMMAND (R368, R371): the gap in an activation is over and its next command is sent. -/
def execActivateNextCommand (die port : Nat) (s : State) : Out :=
  .next <|
    match s.exch die port with
    | some e =>
      if e.phase = .next ∧ (e.member.kind = 1 ∨ e.member.kind = 2) ∧ s.fieldOn die port then s.startTx die port e else s
    | none => s

/-- FIELD_HOLD_EXPIRY (R353): HOLD ms have elapsed. -/
def execFieldHoldExpiry (die port : Nat) (s : State) : Out :=
  .next <| s.when (s.fieldHold die port).isSome fun s => ((s.endHold die port).raise die 0x0C 1).coordinate

/-- XEN_HOLD_END (R353, R375): the host ends the holds of the named ports; a port not in hold is recorded. -/
def execXenHoldEnd (die : Nat) (value : Word) (s : State) : Out :=
  .next <| s.hostWrite die 0x0C fun s => s.when (s.inService die) fun s =>
    (((List.range 8).filter (bit value)).foldl (fun s p =>
      if (s.fieldHold die p).isSome then s.endHold die p else s.err die 0x0C 0x0105) (s.writeRo die 0x0C 0x030 value)).coordinate

/-- STREAM_GAP (R329): a listener's stream breaks for the rest of the slot; further late samples of it change nothing. -/
def execStreamGap (die port listener : Nat) (s : State) : Out :=
  .next <|
    match s.exch die port with
    | some e =>
      if e.listeners.contains listener && !e.inv.broken.contains listener then
        let s := s.setExch die port { e with inv := { e.inv with broken := e.inv.broken ++ [listener] } }
        ((s.countUp die F.RCV_CNT_GAP_COUNT F.RCV_CNT_GAP_OVF 1).raise die 0x0B 3).err die 0x0B 0x0103
      else s
    | none => s

/-- R319: the level and target phase that a rinse holds for a neighbour term. -/
def State.term (s : State) (n entry : Nat) : Nat × Nat := (Store.find? s.coord.terms (4 * n + entry)).getD (0, 0)

def State.setTerm (s : State) (n entry : Nat) (v : Nat × Nat) : State :=
  { s with coord := { s.coord with
      terms := Store.insert (Store.erase s.coord.terms (4 * n + entry)) (4 * n + entry) v } }

/-- R314, R319: a sync event acts on the neighbour term of a port. -/
def State.switchTerm (s : State) (die port entry : Nat) (c : TermChange) : State :=
  let n := aerial die port
  match c with
  | .on level phase => (s.setTerm n entry (level, phase)).setBit die (F.RCV_P_STAT_TERMS port) entry true
  | .off => s.setBit die (F.RCV_P_STAT_TERMS port) entry false
  | .level l => s.setTerm n entry (l, (s.term n entry).2)
  | .phase p => s.setTerm n entry ((s.term n entry).1, p)

/-- NEIGHBOUR_TERM_SWITCH (R286, R314, R319, R321): the oldest sync event on its way to the rinse of a port for an
adjacency entry acts: an energise of the neighbour switches its term on, the end of its down ramp off, and a change of
its level or phase is followed. -/
def execNeighbourTermSwitch (die port entry : Nat) (late : Bool) (s : State) : Out :=
  .next <| s.when (s.fieldDie die && decide (port < 8) && decide (entry < 4)) fun s =>
    let mine := fun (e : TermEvent) => e.port == aerial die port && e.entry == entry
    match s.coord.termEvents.find? mine with
    | none => s
    | some e =>
      let t : State := { s with coord := { s.coord with termEvents := s.coord.termEvents.eraseP mine } }
      (t.syncLate late).switchTerm die port entry e.change

end Sys2Proof.Machine
end

