-- ==== Sys2Proof/Machine/Inventory.lean ====
section
/-! DEFINITION. Inventory rounds (chapter 09): slots, findings, separation, follow-ups, pushed requests; and the ends of
frames, replies and windows, which every kind of exchange shares. -/

namespace Sys2Proof.Machine

/-- The count of a round, saturating in the record's field. -/
def bump (n : Nat) : Nat := satAdd 8 n 1

/-- R395, R398: the sighting of a found UID: its ticket, and whether it is an arrival. -/
def State.sightTag (s : State) (d p uid : Nat) : State × Nat × Bool :=
  let (s, ticket, arrival) := s.sight uid (aerial d p)
  match ticket with
  | some i => (s, i, arrival)
  | none =>
    (((s.countUp d F.INV_CNT_NOTICKET_COUNT F.INV_CNT_NOTICKET_OVF 1).raise d 0x0D 1).err d 0x0D 0x0103, noTicket, arrival)

/-- R382, R385: a UID from a single slot or from separation: found once, unless MAXTAGS is reached. -/
def State.findUid (s : State) (d p : Nat) (e : Exch) (body : List Byte) (sep : Bool) (slot ampl angle : Nat) :
    State × Exch :=
  let i := e.inv
  let m := e.member
  let uid := ((body.drop 2).take 8).foldr (fun b n => b.toNat + 256 * n) 0
  if i.found.any (fun t => t.uid == uid) then (s, e)
  else if m.maxTags ≤ i.found.length then (s, { e with inv := { i with unfound := true } })
  else
    let (s, ticket, arrival) := if m.tkt then s.sightTag d p uid else (s, noTicket, false)
    let t : FoundTag :=
      { uid := uid, dsfid := ((body[1]?).getD 0).toNat, sep := sep, slot := slot, ticket := ticket, ampl := ampl % 65536,
        angle := angle % 256, rstat := 15, data := [], time := i.reqRef, arrival := arrival, lastSeen := s.seconds }
    let i := { i with
      found := i.found ++ [t]
      newUids := i.newUids ++ [uid]
      sepUids := if sep then i.sepUids ++ [uid] else i.sepUids
      sepOk := if sep then bump i.sepOk else i.sepOk
      seen := if ticket = noTicket then i.seen else i.seen ++ [ticket] }
    (s, { e with inv := i })

/-- R384: the order of follow-ups: slots rising, within a slot the amplitude falling. -/
def FoundTag.first (a b : FoundTag) : Bool := decide (a.slot < b.slot) || (a.slot == b.slot && decide (b.ampl ≤ a.ampl))

def insertTag (t : FoundTag) : List FoundTag → List FoundTag
  | [] => [t]
  | x :: xs => if t.first x then t :: x :: xs else x :: insertTag t xs

def sortTags : List FoundTag → List FoundTag
  | [] => []
  | t :: ts => insertTag t (sortTags ts)

/-- R384: the follow-up frames of the running request. -/
def Inv.followUps (i : Inv) (m : Member) : List InvFrame :=
  ((sortTags (i.found.filter (fun t => i.newUids.contains t.uid))).map fun t =>
    (if m.actCode = 2 then [InvFrame.read t.uid] else []) ++
      (if t.sep ∨ m.actCode = 1 then [InvFrame.quiet t.uid] else [])).flatten

/-- R383: the requests that an unclear slot pushes, the one to be sent first at the head. -/
def pushesOf (cur : InvReq) (round16 resolved : Bool) (slot : Nat) : List InvReq :=
  if 64 ≤ cur.len then []
  else if cur.sixteen then
    [{ sixteen := !resolved && decide (cur.len + 4 ≤ 60), mask := cur.mask + slot * 2 ^ cur.len, len := cur.len + 4 }]
  else if resolved then [{ sixteen := false, mask := cur.mask, len := cur.len }]
  else if round16 && decide (cur.len ≤ 60) then [{ sixteen := true, mask := cur.mask, len := cur.len }]
  else
    [{ sixteen := false, mask := cur.mask, len := cur.len + 1 },
     { sixteen := false, mask := cur.mask + 2 ^ cur.len, len := cur.len + 1 }]

def SlotState.isResolved : SlotState → Bool
  | .resolved => true
  | _ => false

def InvFrame.isQuiet : InvFrame → Bool
  | .quiet _ => true
  | _ => false

def SlotState.isSolving : SlotState → Bool
  | .solving _ => true
  | _ => false

/-- R383: the running request is over: its unclear slots push, the lowest slot to be served first. -/
def State.pushRequests (s : State) (d p : Nat) (e : Exch) : State :=
  let i := e.inv
  let full := decide (64 ≤ i.cur.len) && !i.unclearSlots.isEmpty
  let s := if full && i.unclearSlots.any (fun x => !x.2.isResolved) then s.err d 0x0D 0x0104 else s
  let pushed := (i.unclearSlots.map (fun (slot, st) => pushesOf i.cur e.member.nslot16 st.isResolved slot)).flatten
  let i : Inv := { i with stack := pushed ++ i.stack, unclearSlots := [], maskFull := i.maskFull || full }
  let e := { e with inv := i }
  if i.stack.isEmpty ∨ e.member.maxReq ≤ i.requests ∨ e.member.maxTags ≤ i.found.length then
    let s := s.setExch d p e
    let s := if e.phase = .solve ∨ i.frame.isQuiet then s.cutSat d p e else s
    (s.finish d p { status := i.status e.member }).coordinate
  else (s.setExch d p { e with phase := .next, inv := { i with frame := .request } }).windowOver

/-- R384: the next follow-up, or what follows the last one. -/
def State.nextFollow (s : State) (d p : Nat) (e : Exch) : State :=
  match e.inv.follow with
  | f :: rest =>
    (s.setExch d p { e with phase := .next, inv := { e.inv with frame := f, follow := rest } }).windowOver
  | [] => s.pushRequests d p e

/-- R384: every slot of the request and every separation of it has ended. -/
def State.slotsDone (s : State) (d p : Nat) (e : Exch) : State :=
  if e.inv.unclearSlots.any (fun x => x.2.isSolving) then (s.setExch d p { e with phase := .solve }).windowOver
  else s.nextFollow d p { e with inv := { e.inv with follow := e.inv.followUps e.member } }

/-- R380: a slot is over: the next slot's EOF, or the end of the request's slots. -/
def State.slotOver (s : State) (d p : Nat) (e : Exch) : State :=
  let i := e.inv
  if i.cur.sixteen ∧ i.slot < 15 then
    (s.setExch d p { e with phase := .next, inv := { i with frame := .slotEof, slot := i.slot + 1 } }).windowOver
  else s.slotsDone d p e

/-- R388, R329: the streams left out of a slot that is over: those that broke or stopped in it, and those with a saturated
sample. Each is counted. -/
def State.slotStreams (s : State) (d : Nat) (e : Exch) (sat : List Nat) : State × Exch :=
  let i := e.inv
  let out := (i.broken ++ sat.filter e.listeners.contains).eraseDups
  (if out.isEmpty then s else s.raise d 0x0D 3,
   { e with inv := { i with broken := out, streamsLost := satAdd 8 i.streamsLost out.length } })

/-- R381, R387, R388: an unclear slot, which is separated when a stream is usable and none stopped. -/
def State.unclearSlot (s : State) (d p : Nat) (e : Exch) : State × Exch :=
  let i := e.inv
  let s := s.countUp d F.INV_CNT_UNCLEAR_COUNT F.INV_CNT_UNCLEAR_OVF 1
  let i : Inv := { i with unclear := bump i.unclear }
  if e.member.listen && s.portGet d p F.INV_SEP_SEP_EN == 1 then
    let usable : Nat := (e.listeners.filter (fun n => !i.broken.contains n)).length
    if usable = 0 ∨ i.stopped then (s, { e with inv := { i with unclearSlots := i.unclearSlots ++ [(i.slot, .unresolved)] } })
    else
      ((s.setDie d { s.die d with solves := (s.die d).solves ++ [(p, i.slot)] }).setBit d F.INV_STAT_SOLVING p true,
       { e with inv := { i with unclearSlots := i.unclearSlots ++ [(i.slot, .solving (usable + 1))] } })
  else (s, { e with inv := { i with unclearSlots := i.unclearSlots ++ [(i.slot, .unresolved)] } })

/-- R381: a slot with a reply is classed. The UID of a reply too short to hold one reads 0 in the bytes that are not there
(DESIGN CHOICE, log entry 110). -/
def State.slotReply (s : State) (d p : Nat) (e : Exch) (r : Reply) : State :=
  let ok := r.clean e.member.proto
  let err := ((r.data[0]?).getD 0).getLsbD 0
  if ok ∧ err then s.slotOver d p e
  else if ok ∧ e.timing = .accepted then
    let (s, e) := s.findUid d p e r.body false e.inv.slot e.ampl e.angle
    s.slotOver d p e
  else
    let (s, e) := s.unclearSlot d p e
    s.slotOver d p e

/-- R384, R402: a reply to a read single block. -/
def Exch.readReply (e : Exch) (uid : Nat) (r : Reply) : Exch :=
  let ok := r.clean e.member.proto
  if ok ∧ ((r.data[0]?).getD 0).getLsbD 0 then e.setRead uid 14 ((r.body.drop 1).take 1)
  else
    let st := replyStatus r.collision.isSome (!ok || r.body.length != e.member.readLen + 1) e.timing
    e.setRead uid st (if st = 0 then r.body.drop 1 else [])

/-- TX_FRAME_END (R343, R323): a frame's last pulse has ended; a stay quiet is followed at once by the round's next
frame (R384). A slice whose exchange has ended in the frame goes on to its held field-off (R226). -/
def execTxFrameEnd (die port : Nat) (resid : List (Nat × Nat)) (s : State) : Out :=
  .next <|
    match s.exch die port with
    | some e =>
      if e.phase = .transmit then
        let s := s.txEnd die port e resid
        match e.inv.frame with
        | .quiet _ =>
          (match s.exch die port with
            | some x => s.nextFollow die port x
            | none => s)
        | _ => s
      else s
    | none =>
      match s.servingSlice die port with
      | some sl => s.demodulated [(die, sl)]
      | none => s

/-- REPLY_END (R348): a reply is decoded to its end: the attempt's status is fixed, the activation goes on, or the
slot is classed. -/
def execReplyEnd (die port : Nat) (data : List Byte) (nbits : Nat) (parityOk : Bool) (collision : Option Nat)
    (sat : List Nat) (s : State) : Out :=
  .next <|
    match s.exch die port with
    | some e =>
      if e.phase = .listen ∧ e.fdt.isSome then
        let r : Reply := { data := data, nbits := nbits, parityOk := parityOk, collision := collision }
        let sat := e.chains die port sat
        let e := { e with sat := e.sat ++ sat }
        let m := e.member
        if m.kind = 0 then
          let x := m.decode r e.timing
          (s.storeRx die m x.data).attemptEnd die port e x
        else if m.kind = 1 then s.actGo die port e (e.act.replyA r e.timing (s.portGet die port F.XEN_TYPEA_CHOOSE == 1))
        else if m.kind = 2 then s.actGo die port e (e.act.replyB r e.timing m.nexp)
        else
          match e.inv.frame with
          | .read uid => s.nextFollow die port (e.readReply uid r)
          | _ =>
            let (s, e) := s.slotStreams die e sat
            s.slotReply die port e r
      else s
    | none => s

/-- RESPONSE_WINDOW_END (R345, R371, R380): no reply start has come; samples may have saturated (R303). -/
def execResponseWindowEnd (die port : Nat) (sat : List Nat) (s : State) : Out :=
  .next <|
    match s.exch die port with
    | some e =>
      if e.phase = .listen ∧ e.fdt.isNone then
        let sat := e.chains die port sat
        let e := { e with sat := e.sat ++ sat }
        let m := e.member
        if m.kind = 0 then
          if m.eofReq && !e.eofSent then s
          else s.attemptEnd die port e { status := if m.resp = 0 then 0 else 1 }
        else if m.kind = 1 then s.attemptEnd die port e { status := 1, coll := e.act.collPos }
        else if m.kind = 2 then s.actGo die port e (e.act.slotDone m.nexp)
        else
          match e.inv.frame with
          | .read uid => s.nextFollow die port (e.setRead uid 1 [])
          | _ =>
            let (s, e) := s.slotStreams die e sat
            s.slotOver die port e
      else s
    | none => s

/-- INV_SLOT_EOF (R380): the gap or T3 is over: the slot's EOF or the round's next frame starts. -/
def execInvSlotEof (die port : Nat) (s : State) : Out :=
  .next <|
    match s.exch die port with
    | some e => if e.phase = .next ∧ e.member.kind = 3 ∧ s.fieldOn die port then s.startTx die port e else s
    | none => s

/-- A solved reply: bytes, amplitude, angle, residual in 0.1 dB. -/
abbrev Solved := List Byte × Nat × Nat × Nat

/-- Solved replies in order of falling amplitude (R385). -/
def insertSolved (x : Solved) : List Solved → List Solved
  | [] => [x]
  | y :: ys => if y.2.1 ≤ x.2.1 then x :: y :: ys else y :: insertSolved x ys

def sortSolved : List Solved → List Solved
  | [] => []
  | x :: xs => insertSolved x (sortSolved xs)

/-- R390: a solved reply that passes every test, but for its UID differing from those accepted before. -/
def State.solvedOk (s : State) (d : Nat) (e : Exch) (slot : Nat) (x : Solved) : Bool :=
  let bs := x.1
  let uid := (((bs.drop 2).take 8)).foldr (fun b n => b.toNat + 256 * n) 0
  let c := e.inv.cur
  crcValid e.member.proto bs && bs.length == 12 && !(((bs[0]?).getD 0).getLsbD 0)
    && uid % 2 ^ c.len == c.mask % 2 ^ c.len && (!c.sixteen || uid / 2 ^ c.len % 16 == slot)
    && decide (s.portGet d e.member.port F.INV_SEP_RESID_LIM ≤ x.2.2.2)

/-- R390: accepted replies: those that pass and whose UID none accepted before carries. -/
def acceptSolved (ok : Solved → Bool) : List Solved → List Solved → List Solved
  | [], acc => acc
  | x :: xs, acc =>
    if ok x && !acc.any (fun y => (y.1.drop 2).take 8 == (x.1.drop 2).take 8) then acceptSolved ok xs (acc ++ [x])
    else acceptSolved ok xs acc

/-- The state of an unclear slot is set. -/
def Inv.setSlot (i : Inv) (slot : Nat) (st : SlotState) : Inv :=
  { i with unclearSlots := i.unclearSlots.map (fun x => if x.1 = slot then (x.1, st) else x) }

/-- R384: once no solve of the request runs, SOLVING clears and a round that waited goes on. -/
def State.solveOver (s : State) (d p : Nat) (e : Exch) : State :=
  if e.inv.unclearSlots.any (fun x => x.2.isSolving) then s.setExch d p e
  else
    let s := s.setBit d F.INV_STAT_SOLVING p false
    if e.phase = .solve then s.slotsDone d p e else s.setExch d p e

/-- R389: the components of the covariance of `m` streams that lie more than EST_DB above the noise level of 1: its
eigenvalues in 0.1 dB. -/
def State.components (s : State) (d p m : Nat) (eigen : List Int) : Nat :=
  ((eigen.take m).filter (fun v => decide ((s.portGet d p F.INV_SEP_EST_DB : Int) < v))).length

/-- R389 to R391: a solve with `k` components and `m` streams. -/
def State.solve (s : State) (d p : Nat) (e : Exch) (slot m k : Nat) (replies : List Solved) : State :=
  if 3 < k ∨ m < k then s.solveOver d p { e with inv := e.inv.setSlot slot .unresolved }
  else
    let acc := acceptSolved (s.solvedOk d e slot) (sortSolved (replies.take k)) []
    let e := { e with inv := { e.inv with sepTried := bump e.inv.sepTried } }
    let (s, e) := acc.foldl (fun (x : State × Exch) r =>
      x.1.findUid d p x.2 (r.1.take 10) true slot r.2.1 r.2.2.1) (s, e)
    if acc.length = k then
      (s.countUp d F.INV_CNT_SEPOK_COUNT F.INV_CNT_SEPOK_OVF 1).solveOver d p
        { e with inv := e.inv.setSlot slot .resolved }
    else
      (s.countUp d F.INV_CNT_SEPFAIL_COUNT F.INV_CNT_SEPFAIL_OVF 1).solveOver d p
        { e with inv := e.inv.setSlot slot .unresolved }

/-- SEPARATION_SOLVE_END (R389 to R392): a solve of an unclear slot ends, with the eigenvalues that it found; the unit of a
die solves the two slots that have waited longest. -/
def execSeparationSolveEnd (die port slot : Nat) (eigen : List Int) (replies : List (List Byte × Nat × Nat × Nat)) (s : State) : Out :=
  .next <|
    match s.exch die port with
    | some e =>
      match Store.find? e.inv.unclearSlots slot with
      | some (.solving m) =>
        s.when (((s.die die).solves.take 2).contains (port, slot)) fun s =>
          (s.setDie die { s.die die with solves := (s.die die).solves.erase (port, slot) }).solve die port e slot m
            (s.components die port m eigen) replies
      | _ => s
    | none => s

end Sys2Proof.Machine
end

