-- ==== Sys2Proof/Machine/PleCode.lean ====
section
/-! DEFINITION. Poll list programs as words (R505, R508, R520, R527): fields of an instruction and the check of a
program. -/

namespace Sys2Proof.Machine

/-- Program word `w` (R505). -/
def State.progWord (s : State) (w : Nat) : Word := s.memWord (hostAddr 0 0xB0 0 + 4 * (w % 4096))

/-- Opcode and the variable fields of word 0 (R527). -/
def opOf (w : Word) : Nat := bits w 27 5
def fieldA (w : Word) : Nat := bits w 20 6
def fieldB (w : Word) : Nat := bits w 14 6
def fieldC (w : Word) : Nat := bits w 8 6
def fieldD (w : Word) : Nat := bits w 2 6

/-- MOVW, LOAD, STORE, SCALE, TIME and RADIO have a second word. -/
def twoWords (op : Nat) : Bool := op == 3 || op == 4 || op == 5 || op == 8 || op == 15 || op == 24

/-- The bits of word 0 that an opcode defines; none for a reserved opcode. -/
def word0Mask (op : Nat) : Option Nat :=
  match op with
  | 0 => some 0xF8000000
  | 1 => some 0xF8FFFFFF
  | 2 => some 0xFBF0FFFF
  | 3 | 4 | 5 => some 0xFBF00000
  | 6 | 7 => some 0xFBFFFF00
  | 8 => some 0xFBFFC000
  | 9 => some 0xFBFFFFF1
  | 10 => some 0xFBFFC00F
  | 11 => some 0xFBFFFF00
  | 12 => some 0xFBFFC01F
  | 13 => some 0xFBFFFFFC
  | 14 | 15 => some 0xFBF00000
  | 16 => some 0xFBC00FFF
  | 17 => some 0xFB8FDFFF
  | 18 => some 0xF800000F
  | 19 => some 0xF800001F
  | 20 => some 0xFBFFFC3F
  | 21 => some 0xFBFFFFFF
  | 22 => some 0xFBF0070F
  | 23 => some 0xFBF7E1FF
  | 24 => some 0xFBFFFC0F
  | _ => none

/-- The bits of word 1 that an opcode defines. -/
def word1Mask (op : Nat) : Nat :=
  if op = 4 ∨ op = 5 then 0x00FFFFFF else if op = 8 then 0xFFFF001F else if op = 24 then 0x001FFFFF else 0xFFFFFFFF

/-- R551: the sensor serial data buffers lie at SSC page offsets 0x400 to 0x7FF. -/
def sscBuffer (die page off : Nat) : Bool := die == 0 && page == 0x0C && decide (0x400 ≤ off ∧ off < 0x800)

/-- R520: an address that LOAD may read. -/
def loadAddrOk (a : Nat) : Bool :=
  let page := a / 4096 % 256
  decide (a / 1048576 = 0) && decide (a % 4 = 0) &&
    (decide (0x80 ≤ page ∧ page ≤ 0xC7) || (decide (page ≤ 0x16) && ((RegTable.lookup 0 page (a % 4096)).isSome || sscBuffer 0 page (a % 4096))))

/-- R520: an address that STORE may write. -/
def storeAddrOk (a : Nat) : Bool :=
  let page := a / 4096 % 256
  decide (a / 1048576 = 0) && decide (a % 4 = 0) && decide (1 ≤ page ∧ page ≤ 0x16)
    && !(page == 6 || page == 7 || page == 0x0B || page == 0x14)

/-- R527, R508: fields and variable spans in range, and allowed addresses; BRANCH targets are checked apart. -/
def fieldsOk (w v : Word) : Bool :=
  let a := fieldA w
  let b := fieldB w
  match opOf w with
  | 4 => loadAddrOk v.toNat
  | 5 => storeAddrOk v.toNat
  | 9 => decide (bits w 9 5 + (bits w 4 5 + 1) ≤ 32)
  | 10 => decide (1 ≤ bits w 0 4)
  | 11 => decide (fieldC w + 3 ≤ 63)
  | 12 => decide (2 ≤ bits w 0 5 ∧ bits w 0 5 ≤ 16 ∧ b + bits w 0 5 ≤ 64)
  | 14 => decide (a + 3 ≤ 63)
  | 15 => decide (a + 1 ≤ 63)
  | 17 => decide (bits w 8 5 ≤ 16 ∧ b + bits w 8 5 ≤ 64)
  | 20 => decide (bits w 10 4 ≤ 8 ∧ a + bits w 10 4 ≤ 64 ∧ b + bits w 10 4 ≤ 64)
  | 21 => decide (1 ≤ bits w 10 4 ∧ bits w 10 4 ≤ 8 ∧ a + bits w 10 4 ≤ 64 ∧ b + bits w 10 4 ≤ 64)
  | 23 => decide (1 ≤ bits w 16 3 ∧ a + 2 ≤ 63)
  | 24 => decide (bits w 10 2 ≤ 2)
  | _ => true

/-- One instruction's words as the check of R508 sees them. -/
def instrOk (w v : Word) : Bool :=
  match word0Mask (opOf w) with
  | some m => w.toNat &&& m == w.toNat
      && (!twoWords (opOf w) || v.toNat &&& word1Mask (opOf w) == v.toNat) && fieldsOk w v
  | none => false

/-- The first words of the instructions from `pc` to `last`; none when one is not valid or its second word lies past LAST. -/
def State.progStarts (s : State) (last : Nat) : Nat → Nat → Option (List Nat)
  | 0, _ => some []
  | fuel + 1, pc =>
    if last < pc then some []
    else
      let w := s.progWord pc
      let n := if twoWords (opOf w) then 2 else 1
      if last < pc + n - 1 ∨ !instrOk w (s.progWord (pc + 1)) then none
      else (s.progStarts last fuel (pc + n)).map (pc :: ·)

/-- R508: the program of a list. -/
def State.progOk (s : State) (start last : Nat) : Bool :=
  decide (start ≤ last) &&
    (match s.progStarts last (last + 1 - start) start with
      | some l => l.all (fun pc => opOf (s.progWord pc) != 16 || l.contains (bits (s.progWord pc) 0 12))
      | none => false)

/-- R511: a trigger setting. -/
def triggerOk (kind sel period : Nat) : Bool :=
  match kind with
  | 0 => true
  | 1 => decide (1 ≤ period)
  | 2 => decide (sel / 16 % 4 ≠ 0)
  | 3 => true
  | 4 => decide (sel % 8 ≠ 0) && (decide (sel / 256 % 64 ≤ 55) || decide (sel / 256 % 64 = 63))
  | _ => false

end Sys2Proof.Machine
end

