-- ==== Sys2Proof/Machine/CommitCheck.lean ====
section
/-! DEFINITION. The plausibility check of a commit (R105): the legal ranges of the shadowed fields of every page. The
proposed words are given as a function of the offset; it is the shadow set of a commit, or the values a profile stages. -/

namespace Sys2Proof.Machine

/-- A field of the proposed words. -/
def prop (w : Nat → Word) (f : Fld) : Nat := bits (w f.off) f.lo f.width

/-- A field of the proposed words lies in a range. -/
def inRange (w : Nat → Word) (f : Fld) (lo hi : Nat) : Bool := decide (lo ≤ prop w f ∧ prop w f ≤ hi)

/-- A port that the package contains. -/
def State.portPresent (s : State) (n : Nat) : Bool := decide (n ≤ 55) && s.fieldDie (portDie n)

/-- R282: an adjacency entry of port `n`. -/
def State.adjOk (s : State) (n x : Nat) : Bool :=
  x == 0xFF || (s.portPresent x && x != n && decide (portDie x ≤ portDie n + 1 ∧ portDie n ≤ portDie x + 1))

/-- R281: enabled steering entries. -/
def State.steerOk (s : State) (w : Nat → Word) : Bool :=
  let on := (List.range 16).filter (fun k => prop w (F.FCO_STEER_EN k) == 1)
  let ports := (on.map (fun k => [prop w (F.FCO_STEER_PORT_A k), prop w (F.FCO_STEER_PORT_B k)])).flatten
  on.all (fun k =>
      let a := prop w (F.FCO_STEER_PORT_A k)
      let b := prop w (F.FCO_STEER_PORT_B k)
      let adj := w (0x200 + 4 * a)
      s.portPresent a && s.portPresent b && decide (prop w (F.FCO_STEER_LEVEL_PCT k) ≤ 100)
        && [0, 1, 2, 3].any (fun i => bits adj (8 * i) 8 == b))
    && decide (ports.eraseDups.length = ports.length)

/-- The legal ranges of the FCO page. -/
def State.fcoOk (s : State) (w : Nat → Word) : Bool :=
  inRange w F.FCO_BUDGET_BUDGET 0 4000 && inRange w F.FCO_VSUP_RUN 1500 2750 && inRange w F.FCO_VSUP_IDLE 1500 2750
    && inRange w F.FCO_WAKE_LEAD 100 1000 && inRange w F.FCO_AGE_SINGLE 1 65535
    && (List.range 56).all (fun n => inRange w (F.FCO_PORT_MAXLISTEN n) 0 4
          && [0, 1, 2, 3].all (fun i => s.adjOk n (bits (w (0x200 + 4 * n)) (8 * i) 8)))
    && (List.range 64).all (fun n => inRange w (F.FCO_PLAN_CFG_COUNT n) 0 128 && inRange w (F.FCO_PLAN_CFG_PERIOD n) 1 65535)
    && s.steerOk w

/-- R508, R511: the trigger of every list, and the program of every list that is enabled. -/
def State.pleOk (s : State) (w : Nat → Word) : Bool :=
  inRange w F.PLE_CFG_MAXSTEP 16 65535 && (List.range 32).all fun n =>
    let kind := prop w (F.PLE_L_TRIG_KIND n)
    triggerOk kind (prop w (F.PLE_L_TRIG_SEL n)) (prop w (F.PLE_L_PERIOD_PERIOD n)) && (prop w (F.PLE_L_CFG_EN n) == 0
      || s.progOk (prop w (F.PLE_L_CFG_START n)) (prop w (F.PLE_L_CFG_LAST n)))

/-- The legal ranges of the SSC page. -/
def sscOk (w : Nat → Word) : Bool :=
  (List.range 64).all fun t => inRange w (F.SSC_T_FRAME_CMD_BITS t) 0 32 && inRange w (F.SSC_T_FRAME_ADDR_BITS t) 0 32
    && inRange w (F.SSC_T_FRAME_DIV t) 1 255 && inRange w (F.SSC_T_DATA_DATA_BITS t) 0 2048

/-- The ramp steps of RFX_RAMP0 to RFX_RAMP3 in order, and the taps of the FIR. -/
def rampSteps (w : Nat → Word) : List Nat := (List.range 16).map (fun i => bits (w (0x040 + 4 * (i / 4))) (8 * (i % 4)) 8)

def firSum (w : Nat → Word) : Int :=
  (List.range 16).foldl (fun v i => v + signed 10 (bits (w (0x060 + 4 * i)) 16 10) + signed 10 (bits (w (0x060 + 4 * i)) 0 10)) 0

def rising : List Nat → Bool
  | a :: b :: t => decide (a ≤ b) && rising (b :: t)
  | _ => true

/-- The legal ranges of the RFX page (R469, R470). -/
def rfxOk (w : Nat → Word) : Bool :=
  decide (signed 8 (prop w F.RFX_DET_RSSI_THR) ≤ -40) && inRange w F.RFX_DET_SFD_WIN 16 64 && inRange w F.RFX_DET_PRE_QUAL 2 12
    && inRange w F.RFX_CAPT_CAPT_DB 3 30 && inRange w F.RFX_TXCFG_RAMP_T 2 32 && inRange w F.RFX_TXCFG_POWER 0 48
    && rising (rampSteps w) && decide ((rampSteps w).getLast? = some 255) && decide (firSum w ≠ 0)
    && (List.range 4).all (fun i => decide (bits (w (0x0A0 + 4 * i)) 16 16 ≤ 1000) && decide (bits (w (0x0A0 + 4 * i)) 0 7 ≤ 80))

/-- R478: the frequency of a hop entry. -/
def hopFreqOk (f : Nat) : Bool := decide (863000 ≤ f ∧ f ≤ 870000) || decide (902000 ≤ f ∧ f ≤ 928000)

/-- R583, R586, R601: the layout and watermarks of the hamper. -/
def State.hmpOk (s : State) (w : Nat → Word) : Bool :=
  let k := fun (n : Nat) => bits (w 0x020) (8 * n) 5
  let lay := [0, 1, 2, 3].all (fun n => decide (8 ≤ k n ∧ k n ≤ 16)) && decide (2 ^ k 0 + 2 ^ k 1 + 2 ^ k 2 + 2 ^ k 3 ≤ 65536)
  let same := w 0x020 == s.reg 0 0x08 0x020
  let empty := [0, 1, 2, 3].all (fun c => decide ((Store.get s.classes c {}).free = 2 ^ bits (s.reg 0 0x08 0x020) (8 * c) 5))
  (same || (lay && empty)) && decide (bits (w 0x024) 0 17 ≤ 65536) && decide (bits (w 0x028) 0 17 ≤ 65536)
    && decide (bits (w 0x028) 0 17 < bits (w 0x024) 0 17)

/-- R105: the check of the whole shadow set of a page. -/
def State.commitOk (s : State) (die page : Nat) (w : Nat → Word) : Bool :=
  if die = 0 then
    match page with
    | 0x03 => inRange w F.PWR_CFG_ENTRY_TO 1 255
        && (prop w F.PWR_VSLEEP_TARGET == 0 || inRange w F.PWR_VSLEEP_TARGET 1500 2750)
    | 0x04 => decide (bits (w 0x020) 8 2 ≤ 2) && decide (1 ≤ bits (w 0x020) 0 8)
    | 0x06 => inRange w F.HSP_CFG_DUMMY 0 32
    | 0x07 =>
      let a := prop w F.HTW_HOSTADDR_ADDR
      inRange w F.HTW_CFG_ATTN_SPEED 0 2 && inRange w F.HTW_CFG_TLOW 10 35 && decide (8 ≤ a ∧ a ≤ 0x77)
        && a != s.get 0 F.HTW_STAT_OWN_ADDR
    | 0x08 => s.hmpOk w
    | 0x09 => s.tktCommitOk
    | 0x0A => s.fcoOk w
    | 0x0B => s.pleOk w
    | 0x0C => sscOk w
    | 0x0D => inRange w F.SSL_CFG_RECMAX 1 64 && inRange w F.SSL_CFG_WIDTH 3 31
    | 0x0E => inRange w F.SAF_CFG_RATE 1 64 && inRange w F.SAF_CMPCFG_STROBE 0 10
    | 0x0F => rfxOk w
    | 0x10 => inRange w F.RFC_TXDL_DEADLINE 50 65535 && (List.range 128).all (fun n => hopFreqOk (prop w (F.RFC_HOP_FREQ n)))
    | 0x11 => decide (s.get 0 F.SEC_TXCTR_CTR ≤ prop w F.SEC_TXCTR_CTR)
    | 0x12 => inRange w F.CAL_CFG_MAXDEFER 1 255 && inRange w F.CAL_CFG_LEVEL 20 250 && inRange w F.CAL_CFG_DT 1 32
        && (List.range 16).all (fun i => decide (signed 16 (prop w (F.CAL_LIM_A_MIN (i + 1))) ≤ signed 16 (prop w (F.CAL_LIM_A_MAX (i + 1)))))
    | 0x14 => inRange w F.NVS_CFG_LOAD_TO 1 255
    | 0x16 => decide ((w 0x028).toNat / 65536 % 256 &&& (w 0x028).toNat / 256 % 256 = 0)
    | _ => true
  else if 1 ≤ page ∧ page ≤ 10 then
    let sl := page - 1
    inRange w (F.SLC_LIMIT_LIMIT sl) 0 1000 && inRange w (F.SLC_CW_TIME sl) 1 255 && inRange w (F.SLC_CW_LEVEL sl) 1 1000
  else
    match page with
    | 0x0B => inRange w F.RCV_CFG_DRIFT_LIM 200 800 && (List.range 8).all (fun p => inRange w (F.RCV_P_CFG_ATT p) 0 5)
    | 0x0C => inRange w F.XEN_CFG_RGAP 128 65535 && inRange w F.XEN_TYPEA_PAUSE 28 40
    | 0x0D => inRange w F.INV_SEP_RESID_LIM 60 400 && inRange w F.INV_SEP_EST_DB 30 200 && inRange w F.INV_DEPART_N 1 255
        && inRange w F.INV_TIM_T3_LOW 7424 65535 && inRange w F.INV_TIM_T3_HIGH 5120 65535
    | 0x0E => (List.range 8).all fun p =>
        inRange w (F.CWT_P_PROBE_BURST p) 4 32 && inRange w (F.CWT_P_PROBE_LEVEL p) 20 200
          && inRange w (F.CWT_P_THR_THR_A p) 1 500 && inRange w (F.CWT_P_THR_THR_P p) 1 900 && inRange w (F.CWT_P_TRACK_TAU p) 1 255
          && inRange w (F.CWT_P_CFG_PERIOD p) 50 2000
    | _ => true

end Sys2Proof.Machine
end

