-- ==== Sys2Proof/Machine/RadioRx.lean ====
section
/-! DEFINITION. The receiver (chapter 11): detection, the free-running correlator, capture, the header and its credits,
the end of a reception and the security check of its payload. -/

namespace Sys2Proof.Machine

/-- RSSI_THR in the 0.5 dB steps of RSSI (R447, R458). -/
def State.rssiThr (s : State) : Int := 2 * signed 8 (s.get 0 F.RFX_DET_RSSI_THR)

/-- RX_RSSI_DETECT (R448): the RSSI over 8 chips is at or above RSSI_THR: SEARCH to DETECT. -/
def execRxRssiDetect (rssi : Int) (s : State) : Out :=
  .next <| s.when (s.rxState == 1 && decide (s.rssiThr ≤ rssi)) fun s => s.setRx 2

/-- RX_PREAMBLE_QUALIFIED (R448): DETECT to QUALIFIED. -/
def execRxPreambleQualified (s : State) : Out := .next <| s.when (s.rxState == 2) fun s => s.setRx 3

/-- RX_DETECT_TIMEOUT (R448): DETECT back to SEARCH, after 32 symbols or with the RSSI below RSSI_THR − 3 dB. -/
def execRxDetectTimeout (symbols : Nat) (rssi : Int) (s : State) : Out :=
  .next <| s.when (s.rxState == 2 && (decide (32 ≤ symbols) || decide (rssi < s.rssiThr - 6))) fun s => s.setRx 1

/-- RX_SFD_TIMEOUT (R448): QUALIFIED back to SEARCH; a false detection is counted. -/
def execRxSfdTimeout (s : State) : Out :=
  .next <| s.when (s.rxState == 3) fun s =>
    ((s.setRx 1).countUp 0 F.RFX_CNT_FALSEDET_COUNT F.RFX_CNT_FALSEDET_OVF 1).raise 0 0x0F 0

/-- R452, R455: a frame refused for lack of credit. -/
def State.rxRefused (s : State) : State :=
  ((s.countUp 0 F.RFX_CNT_REFUSED_COUNT F.RFX_CNT_REFUSED_OVF 1).raise 0 0x0F 2).err 0 0x0F 0x0101

/-- R451: a reception begins at its start-of-frame word with 6 words reserved. -/
def State.beginRx (s : State) (noqual : Bool) (st : Nat) : State :=
  let c := s.get 0 F.RFX_RXCFG_CLASS
  let s := s.reserve c 6
  let r : RxRun := ⟨noqual, false, s.time, c, 6, 0, 0, s.radio.noise, s.flag 0 F.RFX_CFG_ISARI⟩
  { s with radio := { s.radio with rx := some r } }.setRx st

/-- R451: 6 words can be reserved in the receiver's class. -/
def State.rxCredit (s : State) : Bool := s.canReserve (s.get 0 F.RFX_RXCFG_CLASS) 6

/-- A latched RSSI (R458). -/
def State.latchRssi (s : State) (rssi : Int) : State := s.set 0 F.RFX_RSSI_LATCHED (field 16 rssi)

/-- RX_SFD_FOUND (R449, R451, R452): the detection path takes the word, in QUALIFIED. -/
def execRxSfdFound (rssi : Int) (s : State) : Out :=
  .next <| s.when (s.rxState == 3) fun s =>
    if s.rxCredit then (s.beginRx false 5).latchRssi rssi else s.rxRefused.setRx 1

/-- RX_FREE_SFD (R448, R450, R452): the free-running correlator alone finds the word. -/
def execRxFreeSfd (s : State) : Out :=
  .next <| s.when (s.rxState == 1 || s.rxState == 2 || s.rxState == 3) fun s =>
    if s.rxCredit then s.beginRx true 4 else s.rxRefused.setRx 1

/-- RX_CAPTURE (R454, R455): a start-of-frame word CAPT_DB above the latched RSSI captures the receiver, or is refused. -/
def execRxCapture (rssi : Int) (ownWord : Bool) (s : State) : Out :=
  .next <| s.when (s.receiving && s.flag 0 F.RFX_CAPT_CAPT_EN && !ownWord
      && decide (signed 16 (s.get 0 F.RFX_RSSI_LATCHED) + 2 * (s.get 0 F.RFX_CAPT_CAPT_DB : Nat) ≤ rssi)) fun s =>
    if s.rxCredit then
      let s := ((s.cutRx 2).countUp 0 F.RFX_CNT_CAPTURED_COUNT F.RFX_CNT_CAPTURED_OVF 1).raise 0 0x0F 1
      (s.beginRx true 4).coordinate
    else s.rxRefused

/-- R457: the gain of one of the 25 steps of 3 dB, from 0 dB to 72 dB. -/
def gainOf (step : Nat) : Nat := 3 * min 24 step

/-- RX_AGC_RERUN_END (R448, R450, R457, R458). -/
def execRxAgcRerunEnd (rssi : Int) (step : Nat) (s : State) : Out :=
  .next <| s.when (s.rxState == 4) fun s => ((s.setRx 5).latchRssi rssi).set 0 F.RFX_STAT_GAIN (gainOf step)

/-- Payload bytes of a frame without its CRC (R461). -/
def RxRun.plain (r : RxRun) : Nat := if r.isari then r.header - 2 else r.header / 256 - 4

/-- R451, R465: a header that is refused. -/
def State.headerBad (s : State) (isari : Bool) (h : Nat) : Bool :=
  if isari then decide (h < 3 ∨ 64 < h)
  else
    let mode := h / 32 % 8
    decide (headerCheck h ≠ h % 16 ∨ h / 256 < 4 ∨ 2 < mode) || !(s.get 0 F.RFX_CFG_MODE_EN).testBit mode
      || (h / 16 % 2 == 0 && !s.flag 0 F.RFX_CFG_UNCODED_EN)

/-- The reception is dropped without a record; its reservation returns (R12). -/
def State.dropRx (s : State) (r : RxRun) : State :=
  ({ s with radio := { s.radio with rx := none } }.unreserve r.cls r.reserved).setRx 1

/-- RX_HEADER_END (R451, R452): the header is refused, or accepted with its reservation raised. -/
def execRxHeaderEnd (header : Nat) (fofs : Int) (s : State) : Out :=
  .next <| s.when (s.rxState == 5) fun s =>
    match s.radio.rx with
    | some r =>
      let h := if r.isari then header % 256 else header % 65536
      if s.headerBad r.isari h then
        (((s.dropRx r).countUp 0 F.RFX_CNT_HDRFAIL_COUNT F.RFX_CNT_HDRFAIL_OVF 1).raise 0 0x0F 3).coordinate
      else
        let r := { r with header := h, fofs := fofs }
        let more := (r.plain + 3) / 4
        if s.canReserve r.cls more then
          let s := s.reserve r.cls more
          { s with radio := { s.radio with rx := some { r with reserved := r.reserved + more } } }.setRx 6
        else ((s.dropRx r).rxRefused).coordinate
    | none => s

/-- R498, R616: the security check of a received payload: AUTH, TICKET and the bytes that the record stores. -/
def State.rxSecurity (s : State) (pl : List Byte) : State × Nat × Nat × List Byte :=
  let ctl := ((pl[8]?).map BitVec.toNat).getD 0
  if !s.flag 0 F.SEC_CFG_RX_SEC ∨ pl.length < 13 ∨ ctl % 8 = 0 then (s, 0, noTicket, pl)
  else
    let ident := (pl.take 8).foldl (fun n b => n * 256 + b.toNat) 0
    let ctr := (((pl.drop 9).take 4).reverse).foldl (fun n b => n * 256 + b.toNat) 0
    match if s.pageOn 0 0x09 then s.findTicket 3 ident else none with
    | none => (s.raise 0 0x11 0, 2, noTicket, pl)
    | some i =>
      let t := s.ticket i
      if ctr ≤ t.last.toNat then ((s.setTicket i (t.setState (satAdd 8 t.state 1))).raise 0 0x11 1, 3, i, pl)
      else
        let key := if t.keyed then Store.get s.radio.keys t.keySlot [] else []
        match if key.isEmpty then none else secOpen key ident ctr ctl (pl.drop 13) with
        | some body => (s.setTicket i ((t.setLast ctr).setHome s.chan), 1, i, pl.take 13 ++ body)
        | none => (s.raise 0 0x11 0, 2, i, pl)

/-- R462: the header and payload copied into the RX buffer window; in Isari mode the header is one byte, and what the
second one holds is open. -/
def State.rxBuffer (s : State) (r : RxRun) (payload : List Byte) : State :=
  let (s, v) := if r.isari then s.fresh else (s, 0)
  let hdr : List Byte := if r.isari then [BitVec.ofNat 8 r.header, BitVec.ofNat 8 v]
    else [BitVec.ofNat 8 (r.header / 256), BitVec.ofNat 8 r.header]
  let put := fun (m : List Host.Cell) (e : Byte × Nat) => Memory.writeByte m (hostAddr 0 0xB9 e.2) e.1
  { s with mem := ((hdr ++ payload).zipIdx).foldl put s.mem }

/-- RX_PAYLOAD_END (R460, R461, R462, R498): the reception is complete. -/
def execRxPayloadEnd (payload : List Byte) (s : State) : Out :=
  .next <| s.when (s.rxState == 6) fun s =>
    match s.radio.rx with
    | some r =>
      let (fec, mode, len) := if r.isari then (0, 0, r.header) else (r.header / 16 % 2, r.header / 32 % 8, r.header / 256)
      s.when (payload.length == len) fun s =>
        let body := payload.take r.plain
        let crc := payload.drop r.plain
        let good := if r.isari then
            let c := crcIsari (BitVec.ofNat 8 r.header :: body)
            crc == [BitVec.ofNat 8 (c / 256), BitVec.ofNat 8 c]
          else crc == le4 (crc32 body)
        let s := { s with radio := { s.radio with rx := none } }.setRx 1
        let s := s.rxBuffer r payload
        let s := if good then s else s.countUp 0 F.RFX_CNT_CRCFAIL_COUNT F.RFX_CNT_CRCFAIL_OVF 1
        let (s, auth, tkt, data) := if good then s.rxSecurity body else (s, 0, noTicket, body)
        let s := s.rxRecord r (if good then 0 else 1) fec mode len (field 16 r.fofs) auth tkt data
        (if auth = 1 then s.ticketTrigger 3 0 tkt s.time else s).coordinate
    | none => s

/-- RSSI_UPDATE (R457, R458): LIVE is updated in RX; the gain moves while the AGC runs. -/
def execRssiUpdate (rssi : Int) (step : Nat) (s : State) : Out :=
  .next <| s.when (s.rstate == 4) fun s =>
    let s := s.set 0 F.RFX_RSSI_LIVE (field 16 rssi)
    let s := if s.rxState = 1 ∨ s.rxState = 2 then s.set 0 F.RFX_STAT_GAIN (gainOf step) else s
    if s.rxState = 1 then { s with radio := { s.radio with noise := some rssi } } else s

end Sys2Proof.Machine
end

