-- ==== Sys2Proof/Machine/Sensor.lean ====
section
/-! DEFINITION. The sensor serial controller, the listener and the analogue inputs (chapter 14). -/

namespace Sys2Proof.Machine

/-- A pad group is held (R673). -/
def State.padHeld (s : State) (g : Nat) : Bool := (s.get 0 F.PWR_STAT_PADHELD).testBit g

/-- The words that the GP pins show: PG_CTRL, GPP_DIR, GPP_OUT and GPP_MODE, latched while the GP group is held (R673,
R674). -/
def State.gpWords (s : State) : List Word :=
  if s.padHeld 0 then s.power.padLatch.take 4
  else [s.reg 0 0x16 0x004, s.reg 0 0x16 0x020, s.reg 0 0x16 0x024, s.reg 0 0x16 0x028]

/-- SSC_SELCFG as the selects show it: the latched word while the SENSOR group is held (R673). -/
def State.selWord (s : State) : Word :=
  if s.padHeld 1 then (s.power.padLatch[4]?).getD 0 else s.reg 0 F.SSC_SELCFG_DRIVE.page F.SSC_SELCFG_DRIVE.off

/-- R548: SSCK and SSDO are high impedance while the page is OFF or in FAULT. -/
def State.sscHighZ (s : State) : Bool := s.pageState 0 0x0C == 0 || s.pageState 0 0x0C == 5

/-- R544: the idle level of SSCK: high in modes 2 and 3. -/
def sckIdle (mode : Nat) : Bool := decide (2 ≤ mode % 4)

/-- R544, R548, R673: SSCK and SSDO between entries: the idle level of the last entry's mode, and low; while the SENSOR
group is held, what was latched. -/
def State.sscRest (s : State) : Option (Bool × Bool) :=
  if s.padHeld 1 then s.power.sscLatch else if s.sscHighZ then none else some (sckIdle s.ssc.mode, false)

/-- R554, R578: an entry ends: a host entry places its status in the done FIFO and raises ENTRY_DONE, whatever the status
(DEDUCED, log entry 115), and SEL_OFF or ABORTED with it; a poll entry's result waits for its list. -/
def State.sscEnd (s : State) (e : SscEntry) (status : Nat) (input : List Word) (moved : Bool) : State :=
  match e.list with
  | some l =>
    if 32 ≤ l then s
    else if moved ∨ status = 0 then
      { s with ssc := { s.ssc with results := s.ssc.results ++ [(l, status, input, s.time)] } }
    else { s with ssc := { s.ssc with results := s.ssc.results ++ [(l, status, [], s.time)] } }
  | none =>
    let s := { s with ssc := { s.ssc with done := s.ssc.done ++ [(e.tag, status)] } }.raise 0 0x0C 0
    if status = 0 then s else s.raise 0 0x0C status

/-- The entry at the head leaves the queue. -/
def State.sscPop (s : State) : State :=
  { s with ssc := { s.ssc with queue := s.ssc.queue.tail, running := false, sel := none } }

/-- Host entries in the queue (SSC_QSTAT.HOST). -/
def State.sscHost (s : State) : Nat := (s.ssc.queue.filter (fun e => e.list.isNone)).length

/-- SSC_QPUSH (R550): a host entry is queued, or the push is refused. -/
def execSscQpush (tag buf template : Nat) (s : State) : Out :=
  .next <| s.hostWrite 0 0x0C fun s =>
    if !s.pageOn 0 0x0C then s.err 0 0x0C 7
    else if 64 ≤ s.ssc.queue.length ∨ 64 ≤ s.sscHost + s.ssc.done.length then s.err 0 0x0C 0x0101
    else
      let e : SscEntry := ⟨template % 64, buf % 4, tag % 65536, none⟩
      { s with ssc := { s.ssc with queue := s.ssc.queue ++ [e] } }

/-- The data buffer word of a host entry (R551). -/
def sscBufAddr (b i : Nat) : Nat := 0x400 + 0x100 * b + 4 * i

/-- The low `n` bits of a word, most significant first. -/
def msbBits (w : Word) (n : Nat) : List Bool := (List.range n).map (fun i => w.getLsbD (n - 1 - i))

/-- Bits of a word list from bit 31 of its first word. -/
def streamBits (l : List Word) : List Bool := (l.map (fun w => msbBits w 32)).flatten

/-- Output words of an entry: its buffer, or what its list's instruction gives (the caller's). -/
def State.sscOut (s : State) (e : SscEntry) (vars : List Word) : List Word :=
  if e.list.isSome then vars else (List.range 64).map (fun i => s.reg 0 0x0C (sscBufAddr e.buf i))

/-- R546: a run of bits cut into words of `n`; the last word carries what remains. -/
def cutWords (n : Nat) : Nat → List Bool → List (List Bool)
  | 0, _ => []
  | _, [] => []
  | fuel + 1, l => l.take n :: cutWords n fuel (l.drop n)

/-- R543: the bits on SSDO before the data phase: command, address, dummy clocks low. -/
def sscHead (t : List Word) : List Bool :=
  let f := (t[0]?).getD 0
  msbBits ((t[3]?).getD 0) (bits f 20 6) ++ msbBits ((t[4]?).getD 0) (bits f 14 6) ++ List.replicate (bits f 8 6) false

/-- R543, R546: the words of the data phase. -/
def sscData (t : List Word) (out : List Word) : List (List Bool) :=
  let d := (t[2]?).getD 0
  let n := bits d 0 12
  cutWords (bits d 16 5 + 1) n ((streamBits out ++ List.replicate n false).take n)

/-- R543, R546, R547: the bits on SSDO, transfer by transfer: with CONT one transfer, else one for each data word, the first
with the phases before it. -/
def sscWire (t : List Word) (out : List Word) : List (List Bool) :=
  let data := sscData t out
  if bit ((t[0]?).getD 0) 31 then [sscHead t ++ data.flatten]
  else (sscHead t ++ (data.head?).getD []) :: data.tail

/-- The template words in force (R542). -/
def State.sscTemplate (s : State) (t : Nat) : List Word := (List.range 5).map (fun i => s.reg 0 0x0C (0x800 + 32 * t + 4 * i))

/-- The output variables of the SPI instruction that a list waits in (R533): NUM words from A. -/
def State.spiOut (s : State) (l : Nat) : List Word :=
  match (s.pleList l).run with
  | some r =>
    let w := s.memWord (hostAddr 0 0xB0 0 + 4 * r.pc)
    (List.range (bits w 10 4)).map (fun i => s.reg 0 0x0B (0x100 + 4 * (bits w 20 6 + i)))
  | none => []

/-- Input words with the unused low bits of the last one 0 (R551, R533). -/
def maskTail (n : Nat) (l : List Word) : List Word :=
  (l.take ((n + 31) / 32)).zipIdx.map fun (w, i) =>
    if 32 * (i + 1) ≤ n then w else w &&& ~~~ BitVec.ofNat 32 (2 ^ (32 * (i + 1) - n) - 1)

/-- DATA_BITS of a template, and the words that hold them (R551). -/
def sscBits (t : List Word) : Nat := bits ((t[2]?).getD 0) 0 12

def sscWords (t : List Word) : Nat := (sscBits t + 31) / 32

/-- R543, R545 to R547: ticks from the first select assertion of an entry to the end of its data bit `m`, counted from 1: T_LEAD
and the bits before it, and without CONT the release, the gap and the lead of every transfer before its own. -/
def sscBitEnd (t : List Word) (m : Nat) : Nat :=
  let f := (t[0]?).getD 0
  let w := (t[1]?).getD 0
  let head := bits f 20 6 + bits f 14 6 + bits f 8 6
  let lead := bits w 24 8
  let again := if bit f 31 then 0 else (m - 1) / (bits ((t[2]?).getD 0) 16 5 + 1)
  lead + ((head + m) * (bits f 0 8 + 1) + 1) / 2 + again * (bits w 16 8 + max 1 (bits w 8 8) + lead)

/-- R551: the last bit of buffer word `i` of the running entry has been shifted. -/
def State.sscShifted (s : State) (i : Nat) : Bool :=
  decide (i < s.ssc.input.length ∧
    s.ssc.begun + sscBitEnd s.ssc.tmpl (min (32 * (i + 1)) (sscBits s.ssc.tmpl)) ≤ s.time)

/-- R551, R552: a word of the data buffers as it stands: while a host entry runs, the words of its buffer that it has shifted
hold the input. -/
def State.sscBufView (s : State) (off : Nat) (w : Word) : Word :=
  let i := off % 0x100 / 4
  match s.ssc.queue.head? with
  | some e =>
    if s.ssc.running ∧ e.list.isNone ∧ off = sscBufAddr e.buf i ∧ s.sscShifted i then (s.ssc.input[i]?).getD 0 else w
  | none => w

/-- SSC_ENTRY_START (R543 to R548, R553): the next entry starts with the template in force; without DRIVE it ends
SEL_OFF. `input`: the words that SSDI carries in its data phase. -/
def execSscEntryStart (input : List Word) (s : State) : Out :=
  .next <| s.when (s.awake && s.pageOn 0 0x0C && !s.ssc.running && !s.padHeld 1 && !s.coord.loading) fun s =>
    match s.ssc.queue with
    | [] => s
    | e :: _ =>
      let t := s.sscTemplate e.template
      let sel := bits ((t[0]?).getD 0) 28 3
      if !(s.get 0 F.SSC_SELCFG_DRIVE).testBit sel then (s.sscEnd e 1 [] false).sscPop
      else if input.length ≠ sscWords t then s
      else
        let out := s.sscOut e (match e.list with
          | some l => s.spiOut l
          | none => [])
        { s with ssc := { s.ssc with running := true, begun := s.time, input := maskTail (sscBits t) input, tmpl := t,
                                     sel := some sel, sent := sscWire t out, mode := bits ((t[0]?).getD 0) 26 2 } }

/-- SSC_ENTRY_END (R551, R554): the running entry ends OK, and a host entry's buffer holds the input. -/
def execSscEntryEnd (s : State) : Out :=
  .next <| s.when s.ssc.running fun s =>
    match s.ssc.queue with
    | [] => s
    | e :: _ =>
      let ws := s.ssc.input
      let s := if e.list.isSome then s
        else ws.zipIdx.foldl (fun s (w, i) => s.setReg 0 0x0C (sscBufAddr e.buf i) w) s
      (s.sscEnd e 0 ws true).sscPop.coordinate

/-- SSC_DONE_POP (R554). -/
def execSscDonePop (s : State) : Out :=
  .next <| s.hostWrite 0 0x0C fun s =>
    match s.ssc.done with
    | [] => s.err 0 0x0C 0x0103
    | _ :: t => { s with ssc := { s.ssc with done := t } }

/-- R555: when the page reaches OFF, every queued entry ends ABORTED in queue order. -/
def State.sscAbort (s : State) : State :=
  let q := if s.ssc.running then s.ssc.queue.drop 1 else s.ssc.queue
  let keep := if s.ssc.running then s.ssc.queue.take 1 else []
  q.foldl (fun s e => s.sscEnd e 2 [] false) { s with ssc := { s.ssc with queue := keep } }

/-- A poll list's queued entry that has not started is withdrawn (R522). -/
def State.sscWithdraw (s : State) (l : Nat) : State :=
  let head := if s.ssc.running then s.ssc.queue.take 1 else []
  let rest := if s.ssc.running then s.ssc.queue.drop 1 else s.ssc.queue
  { s with ssc := { s.ssc with queue := head ++ rest.filter (fun e => e.list != some l),
                               results := s.ssc.results.filter (fun r => r.1 != l) } }

/-- Words of a RAW_WORDS record (RECMAX). -/
def State.recMax (s : State) : Nat := s.get 0 F.SSL_CFG_RECMAX

/-- The listener may hold reservations and drive SLRDY low: page ON, ACTIVE, pads not held, no PREPARE, no profile drain
once SLSEL is released (R568, R674, R768). -/
def State.sslRuns (s : State) : Bool :=
  s.awake && s.pageOn 0 0x0D && !s.padHeld 1 && decide (s.power.phase ≠ .prepare)
    && !(s.coord.loading && !s.flag 0 F.SSL_STAT_SELACT)

/-- R563, R564, R566: there is room for a word: in the poll FIFO, or in a reservation. -/
def State.sslRoom (s : State) : Bool :=
  if s.flag 0 F.SSL_CFG_DEST then decide (s.ssl.fifo.length < 64)
  else (s.ssl.held.isSome && decide (s.ssl.words.length < s.recMax)) || s.ssl.next.isSome

/-- R12, R13, R92: SLSEL is asserted and the listener follows its message, while its page drains too. -/
def State.sslHears (s : State) : Bool :=
  s.awake && decide (s.pageState 0 0x0D = 2 ∨ s.pageState 0 0x0D = 3) && s.flag 0 F.SSL_STAT_SELACT

/-- R561: SLRDY is driven low: a word can be accepted; while a word is in progress it stays as it was. -/
def State.sslReady (s : State) : Bool :=
  if s.sslHears && !s.ssl.part.isEmpty then s.flag 0 F.SSL_STAT_READY else s.sslRuns && s.sslRoom

def State.sslUpdate (s : State) : State :=
  (s.set 0 F.SSL_STAT_READY (b2n s.sslReady)).set 0 F.SSL_STAT_HELD (b2n s.ssl.held.isSome)

/-- R563, R564: the listener takes the reservation it lacks when the credits allow. -/
def State.sslReserve (s : State) : State :=
  let c := s.get 0 F.SSL_CFG_CLASS
  let n := 4 + s.recMax
  let full := s.ssl.held.isSome && decide (s.recMax ≤ s.ssl.words.length)
  let want := s.sslRuns && !s.flag 0 F.SSL_CFG_DEST && (s.ssl.held.isNone || (full && s.ssl.next.isNone))
  let s : State := if !want then { s with ssl := { s.ssl with tooBig := false } }
    else if s.canReserve c n then
      let s := s.reserve c n
      if full then { s with ssl := { s.ssl with next := some (c, n), tooBig := false } }
      else { s with ssl := { s.ssl with held := some (c, n), tooBig := false } }
    else if s.ssl.tooBig then s
    else { s with ssl := { s.ssl with tooBig := decide (s.regionSize c < n) } }.oversize c n
  s.sslUpdate

/-- R564, R565: the RAW_WORDS record being filled is written. -/
def State.rawRecord (s : State) (last stuck : Bool) : State :=
  match s.ssl.held, s.ssl.words.getLast? with
  | some (c, n), some (b, _) =>
    let l := s.ssl
    let w3 := b2n l.first * 2147483648 + b2n last * 1073741824 + b2n stuck * 536870912 + b * 65536 + l.words.length
    let r : PendRec := { type := 9, time := l.time, payload := word w3 :: l.words.map Prod.snd, reserved := n, note := .none }
    let s := { s with ssl := { l with words := [], first := last, held := l.next, next := none } }
    (s.writeRecord c r).sslReserve
  | _, _ => { s with ssl := { s.ssl with first := s.ssl.first || last } }

/-- R558: the word of received bits, right-aligned. -/
def bitsWord (lsbFirst : Bool) (l : List Bool) : Word :=
  (if lsbFirst then l.reverse else l).foldl (fun w b => (w <<< 1) ||| (if b then 1 else 0)) 0

/-- R562: a refused word is counted. -/
def State.sslRefused (s : State) : State := (s.countUp 0 F.SSL_REFUSED_COUNT F.SSL_REFUSED_OVF 1).raise 0 0x0D 0

/-- A word or partial word whose first edge found SLRDY low is delivered (R558, R559, R566). -/
def State.sslDeliver (s : State) (input : List Bool) (start : Nat) (part : Bool) : State :=
  let w := bitsWord (s.flag 0 F.SSL_CFG_ORDER) input
  let s := if part then (s.countUp 0 F.SSL_CNT_PARTIAL_COUNT F.SSL_CNT_PARTIAL_OVF 1).raise 0 0x0D 1 else s
  if s.flag 0 F.SSL_CFG_DEST then
    { s with ssl := { s.ssl with fifo := s.ssl.fifo ++ [(input.length, w, start, part)] } }.sslUpdate
  else
    let l := s.ssl
    { s with ssl := { l with words := l.words ++ [(input.length, w)], time := if l.words.isEmpty then start else l.time } }.sslReserve

/-- R560, R562, R564: the first capturing edge of a word: a full record is written first, and SLRDY says whether the word is
refused. -/
def State.sslFirstEdge (s : State) (start : Nat) : State :=
  let took := s.flag 0 F.SSL_STAT_READY
  let s := if s.recMax ≤ s.ssl.words.length ∧ !s.flag 0 F.SSL_CFG_DEST then s.rawRecord false false else s
  { s with ssl := { s.ssl with start := start, took := took, active := true } }

/-- R558, R559, R561, R562: the word in progress ends: it is delivered where SLRDY was low at its first edge and it has its
place, and refused otherwise. -/
def State.sslWordEnd (s : State) (cut : Bool) : State :=
  let l := s.ssl
  let s := { s with ssl := { l with part := [] } }
  (if l.took && s.sslRoom then s.sslDeliver l.part l.start cut else s.sslRefused).sslUpdate

/-- R558: a capturing edge brings a bit. -/
def State.sslBit (s : State) (b : Bool) (start : Nat) : State :=
  let s := if s.ssl.part.isEmpty then s.sslFirstEdge start else s
  let s := { s with ssl := { s.ssl with part := s.ssl.part ++ [b], active := true } }
  if s.get 0 F.SSL_CFG_WIDTH < s.ssl.part.length then s.sslWordEnd false else s

/-- R557: the edge of SLCK that captures: the rising one in modes 0 and 3 (PRESUMED, log entry 138: the usual SPI modes). -/
def State.sslCapture (s : State) (x : Bool × Bool) : Bool :=
  if s.get 0 F.SSL_CFG_MODE = 0 ∨ s.get 0 F.SSL_CFG_MODE = 3 then x.1 else x.2

/-- LISTENER_WORD (R557, R558, R562): clock periods on SLCK, each with SLDI at its rising and at its falling edge; WIDTH bits
complete a word. `start`: the first capturing edge among them. -/
def execListenerWord (sldi : List (Bool × Bool)) (start : Nat) (s : State) : Out :=
  .next <| s.when s.sslHears fun s => sldi.foldl (fun s x => s.sslBit (s.sslCapture x) start) s

/-- The end of a message (R559, R560, R564). -/
def State.sslMessageEnd (s : State) (stuck : Bool) : State :=
  let s := if s.ssl.part.isEmpty then s else s.sslWordEnd true
  let s := { s with ssl := { s.ssl with active := false } }
  if s.flag 0 F.SSL_CFG_DEST then s else s.rawRecord true stuck

/-- R557: SLSEL has come to a level and held it: a pulse shorter than 2 ticks is ignored, and SELPOL says which level
asserts. -/
def State.slselIs (s : State) (level : Bool) (ticks : Nat) (on : Bool) : Bool :=
  decide (2 ≤ ticks) && ((level == s.flag 0 F.SSL_CFG_SELPOL) == on)

/-- SLSEL_ASSERT (R557): a message begins. SELACT follows the pin also where the listener does not run. -/
def execSlselAssert (level : Bool) (ticks : Nat) (s : State) : Out :=
  .next <| s.when (s.slselIs level ticks true && !s.flag 0 F.SSL_STAT_SELACT) fun s =>
    ({ s with ssl := { s.ssl with first := true, active := true, part := [] } }.set 0 F.SSL_STAT_SELACT 1).sslReserve

/-- SLSEL_RELEASE (R559, R568): the message ends; where the listener does not run, the pin is all that moves. -/
def execSlselRelease (level : Bool) (ticks : Nat) (s : State) : Out :=
  .next <| s.when (s.slselIs level ticks false && s.flag 0 F.SSL_STAT_SELACT) fun s =>
    ((if s.sslHears then s.sslMessageEnd false else s).set 0 F.SSL_STAT_SELACT 0).sslUpdate.coordinate

/-- SEL_STUCK (R560, R580): the message in progress ends while SLSEL stays asserted. -/
def execSelStuck (s : State) : Out :=
  .next <| s.when (s.sslHears && s.ssl.active && decide (s.get 0 F.SSL_CFG_IDLE ≠ 0)) fun s =>
    (((s.sslMessageEnd true).raise 0 0x0D 2).err 0 0x0D 0x0101).coordinate

/-- R557, R579: a commit of SELPOL while SLSEL is released: the pin stays where it is, so its other level now asserts, and a
message begins; with the page still the pin may also be released by it. -/
def State.selPolCommitted (s old : State) : State :=
  if s.flag 0 F.SSL_CFG_SELPOL = old.flag 0 F.SSL_CFG_SELPOL then s
  else { s with ssl := { s.ssl with first := true, active := !s.flag 0 F.SSL_STAT_SELACT, part := [] } }.set 0 F.SSL_STAT_SELACT
    (b2n (!s.flag 0 F.SSL_STAT_SELACT))

/-- LISTENER_RESERVE (R563). -/
def execListenerReserve (s : State) : Out := .next s.sslReserve

/-- R658, R568: the listener returns its reservations and releases SLRDY. -/
def State.sslRelease (s : State) : State :=
  let give := fun (s : State) (o : Option (Nat × Nat)) => match o with
    | some (c, n) => s.unreserve c n
    | none => s
  let s := give (give s s.ssl.held) s.ssl.next
  { s with ssl := { s.ssl with held := none, next := none } }.sslUpdate

/-- A host request waits or runs (SAF_RESULT.BUSY). -/
def State.safBusy (s : State) : Bool := s.saf.reqs.any (fun r => r.2.2.isNone)

/-- SAF_REQ (R571). -/
def execSafReq (count ch : Nat) (s : State) : Out :=
  .next <| s.hostWrite 0 0x0E fun s =>
    if !s.pageOn 0 0x0E then s.err 0 0x0E 7
    else if s.safBusy then s.err 0 0x0E 0x0101
    else { s with saf := { s.saf with reqs := s.saf.reqs ++ [(ch % 8, count % 16 + 1, none)] } }.set 0 F.SAF_RESULT_BUSY 1

/-- R569, R92: the converter runs: in ACTIVE, its page ON or draining. -/
def State.safRuns (s : State) : Bool := s.awake && decide (s.pageState 0 0x0E = 2 ∨ s.pageState 0 0x0E = 3)

/-- R712: an ANCHOR run, or an ANCHOR test, holds the converter. -/
def State.converterHeld (s : State) : Bool :=
  (Store.get s.cal 0 {}).running || s.tests.any (fun e => e.1 / 65536 == 5 && e.2.running)

/-- The mean of the codes, rounded towards zero. -/
def meanCode (l : List Nat) : Nat := (l.foldl (· + ·) 0) / max 1 l.length

/-- R569: the code of an input voltage in nanovolts: the input range is 2 × REFV, 2.500 V. -/
def adcCode (volt : Int) : Nat := clampI 0 65535 (Int.fdiv (65536 * volt) 2500000000) |>.toNat

/-- SAF_CONV_DONE (R569, R571): the host request at the head ends. -/
def execSafConvDone (volts : List Int) (s : State) : Out :=
  .next <| s.when (s.safRuns && !s.converterHeld) fun s =>
    match s.saf.reqs with
    | (ch, n, none) :: rest =>
      if volts.length = n then
        let s := { s with saf := { s.saf with reqs := rest } }
        let s := ((s.set 0 F.SAF_RESULT_BUSY 0).set 0 F.SAF_RESULT_VALID 1).set 0 F.SAF_RESULT_CH ch
        (s.set 0 F.SAF_RESULT_CODE (meanCode (volts.map adcCode))).raise 0 0x0E 8
      else s
    | _ => s

/-- Comparator `k` runs (R573, R576). -/
def State.cmpRuns (s : State) (k : Nat) : Bool :=
  s.pageOn 0 0x0E && decide (k < 4) &&
    (if s.awake then s.flag 0 (F.SAF_CMP_EN_ACT k)
     else (s.device == .deepSleep || s.device == .watch) && s.flag 0 (F.SAF_CMP_EN_SLEEP k))

/-- A comparator that does not run shows 0 and is not primed. -/
def State.cmpSettle (s : State) : State :=
  (List.range 4).foldl (fun s k => if s.cmpRuns k then s
    else { s with saf := { s.saf with primed := s.saf.primed.filter (· != k) } }.setBit 0 F.SAF_CMPSTAT_STATE k false) s

/-- R576: a crossing in sleep is latched and presented as an event at the next wake, whether its event is enabled or not. -/
def State.crossEvent (s : State) (evt : Nat) : State := s.raise 0 0x0E evt

/-- R575, R576: a crossing raises its event and triggers the lists that select it; asleep it may wake the device. -/
def State.crossing (s : State) (k : Nat) (rise : Bool) : State :=
  let s := s.crossEvent (if rise then k else 4 + k)
  let s := s.comparatorTrigger k (if rise then 1 else 2) s.time
  let wakes := !s.awake && s.flag 0 (if rise then F.SAF_CMP_WAKE_RISE k else F.SAF_CMP_WAKE_FALL k)
  let entry := s.awake && decide (s.power.phase ≠ .none)
    && s.flag 0 (if rise then F.SAF_CMP_WAKE_RISE k else F.SAF_CMP_WAKE_FALL k)
  if wakes ∨ entry then s.wakeBy 3 (k + (if rise then 0 else 256)) else s

/-- COMPARATOR_STROBE (R572 to R576): hysteresis around the threshold; the first strobe sets the state only. -/
def execComparatorStrobe (k : Nat) (level : Int) (s : State) : Out :=
  .next <| s.when (s.cmpRuns k) fun s =>
    let thr : Int := (s.get 0 (F.SAF_CMP_THR k) : Nat)
    let hyst : Int := (s.get 0 (F.SAF_CMP_HYST k) : Nat)
    let was := (s.get 0 F.SAF_CMPSTAT_STATE).testBit k
    let now := if clampI 0 1023 (thr + hyst) ≤ level then true
      else if level < clampI 0 1023 (thr - hyst) then false else was
    let primed := s.saf.primed.contains k
    let s := { s with saf := { s.saf with primed := if primed then s.saf.primed else k :: s.saf.primed } }
    let s := s.setBit 0 F.SAF_CMPSTAT_STATE k now
    if primed && was != now then s.crossing k now else s

end Sys2Proof.Machine
end

