-- ==== Sys2Proof/Machine/Timebase.lean ====
section
/-! DEFINITION. The timebase (chapter 01, R57 to R71): device time on the 32 kHz crystal, its measurement, the alarms. -/

namespace Sys2Proof.Machine

/-- R60: one 32 kHz period while the main crystal is stopped: the increment in use with the carried fraction. -/
def State.period (s : State) : State :=
  let v := s.tb.inc + s.tb.frac
  { s.advance (v / 2 ^ 32) with tb := { s.tb with frac := v % 2 ^ 32 } }

/-- Device time advances by the next tick of its source: the main crystal in ACTIVE, the 32 kHz crystal in sleep and until
re-alignment; it stands in OFF and RESET (R57, R61, R62). -/
def State.tick (s : State) : State :=
  match s.device with
  | .active => if s.tb.align then s.period else s.advance 1
  | .deepSleep => s.period
  | .watch => s.period
  | _ => s

/-- REALIGNED (R62): the first 32 kHz edge after the crystal is ready adds its period and drops the fraction. -/
def execRealigned (s : State) : Out :=
  .next <| s.when (s.awake && s.tb.align) fun s =>
    let s := s.period
    { s with tb := { s.tb with frac := 0, align := false } }.raise 0 0x01 2

/-- TBS_MEAS_UPDATE (R64): a count over 32,768 periods of the 32 kHz crystal completes. -/
def execTbsMeasUpdate (count : Nat) (s : State) : Out :=
  .next <| s.when s.awake fun s => (s.set 0 F.TBS_MEAS_MEAS count).set 0 F.TBS_MEAS_VALID 1

/-- R66: a count within 500 ppm of nominal. -/
def measOk (n : Nat) : Bool := decide (27120000 - 13560 ≤ n ∧ n ≤ 27120000 + 13560)

/-- R65, R66: step 4 of PREPARE: AUTOTRIM loads the increment, or keeps it. -/
def State.autotrim (s : State) : State :=
  let n := s.get 0 F.TBS_MEAS_MEAS
  if !s.flag 0 F.TBS_CTRL_AUTOTRIM || !s.flag 0 F.TBS_MEAS_VALID then s
  else if measOk n then (s.set 0 F.TBS_INC_INT_INT (n / 32768)).set 0 F.TBS_INC_FRAC_FRAC (n % 32768 * 131072)
  else s.raise 0 0x01 3

/-- The low word of an alarm is held apart until its high word is written (R114). -/
def State.alarmLo (s : State) (n : Nat) (lo : Word) : State :=
  { s with tb := if n = 0 then { s.tb with lo0 := lo } else { s.tb with lo1 := lo } }

/-- The instant of an alarm. -/
def State.alarmTime (s : State) (n : Nat) : Nat :=
  (s.reg 0 0x01 (0x040 + 8 * n)).toNat + 4294967296 * (s.reg 0 0x01 (0x044 + 8 * n)).toNat

def State.alarmArmed (s : State) (n : Nat) : Bool := if n = 0 then s.tb.armed0 else s.tb.armed1

def State.setArmed (s : State) (n : Nat) (v : Bool) : State :=
  { s with tb := if n = 0 then { s.tb with armed0 := v } else { s.tb with armed1 := v } }

/-- TBS_ALM_HI_WRITE (R67, R69, R114): the pair takes its new value and the alarm is armed. -/
def execTbsAlmHiWrite (alarm : Nat) (hi : Word) (s : State) : Out :=
  .next <| s.hostWrite 0 0x01 fun s => s.when (decide (alarm < 2)) fun s =>
    let lo := if alarm = 0 then s.tb.lo0 else s.tb.lo1
    ((s.setReg 0 0x01 (0x040 + 8 * alarm) lo).setReg 0 0x01 (0x044 + 8 * alarm) hi).setArmed alarm true

def alarmEnable (n : Nat) : Fld := if n = 0 then F.TBS_CTRL_ALM0_EN else F.TBS_CTRL_ALM1_EN

def alarmWake (n : Nat) : Fld := if n = 0 then F.PWR_WAKE_EN_ALM0 else F.PWR_WAKE_EN_ALM1

/-- ALARM_FIRE (R67, R68, R661): an armed and enabled alarm whose value has come. -/
def execAlarmFire (alarm : Nat) (s : State) : Out :=
  .next <| s.when (decide (alarm < 2) && s.alarmArmed alarm && s.flag 0 (alarmEnable alarm)
      && decide (s.alarmTime alarm ≤ s.time)) fun s =>
    let s := (s.setArmed alarm false).raise 0 0x01 alarm
    if s.flag 0 (alarmWake alarm) then s.wakeBy 2 alarm else s

end Sys2Proof.Machine
end

