-- ==== Sys2Proof/Machine/Pages.lean ====
section
/-! DEFINITION. The common page header (chapter 02): PG_CTRL and the page states, events and errors, shadows and commits
at the page's boundary. -/

namespace Sys2Proof.Machine

/-- R107: the pages that hold shadowed registers. -/
def hasShadows (die page : Nat) : Bool :=
  if die = 0 then decide (3 ≤ page ∧ page ≤ 0x16) && page != 0x05
  else decide (1 ≤ page ∧ page ≤ 0x10) && page != 0x0F

/-- R109, R405, R432: the field-die pages that commit port by port. -/
def portPage (die page : Nat) : Bool := die != 0 && decide (0x0B ≤ page ∧ page ≤ 0x0E)

def isSlicePage (die page : Nat) : Bool := die != 0 && decide (1 ≤ page ∧ page ≤ 10)

/-- R677: a die whose logic was off is ready: in RUN when that was asked for, else in DOZE; its time copy is not loaded. -/
def State.dieUp (s : State) (d : Nat) : State :=
  let run := (s.die d).runAsked || s.flag d F.DPWR_CFG_KEEP_RUN
  let s := (s.set d F.DPWR_STAT_PSTATE (if run then 2 else 1)).countUp d F.DPWR_STAT_WAKES F.DPWR_STAT_OVF 1
  let s := s.setDie d { s.die d with timeLoaded := false, runAsked := false, heldOff := false }
  ((s.setBit 0 F.SEM_DIES_LOCKED (d - 1) true).endSequencer d).watchSyncDie d

/-- R84: an access to a field die whose logic is off wakes it first. -/
def State.touchDie (s : State) (d : Nat) : State :=
  if s.fieldDie d && s.pstate d == 0 then (s.dieUp d).coordinate else s

/-- An access to a page that the die implements and that is present and in service (R46, R77). -/
def State.pageAccess (s : State) (die page : Nat) (f : State → State) : State :=
  if s.awake && RegTable.implemented die page && (die == 0 || s.inService die) then f (s.touchDie die) else s

/-- A calibration run, the radio's included (R696), is in progress. -/
def State.calRuns (s : State) : Bool := s.cal.any (fun e => e.2.running) || s.rstate == 2

/-- R92: a block's work in progress has ended (PG_STAT.QUIET). The runs of the anchor's BST page are the tests that it
reports, those of seams, radio and anchor; slice and die tests are runs of the die's DBST page (R752; DEDUCED, log entry
102). -/
def State.pageQuiet (s : State) (die page : Nat) : Bool :=
  let testing := fun (f : Nat → Bool) => s.tests.any (fun e => f e.1 && (e.2.running || e.2.granted))
  let exchOn := fun (f : Exch → Bool) => s.exchs.any (fun e => decide (e.1 < 4096 ∧ e.1 / 16 = die) && f e.2)
  if s.pageState die page = 4 then false
  else if die = 0 then
    match page with
    | 0x04 => s.supply.flight.isNone
    | 0x06 => s.hsp.frame.isNone && !s.hsp.statusOn
    | 0x07 => !s.htw.busy && s.htw.attn.isNone
    | 0x08 => (List.range 4).all (fun c => !(s.cls c).writing)
    | 0x09 => !s.flag 0 F.TKT_SNAP_BUSY
    | 0x0A => s.exchs.isEmpty && s.coord.runs.isEmpty
    | 0x0B => (List.range 32).all (fun n => (s.pleList n).run.isNone)
    | 0x0C => !s.ssc.running
    | 0x0D => !s.flag 0 F.SSL_STAT_SELACT
    | 0x0E => s.saf.reqs.isEmpty
    | 0x0F => !s.sending && s.radio.rx.isNone
    | 0x10 => !s.sending && s.radio.rx.isNone && !s.radio.running
    | 0x11 => !s.sending && s.radio.rx.isNone
    | 0x12 => !s.calRuns && !s.flag 0 F.CAL_SAVE_BUSY
    | 0x13 => !testing (fun k => decide (3 ≤ k / 65536))
    | 0x14 => !s.nvBusy
    | 0x15 => s.darn.swaps.isEmpty
    | _ => true
  else if isSlicePage die page then
    (s.fstate die (page - 1) == 0 || decide (7 ≤ s.fstate die (page - 1))) && !s.sliceGranted die (page - 1)
  else
    match page with
    | 0x0B => !exchOn (fun _ => true)
    | 0x0C => !exchOn (fun e => e.origin.isExchange)
    | 0x0D => !exchOn (fun e => e.origin.isExchange && e.member.kind == 3)
    | 0x0E => !exchOn (fun e => e.origin.isProbe) && (List.range 8).all (fun p => !(s.watchOf die p).probing)
    | 0x10 => !testing (fun k => decide (k / 65536 ≤ 2 ∧ k / 256 % 256 = die))
    | _ => true

/-- What a change of a page's STATE starts or ends in its block. -/
def State.pageMoved (s : State) (die page : Nat) : State :=
  if die = 0 then
    match page with
    | 0x0C => if s.pageState 0 0x0C = 0 then s.sscAbort else s
    | 0x0D =>
      (if s.pageOn 0 0x0D then s.sslReserve else if s.pageState 0 0x0D = 0 then s.sslRelease else s.sslUpdate).coordinate
    | 0x0E => s.cmpSettle
    | 0x0B => s
    | _ => s.coordinate
  else
    let s := if page = 0x0C ∧ s.pageState die page = 3 then s.endHolds (some die) else s
    (s.watchSyncDie die).coordinate

/-- R92: a block is stopped by a fault: any STATE but OFF goes to FAULT. -/
def State.pageFault (s : State) (die page : Nat) : State :=
  if s.pageState die page = 0 then s else (s.setPage die page 5).pageMoved die page

/-- R92: EN of PG_CTRL written. A value already held is no request; a change that the table does not list is refused. -/
def State.writeEn (s : State) (die page : Nat) (value : Bool) : State :=
  let st := s.pageState die page
  let illegal := s.err die page 7
  if s.flag die (F.PG_EN page) = value then s
  else
    let t := s.set die (F.PG_EN page) (b2n value)
    if value then
      match st with
      | 0 => (t.setPage die page 1).pageMoved die page
      | 3 => t.set die (F.PG_RESTART_PEND page) 1
      | _ => illegal
    else
      match st with
      | 1 | 2 => (t.setPage die page 3).pageMoved die page
      | 3 => t.set die (F.PG_RESTART_PEND page) 0
      | 5 => (if isSlicePage die page then t.faultCleared die (page - 1) else t.setPage die page 0).pageMoved die page
      | _ => illegal

/-- R807, R93: DRAIN takes the written value at once, but in DARNED. There too a value already held is no request, as R92 has it
for EN (DEDUCED, log entry 101). -/
def State.writeDrain (s : State) (die page : Nat) (value : Bool) : State :=
  let st := s.pageState die page
  if s.flag die (F.PG_DRAIN page) = value then s
  else if st = 6 then s.err die page 7
  else
    let s := s.set die (F.PG_DRAIN page) (b2n value)
    if value ∧ (st = 1 ∨ st = 2) then (s.setPage die page 3).pageMoved die page else s

/-- R101, R103, R107: COMMIT written 1. -/
def State.writeCommit (s : State) (die page : Nat) : State :=
  if s.pageState die page = 6 then s.err die page 7
  else if hasShadows die page then s.set die (F.PG_COMMIT_PEND page) 1
  else s.set die (F.PG_SEQ page) (s.get die (F.PG_SEQ page) + 1)

/-- R724, R726: the test kind of a page. -/
def pageTestKind (die page : Nat) : Option Nat :=
  if die = 0 then
    match page with
    | 0x02 => some 3
    | 0x10 => some 4
    | 0x13 => some 5
    | _ => none
  else if isSlicePage die page then some 1
  else if page = 0x10 then some 2
  else none

/-- R92, R240, R726, R728: TEST written. A slice enters TESTING when its test starts, the other pages at once. The table
of R92 lists no change by a write of 0. On a page with no unit to test, as the RFC page without an enabled hop entry, the
write has no effect (DESIGN CHOICE, log entry 100). -/
def State.writeTest (s : State) (die page : Nat) (value : Bool) : State :=
  let st := s.pageState die page
  match pageTestKind die page with
  | none => s
  | some kind =>
    if s.flag die (F.PG_TEST page) = value then s
    else if !value then s.err die page 7
    else if st ≠ 0 ∧ st ≠ 2 then s.err die page 7
    else if kind = 1 then
      let sl := page - 1
      let s := s.set die (F.PG_TEST page) 1
      if st = 2 ∧ s.fstate die sl ≠ 0 then s.setSlice die sl { s.slice die sl with testHeld := true }
      else (s.requestTest 1 die sl).coordinate
    else
      let units := if kind = 3 then (List.range 8).filter (s.unitPresent 3 0)
        else if kind = 4 then ((List.range 128).find? (s.unitPresent 4 0)).toList else [0]
      let fresh := units.filter fun u =>
        let t := s.testUnit (testKey kind die u)
        !t.requested && !t.granted && !t.running
      if fresh.isEmpty then s
      else
        let s := { s with testFrom := Store.insert (Store.erase s.testFrom (256 * die + page)) (256 * die + page) st }
        let s := (s.set die (F.PG_TEST page) 1).setPage die page 4
        (fresh.foldl (fun s u => s.requestTest kind die u) s).coordinate

/-- PG_CTRL_EN (R89, R92). -/
def execPgCtrlEn (die page : Nat) (value : Bool) (s : State) : Out :=
  .next <| s.pageAccess die page fun s => s.hostWrite die page fun s => s.writeEn die page value

/-- PG_CTRL_DRAIN (R807). -/
def execPgCtrlDrain (die page : Nat) (value : Bool) (s : State) : Out :=
  .next <| s.pageAccess die page fun s => s.hostWrite die page fun s => s.writeDrain die page value

/-- PG_CTRL_COMMIT (R101). -/
def execPgCtrlCommit (die page : Nat) (s : State) : Out :=
  .next <| s.pageAccess die page fun s => s.hostWrite die page fun s => s.writeCommit die page

/-- PG_CTRL_TEST (R92, R726). -/
def execPgCtrlTest (die page : Nat) (s : State) : Out :=
  .next <| s.pageAccess die page fun s => s.hostWrite die page fun s => s.writeTest die page true

/-- PG_CTRL_LOCK (R90). -/
def execPgCtrlLock (die page : Nat) (s : State) : Out :=
  .next <| s.pageAccess die page fun s => s.hostWrite die page fun s => s.set die (F.PG_LOCK page) 1

/-- R89: a whole write of PG_CTRL: EN, DRAIN, COMMIT, TEST and LOCK act in that order. -/
def State.writeCtrl (s : State) (die page : Nat) (v : Word) : State :=
  let s := s.writeRo die page 0x004 v
  let s := (s.writeEn die page (bit v 0)).writeDrain die page (bit v 2)
  let s := if bit v 1 then s.writeCommit die page else s
  let s := s.writeTest die page (bit v 4)
  if bit v 3 then s.set die (F.PG_LOCK page) 1 else s

/-- PAGE_READY (R92): a STARTING block other than a slice (R232) is ready, or has found a fault. -/
def execPageReady (die page : Nat) (fault : Bool) (s : State) : Out :=
  .next <| s.when (RegTable.implemented die page && !isSlicePage die page && s.pageState die page == 1) fun s =>
    if fault then s.pageFault die page else (s.pageStarted die page).pageMoved die page

/-- PAGE_DRAIN_END (R92): a DRAINING block's work has ended. -/
def execPageDrainEnd (die page : Nat) (s : State) : Out :=
  .next <| s.when (RegTable.implemented die page && s.pageState die page == 3 && s.pageQuiet die page) fun s =>
    if s.flag die (F.PG_RESTART_PEND page) then
      ((s.set die (F.PG_RESTART_PEND page) 0).setPage die page 1).pageMoved die page
    else if !s.flag die (F.PG_EN page) then (s.setPage die page 0).pageMoved die page
    else if s.flag die (F.PG_DRAIN page) then s
    else (s.setPage die page 2).pageMoved die page

/-- PG_EVT_CLEAR (R94, R95, R629, R632): events written 1 are cleared, on a locked page too (R90). `raised`: the events
raised in the cycle of the write; they stay set. -/
def execPgEvtClear (die page : Nat) (value raised : Word) (s : State) : Out :=
  .next <| s.pageAccess die page fun s =>
    let s := s.attnSync
    let s := s.writeRo die page 0x00C value
    let s := s.setReg die page 0x00C (s.reg die page 0x00C &&& ~~~ (value &&& ~~~ raised))
    (if die = 0 then s else s.icuDeliverDie die).attnSync

/-- PG_FIRSTERR_CLEAR (R97): a write of any value. `same`: the code of an error recorded in the cycle of the write, which
becomes the new first error. -/
def execPgFirsterrClear (die page : Nat) (_value : Word) (same : Option Nat) (s : State) : Out :=
  .next <| s.pageAccess die page fun s => s.hostWrite die page fun s =>
    let s := s.setReg die page 0x014 0
    match same with
    | some c => s.err die page (c % 65536)
    | none => s

/-- The mask of the RWS fields of the register at a host address. -/
def rwsMask (a : Nat) : Word :=
  match RegTable.lookup (a / 1048576) (a / 4096 % 256) (a % 4096) with
  | some (r, _) => BitVec.ofNat 32 (RegTable.maskOf (fun x => x == .rws) r.fields)
  | none => 0

/-- R101: shadows that satisfy a condition on their address take effect. -/
def State.applyShadows (s : State) (f : Nat → Bool) : State :=
  let l := s.shadow.filter (fun e => f e.1)
  let s := l.foldl (fun s e =>
    let m := rwsMask e.1
    let old := Store.get s.regs e.1 (resetAt e.1)
    { s with regs := Store.put s.regs e.1 (resetAt e.1) ((old &&& ~~~ m) ||| (e.2 &&& m)) }) s
  { s with shadow := s.shadow.filter (fun e => !f e.1) }

def onPage (die page : Nat) (a : Nat) : Bool := a / 4096 == 256 * die + page

/-- Offsets of the registers of port `p` on the RCV and CWT pages. -/
def portRegs (die page p : Nat) (a : Nat) : Bool :=
  onPage die page a && (page == 0x0B || page == 0x0E) && decide (0x100 + 64 * p ≤ a % 4096 ∧ a % 4096 < 0x140 + 64 * p)

/-- R418: LEVEL or BURST of a watched port differ from what they were. -/
def State.portChanged (s old : State) (die p : Nat) : Bool :=
  s.get die (F.CWT_P_PROBE_LEVEL p) != old.get die (F.CWT_P_PROBE_LEVEL p)
    || s.get die (F.CWT_P_PROBE_BURST p) != old.get die (F.CWT_P_PROBE_BURST p)

/-- R104: a page that is OFF, in FAULT, or DRAINING and quiet is at its boundary. -/
def State.pageStill (s : State) (die page : Nat) : Bool :=
  let st := s.pageState die page
  st == 0 || st == 5 || (st == 3 && s.pageQuiet die page)

/-- R107: the safe boundary of a page, as far as the state shows it. -/
def State.atBoundary (s : State) (die page port : Nat) : Bool :=
  s.pageStill die page ||
  (if die = 0 then
    match page with
    | 0x03 => decide (s.power.phase = .none) && !s.power.waking
    | 0x09 => true
    | 0x0A => s.roundBoundary
    | 0x07 => !s.htw.busy && (s.htw.attn.isNone || s.htw.backoff)
    | 0x0B => true
    | 0x0E => true
    | 0x0F | 0x10 | 0x11 => !s.sending && decide (s.rstate ≤ 3)
    | 0x12 => !s.calRuns
    | _ => s.pageQuiet 0 page
  else if isSlicePage die page then
    s.sliceRests die (page - 1)
  else if portPage die page then
    if page = 0x0E then !(s.watchOf die port).probing && !((s.exch die port).map (fun e => e.origin.isProbe)).getD false
    else s.portAtBoundary die port
  else s.pageQuiet die page)

/-- R314: the neighbour term of a changed adjacency entry is active as its new source stands; the events of the old one are
for no one. -/
def State.retarget (s : State) (d p k : Nat) : State :=
  let n := aerial d p
  let s := { s with coord := { s.coord with termEvents := s.coord.termEvents.filter (fun e => e.port != n || e.entry != k) } }
  match (s.adj n k).bind (fun m => (s.servingSlice (portDie m) (portIx m)).map (fun x => (portDie m, x))) with
  | some (e, x) =>
    s.switchTerm d p k (if energisedState (s.fstate e x) then .on (s.level e x) (s.phaseTarget e x) else .off)
  | none => s.switchTerm d p k .off

/-- R250, R287, R314, R317: what a commit of the FCO page changes at once: rounds of plans it enables start, ramps that
GUARD_RX no longer holds go on, and neighbour terms whose adjacency entry changed follow their new source and become stale
at their port's boundary. -/
def State.fcoCommitted (s old : State) : State :=
  let s := (List.range 64).foldl (fun s n =>
    let was := old.flag 0 (F.FCO_PLAN_CFG_EN n)
    let now := s.flag 0 (F.FCO_PLAN_CFG_EN n)
    if now && !was then s.roundDue n
    else if was && !now then { s with coord := { s.coord with starts := Store.erase s.coord.starts n } }
    else s) s
  let s := (List.range 56).foldl (fun s n =>
    let a := old.reg 0 0x0A (0x200 + 4 * n)
    let b := s.reg 0 0x0A (0x200 + 4 * n)
    if a = b then s
    else
      let ks := [0, 1, 2, 3].filter (fun k => adjEntry a k != adjEntry b k)
      let m := ks.foldl (fun m k => m + 2 ^ k) 0
      let d := portDie n
      let p := portIx n
      let s := ks.foldl (fun s k => s.retarget d p k) s
      let s := s.setWatch d p { s.watchOf d p with staleDue := (s.watchOf d p).staleDue ||| m }
      if s.portAtBoundary d p then s.portBoundary d p else s) s
  s.releaseGuarded.coordinate

/-- R512, R516, R519: lists that a commit enables or disables. -/
def State.pleCommitted (s old : State) : State :=
  (List.range 32).foldl (fun s n =>
    let was := old.listOn n
    let l := s.pleList n
    if s.listOn n then
      let kind := s.get 0 (F.PLE_L_TRIG_KIND n)
      let per := s.get 0 (F.PLE_L_PERIOD_PERIOD n) * ticksPerMs
      let s := if was && kind == old.get 0 (F.PLE_L_TRIG_KIND n) then s
        else if kind = 1 then
          s.setList n { l with due := some (if s.flag 0 (F.PLE_L_TRIG_NOW n) then s.time else s.time + per) }
        else s.setList n { l with due := none }
      if was then s else s.triggerLate n
    else if was then
      ((s.setList n { l with faulted := false, due := none, pend := none }).triggerUndo n).set 0 (F.PLE_L_STAT_FAULT n) 0
    else s) s

/-- R479: a hop entry whose frequency changed is not calibrated. -/
def State.rfcCommitted (s old : State) : State :=
  (List.range 128).foldl (fun s n =>
    if s.get 0 (F.RFC_HOP_FREQ n) = old.get 0 (F.RFC_HOP_FREQ n) then s else s.set 0 (F.RFC_HOP_VALID n) 0) s

/-- R583, R586: a new layout of the empty hamper. -/
def State.hmpCommitted (s old : State) : State :=
  let s := if s.reg 0 0x08 0x020 = old.reg 0 0x08 0x020 then s
    else (List.range 4).foldl (fun s c =>
      s.setCls c { s.cls c with free := 2 ^ bits (s.reg 0 0x08 0x020) (8 * c) 5, wptr := 0, rptr := 0 }) s
  ((List.range 4).foldl (fun s c => s.countEligible c) s).hamperAfter.coordinate

/-- What a commit that has taken effect changes in the block. -/
def State.pageCommitted (s old : State) (die page : Nat) : State :=
  if die = 0 then
    match page with
    | 0x08 => s.hmpCommitted old
    | 0x09 => s.tktRun
    | 0x0A => s.fcoCommitted old
    | 0x0B => s.pleCommitted old
    | 0x0D => (s.selPolCommitted old).sslRelease.sslReserve.coordinate
    | 0x0E => s.cmpSettle
    | 0x10 => s.rfcCommitted old
    | 0x14 => s
    | _ => s.coordinate
  else if isSlicePage die page then (s.sliceBoundary die (page - 1)).coordinate
  else s.coordinate

/-- R101: the end of a commit that took effect. -/
def State.commitEnd (s : State) (die page : Nat) : State :=
  let s := { s with commitPorts := Store.erase s.commitPorts (256 * die + page) }
  let s := ((s.set die (F.PG_SHADOW_DIRTY page) 0).set die (F.PG_COMMIT_PEND page) 0).set die (F.PG_SEQ page)
    (s.get die (F.PG_SEQ page) + 1)
  s.raise die page 31

/-- R101: every shadow of a page takes effect in one instant. -/
def State.commitAll (s : State) (die page : Nat) : State :=
  let t := s.applyShadows (onPage die page)
  let t := if portPage die page then
      (List.range 8).foldl (fun t p =>
        if page = 0x0E then
          t.watchCommit die p (t.portChanged s die p)
        else t) t
    else t
  (t.pageCommitted s die page).commitEnd die page

/-- R109: one port takes its values; with the last one the commit has taken effect. -/
def State.commitPort (s : State) (die page p : Nat) : State :=
  let k := 256 * die + page
  let t := s.applyShadows (portRegs die page p)
  let t := if page = 0x0E then
      t.watchCommit die p (t.portChanged s die p)
    else t
  let taken := Store.get s.commitPorts k 0
  let taken := if taken.testBit p then taken else taken + 2 ^ p
  if taken = 255 then (t.applyShadows (onPage die page)).commitEnd die page
  else { t with commitPorts := Store.insert (Store.erase t.commitPorts k) k taken }

/-- R105: the pending commit of a page at its boundary: its shadow set is checked whole, and takes effect or is refused. -/
def State.commitNow (s : State) (die page : Nat) : State :=
  if s.commitOk die page (s.shadowWord die page) then s.commitAll die page
  else ((s.set die (F.PG_COMMIT_PEND page) 0).raise die page 30).err die page 4

/-- R768: a run-time load lets a page commit: none runs, or it is in its check or drain, which suspend nothing of the page's
block. -/
def State.loadLets (s : State) : Bool :=
  match s.load with
  | some l => l.phase != .staged
  | none => true

/-- COMMIT_TAKE_EFFECT (R101, R104, R105, R107, R109): at the page's boundary the shadow set is checked whole, and takes
effect or is refused. -/
def execCommitTakeEffect (die page port : Nat) (s : State) : Out :=
  .next <| s.when (RegTable.implemented die page && s.present die && s.flag die (F.PG_COMMIT_PEND page)
      && s.loadLets && s.atBoundary die page port) fun s =>
    let s := s.attnSync
    if s.commitOk die page (s.shadowWord die page) && portPage die page && !s.pageStill die page then
      if port < 8 then s.commitPort die page port else s
    else (s.commitNow die page).attnSync

/-- R618: a pending TKT commit with this OP takes effect. -/
def State.tktCommit (s : State) (op : Nat) : State :=
  s.when (s.flag 0 (F.PG_COMMIT_PEND 0x09) && s.loadLets && s.sget 0 F.TKT_OP_OP == op) fun s => s.commitNow 0 0x09

/-- R107: between two operations a pending commit of the NVS page takes effect. -/
def State.nvBetween (s : State) : State :=
  s.when (s.flag 0 (F.PG_COMMIT_PEND 0x14) && s.loadLets) fun s => s.commitNow 0 0x14

/-- NV_OP_DONE (R758, R759, R761, R774, R781): the oldest background operation ends. WEAR_LOW comes as the spares fall below
8, or with the first count after a reset (DEDUCED, log entry 164). Between
two operations a pending commit of the page takes effect (R107). -/
def execNvOpDone (ok : Bool) (spares worn : Nat) (s : State) : Out :=
  .next <| match s.nv.ops with
    | [] => s
    | o :: _ =>
      if o.apart then s
      else
      let low := s.get 0 F.NVS_WEAR_SPARES
      let s := s.nvPop
      let s := (s.set 0 F.NVS_WEAR_SPARES spares).set 0 F.NVS_WEAR_WORN (min 255 worn)
      let s := if spares % 256 < 8 ∧ (8 ≤ low ∨ low = 0) then s.raise 0 0x14 2 else s
      (s.nvEnd o ok).nvBetween

/-- CAL_SAVE_END (R718, R758): the save, whose turn it is, ends: the dirty sets stand in the NV store, or the save failed and
DIRTY stays. -/
def execCalSaveEnd (ok : Bool) (s : State) : Out :=
  .next <| s.when (s.flag 0 F.CAL_SAVE_BUSY && s.nvRuns .calSave) fun s =>
    let s := (s.set 0 F.CAL_SAVE_BUSY 0).nvPop.nvBetween
    if ok then
      let keys := (s.cal.filter (fun e => e.2.dirty)).map (·.1)
      let s := keys.foldl (fun s k =>
        let s := s.setCalTarget k { s.calTarget k with dirty := false }
        { s with nv := { s.nv with cal := Store.put s.nv.cal k {} (s.calSet k) } }) s
      ((s.set 0 F.CAL_SAVE_DIRTY 0).countUp 0 F.CAL_SAVE_COUNT F.CAL_SAVE_OVF 1).raise 0 0x12 3
    else (s.err 0 0x12 0x0104).raise 0 0x12 5

/-- DARN_MAP_WRITTEN (R748, R758): the write of the field map, whose turn it is, ends. -/
def execDarnMapWritten (s : State) : Out :=
  .next <| s.when (s.flag 0 F.DRN_STAT_NVPEND && s.nvRuns .darnMap) fun s =>
    let (a, b) := s.darnMap
    ({ s with nv := { s.nv with fieldDarn := a, fieldPorts := b } }.set 0 F.DRN_STAT_NVPEND 0).nvPop.nvBetween

/-- TKT_OP_NONE (R618). -/
def execTktOpNone (s : State) : Out := .next (s.tktCommit 0)

/-- TKT_OP_WRITE (R618). -/
def execTktOpWrite (s : State) : Out := .next (s.tktCommit 1)

/-- TKT_OP_INSERT (R618). -/
def execTktOpInsert (s : State) : Out := .next (s.tktCommit 2)

/-- TKT_OP_DELETE (R618). -/
def execTktOpDelete (s : State) : Out := .next (s.tktCommit 3)

/-- TKT_OP_LOOKUP (R618). -/
def execTktOpLookup (s : State) : Out := .next (s.tktCommit 4)

/-- TKT_SNAP_SAVE (R620): a save starts; VALID clears. -/
def execTktSnapSave (s : State) : Out :=
  .next <| s.hostWrite 0 0x09 fun s =>
    if s.flag 0 F.TKT_SNAP_BUSY then s.err 0 0x09 0x0106
    else
      let s := ((s.set 0 F.TKT_SNAP_BUSY 1).set 0 F.TKT_SNAP_SAVE 1).set 0 F.TKT_SNAP_VALID 0
      let s := s.set 0 F.TKT_SNAP_PROGRESS 0
      { s with nv := { s.nv with snap := none, saving := [] } }.nvQueue .snapSave

/-- TKT_SNAP_SAVE_END (R606, R620, R758): the save, whose turn it is, completes, or fails with a FAULT record. -/
def execTktSnapSaveEnd (ok : Bool) (bucket code : Nat) (s : State) : Out :=
  .next <| s.when (s.snapSaving && s.nvRuns .snapSave) fun s =>
    let s := if ok then s.saveTo 3072 else s.set 0 F.TKT_SNAP_PROGRESS bucket
    let s := ((s.set 0 F.TKT_SNAP_BUSY 0).set 0 F.TKT_SNAP_SAVE 0).nvPop.nvBetween
    if ok then
      let t := (s.set 0 F.TKT_SNAP_VALID 1).raise 0 0x09 3
      { t with nv := { t.nv with snap := some s.nv.saving, saving := [] } }
    else
      ({ s with nv := { s.nv with saving := [] } }.raise 0 0x09 4).queueFault 0x04 0 (word bucket) (word code)

/-- TKT_SNAP_LOAD (R621): a load starts while the page is OFF and nothing runs. -/
def execTktSnapLoad (s : State) : Out :=
  .next <| s.hostWrite 0 0x09 fun s =>
    if s.flag 0 F.TKT_SNAP_BUSY || s.pageState 0 0x09 != 0 then s.err 0 0x09 0x0106
    else (((s.set 0 F.TKT_SNAP_BUSY 1).set 0 F.TKT_SNAP_LOAD 1).set 0 F.TKT_SNAP_PROGRESS 0).nvForeground

/-- R621: the whole table is replaced by the snapshot's entries. -/
def State.loadSnapshot (s : State) : State :=
  match s.nv.snap with
  | some l => { s with tickets := (l.map (fun e => (e.1, e.2.loaded))).filter (fun e => e.2 != {}) }
  | none => s

/-- TKT_SNAP_LOAD_END (R621). -/
def execTktSnapLoadEnd (crcOk : Bool) (s : State) : Out :=
  .next <| s.when (s.flag 0 F.TKT_SNAP_BUSY && s.flag 0 F.TKT_SNAP_LOAD) fun s =>
    let s := (s.set 0 F.TKT_SNAP_BUSY 0).set 0 F.TKT_SNAP_LOAD 0
    if crcOk && s.nv.snap.isSome then (s.set 0 F.TKT_SNAP_PROGRESS 3072).loadSnapshot else s.err 0 0x09 0x0105

end Sys2Proof.Machine
end

