-- ==== Sys2Proof/Machine/Image.lean ====
section
/-! DEFINITION. Profile images (chapter 20, R763 to R766): their format, the targets they may write, the check of an image
and the staging of its values. -/

namespace Sys2Proof.Machine

/-- R764: addresses rise by 4 within the die (R131). -/
def nextAddr (a : Nat) : Nat := a / 1048576 * 1048576 + (a + 4) % 1048576

/-- Consecutive addresses given to the words of a block. -/
def addressed : Nat → List Word → List (Nat × Word)
  | _, [] => []
  | a, w :: ws => (a, w) :: addressed (nextAddr a) ws

/-- R764: the blocks of an image up to END, as words with their addresses; none when a block is malformed. -/
def parseBlocks : Nat → List Word → Option (List (Nat × Word))
  | 0, _ => none
  | fuel + 1, w0 :: w1 :: rest =>
    let kind := bits w0 28 4
    let addr := bits w0 0 24
    let n := bits w1 0 16
    if bits w0 24 4 ≠ 0 ∨ bits w1 16 16 ≠ 0 then none
    else if kind = 15 then (if addr = 0 ∧ n = 0 ∧ rest.isEmpty then some [] else none)
    else if n = 0 ∨ 16384 < n then none
    else if kind = 1 then
      if rest.length < n then none
      else (parseBlocks fuel (rest.drop n)).map (addressed addr (rest.take n) ++ ·)
    else if kind = 2 then
      match rest with
      | [] => none
      | v :: t => (parseBlocks fuel t).map (addressed addr (List.replicate n v) ++ ·)
    else none
  | _ + 1, _ => none

/-- R441, R763: the closing CRC over words taken least significant byte first. -/
def crcWords (ws : List Word) : Nat := crc32 (ws.map (fun w => le4 w.toNat)).flatten

/-- R766: the writes of a word: a broadcast goes to the field dies that are present, absent dies are skipped. -/
def spread (dies : Nat) (e : Nat × Word) : List (Nat × Word) :=
  let d := e.1 / 1048576
  if d = 15 then (List.range dies).map (fun i => (e.1 % 1048576 + (i + 1) * 1048576, e.2))
  else if dies < d ∧ d ≤ 7 then [] else [e]

/-- The image in a slot: header, IMAGE_ID and its words in order, or the error code of R779. -/
def State.image (s : State) (slot : Nat) : Except Nat (Word × Word × List (Nat × Word)) :=
  match s.nvWord slot 0, s.nvWord slot 1, s.nvWord slot 2 with
  | some h, some l, some id =>
    let n := l.toNat
    if bits h 16 16 ≠ 0x5046 ∨ bits h 8 8 ≠ 1 ∨ bits h 2 6 ≠ 0 then .error 0x0103
    else if n < 6 ∨ 16384 < n then .error 0x0102
    else
      let ws := (List.range n).filterMap (s.nvWord slot)
      let body := ws.take (n - 1)
      if ws.length < n ∨ (ws[n - 1]?).map BitVec.toNat ≠ some (crcWords body) then .error 0x0102
      else
        match parseBlocks n (body.drop 3) with
        | none => .error 0x0103
        | some l => .ok (h, id, (l.map (spread s.dies)).flatten)
  | _, _, _ => .error 0x0103

/-- Fields that a profile may stage in the register at a host address: those with access RW, in PG_CTRL EN, DRAIN and
LOCK (R765, R768). -/
def heldMask (a : Nat) : Word :=
  if a % 4096 = 4 then 0xD
  else
    match RegTable.lookup (a / 1048576) (a / 4096 % 256) (a % 4096) with
    | some (r, _) => BitVec.ofNat 32 (RegTable.maskOf (fun x => x == .rw) r.fields)
    | none => 0

/-- Bits of sticky OVF flags, which a profile word leaves as they are (R768). -/
def ovfMask (a : Nat) : Word :=
  match RegTable.lookup (a / 1048576) (a / 4096 % 256) (a % 4096) with
  | some (r, _) => BitVec.ofNat 32 (RegTable.maskOf (fun _ => true) (r.fields.filter (fun f => f.name == "OVF")))
  | none => 0

/-- R765: what an address is to a profile. -/
inductive Target where
  | none | register | window | ticket
  deriving DecidableEq, Repr

/-- R765: the target of an address. -/
def target (a : Nat) : Target :=
  let d := a / 1048576
  let page := a / 4096 % 256
  let off := a % 4096
  if a % 4 ≠ 0 ∨ 7 < d then .none
  else if d = 0 ∧ 0x80 ≤ page ∧ page ≤ 0xAF then .ticket
  else if (d = 0 ∧ 0xB0 ≤ page ∧ page ≤ 0xB8) ∨ (d ≠ 0 ∧ 0x40 ≤ page ∧ page ≤ 0x47) then .window
  else if !RegTable.implemented d page ∨ (d = 0 ∧ page ≤ 1) then .none
  else if off = 4 ∨ off = 0x10 then .register
  else if off < 0x20 ∨ (d = 0 ∧ page = 0x11 ∧ 0x02C ≤ off ∧ off ≤ 0x040) then .none
  else if heldMask a ||| rwsMask a = 0 then .none
  else .register

/-- R765: a register word with bits that its fields do not offer to a profile: 0x0104 for a bit that is written for its
effect, 0x0105 for a reserved or RO one. -/
def wordFault (a : Nat) (w : Word) : Option Nat :=
  match target a with
  | .none => some 0x0104
  | .register =>
    let left := w &&& ~~~ (heldMask a ||| rwsMask a ||| ovfMask a)
    if left = 0 then none
    else if left &&& writableMask (a / 1048576) (a / 4096 % 256) (a % 4096) ≠ 0 then some 0x0104 else some 0x0105
  | _ => none

/-- The last word written to each address (R766). -/
def latest (ws : List (Nat × Word)) : List (Nat × Word) :=
  ws.foldl (fun l e => Store.insert (Store.erase l e.1) e.1 e.2) []

/-- R765: ticket words that form whole entries in their buckets; entries by index. -/
def imageTickets (ws : List (Nat × Word)) : Option (List (Nat × Ticket)) :=
  let own := ws.filter (fun e => target e.1 == .ticket)
  let at0 := (own.map (fun e => (e.1 - 0x80000) / 16)).eraseDups
  at0.mapM fun i =>
    let w := fun k => Store.find? ws (0x80000 + 16 * i + 4 * k)
    match w 0, w 1, w 2, w 3 with
    | some lo, some hi, some ctl, some last =>
      let t : Ticket := { lo := lo, hi := hi, ctl := ctl, last := last }
      if stagedBad ctl then none
      else if t.kind = 0 then some (i, {})
      else if i / 4 = bucketOf t.kind t.ident then some (i, t)
      else none
    | _, _, _, _ => none

/-- R635, R636: a map of sources to slots that no two sources share; a reserved source has no slot. -/
def mapOk (src : Nat → Word) : Bool :=
  let used := ((List.range 420).map (fun n => bits (src n) 0 9)).filter (· != 0)
  decide (used.eraseDups.length = used.length) && !used.contains 511
    && (List.range 420).all (fun n => !reservedSource n || src n == 0)

/-- Addresses of the registers of a page. -/
def pageAddrs (die page : Nat) : List Nat :=
  ((RegTable.headerRows die page ++ RegTable.blockRows die page).map (fun r =>
    (List.range r.count).map (fun i => hostAddr die page (r.off + r.stride * i)))).flatten

/-- The register pages that a profile sets: those of the anchor but DEV and TBS, and those of the field dies given. -/
def profilePages (dies : List Nat) : List (Nat × Nat) :=
  (List.range 21).map (fun k => (0, k + 2))
    ++ (dies.map (fun d => (List.range 19).map (fun k => (d, k)))).flatten

/-- The staged word of a register: the image's last word for it, else its reset value (R768). -/
def stagedWord (ws : List (Nat × Word)) (a : Nat) : Word := Store.get ws a (resetAt a)

/-- R768, step 3: shadows of every RWS field, and held words of every register with RW fields; `kept` registers keep the
values in force. -/
def State.stageImage (s : State) (pages : List (Nat × Nat)) (kept : Nat → Bool) (ws : List (Nat × Word)) :
    State × List (Nat × Word) :=
  let addrs := (pages.map (fun p => pageAddrs p.1 p.2)).flatten
  let val := fun a => if kept a then Store.get s.regs a (resetAt a) else stagedWord ws a
  let sh := (addrs.filter (fun a => rwsMask a != 0)).foldl (fun l a => Store.insert (Store.erase l a) a (val a)) s.shadow
  ({ s with shadow := sh }, (addrs.filter (fun a => heldMask a != 0)).map (fun a => (a, val a)))

/-- R768, step 4: the window words of an image are written. -/
def State.writeWindows (s : State) (ws : List (Nat × Word)) : State :=
  (ws.filter (fun e => target e.1 == .window)).foldl (fun s e => s.setMemWord e.1 e.2) s

/-- R765, R105: every page's staged values lie in their legal ranges. -/
def State.pagesOk (s : State) (pages : List (Nat × Nat)) : Bool :=
  pages.all fun p => !hasShadows p.1 p.2 || s.commitOk p.1 p.2 (s.shadowWord p.1 p.2)

/-- A device as it stands after reset, which an image is checked against: its own two-wire address and counter apart, no
value in force enters the check. -/
def State.imageBase (s : State) : State :=
  { State.reset with
    part := s.part, mem := s.mem,
    regs := s.regs.filter (fun e => e.1 == hostAddr 0 0x07 0x02C) }

/-- R763 to R765: the check of a slot's image: header, IMAGE_ID and the last word of each address, or the error code. -/
def State.checkImage (s : State) (slot : Nat) : Except Nat (Word × Word × List (Nat × Word)) :=
  match s.image slot with
  | .error e => .error e
  | .ok (h, id, raw) =>
    let faults := raw.filterMap (fun e => wordFault e.1 e.2)
    let ws := latest raw
    if faults.contains 0x0104 then .error 0x0104
    else if !faults.isEmpty then .error 0x0105
    else
      let pages := profilePages ((List.range s.dies).map (· + 1))
      let (t, held) := (s.imageBase.writeWindows ws).stageImage pages (fun _ => false) ws
      let src := fun n => (Store.get held (hostAddr 0 0x05 (0x400 + 4 * n)) 0)
      if (imageTickets ws).isNone || !t.pagesOk pages || !mapOk src then .error 0x0105
      else .ok (h, id, ws)

end Sys2Proof.Machine
end

