-- ==== Sys2Proof/Machine/Profile.lean ====
section
/-! DEFINITION. Profile loads (chapter 20, R767 to R772): staging, writing and committing an image at start-up and at run
time, and what a failed retention bank reloads from the active profile (R671). -/

namespace Sys2Proof.Machine

/-- R522: a note for a poll list that no longer waits. -/
def Note.forget (l : Nat) : Note → Note
  | .tag k => if k = l then .none else .tag k
  | .radio k => if k = l then .none else .radio k
  | n => n

/-- R522: the records on their way are written, but not for the list any more. -/
def State.forgetNotes (s : State) (l : Nat) : State :=
  { s with
    classes := s.classes.map (fun e => (e.1, { e.2 with
      recs := e.2.recs.map (fun r => { r with note := r.note.forget l }),
      waiting := e.2.waiting.map (fun r => { r with note := r.note.forget l }) })),
    dieX := s.dieX.map (fun e => (e.1, { e.2 with out := e.2.out.map (fun r => { r with note := r.note.forget l }) })),
    exchs := s.exchs.map (fun e => (e.1, if e.2.origin = .list l then { e.2 with origin := .host } else e.2)),
    recDone := Store.erase (Store.erase s.recDone l) (32 + l) }

/-- R522: the radio commands of a list: one that has not reached the head is withdrawn, the head runs on for no list. -/
def State.stopRadio (s : State) (l : Nat) : State :=
  match s.radio.queue with
  | [] => s
  | h :: t =>
    let h' : RadioCmd := if h.list = some l then { h with list := none } else h
    let out := t.filter (fun c => c.list == some l)
    out.foldl State.withdrawTx { s with radio := { s.radio with queue := h' :: t.filter (fun c => c.list != some l) } }

/-- R522: a list's run ends at the instruction boundary; its pending trigger is cleared and its waiting work withdrawn. -/
def State.stopList (s : State) (l : Nat) : State :=
  let x := s.pleList l
  let s := s.setList l { x with run := none, pend := none }
  let s := (s.coord.cands.filter (fun c => c.origin == .list l)).foldl (fun s c => s.withdraw c) s
  let s := s.sscWithdraw l
  let q := s.ssc.queue.map (fun (e : SscEntry) => if e.list = some l then { e with list := some 32 } else e)
  let s : State := { s with ssc := { s.ssc with queue := q } }
  let s := { s with saf := { s.saf with reqs := s.saf.reqs.filter (fun r => r.2.2 != some l) } }
  (s.stopRadio l).forgetNotes l

/-- R677: KEEP_RUN brings a die to RUN, from DOZE or from logic off. -/
def State.holdRun (s : State) (d : Nat) : State :=
  if !s.awake || !s.inService d || !s.flag d F.DPWR_CFG_KEEP_RUN || s.pstate d == 2 then s
  else if s.pstate d = 0 then (s.dieUp d).coordinate
  else (s.set d F.DPWR_STAT_PSTATE 2).coordinate

/-- R770: the staged map of the interrupt controller: a source in service keeps its slot and targets until its completion,
and a source whose staged slot is still held stays unmapped until then. -/
def State.takeMap (s : State) (w : Nat → Word) : State :=
  let srcs := (List.range 420).filter (fun n => !reservedSource n)
  let busy := srcs.filter (fun n => s.flag 0 (F.ICU_SRC_INSVC n))
  let held := busy.map (fun n => s.get 0 (F.ICU_SRC_SLOT n))
  let staged := busy.map (fun n => (n, w n))
  let s := { s with icu := { s.icu with staged := staged, unmapped := [] } }
  srcs.foldl (fun s n =>
    if busy.contains n then s
    else
      let slot := bits (w n) 0 9
      let s := s.set 0 (F.ICU_SRC_TARGET n) (bits (w n) 20 4)
      if slot != 0 && held.contains slot then
        { s with icu := { s.icu with unmapped := s.icu.unmapped ++ [(n, slot)] } }.set 0 (F.ICU_SRC_SLOT n) 0
      else s.set 0 (F.ICU_SRC_SLOT n) slot) s

/-- Registers whose RW fields are not taken from the held words one by one: PG_CTRL, the interrupt map, the claim registers
and the sensor variables. -/
def apart (a : Nat) : Bool :=
  a % 4096 == 4 || decide (0x5400 ≤ a ∧ a < 0x5A90) || a == 0x5040 || a == 0x5060 || a == 0x5080 || a == 0x50A0
    || decide (0xB100 ≤ a ∧ a < 0xB200)

/-- A held word takes effect in its RW fields. -/
def State.takeHeld (s : State) (a : Nat) (w : Word) : State :=
  let m := heldMask a
  let old := Store.get s.regs a (resetAt a)
  { s with regs := Store.put s.regs a (resetAt a) ((old &&& ~~~ m) ||| (w &&& m)) }

/-- R523, R768: the sensor variables as an image sets them: those it does not write become 0 and not VALID. -/
def State.setVariables (s : State) (ws : List (Nat × Word)) : State :=
  let addr := fun (n : Nat) => hostAddr 0 0x0B (0x100 + 4 * n)
  let s := (List.range 64).foldl (fun s n => s.setReg 0 0x0B (0x100 + 4 * n) ((Store.find? ws (addr n)).getD 0)) s
  let valid := fun (b : Nat) => (List.range 32).foldl (fun v i =>
    if (Store.find? ws (addr (b + i))).isSome then v + 2 ^ i else v) 0
  (s.setReg 0 0x0B 0x030 (word (valid 0))).setReg 0 0x0B 0x034 (word (valid 32))

/-- R768, step 5, R101: every page takes its staged values in one instant: registers first, then what follows from them in
each block, then PG_CTRL. PG_SEQ increments on every page, COMMITTED is raised on those that hold shadows. -/
def State.commitStaged (s : State) (pages : List (Nat × Nat)) (held : List (Nat × Word)) : State :=
  let on := fun (a : Nat) => pages.any (fun p => onPage p.1 p.2 a)
  let old := s
  let s := s.applyShadows on
  let s := (held.filter (fun e => !apart e.1)).foldl (fun s e => s.takeHeld e.1 e.2) s
  let s := if pages.contains (0, 5) then s.takeMap (fun n => Store.get held (hostAddr 0 0x05 (0x400 + 4 * n)) 0) else s
  let s := pages.foldl (fun s p =>
    if !hasShadows p.1 p.2 then
      (s.set p.1 (F.PG_COMMIT_PEND p.2) 0).set p.1 (F.PG_SEQ p.2) (s.get p.1 (F.PG_SEQ p.2) + 1)
    else
      let s := if p.1 ≠ 0 ∧ p.2 = 0x0E then
          (List.range 8).foldl (fun s k => s.watchCommit p.1 k (s.portChanged old p.1 k)) s
        else s
      let s := if p = (0, 9) ∧ s.get 0 F.TKT_OP_OP = 0 then s else s.pageCommitted old p.1 p.2
      s.commitEnd p.1 p.2) s
  let s := pages.foldl (fun s p =>
    match Store.find? held (hostAddr p.1 p.2 4) with
    | some w =>
      let s := (s.writeEn p.1 p.2 (bit w 0)).writeDrain p.1 p.2 (bit w 2)
      if bit w 3 then s.set p.1 (F.PG_LOCK p.2) 1 else s
    | none => s) s
  (List.range s.dies).foldl (fun s i => s.holdRun (i + 1)) s

/-- R772: the ticket table as the image's ticket words make it. -/
def State.imageTable (s : State) (ws : List (Nat × Word)) : State :=
  let own := ((imageTickets ws).getD []).filter (fun e => e.2 != {})
  let table := own.foldl (fun (l : List (Nat × Ticket)) e => Store.insert (Store.erase l e.1) e.1 e.2) []
  { s.saveStep with tickets := table, departs := [] }

/-- R769: registers that a run-time load leaves as they are. -/
def keptAtRun (a : Nat) : Bool :=
  a == hostAddr 0 0x08 0x020 || a == hostAddr 0 0x11 0x024 || a == hostAddr 0 0x11 0x028 || a == hostAddr 0 0x11 0x02C

/-- The dies that a load reaches. -/
def State.loadDies (s : State) : List Nat := ((List.range s.dies).map (· + 1)).filter s.inService

/-- DEV_LOAD, PROFILE_LOAD (R768, R771): a run-time load starts with the check of its image. -/
def State.startLoad (s : State) (slot : Nat) : State :=
  if s.load.isSome || decide (s.power.phase ≠ .none) then s.err 0 0x00 7
  else
    let s := ((s.set 0 F.DEV_PROFILE_LOADING 1).set 0 F.DEV_PROFILE_LAYOUT_KEPT 0).set 0 F.DEV_PROFILE_LOCK_SKIPPED 0
    { s.nvForeground with load := some { slot := slot % 4, phase := .check } }

/-- DEV_LOAD (R768). -/
def execDevLoad (slot : Nat) (s : State) : Out := .next <| s.hostWrite 0 0x00 fun s => s.startLoad slot

/-- The engines resume after a load's drain (R768); after a load that was applied every enabled plan starts afresh (R250,
R252). -/
def State.resume (s : State) (applied : Bool) : State :=
  let s := { s with load := none, coord := { s.coord with loading := false } }
  let s := s.set 0 F.DEV_PROFILE_LOADING 0
  let s := if applied then
      ((List.range 64).filter (fun n => s.flag 0 (F.FCO_PLAN_CFG_EN n))).foldl (fun s n => s.roundDue n) s
    else s
  let s := (List.range 32).foldl (fun s n => s.pleNext n) s
  s.sslReserve.coordinate

/-- R768: the radio returns to the state it left for the drain. -/
def State.radioBack (s : State) (o : Option (Nat × Nat)) : State :=
  match o with
  | some g => if s.radio.goal.isNone && !s.radio.running then { s with radio := { s.radio with goal := some g } }.radioSettle else s
  | none => s

/-- A load ends with an error: nothing of it is applied. -/
def State.loadFailed (s : State) (code : Nat) : State :=
  let back := s.load.bind Load.radio
  let s := ((s.set 0 F.DEV_PROFILE_LASTRES (code % 256)).err 0 0x00 code).raise 0 0x00 1
  (s.resume false).radioBack back

/-- R768: outside a frame, the radio goes from RX to SYNTH_ON for the drain. -/
def State.radioToSynth (s : State) (l : Load) : State × Load :=
  if s.rstate = 4 ∧ !s.receiving then
    ((s.leaveRx.set 0 F.RFC_STAT_RSTATE 3).cxRelease, { l with radio := some (4, s.chan) })
  else (s, l)

/-- PROFILE_CHECK_END (R768, steps 1 and 2): an invalid image ends the load; a valid one starts the drain. -/
def execProfileCheckEnd (s : State) : Out :=
  .next <| match s.load with
    | some l =>
      if l.phase ≠ .check then s
      else
        match s.checkImage l.slot with
        | .error e => s.loadFailed e
        | .ok _ =>
          let s := { s with coord := { s.coord with loading := true } }
          let s := s.coord.cands.foldl (fun s c => s.withdraw c) s
          let s := s.endHolds none
          let s := (List.range 32).foldl (fun s n => if (s.pleList n).run.isSome then s.stopList n else s) s
          let (s, l) := s.radioToSynth { l with phase := .drain }
          { s with load := some l }.sslUpdate.coordinate
    | none => s

/-- R656, R768: a slice has a field. The ramp that ends a field is the end of the work that had it (DEDUCED, log entry 116). -/
def State.anyField (s : State) : Bool :=
  (List.range s.dies).any fun i => (List.range 10).any fun sl => decide (1 ≤ s.fstate (i + 1) sl ∧ s.fstate (i + 1) sl ≤ 5)

/-- R768: no admitted work, running radio frame, running serial entry or asserted SLSEL remains. -/
def State.drained (s : State) : Bool :=
  s.exchs.isEmpty && !s.anyField && !s.sending && !s.receiving && !s.ssc.running && !s.flag 0 F.SSL_STAT_SELACT

/-- PROFILE_LOAD_TIMEOUT (R768, step 2). -/
def execProfileLoadTimeout (s : State) : Out :=
  .next <| match s.load with
    | some l => if l.phase = .drain ∧ !s.drained then s.loadFailed 0x0106 else s
    | none => s

/-- R768, steps 3 and 4: a checked image with these flags and writes is staged on the pages that are not locked; where a
staged page fails its commit check the load ends, else its windows are written. -/
def State.stageLoad (s : State) (l : Load) (h : Word) (ws : List (Nat × Word)) : State :=
  let all := profilePages s.loadDies
  let pages := all.filter (fun p => !s.flag p.1 (F.PG_LOCK p.2))
  let skipped := all.any (fun p => s.flag p.1 (F.PG_LOCK p.2) && ws.any (fun e => onPage p.1 p.2 e.1))
  let lay := hostAddr 0 0x08 0x020
  let s := s.set 0 F.DEV_PROFILE_LOCK_SKIPPED (b2n skipped)
  let s := s.set 0 F.DEV_PROFILE_LAYOUT_KEPT
    (b2n ((Store.find? ws lay).isSome && Store.get ws lay 0 != s.reg 0 0x08 0x020))
  let (t, held) := s.stageImage pages keptAtRun ws
  if !(t.writeWindows ws).pagesOk pages then s.loadFailed 0x0105
  else
    let t := t.writeWindows ws
    let t := if pages.contains (0, 0x0B) then t.setVariables ws else t
    let t := if bit h 1 then t.imageTable ws else t
    let t := pages.foldl (fun t p => t.set p.1 (F.PG_COMMIT_PEND p.2) 1) t
    { t with load := some { l with phase := .staged, held := held } }

/-- PROFILE_DRAIN_END (R768, steps 2 to 4): the image is checked and staged. -/
def execProfileDrainEnd (s : State) : Out :=
  .next <| match s.load with
    | some l =>
      if l.phase ≠ .drain ∨ !s.drained then s
      else
        let (s, l) := s.radioToSynth l
        match s.checkImage l.slot with
        | .error e => s.loadFailed e
        | .ok (h, _, ws) => s.stageLoad l h ws
    | none => s

/-- R718, R757: calibration sets are loaded from the NV store; those whose CRC fails read as empty. -/
def State.loadCal (s : State) (bad : List Nat) : State :=
  { s.nvForeground with calSets := s.nv.cal.filter (fun e => !bad.contains e.1) }

/-- PROFILE_COMMIT (R768, step 5): the tick is named under R30, and one that comes late is counted. -/
def execProfileCommit (late : Bool) (s : State) : Out :=
  .next <| match s.load with
    | some l =>
      if l.phase ≠ .staged then s
      else
        let pages := (profilePages s.loadDies).filter (fun p => !s.flag p.1 (F.PG_LOCK p.2))
        let id := (s.nvWord l.slot 2).getD 0
        let s := (s.syncLate late).attnSync.commitStaged pages l.held
        let s := ((s.set 0 F.DEV_PROFILE_LASTRES 1).set 0 F.DEV_PROFILE_ACTIVE l.slot).set 0 F.DEV_PROFILE_NONE 0
        let s := ((s.set 0 F.DEV_PROFILE_FALLBACK 0).setReg 0 0x00 0x02C id).raise 0 0x00 0
        (((s.loadCal []).refreshAll.allDue.resume true).radioBack l.radio).attnSync
    | none => s

/-- The active profile's writes; none without a valid image (R671, R767). -/
def State.activeWrites (s : State) : List (Nat × Word) :=
  match s.activeSlot with
  | some k =>
    match s.checkImage k with
    | .ok (_, _, ws) => ws
    | .error _ => []
  | none => []

/-- Fields that show what a block outside the bank does: the RO fields of a block register without counts (assumption
log). -/
def liveMask (a : Nat) : Word :=
  if a % 4096 < 0x20 then 0
  else
    match RegTable.lookup (a / 1048576) (a / 4096 % 256) (a % 4096) with
    | some (r, _) =>
      if r.fields.any (fun f => f.name == "OVF") then 0
      else BitVec.ofNat 32 (RegTable.maskOf (fun x => x == .ro || x == .rh) r.fields)
    | none => 0

/-- R671: a failed register bank takes the page's values from the active profile, the counter of SEC from the NV store,
and the page starts again from OFF; a DARNED slice stays so (R93). A failed HMP bank empties every class. The low word of
an alarm that is held apart (R114) is no part of a bank (DEDUCED, log entry 81). -/
def State.reloadPage (s : State) (die page : Nat) : State :=
  let ws := s.activeWrites
  let s := { s with shadow := s.shadow.filter (fun e => !onPage die page e.1) }
  let s := (pageAddrs die page).foldl (fun s a =>
    let live := liveMask a
    let m := (heldMask a ||| rwsMask a) &&& (if a % 4096 = 4 then 0xC else 0xFFFFFFFF)
    let new := (resetAt a &&& ~~~ m) ||| ((Store.find? ws a).getD (resetAt a) &&& m)
    let w := (new &&& ~~~ live) ||| (Store.get s.regs a (resetAt a) &&& live)
    { s with regs := Store.put s.regs a (resetAt a) w }) s
  let en := match Store.find? ws (hostAddr die page 4) with
    | some w => bit w 0
    | none => RegTable.enReset die page == 1
  let drain := s.flag die (F.PG_DRAIN page)
  let darned := isSlicePage die page && (s.get die F.DDRN_SLICES_DARNED).testBit (page - 1)
  let s := (s.set die (F.PG_EN page) (b2n (en && !darned))).setPage die page
    (if darned then 6 else if !en then 0 else if drain then 3 else 2)
  if die = 0 ∧ page = 8 then s.emptyClasses
  else if die = 0 ∧ page = 0x11 then s.resumeCounter
  else if die = 0 ∧ page = 0x0B then s.setVariables ws
  else s

/-- R669: a span of window memory is cleared and takes the active profile's words. -/
def State.reloadWindow (s : State) (a bytes : Nat) : State :=
  let ws := s.activeWrites.filter (fun e => target e.1 == .window && decide (a ≤ e.1 ∧ e.1 < a + bytes))
  ws.foldl (fun s e => s.setMemWord e.1 e.2) { s with mem := Memory.clear s.mem a bytes }

end Sys2Proof.Machine
end

