-- ==== Sys2Proof/Machine/Banks.lean ====
section
/-! DEFINITION. The retention banks (chapter 17, R669, R670): what each holds and the CRC-32 stored for it. The manual gives
no order of the words in a bank; the one here is the model's (DESIGN CHOICE, log entry 133). -/

namespace Sys2Proof.Machine

/-- R669: the banks of a die. -/
def banksOf (die : Nat) : List Nat :=
  if die = 0 then List.range 0x22 ++ (List.range 0x17).map (0x40 + ·) else List.range 4 ++ (List.range 0x13).map (0x40 + ·)

/-- The words of a hamper bank that records occupy, each after its place in the hamper. -/
def State.hamperBank (s : State) (bank : Nat) : List Int :=
  ([0, 1, 2, 3].map fun c =>
    let base := s.regionBase c
    let size := max 1 (s.regionSize c)
    ((s.cls c).recs.map fun r =>
      ((r.words.zipIdx.filter fun e => (base + (r.pos + e.2) % size) / 4096 == bank).map fun e =>
        [((base + (r.pos + e.2) % size : Nat) : Int), (e.1.toNat : Int)]).flatten).flatten).flatten

/-- The bytes of a window that a bank holds, each after its address. -/
def State.windowBank (s : State) (a bytes : Nat) : List Int :=
  ((s.mem.filter fun c => decide (a ≤ c.1 ∧ c.1 < a + bytes)).map fun c => [(c.1 : Int), (c.2.toNat : Int)]).flatten

/-- The registers of a page. -/
def State.pageBank (s : State) (die page : Nat) : List Int :=
  ((s.regs.filter fun e => onPage die page e.1).map fun e => [(e.1 : Int), (e.2.toNat : Int)]).flatten

/-- Calibration sets with their keys. -/
def setBank (l : List (Nat × CalSet)) : List Int :=
  (l.map fun e =>
    [(e.1 : Int), e.2.lastTemp, (e.2.port : Int), (e.2.seq : Int), (e.2.adj.toNat : Int), (e.2.watch.toNat : Int)] ++
      (e.2.points.map fun p => p.temp :: (p.vals.map fun v => [(v.1 : Int), v.2]).flatten).flatten).flatten

/-- The watch domain of a port: trackers, counts and its held record. -/
def Watch.bank (w : Watch) : List Int :=
  [(w.saved : Int), w.trkA, w.trkP, w.sumA, w.sumP, (w.learned : Int), (w.probes : Int), b2n w.probed, b2n w.reported] ++
    (match w.pendingRec with
      | some (t, ws) => (t : Int) :: ws.map fun x => (x.toNat : Int)
      | none => [])

/-- What a bank holds. -/
def State.bankContent (s : State) (die bank : Nat) : List Int :=
  if 0x40 ≤ bank then s.pageBank die (bank - 0x40)
  else if die = 0 then
    if bank < 0x10 then s.hamperBank bank
    else if bank < 0x1C then
      ((s.tickets.filter fun e => e.1 / 1024 == bank - 0x10).map fun e =>
        [(e.1 : Int), (e.2.lo.toNat : Int), (e.2.hi.toNat : Int), (e.2.ctl.toNat : Int), (e.2.last.toNat : Int)]).flatten
    else
      match bank with
      | 0x1C => s.windowBank (hostAddr 0 0xB0 0) 16384
      | 0x1D => s.windowBank (hostAddr 0 0xB4 0) 16384
      | 0x1E => s.windowBank (hostAddr 0 0xB8 0) 8192
      | 0x1F => (s.radio.keys.map fun e => (e.1 : Int) :: e.2.map fun w => (w.toNat : Int)).flatten
      | 0x20 => (s.radio.charges.map fun e => [(e.1 : Int), (e.2.1 : Int), (e.2.2 : Int)]).flatten
      | _ => setBank (s.calSets.filter fun e => e.1 == 0 || decide (0x1000 ≤ e.1))
  else
    match bank with
    | 0 => s.windowBank (hostAddr die 0x40 0) 16384
    | 1 => s.windowBank (hostAddr die 0x44 0) 16384
    | 2 => setBank (s.calSets.filter fun e => decide (e.1 < 0x1000) && e.1 / 16 == die)
    | _ => ((List.range 8).map fun p => (s.watchOf die p).bank).flatten

/-- R670: the CRC-32 of a bank. -/
def State.bankCrc (s : State) (die bank : Nat) : Nat :=
  crc32 (((s.bankContent die bank).map fun x => le4 (field 32 x)).flatten)

/-- R658, step 7, R670: the CRC-32 of every bank of the dies is computed and stored. -/
def State.storeCrcs (s : State) (dies : List Nat) : State :=
  { s with power := { s.power with
      crcs := (dies.map fun d => (banksOf d).map fun b => (256 * d + b, s.bankCrc d b)).flatten ++
        s.power.crcs.filter fun e => !dies.contains (e.1 / 256) } }

/-- R670: the banks whose CRC-32, as found at the wake, is not the stored one. -/
def State.crcFails (s : State) (die : Nat) (found : List (Nat × Nat)) : List Nat :=
  (found.filter fun e => (banksOf die).contains e.1 && Store.get s.power.crcs (256 * die + e.1) 0 != e.2).map Prod.fst

end Sys2Proof.Machine
end

