-- ==== Sys2Proof/Machine/Power.lean ====
section
/-! DEFINITION. Power states (chapter 17): sleep entry, the retention check, waking, pads and field-die power. -/

namespace Sys2Proof.Machine

/-- Ports of the package with CWT_Pp_CFG.SLEEP in force (R428). -/
def State.sleepPorts (s : State) : List Nat :=
  (List.range (8 * s.dies)).filter (fun n => s.flag (portDie n) (F.CWT_P_CFG_SLEEP (portIx n)))

/-- Words reserved in a class other than the listener's standing reservations. -/
def State.reservedElse (s : State) (c : Nat) : Nat :=
  let own := fun (o : Option (Nat × Nat)) => match o with
    | some (k, n) => if k = c then n else 0
    | none => 0
  (s.cls c).reserved - own s.ssl.held - own s.ssl.next

/-- R656: the entry holders. -/
def State.holders (s : State) : Nat :=
  let listRuns := (List.range 32).any fun n => match (s.pleList n).run with
    | some r => (match r.wait with
      | .time _ => false
      | _ => true)
    | none => false
  let work := !s.exchs.isEmpty || s.anyField || s.cal.any (fun e => e.2.running) || s.tests.any (fun e => e.2.running || e.2.granted)
  let txRuns := s.radio.running && (match s.radio.queue.head? with
    | some c => c.code == 5
    | none => false)
  let hamper := [0, 1, 2, 3].any fun c => s.reservedElse c != 0 || (s.cls c).writing || !(s.cls c).waiting.isEmpty
  let frame := s.hsp.selLow || s.htw.busy || (s.htw.attn.isSome && !s.htw.backoff)
  b2n listRuns + 2 * b2n (!s.ssc.queue.isEmpty) + 4 * b2n (s.flag 0 F.SSL_STAT_SELACT) + 8 * b2n work
    + 16 * b2n (txRuns || s.receiving) + 32 * b2n hamper + 64 * b2n frame + 128 * b2n s.nvBusy

/-- R654, R655: a sleep request, refused or starting the DRAIN phase. -/
def State.sleepRequest (s : State) (toWatch : Bool) : State :=
  s.hostWrite 0 0x03 fun s =>
    if s.power.phase ≠ .none ∨ s.load.isSome then s.err 0 0x03 7
    else if toWatch ∧ 8 < s.sleepPorts.length then s.err 0 0x03 0x0102
    else
      let s := s.setPhase .drain
      let s := { s with power := { s.power with toWatch := toWatch, frozenHolders := none } }
      let s := s.coord.cands.foldl (fun s c => s.withdraw c) s
      (s.endHolds none).withdrawQueue.coordinate

/-- SLEEP_DEEP_REQUEST (R654, R655). -/
def execSleepDeepRequest (s : State) : Out := .next (s.sleepRequest false)

/-- SLEEP_WATCH_REQUEST (R654, R655). -/
def execSleepWatchRequest (s : State) : Out := .next (s.sleepRequest true)

/-- ENTRY_TIMEOUT (R657): holders remain, and the entry is refused. One that has come during PREPARE holds it like those
of DRAIN (R517, R556, R568; DEDUCED, log entry 134), and the pads are released again. -/
def execEntryTimeout (s : State) : Out :=
  .next <| s.when (decide (s.power.phase ≠ .none) && s.holders != 0) fun s =>
    let h := s.holders
    let s := if s.power.phase = .prepare then s.releasePads 7 else s
    let s := s.setPhase .none
    let s := { s with power := { s.power with frozenHolders := some h } }
    ((s.err 0 0x03 0x0101).raise 0 0x03 2).coordinate

/-- R658, step 2: the radio goes to SLEEP; what was queued since the request is withdrawn like what was then (R477). -/
def State.radioSleep (s : State) : State :=
  let s := if s.rstate = 4 then s.leaveRx else s
  let s := { s.abandonHop with radio := { s.radio with running := false } }.withdrawQueue
  let s := { s with radio := { s.radio with running := false, goal := none, calLeft := [], creditSeen := false } }
  (s.set 0 F.RFC_STAT_RSTATE 0).cxRelease

/-- R658, steps 4 to 7, R673: the increment is loaded, the watch oscillators are trimmed, the pads are latched as they
are, where a group still held keeps what it shows, and the CRC-32 of every bank is stored. -/
def State.prepareRest (s : State) : State :=
  let s := s.autotrim
  let dies := (s.sleepPorts.map portDie).eraseDups
  let s := if s.power.toWatch then dies.foldl (fun s d => s.setDie d { s.die d with watchOscTrimmed := true }) s else s
  let s := { s with power := { s.power with padLatch := s.gpWords ++ [s.selWord], sscLatch := s.sscRest, prepared := true } }
  (s.set 0 F.PWR_STAT_PADHELD 7).storeCrcs (List.range (s.dies + 1))

/-- R658, steps 3 and 4: once the supply request of PREPARE has ended, acknowledged or not, the steps after it run. -/
def State.afterSupply (s : State) : State :=
  s.when (decide (s.power.phase = .prepare) && !s.power.prepared && s.supply.flight.isNone && s.supply.waiting.isNone)
    State.prepareRest

/-- SRL_ACK (R680, R681): SRAK is high: the request ends ACKED and its target is in force. -/
def execSrlAck (s : State) : Out :=
  .next <|
    match s.supply.flight with
    | none => s
    | some r =>
      let s := if r.cmd = 4 then s else { s with supply := { s.supply with inForce := some s.supply.sent } }
      (((s.set 0 F.SRL_STAT_SRAK 1).supplyEnded 1).raise 0 0x04 0).afterSupply

/-- SRL_NOACK (R680): the timeout ends the request; the target in force stays, the timeout is counted. -/
def execSrlNoack (s : State) : Out :=
  .next <|
    match s.supply.flight with
    | none => s
    | some _ =>
      ((((s.supplyEnded 2).countUp 0 F.SRL_CNT_NOACK_COUNT F.SRL_CNT_NOACK_OVF 1).raise 0 0x04 1).err 0 0x04
        0x0101).afterSupply

/-- SLEEP_PREPARE (R658): no holder remains; the steps of PREPARE. Those after the supply request of step 3 wait for its
end. -/
def execSleepPrepare (s : State) : Out :=
  .next <| s.when (decide (s.power.phase = .drain) && s.holders == 0) fun s =>
    let s := { s with power := { s.power with prepared := false } }
    let s := (s.setPhase .prepare).sslRelease.radioSleep
    let v := s.get 0 F.PWR_VSLEEP_TARGET
    if v = 0 then s.prepareRest else s.supplyRequest { cmd := 1, value := v }

/-- SLEEP_COMMIT (R659): once every step of PREPARE is done and no holder has come since, the domains that the target state
does not power turn off; the interrupt lines stay as last evaluated (R641). -/
def execSleepCommit (s : State) : Out :=
  .next <| s.when (decide (s.power.phase = .prepare) && s.power.prepared && s.holders == 0) fun s =>
    let s := s.keepLines
    let toWatch := s.power.toWatch
    let watched := (s.sleepPorts.map portDie).eraseDups
    let s := s.setPhase .none
    let inc := s.get 0 F.TBS_INC_INT_INT * 2 ^ 32 + s.get 0 F.TBS_INC_FRAC_FRAC
    let s := (List.range s.dies).foldl (fun s i =>
      let d := i + 1
      let s := ((s.set d F.DPWR_STAT_PSTATE 0).set d F.DPWR_STAT_WATCHDOM (b2n (toWatch && watched.contains d))).setBit 0
        F.SEM_DIES_LOCKED i false
      s.setDie d { s.die d with timeLoaded := false, runAsked := false }) s
    let s := { s with device := if toWatch then .watch else .deepSleep, ready := false,
                      tb := { s.tb with inc := inc, frac := 0, align := true },
                      power := { s.power with sleptAt := s.time, waking := false, frontReady := false, anchorReady := false } }
    (s.set 0 F.TBS_MEAS_VALID 0).cmpSettle.watchSyncAll.attnSync

/-- R670: banks that are reloaded from the active profile or from the NV store, which is a foreground read (R757). -/
def reloadedBank (die bank : Nat) : Bool :=
  decide (0x40 ≤ bank) || (if die = 0 then [0x1C, 0x1D, 0x1E, 0x21].contains bank else [0, 1, 2].contains bank)

/-- R757: the reads that reload failed banks. -/
def State.reloadReads (s : State) (die : Nat) (l : List Nat) : State :=
  if l.any (fun x => reloadedBank die (x % 256)) then s.nvForeground else s

/-- R669: the calibration sets of a bank are those of the NV store again. -/
def State.reloadSets (s : State) (own : Nat → Bool) : State :=
  { s with calSets := (s.nv.cal.filter (fun e => own e.1)).foldl (fun l e => Store.insert (Store.erase l e.1) e.1 e.2)
                        (s.calSets.filter (fun e => !own e.1)) }

/-- R669, R671, R429: a failed register bank of a field die is reloaded; the ports of a CWT page are watched as it says. -/
def State.reloadBank (s : State) (die page : Nat) : State :=
  let t := s.reloadPage die page
  if page = 0x0E then
    (List.range 8).foldl (fun t p => t.watchCommit die p (t.portChanged s die p)) t
  else t

/-- R669: what a failed bank loses, and what it is reloaded from. -/
def State.failBank (s : State) (die bank : Nat) : State :=
  if die = 0 then
    if bank < 0x10 then (s.attnSync.discardBank bank).attnSync
    else if bank < 0x1C then { s with tickets := s.tickets.filter (fun e => e.1 / 1024 != bank - 0x10), departs := s.departs.filter (· / 1024 != bank - 0x10) }
    else if 0x40 ≤ bank then (if bank ≤ 0x56 then (s.attnSync.reloadPage 0 (bank - 0x40)).attnSync else s)
    else
      match bank with
      | 0x1C => s.reloadWindow (hostAddr 0 0xB0 0) 16384
      | 0x1D => s.reloadWindow (hostAddr 0 0xB4 0) 16384
      | 0x1E =>
        let s := s.reloadWindow (hostAddr 0 0xB8 0) 4096
        { s with mem := Memory.clear s.mem (hostAddr 0 0xB9 0) 4096 }
      | 0x1F => { s with radio := { s.radio with keys := [], keyOps := [] } }.raise 0 0x11 2
      | 0x20 =>
        let full := (List.range 8).map (fun b => (b, s.radio.second, s.dutyLimit b * 3600000))
        { s with radio := { s.radio with charges := full } }
      | 0x21 => s.reloadSets (fun k => k == 0 || decide (0x1000 ≤ k))
      | _ => s
  else
    if 0x40 ≤ bank then (if bank ≤ 0x52 then (s.reloadBank die (bank - 0x40)).refreshDie die else s)
    else
      match bank with
      | 0 => s.reloadWindow (hostAddr die 0x40 0) 16384
      | 1 => s.reloadWindow (hostAddr die 0x44 0) 16384
      | 2 => (s.reloadSets (fun k => decide (k < 0x1000) && k / 16 == die)).refreshDie die
      | 3 =>
        let lost := ((List.range 8).filter (fun p => (s.watchOf die p).pendingRec.isSome)).length
        let s := { s with power := { s.power with lostWatch := satAdd 8 s.power.lostWatch lost } }
        (List.range 8).foldl (fun s p =>
          let w := s.watchOf die p
          let s := s.setWatch die p { rinse := w.rinse, rinseTerms := w.rinseTerms, rinseTime := w.rinseTime,
                                      rinseTemp := w.rinseTemp, staleDue := w.staleDue }
          if s.watchState die p = 0 then s else (s.enterLearn die p).watchSync die p) s
      | _ => s

/-- R670: PWR_RET_FAIL takes the banks of the present wake. -/
def State.retFail (s : State) (l : List Nat) : State :=
  let s := (s.set 0 F.PWR_RET_FAIL_COUNT (min 255 l.length)).set 0 F.PWR_RET_FAIL_BANK ((l.head?).getD 0xFFFF)
  if l.isEmpty then s else s.raise 0 0x03 3

/-- R667, R668: a WAKE_REPORT of words 3 to 7. -/
def State.wakeReport (s : State) (src left detail slept time : Nat) (l : List Nat) (lost : Nat) : State :=
  let id := fun (i : Nat) => (l[i]?).getD 0xFFFF
  s.queueSys (.report (s.get 0 F.PWR_CFG_WRCLASS) 0xC
    [word (src * 268435456 + left * 16777216 + detail), word (min 4294967295 slept),
     word (min 255 l.length * 16777216 + min 255 lost * 65536), word (id 1 * 65536 + id 0), word (id 3 * 65536 + id 2)] time)

/-- The banks of a die that fail in its memory step: those whose CRC-32 differs from the stored one, and those without
enough spare rows (R749). -/
def State.failing (s : State) (die : Nat) (found : List (Nat × Nat)) : List Nat :=
  ((s.crcFails die found).map (fun b => die * 256 + b % 256) ++ s.power.badBanks.filter (fun x => x / 256 == die)).eraseDups

/-- R634, R641: the on-demand fronts of a wake are ready: what the asynchronous latches hold is presented. -/
def State.frontsUp (s : State) (front : Bool) : State :=
  if front && !s.power.frontReady then
    ({ s with power := { s.power with frontReady := true } }.presentLatches).attnSync
  else s

/-- WAKE_DOMAIN_READY (R664, R669 to R672): a domain of a waking device: the anchor or, with `front`, the on-demand fronts;
or a field die from logic off in ACTIVE that the coordinator or, with `front`, a host access asks for. `found` names the
banks whose memory does not hold what it held, with the CRC-32 computed for each. -/
def execWakeDomainReady (die : Nat) (front : Bool) (found : List (Nat × Nat)) (s : State) : Out :=
  .next <|
    if decide (s.device = .deepSleep ∨ s.device = .watch) && s.power.waking && s.present die then
      let l := (s.failing die found).filter (fun x => !s.power.failed.contains x)
      let s := { s with power := { s.power with failed := s.power.failed ++ l,
                                                anchorReady := s.power.anchorReady || (die == 0 && !front) } }
      (l.foldl (fun s x => s.failBank die (x % 256)) (s.reloadReads die l)).frontsUp front
    else if s.awake && s.inService die && s.pstate die == 0
        && (front || (s.die die).runAsked || s.flag die F.DPWR_CFG_KEEP_RUN) then
      let l := s.failing die found
      let s := { s with power := { s.power with lostWatch := 0 } }
      let s := l.foldl (fun s x => s.failBank die (x % 256)) (s.reloadReads die l)
      let lost := s.power.lostWatch
      let s := (s.dieUp die).coordinate
      if l.isEmpty then s else (s.retFail l).wakeReport 0 0 die 0 s.time l lost
    else s

/-- R803: the edges of the inputs whose level differs from the one at sleep entry. -/
def State.gpAfterWake (s : State) (gp : Nat) : State :=
  (List.range 8).foldl (fun s k =>
    let now := gp.testBit k
    if now == (s.get 0 F.GPP_IN_LEVEL).testBit k then s
    else (s.setBit 0 F.GPP_IN_LEVEL k now).raise 0 0x16 (if now then k else 8 + k)) s

/-- WAKE_COMPLETE (R663, R666, R667, R673, R427, R714): the anchor, its steps done, reaches ACTIVE. Dies whose watch sequencer
still probes are asked for RUN, and the temperature causes are evaluated again. -/
def execWakeComplete (gp : Nat) (s : State) : Out :=
  .next <| s.when (decide (s.device = .deepSleep ∨ s.device = .watch) && s.power.waking && s.power.anchorReady) fun s =>
    let s := s.frontsUp true
    let w := s.power
    let s := { s with device := .active, ready := true,
                      power := { w with waking := false, frontReady := true, failed := [], lostWatch := 0 } }
    let s := (s.raise 0 0x03 0).retFail w.failed
    let s := ((List.range s.dies).filter (fun i => s.sequenced (i + 1))).foldl (fun s i => s.askRun (i + 1)) s
    let s := s.gpAfterWake gp
    let s := s.flushWatch
    let s : State := if s.flag 0 F.PWR_CFG_WREP_ALL || !w.failed.isEmpty then
        s.wakeReport w.wakeSrc w.wakeFrom w.wakeDetail ((w.wakeTime - w.sleptAt) / ticksPerMs) w.wakeTime w.failed w.lostWatch
      else s
    let s := if s.get 0 F.PWR_VSLEEP_TARGET = 0 then s
      else s.supplyRequest { cmd := 1, value := s.get 0 F.FCO_VSUP_IDLE }
    let s := if s.flag 0 F.PWR_CFG_AUTOREL then s.releasePads 7 else s
    let s := (List.range s.dies).foldl (fun s i => s.holdRun (i + 1)) s
    let s := (List.range 32).foldl (fun s n => s.pleNext n) s
    let s := (List.range (s.dies + 1)).foldl (fun s d => s.tempCauses d (if d = 0 then s.coord.anchorTemp else s.dieTemp d)) s
    s.cmpSettle.watchSyncAll.sslReserve.coordinate.attnSync

/-- PAD_RELEASE (R673): groups written 1 are released. -/
def execPadRelease (value : Word) (s : State) : Out :=
  .next <| s.hostWrite 0 0x03 fun s =>
    ((s.writeRo 0 0x03 0x040 value).releasePads (bits value 0 3)).sslReserve

/-- KEEP_RUN (R677): KEEP_RUN written 1. -/
def execKeepRun (die : Nat) (s : State) : Out :=
  .next <| s.when (s.fieldDie die) fun s => s.pageAccess die 0x12 fun s => s.hostWrite die 0x12 fun s =>
    (s.set die F.DPWR_CFG_KEEP_RUN 1).holdRun die

/-- DIE_OFF_IDLE (R677, R672): the die has completed its time in DOZE; the CRC-32 of its banks is stored. -/
def execDieOffIdle (die : Nat) (s : State) : Out :=
  .next <| s.when (s.awake && s.inService die && s.pstate die == 1 && s.get die F.DPWR_CFG_OFF_IDLE != 0
      && !(s.die die).runAsked) fun s =>
    let s := (s.storeCrcs [die]).set die F.DPWR_STAT_PSTATE 0
    let s := s.setBit 0 F.SEM_DIES_LOCKED (die - 1) false
    (s.setDie die { s.die die with timeLoaded := false }).watchSyncDie die

end Sys2Proof.Machine
end

