-- ==== Sys2Proof/Machine/Runs.lean ====
section
/-! DEFINITION. The starts of the self-tests and of the ANCHOR calibration run (R712, R729). -/

namespace Sys2Proof.Machine

/-- R729, R655: the unit of a requested test and what it needs are available. -/
def State.testReady (s : State) (kind die unit : Nat) : Bool :=
  let t := s.testUnit (testKey kind die unit)
  let idle := decide (s.power.phase = .none) && !s.coord.loading
  s.awake && !t.running &&
    (if kind = 1 then t.granted && s.fstate die unit == 0
     else if kind = 2 then t.granted
     else if kind = 3 then idle && t.requested && s.tests.all (fun e => e.1 / 65536 != 3 || !e.2.running)
     else if kind = 4 then idle && t.requested && s.rstate == 1 && s.radio.queue.isEmpty && s.radio.goal.isNone
       && s.radio.hopRun.isNone && s.flag 0 F.RFC_STAT_PERMIT
     else kind == 5 && idle && t.requested && !s.converterHeld)

/-- TEST_START (R729): SLICE and DIE tests once admitted, a slice in OFF; SEAM at once, one seam after another; RADIO in
STANDBY with an empty queue; ANCHOR between two conversions. -/
def execTestStart (kind die unit : Nat) (s : State) : Out :=
  .next <| s.when (s.testReady kind die unit) fun s => s.beginTest kind die unit

/-- ANCHOR_CAL_START (R704, R712): a DUE ANCHOR run takes the converter between two conversions. -/
def execAnchorCalStart (s : State) : Out :=
  .next <| s.when (s.awake && s.pageOn 0 0x12 && (s.calTarget 0).due && !s.converterHeld
      && decide (s.power.phase = .none) && !s.coord.loading) fun s =>
    (s.setCalTarget 0 { s.calTarget 0 with due := false, aged := false, running := true }).calBits 0

end Sys2Proof.Machine
end

