-- ==== Sys2Proof/Machine/Startup.lean ====
section
/-! DEFINITION. Resets and start-up (R653, R776), and the return of a lost die (R45). -/

namespace Sys2Proof.Machine

/-- What an operation on a profile slot leaves when a reset cuts it: an erase, words of the slot that the manual leaves
open; the program of a word, that word open. Other data keep their previous copy (R756). -/
def Nv.cut (n : Nv) : Nv :=
  let open_ := fun (k : Nat) => BitVec.ofNat 32 (Config.freeNat (2 ^ 41 + k))
  let m : Nv := { n with ops := [] }
  match n.ops with
  | .eraseSlot k :: _ => { m with slots := n.slots.map (fun e => if e.1 / slotWords = k then (e.1, open_ e.1) else e) }
  | .program k off _ :: _ =>
    { m with slots := Store.insert (Store.erase n.slots (nvKey k off)) (nvKey k off) (open_ (nvKey k off)) }
  | _ => m

/-- R15, R57, R126, R653: a reset: registers and memories go to their reset values, device time to 0, EPOCH toggles, and
DEV_RESET names the cause; what the NV store, the one-time block and the duty clock keep stays (R493, R494). -/
def State.resetDevice (s : State) (cause : Nat) : State :=
  let nv := s.nv.cut
  let t : State :=
    { State.reset with
      part := s.part, rail33 := s.rail33, epoch := !s.epoch, nv := nv, lockBlock := if nv.lockDone then nv.lockWords else [],
      radio := { State.reset.radio with second := s.radio.second, charges := s.radio.charges },
      free := s.free, pending := s.pending }
  (t.set 0 F.DEV_RESET_FRESH 1).set 0 F.DEV_RESET_CAUSE cause

/-- POWER_ON (R126, R494, R653, R785): EPOCH reads 1, the duty window starts empty, and IOSEL is sampled. -/
def execPowerOn (iosel : Bool) (s : State) : Out :=
  .next <| s.when (s.device == .off) fun s =>
    let s := { s.resetDevice 0 with epoch := true, rail33 := iosel }
    { s with radio := { s.radio with second := 0, charges := [] } }.set 0 F.RFC_STAT_DUTY_RESTART 1

/-- VSUP_LOSS (R653, R756, R762): nothing but the NV store and the one-time block keeps its content. -/
def execVsupLoss (torn : Bool) (s : State) : Out :=
  .next <|
    let locking := match s.nv.ops with
      | .regLock _ :: _ => true
      | _ => false
    let nv := { s.nv.cut with torn := s.nv.torn || (torn && locking) }
    { State.reset with
      part := s.part, device := .off, epoch := false, nv := nv, free := s.free, pending := s.pending }

/-- A reset from any state but OFF. -/
def State.resetFrom (s : State) (cause : Nat) : State := s.when (s.device != .off) fun s => s.resetDevice cause

/-- VSUP_DIP (R784). -/
def execVsupDip (s : State) : Out := .next (s.resetFrom 3)

/-- NRST_LOW (R653). -/
def execNrstLow (s : State) : Out := .next (s.resetFrom 1)

/-- CORE_RAIL_RESET (R653). -/
def execCoreRailReset (s : State) : Out := .next (s.resetFrom 4)

/-- RESET_END (R158, R653, R767): the straps are sampled and start-up begins. -/
def execResetEnd (prof twa : Nat) (s : State) : Out :=
  .next <| s.when (s.device == .reset) fun s =>
    let s : State := { s with device := .active, ready := false }
    (s.set 0 F.DEV_PROFILE_PINS prof).set 0 F.HTW_STAT_OWN_ADDR (0x58 + twa % 8)

/-- R749: rows of a bank found faulty take the spare rows that the factory and earlier remaps leave; answers how many find
none. -/
def State.remapRows (s : State) (bank rows : Nat) : State × Nat :=
  let used := Store.get s.nv.remaps bank 0
  let take := min rows (4 - used - Store.get s.nv.factoryRows bank 0)
  ({ s with nv := { s.nv with remaps := Store.put s.nv.remaps bank 0 (used + take) } }, rows - take)

/-- The spare rows that a map uses, as DRN_ROWS counts them. -/
def spareRows (l : List (Nat × Nat)) : Nat := min 255 (l.foldl (fun n e => n + e.2) 0)

/-- R724, R730, R749: the MEMORY test, one step for each bank: a bank with more faulty rows than spares is above its limit
(class 0xA). Its report, FAIL, names the bank and shows the faulty rows (DESIGN CHOICE, log entry 137). -/
def State.memoryReports (s : State) (out : List (Nat × Nat)) : State :=
  let classes := (banksOf 0).map (fun b => if (Store.find? out b).isSome then 0xA else 5)
  let sig := signature 6 classes
  let (first, cls) := (firstBad 1 classes).getD (0xFF, 0)
  let s := out.foldl (fun s e =>
    let s := if s.power.badBanks.isEmpty then s.set 0 F.DRN_ROWS_BANK_OUT e.1 else s
    let s : State := { s with power := { s.power with badBanks := s.power.badBanks ++ [e.1] } }
    let s := (((s.testResult 6 0 e.1 1 first).countUp 0 F.BST_CNT_FAIL_COUNT F.BST_CNT_FAIL_OVF 1).testEvent 6 0 0).raise
      0 0x15 3
    s.queueSys (.report s.testClass 0xB
      (testReport 6 1 0 e.1 classes.length sig (s.expected 6 0) first cls 0 0 (word e.2)) s.time)) s
  { s with power := { s.power with crcs := (0x20, s.bankCrc 0 0x20) :: s.power.crcs.filter (fun e => e.1 != 0x20) } }

/-- MEMORY_TEST_END (R727, R749): faulty rows of the anchor's banks, by bank identity, are remapped; the retention CRC of the
duty-bin bank is computed again. -/
def execMemoryTestEnd (faults : List (Nat × Nat)) (s : State) : Out :=
  .next <| s.when (s.awake && !s.ready) fun s =>
    let l := (banksOf 0).filterMap (fun b => (Store.find? faults b).map (fun n => (b, n)))
    let (s, out) := l.foldl (fun (x : State × List (Nat × Nat)) f =>
      let y := x.1.remapRows f.1 f.2
      (y.1, if y.2 = 0 then x.2 else x.2 ++ [f])) (s, [])
    ((s.set 0 F.DRN_ROWS_FIELD (spareRows s.nv.remaps)).set 0 F.DRN_ROWS_FACTORY (spareRows s.nv.factoryRows)).memoryReports out

/-- R22, R42: seams that training found UP, and the dies that it finds reachable; the others are lost. Where R22 and R73 are
silent: both directions are marked faulted, and copies of device time loaded here deviate by 0 ticks (R58; DESIGN CHOICE, log
entry 141). -/
def State.trainSeams (s : State) (up : Nat) : State :=
  let s := (seamsOf s.dies).foldl (fun s n =>
    if up.testBit n then s.set 0 (F.SEM_SEAM_STATE n) 1
    else (((s.set 0 (F.SEM_SEAM_STATE n) 2).set 0 (F.SEM_SEAM_FAULT_CW n) 1).set 0 (F.SEM_SEAM_FAULT_CCW n) 1).raise 0
      0x02 0) s
  let s := (List.range s.dies).foldl (fun s i =>
    let d := i + 1
    if s.cwUp d || s.ccwUp d then
      let s := (s.setBit 0 F.SEM_DIES_REACHABLE i true).setBit 0 F.SEM_DIES_LOCKED i true
      (s.set d F.DPWR_STAT_PSTATE 1).setDie d { s.die d with timeLoaded := true }
    else
      (s.raise 0 0x02 2).queueFault 0x01 d s.semDies 0) s
  s.reroute

/-- R739: the crossbar and the DARNED slices of a die as the factory map and the field map have them. -/
def State.applyMaps (s : State) (d : Nat) : State :=
  let darn := fun (s : State) (sl : Nat) => ((s.setPage d (slcPage sl) 6).setFstate d sl 8).setDarned d sl true
  let s := (s.nv.factoryDarn.filter (fun k => k / 16 == d)).foldl (fun s k =>
    (darn s (k % 16)).setBit d F.DDRN_SLICES_FACTORY (k % 16) true) s
  let s := (s.nv.fieldDarn.filter (fun k => k / 16 == d)).foldl (fun s k =>
    if (s.get d F.DDRN_SLICES_FACTORY).testBit (k % 16) then (s.err 0 0x15 0x0104).raise 0 0x15 4
    else darn s (k % 16)) s
  let s := (s.nv.fieldPorts.filter (fun e => e.1 / 16 == d)).foldl (fun s e =>
    let p := e.1 % 16
    if e.2 = 15 then (s.set d (F.DDRN_P_VALID p) 0).set d (F.DDRN_P_OUT p) 1
    else s.set d (F.DDRN_P_SLICE p) e.2) s
  (List.range 8).foldl (fun s p =>
    if (s.get d F.DDRN_SLICES_DARNED).testBit (s.get d (F.DDRN_P_SLICE p)) then s.set d (F.DDRN_P_VALID p) 0 else s) s

/-- R767: the slot whose image is loaded: the one the pins name, else the lowest-numbered valid one. -/
def State.selectSlot (s : State) : Option Nat :=
  let pins := s.get 0 F.DEV_PROFILE_PINS
  [pins, 0, 1, 2, 3].find? fun k => match s.checkImage k with
    | .ok _ => true
    | .error _ => false

/-- R767, R772: the image of the selected slot is applied; without one every register keeps its reset value. -/
def State.applyProfile (s : State) : State :=
  match s.selectSlot with
  | none => s.set 0 F.DEV_PROFILE_NONE 1
  | some k =>
    match s.checkImage k with
    | .error _ => s
    | .ok (h, id, ws) =>
      let s := ((s.set 0 F.DEV_PROFILE_ACTIVE k).set 0 F.DEV_PROFILE_FALLBACK
        (b2n (k != s.get 0 F.DEV_PROFILE_PINS))).set 0 F.DEV_PROFILE_LASTRES 1
      let s := (s.setReg 0 0x00 0x02C id).writeWindows ws
      let pages := profilePages s.loadDies
      let (t, held) := s.stageImage pages (fun _ => false) ws
      let t := (t.setVariables ws).commitStaged pages held
      if bit h 0 && t.nv.snap.isSome then t.loadSnapshot else t.imageTable ws

/-- R477, R479: the entries to be calibrated before the radio is permitted. -/
def State.startRadio (s : State) : State :=
  let l := (List.range 128).filter s.hopEn
  let s : State := { s with radio := { s.radio with startup := l } }
  if l.isEmpty then s.set 0 F.RFC_STAT_PERMIT 1 else s.set 0 F.RFC_STAT_RSTATE 2

/-- R726: the start-up self-test. -/
def State.startTests (s : State) : State :=
  if s.flag 0 F.BST_CFG_STARTUP then
    let keys := s.allUnits.map (fun u => testKey u.1 u.2.1 u.2.2)
    { s with darn := { s.darn with startup := keys } }.requestAll
  else s

/-- R703, R705: the DIE run of a die that rejoined, and the SLICE run of every slice that serves. -/
def State.dieDue (s : State) (d : Nat) : State :=
  let s := (maskSlices 1023 (fun sl => (s.servedPort d sl).isSome)).foldl (fun s sl => s.makeDue (sliceSet d sl) true) s
  s.makeDue (dieSet d) true

/-- STARTUP_READY (R497, R718, R767, R772, R776): the profile is applied, tickets and calibration sets are loaded, every
run is DUE, and READY becomes 1. -/
def execStartupReady (seams : Nat) (badSets : List Nat) (s : State) : Out :=
  .next <| s.when (s.awake && !s.ready) fun s =>
    let s := s.trainSeams seams
    let s := (List.range s.dies).foldl (fun s i => s.applyMaps (i + 1)) s
    let s := (s.applyProfile).loadCal badSets
    let s := s.resumeCounter
    let s := { s with ready := true }.allDue.startRadio.startTests
    s.cmpSettle.watchSyncAll.sslReserve.refreshAll.coordinate.attnSync

/-- R45, R806: the state of a die as a reset leaves it; a test that waits stays requested. -/
def State.resetDie (s : State) (d : Nat) : State :=
  let mine := fun (a : Nat) => a / 1048576 == d
  let key := fun (k : Nat) => k / 16 == d
  { s with
    regs := s.regs.filter (fun e => !mine e.1), shadow := s.shadow.filter (fun e => !mine e.1),
    mem := s.mem.filter (fun c => !mine c.1), dieX := Store.erase s.dieX d,
    slices := s.slices.filter (fun e => !key e.1), exchs := s.exchs.filter (fun e => !(decide (e.1 < 4096) && key e.1)),
    fieldHolds := s.fieldHolds.filter (fun e => !key e.1), watches := s.watches.filter (fun e => !key e.1),
    tests := s.tests.filterMap (fun e =>
      if decide (e.1 / 65536 ≤ 2) && e.1 / 256 % 256 == d then
        if e.2.requested then some (e.1, { requested := true }) else none
      else some e),
    testFrom := s.testFrom.filter (fun e => e.1 / 256 != d),
    commitPorts := s.commitPorts.filter (fun e => e.1 / 256 != d),
    calSets := s.calSets.filter (fun e => !(decide (e.1 < 0x1000) && key e.1)) }

/-- DIE_REJOINED (R45, R690, R705): the die is reset and loaded, in DOZE, and nothing is admitted on its ports before its
runs have ended. -/
def execDieRejoined (die : Nat) (s : State) : Out :=
  .next <| s.when (s.awake && s.fieldDie die && !s.inService die && (s.die die).rejoining
      && (s.cwUp die || s.ccwUp die)) fun s =>
    let s := s.resetDie die
    let own := s.nv.cal.filter (fun e => decide (e.1 < 0x1000) && e.1 / 16 == die)
    let sets := own.foldl (fun (l : List (Nat × CalSet)) e => Store.insert (Store.erase l e.1) e.1 e.2) s.calSets
    let s : State := { s with calSets := sets }
    let s := (List.range 19).foldl (fun s j => s.set 0 (F.ICU_SRC_LEVEL (pageSource die j)) 0) s
    let s := (s.setBit 0 F.SEM_DIES_REACHABLE (die - 1) true).setBit 0 F.SEM_DIES_LOCKED (die - 1) true
    let s := (s.set die F.DPWR_STAT_PSTATE 1).setDie die { timeLoaded := true }
    let s := s.applyMaps die
    let ws := s.activeWrites.filter (fun e => e.1 / 1048576 == die)
    let pages := (profilePages [die]).filter (fun p => p.1 == die)
    let (t, held) := (s.writeWindows ws).stageImage pages (fun _ => false) ws
    let s := if ws.isEmpty then s else t.commitStaged pages held
    let c := s.coord
    let s := { s with coord := { c with released := c.released.filter (fun n => portDie n != die),
                                        lineBlocked := die :: c.lineBlocked.filter (· != die) } }
    let s := ((s.raise 0 0x02 3).reroute).dieDue die
    let s := ((List.range 10).map (sliceSet die) ++ [dieSet die]).foldl (fun s k => s.calBits k) s
    ((s.watchSyncDie die).refreshDie die).coordinate.attnSync

end Sys2Proof.Machine
end

