-- ==== Sys2Proof/Machine/View.lean ====
section
/-! DEFINITION. What a read of a register or a window word returns: the stored words, with the fields that show hidden
state computed from it. The fields are those of the register tables of chapters 01 to 21. -/

namespace Sys2Proof.Machine

/-- A count shown in a field of `w` bits, saturated. -/
def sat (w n : Nat) : Nat := min (2 ^ w - 1) n

/-- The bits of a list of numbers. -/
def bitSet (l : List Nat) : Nat := l.eraseDups.foldl (fun m i => m + 2 ^ i) 0

/-- R138, R139: classes of the words that a grant covers, from a record boundary, in the order of delivery; `q` holds each
class's records. A record that is not eligible makes its class empty; one that is not complete ends the grant. -/
def grantFrom (cut : Nat → Nat) : Nat → List (Nat × List Rec) → List Nat
  | 0, _ => []
  | fuel + 1, q =>
    let ready := q.filter fun (e : Nat × List Rec) =>
      match e.2 with
      | r :: _ => r.eligible (cut e.1)
      | [] => false
    match ready.getLast? with
    | some (c, r :: rest) =>
      let words := List.replicate (r.words.length - r.consumed) c
      if r.complete then words ++ grantFrom cut fuel (q.map (fun e => if e.1 = c then (c, rest) else e)) else words
    | _ => []

/-- The class whose head record is open to a port (R143). -/
def State.openClass (s : State) (p : HostPort) : Option Nat :=
  [0, 1, 2, 3].find? (fun c => (s.cls c).openTo == some p)

/-- R139, R144: the classes of the words granted to a port under a mask. A record whose first word was cut off (R141) is not
open, so it is selected anew (DEDUCED, log entry 142). -/
def State.grantList (s : State) (p : HostPort) (mask : Nat) : List Nat :=
  let admitted := [0, 1, 2, 3].filter mask.testBit
  let cut := fun (c : Nat) => s.get 0 (F.HMP_C_CFG_CUT c)
  let queues := fun (skip : Option Nat) =>
    admitted.map (fun c => (c, if skip = some c then (s.cls c).recs.drop 1 else (s.cls c).recs))
  let fuel := 1 + ((admitted.map (fun c => (s.cls c).recs.length)).foldl (· + ·) 0)
  let list := match s.openClass p with
    | some c =>
      match (s.cls c).recs with
      | r :: _ =>
        let words := List.replicate (r.words.length - r.consumed) c
        if r.complete then words ++ grantFrom cut fuel (queues (some c)) else words
      | [] => []
    | none => grantFrom cut fuel (queues none)
  list.take 65536

/-- HMP_Cc_STAT.DELIV: words that a grant could include now. -/
def State.deliverable (s : State) (c : Nat) : Nat :=
  let cut := s.get 0 (F.HMP_C_CFG_CUT c)
  let rec go : List Rec → Nat
    | [] => 0
    | r :: rest =>
      if r.complete then r.words.length - r.consumed + go rest
      else if r.eligible cut then r.words.length - r.consumed else 0
  match (s.cls c).recs with
  | r :: rest =>
    if (s.cls c).openTo.isSome then
      (r.words.length - r.consumed) + (if r.complete then go rest else 0)
    else go (r :: rest)
  | [] => 0

/-- The key of a hold (R111 to R113, R594): ports 0 host serial, 1 host two-wire, 2 the poll engine. -/
def holdKey (port a : Nat) : Nat := 16777216 * port + a

def HostPort.ix : HostPort → Nat
  | .hsp => 0
  | .htw => 1

/-- R90 to R94: the page header. -/
def State.headerView (s : State) (die page off : Nat) : Word :=
  let w := s.reg die page off
  if off = 8 then
    let w := putBits w 11 1 (b2n (s.pageQuiet die page))
    if isSlicePage die page then
      putBits w 10 1 (b2n (bit w 10 || (s.slice die (page - 1)).restart.isSome))
    else w
  else w

/-- DEV_ID.PART (chapter 20). -/
def Part.code : Part → Nat
  | .kf0802 => 0x0802
  | .kf2404 => 0x2404
  | .kf5608 => 0x5608

/-- R656: HOLDERS: as frozen at the last timeout, else as they stand. -/
def State.shownHolders (s : State) : Nat := s.power.frozenHolders.getD s.holders

/-- Slots of a list of source words, without 0 and 511, in the 32 of a word. -/
def slotBits (w : Nat) (l : List (Nat × Word)) : Word :=
  word (bitSet ((l.map (fun e => bits e.2 0 9)).filterMap fun k =>
    if k ≠ 0 ∧ k ≠ 511 ∧ k / 32 = w then some (k % 32) else none))

/-- The ICU page (chapter 16). -/
def State.icuView (s : State) (off : Nat) (w : Word) : Word :=
  if off = 0x020 then
    word (bitSet ((List.range 4).filter s.irq) + 65536 * (s.pendingWords []).length)
  else if 0x040 ≤ off ∧ off < 0x0C0 ∧ off % 32 = 8 then
    let t := (off - 0x048) / 32
    let insvc := (s.mapped.filter (fun e => bit e.2 28 && bits e.2 26 2 == t)).length
    putBits (putBits (putBits w 31 1 (b2n (s.irq t))) 16 9 insvc) 0 9 (s.topFor t []).1
  else if 0x100 ≤ off ∧ off < 0x140 then slotBits ((off - 0x100) / 4) (s.pendingWords [])
  else if 0x140 ≤ off ∧ off < 0x180 then slotBits ((off - 0x140) / 4) (s.mapped.filter (fun e => bit e.2 28))
  else if 0x400 ≤ off ∧ off < 0xA90 then
    let n := (off - 0x400) / 4
    let w := putBits w 30 1 (b2n (s.sourceLevel n))
    putBits w 29 1 (b2n (bits w 0 9 != 0 && s.sourceLevel n && !bit w 28))
  else w

/-- The HMP page (chapter 15). -/
def State.hmpView (s : State) (port off : Nat) (w : Word) : Word :=
  let c := (off - 0x040) / 32
  let k := s.cls c
  if off = 0x02C then word (262144 * b2n s.hamper.urgent + 131072 * b2n s.hamper.flowA + s.fill)
  else if off = 0x038 then putBits w 0 5 s.hamper.sysq.length
  else if 0x040 ≤ off ∧ off < 0x0C0 then
    match off % 32 with
    | 4 => word k.free
    | 8 => (Store.find? s.holds (holdKey port (hostAddr 0 8 off))).getD (word k.reserved)
    | 12 => (Store.find? s.holds (holdKey port (hostAddr 0 8 off))).getD (word k.occupied)
    | 16 => word (65536 * ((k.recs.head?.map Rec.seq).getD k.nextSeq % 65536) + k.nextSeq % 65536)
    | 20 => word (2147483648 * b2n k.frozen + 1073741824 * b2n (k.openTo == some .hsp)
        + 536870912 * b2n (k.openTo == some .htw) + 268435456 * b2n k.writing + sat 17 (s.deliverable c))
    | _ => w
  else w

/-- The FCO page (chapter 06). -/
def State.fcoView (s : State) (off : Nat) (w : Word) : Word :=
  let cs := s.coord.cands
  match off with
  | 0x028 => word (65536 * sat 12 s.effBudget + sat 12 s.budgetUsed)
  | 0x02C => putBits w 16 12 s.budgetCeil
  | 0x04C => word (16777216 * sat 5 s.hostQueue + 65536 * sat 8 (cs.filter (fun c => c.creditWait)).length
      + 256 * sat 8 (cs.filter (fun c => c.aged)).length + sat 8 cs.length)
  | _ => w

/-- PLE_Ln_STAT.STATE: 0 OFF, 1 IDLE, 2 READY, 3 WAITING, 4 CREDIT, 5 FAULTED. -/
def State.listState (s : State) (n : Nat) : Nat :=
  let l := s.pleList n
  if l.faulted then 5
  else match l.run with
    | some r =>
      match r.wait with
      | .none => 2
      | .credit => 4
      | _ => 3
    | none => if s.listOn n then 1 else 0

/-- PLE_Ln_STAT.PC: the word of the next instruction; one that waits is followed by the next. -/
def State.shownPc (s : State) (r : PleRun) : Nat :=
  match r.wait with
  | .none => r.pc
  | .time _ => r.pc
  | _ => r.pc + (if twoWords (opOf (s.progWord r.pc)) then 2 else 1)

/-- The PLE page (chapter 13). -/
def State.pleView (s : State) (off : Nat) (w : Word) : Word :=
  if off = 0x038 then word (bitSet ((List.range 32).filter (fun n => (s.pleList n).run.isSome)))
  else if off = 0x03C then word (bitSet ((List.range 32).filter (fun n => (s.pleList n).pend.isSome)))
  else if 0x300 ≤ off ∧ off < 0x500 ∧ off % 16 = 12 then
    let n := (off - 0x300) / 16
    putBits (putBits w 28 3 (s.listState n)) 16 12 (((s.pleList n).run.map s.shownPc).getD 0)
  else w

/-- The SSC and SSL pages (chapter 14). -/
def State.sscView (s : State) (off : Nat) (w : Word) : Word :=
  match off with
  | 0x028 => word (65536 * s.ssc.done.length + 256 * s.sscHost + s.ssc.queue.length)
  | 0x02C =>
    match s.ssc.done with
    | (tag, st) :: _ => word (65536 * (tag % 65536) + 32768 + st % 4)
    | [] => 0
  | _ => if 0x400 ≤ off ∧ off < 0x800 then s.sscBufView off w else w

/-- The RFC and SEC pages (chapter 12). -/
def State.rfcView (s : State) (off : Nat) (w : Word) : Word :=
  if off = 0x028 then putBits w 16 4 s.radio.queue.length
  else if off = 0x1F0 then (s.lockBlock[16]?).getD (word (65536 * 4000 + 1000))
  else if 0x200 ≤ off ∧ off < 0x240 then (s.lockBlock[(off - 0x200) / 4]?).getD 0
  else if 0x280 ≤ off ∧ off < 0x2A0 then word (sat 22 (s.dutyUsed ((off - 0x280) / 4) / 1000))
  else w

/-- SEC_SLOTS: the key slots that hold a key (R499). -/
def State.slotsLoaded (s : State) (half : Nat) : Word :=
  word (bitSet ((s.radio.keys.map Prod.fst).filterMap (fun k => if k / 32 = half then some (k % 32) else none)))

/-- CAL_STAT and BST_STAT (chapters 18 and 19). -/
def State.calStat (s : State) : Word :=
  let own := s.cal.filter (fun e => e.1 < 0x1000)
  word (65536 * sat 8 (own.filter (fun e => e.2.due)).length + 256 * sat 8 (s.cal.filter (fun e => e.2.running)).length
    + sat 8 (s.cal.filter (fun e => e.2.aged)).length)

def State.bstStat (s : State) (w : Word) : Word :=
  putBits (putBits (putBits w 16 8 (sat 8 (s.tests.filter (fun e => e.2.requested || e.2.granted)).length)) 8 8
    (sat 8 (s.tests.filter (fun e => e.2.running)).length)) 0 8 (sat 8 (s.tests.filter (fun e => e.2.last == 1)).length)

/-- CAL_ANCHOR (chapter 18): POINTS and TEMP are those of the anchor's set. -/
def State.anchorSet (s : State) (w : Word) : Word :=
  let c := s.calSet 0
  putBits (if c.seq = 0 then w else putBits w F.CAL_ANCHOR_TEMP.lo F.CAL_ANCHOR_TEMP.width (field 16 c.lastTemp))
    F.CAL_ANCHOR_POINTS.lo F.CAL_ANCHOR_POINTS.width c.points.length

/-- NVS_STAT (chapter 20). -/
def State.nvsStat (s : State) : Word :=
  let erased := bitSet ((List.range 4).filter (fun k => !s.nv.slots.any (fun e => e.1 / slotWords == k)))
  let valid := bitSet ((List.range 4).filter fun k =>
    match s.checkImage k with
    | .ok _ => true
    | .error _ => false)
  word (2147483648 * b2n s.nvBusy + 1073741824 * b2n (!s.lockBlock.isEmpty) + 536870912 * b2n s.nv.debugLock
    + 268435456 * b2n s.nv.torn + 256 * (s.programs % 64) + 16 * erased + valid)

/-- DRN_STAT (chapter 19). -/
def State.drnStat (s : State) (w : Word) : Word :=
  let dies := (List.range s.dies).map (· + 1)
  let spares := (dies.map (fun d => ((List.range 10).filter fun sl =>
    (s.servedPort d sl).isNone && s.sound d sl).length)).foldl (· + ·) 0
  let out := (dies.map (fun d => ((List.range 8).filter (fun p => s.flag d (F.DDRN_P_OUT p))).length)).foldl (· + ·) 0
  putBits (putBits (putBits w 31 1 (b2n (!s.darn.swaps.isEmpty))) 16 6 out) 8 8 spares

/-- Registers of the anchor from offset 0x020. -/
def State.anchorView (s : State) (port page off : Nat) : Word :=
  let w := s.reg 0 page off
  let held := (Store.find? s.holds (holdKey port (hostAddr 0 page off))).getD 0
  match page with
  | 0x00 => if off = 0x020 then putBits w 16 16 s.part.code else w
  | 0x01 => if off = 0x020 then loWord s.time else if off = 0x024 then held else w
  | 0x02 =>
    if off = 0x020 then s.semDies
    else if 0x040 ≤ off ∧ off < 0x060 then putBits w 4 4 (s.streamsOver ((off - 0x040) / 4) true)
    else w
  | 0x03 => if off = 0x020 then putBits w 16 8 s.shownHolders else if off = 0x03C then held else w
  | 0x04 =>
    if off = 0x028 then putBits (putBits w 31 1 (b2n s.supply.flight.isSome)) 30 1 (b2n s.supply.waiting.isSome) else w
  | 0x05 => s.icuView off w
  | 0x07 => if off = 0x02C then s.attnSync.reg 0 0x07 0x02C else w
  | 0x08 => s.hmpView port off w
  | 0x09 =>
    if off = 0x038 then word (65536 * s.fullBuckets + s.ticketsUsed)
    else if off = 0x03C then putBits (putBits w 30 2 0) 28 1 (b2n s.nv.snap.isSome)
    else w
  | 0x0A => s.fcoView off w
  | 0x0B => s.pleView off w
  | 0x0C => s.sscView off w
  | 0x0D => if off = 0x024 then putBits w 16 7 s.ssl.fifo.length else w
  | 0x10 => s.rfcView off w
  | 0x11 => if off = 0x044 then s.slotsLoaded 0 else if off = 0x048 then s.slotsLoaded 1 else w
  | 0x12 => if off = 0x028 then s.calStat else if off = 0x034 then s.anchorSet w else w
  | 0x13 => if off = 0x028 then s.bstStat w else w
  | 0x14 => if off = 0x034 then s.nvsStat else w
  | 0x15 => if off = 0x028 then s.drnStat w else w
  | _ => w

/-- RCV_STREAMS (chapter 07): streams that a die receives from others and sends to others. -/
def State.streamCounts (s : State) (d : Nat) : Nat × Nat :=
  s.exchs.foldl (fun (n : Nat × Nat) e =>
    if e.1 < 4096 ∧ e.2.phase ≠ .energise then
      if e.1 / 16 = d then (n.1 + (e.2.listeners.filter (fun l => portDie l != d)).length, n.2)
      else (n.1, n.2 + (e.2.listeners.filter (fun l => portDie l == d)).length)
    else n) (0, 0)

/-- RCV_Pp_AGE (R316, R325). -/
def State.rinseAge (s : State) (d p : Nat) : Word :=
  let x := s.watchOf d p
  word (16777216 * field 8 ((s.dieTemp d - x.rinseTemp) / 10) + sat 24 ((s.time - x.rinseTime) / 27120000))

/-- DBST AGE: minutes since the test ended; 0xFFFF before the first. -/
def State.testAge (s : State) (k : Nat) : Nat :=
  let t := s.testUnit k
  if t.last = 15 then 65535 else sat 16 ((s.time - t.ended) / 27120000 / 60)

/-- CWT_STAT (chapter 10). -/
def State.cwtStat (s : State) (d : Nat) : Word :=
  let ports := fun (f : Nat → Bool) => bitSet ((List.range 8).filter f)
  word (65536 * ports (fun p => (s.watchOf d p).pendingRec.isSome) + 256 * ports (fun p => s.watchState d p == 4)
    + ports (fun p => s.watchable d p && s.watchState d p != 0 && s.watchState d p != 5))

/-- DCAL_SLs and DCAL_DIE (chapter 18): POINTS and TEMP are those of the set, a loaded one too (R718). -/
def State.setShown (s : State) (k : Nat) (w : Word) : Word :=
  let c := s.calSet k
  putBits (if c.seq = 0 then w else putBits w 16 16 (field 16 c.lastTemp)) 0 4 c.points.length

/-- Registers of a field die from offset 0x020. -/
def State.dieView (s : State) (d page off : Nat) : Word :=
  let w := s.reg d page off
  if isSlicePage d page then
    let sl := page - 1
    if off = 0x020 then
      match s.servedPort d sl with
      | some p => putBits w 8 4 (8 + p)
      | none => putBits w 8 4 0
    else if off = 0x024 then putBits w 16 10 (min (bits w 0 10) s.aerialMax)
    else if off = 0x02C then putBits w 16 8 (s.phaseOut d sl)
    else w
  else
    match page with
    | 0x00 =>
      if off = 0x020 then
        putBits (putBits (putBits w 16 2 (s.pstate d)) 8 4 (s.energisedCount d)) 0 1 (b2n (s.locked d))
      else if off = 0x024 then word (sat 12 (s.dieBudget d))
      else w
    | 0x0B =>
      if off = 0x024 then
        let n := s.streamCounts d
        word (256 * sat 5 n.1 + sat 4 n.2)
      else if 0x100 ≤ off ∧ off < 0x300 ∧ off % 64 = 0x20 then s.rinseAge d ((off - 0x100) / 64)
      else w
    | 0x0E =>
      if off = 0x020 then s.cwtStat d
      else if 0x100 ≤ off ∧ off < 0x300 ∧ off % 64 = 0x18 then
        putBits w 16 1 (b2n (s.watchOf d ((off - 0x100) / 64)).pendingRec.isSome)
      else w
    | 0x0F =>
      if 0x040 ≤ off ∧ off < 0x068 then s.setShown (sliceSet d ((off - 0x040) / 4)) w
      else if off = 0x068 then s.setShown (dieSet d) w
      else w
    | 0x10 =>
      if 0x040 ≤ off ∧ off < 0x068 then putBits w 0 16 (s.testAge (testKey 1 d ((off - 0x040) / 4)))
      else if off = 0x068 then putBits w 0 16 (s.testAge (testKey 2 d 0))
      else w
    | 0x11 =>
      if off = 0x020 then putBits w 0 10 (bitSet ((List.range 10).filter (s.eligible d))) else w
    | _ => w

/-- Bits that read 0 whatever was written (WO fields and W1S bits of R99's table of access codes). -/
def readMask (die page off : Nat) : Word :=
  match RegTable.lookup die page off with
  | some (r, _) => BitVec.ofNat 32 (RegTable.maskOf (fun a => a != .wo) r.fields)
  | none => 0xFFFFFFFF

/-- A register word as a port reads it. -/
def State.regView (s : State) (port die page off : Nat) : Word :=
  (if off < 0x020 then s.headerView die page off
   else if die = 0 then s.anchorView port page off else s.dieView die page off) &&& readMask die page off

/-- R716: the header of a calibration set. -/
def CalSet.header (c : CalSet) (i : Nat) : Word :=
  match i with
  | 0 => word (65536 * field 16 c.lastTemp + 256 * (c.port % 256) + c.points.length % 256)
  | 1 => word c.seq
  | 2 => c.adj
  | _ => c.watch

/-- A value of a point as a field of `w` bits; 0 where the point does not hold it. -/
def CalPoint.part (p : CalPoint) (w q part : Nat) : Nat := field w ((p.val? (qKey q part)).getD 0)

/-- R716: PRESENT of a point: bit q − 1 for a quantity, bits 8 to 11 for the neighbour terms of a slice set. -/
def CalPoint.presentBits (p : CalPoint) (slice : Bool) : Nat :=
  bitSet ((p.vals.map Prod.fst).filterMap fun k =>
    let q := k / 16
    if slice && q == 6 then some (8 + k % 16 / 2) else if q = 0 ∨ 16 < q then none else some (q - 1))

/-- R716: word `i` of a point of a slice set. -/
def CalPoint.sliceWord (p : CalPoint) (i : Nat) : Word :=
  match i with
  | 0 => word (65536 * field 16 p.temp + p.presentBits true)
  | 1 => word (65536 * p.part 7 1 0 + p.part 7 2 0)
  | 2 => word (65536 * p.part 16 3 0 + p.part 8 4 0)
  | 3 => word (65536 * p.part 16 5 0 + p.part 16 5 1)
  | 8 => word (65536 * p.part 16 7 0 + p.part 16 8 0)
  | _ => if i < 8 then word (65536 * p.part 16 6 (2 * (i - 4)) + p.part 16 6 (2 * (i - 4) + 1)) else 0

/-- R716: word `i` of a point of a die set, of the anchor set and of a radio entry set. -/
def CalPoint.dieWord (p : CalPoint) (i : Nat) : Word :=
  match i with
  | 0 => word (65536 * field 16 p.temp + p.presentBits false)
  | 1 => word (65536 * p.part 16 9 0 + p.part 16 10 0)
  | 2 => word (65536 * p.part 16 11 0 + p.part 8 12 0)
  | _ => 0

def CalPoint.anchorWord (p : CalPoint) (i : Nat) : Word :=
  match i with
  | 0 => word (65536 * field 16 p.temp + p.presentBits false)
  | 1 => word (65536 * p.part 16 15 0 + p.part 16 16 0)
  | _ => 0

def CalPoint.hopWord (p : CalPoint) (i : Nat) : Word :=
  match i with
  | 0 => word (65536 * field 16 p.temp + p.presentBits false)
  | _ => word (65536 * p.part 6 13 0 + p.part 8 14 0)

/-- R716: the word at a byte offset of a set, its points `stride` bytes apart from byte `first`. -/
def CalSet.wordAt (c : CalSet) (first stride : Nat) (f : CalPoint → Nat → Word) (b : Nat) : Word :=
  if b < 16 then c.header (b / 4)
  else if b < first then 0
  else
    match c.points[(b - first) / stride]? with
    | some p => f p ((b - first) % stride / 4)
    | none => 0

/-- R715: the calibration view of a field die and of the anchor. -/
def State.calWindow (s : State) (die b : Nat) : Word :=
  if die ≠ 0 then
    if b < 10240 then (s.calSet (sliceSet die (b / 1024))).wordAt 64 64 CalPoint.sliceWord (b % 1024)
    else if b < 11264 then (s.calSet (dieSet die)).wordAt 64 64 CalPoint.dieWord (b - 10240)
    else 0
  else if b < 1024 then (s.calSet 0).wordAt 64 64 CalPoint.anchorWord b
  else if 16384 ≤ b then (s.calSet (hopSet ((b - 16384) / 128))).wordAt 16 8 CalPoint.hopWord (b % 128)
  else 0

/-- R85, R609: a word of the ticket window. -/
def State.ticketWindow (s : State) (b : Nat) : Word :=
  let t := s.ticket (b / 16)
  match b % 16 / 4 with
  | 0 => t.lo
  | 1 => t.hi
  | 2 => t.ctl
  | _ => t.last

/-- R85: the kinds of window. -/
inductive Window where
  | none | ticket | program | plans | txBuf | rxBuf | calAnchor | descs | frames | calDie
  deriving DecidableEq, Repr

/-- R85: the window that a page belongs to. -/
def windowOf (die page : Nat) : Window :=
  if die = 0 then
    if 0x80 ≤ page ∧ page ≤ 0xAF then .ticket
    else if 0xB0 ≤ page ∧ page ≤ 0xB3 then .program
    else if 0xB4 ≤ page ∧ page ≤ 0xB7 then .plans
    else if page = 0xB8 then .txBuf
    else if page = 0xB9 then .rxBuf
    else if 0xC0 ≤ page ∧ page ≤ 0xC7 then .calAnchor
    else .none
  else if 0x40 ≤ page ∧ page ≤ 0x43 then .descs
  else if 0x44 ≤ page ∧ page ≤ 0x47 then .frames
  else if 0x48 ≤ page ∧ page ≤ 0x4B then .calDie
  else .none

/-- R85: the page that owns a window, and whether the host may write it. -/
def Window.owner : Window → Nat
  | .ticket => 0x09
  | .program => 0x0B
  | .plans => 0x0A
  | .txBuf | .rxBuf => 0x0F
  | .calAnchor => 0x12
  | .descs | .frames => 0x0C
  | .calDie => 0x0F
  | .none => 0

def Window.writable : Window → Bool
  | .program | .plans | .txBuf | .descs | .frames => true
  | _ => false

/-- A window word as it reads. R18: the reserved bits of round plans, descriptors and TX templates read 0 (R249, R336, R376,
R377, R443); which bits of
a poll list's word are reserved depends on whether it is an instruction, so program words read as they were written
(DESIGN CHOICE, log entry 104). -/
def State.windowView (s : State) (die page off : Nat) : Word :=
  let b := fun (first : Nat) => 4096 * (page - first) + off
  match windowOf die page with
  | .ticket => s.ticketWindow (b 0x80)
  | .calAnchor => s.calWindow 0 (b 0xC0)
  | .calDie => s.calWindow die (b 0x48)
  | .none => 0
  | .plans => s.memWord (hostAddr die page off) &&& 0x71FF71FF
  | .descs =>
    s.memWord (hostAddr die page off) &&&
      descMask (bits (s.memWord (hostAddr die page (off / 32 * 32))) 30 2) (off % 32 / 4) &&&
      tagMask (bits (s.memWord (hostAddr die page (off / 32 * 32))) 30 2)
        (bits (s.memWord (hostAddr die page (off / 32 * 32 + 8))) 8 8) (off % 32 / 4)
  | .txBuf => s.memWord (hostAddr die page off) &&& (if off % 256 = 0 then 0xFFFF1FFF else 0xFFFFFFFF)
  | _ => s.memWord (hostAddr die page off)

end Sys2Proof.Machine
end

