-- ==== Sys2Proof/Machine/PleHost.lean ====
section
/-! DEFINITION. What the host and the clock do to the poll list engine (chapter 13): starting and stopping lists, due
times, variables and their VALID bits, raised bits. -/

namespace Sys2Proof.Machine

/-- A sensor variable (R523). -/
def State.pleVar (s : State) (n : Nat) : Word := s.reg 0 0x0B (0x100 + 4 * (n % 64))

/-- VALID of a sensor variable (R523). -/
def State.pleValid (s : State) (n : Nat) : Bool := bit (s.reg 0 0x0B (0x030 + 4 * (n % 64 / 32))) (n % 32)

def State.setPleValid (s : State) (n : Nat) (v : Bool) : State :=
  let off := 0x030 + 4 * (n % 64 / 32)
  s.setReg 0 0x0B off (putBits (s.reg 0 0x0B off) (n % 32) 1 (b2n v))

/-- R523: a write to a variable sets VALID. -/
def State.putPleVar (s : State) (n : Nat) (w : Word) : State :=
  (s.setReg 0 0x0B (0x100 + 4 * (n % 64)) w).setPleValid n true

/-- R523, R524: an instruction writes a variable. -/
def State.setPleVar (s : State) (n : Nat) (w : Word) : State :=
  let p := s.ple
  { s with ple := { p with wrote := n % 64 :: (if p.wroteAt = s.time then p.wrote else []), wroteAt := s.time } }.putPleVar n w

/-- R517, R518: the engine executes: ACTIVE, its page ON or DRAINING. -/
def State.pleEngine (s : State) : Bool :=
  s.awake && (s.pageOn 0 0x0B || s.pageState 0 0x0B == 3) && !s.coord.loading

/-- R518: a list that can execute its next instruction. -/
def State.pleReady (s : State) (n : Nat) : Bool :=
  match (s.pleList n).run with
  | some r => r.wait == .none
  | none => false

/-- PRIO of a run; 0 without one. -/
def State.runPrio (s : State) (n : Nat) : Nat := ((s.pleList n).run.map PleRun.prio).getD 0

/-- R518: the list that executes next: the highest PRIO, in turn within it. -/
def State.pleSelected (s : State) : Option Nat :=
  let l := (List.range 32).filter s.pleReady
  let top := l.foldl (fun m n => max m (s.runPrio n)) 0
  let g := l.filter (fun n => s.runPrio n == top)
  let last := Store.get s.ple.last top 31
  match g.find? (fun n => decide (last < n)) with
  | some n => some n
  | none => g.head?

/-- R524: a variable that the last instruction wrote, before the next one: at the same instant, or while a list is ready, so
that the next instruction follows at once (DEDUCED, log entry 136). -/
def State.varTaken (s : State) (n : Nat) : Bool :=
  s.ple.wrote.contains (n % 64) && (s.ple.wroteAt == s.time || (s.pleEngine && s.pleSelected.isSome))

/-- R523, R524: a host write to a variable; the value of an instruction that falls between the same two stands. -/
def State.hostPleVar (s : State) (n : Nat) (w : Word) : State := if s.varTaken n then s else s.putPleVar n w

/-- PLE_START (R510, R511, R541). -/
def execPleStart (list : Nat) (s : State) : Out :=
  .next <| s.hostWrite 0 0x0B fun s =>
    let n := list % 32
    if !s.listOn n || (s.pleList n).faulted then s.err 0 0x0B 0x0103
    else s.listStart n s.time (pleArg 0 0 0 0)

/-- PLE_STOP (R522). -/
def execPleStop (list : Nat) (s : State) : Out :=
  .next <| s.hostWrite 0 0x0B fun s => (s.stopList (list % 32)).coordinate

/-- The device sleeps, or is on its way there: a due time of a list with WAKE wakes it (R513, R661). -/
def State.listWake (s : State) (n : Nat) : State :=
  if s.flag 0 (F.PLE_L_TRIG_WAKE n) && (s.device == .deepSleep || s.device == .watch || s.power.phase != .none) then
    s.wakeBy 2 (0x100 + n)
  else s

/-- PLE_PERIOD_DUE (R512 to R514): a due time has come: the list is triggered with the due instant, and the next due time
lies exactly one period later. -/
def execPlePeriodDue (list : Nat) (s : State) : Out :=
  .next <|
    let l := s.pleList list
    match l.due with
    | some t =>
      if list < 32 ∧ t ≤ s.time ∧ s.listOn list ∧ s.get 0 (F.PLE_L_TRIG_KIND list) = 1
          ∧ s.device ≠ .off ∧ s.device ≠ .reset then
        let next := t + s.get 0 (F.PLE_L_PERIOD_PERIOD list) * ticksPerMs
        ((s.setList list { l with due := some next }).listWake list).listStart list t (pleArg 1 0 0 0)
      else s
    | none => s

/-- PLE_WAIT_END (R513): a WAIT is over; the list is ready, now or at the next wake. -/
def execPleWaitEnd (list : Nat) (s : State) : Out :=
  .next <|
    let l := s.pleList list
    match l.run with
    | some r =>
      match r.wait with
      | .time due =>
        if due ≤ s.time then (s.setList list { l with run := some { r with wait := .none } }).listWake list else s
      | _ => s
    | none => s

/-- PLE_VARIABLE_WRITE (R523, R524). -/
def execPleVariableWrite (n : Nat) (value : Word) (s : State) : Out :=
  .next <| s.hostWrite 0 0x0B fun s => s.when (decide (n < 64)) fun s => s.hostPleVar n value

/-- PLE_VVALID_CLEAR (R523). -/
def execPleVvalidClear (hi : Bool) (value : Word) (s : State) : Out :=
  .next <| s.hostWrite 0 0x0B fun s =>
    let off := 0x030 + 4 * b2n hi
    s.setReg 0 0x0B off (s.reg 0 0x0B off &&& ~~~ value)

/-- PLE_RAISE_CLEAR (R532, R629). -/
def execPleRaiseClear (value : Word) (s : State) : Out :=
  .next <| s.hostWrite 0 0x0B fun s =>
    let s := s.attnSync.writeRo 0 0x0B 0x02C value
    (s.setReg 0 0x0B 0x02C (s.reg 0 0x0B 0x02C &&& ~~~ value)).attnSync

end Sys2Proof.Machine
end

