-- ==== Sys2Proof/Machine/Bus.lean ====
section
/-! DEFINITION. Reads and writes of registers and windows by address (chapter 02): rejections, access codes, locks,
shadows, broadcasts, and the registers whose write or read does something of its own. -/

namespace Sys2Proof.Machine

/-- Parts of an address (R75). -/
def addrDie (a : Nat) : Nat := a / 1048576 % 16
def addrPage (a : Nat) : Nat := a / 4096 % 256
def addrOff (a : Nat) : Nat := a % 4096

/-- R77: the die implements the page as registers or as a window. -/
def pageExists (die page : Nat) : Bool := RegTable.implemented die page || windowOf die page != .none

/-- R46, R76, R77: an access that the host port does not reject. -/
def State.addrOk (s : State) (a : Nat) : Bool :=
  let d := addrDie a
  decide (a % 4 = 0) && decide (d ≤ 7) && pageExists d (addrPage a) && (d == 0 || s.inService d)

/-- R507: a program word inside the range of an enabled list or of a run. -/
def State.protectedWord (s : State) (w : Nat) : Bool :=
  (List.range 32).any fun n =>
    (s.listOn n && decide (s.get 0 (F.PLE_L_CFG_START n) ≤ w ∧ w ≤ s.get 0 (F.PLE_L_CFG_LAST n)))
      || (match (s.pleList n).run with
        | some r => decide (r.start ≤ w ∧ w ≤ r.last)
        | none => false)

/-- R85: a word of the frame buffers lies in the RX area of an exchange that runs on the die. -/
def State.rxWord (s : State) (die b : Nat) : Bool :=
  s.exchs.any fun e => decide (e.1 < 4096 ∧ e.1 / 16 = die) && e.2.origin.isExchange &&
    (let m := e.2.member
     m.kind == 0 && m.rxEn && decide (4 * m.rxRef < b + 4 ∧ b < 4 * m.rxRef + m.storeLimit))

/-- R86: a window write; a refused one is rejected (1) and recorded on the owning page. -/
def State.windowPut (s : State) (die page off : Nat) (w : Word) : State × Nat :=
  let k := windowOf die page
  if !k.writable then (s.err die k.owner 6, 1)
  else if k = .program ∧ s.protectedWord (1024 * (page - 0xB0) + off / 4) then (s.err die k.owner 5, 1)
  else if k = .frames ∧ s.rxWord die (4096 * (page - 0x44) + off) then (s.err die k.owner 5, 1)
  else (s.setMemWord (hostAddr die page off) w, 0)

/-- R99, R805: a write under the access codes of a register's fields. -/
def State.regPut (s : State) (die page off : Nat) (w : Word) : State :=
  match RegTable.lookup die page off with
  | none => s
  | some (r, _) =>
    let m := fun (a : Access) => BitVec.ofNat 32 (RegTable.maskOf (fun x => x == a) r.fields)
    let rw := m .rw
    let s := s.setReg die page off (((s.reg die page off &&& ~~~ rw) ||| (w &&& rw)) &&& ~~~ (w &&& m .w1c))
    let rws := m .rws
    if rws = 0 then s
    else
      let a := hostAddr die page off
      let v := (s.shadowWord die page off &&& ~~~ rws) ||| (w &&& rws)
      { s with shadow := Store.insert (Store.erase s.shadow a) a v }.set die (F.PG_SHADOW_DIRTY page) 1

/-- Registers whose own command records WRITE_RO. -/
def ownCheck (die page off : Nat) : Bool :=
  (die == 0 && ((page == 0x0A && (off == 0x044 || off == 0x048)) || (page == 0x08 && off == 0x034)
      || (page == 0x03 && off == 0x040) || (page == 0x0B && off == 0x02C)
      || (page == 0x05 && (decide (0x400 ≤ off) || (decide (0x040 ≤ off ∧ off < 0x0C0) && off % 32 == 4)))))
    || (die != 0 && page == 0x0C && off == 0x030)

/-- Requests of the BST and CAL pages as their KIND says (R699, R724). -/
def State.bstReq (s : State) (w : Word) : State :=
  let die := bits w 24 3
  let unit := bits w 0 10
  match bits w 28 4 with
  | 1 => s.run (execBstReqSlice die unit)
  | 2 => s.run (execBstReqDie die)
  | 3 => s.run (execBstReqSeam unit)
  | 4 => s.run (execBstReqRadio (unit % 128))
  | 5 => s.run execBstReqAnchor
  | 15 => s.run execBstReqAll
  | _ => s.err 0 0x13 0x0101

def State.calReq (s : State) (w : Word) : State :=
  let die := bits w 24 3
  let mask := bits w 0 10
  match bits w 28 4 with
  | 1 => s.run (execCalReqSlice die mask)
  | 2 => s.run (execCalReqSpare die mask)
  | 3 => s.run (execCalReqDie die)
  | 4 => s.run execCalReqAnchor
  | 15 => s.run execCalReqAll
  | _ => s.err 0 0x12 0x0102

/-- PWR_SLEEP, SEC_KEYCMD, NVS_CMD and DRN_SWAP: reserved codes are refused as the page says, or do nothing. -/
def State.sleepCmd (s : State) (w : Word) : State :=
  match bits w 0 2 with
  | 1 => s.run execSleepDeepRequest
  | 2 => s.run execSleepWatchRequest
  | _ => s.err 0 0x03 0x0103

def State.keyCmd (s : State) (w : Word) : State :=
  match bits w 30 2 with
  | 1 => s.run (execSecKeyLoad (bits w 0 6))
  | 2 => s.run (execSecKeyErase (bits w 0 6))
  | _ => s.err 0 0x11 0x0101

def State.nvsCmd (s : State) (w : Word) : State :=
  match bits w 28 4 with
  | 1 => s.run (execNvsEraseSlot (bits w 0 2))
  | 2 => s.run (execNvsRegLock (bits w 8 8))
  | 3 => s.run (execNvsDebugLock (bits w 8 8))
  | _ => s

def State.swapCmd (s : State) (w : Word) : State :=
  match bits w 30 2 with
  | 1 => s.run (execDrnSwapCmd (bits w 24 3) (bits w 8 3) (bits w 0 4))
  | 2 => s.run (execDrnUndarn (bits w 24 3) (bits w 0 4))
  | _ => s.err 0 0x15 0x0101

/-- SEM_CTRL.REJOIN (R45): a die counts as reachable while a path of UP seams leads to it. -/
def State.rejoinCmd (s : State) (w : Word) : State :=
  (List.range 7).foldl (fun s i =>
    if bit w i then s.run (execRejoin (i + 1) (s.cwUp (i + 1) || s.ccwUp (i + 1))) else s) s

/-- What a write of an anchor register does beyond its fields. -/
def State.anchorCmd (s : State) (page off : Nat) (w : Word) : State :=
  match page, off with
  | 0x00, 0x030 => s.run (execDevLoad (bits w 0 2))
  | 0x01, 0x040 => s.alarmLo 0 w
  | 0x01, 0x044 => s.run (execTbsAlmHiWrite 0 w)
  | 0x01, 0x048 => s.alarmLo 1 w
  | 0x01, 0x04C => s.run (execTbsAlmHiWrite 1 w)
  | 0x02, 0x024 => (s.regPut 0 0x02 0x024 w).rejoinCmd w
  | 0x03, 0x024 => s.sleepCmd w
  | 0x03, 0x040 => s.run (execPadRelease w)
  | 0x04, 0x024 => s.hostSupply (bits w 12 4) (bits w 0 12)
  | 0x08, 0x034 => s.run (execHmpMark w)
  | 0x09, 0x03C =>
    let s := if bit w 31 then s.run execTktSnapSave else s
    if bit w 30 then s.run execTktSnapLoad else s
  | 0x0A, 0x044 => s.run (execFcoRun w)
  | 0x0A, 0x048 => s.run (execFcoAbort w)
  | 0x0B, 0x024 => s.run (execPleStart (bits w 0 5))
  | 0x0B, 0x028 => s.run (execPleStop (bits w 0 5))
  | 0x0B, 0x02C => s.run (execPleRaiseClear w)
  | 0x0B, 0x030 => s.run (execPleVvalidClear false w)
  | 0x0B, 0x034 => s.run (execPleVvalidClear true w)
  | 0x0C, 0x024 => s.run (execSscQpush (bits w 16 16) (bits w 8 2) (bits w 0 6))
  | 0x0C, 0x030 => s.when (bit w 0) fun s => s.run execSscDonePop
  | 0x0E, 0x024 => s.run (execSafReq (bits w 4 4) (bits w 0 3))
  | 0x10, 0x024 => s.radioCmd (bits w 28 4) (bits w 26 2) (bit w 25) (bits w 21 4) (bits w 14 7) (bits w 0 14)
  | 0x11, 0x030 | 0x11, 0x034 | 0x11, 0x038 | 0x11, 0x03C => s.setReg 0 0x11 off w
  | 0x11, 0x040 => s.keyCmd w
  | 0x12, 0x024 => s.calReq w
  | 0x12, 0x02C =>
    let s := s.regPut 0 0x12 0x02C w
    if bit w 31 then s.run execCalSave else s
  | 0x13, 0x024 => s.bstReq w
  | 0x14, 0x024 => s.nvsCmd w
  | 0x14, 0x02C => s.run (execNvsWdataWrite w)
  | 0x15, 0x024 => s.swapCmd w
  | 0x05, _ =>
    if 0x400 ≤ off then s.run (execIcuSrcWrite ((off - 0x400) / 4) w)
    else if 0x040 ≤ off ∧ off < 0x0C0 ∧ off % 32 = 0 then s.run (execIcuComplete ((off - 0x040) / 32) (bits w 0 9))
    else if 0x040 ≤ off ∧ off < 0x0C0 ∧ off % 32 = 4 then s.run (execIcuTargetCfgWrite ((off - 0x040) / 32) w)
    else s.regPut 0 0x05 off w
  | 0x0B, _ =>
    if 0x100 ≤ off ∧ off < 0x200 then s.run (execPleVariableWrite ((off - 0x100) / 4) w) else s.regPut 0 0x0B off w
  | _, _ => s.regPut 0 page off w

/-- What a write of a field-die register does beyond its fields. -/
def State.dieCmd (s : State) (die page off : Nat) (w : Word) : State :=
  if isSlicePage die page && off == 0x040 then
    let s := s.regPut die page off w
    let s := if bit w 31 then s.run (execCwStart die (page - 1)) else s
    if bit w 30 then s.run (execCwStop die (page - 1)) else s
  else if page = 0x0C ∧ off = 0x030 then s.run (execXenHoldEnd die w)
  else if page = 0x11 ∧ 0x040 ≤ off ∧ off < 0x060 then
    if bit w 31 then s.run (execNetfaultClear die ((off - 0x040) / 4)) else s
  else if page = 0x12 ∧ off = 0x020 then (s.regPut die page off w).holdRun die
  else s.regPut die page off w

/-- R771: a run-time load has staged values for the page. -/
def State.stagedPage (s : State) (die page : Nat) : Bool :=
  match s.load with
  | some l => l.phase == .staged && (profilePages s.loadDies).contains (die, page)
  | none => false

/-- A write that a register takes: its value, and the command it carries. -/
def State.regTake (s : State) (die page off : Nat) (w : Word) : State × Nat :=
  let t := if ownCheck die page off then s else s.writeRo die page off w
  let v := if ownCheck die page off then w else w &&& writableMask die page off
  if off < 0x020 then (t, 0)
  else if die = 0 then (t.anchorCmd page off v, 0)
  else (t.dieCmd die page off v, 0)

/-- R552: a queued or running host entry names the data buffer. -/
def State.bufBusy (s : State) (b : Nat) : Bool := s.ssc.queue.any fun e => e.list.isNone && e.buf == b

/-- A write of a register of an implemented page: with 0, or with the error code of a rejected access (R90, R99, R102, R552,
R771, R805). PG_EVT_EN bits of events that the page does not have are taken as reserved bits (DEDUCED, log entry 12). -/
def State.regWrite (s : State) (die page off : Nat) (w : Word) : State × Nat :=
  if off = 0x00C then (s.run (execPgEvtClear die page w 0), 0)
  else if off = 0x010 then
    let s := s.attnSync.writeRo die page 0x010 w
    ((s.setReg die page 0x010 (w &&& writableMask die page 0x010)).attnSync, 0)
  else if s.flag die (F.PG_LOCK page) then (s.err die page 1, 0)
  else if off = 0x014 then (s.run (execPgFirsterrClear die page w none), 0)
  else if sscBuffer die page off then
    if s.bufBusy ((off - 0x400) / 0x100) then (s.err 0 0x0C 0x0102, 0)
    else if s.stagedPage die page then (s.err die page 7, 7) else (s.setReg die page off w, 0)
  else if (RegTable.lookup die page off).isNone then (s, 0)
  else if rwsMask (hostAddr die page off) ≠ 0 ∧ s.flag die (F.PG_COMMIT_PEND page) then (s.err die page 3, 3)
  else if s.stagedPage die page then (s.err die page 7, 7)
  else if off = 0x004 then (s.writeCtrl die page w, 0)
  else s.regTake die page off w

/-- A write at a die, page and offset that exist; a field die is woken first and its level changes reach the interrupt
controller (R84, R632). -/
def State.putAt (s : State) (die page off : Nat) (w : Word) : State × Nat :=
  let s := s.touchDie die
  let (s, r) := if windowOf die page ≠ .none then s.windowPut die page off w else s.regWrite die page off w
  (if die = 0 then s else (s.icuDeliverDie die).attnSync, r)

/-- A write by the host or the poll engine: with 0, or 1 for a rejected address, or the code of another rejection (R46, R47,
R76 to R83). -/
def State.busWrite (s : State) (a : Nat) (w : Word) : State × Nat :=
  let d := addrDie a
  if d = 15 then
    if a % 4 ≠ 0 ∨ !pageExists 1 (addrPage a) then (s, 1)
    else
      ((List.range s.dies).filter (fun i => s.inService (i + 1))).foldl (fun (x : State × Nat) i =>
        let (t, r) := x.1.putAt (i + 1) (addrPage a) (addrOff a) w
        (t, max x.2 r)) (s, 0)
  else if !s.addrOk a then (s, 1)
  else s.putAt d (addrPage a) (addrOff a) w

/-- The code that a page records of a write that it refuses by itself: its lock (R90), a busy data buffer (R552), or the rule
of a register whose write is a command (R636, R546, R654). A 1 written to a read-only bit refuses nothing (R99); a reserved
interrupt source is all read-only (R636). -/
def State.refusal (s : State) (die page off : Nat) (w : Word) : Nat :=
  let t := ((s.setReg die page 0x014 0).regWrite die page off w).1
  let code := t.get die (F.PG_ERR_CODE page)
  if code = 2 ∧ !(die = 0 ∧ page = 0x05 ∧ 0x400 ≤ off ∧ reservedSource ((off - 0x400) / 4)) then 0 else code

/-- R162, R520: the code of a write that its page discards or refuses without a rejected access, 0 for any other. -/
def State.discards (s : State) (a : Nat) (w : Word) : Nat :=
  let page := addrPage a
  let dies := if addrDie a = 15 then ((List.range s.dies).map (· + 1)).filter s.inService else [addrDie a]
  (dies.filter (fun d => windowOf d page == .none)).foldl (fun n d => max n (s.refusal d page (addrOff a) w)) 0

/-- R111, R594: holds that a read of a low word, or of FREE, takes for the port; a read of RES or OCC uses its hold up. -/
def State.takeHolds (s : State) (port page off : Nat) : State :=
  let hold := fun (s : State) (off : Nat) (w : Word) =>
    let k := holdKey port (hostAddr 0 page off)
    { s with holds := Store.insert (Store.erase s.holds k) k w }
  let c := (off - 0x040) / 32
  if page = 0x01 ∧ off = 0x020 then hold s 0x024 (hiWord s.time)
  else if page = 0x03 ∧ off = 0x038 then hold s 0x03C (s.reg 0 0x03 0x03C)
  else if page = 0x08 ∧ 0x040 ≤ off ∧ off < 0x0C0 then
    if off % 32 = 4 then hold (hold s (off + 4) (word (s.cls c).reserved)) (off + 8) (word (s.cls c).occupied)
    else if off % 32 = 8 ∨ off % 32 = 12 then
      { s with holds := Store.erase s.holds (holdKey port (hostAddr 0 page off)) }
    else s
  else s

/-- A read of an anchor register: a claim and a read of NVS_RDATA change the state; `fetch` is a fetch-ahead (R133). -/
def State.regRead (s : State) (port die page off : Nat) (fetch : Bool) : State × Word :=
  if die = 0 then
    if page = 0x05 ∧ 0x040 ≤ off ∧ off < 0x0C0 ∧ off % 32 = 0 then
      let s := s.run (execIcuClaim ((off - 0x040) / 32) [] fetch)
      (s, s.reg 0 0x05 off)
    else if page = 0x14 ∧ off = 0x030 then
      let s := s.run (execNvsRdataRead fetch)
      (s, s.reg 0 0x14 0x030)
    else (s.takeHolds port page off, s.regView port 0 page off)
  else (s, s.regView port die page off)

/-- A read by a port: its word, 0 when it is rejected (R46, R76, R77, R80). -/
def State.busRead (s : State) (port a : Nat) (fetch : Bool) : State × Word × Bool :=
  if !s.addrOk a then (s, 0, true)
  else
    let d := addrDie a
    let s := s.touchDie d
    if windowOf d (addrPage a) ≠ .none then (s, s.windowView d (addrPage a) (addrOff a), false)
    else
      let (s, w) := s.regRead port d (addrPage a) (addrOff a) fetch
      (s, w, false)

/-- REGISTER_WRITE (R76 to R83, R90, R99, R102, R805): a host write to a register page. -/
def execRegisterWrite (addr : Nat) (value : Word) (s : State) : Out :=
  .next <| s.when (s.awake && windowOf (if addrDie addr = 15 then 1 else addrDie addr) (addrPage addr) == .none) fun s =>
    (s.busWrite addr value).1

/-- WINDOW_WRITE (R85 to R87): a host write to a memory window. -/
def execWindowWrite (addr : Nat) (value : Word) (s : State) : Out :=
  .next <| s.when (s.awake && windowOf (if addrDie addr = 15 then 1 else addrDie addr) (addrPage addr) != .none) fun s =>
    (s.busWrite addr value).1

/-- R31: what a tagged access does on its die, with its reply. -/
def State.seamAccess (s : State) (die : Nat) (write : Bool) (offset : Nat) (data : Word) : State × Word :=
  let page := addrPage offset
  let off := addrOff offset / 4 * 4
  if !pageExists die page then (s, 0)
  else if windowOf die page ≠ .none then
    if write then ((s.windowPut die page off data).1, 0) else (s, s.windowView die page off)
  else if write then ((s.regWrite die page off data).1, 0)
  else s.regRead 0 die page off false

/-- SEAM_REGISTER_ACCESS (R31): a tagged access reaches a field die; a tag that arrives again only returns the stored
reply. -/
def execSeamRegisterAccess (die tag : Nat) (write : Bool) (offset : Nat) (data : Word) (s : State) : Out :=
  .next <| s.when (s.awake && s.inService die) fun s =>
    match Store.find? (s.die die).replies tag with
    | some r => s.setDie die { s.die die with lastReply := r }
    | none =>
      let (s, reply) := (s.touchDie die).seamAccess die write offset data
      s.setDie die { s.die die with replies := Store.insert (s.die die).replies tag reply, lastReply := reply }

end Sys2Proof.Machine
end

