-- ==== Sys2Proof/Machine/Ple.lean ====
section
/-! DEFINITION. The instructions of the poll list engine (chapter 13, R518 to R538). An instruction command runs when the
engine selects its list and the word at the list's PC decodes to that instruction. -/

namespace Sys2Proof.Machine

/-- Words of an instruction. -/
def opSize (op : Nat) : Nat := if twoWords op then 2 else 1

/-- An instruction runs: its list's turn has come, or it waits for room and there is some; `f` gets the run and its two
words. -/
def State.pleStep (s : State) (n op : Nat) (room : Bool) (f : State → PleRun → Word → Word → State) : State :=
  match (s.pleList n).run with
  | some r =>
    let w := s.progWord r.pc
    if s.pleEngine && opOf w == op && (s.pleSelected == some n || (r.wait == .room && room)) then
      let last := if r.wait = .none then Store.insert (Store.erase s.ple.last r.prio) r.prio n else s.ple.last
      f { s with ple := { s.ple with last := last, wrote := [] } } r w (s.progWord (r.pc + 1))
    else s
  | none => s

/-- R519: a run ends with a fault. -/
def State.pleFault (s : State) (n code : Nat) : State :=
  let l := s.pleList n
  let s := s.setList n { l with run := none, pend := none, faulted := true }
  let s := ((s.err 0 0x0B code).set 0 (F.PLE_L_STAT_FAULT n) code).raise 0 0x0B 0
  if l.pend.isSome then s.pleMissed n else s

/-- R519: an instruction has been executed; `r.pc` names the next one. -/
def State.pleDone (s : State) (n : Nat) (r : PleRun) : State :=
  let r := { r with steps := r.steps + 1 }
  if s.get 0 F.PLE_CFG_MAXSTEP ≤ r.steps then s.pleFault n 0x0101
  else if r.last < r.pc then s.pleFault n 0x0102
  else s.setList n { s.pleList n with run := some r }

/-- The run after an instruction of `op` that does not jump. -/
def PleRun.next (r : PleRun) (op : Nat) : PleRun := { r with pc := r.pc + opSize op, wait := .none }

/-- R526: a flag of a run. -/
def PleRun.flag (r : PleRun) (i : Nat) : Bool := r.flags.testBit i

def PleRun.setFlag (r : PleRun) (i : Nat) (v : Bool) : PleRun :=
  let base := if r.flags.testBit i then r.flags - 2 ^ i else r.flags
  { r with flags := if v then base + 2 ^ i else base }

/-- R526: Z and N of the value written to A. -/
def PleRun.zn (r : PleRun) (w : Word) : PleRun := (r.setFlag 0 (w == 0)).setFlag 1 (bit w 31)

/-- R525: a result saturated to 32 bits, and whether it was. -/
def sat32 (i : Int) : Int := clampI (-2147483648) 2147483647 i

def sats (i : Int) : Bool := sat32 i != i

def ofInt (i : Int) : Word := BitVec.ofInt 32 i

/-- A value is written to A with Z and N. -/
def State.pleSetA (s : State) (r : PleRun) (a : Nat) (w : Word) : State × PleRun := (s.setPleVar a w, r.zn w)

/-- An instruction without I/O: `f` gives the state and the run after it. -/
def State.pleAlu (s : State) (n op : Nat) (f : State → PleRun → Word → Word → State × PleRun) : State :=
  s.pleStep n op false fun s r w v =>
    let (s, r) := f s r w v
    s.pleDone n (r.next op)

/-- An arithmetic instruction: A takes a saturated result, with Z, N and S (R525, R527). -/
def State.pleArith (s : State) (n op : Nat) (f : State → Word → Word → Int) : State :=
  s.pleAlu n op fun s r w v =>
    let x := f s w v
    (s.setPleVar (fieldA w) (ofInt (sat32 x)), (r.zn (ofInt (sat32 x))).setFlag 6 (sats x))

/-- PLE_END (R509 to R511, R519): the run ends; a pending trigger starts the next, and LIST triggers fire. -/
def execPleEnd (list : Nat) (s : State) : Out :=
  .next <| s.pleStep list 0x00 false fun s _ _ _ =>
    let s := s.setList list { s.pleList list with run := none }
    ((s.pleNext list).listTrigger list s.time).coordinate

/-- PLE_WAIT (R527): the list waits MS ms. -/
def execPleWait (list : Nat) (s : State) : Out :=
  .next <| s.pleStep list 0x01 false fun s r w _ =>
    s.pleDone list { r with pc := r.pc + 1, wait := .time (s.time + bits w 0 24 * ticksPerMs) }

/-- PLE_MOVI (R527). -/
def execPleMovi (list : Nat) (s : State) : Out :=
  .next <| s.pleAlu list 0x02 fun s r w _ => s.pleSetA r (fieldA w) (ofInt (signed 16 (bits w 0 16)))

/-- PLE_MOVW (R527). -/
def execPleMovw (list : Nat) (s : State) : Out :=
  .next <| s.pleAlu list 0x03 fun s r w v => s.pleSetA r (fieldA w) v

/-- PLE_LOAD (R520, R521, R644): A takes the register's word; E when the access is rejected. A LOAD of ICU_Tt_CLAIM claims
nothing. -/
def execPleLoad (list : Nat) (s : State) : Out :=
  .next <| s.pleAlu list 0x04 fun s r w v =>
    let (s, x, bad) := s.busRead 2 (bits v 0 24) (addrPage (bits v 0 24) == 0x05)
    s.pleSetA (r.setFlag 5 bad) (fieldA w) x

/-- PLE_STORE (R520): the register takes A under its own rules; E when the page rejects the write, or its lock discards it
(R90). -/
def execPleStore (list : Nat) (s : State) : Out :=
  .next <| s.pleAlu list 0x05 fun s r w v =>
    let (t, code) := s.busWrite (bits v 0 24) (s.pleVar (fieldA w))
    if code = 0 ∧ s.discards (bits v 0 24) (s.pleVar (fieldA w)) = 0 then (t, r.setFlag 5 false)
    else (t.err 0 0x0B 0x0105, r.setFlag 5 true)

/-- PLE_ADD (R525, R527). -/
def execPleAdd (list : Nat) (s : State) : Out :=
  .next <| s.pleArith list 0x06 fun s w _ => (s.pleVar (fieldB w)).toInt + (s.pleVar (fieldC w)).toInt

/-- PLE_SUB (R525, R527). -/
def execPleSub (list : Nat) (s : State) : Out :=
  .next <| s.pleArith list 0x07 fun s w _ => (s.pleVar (fieldB w)).toInt - (s.pleVar (fieldC w)).toInt

/-- PLE_SCALE (R525, R527): the shift rounds towards minus infinity. -/
def execPleScale (list : Nat) (s : State) : Out :=
  .next <| s.pleArith list 0x08 fun s w v =>
    Int.fdiv ((s.pleVar (fieldB w)).toInt * signed 16 (bits v 16 16)) (2 ^ bits v 0 5 : Nat)

/-- PLE_EXT (R527): a field of B, sign-extended with SIGN. -/
def execPleExt (list : Nat) (s : State) : Out :=
  .next <| s.pleAlu list 0x09 fun s r w _ =>
    let width := bits w 4 5 + 1
    let x := bits (s.pleVar (fieldB w)) (bits w 9 5) width
    s.pleSetA r (fieldA w) (if bit w 0 then ofInt (signed width x) else word x)

/-- PLE_IIR (R525, R527): A moves towards B by a fraction; B itself when A is not VALID. -/
def execPleIir (list : Nat) (s : State) : Out :=
  .next <| s.pleAlu list 0x0A fun s r w _ =>
    let a := (s.pleVar (fieldA w)).toInt
    let b := (s.pleVar (fieldB w)).toInt
    if s.pleValid (fieldA w) then
      let x := ofInt (a + Int.fdiv (sat32 (b - a)) (2 ^ bits w 0 4 : Nat))
      (s.setPleVar (fieldA w) x, (r.zn x).setFlag 6 (sats (b - a)))
    else
      let x := s.pleVar (fieldB w)
      (s.setPleVar (fieldA w) x, (r.zn x).setFlag 6 false)

/-- A number in its place among rising ones. -/
def insertInt (x : Int) : List Int → List Int
  | [] => [x]
  | y :: t => if x ≤ y then x :: y :: t else y :: insertInt x t

/-- R528: the median, the lower of the two middle values of an even count. -/
def medianOf (l : List Int) : Int :=
  let l := l.foldl (fun m x => insertInt x m) []
  (l[(l.length - 1) / 2]?).getD 0

/-- PLE_MEDIAN5 (R528): all reads come before all writes (R524), and the history shift comes after the write of A. -/
def execPleMedian5 (list : Nat) (s : State) : Out :=
  .next <| s.pleAlu list 0x0B fun s r w _ =>
    let b := fieldB w
    let h := fieldC w
    let old := [0, 1, 2, 3].map (fun i => (s.pleVar (h + i), s.pleValid (h + i)))
    let m := ofInt (medianOf ((s.pleVar b).toInt :: (old.filter Prod.snd).map (fun x => x.1.toInt)))
    let hist := (s.pleVar b, s.pleValid b) :: old.take 3
    let s := s.setPleVar (fieldA w) m
    let s := hist.zipIdx.foldl (fun s ((x, ok), i) => (s.setPleVar (h + i) x).setPleValid (h + i) ok) s
    (s, r.zn m)

/-- PLE_MEAN (R527): the mean of the VALID variables, rounded towards zero; E when none is VALID. -/
def execPleMean (list : Nat) (s : State) : Out :=
  .next <| s.pleAlu list 0x0C fun s r w _ =>
    let l := ((List.range (bits w 0 5)).map (fieldB w + ·)).filter s.pleValid
    if l.isEmpty then (s, r.setFlag 5 true)
    else
      let x := ofInt (Int.tdiv ((l.map (fun i => (s.pleVar i).toInt)).foldl (· + ·) 0) l.length)
      s.pleSetA (r.setFlag 5 false) (fieldA w) x

/-- PLE_CMPH (R529): a comparison with hysteresis. -/
def execPleCmph (list : Nat) (s : State) : Out :=
  .next <| s.pleAlu list 0x0D fun s r w _ =>
    let a := fieldA w
    let on := s.pleValid a && s.pleVar a != 0
    let b := (s.pleVar (fieldB w)).toInt
    let c := (s.pleVar (fieldC w)).toInt
    let d := (s.pleVar (fieldD w)).toInt
    let change := if on then decide (b < sat32 (c - d)) else decide (sat32 (c + d) ≤ b)
    let r := (r.setFlag 2 change).setFlag 3 (on != change)
    (if change then s.setPleVar a (if on then 0 else 1) else s, r)

/-- A pair of variables, low word first. -/
def State.plePair (s : State) (n : Nat) : Nat := (s.pleVar n).toNat + 4294967296 * (s.pleVar (n + 1)).toNat

/-- PLE_WINDOW (R527, R530): whether T lies in the half-open window. -/
def execPleWindow (list : Nat) (s : State) : Out :=
  .next <| s.pleAlu list 0x0E fun s r w _ =>
    let a := fieldA w
    (s, r.setFlag 4 (decide (s.plePair a ≤ r.time ∧ r.time < s.plePair (a + 2))))

/-- PLE_TIME (R527): A and A + 1 take T plus an offset in ms, modulo 2^64. -/
def execPleTime (list : Nat) (s : State) : Out :=
  .next <| s.pleAlu list 0x0F fun s r w v =>
    let x := field 64 ((r.time : Int) + v.toInt * 27120)
    ((s.setPleVar (fieldA w) (loWord x)).setPleVar (fieldA w + 1) (hiWord x), r)

/-- PLE_BRANCH (R526, R527). -/
def execPleBranch (list : Nat) (s : State) : Out :=
  .next <| s.pleStep list 0x10 false fun s r w _ =>
    let c := bits w 23 3
    let taken := (c == 7 || r.flag c) != bit w 22
    s.pleDone list { r with pc := if taken then bits w 0 12 else r.pc + 1 }

/-- R531: the record of an EMIT. -/
def State.emitRecord (s : State) (n : Nat) (r : PleRun) (w : Word) : PendRec :=
  let num := bits w 8 5
  let b := fieldB w
  let w3 := word (n * 134217728 + num * 4194304 + b * 65536 + bits w 0 8 * 256 + r.flags % 128)
  { type := if bit w 23 then 8 else 7, time := r.time, payload := w3 :: (List.range num).map (fun i => s.pleVar (b + i)),
    reserved := 4 + num, note := .none }

/-- PLE_EMIT (R531): with the credit the record is written whole; without it the list waits in CREDIT. -/
def execPleEmit (list : Nat) (s : State) : Out :=
  .next <| s.pleStep list 0x11 false fun s r w _ =>
    let c := bits w 24 2
    let n := 4 + bits w 8 5
    if s.canReserve c n then
      ((s.reserve c n).writeRecord c (s.emitRecord list r w)).pleDone list (r.next 0x11)
    else
      let s := s.setList list { s.pleList list with run := some { r with wait := .credit } }
      ((s.countUp 0 F.PLE_CNT_CREDIT_COUNT F.PLE_CNT_CREDIT_OVF 1).raise 0 0x0B 2).oversize c n

/-- PLE_EMIT_CREDIT (R531): the credit has come. -/
def execPleEmitCredit (list : Nat) (s : State) : Out :=
  .next <|
    match (s.pleList list).run with
    | some r =>
      let w := s.progWord r.pc
      let c := bits w 24 2
      let n := 4 + bits w 8 5
      if s.pleEngine && r.wait == .credit && s.canReserve c n then
        ((s.reserve c n).writeRecord c (s.emitRecord list r w)).pleDone list (r.next 0x11)
      else s
    | none => s

/-- PLE_RAISE (R532): bit K is set, and its source has one more event. -/
def execPleRaise (list : Nat) (s : State) : Out :=
  .next <| s.pleAlu list 0x12 fun s r w _ =>
    let k := bits w 0 4
    let s := s.setReg 0 0x0B 0x02C (putBits (s.reg 0 0x0B 0x02C) k 1 1)
    (s.sourceEvent (23 + k) 1, r)

/-- PLE_TRIG (R510, R541). -/
def execPleTrig (list : Nat) (s : State) : Out :=
  .next <| s.pleAlu list 0x13 fun s r w _ =>
    let l := bits w 0 5
    (if s.listOn l then s.listStart l s.time (pleArg 5 0 0 list) else s.err 0 0x0B 0x0104, r)

/-- A list waits in an I/O instruction. -/
def State.pleAwait (s : State) (n : Nat) (r : PleRun) (x : PleWait) : State :=
  s.setList n { s.pleList n with run := some { r with wait := x } }

/-- PLE_SPI (R533): an entry joins the sensor serial queue, as soon as there is room; a data phase that is too long queues
nothing. -/
def execPleSpi (list : Nat) (s : State) : Out :=
  .next <| s.pleStep list 0x14 (decide (s.ssc.queue.length < 64)) fun s r w _ =>
    let t := bits w 0 6
    if 32 * bits w 10 4 < bits (s.reg 0 0x0C (0x808 + 32 * t)) 0 12 then s.pleDone list ((r.setFlag 5 true).next 0x14)
    else if 64 ≤ s.ssc.queue.length then s.pleAwait list r .room
    else
      let e : SscEntry := ⟨t, 0, 0, some list⟩
      { s with ssc := { s.ssc with queue := s.ssc.queue ++ [e] } }.pleAwait list r .spi

/-- Words stored in variables from `b` upwards. -/
def State.storeVars (s : State) (b : Nat) (ws : List Word) : State :=
  ws.zipIdx.foldl (fun s (w, i) => s.setPleVar (b + i) w) s

/-- PLE_SPI_DONE (R533): the entry has ended; its input goes to the variables, and T is the release of its select. -/
def execPleSpiDone (list : Nat) (s : State) : Out :=
  .next <|
    match (s.pleList list).run, s.ssc.results.find? (fun e => e.1 == list) with
    | some r, some (_, st, ws, t) =>
      if s.pleEngine && r.wait == .spi then
        let w := s.progWord r.pc
        let s := { s with ssc := { s.ssc with results := s.ssc.results.filter (fun e => e.1 != list) } }
        if st = 0 then (s.storeVars (fieldB w) ws).pleDone list ({ r.setFlag 5 false with time := t }.next 0x14)
        else s.pleDone list ((r.setFlag 5 true).next 0x14)
      else s
    | _, _ => s

/-- R534, R566: what a LISTEN of NUM words takes: a partial word is the last one. -/
def takeWords : Nat → List (Nat × Word × Nat × Bool) → List (Nat × Word × Nat × Bool)
  | 0, _ => []
  | _, [] => []
  | n + 1, x :: t => if x.2.2.2 then [x] else x :: takeWords n t

/-- R534: the words are taken, and the list goes on. -/
def State.listenEnd (s : State) (n : Nat) (r : PleRun) (w : Word) : State :=
  let num := bits w 10 4
  let l := takeWords num s.ssl.fifo
  let part := match l.getLast? with
    | some x => if x.2.2.2 then x.1 else 0
    | none => 0
  let s := { s with ssl := { s.ssl with fifo := s.ssl.fifo.drop l.length } }.sslUpdate
  let s := s.storeVars (fieldA w) (l.map (fun x => x.2.1))
  let s := s.setPleVar (fieldB w) (word (256 * part + l.length))
  let r := match l.head? with
    | some x => r.zn x.2.1
    | none => r
  let r := r.setFlag 5 (decide (l.length < num) || part != 0)
  let r := match l.getLast? with
    | some x => { r with time := x.2.2.1 }
    | none => r
  s.pleDone n (r.next 0x15)

/-- R534: the NUM words that a LISTEN waits for are there. -/
def State.listenFull (s : State) (w : Word) : Bool :=
  decide (bits w 10 4 ≤ (takeWords (bits w 10 4) s.ssl.fifo).length)

/-- PLE_LISTEN (R534): words that are there are taken at once, else the list waits up to TO ms. -/
def execPleListen (list : Nat) (s : State) : Out :=
  .next <| s.pleStep list 0x15 false fun s r w _ =>
    if s.listenFull w ∨ bits w 0 10 = 0 then s.listenEnd list r w
    else s.pleAwait list r (.listen (s.time + bits w 0 10 * ticksPerMs))

/-- PLE_LISTEN_DONE (R534): the words are there, or the time is over. -/
def execPleListenDone (list : Nat) (s : State) : Out :=
  .next <|
    match (s.pleList list).run with
    | some r =>
      match r.wait with
      | .listen due =>
        let w := s.progWord r.pc
        if s.pleEngine && (s.listenFull w || decide (due ≤ s.time)) then s.listenEnd list r w else s
      | _ => s
    | none => s

/-- PLE_ADC (R535, R571): conversions are requested; E when the SAF page is not ON. -/
def execPleAdc (list : Nat) (s : State) : Out :=
  .next <| s.pleStep list 0x16 false fun s r w _ =>
    if s.pageOn 0 0x0E then
      { s with saf := { s.saf with reqs := s.saf.reqs ++ [(bits w 8 3, bits w 0 4 + 1, some list)] } }.pleAwait list r .adc
    else s.pleDone list ((r.setFlag 5 true).next 0x16)

/-- PLE_ADC_DONE (R535): the list's conversions, first in the order of arrival, have ended. -/
def execPleAdcDone (list : Nat) (volts : List Int) (s : State) : Out :=
  .next <|
    match (s.pleList list).run, s.saf.reqs with
    | some r, (_, n, some l) :: rest =>
      if s.pleEngine && r.wait == .adc && l == list && volts.length == n && s.safRuns && !s.converterHeld then
        let s := { s with saf := { s.saf with reqs := rest } }
        let (s, r) := s.pleSetA (r.setFlag 5 false) (fieldA (s.progWord r.pc)) (word (meanCode (volts.map adcCode)))
        s.pleDone list ({ r with time := s.time }.next 0x16)
      else s
    | _, _ => s

/-- R537: TAG without a record. -/
def State.tagRefused (s : State) (n : Nat) (r : PleRun) (w : Word) : State :=
  let a := fieldA w
  let s := ((s.setPleVar a 0xFFFFFFFF).setPleVar (a + 1) 0).setPleVar (a + 2) 0
  (s.err 0 0x0B 0x0106).pleDone n (((r.zn 0xFFFFFFFF).setFlag 5 true).next 0x17)

/-- PLE_TAG (R536, R537): a candidate in the poll queue, or a refusal. During a sleep entry the candidate is withdrawn at
once (R655). -/
def execPleTag (list : Nat) (s : State) : Out :=
  .next <| s.pleStep list 0x17 false fun s r w _ =>
    let d := bits w 16 3
    if !s.inService d then s.tagRefused list r w
    else
      let (s, ms) := s.formChain d (bits w 0 9)
      if ms.isEmpty then s.tagRefused list r w
      else
        let s := { s with recDone := Store.erase s.recDone list }.pleAwait list r .tag
        (s.addExchange (.list list) d ((ms[0]?).map Member.port |>.getD 0) ms (bits w 13 3)).coordinate

/-- PLE_TAG_DONE (R536, R806): the record is written, or the candidate was withdrawn. -/
def execPleTagDone (list : Nat) (s : State) : Out :=
  .next <|
    match (s.pleList list).run, Store.find? s.recDone list with
    | some r, some ws =>
      if s.pleEngine && r.wait == .tag then
        let w := s.progWord r.pc
        let a := fieldA w
        let s := { s with recDone := Store.erase s.recDone list }
        let x := fun (i : Nat) => (ws[i]?).getD 0
        if ws.isEmpty then s.tagRefused list r w
        else
          let s := ((s.setPleVar a (x 3)).setPleVar (a + 1) (x 8)).setPleVar (a + 2) (x 9)
          let r := (r.zn (x 3)).setFlag 5 (bits (x 3) 28 4 != 0)
          s.pleDone list ({ r with time := (x 1).toNat + 4294967296 * (x 2).toNat }.next 0x17)
      else s
    | _, _ => s

/-- R538: RADIO without a record. -/
def State.radioRefused (s : State) (n : Nat) (r : PleRun) (w : Word) : State :=
  (s.setPleVar (fieldA w) 0xFFFFFFFF).pleDone n (((r.zn 0xFFFFFFFF).setFlag 5 true).next 0x18)

/-- PLE_RADIO (R538): a TX command joins the radio queue, as soon as there is room. -/
def execPleRadio (list : Nat) (s : State) : Out :=
  .next <| s.pleStep list 0x18 (decide (s.radio.queue.length < 8)) fun s r w v =>
    let c : RadioCmd :=
      { code := 5, after := bits w 10 2, pri := bit w 12, template := bits w 0 4, channel := bits v 14 7,
        ticket := if bit w 13 then bits (s.pleVar (fieldB w)) 0 14 else bits v 0 14, list := some list }
    if 8 ≤ s.radio.queue.length then s.pleAwait list r .room
    else if s.radioInvalid c then (s.err 0 0x10 0x0102).radioRefused list r w
    else
      { s with recDone := Store.erase s.recDone (32 + list),
               radio := { s.radio with queue := s.radio.queue ++ [c] } }.pleAwait list r .radio

/-- PLE_RADIO_DONE (R538): the command's record is written, or the command was withdrawn (R477). -/
def execPleRadioDone (list : Nat) (s : State) : Out :=
  .next <|
    match (s.pleList list).run, Store.find? s.recDone (32 + list) with
    | some r, some ws =>
      if s.pleEngine && r.wait == .radio then
        let w := s.progWord r.pc
        let s := { s with recDone := Store.erase s.recDone (32 + list) }
        let x := fun (i : Nat) => (ws[i]?).getD 0
        if ws.isEmpty then s.radioRefused list r w
        else
          let (s, r) := s.pleSetA (r.setFlag 5 (bits (x 3) 28 4 != 0)) (fieldA w) (x 3)
          s.pleDone list ({ r with time := (x 1).toNat + 4294967296 * (x 2).toNat }.next 0x18)
      else s
    | _, _ => s

end Sys2Proof.Machine
end

