-- ==== Sys2Proof/Machine/HostSerial.lean ====
section
/-! DEFINITION. The host serial port (chapter 03): one command is one frame, from the falling to the rising edge of HSEL. A
READ or HAMPER_READ whose first word is not ready stays open until TOKEN_READY or READ_TIMEOUT. -/

namespace Sys2Proof.Machine

/-- R123: the status byte, with the ERR bit of the port that shows it. -/
def State.statusByte (s : State) (err : Bool) : Nat :=
  let busy := s.regs.any (fun e => e.1 % 4096 == 8 && bit e.2 9)
  128 * b2n s.ready + 64 * b2n (s.power.waking && !s.ready) + 32 * b2n s.hamper.flowA + 16 * b2n s.hamper.urgent
    + 8 * b2n ((List.range 4).any s.irqLine) + 4 * b2n err + 2 * b2n busy + b2n s.epoch

/-- R119: the bits of a field of `n` bits as they are shifted, most significant first. -/
def frameBits (n v : Nat) : List Bool := (List.range n).reverse.map v.testBit

/-- HSDO goes on with further bits. -/
def State.shiftOut (s : State) (l : List Bool) : State := { s with hsp := { s.hsp with line := s.hsp.line ++ l } }

/-- R124, R156, R157: the frame ends; with a code it is rejected. -/
def State.frameEnd (s : State) (code : Nat) : State :=
  let h : Hsp := { s.hsp with err := code != 0, frame := none, statusOn := false, selLow := false }
  let s := { s with hsp := h }.set 0 F.HSP_LASTERR_CODE code
  if code = 0 then s
  else ((s.err 0 0x06 code).countUp 0 F.HSP_CNT_REJECT_COUNT F.HSP_CNT_REJECT_OVF 1).raise 0 0x06 0

/-- R151, R152: a frame still open has ended: a STATUS frame, of fewer than 8 clocks or more, or one in its token phase. -/
def State.frameLeft (s : State) : State :=
  if s.hsp.statusOn && s.hsp.line.isEmpty then s
  else if s.hsp.frame.isSome || s.hsp.statusOn then s.frameEnd (if s.hsp.line.length < 8 then 0x0103 else 0)
  else s

/-- R123, R145: what the falling edge of HSEL does. -/
def State.frameBegin (s : State) : State :=
  let s := (s.wakeBy 5 0).frameLeft
  { s with hsp := { s.hsp with status := s.statusByte s.hsp.err, line := [], out := [], frame := none, statusOn := false,
                               selLow := true } }

/-- R120, R121: the first bits of a frame: HSP_STAT.MODE, the status byte, and 0x00 in the phases that the host drives. -/
def State.frameShift (s : State) (mode3 : Bool) (clocks : Nat) : State :=
  let s := s.frameBegin.set 0 F.HSP_STAT_MODE (b2n mode3)
  s.shiftOut ((frameBits 8 s.hsp.status ++ List.replicate (clocks - 8) false).take clocks)

/-- R117, R121, R122, R147, R151: a frame up to its command byte: the status byte, then 0x00 while the device drives nothing
else; `always`: the command needs no READY. The body ends the frame. A frame cut in its header while READY is 0 is NOT_READY
rather than FRAME_SHORT (DEDUCED, log entry 27). -/
def State.hspFrame (s : State) (mode3 : Bool) (clocks : Nat) (always : Bool) (body : State → State) : State :=
  if s.device = .off ∨ s.device = .reset then s
  else
    if clocks = 0 then
      let s := s.frameBegin
      { s with hsp := { s.hsp with selLow := false } }
    else
      let s := s.frameShift mode3 clocks
      if clocks < 8 then s.frameEnd 0x0103
      else if !s.ready && !always then s.frameEnd 0x0101
      else body s

/-- R125: `n` clocks of a STATUS frame: the rest of the byte that is being shifted out, then repetitions of the status byte
as the state stands. Every byte after the frame's first one joins `out` with its last bit. -/
def State.statusClocks (s : State) (n : Nat) : State :=
  let pos := s.hsp.line.length % 8
  let left := if pos = 0 then 0 else 8 - pos
  let first := decide (s.hsp.line.length < 8)
  let v := s.statusByte s.hsp.err
  let reps := n - left
  let done := if pos ≠ 0 ∧ left ≤ n ∧ !first then [word s.hsp.status] else []
  let s := s.shiftOut (((frameBits 8 s.hsp.status).drop (8 - left)).take n
    ++ ((List.replicate ((reps + 7) / 8) (frameBits 8 v)).flatten).take reps)
  { s with hsp := { s.hsp with out := s.hsp.out ++ done ++ List.replicate (reps / 8) (word v),
                               status := if reps = 0 then s.hsp.status else v } }

/-- R125, R151: `n` clocks of a STATUS frame, which then goes on (`more`) or ends. The frame's first byte is the status byte
of the falling edge of HSEL. -/
def State.statusOut (s : State) (n : Nat) (more : Bool) : State :=
  let s :=
    if s.hsp.line.isEmpty then
      (s.shiftOut ((frameBits 8 s.hsp.status).take n)).statusClocks (n - 8)
    else s.statusClocks n
  if more then { s with hsp := { s.hsp with statusOn := true } }
  else if s.hsp.line.isEmpty then { s with hsp := { s.hsp with statusOn := false, selLow := false } }
  else s.frameEnd (if s.hsp.line.length < 8 then 0x0103 else 0)

/-- STATUS (R125): clocks of a frame; while `more` holds, HSEL stays low after them and the next STATUS command goes on with
the frame, its repetitions sampled anew. -/
def execStatus (mode3 : Bool) (clocks : Nat) (more : Bool) (s : State) : Out :=
  .next <|
    if s.device = .off ∨ s.device = .reset then s
    else if s.hsp.statusOn then s.statusOut clocks more
    else
      let s := s.frameBegin
      (if clocks = 0 then s else s.set 0 F.HSP_STAT_MODE (b2n mode3)).statusOut clocks more

/-- WAKE (R148): the falling edge of HSEL has begun the wake. Clocks after the command byte are ignored (DESIGN CHOICE, log
entry 106). -/
def execWake (mode3 : Bool) (clocks : Nat) (s : State) : Out :=
  .next <| s.hspFrame mode3 clocks true fun s => s.frameEnd 0

/-- HSEL_WAKE (R145, R660). -/
def execHselWake (s : State) : Out := .next (s.wakeBy 5 0)

/-- The command bytes of R121. -/
def hspCommands : List Nat := [0x01, 0x10, 0x20, 0x21, 0x30, 0x50, 0x60, 0x7E]

/-- UNKNOWN_CMD (R122). -/
def execUnknownCmd (cmd : Nat) (mode3 : Bool) (clocks : Nat) (s : State) : Out :=
  .next <| s.when (!hspCommands.contains cmd) fun s => s.hspFrame mode3 clocks true fun s => s.frameEnd 0x0102

/-- R131 to R133: words `i` of a READ from address `a`: `clocked` of them are shifted out and may reject the frame, the
others are fetched ahead only. With the words and whether one was rejected. -/
def State.readWords (s : State) (a i clocked : Nat) : Nat → State × List Word × Bool
  | 0 => (s, [], false)
  | n + 1 =>
    let (s, w, rej) := s.busRead 0 a (i != 0)
    let (s, ws, bad) := s.readWords (nextAddr a) (i + 1) clocked n
    (s, if i < clocked then w :: ws else ws, bad || (rej && decide (i < clocked)))

/-- R127, R131, R132: the data phase of a READ. -/
def State.readData (s : State) (addr clocks ahead : Nat) : State :=
  let clocked := (clocks + 31) / 32
  let (s, ws, bad) := s.readWords addr 0 clocked (max 1 (clocked + ahead))
  let s := s.shiftOut ((ws.map (fun w => frameBits 32 w.toNat)).flatten.take clocks)
  { s with hsp := { s.hsp with out := ws } }.frameEnd (if bad then 0x0105 else 0)

/-- The other host port. -/
def HostPort.other : HostPort → HostPort
  | .hsp => .htw
  | .htw => .hsp

/-- R138, R139, R143: the grant fixed for a port: the classes of its words and the grant word. -/
def State.grant (s : State) (p : HostPort) (mask : Nat) : List Nat × Word :=
  let other := (s.openClass p.other).isSome
  let l := if other then [] else s.grantList p mask
  let cls := (s.openClass p).getD (l.head?.getD 0)
  (l, word (2147483648 * b2n (s.openClass p).isSome + 1073741824 * b2n other + 67108864 * cls + l.length))

/-- R141, R143, R588: the next word of a class is consumed by a port, to which its record stays open. -/
def State.consumeWord (s : State) (p : HostPort) (c : Nat) : State :=
  let k : HClass := { s.cls c with openTo := some p }
  s.setCls c (k.consume (s.regionSize c))

/-- Words of a grant consumed in order, with the words. -/
def State.consumeWords (s : State) (p : HostPort) : List Nat → State × List Word
  | [] => (s, [])
  | c :: rest =>
    let w := (s.cls c).nextWord.getD 0
    let (s, ws) := (s.consumeWord p c).consumeWords p rest
    (s, w :: ws)

/-- What follows a return of credits (R266, R564, R590): waiting work is looked at again. -/
def State.creditsBack (s : State) : State := ((s.hamperAfter.serveSys 16).sslReserve).coordinate

/-- R138 to R144, R156: the data phase of a HAMPER_READ. A word that HSEL cuts off is shown as far as it was clocked and
not consumed (R141). With a reserved address bit set the words read 0, nothing is granted, and the frame is rejected
(DEDUCED, log entry 34). -/
def State.hamperData (s : State) (mask clocks : Nat) : State :=
  let (l, g) := if mask < 16 then s.grant .hsp mask else ([], 0)
  let n := (clocks - 32) / 32
  let s := s.attnSync
  let (s, ws) := s.consumeWords .hsp (l.take n)
  let out := if clocks = 0 then [] else g :: (ws ++ List.replicate (n - ws.length) 0)
  let cut := ((l[n]?).bind (fun c => (s.cls c).nextWord)).getD 0
  let s := s.shiftOut (((out ++ [cut]).map (fun w => frameBits 32 w.toNat)).flatten.take clocks)
  let s := { s with hsp := { s.hsp with out := out } }
  ((if ws.isEmpty then s else s.creditsBack).attnSync).frameEnd (if mask < 16 then 0 else 0x0105)

/-- R129, R130: the dummy clocks of a frame, and whether the port lengthens them. -/
def State.dummyClocks (s : State) (fast : Bool) : Nat × Bool :=
  let n := s.get 0 F.HSP_CFG_DUMMY
  if fast && decide (n < 8) then (8, true) else (n, false)

/-- R130: the dummy clocks used, and DUMMY_RAISED. -/
def State.dummyUsed (s : State) (d : Nat) (raised : Bool) : State :=
  let s := s.set 0 F.HSP_STAT_DUMMY_USED d
  if raised then (s.set 0 F.HSP_STAT_DUMMY_RAISED 1).raise 0 0x06 3 else s

/-- R127, R151, R152: the header and the token phase of READ and HAMPER_READ; `data` is the data phase, with the clocks
that are left to it. Clocks that end before the token end the frame without a read. That is so also with reserved address bits
set (DEDUCED, log entry 34). -/
def State.tokenFrame (s : State) (hamper : Bool) (arg : Nat) (fast : Bool) (clocks : Nat) (ready : Option Nat)
    (data : State → Nat → State) : State :=
  let (d, raised) := s.dummyClocks fast
  if clocks < 32 + d then s.frameEnd 0x0103
  else
    let s := s.dummyUsed d raised
    match ready with
    | none => { s with hsp := { s.hsp with frame := some (hamper, arg) } }
    | some k =>
      let t := 32 + d + 8 * k
      if clocks ≤ t then s.frameEnd 0
      else
        let s := { s with hsp := { s.hsp with line := s.hsp.line.take t } }
        data (s.shiftOut ((frameBits 8 0xA5).take (clocks - t))) (clocks - (t + 8))

/-- READ (R131). -/
def execRead (addr : Nat) (mode3 fast : Bool) (clocks : Nat) (ready : Option Nat) (ahead : Nat) (s : State) : Out :=
  .next <| s.hspFrame mode3 clocks false fun s =>
    s.tokenFrame false addr fast clocks ready fun s n => s.readData addr n ahead

/-- HAMPER_READ (R137 to R144). -/
def execHamperRead (mask : Nat) (mode3 fast : Bool) (clocks : Nat) (ready : Option Nat) (s : State) : Out :=
  .next <| s.hspFrame mode3 clocks false fun s =>
    s.tokenFrame true mask fast clocks ready fun s n => s.hamperData mask n

/-- R127: a token byte of an open frame follows the one that is being shifted out. -/
def State.token (s : State) (v : Nat) : State :=
  let shown := s.hsp.line.length - (32 + s.get 0 F.HSP_STAT_DUMMY_USED)
  s.shiftOut (List.replicate ((8 - shown % 8) % 8) false ++ frameBits 8 v)

/-- TOKEN_READY (R127, R138): the token 0xA5 of an open frame, and the clocks that follow it. -/
def execTokenReady (clocks ahead : Nat) (s : State) : Out :=
  .next <|
    match s.hsp.frame with
    | some (true, mask) => (s.token 0xA5).hamperData mask clocks
    | some (false, addr) => (s.token 0xA5).readData addr clocks ahead
    | none => s

/-- READ_TIMEOUT (R128): the token 0xE7, then 0x00 for the `clocks` that follow it in the frame. -/
def execReadTimeout (clocks : Nat) (s : State) : Out :=
  .next <| s.when s.hsp.frame.isSome fun s =>
    (((s.token 0xE7).shiftOut (List.replicate clocks false)).raise 0 0x06 2).frameEnd 0x0107

/-- R98, R132, R156: the code a frame reports for a rejected write. -/
def frameCode (r : Nat) : Nat := if r = 1 then 0x0105 else r

/-- R134, R136: complete words written from address `a`; a WRITE_COMMIT stays on the page `only`. With the first code. -/
def State.writeFrom (s : State) (only : Option Nat) (a : Nat) : List Word → State × Nat
  | [] => (s, 0)
  | w :: ws =>
    let away := match only with
      | some p => decide (a / 4096 ≠ p)
      | none => false
    let (s, r) := if away then (s, 1) else s.busWrite a w
    let (s, r') := s.writeFrom only (nextAddr a) ws
    (s, if r = 0 then r' else frameCode r)

/-- R153: the partial word of a write frame. -/
def State.partialWord (s : State) : State :=
  (s.countUp 0 F.HSP_CNT_PARTIAL_COUNT F.HSP_CNT_PARTIAL_OVF 1).raise 0 0x06 1

/-- R134, R153: the data phase of WRITE and WRITE_COMMIT, with the code of a rejection. Of a rejected word and a partial word
the frame records the rejected word's code (DEDUCED, log entry 28). -/
def State.writeData (s : State) (only : Option Nat) (addr : Nat) (data : List Word) (clocks : Nat) : State × Nat :=
  let (s, code) := s.writeFrom only addr data
  if (clocks - 32) % 32 = 0 then (s, code) else (s.partialWord, if code = 0 then 0x0104 else code)

/-- WRITE (R134). -/
def execWrite (addr : Nat) (data : List Word) (mode3 : Bool) (clocks : Nat) (s : State) : Out :=
  .next <| s.hspFrame mode3 clocks false fun s =>
    if clocks < 32 then s.frameEnd 0x0103
    else
      let (s, code) := s.writeData none addr (data.take ((clocks - 32) / 32)) clocks
      s.frameEnd code

/-- R135: the commit at the end of a WRITE_COMMIT frame; a window page has no PG_CTRL. -/
def State.requestCommit (s : State) (addr : Nat) : State :=
  let page := addrPage addr
  let dies := if addrDie addr = 15 then ((List.range s.dies).map (· + 1)).filter s.inService else [addrDie addr]
  dies.foldl (fun s d =>
    if windowOf d page ≠ .none then s
    else if s.stagedPage d page then s.err d page 7
    else s.run (execPgCtrlCommit d page)) s

/-- WRITE_COMMIT (R134 to R136). A word that its page discards without rejecting it counts as written (DEDUCED, log entry 28). -/
def execWriteCommit (addr : Nat) (data : List Word) (mode3 : Bool) (clocks : Nat) (s : State) : Out :=
  .next <| s.hspFrame mode3 clocks false fun s =>
    if clocks < 32 then s.frameEnd 0x0103
    else
      let ws := data.take ((clocks - 32) / 32)
      let (s, code) := s.writeData (some (addr / 4096)) addr ws clocks
      if code ≠ 0 ∨ ws.isEmpty then s.frameEnd 0x0108 else (s.requestCommit addr).frameEnd 0

/-- PROFILE_LOAD (R149, R768, R771). Clocks after the address are ignored (DESIGN CHOICE, log entry 106). -/
def execProfileLoad (addr : Nat) (mode3 : Bool) (clocks : Nat) (s : State) : Out :=
  .next <| s.hspFrame mode3 clocks false fun s =>
    if clocks < 32 then s.frameEnd 0x0103
    else if 4 ≤ addr then s.frameEnd 0x0105
    else
      let refused := s.load.isSome || decide (s.power.phase ≠ .none)
      (s.startLoad addr).frameEnd (if refused then 7 else 0)

/-- SOFT_RESET (R150). -/
def execSoftReset (key0 key1 : Nat) (mode3 : Bool) (clocks : Nat) (s : State) : Out :=
  .next <| s.hspFrame mode3 clocks false fun s =>
    if clocks = 24 ∧ key0 = 0xA5 ∧ key1 = 0x5A then (s.frameEnd 0).resetDevice 2
    else if clocks < 24 ∧ clocks ≠ 8 ∧ clocks ≠ 16 then s.frameEnd 0x0103
    else s.frameEnd 0x0106

end Sys2Proof.Machine
end

