-- ==== Sys2Proof/Machine/HostTwoWire.lean ====
section
/-! DEFINITION. The host two-wire port (chapter 04): transfers through the byte pointer, the control block, hamper grants and
the stream, bus faults, and attention writes. -/

namespace Sys2Proof.Machine

/-- The two-wire port's state replaced. -/
def State.setHtw (s : State) (h : Htw) : State := { s with htw := h }

/-- The cause of a rejection: the first one of a transfer is kept. -/
def State.twCode (s : State) (code : Nat) : State :=
  if s.htw.code = 0 then s.setHtw { s.htw with code := code } else s

/-- R166: a discarded partial word. -/
def State.twPartial (s : State) : State :=
  ((s.countUp 0 F.HTW_CNT_PARTIAL_COUNT F.HTW_CNT_PARTIAL_OVF 1).raise 0 0x07 1).twCode 0x0104

/-- R165: the word being assembled is dropped; one whose first byte was not received has been counted before. -/
def State.twDrop (s : State) : State :=
  let t := s.setHtw { s.htw with wbuf := none }
  match s.htw.wbuf with
  | some (_, _ :: _) => t.twPartial
  | _ => t

/-- The end of a transfer, at its STOP or by an abort (R162, R172, R174, R198, R199). WRITE_RO of a control byte has been
recorded on the page when the byte arrived. A refused word of the HTW page itself is recorded twice on it (DEDUCED, log entry
145). -/
def State.twEnd (s : State) : State :=
  if !s.htw.busy then s
  else
    let s := s.twDrop
    let code := s.htw.code
    let s := s.setHtw { s.htw with busy := false, served := false, fresh := false, code := 0, rbuf := [], stretch := none, dead := false, grant := none,
                                   streamed := 0, err := code != 0 }
    let s := s.set 0 F.HTW_LASTERR_CODE code
    if code = 0 then s else (if code = 2 then s else s.err 0 0x07 code).raise 0 0x07 0

/-- R193: the device is controller in an attention. -/
def State.attnActive (s : State) : Bool := s.htw.attn.isSome && !s.htw.backoff

/-- R180, R184: the port's on-demand domain runs: awake, or waking with the front ready. -/
def State.twOn (s : State) : Bool := s.awake || (s.power.waking && s.power.frontReady)

/-- R158, R160, R179, R180, R182, R186: a START and the address after it make the bus busy; the device's own address is
acknowledged, or counted while the device wakes or starts, and a transfer in progress goes on (R160). Any other address is
another target's. -/
def State.twStart (s : State) (addr : Nat) (read : Bool) : State × Bool :=
  if s.device = .off ∨ s.device = .reset then (s, false)
  else if addr ≠ s.get 0 F.HTW_STAT_OWN_ADDR then (s.setHtw { s.htw with busFree := false, served := false }, false)
  else
    let s := (s.wakeBy 6 0).setHtw { s.htw with busFree := false }
    let acked := if s.awake then s.ready else s.power.waking && s.power.frontReady
    if acked then
      (s.setHtw { s.htw with busy := true, served := true, fresh := !read, reading := read,
                             out := if read then [] else s.htw.out }, true)
    else (s.countUp 0 F.HTW_CNT_WAKENACK_COUNT F.HTW_CNT_WAKENACK_OVF 1, false)

/-- The STOP of a transfer. -/
def State.twStop (s : State) (stop : Bool) : State := if stop then s.twEnd else s

/-- R161, R175: the pointer after a byte. -/
def State.twNext (s : State) (read : Bool) : State :=
  let p := s.htw.pointer
  if read && p == 0xF8 then s else s.setHtw { s.htw with pointer := (p + 1) % 256 }

/-- R163: the address of the window word of pointer `p`. -/
def State.twAddr (s : State) (p : Nat) : Nat :=
  let a := s.htw.base
  a / 1048576 * 1048576 + (a + p / 4 * 4) % 1048576

/-- R164: byte `k` of a word, 0 the most significant. -/
def topByte (w : Word) (k : Nat) : Byte := byteOf w (3 - k % 4)

/-- R164: a word of four bytes, the first the most significant. -/
def topWord (l : List Byte) : Word := word (l.foldl (fun n b => 256 * n + b.toNat) 0)

/-- R162, R168: a window word written; one that is rejected, or that its page discards, is reported (with
the page's own code, DEDUCED, log entry 36). -/
def State.twPutWord (s : State) (a : Nat) (w : Word) : State :=
  let (t, r) := s.busWrite a w
  if r ≠ 0 then t.twCode (frameCode r) else if s.discards a w = 0 then t else t.twCode (s.discards a w)

/-- R167, R168: a window word read; one that is rejected reads 0. -/
def State.twGetWord (s : State) (a : Nat) : State :=
  let (s, w, rej) := s.busRead 1 a false
  let s := s.setHtw { s.htw with rbuf := Store.insert s.htw.rbuf a w }
  if rej then s.twCode 0x0105 else s

/-- R165: the bytes of the word at `a` that have arrived in order; `none` where the word has already been discarded. -/
def Htw.begun (h : Htw) (a : Nat) : Option (List Byte) :=
  match h.wbuf with
  | some (b, l) => if b ≠ a then some [] else if l.isEmpty then none else some l
  | none => some []

/-- R165, R166: a window byte written at pointer `p`: the first byte of a word begins it, the next in order extends it, and
any other byte discards it; a word left unfinished is discarded. With `hold` the write of a completed word waits under a
stretch (R169). -/
def State.twWindowByte (s : State) (p : Nat) (b : Byte) (hold : Bool) : State :=
  let a := s.twAddr p
  let k := p % 4
  let keep := fun (s : State) (l : List Byte) => s.setHtw { s.htw with wbuf := if k = 3 then none else some (a, l) }
  if k = 0 then keep s.twDrop [b]
  else
    match s.htw.begun a with
    | none => keep s []
    | some l =>
      if l.length ≠ k then keep (if l.isEmpty then s.twDrop.twPartial else s.twDrop) []
      else if k < 3 then keep s (l ++ [b])
      else
        let w := topWord (l ++ [b])
        let s := s.setHtw { s.htw with wbuf := none }
        if hold then s.setHtw { s.htw with stretch := some (.write a w) } else s.twPutWord a w

/-- R170: WIN_MID applies WIN_BASE. -/
def State.winApply (s : State) (v : Nat) : State :=
  let h := s.htw
  s.setHtw { h with mid := v, base := 65536 * h.hi + 256 * v + h.lo / 16 * 16 }

/-- R171: a control byte written; one that is RO is discarded and reported (R162). -/
def State.twControlByte (s : State) (p : Nat) (b : Byte) : State :=
  let h := s.htw
  match p with
  | 0xF0 => s.setHtw { h with hi := b.toNat }
  | 0xF1 => s.winApply b.toNat
  | 0xF4 => s.setHtw { h with hmask := b.toNat % 16 }
  | 0xFA => s.setHtw { h with lo := b.toNat / 16 * 16 }
  | _ => (s.err 0 0x07 2).twCode 2

/-- R161, R181: a byte of a write: the first one sets the pointer, every other is written at it. -/
def State.twPut (s : State) (b : Byte) (hold : Bool) : State :=
  if s.htw.fresh then s.setHtw { s.htw with pointer := b.toNat, fresh := false }
  else
    let p := s.htw.pointer
    let s :=
      if !s.ready then s.twCode 0x0101
      else if p < 0xF0 then s.twWindowByte p b hold
      else s.twControlByte p b
    s.twNext false

/-- The bytes of a write; the last one may be held by a stretch. -/
def State.twPutAll (s : State) (hold : Bool) : List Byte → State
  | [] => s
  | b :: bs => (s.twPut b (hold && bs.isEmpty)).twPutAll hold bs

/-- A transfer in progress that is addressed to the device, in the direction given. -/
def State.twServes (s : State) (read : Bool) : Bool := s.htw.busy && s.htw.served && s.htw.reading == read

/-- TW_WRITE_TRANSFER (R160 to R171): bytes of a write, after a START and the address it carries where `start` gives one. -/
def execTwWriteTransfer (start : Option Nat) (bytes : List Byte) (stretch stop : Bool) (s : State) : Out :=
  .next <| s.when (!s.attnActive && s.htw.stretch.isNone) fun s =>
    match start with
    | some addr =>
      let (s, acked) := s.twStart addr false
      (if acked then s.twPutAll stretch bytes else s).twStop stop
    | none => if s.twServes false then (s.twPutAll stretch bytes).twStop stop else s.twStop stop

/-- WIN_MID_WRITE (R170): a byte written while the pointer is 0xF1. -/
def execWinMidWrite (value : Byte) (stop : Bool) (s : State) : Out :=
  .next <| s.when (!s.attnActive && s.htw.stretch.isNone && s.twServes false && !s.htw.fresh && s.htw.pointer == 0xF1) fun s =>
    (s.twPut value false).twStop stop

/-- R173: GRANT2 fixes a grant. -/
def State.grant2 (s : State) : State × Byte :=
  let (l, g) := s.grant .htw s.htw.hmask
  let s := s.setHtw { s.htw with grant := some l, grantWord := g, streamed := 0 }
  (s, BitVec.ofNat 8 (128 * bits g 30 1 + 64 * bits g 31 1 + 16 * bits g 26 2 + bits g 16 1))

/-- R175 to R178: a byte of the stream with its acknowledge bit; with a word's fourth byte the word is consumed. A byte whose
acknowledge bit is cut off is BUS_PROTO's (R183). Where the serial port has opened or consumed what GRANT2 granted, STREAM
reads 0x00 and consumes nothing (DESIGN CHOICE, log entry 109). -/
def State.streamByte (s : State) : State × Byte :=
  match s.htw.grant with
  | some (c :: rest) =>
    if (s.cls c).openTo = some .hsp then (s, 0)
    else
      match (s.cls c).nextWord with
      | none => (s, 0)
      | some w =>
        let k := s.htw.streamed
        if k < 3 then (s.setHtw { s.htw with streamed := k + 1 }, topByte w k)
        else
          let s := ((s.attnSync.consumeWord .htw c).creditsBack).attnSync
          (s.setHtw { s.htw with streamed := 0, grant := some rest }, topByte w 3)
  | _ => (s, 0)

/-- R171 to R177: a control byte read. A staged WIN_HI or WIN_LO reads as it was written (DESIGN CHOICE, log entry 108). -/
def State.twControlRead (s : State) (p : Nat) : State × Byte :=
  let n := fun (v : Nat) => (s, BitVec.ofNat 8 v)
  let h := s.htw
  match p with
  | 0xF0 => n h.hi
  | 0xF1 => n h.mid
  | 0xF2 => n (s.statusByte h.err)
  | 0xF3 => n (s.get 0 F.HTW_LASTERR_CODE % 256)
  | 0xF4 => n h.hmask
  | 0xF5 => s.grant2
  | 0xF6 => n (bits h.grantWord 8 8)
  | 0xF7 => n (bits h.grantWord 0 8)
  | 0xF8 => s.streamByte
  | 0xF9 => let s := s.attnSync; (s, BitVec.ofNat 8 (s.get 0 F.HTW_STAT_ATTN_PEND))
  | 0xFA => n h.lo
  | _ => n 0

/-- R167: a window byte read at pointer `p`: the register is read with the first byte of its word that the transfer sends. -/
def State.twWindowRead (s : State) (p : Nat) : State × Byte :=
  let a := s.twAddr p
  let s := if (Store.find? s.htw.rbuf a).isSome then s else s.twGetWord a
  (s, topByte (Store.get s.htw.rbuf a 0) p)

/-- R161, R169, R181: a byte read at the pointer. -/
def State.twGet (s : State) : State :=
  let p := s.htw.pointer
  let (s, b) :=
    if s.htw.dead then (s, 0)
    else if !s.ready && p != 0xF2 && p != 0xF3 then (s.twCode 0x0101, 0)
    else if p < 0xF0 then s.twWindowRead p
    else s.twControlRead p
  (s.setHtw { s.htw with out := s.htw.out ++ [b] }).twNext true

def State.twGetAll (s : State) : Nat → State
  | 0 => s
  | n + 1 => s.twGet.twGetAll n

/-- R169: the next byte begins a window word that is not ready. -/
def State.twHold (s : State) (stretch : Bool) : State :=
  let p := s.htw.pointer
  if stretch && s.ready && !s.htw.dead && decide (p < 0xF0) then
    s.setHtw { s.htw with stretch := some (.read (s.twAddr p)) }
  else s

/-- TW_READ_TRANSFER (R160 to R178): bytes of a read, after a START and the address it carries where `start` gives one. -/
def execTwReadTransfer (start : Option Nat) (count : Nat) (stretch stop : Bool) (s : State) : Out :=
  .next <| s.when (!s.attnActive && s.htw.stretch.isNone) fun s =>
    match start with
    | some addr =>
      let (s, acked) := s.twStart addr true
      (if acked then (s.twGetAll count).twHold stretch else s).twStop stop
    | none => if s.twServes true then ((s.twGetAll count).twHold stretch).twStop stop else s.twStop stop

/-- A read transfer in progress whose pointer is `p`. -/
def State.twReadsAt (s : State) (p : Nat) : Bool :=
  !s.attnActive && s.htw.stretch.isNone && s.twServes true && s.htw.pointer == p

/-- GRANT2_READ (R173). -/
def execGrant2Read (stop : Bool) (s : State) : Out :=
  .next <| s.when (s.twReadsAt 0xF5) fun s => s.twGet.twStop stop

/-- STREAM_READ (R175 to R178). -/
def execStreamRead (stop : Bool) (s : State) : Out :=
  .next <| s.when (s.twReadsAt 0xF8) fun s => s.twGet.twStop stop

/-- QUICK_COMMAND (R159): acknowledged like any address, and without effect beyond the bus and a transfer that it ends. -/
def execQuickCommand (addr : Nat) (read : Bool) (s : State) : Out :=
  .next <| s.when (!s.attnActive && s.htw.stretch.isNone) fun s =>
    if s.htw.busy then ((s.twStart addr read).1).twEnd
    else
      let (t, acked) := s.twStart addr read
      if acked then t.setHtw { s.htw with busFree := false } else t

/-- TW_STRETCH_RELEASE (R169): the access completes. -/
def execTwStretchRelease (s : State) : Out :=
  .next <|
    let t := s.setHtw { s.htw with stretch := none }
    match s.htw.stretch with
    | some (.write a w) => t.twPutWord a w
    | some (.read a) => t.twGetWord a
    | none => s

/-- TW_STRETCH_TIMEOUT (R169): a read sends 0x00 for the rest of its transfer. A written word behind the stretch is dropped for
good (DESIGN CHOICE, log entry 143). -/
def execTwStretchTimeout (s : State) : Out :=
  .next <|
    match s.htw.stretch with
    | some (.write _ _) => (s.setHtw { s.htw with stretch := none }).twCode 0x0107
    | some (.read _) => (s.setHtw { s.htw with stretch := none, dead := true }).twCode 0x0107
    | none => s

/-- R183 to R185: the transfer is aborted with a code; the word being assembled is discarded. -/
def State.twAbort (s : State) (code : Nat) : State := if s.htw.busy then ((s.twCode code).twDrop).twEnd else s

/-- BUS_PROTO (R183). The byte whose acknowledge bit was due is part of this command: it is neither written nor, of a stream
word, acknowledged. A START begins a new transfer, whose address and bytes are commands of their own. -/
def execBusProto (start : Bool) (s : State) : Out :=
  .next <| s.when s.htw.busy fun s =>
    let s := (s.countUp 0 F.HTW_CNT_PROTO_COUNT F.HTW_CNT_PROTO_OVF 1).raise 0 0x07 2
    let s := s.twAbort 0x0109
    if start then s.setHtw { s.htw with busFree := false } else s

/-- The attention in progress is over: CTRL and ATTEMPT read 0. -/
def State.attnOver (s : State) : State :=
  let s := s.setHtw { s.htw with attn := none, backoff := false, depth := none }
  (s.set 0 F.HTW_STAT_CTRL 0).set 0 F.HTW_STAT_ATTEMPT 0

/-- R188: the cause of the attention in progress stops being pending. -/
def State.attnDrop (s : State) : State :=
  match s.htw.attn with
  | some c => s.attnSync.setBit 0 F.HTW_STAT_ATTN_PEND (c - 1) false
  | none => s

/-- R184, R185, R189: a write transfer of the device as controller is rejected with a code. -/
def State.attnReject (s : State) (code : Nat) : State :=
  (((s.setHtw { s.htw with err := true }).set 0 F.HTW_LASTERR_CODE code).err 0 0x07 code).raise 0 0x07 0

/-- R184, R185, R198: a low-time timeout ends what the port does on the bus, and is recorded on an idle bus too. -/
def State.lowTimeout (s : State) (flag : Fld) (evt code : Nat) : State :=
  let s := ((s.set 0 flag 1).raise 0 0x07 evt)
  let s :=
    if s.htw.busy then s.twAbort code
    else if s.attnActive then (s.attnReject code).attnOver
    else s.err 0 0x07 code
  s.setHtw { s.htw with busFree := false }

/-- SCL_LOW (R184, R187). -/
def execSclLow (s : State) : Out :=
  .next <| s.when (s.twOn && s.htw.stretch.isNone) fun s => s.lowTimeout F.HTW_STAT_SCL_LOW 3 0x010A

/-- SDA_LOW (R185). -/
def execSdaLow (s : State) : Out := .next <| s.when s.twOn fun s => s.lowTimeout F.HTW_STAT_SDA_LOW 4 0x010B

/-- BUS_FREE (R186). -/
def execBusFree (s : State) : Out :=
  .next <| s.when (!s.attnActive) fun s => s.setHtw { s.htw with busFree := true }

/-- R188: the pending cause with the highest code. -/
def topCause (pend : Nat) : Option Nat := [5, 4, 3, 2, 1].find? (fun c => pend.testBit (c - 1))

/-- R189, R193: an attempt begins: the device is controller. -/
def State.attempt (s : State) (cause n : Nat) : State :=
  let s := s.setHtw { s.htw with attn := some cause, backoff := false, depth := none, busFree := false }
  (s.set 0 F.HTW_STAT_CTRL 1).set 0 F.HTW_STAT_ATTEMPT n

/-- R190: the hamper depth that byte 3 takes. -/
def State.attnDepth (s : State) : Nat := min 65535 s.fill

/-- ATTENTION_START (R188 to R190): the device begins the write; with `depth`, byte 3 of the write in progress starts. -/
def execAttentionStart (depth : Bool) (s : State) : Out :=
  .next <|
    if depth then s.when (s.attnActive && s.htw.depth.isNone) fun s => s.setHtw { s.htw with depth := some s.attnDepth }
    else s.when (s.awake && s.htw.attn.isNone && !s.htw.busy && s.htw.busFree) fun s =>
      let s := s.attnSync
      match topCause (s.get 0 F.HTW_STAT_ATTN_PEND) with
      | some c => s.attempt c 1
      | none => s

/-- R189, R190: the bytes of the write, its address byte first. Where no command told when byte 3 started, it starts now. -/
def State.attnBytes (s : State) (cause : Nat) : List Nat :=
  let depth := s.htw.depth.getD s.attnDepth
  [2 * s.get 0 F.HTW_HOSTADDR_ADDR, 2 * s.get 0 F.HTW_STAT_OWN_ADDR, cause, depth / 256, depth % 256]

/-- ATTN_SENT (R191). -/
def execAttnSent (s : State) : Out :=
  .next <| s.when s.attnActive fun s =>
    match s.htw.attn with
    | some c => ((s.attnDrop.setHtw { s.attnDrop.htw with sent := s.attnBytes c }).raise 0 0x07 7).attnOver
    | none => s

/-- R195: a lost attempt: the device backs off, or abandons the attention after the eighth. -/
def State.attnLost (s : State) : State :=
  if 8 ≤ s.get 0 F.HTW_STAT_ATTEMPT then
    let s := (s.attnDrop.err 0 0x07 0x010D).set 0 F.HTW_LASTERR_CODE 0x010D
    (s.raise 0 0x07 8).attnOver
  else (s.setHtw { s.htw with backoff := true }).set 0 F.HTW_STAT_CTRL 0

/-- ATTN_NACK (R192). -/
def execAttnNack (s : State) : Out := .next <| s.when s.attnActive fun s => (s.raise 0 0x07 5).attnLost

/-- ARB_LOST (R193 to R196): with `own` the winner's address is the device's, which serves that transfer. -/
def execArbLost (edge own read : Bool) (s : State) : Out :=
  .next <| s.when s.attnActive fun s =>
    let s := (s.countUp 0 F.HTW_CNT_ARB_COUNT F.HTW_CNT_ARB_OVF 1).raise 0 0x07 5
    if edge && s.flag 0 F.HTW_CFG_ARB_MODE then
      let s := (s.attnDrop.err 0 0x07 0x010C).set 0 F.HTW_LASTERR_CODE 0x010C
      (s.raise 0 0x07 6).attnOver
    else
      let s := s.attnLost
      if own && !edge then (s.twStart (s.get 0 F.HTW_STAT_OWN_ADDR) read).1 else s

/-- ATTN_BACKOFF_END (R195). A sleep leaves the attempt number as it is (DESIGN CHOICE, log entry 144). -/
def execAttnBackoffEnd (s : State) : Out :=
  .next <| s.when (s.awake && s.htw.backoff && s.htw.busFree && !s.htw.busy) fun s =>
    match s.htw.attn with
    | some c => s.attempt c (s.get 0 F.HTW_STAT_ATTEMPT + 1)
    | none => s

/-- TW_ADDRESS_WAKE (R179, R180): the address that wakes the device is not acknowledged. -/
def execTwAddressWake (s : State) : Out :=
  .next <| s.when (decide (s.device = .deepSleep ∨ s.device = .watch) && !s.power.waking) fun s =>
    ((s.wakeBy 6 0).setHtw { s.htw with busFree := false }).countUp 0 F.HTW_CNT_WAKENACK_COUNT F.HTW_CNT_WAKENACK_OVF 1

end Sys2Proof.Machine
end

