-- ==== Sys2Proof/Machine/Pins.lean ====
section
/-! DEFINITION. The general-purpose pins (chapter 21): edges of the inputs, and how each pin is driven. -/

namespace Sys2Proof.Machine

/-- GPP_EDGE (R803, R804): an input whose level differs from the last cycle's is an edge. -/
def execGppEdge (pin : Nat) (level : Bool) (s : State) : Out :=
  .next <| s.when (s.awake && decide (pin < 8)) fun s =>
    if (s.get 0 F.GPP_IN_LEVEL).testBit pin = level then s
    else (s.setBit 0 F.GPP_IN_LEVEL pin level).raise 0 0x16 (if level then pin else 8 + pin)

/-- How a pin is driven (R801). -/
inductive PinDrive where
  | released (pullUp pullDown : Bool)
  | low
  | high
  deriving DecidableEq, Repr

/-- R801: the drive of GP pin `k` under those words. -/
def gpDrive (l : List Word) (k : Nat) : PinDrive :=
  let w := fun (i : Nat) => (l[i]?).getD 0
  if !bit (w 0) 0 then .released false false
  else if bit (w 1) k && !(bit (w 3) k && bit (w 2) k) then (if bit (w 2) k then .high else .low)
  else .released (bit (w 3) (16 + k)) (bit (w 3) (8 + k))

/-- R673, R801: the drive of a GP pin. -/
def State.gpPin (s : State) (k : Nat) : PinDrive := gpDrive s.gpWords k

end Sys2Proof.Machine
end

