-- ==== Sys2Proof/Machine/Dispatch.lean ====
section
/-! DEFINITION. One arm per command of the opcode table, in its order. -/

namespace Sys2Proof.Machine

/-- The effect of a command on everything but the queue. -/
def exec (i : Instr) (s : State) : Host.Outcome State Fault Refusal :=
  match i with
  | .seamBadCrc seam cw again => Sys2Proof.Machine.execSeamBadCrc seam cw again s
  | .seamWatchdog seam cw => Sys2Proof.Machine.execSeamWatchdog seam cw s
  | .seamIdleWord seam cw => Sys2Proof.Machine.execSeamIdleWord seam cw s
  | .seamRegisterAccess die tag write offset data => Sys2Proof.Machine.execSeamRegisterAccess die tag write offset data s
  | .recordWordArrival die xfer => Sys2Proof.Machine.execRecordWordArrival die xfer s
  | .seamRetrainStart seam => Sys2Proof.Machine.execSeamRetrainStart seam s
  | .seamRetrainEnd seam pass => Sys2Proof.Machine.execSeamRetrainEnd seam pass s
  | .seamRestored seam => Sys2Proof.Machine.execSeamRestored seam s
  | .dieSeamSilence die => Sys2Proof.Machine.execDieSeamSilence die s
  | .dieAnchorSilence die => Sys2Proof.Machine.execDieAnchorSilence die s
  | .anchorKeepAlive die => Sys2Proof.Machine.execAnchorKeepAlive die s
  | .rejoin die reachable => Sys2Proof.Machine.execRejoin die reachable s
  | .dieRejoined die => Sys2Proof.Machine.execDieRejoined die s
  | .carrierUnlock die => Sys2Proof.Machine.execCarrierUnlock die s
  | .carrierRelock die => Sys2Proof.Machine.execCarrierRelock die s
  | .timeLoad die offset late => Sys2Proof.Machine.execTimeLoad die offset late s
  | .realigned => Sys2Proof.Machine.execRealigned s
  | .tbsMeasUpdate count => Sys2Proof.Machine.execTbsMeasUpdate count s
  | .tbsAlmHiWrite alarm hi => Sys2Proof.Machine.execTbsAlmHiWrite alarm hi s
  | .alarmFire alarm => Sys2Proof.Machine.execAlarmFire alarm s
  | .pgCtrlEn die page value => Sys2Proof.Machine.execPgCtrlEn die page value s
  | .pgCtrlDrain die page value => Sys2Proof.Machine.execPgCtrlDrain die page value s
  | .pgCtrlCommit die page => Sys2Proof.Machine.execPgCtrlCommit die page s
  | .pgCtrlTest die page => Sys2Proof.Machine.execPgCtrlTest die page s
  | .pgCtrlLock die page => Sys2Proof.Machine.execPgCtrlLock die page s
  | .pageReady die page fault => Sys2Proof.Machine.execPageReady die page fault s
  | .pageDrainEnd die page => Sys2Proof.Machine.execPageDrainEnd die page s
  | .commitTakeEffect die page port => Sys2Proof.Machine.execCommitTakeEffect die page port s
  | .pgEvtClear die page value raised => Sys2Proof.Machine.execPgEvtClear die page value raised s
  | .pgFirsterrClear die page value same => Sys2Proof.Machine.execPgFirsterrClear die page value same s
  | .registerWrite addr value => Sys2Proof.Machine.execRegisterWrite addr value s
  | .windowWrite addr value => Sys2Proof.Machine.execWindowWrite addr value s
  | .status mode3 clocks more => Sys2Proof.Machine.execStatus mode3 clocks more s
  | .read addr mode3 fast clocks ready ahead => Sys2Proof.Machine.execRead addr mode3 fast clocks ready ahead s
  | .write addr data mode3 clocks => Sys2Proof.Machine.execWrite addr data mode3 clocks s
  | .writeCommit addr data mode3 clocks => Sys2Proof.Machine.execWriteCommit addr data mode3 clocks s
  | .hamperRead mask mode3 fast clocks ready => Sys2Proof.Machine.execHamperRead mask mode3 fast clocks ready s
  | .wake mode3 clocks => Sys2Proof.Machine.execWake mode3 clocks s
  | .profileLoad addr mode3 clocks => Sys2Proof.Machine.execProfileLoad addr mode3 clocks s
  | .softReset key0 key1 mode3 clocks => Sys2Proof.Machine.execSoftReset key0 key1 mode3 clocks s
  | .unknownCmd cmd mode3 clocks => Sys2Proof.Machine.execUnknownCmd cmd mode3 clocks s
  | .tokenReady clocks ahead => Sys2Proof.Machine.execTokenReady clocks ahead s
  | .readTimeout clocks => Sys2Proof.Machine.execReadTimeout clocks s
  | .hselWake => Sys2Proof.Machine.execHselWake s
  | .twWriteTransfer start bytes stretch stop => Sys2Proof.Machine.execTwWriteTransfer start bytes stretch stop s
  | .twReadTransfer start count stretch stop => Sys2Proof.Machine.execTwReadTransfer start count stretch stop s
  | .quickCommand addr read => Sys2Proof.Machine.execQuickCommand addr read s
  | .winMidWrite value stop => Sys2Proof.Machine.execWinMidWrite value stop s
  | .grant2Read stop => Sys2Proof.Machine.execGrant2Read stop s
  | .streamRead stop => Sys2Proof.Machine.execStreamRead stop s
  | .twStretchRelease => Sys2Proof.Machine.execTwStretchRelease s
  | .twStretchTimeout => Sys2Proof.Machine.execTwStretchTimeout s
  | .busProto start => Sys2Proof.Machine.execBusProto start s
  | .sclLow => Sys2Proof.Machine.execSclLow s
  | .sdaLow => Sys2Proof.Machine.execSdaLow s
  | .busFree => Sys2Proof.Machine.execBusFree s
  | .attentionStart depth => Sys2Proof.Machine.execAttentionStart depth s
  | .attnSent => Sys2Proof.Machine.execAttnSent s
  | .attnNack => Sys2Proof.Machine.execAttnNack s
  | .arbLost edge own read => Sys2Proof.Machine.execArbLost edge own read s
  | .attnBackoffEnd => Sys2Proof.Machine.execAttnBackoffEnd s
  | .twAddressWake => Sys2Proof.Machine.execTwAddressWake s
  | .sliceEnergise die slice late => Sys2Proof.Machine.execSliceEnergise die slice late s
  | .rampUpEnd die slice => Sys2Proof.Machine.execRampUpEnd die slice s
  | .rampDownEnd die slice => Sys2Proof.Machine.execRampDownEnd die slice s
  | .guardEnd die slice => Sys2Proof.Machine.execGuardEnd die slice s
  | .overcurrent die slice => Sys2Proof.Machine.execOvercurrent die slice s
  | .openLoad die slice => Sys2Proof.Machine.execOpenLoad die slice s
  | .sliceStartCheck die slice pass => Sys2Proof.Machine.execSliceStartCheck die slice pass s
  | .senseInterval die slice pwr headroom ampl detune => Sys2Proof.Machine.execSenseInterval die slice pwr headroom ampl detune s
  | .cwStart die slice => Sys2Proof.Machine.execCwStart die slice s
  | .cwStop die slice => Sys2Proof.Machine.execCwStop die slice s
  | .cwTimeout die slice => Sys2Proof.Machine.execCwTimeout die slice s
  | .phaseCommand die slice phase late => Sys2Proof.Machine.execPhaseCommand die slice phase late s
  | .fcoRun value => Sys2Proof.Machine.execFcoRun value s
  | .fcoAbort value => Sys2Proof.Machine.execFcoAbort value s
  | .candidateAgeing order => Sys2Proof.Machine.execCandidateAgeing order s
  | .roundStart plan late => Sys2Proof.Machine.execRoundStart plan late s
  | .thermalSample temps => Sys2Proof.Machine.execThermalSample temps s
  | .vsupWindowEnd vsup => Sys2Proof.Machine.execVsupWindowEnd vsup s
  | .vsupIdleRequest => Sys2Proof.Machine.execVsupIdleRequest s
  | .dieWakeLead plan => Sys2Proof.Machine.execDieWakeLead plan s
  | .dieDozeReturn die => Sys2Proof.Machine.execDieDozeReturn die s
  | .listenerWithdraw die port listener late => Sys2Proof.Machine.execListenerWithdraw die port listener late s
  | .neighbourTermSwitch die port entry late => Sys2Proof.Machine.execNeighbourTermSwitch die port entry late s
  | .settleEnd die port => Sys2Proof.Machine.execSettleEnd die port s
  | .txFrameEnd die port resid => Sys2Proof.Machine.execTxFrameEnd die port resid s
  | .replyStart die port fdt ampl angle => Sys2Proof.Machine.execReplyStart die port fdt ampl angle s
  | .replyEnd die port data nbits parityOk collision sat => Sys2Proof.Machine.execReplyEnd die port data nbits parityOk collision sat s
  | .responseWindowEnd die port sat => Sys2Proof.Machine.execResponseWindowEnd die port sat s
  | .retryStart die port => Sys2Proof.Machine.execRetryStart die port s
  | .eofReqSend die port => Sys2Proof.Machine.execEofReqSend die port s
  | .activateNextCommand die port => Sys2Proof.Machine.execActivateNextCommand die port s
  | .fieldHoldExpiry die port => Sys2Proof.Machine.execFieldHoldExpiry die port s
  | .xenHoldEnd die value => Sys2Proof.Machine.execXenHoldEnd die value s
  | .streamGap die port listener => Sys2Proof.Machine.execStreamGap die port listener s
  | .invSlotEof die port => Sys2Proof.Machine.execInvSlotEof die port s
  | .separationSolveEnd die port slot eigen replies => Sys2Proof.Machine.execSeparationSolveEnd die port slot eigen replies s
  | .probeDue die port => Sys2Proof.Machine.execProbeDue die port s
  | .probeEnd die port ampl detune => Sys2Proof.Machine.execProbeEnd die port ampl detune s
  | .watchAbsorb die port => Sys2Proof.Machine.execWatchAbsorb die port s
  | .watchTempSample die temp => Sys2Proof.Machine.execWatchTempSample die temp s
  | .rxRssiDetect rssi => Sys2Proof.Machine.execRxRssiDetect rssi s
  | .rxPreambleQualified => Sys2Proof.Machine.execRxPreambleQualified s
  | .rxDetectTimeout symbols rssi => Sys2Proof.Machine.execRxDetectTimeout symbols rssi s
  | .rxSfdFound rssi => Sys2Proof.Machine.execRxSfdFound rssi s
  | .rxSfdTimeout => Sys2Proof.Machine.execRxSfdTimeout s
  | .rxFreeSfd => Sys2Proof.Machine.execRxFreeSfd s
  | .rxCapture rssi ownWord => Sys2Proof.Machine.execRxCapture rssi ownWord s
  | .rxAgcRerunEnd rssi step => Sys2Proof.Machine.execRxAgcRerunEnd rssi step s
  | .rxHeaderEnd header fofs => Sys2Proof.Machine.execRxHeaderEnd header fofs s
  | .rxPayloadEnd payload => Sys2Proof.Machine.execRxPayloadEnd payload s
  | .rssiUpdate rssi step => Sys2Proof.Machine.execRssiUpdate rssi step s
  | .maskMeasure below => Sys2Proof.Machine.execMaskMeasure below s
  | .radioCmdSleep => Sys2Proof.Machine.execRadioCmdSleep s
  | .radioCmdStandby => Sys2Proof.Machine.execRadioCmdStandby s
  | .radioCmdSynth channel => Sys2Proof.Machine.execRadioCmdSynth channel s
  | .radioCmdRx channel => Sys2Proof.Machine.execRadioCmdRx channel s
  | .radioCmdTx after pri template channel ticket => Sys2Proof.Machine.execRadioCmdTx after pri template channel ticket s
  | .radioCmdCal channel => Sys2Proof.Machine.execRadioCmdCal channel s
  | .radioCmdCalAll => Sys2Proof.Machine.execRadioCmdCalAll s
  | .radioCmdFlush => Sys2Proof.Machine.execRadioCmdFlush s
  | .radioCmdStart => Sys2Proof.Machine.execRadioCmdStart s
  | .radioStateReached => Sys2Proof.Machine.execRadioStateReached s
  | .txCreditReserved => Sys2Proof.Machine.execTxCreditReserved s
  | .txRampStart => Sys2Proof.Machine.execTxRampStart s
  | .txSynthDeadline => Sys2Proof.Machine.execTxSynthDeadline s
  | .synthLockLoss => Sys2Proof.Machine.execSynthLockLoss s
  | .txLastChip => Sys2Proof.Machine.execTxLastChip s
  | .hopCalEnd entry temp band gain => Sys2Proof.Machine.execHopCalEnd entry temp band gain s
  | .cxgntAssert => Sys2Proof.Machine.execCxgntAssert s
  | .coexGrantTimeout => Sys2Proof.Machine.execCoexGrantTimeout s
  | .cxgntWithdraw => Sys2Proof.Machine.execCxgntWithdraw s
  | .dutyClockSecond => Sys2Proof.Machine.execDutyClockSecond s
  | .secKeyLoad slot => Sys2Proof.Machine.execSecKeyLoad slot s
  | .secKeyErase slot => Sys2Proof.Machine.execSecKeyErase slot s
  | .pleStart list => Sys2Proof.Machine.execPleStart list s
  | .pleStop list => Sys2Proof.Machine.execPleStop list s
  | .plePeriodDue list => Sys2Proof.Machine.execPlePeriodDue list s
  | .pleEnd list => Sys2Proof.Machine.execPleEnd list s
  | .pleWait list => Sys2Proof.Machine.execPleWait list s
  | .pleWaitEnd list => Sys2Proof.Machine.execPleWaitEnd list s
  | .pleMovi list => Sys2Proof.Machine.execPleMovi list s
  | .pleMovw list => Sys2Proof.Machine.execPleMovw list s
  | .pleLoad list => Sys2Proof.Machine.execPleLoad list s
  | .pleStore list => Sys2Proof.Machine.execPleStore list s
  | .pleAdd list => Sys2Proof.Machine.execPleAdd list s
  | .pleSub list => Sys2Proof.Machine.execPleSub list s
  | .pleScale list => Sys2Proof.Machine.execPleScale list s
  | .pleExt list => Sys2Proof.Machine.execPleExt list s
  | .pleIir list => Sys2Proof.Machine.execPleIir list s
  | .pleMedian5 list => Sys2Proof.Machine.execPleMedian5 list s
  | .pleMean list => Sys2Proof.Machine.execPleMean list s
  | .pleCmph list => Sys2Proof.Machine.execPleCmph list s
  | .pleWindow list => Sys2Proof.Machine.execPleWindow list s
  | .pleTime list => Sys2Proof.Machine.execPleTime list s
  | .pleBranch list => Sys2Proof.Machine.execPleBranch list s
  | .pleEmit list => Sys2Proof.Machine.execPleEmit list s
  | .pleEmitCredit list => Sys2Proof.Machine.execPleEmitCredit list s
  | .pleRaise list => Sys2Proof.Machine.execPleRaise list s
  | .pleTrig list => Sys2Proof.Machine.execPleTrig list s
  | .pleSpi list => Sys2Proof.Machine.execPleSpi list s
  | .pleSpiDone list => Sys2Proof.Machine.execPleSpiDone list s
  | .pleListen list => Sys2Proof.Machine.execPleListen list s
  | .pleListenDone list => Sys2Proof.Machine.execPleListenDone list s
  | .pleAdc list => Sys2Proof.Machine.execPleAdc list s
  | .pleAdcDone list volts => Sys2Proof.Machine.execPleAdcDone list volts s
  | .pleTag list => Sys2Proof.Machine.execPleTag list s
  | .pleTagDone list => Sys2Proof.Machine.execPleTagDone list s
  | .pleRadio list => Sys2Proof.Machine.execPleRadio list s
  | .pleRadioDone list => Sys2Proof.Machine.execPleRadioDone list s
  | .pleVariableWrite n value => Sys2Proof.Machine.execPleVariableWrite n value s
  | .pleVvalidClear hi value => Sys2Proof.Machine.execPleVvalidClear hi value s
  | .pleRaiseClear value => Sys2Proof.Machine.execPleRaiseClear value s
  | .sscQpush tag buf template => Sys2Proof.Machine.execSscQpush tag buf template s
  | .sscEntryStart input => Sys2Proof.Machine.execSscEntryStart input s
  | .sscEntryEnd => Sys2Proof.Machine.execSscEntryEnd s
  | .sscDonePop => Sys2Proof.Machine.execSscDonePop s
  | .slselAssert level ticks => Sys2Proof.Machine.execSlselAssert level ticks s
  | .listenerWord sldi start => Sys2Proof.Machine.execListenerWord sldi start s
  | .slselRelease level ticks => Sys2Proof.Machine.execSlselRelease level ticks s
  | .selStuck => Sys2Proof.Machine.execSelStuck s
  | .listenerReserve => Sys2Proof.Machine.execListenerReserve s
  | .safReq count ch => Sys2Proof.Machine.execSafReq count ch s
  | .safConvDone volts => Sys2Proof.Machine.execSafConvDone volts s
  | .comparatorStrobe k level => Sys2Proof.Machine.execComparatorStrobe k level s
  | .creditMismatch cls found => Sys2Proof.Machine.execCreditMismatch cls found s
  | .systemRecordWrite => Sys2Proof.Machine.execSystemRecordWrite s
  | .hmpMark value => Sys2Proof.Machine.execHmpMark value s
  | .tktOpNone => Sys2Proof.Machine.execTktOpNone s
  | .tktOpWrite => Sys2Proof.Machine.execTktOpWrite s
  | .tktOpInsert => Sys2Proof.Machine.execTktOpInsert s
  | .tktOpDelete => Sys2Proof.Machine.execTktOpDelete s
  | .tktOpLookup => Sys2Proof.Machine.execTktOpLookup s
  | .tktSnapSave => Sys2Proof.Machine.execTktSnapSave s
  | .tktSnapSaveEnd ok bucket code => Sys2Proof.Machine.execTktSnapSaveEnd ok bucket code s
  | .tktSnapLoad => Sys2Proof.Machine.execTktSnapLoad s
  | .tktSnapLoadEnd crcOk => Sys2Proof.Machine.execTktSnapLoadEnd crcOk s
  | .icuClaim target others fetch => Sys2Proof.Machine.execIcuClaim target others fetch s
  | .icuComplete target slot => Sys2Proof.Machine.execIcuComplete target slot s
  | .icuSrcWrite source value => Sys2Proof.Machine.execIcuSrcWrite source value s
  | .icuTargetCfgWrite target value => Sys2Proof.Machine.execIcuTargetCfgWrite target value s
  | .icuModgapEnd target => Sys2Proof.Machine.execIcuModgapEnd target s
  | .icuLevelChange source => Sys2Proof.Machine.execIcuLevelChange source s
  | .icuSleepLatch source bit => Sys2Proof.Machine.execIcuSleepLatch source bit s
  | .sleepDeepRequest => Sys2Proof.Machine.execSleepDeepRequest s
  | .sleepWatchRequest => Sys2Proof.Machine.execSleepWatchRequest s
  | .entryTimeout => Sys2Proof.Machine.execEntryTimeout s
  | .sleepPrepare => Sys2Proof.Machine.execSleepPrepare s
  | .sleepCommit => Sys2Proof.Machine.execSleepCommit s
  | .wakePinAssert high periods => Sys2Proof.Machine.execWakePinAssert high periods s
  | .wakeDomainReady die front found => Sys2Proof.Machine.execWakeDomainReady die front found s
  | .wakeComplete gp => Sys2Proof.Machine.execWakeComplete gp s
  | .padRelease value => Sys2Proof.Machine.execPadRelease value s
  | .keepRun die => Sys2Proof.Machine.execKeepRun die s
  | .dieOffIdle die => Sys2Proof.Machine.execDieOffIdle die s
  | .srlSet value origin => Sys2Proof.Machine.execSrlSet value origin s
  | .srlStepUp value => Sys2Proof.Machine.execSrlStepUp value s
  | .srlStepDown value => Sys2Proof.Machine.execSrlStepDown value s
  | .srlQuery => Sys2Proof.Machine.execSrlQuery s
  | .srlFrameStart => Sys2Proof.Machine.execSrlFrameStart s
  | .srlAck => Sys2Proof.Machine.execSrlAck s
  | .srlNoack => Sys2Proof.Machine.execSrlNoack s
  | .powerOn iosel => Sys2Proof.Machine.execPowerOn iosel s
  | .vsupLoss torn => Sys2Proof.Machine.execVsupLoss torn s
  | .vsupDip => Sys2Proof.Machine.execVsupDip s
  | .nrstLow => Sys2Proof.Machine.execNrstLow s
  | .coreRailReset => Sys2Proof.Machine.execCoreRailReset s
  | .resetEnd prof twa => Sys2Proof.Machine.execResetEnd prof twa s
  | .memoryTestEnd faults => Sys2Proof.Machine.execMemoryTestEnd faults s
  | .startupReady seams badSets => Sys2Proof.Machine.execStartupReady seams badSets s
  | .calReqSlice die mask => Sys2Proof.Machine.execCalReqSlice die mask s
  | .calReqSpare die mask => Sys2Proof.Machine.execCalReqSpare die mask s
  | .calReqDie die => Sys2Proof.Machine.execCalReqDie die s
  | .calReqAnchor => Sys2Proof.Machine.execCalReqAnchor s
  | .calReqAll => Sys2Proof.Machine.execCalReqAll s
  | .dieTempUpdate die temp => Sys2Proof.Machine.execDieTempUpdate die temp s
  | .calRunEnd target refv refres temp values => Sys2Proof.Machine.execCalRunEnd target refv refres temp values s
  | .calMaxdeferExpiry target => Sys2Proof.Machine.execCalMaxdeferExpiry target s
  | .anchorCalStart => Sys2Proof.Machine.execAnchorCalStart s
  | .hopCalBackground entry => Sys2Proof.Machine.execHopCalBackground entry s
  | .calSave => Sys2Proof.Machine.execCalSave s
  | .calAutosave => Sys2Proof.Machine.execCalAutosave s
  | .calSaveEnd ok => Sys2Proof.Machine.execCalSaveEnd ok s
  | .bstReqSlice die mask => Sys2Proof.Machine.execBstReqSlice die mask s
  | .bstReqDie die => Sys2Proof.Machine.execBstReqDie die s
  | .bstReqSeam mask => Sys2Proof.Machine.execBstReqSeam mask s
  | .bstReqRadio entry => Sys2Proof.Machine.execBstReqRadio entry s
  | .bstReqAnchor => Sys2Proof.Machine.execBstReqAnchor s
  | .bstReqAll => Sys2Proof.Machine.execBstReqAll s
  | .bstPeriodic => Sys2Proof.Machine.execBstPeriodic s
  | .testStart kind die unit => Sys2Proof.Machine.execTestStart kind die unit s
  | .testEnd kind die unit classes value cw => Sys2Proof.Machine.execTestEnd kind die unit classes value cw s
  | .drnSwapCmd die port slice => Sys2Proof.Machine.execDrnSwapCmd die port slice s
  | .drnUndarn die slice => Sys2Proof.Machine.execDrnUndarn die slice s
  | .darnSwapExecute die port => Sys2Proof.Machine.execDarnSwapExecute die port s
  | .darnMapWritten => Sys2Proof.Machine.execDarnMapWritten s
  | .netfaultClear die port => Sys2Proof.Machine.execNetfaultClear die port s
  | .nvsEraseSlot slot => Sys2Proof.Machine.execNvsEraseSlot slot s
  | .nvsRegLock key => Sys2Proof.Machine.execNvsRegLock key s
  | .nvsDebugLock key => Sys2Proof.Machine.execNvsDebugLock key s
  | .nvsWdataWrite value => Sys2Proof.Machine.execNvsWdataWrite value s
  | .nvsRdataRead fetch => Sys2Proof.Machine.execNvsRdataRead fetch s
  | .nvOpDone ok spares worn => Sys2Proof.Machine.execNvOpDone ok spares worn s
  | .devLoad slot => Sys2Proof.Machine.execDevLoad slot s
  | .profileCheckEnd => Sys2Proof.Machine.execProfileCheckEnd s
  | .profileDrainEnd => Sys2Proof.Machine.execProfileDrainEnd s
  | .profileLoadTimeout => Sys2Proof.Machine.execProfileLoadTimeout s
  | .profileCommit late => Sys2Proof.Machine.execProfileCommit late s
  | .gppEdge pin level => Sys2Proof.Machine.execGppEdge pin level s
  | .dozeToRun die => Sys2Proof.Machine.execDozeToRun die s
  | .turnaroundGapEnd die port => Sys2Proof.Machine.execTurnaroundGapEnd die port s
  | .phaseSlewEnd die slice => Sys2Proof.Machine.execPhaseSlewEnd die slice s

end Sys2Proof.Machine
end

