-- ==== Sys2Proof/Machine/Levels.lean ====
section
/-! DEFINITION. What the block shows outside, as functions of its state: the pins with a function (R235, R301, R489, R563,
R601, R602, R640, R675, R787), the terms that rinse subtracts (R314, R318), and the bits that a field sends (R364). -/

namespace Sys2Proof.Machine

/-- R235, R675: TXPn and TXNn of a slice are high impedance while its page is OFF, TESTING, FAULT or DARNED, while the
die's logic is off, and in sleep; a probe of the watch sequencer drives them for its ramps, burst and guard. -/
def State.txHighZ (s : State) (d sl : Nat) : Bool :=
  if s.sequenced d && s.get d (F.SLC_FSTAT_USER sl) == 2 && decide (1 ≤ s.fstate d sl ∧ s.fstate d sl ≤ 5) then
    false
  else !s.awake || s.pstate d == 0 || [0, 4, 5, 6].contains (s.pageState d (slcPage sl))

/-- What a driver does with its legs (R206). -/
inductive LegDrive where
  | highZ
  /-- Both legs are held low: OFF on a page that is ON or DRAINING (R224), or a pulse at DEPTH 100. -/
  | low
  /-- The carrier at a percentage of the unmodulated amplitude of the level in force; 0 while the slice is not energised. -/
  | carrier (percent : Nat)
  deriving DecidableEq, Repr

/-- R206: the driver of a slice, between and in the modulation pulses of a frame; a ramp follows its envelope from or to
this amplitude. -/
def State.legs (s : State) (d sl : Nat) (pulse : Bool) : LegDrive :=
  if s.txHighZ d sl then .highZ
  else if s.fstate d sl = 0 then .low
  else if !energisedState (s.fstate d sl) then .carrier 0
  else if pulse && s.fstate d sl == 3 then
    let depth := s.get d (F.SLC_APPLIED_DEPTH sl)
    if depth = 100 then .low else .carrier (100 - depth)
  else .carrier 100

/-- R154, R787: HSDO is high impedance while HSEL is high, without VSUP, in RESET, and in DEEP_SLEEP and WATCH; once the
falling edge of HSEL has begun a wake the status byte is shown (R146; DEDUCED, log entry 105). -/
def State.hsdoHighZ (s : State) (hselHigh : Bool) : Bool :=
  hselHigh || decide (s.device = .off ∨ s.device = .reset) ||
    (decide (s.device = .deepSleep ∨ s.device = .watch) && !s.power.waking)

/-- R785: the I/O rail in millivolts for a VSUP in millivolts. -/
def State.ioRail (s : State) (vsup : Nat) : Nat :=
  if s.rail33 then (if 3450 ≤ vsup then 3300 else vsup - 150) else 1800

/-- R548, R673: SSELn: none while DRIVE is 0, else its level; the select of the running entry is asserted during a transfer. -/
def State.sselPin (s : State) (n : Nat) (transfer : Bool) : Option Bool :=
  if !bit s.selWord (F.SSC_SELCFG_DRIVE.lo + n) then none
  else
    let high := bit s.selWord (F.SSC_SELCFG_POL.lo + n)
    some (if transfer && s.ssc.running && s.ssc.sel == some n then high else !high)

/-- R544: SSCK and SSDO in the two halves of each bit: with phase 0 the bit is there before the leading edge, which captures
it; with phase 1 the leading edge shifts it out and the trailing edge captures it. -/
def sckHalves (mode : Nat) (l : List Bool) : List (Bool × Bool) :=
  (l.map fun b =>
    let i := sckIdle mode
    if mode % 2 = 0 then [(i, b), (!i, b)] else [(!i, b), (i, b)]).flatten

/-- R543 to R547: SSCK and SSDO through each transfer of the running entry. -/
def State.sscLines (s : State) : List (List (Bool × Bool)) :=
  if s.ssc.running then s.ssc.sent.map (sckHalves s.ssc.mode) else []

/-- R675, R787: RF_IO is high impedance outside RX and TX. -/
def State.rfHighZ (s : State) : Bool := !(s.awake && (s.rstate == 4 || s.rstate == 5))

/-- The pins that show a condition of the block. -/
inductive OutPin where
  | irq (target : Nat)
  | flowA
  | flowU
  | slrdy
  | cxreq
  | cxpri
  | paen
  | lnaen
  deriving DecidableEq, Repr

/-- R787: in OFF and RESET every one of them is released or low; otherwise each shows its condition. IRQ, FLOWA and FLOWU
are never held in sleep (R641, R675), SLRDY is released in sleep (R568), and the radio pins rest low there (R489, R658).
PAEN is high in TX and LNAEN in RX (PRESUMED, log entry 165). -/
def State.asserted (s : State) (p : OutPin) : Bool :=
  !(s.device = .off ∨ s.device = .reset) &&
    match p with
    | .irq t => s.irqLine t
    | .flowA => s.hamper.flowA
    | .flowU => s.hamper.urgent
    | .slrdy => s.sslReady
    | .cxreq => s.flag 0 F.RFC_STAT_CXREQ
    | .cxpri => s.flag 0 F.RFC_STAT_CXREQ && s.radio.cxpri
    | .paen => s.rstate == 5
    | .lnaen => s.rstate == 4

/-- R301: the LO phase of a port: the output phase of its slice (R212) plus LO_OFS, in steps of 1.40625°. -/
def State.loPhase (s : State) (d p sl : Nat) : Nat :=
  (s.phaseOut d sl + s.get d (F.RCV_P_CFG_LO_OFS p)) % 256

/-- R314, R317, R318: the neighbour terms that the rinse of a port subtracts. -/
def State.rinseTerms (s : State) (d p : Nat) : List Nat :=
  if s.flag d (F.RCV_P_CFG_NBR_OFF p) then []
  else (List.range 4).filter fun k =>
    (s.get d (F.RCV_P_STAT_TERMS p)).testBit k && !(s.get d (F.RCV_P_STAT_STALE p)).testBit k

/-- R314, R318: the self term is subtracted while the port is energised and SELF_OFF is 0. -/
def State.rinseSelf (s : State) (d p sl : Nat) : Bool :=
  !s.flag d (F.RCV_P_CFG_SELF_OFF p) && decide (1 ≤ s.fstate d sl ∧ s.fstate d sl ≤ 4)

/-- R209: a raised-cosine envelope in 1/1000, at each twentieth of its time. -/
def raisedCosine : List Nat :=
  [0, 6, 24, 54, 95, 146, 206, 273, 345, 422, 500, 578, 655, 727, 794, 854, 905, 946, 976, 994, 1000]

/-- The amplitude of a source: on the way from that of the level `start` to that of the level `level`, `done` thousandths
of the way. -/
structure Envelope where
  start : Nat
  level : Nat
  done : Nat
  deriving DecidableEq, Repr

/-- R209, R210, R225: the amplitude of a slice's carrier as it stands: rising in RAMP_UP from nothing and falling in
RAMP_DOWN to nothing, and at ON moving to a new level over the up-ramp time. The times are value + 1 µs. -/
def State.envelope (s : State) (d sl : Nat) : Envelope :=
  let x := s.slice d sl
  let st := s.fstate d sl
  let time := usTicks (s.get d (if st = 4 then F.SLC_APPLIED_RAMP_DN sl else F.SLC_APPLIED_RAMP_UP sl) + 1)
  let done := (raisedCosine[(s.time - x.moveAt) * 20 / max 1 time]?).getD 1000
  if energisedState st then { start := x.moveFrom, level := if st = 4 then 0 else s.level d sl, done := done }
  else { start := 0, level := 0, done := 1000 }

/-- A term that rinse subtracts (R311): the coefficient (I + jQ) / 32,768, the source's amplitude as its envelope stands, in a
modulation pulse a percentage of it, the angle theta in steps of 1.40625°, and the attenuation in use in steps of 6 dB. Its
value is (I + jQ) / 32,768 × a × percent / 100 × e^(jθ), scaled by the attenuation, where a lies `done` thousandths of the
way from √(start / 1,000) to √(level / 1,000). -/
structure RinseTerm where
  i : Int
  q : Int
  a : Envelope
  percent : Nat
  theta : Nat
  att : Nat
  deriving DecidableEq, Repr

/-- R311, R306: the self term follows the port's own ramps and modulation pulses; its angle is 0. -/
def State.selfTerm (s : State) (d p sl : Nat) (pulse : Bool) : RinseTerm :=
  let c := s.coefficient d (0x108 + 0x40 * p)
  { i := c.1, q := c.2, a := s.envelope d sl,
    percent := if pulse && s.fstate d sl == 3 then 100 - s.get d (F.SLC_APPLIED_DEPTH sl) else 100,
    theta := 0, att := s.get d (F.RCV_P_STAT_ATT_USED p) }

/-- The slice that serves the source of a neighbour term. -/
def State.sourceSlice (s : State) (d p k : Nat) : Option (Nat × Nat) :=
  (s.adj (aerial d p) k).bind fun n => (s.servingSlice (portDie n) (portIx n)).map fun x => (portDie n, x)

/-- R319: the output phase of the source of a neighbour term, which its slew moves step by step; without a slice that serves
it, the target of its last sync event. -/
def State.sourcePhase (s : State) (d p k : Nat) : Nat :=
  match s.sourceSlice d p k with
  | some (e, x) => s.phaseOut e x
  | none => (s.term (aerial d p) k).2

/-- R319: the amplitude of a neighbour term: the source's envelope while it leads to the level that the last sync event
named, or down to nothing; else that level. -/
def State.sourceEnvelope (s : State) (d p k : Nat) : Envelope :=
  let level := (s.term (aerial d p) k).1
  let whole : Envelope := { start := level, level := level, done := 1000 }
  match s.sourceSlice d p k with
  | some (e, x) => if s.fstate e x = 4 ∨ (s.envelope e x).level = level then s.envelope e x else whole
  | none => whole

/-- R311, R319, R322: a neighbour term has the amplitude of its source without its modulation, and the angle of the source's
output phase against this port's LO at LO_OFS 0. -/
def State.nbrTerm (s : State) (d p sl k : Nat) : RinseTerm :=
  let c := s.coefficient d (0x10C + 4 * k + 0x40 * p)
  { i := c.1, q := c.2, a := s.sourceEnvelope d p k, percent := 100,
    theta := (s.sourcePhase d p k + 256 - s.phaseOut d sl % 256) % 256, att := s.get d (F.RCV_P_STAT_ATT_USED p) }

/-- R311, R314, R317, R318: the terms that the rinse of a port subtracts. -/
def State.rinseSum (s : State) (d p sl : Nat) (pulse : Bool) : List RinseTerm :=
  (if s.rinseSelf d p sl then [s.selfTerm d p sl pulse] else []) ++ (s.rinseTerms d p).map (s.nbrTerm d p sl)

/-- R308: the subcarrier centre of a protocol in hertz. -/
def subcarrier (proto : Nat) : Nat := if proto < 8 then 847500 else if dualSub proto then 454020 else 423750

/-- R302, R308: how far the centre turns between two samples at fc / 4, in 1/112 of a turn: the centres are fc / 16, fc / 32
and the middle of fc / 32 and fc / 28. -/
def centreStep (proto : Nat) : Nat := if proto < 8 then 28 else if dualSub proto then 15 else 14

/-- The product of a complex sample with the conjugate of another: its real part is the projection onto the other's angle. -/
def conjMul (x v : Int × Int) : Int × Int := (x.1 * v.1 + x.2 * v.2, x.2 * v.1 - x.1 * v.2)

/-- Cosines of the first quarter turn in 1/112 of a turn, in 1/16,384. -/
def quarterCos : List Int :=
  [16384, 16358, 16281, 16153, 15973, 15744, 15465, 15137, 14761, 14340, 13873, 13362, 12810, 12217, 11585,
   10917, 10215, 9481, 8717, 7925, 7109, 6270, 5411, 4536, 3646, 2744, 1834, 919, 0]

/-- The unit vector at `k` / 112 of a turn, in 1/16,384. -/
def unitVector (k : Nat) : Int × Int :=
  let c := fun (i : Nat) => (quarterCos[i]?).getD 0
  let i := k % 28
  match k / 28 % 4 with
  | 0 => (c i, c (28 - i))
  | 1 => (-c (28 - i), c i)
  | 2 => (-c i, -c (28 - i))
  | _ => (c (28 - i), -c i)

/-- R307: mixing down by the subcarrier centre of a protocol: every sample times the conjugate of the centre's rotation,
which has turned by `k` steps at the first. -/
def mixDown (proto : Nat) : Nat → List (Int × Int) → List (Int × Int)
  | _, [] => []
  | k, x :: xs => conjMul x (unitVector (k * centreStep proto)) :: mixDown proto (k + 1) xs

/-- R307: the direction of a reply, estimated over the first subcarrier period of its start-of-frame: the sum of its
samples. -/
def replyVector (first : List (Int × Int)) : Int × Int := first.foldl (fun a x => (a.1 + x.1, a.2 + x.2)) (0, 0)

/-- R307: a later sample projected onto that direction. -/
def project (v x : Int × Int) : Int := (conjMul x v).1

/-- R307: the decision over the samples of a bit or part of a bit: its projection lies on the side of the start-of-frame's
subcarrier. -/
def onSubcarrier (v : Int × Int) (part : List (Int × Int)) : Bool := decide (0 < (part.map (project v)).foldl (· + ·) 0)

/-- R307: the decided parts of a reply of a protocol from its samples at fc / 4: `first` samples of the first subcarrier
period, then parts of so many samples each. What the reply commands carry as angle and bits stands for these decisions on the
samples of the air (log entry 94). -/
def demodulate (proto first : Nat) (parts : List Nat) (samples : List (Int × Int)) : List Bool :=
  let xs := mixDown proto 0 samples
  let v := replyVector (xs.take first)
  (parts.foldl (fun (l : List (Int × Int) × List Bool) n =>
    (l.1.drop n, l.2 ++ [onSubcarrier v (l.1.take n)])) (xs.drop first, [])).2

/-- R326: every fourth sample. -/
def decimate4 : List (Int × Int) → List (Int × Int)
  | x :: _ :: _ :: _ :: xs => x :: decimate4 xs
  | x :: _ => [x]
  | [] => []

/-- R326: the neighbour stream of a listener: the rinse output at fc / 4 mixed down by the centre of the serving exchange's
protocol, filtered to ±200 kHz, and one 16-bit sample of each part every 16 fc cycles. The filter's response is not stated
(log entry 94). -/
def neighbourStream (proto : Nat) (rinsed : List (Int × Int)) : List (Int × Int) :=
  (decimate4 (Sys2Proof.Config.streamFilter (mixDown proto 0 rinsed))).map fun x =>
    (clampI (-32768) 32767 x.1, clampI (-32768) 32767 x.2)

/-- R378: the flags byte of a round's frame: subcarrier and data rate, with the flags of the frame. -/
def Member.roundFlags (m : Member) (flags : Nat) : Byte :=
  BitVec.ofNat 8 (b2n (dualSub m.proto) + 2 * b2n (highRate m.proto) + flags)

/-- The lowest `n` bytes of a number, the least significant first. -/
def leBytes (n x : Nat) : List Byte := (List.range n).map fun i => BitVec.ofNat 8 (x / 256 ^ i)

/-- R378: the bytes of a round's frame without its CRC; the EOF of a slot carries none. -/
def Exch.roundFrame (e : Exch) : List Byte :=
  let m := e.member
  let r := e.inv.cur
  match e.inv.frame with
  | .request =>
    [m.roundFlags (0x04 + 0x10 * b2n m.afiEn + 0x20 * b2n (!r.sixteen)), 0x01] ++ (if m.afiEn then leBytes 1 m.afi else [])
      ++ leBytes 1 r.len ++ leBytes ((r.len + 7) / 8) (r.mask % 2 ^ r.len)
  | .slotEof => []
  | .read uid => [m.roundFlags 0x20, 0x20] ++ leBytes 8 uid ++ leBytes 1 m.readBlk
  | .quiet uid => [m.roundFlags 0x20, 0x02] ++ leBytes 8 uid

/-- R368: the SEL code of a cascade level. -/
def selCode (level : Nat) : Byte := BitVec.ofNat 8 (0x91 + 2 * level)

/-- R368: the bits of a command of ACTIVATE_A after REQA and WUPA. The byte after SEL counts the bytes and bits sent
(PRESUMED, log entry 111: ISO/IEC 14443-3). -/
def Act.bitsA (a : Act) : List Byte × List Bool :=
  let n := a.bits.length
  match a.step with
  | .select =>
    let b := [selCode a.level, 0x70] ++ bitsToBytes 5 a.bits
    (b ++ crcBytes (protoCrc 0 b), [])
  | _ => ([selCode a.level, BitVec.ofNat 8 (32 + n / 8 * 16 + n % 8)] ++ bitsToBytes (n / 8) (a.bits.take (n / 8 * 8)),
    a.bits.drop (n / 8 * 8))

/-- R371: the command of a slot of ACTIVATE_B. PARAM holds WUP in bit 3 and NEXP in bits 2:0, and every command a CRC_B
(PRESUMED, log entry 111: ISO/IEC 14443-3). -/
def Member.slotCommand (m : Member) (slot : Nat) : List Byte :=
  let b := if slot = 1 then [0x05] ++ leBytes 1 m.afi ++ leBytes 1 (8 * b2n m.wup + m.nexp)
    else leBytes 1 (0x05 + 16 * (slot - 1))
  b ++ crcBytes (protoCrc 4 b)

/-- The bits of bytes, each least significant bit first; for Type A with an odd parity bit after each byte (R364). -/
def byteBits (parity : Bool) (bs : List Byte) : List Bool :=
  (bs.map fun x =>
    let l := (List.range 8).map x.getLsbD
    if parity then l ++ [l.count true % 2 == 0] else l).flatten

/-- R364, R334: the bits of a frame that a field sends, least significant first: a Type A frame of 7 bits goes as it is,
longer ones carry an odd parity bit after each byte; the other protocols send the bytes alone. -/
def Member.airBits (m : Member) : List Bool :=
  if protoA m.proto ∧ m.txBits = 7 then (byteBits false m.airFrame).take 7 else byteBits (protoA m.proto) m.airFrame

/-- R363, R364, R368, R371, R378: the bits of the frame that an exchange sends. -/
def Exch.airBits (e : Exch) : List Bool :=
  let m := e.member
  if m.kind = 0 then m.airBits
  else if m.kind = 1 then
    if e.act.step = .request then (byteBits false [if m.wup then 0x52 else 0x26]).take 7
    else byteBits true e.act.bitsA.1 ++ e.act.bitsA.2
  else if m.kind = 2 then byteBits false (m.slotCommand e.act.slot)
  else if e.inv.frame = .slotEof then []
  else byteBits false (e.roundFrame ++ crcBytes (protoCrc 8 e.roundFrame))

/-- A modulation pulse of a frame: the fc cycle at which it starts, from the frame's first, and its length. -/
abbrev Pulse := Nat × Nat

/-- R362: the bit, elementary time unit or pulse position unit of a protocol in fc cycles. -/
def bitTime (proto : Nat) : Nat := if proto < 8 then 128 / 2 ^ (proto % 4) else 128

/-- R362: the length of a Type A pause: XEN_TYPEA.PAUSE at 106 kbit/s; at the higher rates the nominal one of ISO/IEC 14443-2,
which the manual does not state (log entry 135). -/
def State.pause (s : State) (d proto : Nat) : Nat :=
  if proto = 0 then s.get d F.XEN_TYPEA_PAUSE else Sys2Proof.Config.freeNat (2 ^ 44 + proto)

/-- R362: modified Miller (PRESUMED, log entry 135: ISO/IEC 14443-2): a one has its pause in the middle of the bit, a zero
after a zero or the start of communication at its beginning, a zero after a one none. -/
def miller (time pause : Nat) : Bool → Nat → List Bool → List Pulse
  | _, _, [] => []
  | _, at_, true :: l => (at_ + time / 2, pause) :: miller time pause false (at_ + time) l
  | zero, at_, false :: l => (if zero then [(at_, pause)] else []) ++ miller time pause true (at_ + time) l

/-- R362: a Type A frame: the start of communication, the bits, and a zero at the end of communication. -/
def pulsesA (time pause : Nat) (l : List Bool) : List Pulse :=
  (0, pause) :: miller time pause true time (l ++ [false])

/-- Groups of `n` bits. -/
def groups (n : Nat) : Nat → List Bool → List (List Bool)
  | 0, _ => []
  | k + 1, l => if l.isEmpty then [] else l.take n :: groups n k (l.drop n)

/-- R362: the levels of a Type B frame, one for each etu: SOF 10 low and 2 high, characters of a start bit, 8 bits and a stop
bit, EOF 10 low. -/
def levelsB (l : List Bool) : List Bool :=
  List.replicate 10 false ++ [true, true]
    ++ ((groups 8 l.length l).map (fun b => [false] ++ b ++ [true])).flatten ++ List.replicate 10 false

/-- The pulses of levels of a time each: low ones; neighbouring pulses join. -/
def lowPulses (time : Nat) (l : List Bool) : List Pulse :=
  (l.zipIdx.filter (fun x => !x.1)).map fun x => (x.2 * time, time)

/-- The number that bits spell, the first in bit 0. -/
def bitsNat : List Bool → Nat
  | [] => 0
  | b :: l => b2n b + 2 * bitsNat l

/-- R362: pulse position coding of `n` bits a symbol: the pulse of 128 fc stands in the second half of the symbol's position
that its value names (PRESUMED, log entry 135: ISO/IEC 15693-2, with the pulses of SOF and EOF). -/
def pulsesV (n : Nat) (l : List Bool) : List Pulse :=
  let gs := groups n l.length l
  let len := 256 * 2 ^ n
  [(0, 128), (if n = 2 then 640 else 768, 128)]
    ++ gs.zipIdx.map (fun (b, i) => (1024 + i * len + 256 * bitsNat b + 128, 128))
    ++ [(1024 + gs.length * len + 256, 128)]

/-- R362, R367, R380: the modulation pulses of the frame that an exchange sends; a slot's EOF is an EOF alone. -/
def Exch.pulses (e : Exch) (pause : Nat) : List Pulse :=
  let proto := e.member.proto
  let l := e.airBits
  if proto < 4 then pulsesA (bitTime proto) pause l
  else if proto < 8 then lowPulses (bitTime proto) (levelsB l)
  else if e.member.kind = 3 ∧ e.inv.frame = .slotEof then [(256, 128)]
  else pulsesV (if proto < 12 then 2 else 8) l

/-- R678: SRCK and SRDA in the `k`-th half bit time of the frame in flight, 0 the first: SRDA changes as SRCK falls and is
sampled as it rises; both rest low outside a frame. -/
def State.srlLines (s : State) (k : Nat) : Bool × Bool :=
  match s.supply.flight with
  | some r =>
    let l := requestFrame r.cmd (if r.cmd = 4 then 0 else r.value)
    (k % 2 == 1 && decide (k < 2 * l.length), (l[k / 2]?).getD false)
  | none => (false, false)

end Sys2Proof.Machine
end

