-- ==== Sys2Proof/Safety.lean ====
section
/-! DEFINITION. What the claims about the machine are said in: the canonical form of its stores, and the frames of the commands. -/

namespace Sys2Proof.Machine

/-- A store in canonical form: keys strictly rising, no entry equal to what an unlisted key reads as. -/
def Store.canonical {α : Type} [DecidableEq α] (l : List (Nat × α)) (dflt : Nat → α) : Bool :=
  Store.sorted l && l.all (fun e => e.2 != dflt e.1)

/-- The memory windows and the registers are in canonical form. -/
def State.canonical (s : State) : Bool := Memory.wf s.mem && Store.canonical s.regs resetAt

/-- The frame of a command over the registers: every register outside the named pages (256 × die + page) keeps its word. -/
def State.sameOutside (s t : State) (pages : List Nat) : Prop :=
  ∀ d p o, hostAddr d p o / 4096 ∉ pages → t.reg d p o = s.reg d p o

/-- The commands that can store a byte of a memory window (R85): writes by a port, a seam or a list, receptions that fill
a buffer and the ends that cut one short, resets, profile loads and banks that lost their content. -/
def mayStore : Instr → Bool
  | .seamBadCrc .. | .seamWatchdog .. | .dieSeamSilence .. | .dieAnchorSilence .. | .dieRejoined .. | .carrierUnlock .. |
      .seamRegisterAccess .. | .testEnd .. |
      .registerWrite .. | .windowWrite .. | .write .. | .writeCommit .. | .softReset .. | .twWriteTransfer .. |
      .winMidWrite .. | .twStretchRelease .. | .guardEnd .. | .overcurrent .. | .sliceStartCheck .. | .fcoAbort .. |
      .thermalSample .. | .vsupWindowEnd .. | .replyEnd .. | .rxPayloadEnd .. | .pleStore .. | .wakeDomainReady .. |
      .powerOn .. | .vsupLoss .. | .vsupDip .. | .nrstLow .. | .coreRailReset .. | .startupReady .. |
      .profileDrainEnd .. => true
  | _ => false

/-- The commands that reset the device (R653). -/
def mayReset : Instr → Bool
  | .powerOn .. | .vsupLoss .. | .vsupDip .. | .nrstLow .. | .coreRailReset .. | .softReset .. => true
  | _ => false

/-- The frame of the commands that touch registers of few pages of the anchor only: the pages they touch (page ICU too
where they raise an event, R630). None for a command whose pages are not few or depend on its operands. -/
def ownPages : Instr → Option (List Nat)
  | .seamIdleWord .. | .twStretchTimeout .. | .busFree .. | .vsupIdleRequest .. | .dutyClockSecond .. => some []
  | .devLoad .. => some [0x00, 0x14]
  | .tbsMeasUpdate .. | .tbsAlmHiWrite .. => some [0x01]
  | .realigned .. => some [0x01, 0x05]
  | .seamRetrainStart .. | .seamRetrainEnd .. | .rejoin .. => some [0x02]
  | .seamRestored .. => some [0x02, 0x05]
  | .padRelease .. => some [0x03, 0x05, 0x08, 0x0D]
  | .srlSet .. | .srlStepUp .. | .srlStepDown .. | .srlQuery .. | .srlFrameStart .. => some [0x04]
  | .srlAck .. | .srlNoack .. => some [0x01, 0x03, 0x04, 0x05]
  | .icuComplete .. | .icuModgapEnd .. => some [0x05]
  | .readTimeout .. => some [0x05, 0x06]
  | .attnSent .. | .attnNack .. | .icuClaim .. | .icuSrcWrite .. | .icuTargetCfgWrite .. |
      .icuLevelChange .. => some [0x05, 0x07]
  | .creditMismatch .. => some [0x05, 0x08]
  | .systemRecordWrite .. => some [0x05, 0x08, 0x09]
  | .tktSnapSaveEnd .. => some [0x05, 0x08, 0x09, 0x14]
  | .pleEmit .. | .pleEmitCredit .. => some [0x05, 0x08, 0x09, 0x0B]
  | .slselAssert .. | .listenerReserve .. => some [0x05, 0x08, 0x0D]
  | .candidateAgeing .. => some [0x05, 0x0A]
  | .pleWait .. | .pleMovi .. | .pleMovw .. | .pleAdd .. | .pleSub .. | .pleScale .. | .pleExt .. |
      .pleIir .. | .pleMedian5 .. | .pleMean .. | .pleCmph .. | .pleWindow .. | .pleTime .. |
      .pleBranch .. | .pleRaise .. | .pleSpi .. | .pleSpiDone .. | .pleAdc .. | .pleAdcDone .. |
      .pleTagDone .. | .pleRadioDone .. => some [0x05, 0x0B]
  | .pleListen .. | .pleListenDone .. => some [0x05, 0x0B, 0x0D]
  | .pleRadio .. => some [0x05, 0x0B, 0x10]
  | .sscEntryStart .. => some [0x05, 0x0C]
  | .safConvDone .. => some [0x05, 0x0E]
  | .rxSfdFound .. | .rxSfdTimeout .. | .rxFreeSfd .. => some [0x05, 0x0F]
  | .radioCmdStart .. => some [0x05, 0x10]
  | .calSaveEnd .. => some [0x05, 0x12, 0x14]
  | .nvOpDone .. => some [0x05, 0x14]
  | .memoryTestEnd .. => some [0x05, 0x13, 0x15]
  | .gppEdge .. => some [0x05, 0x16]
  | .attentionStart .. | .attnBackoffEnd .. => some [0x07]
  | .pleRaiseClear .. => some [0x07, 0x0B]
  | .hmpMark .. => some [0x08]
  | .tktSnapSave .. | .tktSnapLoadEnd .. => some [0x09]
  | .tktSnapLoad .. => some [0x09, 0x14]
  | .pleVariableWrite .. | .pleVvalidClear .. => some [0x0B]
  | .sscQpush .. | .sscDonePop .. => some [0x0C]
  | .safReq .. => some [0x0E]
  | .rxRssiDetect .. | .rxPreambleQualified .. | .rxDetectTimeout .. | .rxAgcRerunEnd .. |
      .rssiUpdate .. => some [0x0F]
  | .radioCmdSleep .. | .radioCmdStandby .. | .radioCmdSynth .. | .radioCmdRx .. | .radioCmdTx .. |
      .radioCmdCal .. | .radioCmdCalAll .. | .radioCmdFlush .. | .cxgntAssert .. | .hopCalBackground .. => some [0x10]
  | .secKeyLoad .. | .secKeyErase .. => some [0x11]
  | .calSave .. | .calAutosave .. => some [0x12]
  | .nvsEraseSlot .. | .nvsRegLock .. | .nvsDebugLock .. | .nvsWdataWrite .. | .nvsRdataRead .. => some [0x14]
  | .darnMapWritten .. => some [0x05, 0x14, 0x15]
  | _ => none

end Sys2Proof.Machine
end

