-- ==== Sys2Proof/Certificates/Slice0/Obligations.lean ====
section
/-! DEFINITION. The statements for the provers: what the commands do, rule by rule, and what every step keeps. -/

open Sys2Proof Sys2Proof.Machine

/-- Seam events: a bad CRC, the watchdog, idle words, retraining, and the return to service. For a present seam: a
  packet with a bad CRC counts CRC_ERR; below the fourth failure it counts RESENT and the failure is remembered, the
  fourth marks the direction faulted and an admission pass follows. A watchdog marks the direction faulted. An idle
  word is counted in each direction that carries words, of a seam in FAULT too. With RETRAIN_EN a seam in FAULT goes
  to RETRAIN; at the end of the test it is back in FAULT, waiting for the round boundary after three passes in a row;
  at the boundary it returns to UP with both fault bits clear, with its event and the reroute. Marking a direction
  faulted sets its bit and STATE, and leaves a direction already marked, or an absent seam, alone. -/
def Obligations.SeamCommands : Prop :=
  (∀ (s : State) (seam : Nat) (cw again : Bool) (n : Nat), seam < 8 → s.seamState seam ≠ 0 → n = (if again then (if cw
    then (s.seam seam).badCw else (s.seam seam).badCcw) + 1 else 1) → n < 4 → exec (.seamBadCrc seam cw again) s =
    .next (((s.seamCount seam (F.SEM_SEAM_CRC_ERR seam)).setSeam seam (if cw then { s.seam seam with badCw := n } else
    { s.seam seam with badCcw := n })).seamCount seam (F.SEM_SEAM_RESENT seam))) ∧
  (∀ (s : State) (seam : Nat) (cw again : Bool) (n : Nat), seam < 8 → s.seamState seam ≠ 0 → n = (if again then (if cw
    then (s.seam seam).badCw else (s.seam seam).badCcw) + 1 else 1) → 4 ≤ n → exec (.seamBadCrc seam cw again) s =
    .next ((((s.seamCount seam (F.SEM_SEAM_CRC_ERR seam)).setSeam seam (if cw then { s.seam seam with badCw := 0 }
    else { s.seam seam with badCcw := 0 })).seamFault seam cw).coordinate)) ∧
  (∀ (s : State) (seam : Nat) (cw : Bool), seam < 8 → s.seamState seam ≠ 0 → exec (.seamWatchdog seam cw) s = .next
    ((s.seamFault seam cw).coordinate)) ∧
  (∀ (s : State) (seam : Nat) (cw : Bool), seam < 8 → (s.seamState seam = 1 ∨ s.seamState seam = 2 ∧ s.flag 0 (if cw
    then F.SEM_SEAM_FAULT_CW seam else F.SEM_SEAM_FAULT_CCW seam) = false) → exec (.seamIdleWord seam cw) s = .next
    (s.setSeam seam (if cw then { s.seam seam with idleCw := (s.seam seam).idleCw + 1 } else
    { s.seam seam with idleCcw := (s.seam seam).idleCcw + 1 }))) ∧
  (∀ (s : State) (seam : Nat), s.awake = true → seam < 8 → s.flag 0 F.SEM_CTRL_RETRAIN_EN = true → s.seamState seam =
    2 → exec (.seamRetrainStart seam) s = .next (s.set 0 (F.SEM_SEAM_STATE seam) 3)) ∧
  (∀ (s : State) (seam : Nat) (pass : Bool) (n : Nat), seam < 8 → s.seamState seam = 3 → n = (if pass then (s.seam
    seam).passes + 1 else 0) → exec (.seamRetrainEnd seam pass) s = .next ((s.set 0 (F.SEM_SEAM_STATE seam) 2).setSeam
    seam { s.seam seam with passes := n, restoring := decide (3 ≤ n) })) ∧
  (∀ (s : State) (seam : Nat), seam < 8 → s.seamState seam = 2 → (s.seam seam).restoring = true → s.roundBoundary =
    true → exec (.seamRestored seam) s = .next ((((((s.set 0 (F.SEM_SEAM_FAULT_CW seam) 0).set 0 (F.SEM_SEAM_FAULT_CCW
    seam) 0).set 0 (F.SEM_SEAM_STATE seam) 1).setSeam seam {}).raise 0 0x02 1).reroute)) ∧
  (∀ (s : State) (seam : Nat), seam < 8 → (s.seamState seam ≠ 2 ∨ (s.seam seam).restoring = false ∨ s.roundBoundary =
    false) → exec (.seamRestored seam) s = .next s) ∧
  (∀ (s : State) (n : Nat) (cw : Bool), n < 8 →
    (s.seamState n = 0 ∨ s.flag 0 (if cw then F.SEM_SEAM_FAULT_CW n else F.SEM_SEAM_FAULT_CCW n) = true → s.seamFault n cw = s) ∧
    (s.seamState n ≠ 0 → s.flag 0 (if cw then F.SEM_SEAM_FAULT_CW n else F.SEM_SEAM_FAULT_CCW n) = false →
      ∃ t : State, s.seamFault n cw = t.afterSeams n ∧ t.seamState n = (if s.seamState n = 3 then 3 else 2) ∧
        t.flag 0 (if cw then F.SEM_SEAM_FAULT_CW n else F.SEM_SEAM_FAULT_CCW n) = true ∧
        (t.seam n).passes = 0 ∧ (t.seam n).restoring = false ∧ t.mem = s.mem ∧ t.exchs = s.exchs))

/-- Events of the field dies: silence, keep-alive, the carrier lock, time loads and the rejoin. A silent die in RUN or
  DOZE, and one that loses the carrier, which also raises its event and clears LOCKED, cuts its fields and an
  admission pass follows: its listeners are lost, its field holds end, each of its slices takes a field-off that
  aborts, all are held OFF, and all work on them, of other dies too, ends with status 8. A keep-alive word is counted;
  that it frees slices held OFF while the die is locked is the choice of log entry 99. A relock sets LOCKED with its
  event, makes the DIE run DUE and blocks the die for other work. A time load marks the copy loaded, its offset within
  one tick, a late one being counted, and an admission pass follows. A REJOIN of a lost die that is reachable marks
  it, and of any other die changes nothing. A die that rejoins is reset, in DOZE, reachable and locked, with its time
  loaded, its maps, calibration sets and profile writes; it is blocked until LINE_OFS is accepted, none of its ports
  is released, its runs are DUE, and the event, the reroute and an admission pass follow. -/
def Obligations.DieCommands : Prop :=
  (∀ (s : State) (die : Nat), s.fieldDie die = true → 1 ≤ s.pstate die → exec (.dieSeamSilence die) s = .next
    ((s.cutFields die).coordinate)) ∧
  (∀ (s : State) (die : Nat), (s.fieldDie die = false ∨ s.pstate die = 0) → exec (.dieSeamSilence die) s = .next s) ∧
  (∀ (s : State) (die : Nat), s.fieldDie die = true → 1 ≤ s.pstate die → exec (.dieAnchorSilence die) s = .next
    ((s.cutFields die).coordinate)) ∧
  (∀ (s : State) (die : Nat), (s.fieldDie die = false ∨ s.pstate die = 0) → exec (.dieAnchorSilence die) s = .next s) ∧
  (∀ (s : State) (die : Nat), s.awake = true → s.inService die = true → 1 ≤ s.pstate die → exec (.anchorKeepAlive die)
    s = .next (s.setDie die
    { s.die die with keepAlive := (s.die die).keepAlive + 1, heldOff := (s.die die).heldOff && !s.locked die })) ∧
  (∀ (s : State) (die : Nat), (s.awake = false ∨ s.inService die = false ∨ s.pstate die = 0) → exec (.anchorKeepAlive
    die) s = .next s) ∧
  (∀ (s : State) (die : Nat) (reachable : Bool), s.awake = true → s.flag 0 (F.PG_LOCK 0x02) = false → s.fieldDie die =
    true → s.inService die = false → reachable = true → exec (.rejoin die reachable) s = .next (s.setDie die
    { s.die die with rejoining := true })) ∧
  (∀ (s : State) (die : Nat) (reachable : Bool), s.awake = true → s.flag 0 (F.PG_LOCK 0x02) = false → (s.fieldDie die
    = false ∨ s.inService die = true ∨ reachable = false) → exec (.rejoin die reachable) s = .next s) ∧
  (∀ (s : State) (die : Nat), s.inService die = true → s.locked die = true → 1 ≤ s.pstate die → exec (.carrierUnlock
    die) s = .next ((((s.setBit 0 F.SEM_DIES_LOCKED (die - 1) false).raise 0 0x02 5).cutFields die).coordinate)) ∧
  (∀ (s : State) (die : Nat), (s.inService die = false ∨ s.locked die = false ∨ s.pstate die = 0) → exec
    (.carrierUnlock die) s = .next s) ∧
  (∀ (s : State) (die : Nat) (u v : State), s.inService die = true → s.locked die = false → 1 ≤ s.pstate die → u =
    (s.setBit 0 F.SEM_DIES_LOCKED (die - 1) true).raise 0 0x02 6 → v = u.setDie die
    { u.die die with heldOff := false } → exec (.carrierRelock die) s = .next
    ((({ v with coord := { v.coord with lineBlocked := die :: v.coord.lineBlocked.filter (· != die) } } :
    State).makeDue (dieSet die) true).coordinate)) ∧
  (∀ (s : State) (die : Nat), (s.inService die = false ∨ s.locked die = true ∨ s.pstate die = 0) → exec
    (.carrierRelock die) s = .next s) ∧
  (∀ (s : State) (die : Nat) (offset : Int) (late : Bool), s.awake = true → s.inService die = true → exec (.timeLoad
    die offset late) s = .next (((s.syncLate late).setDie die
    { (s.syncLate late).die die with timeLoaded := true, timeOffset := clampI (-1) 1 offset }).coordinate)) ∧
  (∀ (s : State) (die : Nat) (offset : Int) (late : Bool), (s.awake = false ∨ s.inService die = false) → exec
    (.timeLoad die offset late) s = .next s) ∧
  (∀ (s : State) (die : Nat) (a b c x y r z v u : State) (ws held : List (Nat × Word)) (pages : List (Nat × Nat)),
    s.awake = true → s.fieldDie die = true → s.inService die = false → (s.die die).rejoining = true → (s.cwUp die =
    true ∨ s.ccwUp die = true) → a = s.resetDie die → b =
    { a with calSets := (a.nv.cal.filter (fun (e : Nat × CalSet) => decide (e.1 < 0x1000) && e.1 / 16 == die)).foldl (fun (l : List (Nat × CalSet)) e => Store.insert (Store.erase l e.1) e.1 e.2) a.calSets }
    → c = (List.range 19).foldl (fun (z : State) j => z.set 0 (F.ICU_SRC_LEVEL (pageSource die j)) 0) b → x =
    (((c.setBit 0 F.SEM_DIES_REACHABLE (die - 1) true).setBit 0 F.SEM_DIES_LOCKED (die - 1) true).set die
    F.DPWR_STAT_PSTATE 1).setDie die { timeLoaded := true } → y = x.applyMaps die → ws = y.activeWrites.filter (fun e
    => e.1 / 1048576 == die) → pages = (profilePages [die]).filter (fun p => p.1 == die) → (y.writeWindows
    ws).stageImage pages (fun _ => false) ws = (r, held) → z = (if ws.isEmpty then y else r.commitStaged pages held) →
    v =
    { z with coord := { z.coord with released := z.coord.released.filter (fun n => portDie n != die), lineBlocked := die :: z.coord.lineBlocked.filter (· != die) } }
    → u = ((v.raise 0 0x02 3).reroute).dieDue die → exec (.dieRejoined die) s = .next ((((((List.range 10).map
    (sliceSet die) ++ [dieSet die]).foldl (fun (q : State) k => q.calBits k) u).watchSyncDie die).refreshDie
    die).coordinate.attnSync)) ∧
  (∀ (s : State) (die : Nat), (s.awake = false ∨ s.fieldDie die = false ∨ s.inService die = true ∨ (s.die
    die).rejoining = false ∨ s.cwUp die = false ∧ s.ccwUp die = false) → exec (.dieRejoined die) s = .next s) ∧
  (∀ (s : State) (d : Nat), s.cutFields d =
      (s.dieKeys d ++ s.guestKeys d).foldl (fun (z : State) (e : Nat × Exch) => z.endWork e.1 8)
        ((s.loseDieListeners d).rampDie d) ∧
    ((s.rampDie d).die d).heldOff = true ∧
    s.rampDie d = (fun (u : State) => u.setDie d { u.die d with heldOff := true })
      ((List.range 10).foldl (fun (z : State) sl => z.fieldOff d sl true)
        ((List.range 8).foldl (fun (z : State) p => if (z.fieldHold d p).isSome then z.dropHold d p else z) s)) ∧
    s.dieKeys d = s.exchs.filter (fun e => ownWork d e.1) ∧
    s.guestKeys d = s.exchs.filter (fun e => !ownWork d e.1 && (List.range 10).any (fun sl => s.usesSlice d sl e))) ∧
  (∀ (s : State) (d sl : Nat),
    (s.fstate d sl = 2 ∨ s.fstate d sl = 3 → (s.cancelDrive d sl).fstate d sl = s.fstate d sl →
      s.fieldOff d sl true = (s.cancelDrive d sl).rampDown d sl) ∧
    ((s.cancelDrive d sl).fstate d sl = 1 → s.fieldOff d sl true = (s.cancelDrive d sl).setSlice d sl
      { (s.cancelDrive d sl).slice d sl with offHeld := true, offAbort := true })) ∧
  (∀ (s : State) (k : Nat) (line : Bool), ((s.makeDue k line).calTarget k).due = true)

/-- A tagged register access over a seam, and a record word that arrives at the anchor. A tag that the die has
  answered before only returns the stored reply; a new one is executed, with the die woken first, and its reply is
  stored under the tag. The access itself is the read or the write of the register or window word of the die, and none
  of an absent page. The next word of the first record of a die is taken when its transfer number matches and a credit
  is left, and an admission pass follows; a copy of another transfer is discarded. -/
def Obligations.SeamAccessAndRecords : Prop :=
  (∀ (s : State) (die tag : Nat) (write : Bool) (offset : Nat) (data : Word) (r : Word), s.awake = true → s.inService
    die = true → Store.find? (s.die die).replies tag = some r → exec (.seamRegisterAccess die tag write offset data) s
    = .next (s.setDie die { s.die die with lastReply := r })) ∧
  (∀ (s : State) (die tag : Nat) (write : Bool) (offset : Nat) (data : Word) (u : State) (reply : Word), s.awake =
    true → s.inService die = true → Store.find? (s.die die).replies tag = none → (s.touchDie die).seamAccess die write
    offset data = (u, reply) → exec (.seamRegisterAccess die tag write offset data) s = .next (u.setDie die
    { u.die die with replies := Store.insert (u.die die).replies tag reply, lastReply := reply })) ∧
  (∀ (s : State) (die xfer : Nat) (r : OutRec) (rest : List OutRec), s.awake = true → s.inService die = true → (s.die
    die).out = r :: rest → r.xfer = xfer → exec (.recordWordArrival die xfer) s = .next ((s.arrive die).coordinate)) ∧
  (∀ (s : State) (die xfer : Nat) (r : OutRec) (rest : List OutRec), s.awake = true → s.inService die = true → (s.die
    die).out = r :: rest → r.xfer ≠ xfer → exec (.recordWordArrival die xfer) s = .next s) ∧
  (∀ (s : State) (d offset p o : Nat) (w : Word), p = addrPage offset → o = addrOff offset / 4 * 4 →
    (pageExists d p = false → s.seamAccess d true offset w = (s, 0) ∧ s.seamAccess d false offset w = (s, 0)) ∧
    (pageExists d p = true → windowOf d p = .none →
      s.seamAccess d true offset w = ((s.regWrite d p o w).1, 0) ∧ s.seamAccess d false offset w = s.regRead 0 d p o false) ∧
    (windowOf d p ≠ .none →
      s.seamAccess d true offset w = ((s.windowPut d p o w).1, 0) ∧ s.seamAccess d false offset w = (s, s.windowView d p o))) ∧
  (∀ (s : State) (d : Nat) (r : OutRec) (rest : List OutRec), (s.die d).out = r :: rest →
    ((s.die d).sent < r.payload.length + 3 → 0 < (s.die d).credits d →
      s.arrive d = (s.setDie d { s.die d with sent := (s.die d).sent + 1 }).drainDies) ∧
    (r.payload.length + 3 ≤ (s.die d).sent ∨ (s.die d).credits d = 0 → s.arrive d = s))

/-- Re-alignment, the measurement of the 32 kHz crystal, and the alarms. Re-alignment adds one 32 kHz period, drops
  the fraction, ends, and raises its event; a period adds the increment in use with the carried fraction to device
  time. A completed count is shown with VALID. A write of the high word of an alarm takes the pair and arms it. An
  armed, enabled alarm whose value has come disarms and raises its event, and wakes the device when its wake enable is
  set. -/
def Obligations.TimebaseCommands : Prop :=
  (∀ (s : State), s.awake = true → s.tb.align = true → exec (.realigned) s = .next
    (({ s.period with tb := { s.period.tb with frac := 0, align := false } } : State).raise 0 0x01 2)) ∧
  (∀ (s : State) (count : Nat), s.awake = true → exec (.tbsMeasUpdate count) s = .next ((s.set 0 F.TBS_MEAS_MEAS
    count).set 0 F.TBS_MEAS_VALID 1)) ∧
  (∀ (s : State) (alarm : Nat) (hi : Word), s.awake = true → s.flag 0 (F.PG_LOCK 0x01) = false → alarm < 2 → exec
    (.tbsAlmHiWrite alarm hi) s = .next (((s.setReg 0 0x01 (0x040 + 8 * alarm) (if alarm = 0 then s.tb.lo0 else
    s.tb.lo1)).setReg 0 0x01 (0x044 + 8 * alarm) hi).setArmed alarm true)) ∧
  (∀ (s : State) (alarm : Nat) (u : State), alarm < 2 → s.alarmArmed alarm = true → s.flag 0 (alarmEnable alarm) =
    true → s.alarmTime alarm ≤ s.time → u = (s.setArmed alarm false).raise 0 0x01 alarm → u.flag 0 (alarmWake alarm) =
    false → exec (.alarmFire alarm) s = .next u) ∧
  (∀ (s : State) (alarm : Nat) (u : State), alarm < 2 → s.alarmArmed alarm = true → s.flag 0 (alarmEnable alarm) =
    true → s.alarmTime alarm ≤ s.time → u = (s.setArmed alarm false).raise 0 0x01 alarm → u.flag 0 (alarmWake alarm) =
    true → exec (.alarmFire alarm) s = .next (u.wakeBy 2 alarm)) ∧
  (∀ s : State, s.period = { s with
    time := (s.time + (s.tb.inc + s.tb.frac) / 2 ^ 32) % 2 ^ 64,
    tb := { s.tb with frac := (s.tb.inc + s.tb.frac) % 2 ^ 32 } })

/-- What writes of EN, DRAIN, COMMIT, TEST and LOCK of PG_CTRL, of PG_EVT and of PG_FIRSTERR do. On a page of the
  anchor or of a die in service, a field die being woken first: a value that EN, DRAIN or TEST already holds is no
  request. EN 1 starts an OFF page and asks a DRAINING one for a restart; EN 0 drains a page that starts or is ON,
  takes back the restart of a DRAINING one and leaves FAULT; any other change of EN is refused with 0x0007. DRAIN is
  taken, and drains a page that starts or is ON; in DARNED it is refused. COMMIT is pending on a page with shadows and
  counts SEQ on another; in DARNED it is refused. TEST on a page OFF or ON requests the tests of its units, a slice
  with a field waiting for OFF, and is refused in other states; a page without a test, or without a unit to test (log
  entry 100), takes no effect. LOCK is set. Events written 1 clear, on a locked page too, and PG_FIRSTERR is cleared.
  -/
def Obligations.PageControl : Prop :=
  (∀ (s : State) (die page : Nat) (value : Bool) (u : State), s.awake = true → RegTable.implemented die page = true →
    (die = 0 ∨ s.inService die = true) → u = s.touchDie die → u.awake = true → u.flag die (F.PG_LOCK page) = false →
    u.flag die (F.PG_EN page) = value → exec (.pgCtrlEn die page value) s = .next u) ∧
  (∀ (s : State) (die page : Nat) (value : Bool) (u : State), s.awake = true → RegTable.implemented die page = true →
    (die = 0 ∨ s.inService die = true) → u = s.touchDie die → u.awake = true → u.flag die (F.PG_LOCK page) = false →
    u.flag die (F.PG_EN page) = false → value = true → u.pageState die page = 0 → exec (.pgCtrlEn die page value) s =
    .next (((u.set die (F.PG_EN page) 1).setPage die page 1).pageMoved die page)) ∧
  (∀ (s : State) (die page : Nat) (value : Bool) (u : State), s.awake = true → RegTable.implemented die page = true →
    (die = 0 ∨ s.inService die = true) → u = s.touchDie die → u.awake = true → u.flag die (F.PG_LOCK page) = false →
    u.flag die (F.PG_EN page) = false → value = true → u.pageState die page = 3 → exec (.pgCtrlEn die page value) s =
    .next ((u.set die (F.PG_EN page) 1).set die (F.PG_RESTART_PEND page) 1)) ∧
  (∀ (s : State) (die page : Nat) (value : Bool) (u : State), s.awake = true → RegTable.implemented die page = true →
    (die = 0 ∨ s.inService die = true) → u = s.touchDie die → u.awake = true → u.flag die (F.PG_LOCK page) = false →
    u.flag die (F.PG_EN page) = false → value = true → u.pageState die page ≠ 0 → u.pageState die page ≠ 3 → exec
    (.pgCtrlEn die page value) s = .next (u.err die page 7)) ∧
  (∀ (s : State) (die page : Nat) (value : Bool) (u : State), s.awake = true → RegTable.implemented die page = true →
    (die = 0 ∨ s.inService die = true) → u = s.touchDie die → u.awake = true → u.flag die (F.PG_LOCK page) = false →
    u.flag die (F.PG_EN page) = true → value = false → (u.pageState die page = 1 ∨ u.pageState die page = 2) → exec
    (.pgCtrlEn die page value) s = .next (((u.set die (F.PG_EN page) 0).setPage die page 3).pageMoved die page)) ∧
  (∀ (s : State) (die page : Nat) (value : Bool) (u : State), s.awake = true → RegTable.implemented die page = true →
    (die = 0 ∨ s.inService die = true) → u = s.touchDie die → u.awake = true → u.flag die (F.PG_LOCK page) = false →
    u.flag die (F.PG_EN page) = true → value = false → u.pageState die page = 3 → exec (.pgCtrlEn die page value) s =
    .next ((u.set die (F.PG_EN page) 0).set die (F.PG_RESTART_PEND page) 0)) ∧
  (∀ (s : State) (die page : Nat) (value : Bool) (u : State), s.awake = true → RegTable.implemented die page = true →
    (die = 0 ∨ s.inService die = true) → u = s.touchDie die → u.awake = true → u.flag die (F.PG_LOCK page) = false →
    u.flag die (F.PG_EN page) = true → value = false → u.pageState die page = 5 → isSlicePage die page = false → exec
    (.pgCtrlEn die page value) s = .next (((u.set die (F.PG_EN page) 0).setPage die page 0).pageMoved die page)) ∧
  (∀ (s : State) (die page : Nat) (value : Bool) (u : State), s.awake = true → RegTable.implemented die page = true →
    (die = 0 ∨ s.inService die = true) → u = s.touchDie die → u.awake = true → u.flag die (F.PG_LOCK page) = false →
    u.flag die (F.PG_EN page) = true → value = false → u.pageState die page = 5 → isSlicePage die page = true → exec
    (.pgCtrlEn die page value) s = .next (((u.set die (F.PG_EN page) 0).faultCleared die (page - 1)).pageMoved die
    page)) ∧
  (∀ (s : State) (die page : Nat) (value : Bool) (u : State), s.awake = true → RegTable.implemented die page = true →
    (die = 0 ∨ s.inService die = true) → u = s.touchDie die → u.awake = true → u.flag die (F.PG_LOCK page) = false →
    u.flag die (F.PG_EN page) = true → value = false → (u.pageState die page = 0 ∨ 4 = u.pageState die page ∨ 6 ≤
    u.pageState die page) → exec (.pgCtrlEn die page value) s = .next (u.err die page 7)) ∧
  (∀ (s : State) (die page : Nat) (value : Bool) (u : State), s.awake = true → RegTable.implemented die page = true →
    (die = 0 ∨ s.inService die = true) → u = s.touchDie die → u.awake = true → u.flag die (F.PG_LOCK page) = false →
    u.flag die (F.PG_DRAIN page) = value → exec (.pgCtrlDrain die page value) s = .next u) ∧
  (∀ (s : State) (die page : Nat) (value : Bool) (u : State), s.awake = true → RegTable.implemented die page = true →
    (die = 0 ∨ s.inService die = true) → u = s.touchDie die → u.awake = true → u.flag die (F.PG_LOCK page) = false →
    u.flag die (F.PG_DRAIN page) = !value → u.pageState die page = 6 → exec (.pgCtrlDrain die page value) s = .next
    (u.err die page 7)) ∧
  (∀ (s : State) (die page : Nat) (value : Bool) (u : State), s.awake = true → RegTable.implemented die page = true →
    (die = 0 ∨ s.inService die = true) → u = s.touchDie die → u.awake = true → u.flag die (F.PG_LOCK page) = false →
    u.flag die (F.PG_DRAIN page) = false → value = true → (u.pageState die page = 1 ∨ u.pageState die page = 2) → exec
    (.pgCtrlDrain die page value) s = .next (((u.set die (F.PG_DRAIN page) 1).setPage die page 3).pageMoved die page)) ∧
  (∀ (s : State) (die page : Nat) (value : Bool) (u : State), s.awake = true → RegTable.implemented die page = true →
    (die = 0 ∨ s.inService die = true) → u = s.touchDie die → u.awake = true → u.flag die (F.PG_LOCK page) = false →
    u.flag die (F.PG_DRAIN page) = !value → u.pageState die page ≠ 6 → (value = false ∨ u.pageState die page ≠ 1 ∧
    u.pageState die page ≠ 2) → exec (.pgCtrlDrain die page value) s = .next (u.set die (F.PG_DRAIN page) (b2n
    value))) ∧
  (∀ (s : State) (die page : Nat) (u : State), s.awake = true → RegTable.implemented die page = true → (die = 0 ∨
    s.inService die = true) → u = s.touchDie die → u.awake = true → u.flag die (F.PG_LOCK page) = false → u.pageState
    die page = 6 → exec (.pgCtrlCommit die page) s = .next (u.err die page 7)) ∧
  (∀ (s : State) (die page : Nat) (u : State), s.awake = true → RegTable.implemented die page = true → (die = 0 ∨
    s.inService die = true) → u = s.touchDie die → u.awake = true → u.flag die (F.PG_LOCK page) = false → u.pageState
    die page ≠ 6 → hasShadows die page = true → exec (.pgCtrlCommit die page) s = .next (u.set die (F.PG_COMMIT_PEND
    page) 1)) ∧
  (∀ (s : State) (die page : Nat) (u : State), s.awake = true → RegTable.implemented die page = true → (die = 0 ∨
    s.inService die = true) → u = s.touchDie die → u.awake = true → u.flag die (F.PG_LOCK page) = false → u.pageState
    die page ≠ 6 → hasShadows die page = false → exec (.pgCtrlCommit die page) s = .next (u.set die (F.PG_SEQ page)
    (u.get die (F.PG_SEQ page) + 1))) ∧
  (∀ (s : State) (die page : Nat) (u : State), s.awake = true → RegTable.implemented die page = true → (die = 0 ∨
    s.inService die = true) → u = s.touchDie die → u.awake = true → u.flag die (F.PG_LOCK page) = false → pageTestKind
    die page = none → exec (.pgCtrlTest die page) s = .next u) ∧
  (∀ (s : State) (die page : Nat) (u : State) (kind : Nat), s.awake = true → RegTable.implemented die page = true →
    (die = 0 ∨ s.inService die = true) → u = s.touchDie die → u.awake = true → u.flag die (F.PG_LOCK page) = false →
    pageTestKind die page = some kind → u.flag die (F.PG_TEST page) = true → exec (.pgCtrlTest die page) s = .next u) ∧
  (∀ (s : State) (die page : Nat) (u : State) (kind : Nat), s.awake = true → RegTable.implemented die page = true →
    (die = 0 ∨ s.inService die = true) → u = s.touchDie die → u.awake = true → u.flag die (F.PG_LOCK page) = false →
    pageTestKind die page = some kind → u.flag die (F.PG_TEST page) = false → u.pageState die page ≠ 0 → u.pageState
    die page ≠ 2 → exec (.pgCtrlTest die page) s = .next (u.err die page 7)) ∧
  (∀ (s : State) (die page : Nat) (u : State) (kind : Nat), s.awake = true → RegTable.implemented die page = true →
    (die = 0 ∨ s.inService die = true) → u = s.touchDie die → u.awake = true → u.flag die (F.PG_LOCK page) = false →
    pageTestKind die page = some kind → u.flag die (F.PG_TEST page) = false → kind = 1 → (u.pageState die page = 0 ∨
    u.pageState die page = 2 ∧ u.fstate die (page - 1) = 0) → exec (.pgCtrlTest die page) s = .next (((u.set die
    (F.PG_TEST page) 1).requestTest 1 die (page - 1)).coordinate)) ∧
  (∀ (s : State) (die page : Nat) (u : State) (kind : Nat), s.awake = true → RegTable.implemented die page = true →
    (die = 0 ∨ s.inService die = true) → u = s.touchDie die → u.awake = true → u.flag die (F.PG_LOCK page) = false →
    pageTestKind die page = some kind → u.flag die (F.PG_TEST page) = false → kind = 1 → u.pageState die page = 2 →
    u.fstate die (page - 1) ≠ 0 → exec (.pgCtrlTest die page) s = .next ((u.set die (F.PG_TEST page) 1).setSlice die
    (page - 1) { u.slice die (page - 1) with testHeld := true })) ∧
  (∀ (s : State) (die page : Nat) (u : State) (kind : Nat) (fresh : List Nat) (v : State), s.awake = true →
    RegTable.implemented die page = true → (die = 0 ∨ s.inService die = true) → u = s.touchDie die → u.awake = true →
    u.flag die (F.PG_LOCK page) = false → pageTestKind die page = some kind → u.flag die (F.PG_TEST page) = false →
    kind ≠ 1 → (u.pageState die page = 0 ∨ u.pageState die page = 2) → fresh = ((if kind = 3 then (List.range
    8).filter (u.unitPresent 3 0) else if kind = 4 then ((List.range 128).find? (u.unitPresent 4 0)).toList else
    [0]).filter (fun x => !(u.testUnit (testKey kind die x)).requested && !(u.testUnit (testKey kind die x)).granted
    && !(u.testUnit (testKey kind die x)).running)) → fresh ≠ [] → v =
    { u with testFrom := Store.insert (Store.erase u.testFrom (256 * die + page)) (256 * die + page) (u.pageState die page) }
    → exec (.pgCtrlTest die page) s = .next ((fresh.foldl (fun (z : State) x => z.requestTest kind die x) ((v.set die
    (F.PG_TEST page) 1).setPage die page 4)).coordinate)) ∧
  (∀ (s : State) (die page : Nat) (u : State) (kind : Nat) (fresh : List Nat), s.awake = true → RegTable.implemented
    die page = true → (die = 0 ∨ s.inService die = true) → u = s.touchDie die → u.awake = true → u.flag die (F.PG_LOCK
    page) = false → pageTestKind die page = some kind → u.flag die (F.PG_TEST page) = false → kind ≠ 1 → (u.pageState
    die page = 0 ∨ u.pageState die page = 2) → fresh = ((if kind = 3 then (List.range 8).filter (u.unitPresent 3 0)
    else if kind = 4 then ((List.range 128).find? (u.unitPresent 4 0)).toList else [0]).filter (fun x => !(u.testUnit
    (testKey kind die x)).requested && !(u.testUnit (testKey kind die x)).granted && !(u.testUnit (testKey kind die
    x)).running)) → fresh = [] → exec (.pgCtrlTest die page) s = .next u) ∧
  (∀ (s : State) (die page : Nat) (u : State), s.awake = true → RegTable.implemented die page = true → (die = 0 ∨
    s.inService die = true) → u = s.touchDie die → u.awake = true → u.flag die (F.PG_LOCK page) = false → exec
    (.pgCtrlLock die page) s = .next (u.set die (F.PG_LOCK page) 1)) ∧
  (∀ (s : State) (die page : Nat) (value raised : Word) (u v w : State), s.awake = true → RegTable.implemented die
    page = true → (die = 0 ∨ s.inService die = true) → u = s.touchDie die → v = u.attnSync.writeRo die page 0x00C
    value → w = v.setReg die page 0x00C (v.reg die page 0x00C &&& ~~~ (value &&& ~~~ raised)) → exec (.pgEvtClear die
    page value raised) s = .next ((if die = 0 then w else w.icuDeliverDie die).attnSync)) ∧
  (∀ (s : State) (die page : Nat) (value : Word) (same : Option Nat) (u : State), s.awake = true →
    RegTable.implemented die page = true → (die = 0 ∨ s.inService die = true) → u = s.touchDie die → u.awake = true →
    u.flag die (F.PG_LOCK page) = false → same = none → exec (.pgFirsterrClear die page value same) s = .next
    (u.setReg die page 0x014 0)) ∧
  (∀ (s : State) (die page : Nat) (value : Word) (same : Option Nat) (u : State) (c : Nat), s.awake = true →
    RegTable.implemented die page = true → (die = 0 ∨ s.inService die = true) → u = s.touchDie die → u.awake = true →
    u.flag die (F.PG_LOCK page) = false → same = some c → exec (.pgFirsterrClear die page value same) s = .next
    ((u.setReg die page 0x014 0).err die page (c % 65536)))

/-- A page that is ready, drained, or at its commit boundary. A STARTING page other than a slice goes to ON, or to
  DRAINING with DRAIN set, or to FAULT. A DRAINING page whose work has ended goes back to STARTING with a pending
  restart, to OFF without EN, to ON without DRAIN, and else stays. At the boundary of a page with a pending commit the
  whole shadow set is checked: refused, with its event and error 4, when it is not legal; else taken whole, or by the
  port at its boundary on a page that commits port by port. -/
def Obligations.PageEvents : Prop :=
  (∀ (s : State) (die page : Nat) (fault : Bool), RegTable.implemented die page = true → isSlicePage die page = false
    → s.pageState die page = 1 → fault = false → s.flag die (F.PG_DRAIN page) = false → exec (.pageReady die page
    fault) s = .next ((s.setPage die page 2).pageMoved die page)) ∧
  (∀ (s : State) (die page : Nat) (fault : Bool), RegTable.implemented die page = true → isSlicePage die page = false
    → s.pageState die page = 1 → fault = false → s.flag die (F.PG_DRAIN page) = true → exec (.pageReady die page
    fault) s = .next ((s.setPage die page 3).pageMoved die page)) ∧
  (∀ (s : State) (die page : Nat) (fault : Bool), RegTable.implemented die page = true → isSlicePage die page = false
    → s.pageState die page = 1 → fault = true → exec (.pageReady die page fault) s = .next ((s.setPage die page
    5).pageMoved die page)) ∧
  (∀ (s : State) (die page : Nat), RegTable.implemented die page = true → s.pageState die page = 3 → s.pageQuiet die
    page = true → s.flag die (F.PG_RESTART_PEND page) = true → exec (.pageDrainEnd die page) s = .next (((s.set die
    (F.PG_RESTART_PEND page) 0).setPage die page 1).pageMoved die page)) ∧
  (∀ (s : State) (die page : Nat), RegTable.implemented die page = true → s.pageState die page = 3 → s.pageQuiet die
    page = true → s.flag die (F.PG_RESTART_PEND page) = false → s.flag die (F.PG_EN page) = false → exec
    (.pageDrainEnd die page) s = .next ((s.setPage die page 0).pageMoved die page)) ∧
  (∀ (s : State) (die page : Nat), RegTable.implemented die page = true → s.pageState die page = 3 → s.pageQuiet die
    page = true → s.flag die (F.PG_RESTART_PEND page) = false → s.flag die (F.PG_EN page) = true → s.flag die
    (F.PG_DRAIN page) = false → exec (.pageDrainEnd die page) s = .next ((s.setPage die page 2).pageMoved die page)) ∧
  (∀ (s : State) (die page : Nat), RegTable.implemented die page = true → s.pageState die page = 3 → s.pageQuiet die
    page = true → s.flag die (F.PG_RESTART_PEND page) = false → s.flag die (F.PG_EN page) = true → s.flag die
    (F.PG_DRAIN page) = true → exec (.pageDrainEnd die page) s = .next s) ∧
  (∀ (s : State) (die page port : Nat) (u : State), RegTable.implemented die page = true → s.present die = true →
    s.flag die (F.PG_COMMIT_PEND page) = true → s.loadLets = true → s.atBoundary die page port = true → u = s.attnSync
    → u.commitOk die page (u.shadowWord die page) = true → (portPage die page = false ∨ u.pageStill die page = true) →
    exec (.commitTakeEffect die page port) s = .next ((u.commitAll die page).attnSync)) ∧
  (∀ (s : State) (die page port : Nat) (u : State), RegTable.implemented die page = true → s.present die = true →
    s.flag die (F.PG_COMMIT_PEND page) = true → s.loadLets = true → s.atBoundary die page port = true → u = s.attnSync
    → u.commitOk die page (u.shadowWord die page) = true → portPage die page = true → u.pageStill die page = false →
    port < 8 → exec (.commitTakeEffect die page port) s = .next (u.commitPort die page port)) ∧
  (∀ (s : State) (die page port : Nat) (u : State), RegTable.implemented die page = true → s.present die = true →
    s.flag die (F.PG_COMMIT_PEND page) = true → s.loadLets = true → s.atBoundary die page port = true → u = s.attnSync
    → u.commitOk die page (u.shadowWord die page) = false → exec (.commitTakeEffect die page port) s = .next ((((u.set
    die (F.PG_COMMIT_PEND page) 0).raise die page 30).err die page 4).attnSync))

/-- A host write by address: registers and windows of the anchor, of a field die and of all dies, and refused writes.
  A write at an address that exists, of the anchor or of a die in service, woken first, is the register write at its
  page and offset, or the store of the word in its window and nowhere else; the level changes of a field die then
  reach the interrupt controller. A misaligned or absent address, or a die that is absent or not in service, changes
  nothing; a write to all dies is the write at each die in service. A read-only window records WINDOW_RO, a program
  word in use, or a word of the RX area of a running exchange, WINDOW_BUSY, on the owning page; a locked page records
  WRITE_LOCKED but for PG_EVT and PG_EVT_EN. -/
def Obligations.HostWrites : Prop :=
  (∀ (s : State) (addr : Nat) (value : Word) (d p o : Nat) (u : State) (v : State), s.awake = true → d = addrDie addr
    → s.addrOk addr = true → p = addrPage addr → o = addrOff addr → u = s.touchDie d → windowOf d p = .none → v =
    (u.regWrite d p o value).1 → exec (.registerWrite addr value) s = .next ((if d = 0 then v else (v.icuDeliverDie
    d).attnSync))) ∧
  (∀ (s : State) (addr : Nat) (value : Word) (d p o : Nat) (u : State), s.awake = true → d = addrDie addr → s.addrOk
    addr = true → p = addrPage addr → o = addrOff addr → u = s.touchDie d → windowOf d p = .none → o ≠ 0x00C → o ≠
    0x010 → u.flag d (F.PG_LOCK p) = true → exec (.registerWrite addr value) s = .next ((if d = 0 then u.err d p 1
    else ((u.err d p 1).icuDeliverDie d).attnSync))) ∧
  (∀ (s : State) (addr : Nat) (value : Word), s.awake = true → addrDie addr ≠ 15 → s.addrOk addr = false → exec
    (.registerWrite addr value) s = .next s) ∧
  (∀ (s : State) (addr : Nat) (value : Word), s.awake = true → addrDie addr ≠ 15 → s.addrOk addr = false → exec
    (.windowWrite addr value) s = .next s) ∧
  (∀ (s : State) (addr : Nat) (value : Word) (d p o : Nat) (u : State) (k : Window), s.awake = true → d = addrDie addr
    → s.addrOk addr = true → p = addrPage addr → o = addrOff addr → u = s.touchDie d → k = windowOf d p → k.writable =
    true → k = .program → u.protectedWord (1024 * (p - 0xB0) + o / 4) = false → k = .frames → u.rxWord d (4096 * (p -
    0x44) + o) = false → exec (.windowWrite addr value) s = .next ((if d = 0 then u.setMemWord (hostAddr d p o) value
    else ((u.setMemWord (hostAddr d p o) value).icuDeliverDie d).attnSync))) ∧
  (∀ (s : State) (addr : Nat) (value : Word) (d p o : Nat) (u : State) (k : Window), s.awake = true → d = addrDie addr
    → s.addrOk addr = true → p = addrPage addr → o = addrOff addr → u = s.touchDie d → k = windowOf d p → k ≠ .none →
    k.writable = false → exec (.windowWrite addr value) s = .next ((if d = 0 then u.err d k.owner 6 else ((u.err d
    k.owner 6).icuDeliverDie d).attnSync))) ∧
  (∀ (s : State) (addr : Nat) (value : Word) (d p o : Nat) (u : State) (k : Window), s.awake = true → d = addrDie addr
    → s.addrOk addr = true → p = addrPage addr → o = addrOff addr → u = s.touchDie d → k = windowOf d p → (k =
    .program ∧ u.protectedWord (1024 * (p - 0xB0) + o / 4) = true ∨ k = .frames ∧ u.rxWord d (4096 * (p - 0x44) + o) =
    true) → exec (.windowWrite addr value) s = .next ((if d = 0 then u.err d k.owner 5 else ((u.err d k.owner
    5).icuDeliverDie d).attnSync))) ∧
  (∀ (s : State) (addr : Nat) (value : Word) (p : Nat), s.awake = true → addrDie addr = 15 → addr % 4 = 0 → p =
    addrPage addr → pageExists 1 p = true → windowOf 1 p = .none → exec (.registerWrite addr value) s = .next
    (((List.range s.dies).filter (fun i => s.inService (i + 1))).foldl (fun (z : State) i => (z.putAt (i + 1) p
    (addrOff addr) value).1) s)) ∧
  (∀ (s : State) (addr : Nat) (value : Word) (p : Nat), s.awake = true → addrDie addr = 15 → addr % 4 = 0 → p =
    addrPage addr → pageExists 1 p = true → windowOf 1 p ≠ .none → exec (.windowWrite addr value) s = .next
    (((List.range s.dies).filter (fun i => s.inService (i + 1))).foldl (fun (z : State) i => (z.putAt (i + 1) p
    (addrOff addr) value).1) s))

/-- What each frame of the host serial port does once its command byte has arrived. In a device that is not OFF or in
  RESET, for a frame of at least eight clocks: STATUS shifts out repetitions of the status byte as the state stands,
  and goes on or ends; WAKE does nothing more; READ and HAMPER_READ with their header complete shift out the token and
  their data once it is ready, end without data when the clocks end before it, and stay open when it is not ready; the
  data of a HAMPER_READ are its grant word, the words consumed and zeros; WRITE writes its complete words in order;
  WRITE_COMMIT asks for the commit after accepted words and else reports 0x0108; PROFILE_LOAD starts the load of one
  of the four slots, or reports its code; SOFT_RESET with both keys and 24 clocks resets, and else reports its code; a
  byte that is no command reports 0x0102. -/
def Obligations.SerialFrames : Prop :=
  (∀ (s : State) (mode3 : Bool) (clocks : Nat) (more : Bool), s.device ≠ .off → s.device ≠ .reset → s.hsp.statusOn =
    true → exec (.status mode3 clocks more) s = .next (s.statusOut clocks more)) ∧
  (∀ (s : State) (mode3 : Bool) (clocks : Nat) (more : Bool), s.device ≠ .off → s.device ≠ .reset → s.hsp.statusOn =
    false → 0 < clocks → exec (.status mode3 clocks more) s = .next ((s.frameBegin.set 0 F.HSP_STAT_MODE (b2n
    mode3)).statusOut clocks more)) ∧
  (∀ (s : State) (mode3 : Bool) (clocks : Nat) (more : Bool), s.device ≠ .off → s.device ≠ .reset → s.hsp.statusOn =
    false → clocks = 0 → exec (.status mode3 clocks more) s = .next (s.frameBegin.statusOut 0 more)) ∧
  (∀ (s : State) (mode3 : Bool) (clocks : Nat) (u : State), s.device ≠ .off → s.device ≠ .reset → 8 ≤ clocks → u =
    s.frameShift mode3 clocks → exec (.wake mode3 clocks) s = .next (u.frameEnd 0)) ∧
  (∀ (s : State) (addr : Nat) (mode3 fast : Bool) (clocks : Nat) (ready : Option Nat) (ahead : Nat) (u : State) (d :
    Nat) (raised : Bool), s.device ≠ .off → s.device ≠ .reset → 8 ≤ clocks → u = s.frameShift mode3 clocks → u.ready =
    true → u.dummyClocks fast = (d, raised) → clocks < 32 + d → exec (.read addr mode3 fast clocks ready ahead) s =
    .next (u.frameEnd 0x0103)) ∧
  (∀ (s : State) (addr : Nat) (mode3 fast : Bool) (clocks : Nat) (ready : Option Nat) (ahead : Nat) (u v : State) (d :
    Nat) (raised : Bool), s.device ≠ .off → s.device ≠ .reset → 8 ≤ clocks → u = s.frameShift mode3 clocks → u.ready =
    true → u.dummyClocks fast = (d, raised) → 32 + d ≤ clocks → v = u.dummyUsed d raised → ready = none → exec (.read
    addr mode3 fast clocks ready ahead) s = .next ({ v with hsp := { v.hsp with frame := some (false, addr) } })) ∧
  (∀ (s : State) (addr : Nat) (mode3 fast : Bool) (clocks : Nat) (ready : Option Nat) (ahead : Nat) (u v : State) (d k
    : Nat) (raised : Bool), s.device ≠ .off → s.device ≠ .reset → 8 ≤ clocks → u = s.frameShift mode3 clocks → u.ready
    = true → u.dummyClocks fast = (d, raised) → 32 + d ≤ clocks → v = u.dummyUsed d raised → ready = some k → clocks ≤
    32 + d + 8 * k → exec (.read addr mode3 fast clocks ready ahead) s = .next (v.frameEnd 0)) ∧
  (∀ (s : State) (addr : Nat) (mode3 fast : Bool) (clocks : Nat) (ready : Option Nat) (ahead : Nat) (u v x : State) (d
    k : Nat) (raised : Bool), s.device ≠ .off → s.device ≠ .reset → 8 ≤ clocks → u = s.frameShift mode3 clocks →
    u.ready = true → u.dummyClocks fast = (d, raised) → 32 + d ≤ clocks → v = u.dummyUsed d raised → ready = some k →
    32 + d + 8 * k < clocks → x = ({ v with hsp := { v.hsp with line := v.hsp.line.take (32 + d + 8 * k) } } :
    State).shiftOut ((frameBits 8 0xA5).take (clocks - (32 + d + 8 * k))) → exec (.read addr mode3 fast clocks ready
    ahead) s = .next (x.readData addr (clocks - (32 + d + 8 * k + 8)) ahead)) ∧
  (∀ (s : State) (mask : Nat) (mode3 fast : Bool) (clocks : Nat) (ready : Option Nat) (u : State) (d : Nat) (raised :
    Bool), s.device ≠ .off → s.device ≠ .reset → 8 ≤ clocks → u = s.frameShift mode3 clocks → u.ready = true →
    u.dummyClocks fast = (d, raised) → clocks < 32 + d → exec (.hamperRead mask mode3 fast clocks ready) s = .next
    (u.frameEnd 0x0103)) ∧
  (∀ (s : State) (mask : Nat) (mode3 fast : Bool) (clocks : Nat) (ready : Option Nat) (u v : State) (d : Nat) (raised
    : Bool), s.device ≠ .off → s.device ≠ .reset → 8 ≤ clocks → u = s.frameShift mode3 clocks → u.ready = true →
    u.dummyClocks fast = (d, raised) → 32 + d ≤ clocks → v = u.dummyUsed d raised → ready = none → exec (.hamperRead
    mask mode3 fast clocks ready) s = .next ({ v with hsp := { v.hsp with frame := some (true, mask) } })) ∧
  (∀ (s : State) (mask : Nat) (mode3 fast : Bool) (clocks : Nat) (ready : Option Nat) (u v : State) (d k : Nat)
    (raised : Bool), s.device ≠ .off → s.device ≠ .reset → 8 ≤ clocks → u = s.frameShift mode3 clocks → u.ready = true
    → u.dummyClocks fast = (d, raised) → 32 + d ≤ clocks → v = u.dummyUsed d raised → ready = some k → clocks ≤ 32 + d
    + 8 * k → exec (.hamperRead mask mode3 fast clocks ready) s = .next (v.frameEnd 0)) ∧
  (∀ (s : State) (mask : Nat) (mode3 fast : Bool) (clocks : Nat) (ready : Option Nat) (u v x : State) (d k : Nat)
    (raised : Bool), s.device ≠ .off → s.device ≠ .reset → 8 ≤ clocks → u = s.frameShift mode3 clocks → u.ready = true
    → u.dummyClocks fast = (d, raised) → 32 + d ≤ clocks → v = u.dummyUsed d raised → ready = some k → 32 + d + 8 * k
    < clocks → x = ({ v with hsp := { v.hsp with line := v.hsp.line.take (32 + d + 8 * k) } } : State).shiftOut
    ((frameBits 8 0xA5).take (clocks - (32 + d + 8 * k))) → exec (.hamperRead mask mode3 fast clocks ready) s = .next
    (x.hamperData mask (clocks - (32 + d + 8 * k + 8)))) ∧
  (∀ (s : State) (addr : Nat) (data : List Word) (mode3 : Bool) (clocks : Nat) (u v : State) (code : Nat), s.device ≠
    .off → s.device ≠ .reset → 8 ≤ clocks → u = s.frameShift mode3 clocks → u.ready = true → 32 ≤ clocks → u.writeData
    none addr (data.take ((clocks - 32) / 32)) clocks = (v, code) → exec (.write addr data mode3 clocks) s = .next
    (v.frameEnd code)) ∧
  (∀ (s : State) (addr : Nat) (data : List Word) (mode3 : Bool) (clocks : Nat) (u v : State) (ws : List Word),
    s.device ≠ .off → s.device ≠ .reset → 8 ≤ clocks → u = s.frameShift mode3 clocks → u.ready = true → 32 ≤ clocks →
    ws = data.take ((clocks - 32) / 32) → ws ≠ [] → u.writeData (some (addr / 4096)) addr ws clocks = (v, 0) → exec
    (.writeCommit addr data mode3 clocks) s = .next ((v.requestCommit addr).frameEnd 0)) ∧
  (∀ (s : State) (addr : Nat) (data : List Word) (mode3 : Bool) (clocks : Nat) (u v : State) (ws : List Word) (code :
    Nat), s.device ≠ .off → s.device ≠ .reset → 8 ≤ clocks → u = s.frameShift mode3 clocks → u.ready = true → 32 ≤
    clocks → ws = data.take ((clocks - 32) / 32) → u.writeData (some (addr / 4096)) addr ws clocks = (v, code) → (ws =
    [] ∨ code ≠ 0) → exec (.writeCommit addr data mode3 clocks) s = .next (v.frameEnd 0x0108)) ∧
  (∀ (s : State) (addr : Nat) (data : List Word) (mode3 : Bool) (clocks : Nat) (u : State), s.device ≠ .off → s.device
    ≠ .reset → 8 ≤ clocks → u = s.frameShift mode3 clocks → u.ready = true → clocks < 32 → exec (.write addr data
    mode3 clocks) s = .next (u.frameEnd 0x0103)) ∧
  (∀ (s : State) (addr : Nat) (data : List Word) (mode3 : Bool) (clocks : Nat) (u : State), s.device ≠ .off → s.device
    ≠ .reset → 8 ≤ clocks → u = s.frameShift mode3 clocks → u.ready = true → clocks < 32 → exec (.writeCommit addr
    data mode3 clocks) s = .next (u.frameEnd 0x0103)) ∧
  (∀ (s : State) (addr : Nat) (mode3 : Bool) (clocks : Nat) (u : State), s.device ≠ .off → s.device ≠ .reset → 8 ≤
    clocks → u = s.frameShift mode3 clocks → u.ready = true → clocks < 32 → exec (.profileLoad addr mode3 clocks) s =
    .next (u.frameEnd 0x0103)) ∧
  (∀ (s : State) (addr : Nat) (mode3 : Bool) (clocks : Nat) (u : State), s.device ≠ .off → s.device ≠ .reset → 8 ≤
    clocks → u = s.frameShift mode3 clocks → u.ready = true → 32 ≤ clocks → addr < 4 → u.load = none → u.power.phase =
    .none → exec (.profileLoad addr mode3 clocks) s = .next ((u.startLoad addr).frameEnd 0)) ∧
  (∀ (s : State) (addr : Nat) (mode3 : Bool) (clocks : Nat) (u : State), s.device ≠ .off → s.device ≠ .reset → 8 ≤
    clocks → u = s.frameShift mode3 clocks → u.ready = true → 32 ≤ clocks → addr < 4 → (u.load ≠ none ∨ u.power.phase
    ≠ .none) → exec (.profileLoad addr mode3 clocks) s = .next ((u.startLoad addr).frameEnd 7)) ∧
  (∀ (s : State) (addr : Nat) (mode3 : Bool) (clocks : Nat) (u : State), s.device ≠ .off → s.device ≠ .reset → 8 ≤
    clocks → u = s.frameShift mode3 clocks → u.ready = true → 32 ≤ clocks → 4 ≤ addr → exec (.profileLoad addr mode3
    clocks) s = .next (u.frameEnd 0x0105)) ∧
  (∀ (s : State) (key0 key1 : Nat) (mode3 : Bool) (clocks : Nat) (u : State), s.device ≠ .off → s.device ≠ .reset → 8
    ≤ clocks → u = s.frameShift mode3 clocks → u.ready = true → clocks = 24 → key0 = 0xA5 → key1 = 0x5A → exec
    (.softReset key0 key1 mode3 clocks) s = .next ((u.frameEnd 0).resetDevice 2)) ∧
  (∀ (s : State) (key0 key1 : Nat) (mode3 : Bool) (clocks : Nat) (u : State), s.device ≠ .off → s.device ≠ .reset → 8
    ≤ clocks → u = s.frameShift mode3 clocks → u.ready = true → (clocks ≠ 24 ∨ key0 ≠ 0xA5 ∨ key1 ≠ 0x5A) → (24 ≤
    clocks ∨ clocks = 8 ∨ clocks = 16) → exec (.softReset key0 key1 mode3 clocks) s = .next (u.frameEnd 0x0106)) ∧
  (∀ (s : State) (key0 key1 : Nat) (mode3 : Bool) (clocks : Nat) (u : State), s.device ≠ .off → s.device ≠ .reset → 8
    ≤ clocks → u = s.frameShift mode3 clocks → u.ready = true → clocks < 24 → clocks ≠ 8 → clocks ≠ 16 → exec
    (.softReset key0 key1 mode3 clocks) s = .next (u.frameEnd 0x0103)) ∧
  (∀ (s : State) (cmd : Nat) (mode3 : Bool) (clocks : Nat) (u : State), s.device ≠ .off → s.device ≠ .reset → 8 ≤
    clocks → u = s.frameShift mode3 clocks → hspCommands.contains cmd = false → exec (.unknownCmd cmd mode3 clocks) s
    = .next (u.frameEnd 0x0102)) ∧
  (∀ (s : State) (n : Nat), 8 ≤ s.hsp.line.length → s.hsp.line.length % 8 = 0 →
    (s.statusOut n true).hsp.line =
      s.hsp.line ++ ((List.replicate ((n + 7) / 8) (frameBits 8 (s.statusByte s.hsp.err))).flatten).take n ∧
    (s.statusOut n true).hsp.out = s.hsp.out ++ List.replicate (n / 8) (word (s.statusByte s.hsp.err)) ∧
    (s.statusOut n true).hsp.statusOn = true ∧ (s.statusOut n true).hsp.selLow = s.hsp.selLow ∧
    s.statusOut n false = (s.statusClocks n).frameEnd 0) ∧
  (∀ (s : State) (n : Nat), s.hsp.line = [] → 8 ≤ n →
    s.statusOut n true = ({ s with hsp := { s.hsp with line := frameBits 8 s.hsp.status } } : State).statusOut (n - 8) true) ∧
  (∀ (s : State) (m : Bool) (n : Nat), (s.frameShift m n).hsp.line =
    (frameBits 8 s.frameBegin.hsp.status ++ List.replicate (n - 8) false).take n ∧ (s.frameShift m n).hsp.out = []) ∧
  (∀ (s u : State) (mask clocks : Nat) (l : List Nat) (g : Word) (ws : List Word), mask < 16 → s.grant .hsp mask = (l, g) →
    s.attnSync.consumeWords .hsp (l.take ((clocks - 32) / 32)) = (u, ws) →
    ∃ v : State, s.hamperData mask clocks = ((if ws.isEmpty then v else v.creditsBack).attnSync).frameEnd 0 ∧
      v.classes = u.classes ∧ v.hsp.out =
        (if clocks = 0 then [] else g :: (ws ++ List.replicate ((clocks - 32) / 32 - ws.length) 0)))

/-- Serial frames that are cut short, come too early or time out, and the wake by HSEL. A frame of 1 to 7 clocks,
  whatever its command, ends with code 0x0103, and one without a clock only begins. Before READY a frame whose command
  needs it ends with 0x0101. A READ or HAMPER_READ in its token phase shifts out the token and its data when the word
  is ready, or the timeout token, raises TIMEOUT and ends with 0x0107. HSEL falling is wake source 5. -/
def Obligations.SerialFrameErrors : Prop :=
  (∀ (s : State) (addr : Nat) (mode3 fast : Bool) (clocks : Nat) (ready : Option Nat) (ahead : Nat), s.device ≠ .off →
    s.device ≠ .reset → 0 < clocks → clocks < 8 → exec (.read addr mode3 fast clocks ready ahead) s = .next
    ((s.frameShift mode3 clocks).frameEnd 0x0103)) ∧
  (∀ (s : State) (addr : Nat) (mode3 fast : Bool) (clocks : Nat) (ready : Option Nat) (ahead : Nat), s.device ≠ .off →
    s.device ≠ .reset → clocks = 0 → exec (.read addr mode3 fast clocks ready ahead) s = .next
    ({ s.frameBegin with hsp := { s.frameBegin.hsp with selLow := false } })) ∧
  (∀ (s : State) (mask : Nat) (mode3 fast : Bool) (clocks : Nat) (ready : Option Nat), s.device ≠ .off → s.device ≠
    .reset → 0 < clocks → clocks < 8 → exec (.hamperRead mask mode3 fast clocks ready) s = .next ((s.frameShift mode3
    clocks).frameEnd 0x0103)) ∧
  (∀ (s : State) (mask : Nat) (mode3 fast : Bool) (clocks : Nat) (ready : Option Nat), s.device ≠ .off → s.device ≠
    .reset → clocks = 0 → exec (.hamperRead mask mode3 fast clocks ready) s = .next
    ({ s.frameBegin with hsp := { s.frameBegin.hsp with selLow := false } })) ∧
  (∀ (s : State) (addr : Nat) (data : List Word) (mode3 : Bool) (clocks : Nat), s.device ≠ .off → s.device ≠ .reset →
    0 < clocks → clocks < 8 → exec (.write addr data mode3 clocks) s = .next ((s.frameShift mode3 clocks).frameEnd
    0x0103)) ∧
  (∀ (s : State) (addr : Nat) (data : List Word) (mode3 : Bool) (clocks : Nat), s.device ≠ .off → s.device ≠ .reset →
    clocks = 0 → exec (.write addr data mode3 clocks) s = .next
    ({ s.frameBegin with hsp := { s.frameBegin.hsp with selLow := false } })) ∧
  (∀ (s : State) (addr : Nat) (data : List Word) (mode3 : Bool) (clocks : Nat), s.device ≠ .off → s.device ≠ .reset →
    0 < clocks → clocks < 8 → exec (.writeCommit addr data mode3 clocks) s = .next ((s.frameShift mode3
    clocks).frameEnd 0x0103)) ∧
  (∀ (s : State) (addr : Nat) (data : List Word) (mode3 : Bool) (clocks : Nat), s.device ≠ .off → s.device ≠ .reset →
    clocks = 0 → exec (.writeCommit addr data mode3 clocks) s = .next
    ({ s.frameBegin with hsp := { s.frameBegin.hsp with selLow := false } })) ∧
  (∀ (s : State) (addr : Nat) (mode3 : Bool) (clocks : Nat), s.device ≠ .off → s.device ≠ .reset → 0 < clocks → clocks
    < 8 → exec (.profileLoad addr mode3 clocks) s = .next ((s.frameShift mode3 clocks).frameEnd 0x0103)) ∧
  (∀ (s : State) (addr : Nat) (mode3 : Bool) (clocks : Nat), s.device ≠ .off → s.device ≠ .reset → clocks = 0 → exec
    (.profileLoad addr mode3 clocks) s = .next
    ({ s.frameBegin with hsp := { s.frameBegin.hsp with selLow := false } })) ∧
  (∀ (s : State) (key0 key1 : Nat) (mode3 : Bool) (clocks : Nat), s.device ≠ .off → s.device ≠ .reset → 0 < clocks →
    clocks < 8 → exec (.softReset key0 key1 mode3 clocks) s = .next ((s.frameShift mode3 clocks).frameEnd 0x0103)) ∧
  (∀ (s : State) (key0 key1 : Nat) (mode3 : Bool) (clocks : Nat), s.device ≠ .off → s.device ≠ .reset → clocks = 0 →
    exec (.softReset key0 key1 mode3 clocks) s = .next
    ({ s.frameBegin with hsp := { s.frameBegin.hsp with selLow := false } })) ∧
  (∀ (s : State) (mode3 : Bool) (clocks : Nat), s.device ≠ .off → s.device ≠ .reset → 0 < clocks → clocks < 8 → exec
    (.wake mode3 clocks) s = .next ((s.frameShift mode3 clocks).frameEnd 0x0103)) ∧
  (∀ (s : State) (mode3 : Bool) (clocks : Nat), s.device ≠ .off → s.device ≠ .reset → clocks = 0 → exec (.wake mode3
    clocks) s = .next ({ s.frameBegin with hsp := { s.frameBegin.hsp with selLow := false } })) ∧
  (∀ (s : State) (cmd : Nat) (mode3 : Bool) (clocks : Nat), hspCommands.contains cmd = false → s.device ≠ .off →
    s.device ≠ .reset → 0 < clocks → clocks < 8 → exec (.unknownCmd cmd mode3 clocks) s = .next ((s.frameShift mode3
    clocks).frameEnd 0x0103)) ∧
  (∀ (s : State) (cmd : Nat) (mode3 : Bool) (clocks : Nat), hspCommands.contains cmd = false → s.device ≠ .off →
    s.device ≠ .reset → clocks = 0 → exec (.unknownCmd cmd mode3 clocks) s = .next
    ({ s.frameBegin with hsp := { s.frameBegin.hsp with selLow := false } })) ∧
  (∀ (s : State) (mode3 : Bool) (clocks : Nat) (more : Bool), s.device ≠ .off → s.device ≠ .reset → s.hsp.statusOn =
    false → 0 < clocks → clocks < 8 → more = false → exec (.status mode3 clocks more) s = .next ((s.frameShift mode3
    clocks).frameEnd 0x0103)) ∧
  (∀ (s : State) (addr : Nat) (mode3 fast : Bool) (clocks : Nat) (ready : Option Nat) (ahead : Nat), s.device ≠ .off →
    s.device ≠ .reset → 8 ≤ clocks → (s.frameShift mode3 clocks).ready = false → exec (.read addr mode3 fast clocks
    ready ahead) s = .next ((s.frameShift mode3 clocks).frameEnd 0x0101)) ∧
  (∀ (s : State) (mask : Nat) (mode3 fast : Bool) (clocks : Nat) (ready : Option Nat), s.device ≠ .off → s.device ≠
    .reset → 8 ≤ clocks → (s.frameShift mode3 clocks).ready = false → exec (.hamperRead mask mode3 fast clocks ready)
    s = .next ((s.frameShift mode3 clocks).frameEnd 0x0101)) ∧
  (∀ (s : State) (addr : Nat) (data : List Word) (mode3 : Bool) (clocks : Nat), s.device ≠ .off → s.device ≠ .reset →
    8 ≤ clocks → (s.frameShift mode3 clocks).ready = false → exec (.write addr data mode3 clocks) s = .next
    ((s.frameShift mode3 clocks).frameEnd 0x0101)) ∧
  (∀ (s : State) (addr : Nat) (data : List Word) (mode3 : Bool) (clocks : Nat), s.device ≠ .off → s.device ≠ .reset →
    8 ≤ clocks → (s.frameShift mode3 clocks).ready = false → exec (.writeCommit addr data mode3 clocks) s = .next
    ((s.frameShift mode3 clocks).frameEnd 0x0101)) ∧
  (∀ (s : State) (addr : Nat) (mode3 : Bool) (clocks : Nat), s.device ≠ .off → s.device ≠ .reset → 8 ≤ clocks →
    (s.frameShift mode3 clocks).ready = false → exec (.profileLoad addr mode3 clocks) s = .next ((s.frameShift mode3
    clocks).frameEnd 0x0101)) ∧
  (∀ (s : State) (key0 key1 : Nat) (mode3 : Bool) (clocks : Nat), s.device ≠ .off → s.device ≠ .reset → 8 ≤ clocks →
    (s.frameShift mode3 clocks).ready = false → exec (.softReset key0 key1 mode3 clocks) s = .next ((s.frameShift
    mode3 clocks).frameEnd 0x0101)) ∧
  (∀ (s : State) (clocks ahead : Nat) (mask : Nat), s.hsp.frame = some (true, mask) → exec (.tokenReady clocks ahead)
    s = .next ((s.token 0xA5).hamperData mask clocks)) ∧
  (∀ (s : State) (clocks ahead : Nat) (addr : Nat), s.hsp.frame = some (false, addr) → exec (.tokenReady clocks ahead)
    s = .next ((s.token 0xA5).readData addr clocks ahead)) ∧
  (∀ (s : State) (clocks : Nat) (x : Bool × Nat), s.hsp.frame = some x → exec (.readTimeout clocks) s = .next
    ((((s.token 0xE7).shiftOut (List.replicate clocks false)).raise 0 0x06 2).frameEnd 0x0107)) ∧
  (∀ (s : State), exec (.hselWake) s = .next (s.wakeBy 5 0))

/-- What the end of a serial frame leaves: ERR, LASTERR, the reject count and its event. A frame end puts the code
  into LASTERR and ERR is 1 exactly with a code; no frame stays open; nothing else of the port and no window byte
  changes; with a code only the HSP page and the interrupt controller change, and without one only LASTERR. -/
def Obligations.FrameEndRecords : Prop :=
  ∀ (s : State) (code : Nat), code < 65536 →
    (s.frameEnd code).get 0 F.HSP_LASTERR_CODE = code ∧
    (s.frameEnd code).hsp = { s.hsp with err := code != 0, frame := none, statusOn := false, selLow := false } ∧
    (s.frameEnd code).mem = s.mem ∧
    s.sameOutside (s.frameEnd code) [0x05, 0x06] ∧
    (code = 0 → ∀ d p o, hostAddr d p o ≠ hostAddr 0 0x06 F.HSP_LASTERR_CODE.off → (s.frameEnd code).reg d p o = s.reg d p o)

/-- What the transfers of the two-wire port do: writes, reads, quick commands, the control block, the stream and
  stretches. Outside an attention and a stretch: a write or read with a START is served when its address is
  acknowledged, and else has no effect beyond the START; a transfer in progress that is addressed to the device in
  that direction goes on. The first byte of a write sets the pointer. A START with the own address is acknowledged in
  a device that is ready and begins or goes on with the transfer; another address is not. A quick command changes the
  bus, and ends a transfer. The write of WIN_MID applies WIN_BASE; GRANT2 fixes a grant; STREAM gives the next byte (0
  after a serial grant overtook it: log entry 109); before READY each is rejected. A stretched access completes, or
  times out with 0x0107, a read then sending 0x00. -/
def Obligations.TwoWireTransfers : Prop :=
  (∀ (s : State) (start : Option Nat) (bytes : List Byte) (stretch stop : Bool) (u : State) (addr : Nat), s.attnActive
    = false → s.htw.stretch = none → start = some addr → s.twStart addr false = (u, true) → exec (.twWriteTransfer
    start bytes stretch stop) s = .next ((u.twPutAll stretch bytes).twStop stop)) ∧
  (∀ (s : State) (start : Option Nat) (bytes : List Byte) (stretch stop : Bool) (u : State) (addr : Nat), s.attnActive
    = false → s.htw.stretch = none → start = some addr → s.twStart addr false = (u, false) → exec (.twWriteTransfer
    start bytes stretch stop) s = .next (u.twStop stop)) ∧
  (∀ (s : State) (start : Option Nat) (bytes : List Byte) (stretch stop : Bool), s.attnActive = false → s.htw.stretch
    = none → start = none → s.twServes false = true → exec (.twWriteTransfer start bytes stretch stop) s = .next
    ((s.twPutAll stretch bytes).twStop stop)) ∧
  (∀ (s : State) (start : Option Nat) (bytes : List Byte) (stretch stop : Bool), s.attnActive = false → s.htw.stretch
    = none → start = none → s.twServes false = false → exec (.twWriteTransfer start bytes stretch stop) s = .next
    (s.twStop stop)) ∧
  (∀ (s : State) (start : Option Nat) (count : Nat) (stretch stop : Bool) (u : State) (addr : Nat), s.attnActive =
    false → s.htw.stretch = none → start = some addr → s.twStart addr true = (u, true) → exec (.twReadTransfer start
    count stretch stop) s = .next (((u.twGetAll count).twHold stretch).twStop stop)) ∧
  (∀ (s : State) (start : Option Nat) (count : Nat) (stretch stop : Bool) (u : State) (addr : Nat), s.attnActive =
    false → s.htw.stretch = none → start = some addr → s.twStart addr true = (u, false) → exec (.twReadTransfer start
    count stretch stop) s = .next (u.twStop stop)) ∧
  (∀ (s : State) (start : Option Nat) (count : Nat) (stretch stop : Bool), s.attnActive = false → s.htw.stretch = none
    → start = none → s.twServes true = true → exec (.twReadTransfer start count stretch stop) s = .next (((s.twGetAll
    count).twHold stretch).twStop stop)) ∧
  (∀ (s : State) (start : Option Nat) (count : Nat) (stretch stop : Bool), s.attnActive = false → s.htw.stretch = none
    → start = none → s.twServes true = false → exec (.twReadTransfer start count stretch stop) s = .next (s.twStop
    stop)) ∧
  (∀ (s : State) (addr : Nat) (read : Bool), s.attnActive = false → s.htw.stretch = none → s.htw.busy = true → exec
    (.quickCommand addr read) s = .next ((s.twStart addr read).1.twEnd)) ∧
  (∀ (s : State) (addr : Nat) (read : Bool) (u : State), s.attnActive = false → s.htw.stretch = none → s.htw.busy =
    false → s.twStart addr read = (u, true) → exec (.quickCommand addr read) s = .next (u.setHtw
    { s.htw with busFree := false })) ∧
  (∀ (s : State) (addr : Nat) (read : Bool) (u : State), s.attnActive = false → s.htw.stretch = none → s.htw.busy =
    false → s.twStart addr read = (u, false) → exec (.quickCommand addr read) s = .next u) ∧
  (∀ (s : State) (value : Byte) (stop : Bool), s.attnActive = false → s.htw.stretch = none → s.twServes false = true →
    s.htw.fresh = false → s.htw.pointer = 0xF1 → s.ready = true → exec (.winMidWrite value stop) s = .next ((s.setHtw
    { s.htw with mid := value.toNat, base := 65536 * s.htw.hi + 256 * value.toNat + s.htw.lo / 16 * 16, pointer := 0xF2 }).twStop
    stop)) ∧
  (∀ (s : State) (value : Byte) (stop : Bool), s.attnActive = false → s.htw.stretch = none → s.twServes false = true →
    s.htw.fresh = false → s.htw.pointer = 0xF1 → s.ready = false → exec (.winMidWrite value stop) s = .next
    (((s.twCode 0x0101).twNext false).twStop stop)) ∧
  (∀ (s : State) (stop : Bool) (l : List Nat) (g : Word), s.twReadsAt 0xF5 = true → s.ready = true → s.htw.dead =
    false → s.grant .htw s.htw.hmask = (l, g) → exec (.grant2Read stop) s = .next ((s.setHtw
    { s.htw with grant := some l, grantWord := g, streamed := 0, pointer := 0xF6, out := s.htw.out ++ [BitVec.ofNat 8 (128 * bits g 30 1 + 64 * bits g 31 1 + 16 * bits g 26 2 + bits g 16 1)] }).twStop
    stop)) ∧
  (∀ (s : State) (stop : Bool) (u : State), s.twReadsAt 0xF5 = true → s.ready = false → s.htw.dead = false → u =
    s.twCode 0x0101 → exec (.grant2Read stop) s = .next (((u.setHtw { u.htw with out := u.htw.out ++ [0] }).twNext
    true).twStop stop)) ∧
  (∀ (s : State) (stop : Bool) (u : State) (b : Byte), s.twReadsAt 0xF8 = true → s.ready = true → s.htw.dead = false →
    s.streamByte = (u, b) → exec (.streamRead stop) s = .next (((u.setHtw
    { u.htw with out := u.htw.out ++ [b] }).twNext true).twStop stop)) ∧
  (∀ (s : State) (stop : Bool) (u : State), s.twReadsAt 0xF8 = true → s.ready = false → s.htw.dead = false → u =
    s.twCode 0x0101 → exec (.streamRead stop) s = .next (((u.setHtw { u.htw with out := u.htw.out ++ [0] }).twNext
    true).twStop stop)) ∧
  (∀ (s : State) (a : Nat) (w : Word), s.htw.stretch = some (.write a w) → exec (.twStretchRelease) s = .next
    ((s.setHtw { s.htw with stretch := none }).twPutWord a w)) ∧
  (∀ (s : State) (a : Nat), s.htw.stretch = some (.read a) → exec (.twStretchRelease) s = .next ((s.setHtw
    { s.htw with stretch := none }).twGetWord a)) ∧
  (∀ (s : State) (a : Nat), s.htw.stretch = some (.read a) → exec (.twStretchTimeout) s = .next ((s.setHtw
    { s.htw with stretch := none, dead := true }).twCode 0x0107)) ∧
  (∀ (s : State) (a : Nat) (w : Word), s.htw.stretch = some (.write a w) → exec (.twStretchTimeout) s = .next
    ((s.setHtw { s.htw with stretch := none }).twCode 0x0107)) ∧
  (∀ (s : State) (addr : Nat) (read : Bool), s.device ≠ .off → s.device ≠ .reset →
    (addr ≠ s.get 0 F.HTW_STAT_OWN_ADDR → s.twStart addr read = (s.setHtw { s.htw with busFree := false, served := false }, false)) ∧
    (addr = s.get 0 F.HTW_STAT_OWN_ADDR → s.awake = true → s.power.phase = .none → s.ready = true → s.twStart addr read =
      (s.setHtw { s.htw with busFree := false, busy := true, served := true, fresh := !read, reading := read,
                             out := if read then [] else s.htw.out }, true))) ∧
  (∀ (s : State) (b : Byte) (hold : Bool), s.htw.fresh = true →
    s.twPut b hold = s.setHtw { s.htw with pointer := b.toNat, fresh := false }) ∧
  (∀ (s : State) (c : Nat) (rest : List Nat) (w : Word), s.htw.grant = some (c :: rest) → (s.cls c).nextWord = some w →
    ((s.cls c).openTo = some .hsp → s.streamByte = (s, 0)) ∧
    ((s.cls c).openTo ≠ some .hsp → s.htw.streamed < 3 →
      s.streamByte = (s.setHtw { s.htw with streamed := s.htw.streamed + 1 }, topByte w s.htw.streamed)) ∧
    ((s.cls c).openTo ≠ some .hsp → 3 ≤ s.htw.streamed → ∀ u : State,
      u = ((s.attnSync.consumeWord .htw c).creditsBack).attnSync →
      s.streamByte = (u.setHtw { u.htw with streamed := 0, grant := some rest }, topByte w 3)))

/-- Bus faults, attention writes and the address wake of the two-wire port. A protocol fault in a transfer is counted
  with its event and aborts it with code 0x0109. SCL or SDA held low sets its flag and event and ends a transfer with
  0x010A or 0x010B, rejects an attention with it, or only records it; the bus is no longer free. An attention takes
  the pending cause with the highest code and an attempt; the depth is taken when byte 3 starts. Sent, it drops its
  cause, with the bytes of the write and its event; lost to a NACK or to arbitration, it backs off, or is abandoned
  after the eighth attempt, or at once in the arbitration mode that does so; a controller that addresses the device is
  then served. A back-off ends on a free bus with the next attempt. The address that wakes the device is not
  acknowledged and is counted. -/
def Obligations.TwoWireFaultsAndAttention : Prop :=
  (∀ (s : State) (start : Bool) (u : State), s.htw.busy = true → u = ((s.countUp 0 F.HTW_CNT_PROTO_COUNT
    F.HTW_CNT_PROTO_OVF 1).raise 0 0x07 2).twAbort 0x0109 → exec (.busProto start) s = .next ((if start then u.setHtw
    { u.htw with busFree := false } else u))) ∧
  (∀ (s : State), s.twOn = true → s.htw.stretch = none → exec (.sclLow) s = .next (s.lowTimeout F.HTW_STAT_SCL_LOW 3
    0x010A)) ∧
  (∀ (s : State), s.twOn = true → exec (.sdaLow) s = .next (s.lowTimeout F.HTW_STAT_SDA_LOW 4 0x010B)) ∧
  (∀ (s : State), s.attnActive = false → exec (.busFree) s = .next (s.setHtw { s.htw with busFree := true })) ∧
  (∀ (s : State) (depth : Bool) (c : Nat), depth = false → s.awake = true → s.htw.attn = none → s.htw.busy = false →
    s.htw.busFree = true → topCause (s.attnSync.get 0 F.HTW_STAT_ATTN_PEND) = some c → exec (.attentionStart depth) s
    = .next (s.attnSync.attempt c 1)) ∧
  (∀ (s : State) (depth : Bool), depth = false → s.awake = true → s.htw.attn = none → s.htw.busy = false →
    s.htw.busFree = true → topCause (s.attnSync.get 0 F.HTW_STAT_ATTN_PEND) = none → exec (.attentionStart depth) s =
    .next (s.attnSync)) ∧
  (∀ (s : State) (depth : Bool), depth = true → s.attnActive = true → s.htw.depth = none → exec (.attentionStart
    depth) s = .next (s.setHtw { s.htw with depth := some (min 65535 s.fill) })) ∧
  (∀ (s : State) (c dep : Nat) (u v : State), s.htw.backoff = false → s.htw.attn = some c → u = s.attnDrop → dep =
    s.htw.depth.getD (min 65535 s.fill) → v = u.setHtw
    { u.htw with sent := [2 * s.get 0 F.HTW_HOSTADDR_ADDR, 2 * s.get 0 F.HTW_STAT_OWN_ADDR, c, dep / 256, dep % 256] }
    → exec (.attnSent) s = .next ((v.raise 0 0x07 7).attnOver)) ∧
  (∀ (s : State), s.attnActive = true → exec (.attnNack) s = .next ((s.raise 0 0x07 5).attnLost)) ∧
  (∀ (s : State) (edge own read : Bool) (u : State), s.attnActive = true → u = (s.countUp 0 F.HTW_CNT_ARB_COUNT
    F.HTW_CNT_ARB_OVF 1).raise 0 0x07 5 → (edge = false ∨ u.flag 0 F.HTW_CFG_ARB_MODE = false) → (own = false ∨ edge =
    true) → exec (.arbLost edge own read) s = .next (u.attnLost)) ∧
  (∀ (s : State) (edge own read : Bool) (u : State), s.attnActive = true → u = (s.countUp 0 F.HTW_CNT_ARB_COUNT
    F.HTW_CNT_ARB_OVF 1).raise 0 0x07 5 → (edge = false ∨ u.flag 0 F.HTW_CFG_ARB_MODE = false) → own = true → edge =
    false → exec (.arbLost edge own read) s = .next ((u.attnLost.twStart (u.attnLost.get 0 F.HTW_STAT_OWN_ADDR)
    read).1)) ∧
  (∀ (s : State) (edge own read : Bool) (u : State), s.attnActive = true → u = (s.countUp 0 F.HTW_CNT_ARB_COUNT
    F.HTW_CNT_ARB_OVF 1).raise 0 0x07 5 → edge = true → u.flag 0 F.HTW_CFG_ARB_MODE = true → exec (.arbLost edge own
    read) s = .next (((((u.attnDrop).err 0 0x07 0x010C).set 0 F.HTW_LASTERR_CODE 0x010C).raise 0 0x07 6).attnOver)) ∧
  (∀ (s : State) (c : Nat), s.awake = true → s.htw.backoff = true → s.htw.busFree = true → s.htw.busy = false →
    s.htw.attn = some c → exec (.attnBackoffEnd) s = .next (s.attempt c (s.get 0 F.HTW_STAT_ATTEMPT + 1))) ∧
  (∀ (s : State), (s.device = .deepSleep ∨ s.device = .watch) → s.power.waking = false → exec (.twAddressWake) s =
    .next (((s.wakeBy 6 0).setHtw { s.htw with busFree := false }).countUp 0 F.HTW_CNT_WAKENACK_COUNT
    F.HTW_CNT_WAKENACK_OVF 1)) ∧
  (∀ (s u v : State) (f : Fld) (e c : Nat), u = (s.set 0 f 1).raise 0 0x07 e →
    v = (if u.htw.busy then u.twAbort c else if u.attnActive then (u.attnReject c).attnOver else u.err 0 0x07 c) →
    s.lowTimeout f e c = v.setHtw { v.htw with busFree := false }) ∧
  (∀ s : State,
    (8 ≤ s.get 0 F.HTW_STAT_ATTEMPT →
      s.attnLost = ((((s.attnDrop).err 0 0x07 0x010D).set 0 F.HTW_LASTERR_CODE 0x010D).raise 0 0x07 8).attnOver) ∧
    (s.get 0 F.HTW_STAT_ATTEMPT < 8 → s.attnLost = (s.setHtw { s.htw with backoff := true }).set 0 F.HTW_STAT_CTRL 0))

/-- The field states of a slice: energise, ramps and the guard. A granted energise whose tick has come, on a port that
  is not guarded and a die that is not held OFF and does not wait for its LINE_OFS, goes on with the attenuation
  chosen first for the exchange of its port. From OFF it starts the ramp up with the settings of the grant, in
  RAMP_DOWN and DRAINING it becomes the pending restart, in ON it waits. RAMP_UP ends in ON, where the work of the
  port goes on and a held field-off acts; RAMP_DOWN ends in DRAINING with LIVE 0, its neighbours told, and an
  admission pass; the guard ends in FAULT after an open load (with CW_END after a CW period that had ended), in the
  pending restart with its event (and CW_END after a CW period), or in OFF with an admission pass. -/
def Obligations.SliceFieldStates : Prop :=
  (∀ (s : State) (die slice : Nat) (late : Bool) (u : State), s.fieldDie die = true → slice < 10 → s.fstate die slice
    ≤ 5 → (s.slice die slice).want ≠ none → (s.die die).heldOff = false → s.coord.lineBlocked.contains die = false →
    s.tickCome die slice = true → s.guardedSlice die slice = false → u = s.syncLate late → (∀ p e, u.servedPort die
    slice = some p → u.exch die p = some e → e.phase ≠ .energise ∨ e.origin.isExchange = false) → exec (.sliceEnergise
    die slice late) s = .next (u.energise die slice)) ∧
  (∀ (s : State) (die slice : Nat) (late : Bool) (u : State) (p : Nat) (e : Exch) (r : Drive), s.fieldDie die = true →
    slice < 10 → s.fstate die slice ≤ 5 → (s.slice die slice).want ≠ none → (s.die die).heldOff = false →
    s.coord.lineBlocked.contains die = false → s.tickCome die slice = true → s.guardedSlice die slice = false → u =
    s.syncLate late → u.servedPort die slice = some p → u.exch die p = some e → e.phase = .energise →
    e.origin.isExchange = true → (u.slice die slice).want = some r → exec (.sliceEnergise die slice late) s = .next
    ((u.chooseAtt die p r.level).energise die slice)) ∧
  (∀ (s : State) (die slice : Nat), s.fieldDie die = true → slice < 10 → s.fstate die slice = 1 → (s.setFstate die
    slice 2).servedPort die slice = none → exec (.rampUpEnd die slice) s = .next ((s.setFstate die slice 2).releaseOff
    die slice)) ∧
  (∀ (s : State) (die slice : Nat) (p : Nat), s.fieldDie die = true → slice < 10 → s.fstate die slice = 1 →
    (s.setFstate die slice 2).servedPort die slice = some p → exec (.rampUpEnd die slice) s = .next (((s.setFstate die
    slice 2).portOn die p).releaseOff die slice)) ∧
  (∀ (s : State) (die slice : Nat), s.fieldDie die = true → slice < 10 → s.fstate die slice = 4 → exec (.rampDownEnd
    die slice) s = .next (((((s.setFstate die slice 5).set die (F.SLC_FSTAT_LIVE slice) 0).phaseMove die
    slice).announce die slice .off).coordinate)) ∧
  (∀ (s : State) (die slice : Nat) (u : State), s.fieldDie die = true → slice < 10 → s.fstate die slice = 5 → (s.slice
    die slice).openFault = true → (u = (if (s.slice die slice).cw = true ∧ s.work (sliceWork die slice) = none then
    s.raise die (slcPage slice) 4 else s)) → exec (.guardEnd die slice) s = .next ((((u.faultSlice die slice
    0x0111).startWatchProbe die).darnFault die slice false).coordinate)) ∧
  (∀ (s : State) (die slice : Nat), s.fieldDie die = true → slice < 10 → s.fstate die slice = 5 → (s.slice die
    slice).openFault = false → (s.slice die slice).restart = none → exec (.guardEnd die slice) s = .next ((s.guardOff
    die slice).coordinate)) ∧
  (∀ (s : State) (die slice : Nat) (r : Drive) (u : State), s.fieldDie die = true → slice < 10 → s.fstate die slice =
    5 → (s.slice die slice).openFault = false → (s.slice die slice).restart = some r → s.guardedSlice die slice =
    false → u = ((s.setSlice die slice { s.slice die slice with restart := none }).startRamp die slice r).raise die
    (slcPage slice) 3 → exec (.guardEnd die slice) s = .next ((if (s.slice die slice).cw then u.raise die (slcPage
    slice) 4 else u))) ∧
  (∀ (s : State) (d sl : Nat) (r : Drive), (s.slice d sl).want = some r →
    (s.fstate d sl = 0 → s.energise d sl = (s.setSlice d sl { s.slice d sl with want := none }).startRamp d sl r) ∧
    (s.fstate d sl = 4 ∨ s.fstate d sl = 5 →
      s.energise d sl = s.setSlice d sl { s.slice d sl with want := none, restart := some r }) ∧
    (s.fstate d sl = 2 ∨ s.fstate d sl = 3 → s.energise d sl = s)) ∧
  (∀ (s u v : State) (d sl : Nat) (q r : Drive),
    r = { q with level := s.levelInForce d sl q.level, clamped := q.clamped || s.lowered d sl q.level } →
    u = ((s.command d sl r.phase).applyDrive d sl r).set d (F.SLC_FSTAT_LIVE sl) 0 →
    v = (u.setSlice d sl { u.slice d sl with cw := r.user == 5 }).moveLevel d sl 0 →
    s.startRamp d sl q = ((v.setFstate d sl 1).announce d sl (.on r.level (v.phaseTarget d sl))).listenerOn d sl)

/-- Slice faults, the start check, sense intervals and phase. An overcurrent of an energised slice sets its bit, LIVE
  goes 0, the slice enters FAULT with code 0x0110, its event and count, its exchange ends with status 8, a waiting
  watch probe of the die starts, the darning control and an admission pass follow. An open load of an energised slice
  at level 20 or more sets its bit, ramps down and is remembered for the guard. A start check passes the page on, or
  sets its bit and enters FAULT with 0x0112. A sense interval of an energised slice, but of a probe, places its means
  and sets LIVE; above the headroom limit it delivers the limit with the event. A phase command takes its value and
  tells the neighbours of an energised slice; a slew ends at the target but in MODULATING. -/
def Obligations.SliceFaults : Prop :=
  (∀ (s : State) (die slice : Nat), s.fieldDie die = true → slice < 10 → energisedState (s.fstate die slice) = true →
    exec (.overcurrent die slice) s = .next ((((((s.set die (F.SLC_FAULT_OVERCURRENT slice) 1).set die
    (F.SLC_FSTAT_LIVE slice) 0).faultSlice die slice 0x0110).startWatchProbe die).darnFault die slice
    false).coordinate)) ∧
  (∀ (s : State) (die slice : Nat) (u : State), s.fieldDie die = true → slice < 10 → energisedState (s.fstate die
    slice) = true → 20 ≤ s.level die slice → (s.slice die slice).openFault = false → u = (s.set die
    (F.SLC_FAULT_OPEN_LOAD slice) 1).fieldOff die slice false → exec (.openLoad die slice) s = .next (u.setSlice die
    slice { u.slice die slice with openFault := true })) ∧
  (∀ (s : State) (die slice : Nat) (pass : Bool), s.fieldDie die = true → slice < 10 → s.pageState die (slcPage slice)
    = 1 → pass = true → exec (.sliceStartCheck die slice pass) s = .next ((s.pageStarted die (slcPage
    slice)).coordinate)) ∧
  (∀ (s : State) (die slice : Nat) (pass : Bool), s.fieldDie die = true → slice < 10 → s.pageState die (slcPage slice)
    = 1 → pass = false → exec (.sliceStartCheck die slice pass) s = .next ((((s.set die (F.SLC_FAULT_START_CHECK
    slice) 1).faultSlice die slice 0x0112).darnFault die slice true).coordinate)) ∧
  (∀ (s : State) (die slice pwr headroom ampl detune : Nat), s.fieldDie die = true → slice < 10 → energisedState
    (s.fstate die slice) = true → s.get die (F.SLC_FSTAT_USER slice) ≠ 2 → s.level die slice ≤ headroom → exec
    (.senseInterval die slice pwr headroom ampl detune) s = .next (((((s.set die (F.SLC_SENSE_PWR_PWR slice) pwr).set
    die (F.SLC_SENSE_PWR_HEADROOM slice) headroom).set die (F.SLC_SENSE_DET_AMPL slice) ampl).set die
    (F.SLC_SENSE_DET_DETUNE slice) detune).set die (F.SLC_FSTAT_LIVE slice) 1)) ∧
  (∀ (s : State) (die slice pwr headroom ampl detune : Nat), s.fieldDie die = true → slice < 10 → energisedState
    (s.fstate die slice) = true → s.get die (F.SLC_FSTAT_USER slice) ≠ 2 → headroom < s.level die slice → exec
    (.senseInterval die slice pwr headroom ampl detune) s = .next ((((((s.set die (F.SLC_SENSE_PWR_PWR slice)
    headroom).set die (F.SLC_SENSE_PWR_HEADROOM slice) headroom).set die (F.SLC_SENSE_DET_AMPL slice) ampl).set die
    (F.SLC_SENSE_DET_DETUNE slice) detune).set die (F.SLC_FSTAT_LIVE slice) 1).raise die (slcPage slice) 1)) ∧
  (∀ (s : State) (die slice phase : Nat) (late : Bool) (u : State), s.inService die = true → slice < 10 → u =
    (s.syncLate late).command die slice phase → exec (.phaseCommand die slice phase late) s = .next ((if
    energisedState (u.fstate die slice) then u.announce die slice (.phase (u.phaseTarget die slice)) else u))) ∧
  (∀ (s : State) (die slice : Nat), s.fieldDie die = true → slice < 10 → s.flag die (F.SLC_PHASE_SLEWING slice) = true
    → s.fstate die slice ≠ 3 → exec (.phaseSlewEnd die slice) s = .next ((s.set die (F.SLC_PHASE_OUT slice)
    (s.phaseTarget die slice)).set die (F.SLC_PHASE_SLEWING slice) 0)) ∧
  (∀ (s u v : State) (d sl code : Nat),
    u = (if energisedState (s.fstate d sl) then s.announce d sl .off else s) →
    v = ((((u.setSlice d sl { s.slice d sl with
        want := none, restart := none, offHeld := false, offAbort := false, openFault := false, cw := false }).setFstate d sl 7).set d (F.SLC_FSTAT_USER sl) 0).phaseMove d sl).setPage d (slcPage sl) 5 →
    s.sliceFault d sl code = (((v.raise d (slcPage sl) 0).countUp d (F.SLC_FAULT_COUNT sl) (F.SLC_FAULT_OVF sl) 1).err d (slcPage sl) code)) ∧
  (∀ (s : State) (d sl code phase p : Nat),
    (s.servedPort d sl = none → s.faultSlice d sl code =
      ((s.sliceUsers d sl).foldl (fun (z : State) k => z.endWork k 8) (s.sliceFault d sl code)).watchSyncDie d) ∧
    (s.servedPort d sl = some p → s.faultSlice d sl code =
      ((s.sliceUsers d sl).foldl (fun (z : State) k => z.endWork k 8)
        ((s.loseListener (aerial d p)).sliceFault d sl code)).watchSyncDie d) ∧
    s.pageStarted d (slcPage sl) = s.setPage d (slcPage sl) (if s.flag d (F.PG_DRAIN (slcPage sl)) then 3 else 2) ∧
    s.command d sl phase = ((s.phaseHere d sl).set d (F.SLC_PHASE_CMD sl) phase).phaseMove d sl)

/-- Continuous carrier on a slice: CW_START, CW_STOP and the end of CW_TIME. CW_START on an unlocked page of a slice
  that is ON, serves a port and is OFF without a pending restart asks for the grant with a candidate of its level in
  force, and an admission pass follows; while a request waits it changes nothing; otherwise it is refused with 0x0101
  and START reads 0. CW_STOP, and the end of CW_TIME in ON, end the grant of the slice with a ramp down, and an
  admission pass follows. -/
def Obligations.ContinuousWave : Prop :=
  (∀ (s : State) (die slice : Nat) (u : State), s.awake = true → s.flag die (F.PG_LOCK (slcPage slice)) = false →
    s.inService die = true → slice < 10 → (s.slice die slice).cwAsked = false → (s.pageOn die (slcPage slice) &&
    (s.servedPort die slice).isSome && s.fstate die slice == 0 && (s.slice die slice).restart.isNone) = true → u =
    (s.set die (F.SLC_CW_START slice) 1).setSlice die slice { s.slice die slice with cwAsked := true } → exec
    (.cwStart die slice) s = .next ((u.addCand (mkCand .cw die slice (u.levelInForce die slice (u.get die
    (F.SLC_CW_LEVEL slice))) [0, 0, 0, 0] 0)).coordinate)) ∧
  (∀ (s : State) (die slice : Nat), s.awake = true → s.flag die (F.PG_LOCK (slcPage slice)) = false → s.inService die
    = true → slice < 10 → (s.slice die slice).cwAsked = true → (s.pageOn die (slcPage slice) && (s.servedPort die
    slice).isSome && s.fstate die slice == 0 && (s.slice die slice).restart.isNone) = true → exec (.cwStart die slice)
    s = .next s) ∧
  (∀ (s : State) (die slice : Nat), s.awake = true → s.flag die (F.PG_LOCK (slcPage slice)) = false → s.inService die
    = true → slice < 10 → (s.pageOn die (slcPage slice) && (s.servedPort die slice).isSome && s.fstate die slice == 0
    && (s.slice die slice).restart.isNone) = false → exec (.cwStart die slice) s = .next ((s.set die (F.SLC_CW_START
    slice) 0).err die (slcPage slice) 0x0101)) ∧
  (∀ (s : State) (die slice : Nat), s.awake = true → s.flag die (F.PG_LOCK (slcPage slice)) = false → s.inService die
    = true → slice < 10 → s.cwLive die slice = true → exec (.cwStop die slice) s = .next ((s.endCw die slice
    false).coordinate)) ∧
  (∀ (s : State) (die slice : Nat), s.fieldDie die = true → slice < 10 → s.cwLive die slice = true → (s.slice die
    slice).cw = true → s.fstate die slice = 2 → exec (.cwTimeout die slice) s = .next ((s.endCw die slice
    false).coordinate)) ∧
  (∀ (s : State) (d sl : Nat),
    s.endCw d sl false =
      (({ s with exchs := Store.erase s.exchs (sliceWork d sl) } : State).userFieldOff d sl).restSlice d sl ∧
    (s.cwLive d sl = true ↔ ∃ e, s.work (sliceWork d sl) = some e ∧ e.origin = .cw))

/-- Single-exchange requests, aborts and the ageing of a candidate. On an unlocked page FCO_RUN is refused with 0x0101
  while its queue is full and with 0x0102 for a die that is not in service or whose engine is not ON; else the
  descriptor is formed into a chain: none makes no candidate, one makes the candidate and an admission pass follows,
  and during a sleep entry it is withdrawn and counted. FCO_ABORT withdraws every waiting candidate of the descriptor
  and ends every admitted exchange that still uses it with status 7, an admission pass following, or records 0x0103
  when there is none. A waiting candidate gains an eighth unless it is AGED or a calibration run; becoming AGED while
  it waits for budget raises AGED. -/
def Obligations.SingleExchanges : Prop :=
  (∀ (s : State) (value : Word) (u v : State) (d : Nat) (ms : List Member) (m : Member), s.awake = true → s.flag 0
    (F.PG_LOCK 0x0A) = false → v = s.writeRo 0 0x0A 0x044 value → d = bits value 16 3 → v.hostQueue < 16 → v.inService
    d = true → v.pageOn d 0x0C = true → v.formChain d (bits value 0 9) = (u, ms) → ms[0]? = some m → u.power.phase =
    .none → exec (.fcoRun value) s = .next ((u.addExchange .host d m.port ms (bits value 24 3)).coordinate)) ∧
  (∀ (s : State) (value : Word) (u v : State) (d : Nat) (ms : List Member), s.awake = true → s.flag 0 (F.PG_LOCK 0x0A)
    = false → v = s.writeRo 0 0x0A 0x044 value → d = bits value 16 3 → v.hostQueue < 16 → v.inService d = true →
    v.pageOn d 0x0C = true → v.formChain d (bits value 0 9) = (u, ms) → ms = [] → exec (.fcoRun value) s = .next u) ∧
  (∀ (s : State) (value : Word) (u v w : State) (d : Nat) (ms : List Member) (m : Member) (c : Cand), s.awake = true →
    s.flag 0 (F.PG_LOCK 0x0A) = false → v = s.writeRo 0 0x0A 0x044 value → d = bits value 16 3 → v.hostQueue < 16 →
    v.inService d = true → v.pageOn d 0x0C = true → v.formChain d (bits value 0 9) = (u, ms) → ms[0]? = some m →
    u.power.phase ≠ .none → c =
    { mkCand .host d m.port (u.chainLevel d m.port ms) (chainCredits ms) (bits value 24 3) with members := ms, order := u.coord.order, since := u.time }
    → w = { u with coord := { u.coord with order := u.coord.order + 1, cands := u.coord.cands ++ [c] } } → exec
    (.fcoRun value) s = .next ((w.withdraw c).coordinate)) ∧
  (∀ (s : State) (value : Word) (v : State) (d : Nat), s.awake = true → s.flag 0 (F.PG_LOCK 0x0A) = false → v =
    s.writeRo 0 0x0A 0x044 value → d = bits value 16 3 → 16 ≤ v.hostQueue → exec (.fcoRun value) s = .next (v.err 0
    0x0A 0x0101)) ∧
  (∀ (s : State) (value : Word) (v : State) (d : Nat), s.awake = true → s.flag 0 (F.PG_LOCK 0x0A) = false → v =
    s.writeRo 0 0x0A 0x044 value → d = bits value 16 3 → v.hostQueue < 16 → (v.inService d = false ∨ v.pageOn d 0x0C =
    false) → exec (.fcoRun value) s = .next (v.err 0 0x0A 0x0102)) ∧
  (∀ (s : State) (value : Word) (v : State) (cs : List Cand) (es : List (Nat × Exch)), s.awake = true → s.flag 0
    (F.PG_LOCK 0x0A) = false → v = s.writeRo 0 0x0A 0x048 value → cs = v.coord.cands.filter (fun c => c.die == bits
    value 16 3 && c.members.any (fun m => m.index == bits value 0 9)) → es = v.exchs.filter (fun e => decide (e.1 / 16
    = bits value 16 3) && (e.2.members.drop e.2.cur).any (fun m => m.index == bits value 0 9)) → (cs ≠ [] ∨ es ≠ []) →
    exec (.fcoAbort value) s = .next ((es.foldl (fun (z : State) (e : Nat × Exch) => z.endWork e.1 7) (cs.foldl (fun
    (z : State) c => z.withdraw c) v)).coordinate)) ∧
  (∀ (s : State) (value : Word) (v : State) (cs : List Cand) (es : List (Nat × Exch)), s.awake = true → s.flag 0
    (F.PG_LOCK 0x0A) = false → v = s.writeRo 0 0x0A 0x048 value → cs = v.coord.cands.filter (fun c => c.die == bits
    value 16 3 && c.members.any (fun m => m.index == bits value 0 9)) → es = v.exchs.filter (fun e => decide (e.1 / 16
    = bits value 16 3) && (e.2.members.drop e.2.cur).any (fun m => m.index == bits value 0 9)) → cs = [] → es = [] →
    exec (.fcoAbort value) s = .next (v.err 0 0x0A 0x0103)) ∧
  (∀ (s : State) (order : Nat) (c : Cand), s.coord.cands.find? (fun c => c.order == order) = some c → c.aged = false →
    0 ≤ c.prio → exec (.candidateAgeing order) s = .next (s.ageCand c)) ∧
  (∀ (s : State) (order : Nat) (c : Cand), s.coord.cands.find? (fun c => c.order == order) = some c → (c.aged = true ∨
    c.prio < 0) → exec (.candidateAgeing order) s = .next s) ∧
  (∀ (s : State) (c x : Cand), x = { c with eighths := c.eighths + 1 } →
    s.ageCand c = (if x.aged && !c.aged && c.budgetWait then (s.setCand x).raise 0 0x0A 1 else s.setCand x))

/-- Round starts, thermal samples, supply windows, and dies that wake or doze. The start of an enabled plan that falls
  due is followed by an admission pass; it starts the round on its snapshot, is skipped with its count and event while
  the one before runs, or is dropped without a skip in a sleep entry, a load, or with the coordinator not ON. A
  thermal sample sets the factor with its events, stops the field at factor 0 and clears the stop below 115 °C; a
  window sets SRL_VSUP and the supply term; two evaluations in a row above the safety limit shed work; an admission
  pass follows each. The idle supply request, the wake lead, the return to DOZE of an idle die and the reach of RUN
  act as stated. -/
def Obligations.RoundsAndBudget : Prop :=
  (∀ (s : State) (plan : Nat) (late : Bool), s.awake = true → plan < 64 → s.flag 0 (F.FCO_PLAN_CFG_EN plan) = true →
    exec (.roundStart plan late) s = .next (((s.syncLate late).roundDue plan).coordinate)) ∧
  (∀ (s : State) (temps : List Int) (m : Int) (d : Nat) (a u v w x : State), s.awake = true → hottest (temps.take
    (s.dies + 1)) 0 = some (m, d) → a = (s.set 0 F.FCO_THERM_TMAX (field 8 (m / 10))).set 0 F.FCO_THERM_DIE d → u =
    (List.range s.dies).foldl (fun (z : State) i => z.set (i + 1) F.FDC_STAT_TEMP (field 8 (((temps[i + 1]?).getD 0) /
    10))) (({ a with coord := { a.coord with thermal := thermalFactor m } } : State).set 0 F.FCO_THERM_FACTOR
    (thermalFactor m * 100 / 320)) → v = (if thermalFactor m < 320 && s.coord.thermal == 320 then u.raise 0 0x0A 4
    else u) → w = (if thermalFactor m = 0 && !v.flag 0 F.FCO_THERM_STOPPED then v.thermalStop else if v.flag 0
    F.FCO_THERM_STOPPED && decide (m < (1150 : Int)) then (v.set 0 F.FCO_THERM_STOPPED 0).raise 0 0x0A 6 else v) → x =
    ({ w with coord := { w.coord with overT := w.overLimit w.coord.overT } } : State) → exec (.thermalSample temps) s
    = .next (((if 2 ≤ w.overLimit w.coord.overT then x.shed 200 else x).anchorSample ((temps[0]?).getD
    0)).coordinate)) ∧
  (∀ (s : State) (vsup : Nat) (u x : State), s.awake = true → u = (s.set 0 F.SRL_VSUP_VSUP vsup).set 0
    F.FCO_LIMITS_SUPPLY (supplyCenti vsup / 100) → x =
    ({ u with coord := { u.coord with overV := u.overLimit u.coord.overV } } : State) → exec (.vsupWindowEnd vsup) s =
    .next ((if 2 ≤ u.overLimit u.coord.overV then x.shed 200 else x).coordinate)) ∧
  (∀ (s : State) (u : State), s.awake = true → s.flag 0 F.FCO_VSUP_CTL_AUTO = true → s.fieldIdle = true →
    s.coord.idleSent = false → s.noStartWithin (s.get 0 F.FCO_VSUP_CTL_HOLD * ticksPerMs) = true → u = s.supplyRequest
    { cmd := 1, value := s.get 0 F.FCO_VSUP_IDLE } → exec (.vsupIdleRequest) s = .next
    ({ u with coord := { s.coord with idleSent := true } })) ∧
  (∀ (s : State) (plan : Nat), s.awake = true → plan < 64 → s.flag 0 (F.FCO_PLAN_CFG_EN plan) = true → s.power.phase =
    .none → exec (.dieWakeLead plan) s = .next ((s.askRunPorts (s.planPorts plan)).supplyForRun)) ∧
  (∀ (s : State) (die : Nat), s.awake = true → s.fieldDie die = true → s.pstate die = 2 → s.dieIdle die = true →
    s.noWakeDue die = true → s.flag die F.DPWR_CFG_KEEP_RUN = false → exec (.dieDozeReturn die) s = .next ((s.set die
    F.DPWR_STAT_PSTATE 1).setDie die { s.die die with runAsked := false })) ∧
  (∀ (s : State) (die : Nat), s.awake = true → s.inService die = true → s.pstate die = 1 → ((s.die die).runAsked =
    true ∨ s.flag die F.DPWR_CFG_KEEP_RUN = true) → exec (.dozeToRun die) s = .next (((s.set die F.DPWR_STAT_PSTATE
    2).setDie die { s.die die with runAsked := false }).coordinate)) ∧
  (∀ (s v : State) (n : Nat), v = { s with coord := { s.coord with starts := Store.insert (Store.erase s.coord.starts n) n s.time } } →
    (v.draining = true ∨ v.awake = false ∨ v.pageOn 0 0x0A = false → s.roundDue n = v) ∧
    (v.draining = false → v.awake = true → v.pageOn 0 0x0A = true →
      (v.coord.runs.any (fun r => r.plan == n) = false → s.roundDue n = v.startRound n) ∧
      (v.coord.runs.any (fun r => r.plan == n) = true → v.get 0 (F.FCO_PLAN_STAT_SKIPS n) < 254 →
        s.roundDue n = (v.set 0 (F.FCO_PLAN_STAT_SKIPS n) (v.get 0 (F.FCO_PLAN_STAT_SKIPS n) + 1)).raise 0 0x0A 2) ∧
      (v.coord.runs.any (fun r => r.plan == n) = true → 254 ≤ v.get 0 (F.FCO_PLAN_STAT_SKIPS n) →
        s.roundDue n =
          ((v.set 0 (F.FCO_PLAN_STAT_SKIPS n) 255).set 0 (F.FCO_PLAN_STAT_OVF n) 1).raise 0 0x0A 2))) ∧
  (∀ (s : State) (temp : Int), s.anchorSample temp = ({ s with coord := { s.coord with anchorTemp := temp } } : State).tempCauses 0 temp) ∧
  (∀ (s : State) (n v : Nat), s.overLimit n = (if s.safetyLimit < s.budgetUsed then n + 1 else 0) ∧ supplyCenti v = 154 * v)

/-- The frames of an exchange: settle, gap, last pulse, next commands, retries and neighbour terms. At the end of the
  settle time, of the gap before a next command, of a slot or of a retry the frame starts on a field that is ON, its
  slices modulating; a retry is counted with its event and its attempt; after a link on a field that stayed ON the
  drives of the member, its steered partner included, take force first. The end of a frame opens the window of its
  reply; after a stay quiet the next frame of the round follows; a frame whose exchange has ended lets its slice go. A
  lone EOF is sent once and becomes the reference. The oldest sync event of a neighbour switches or changes its term.
  -/
def Obligations.ExchangeFrames : Prop :=
  (∀ (s : State) (die port : Nat) (e : Exch), s.exch die port = some e → e.phase = .settle → s.fieldOn die port = true
    → exec (.settleEnd die port) s = .next (s.startTx die port e)) ∧
  (∀ (s : State) (die port : Nat) (e : Exch) (sl : Nat) (u : State), s.exch die port = some e → e.phase = .linkGap →
    s.fieldOn die port = true → s.servingSlice die port = some sl → u = (s.chooseAtt die port (s.levelInForce die sl
    e.member.reqLevel)).applyAtOn (s.memberDrives die port e.partner e.member) → exec (.turnaroundGapEnd die port) s =
    .next (((u.set die (F.RCV_P_STAT_RX_ON port) 1).listenersOn e.listeners).startTx die port e)) ∧
  (∀ (s : State) (die port : Nat) (resid : List (Nat × Nat)) (e : Exch), s.exch die port = some e → e.phase =
    .transmit → (∀ uid, e.inv.frame ≠ .quiet uid) → exec (.txFrameEnd die port resid) s = .next (s.txEnd die port e
    resid)) ∧
  (∀ (s : State) (die port : Nat) (resid : List (Nat × Nat)) (e x : Exch) (uid : Nat), s.exch die port = some e →
    e.phase = .transmit → e.inv.frame = .quiet uid → (s.txEnd die port e resid).exch die port = some x → exec
    (.txFrameEnd die port resid) s = .next ((s.txEnd die port e resid).nextFollow die port x)) ∧
  (∀ (s : State) (die port : Nat) (resid : List (Nat × Nat)) (sl : Nat), s.exch die port = none → s.servingSlice die
    port = some sl → exec (.txFrameEnd die port resid) s = .next (s.demodulated [(die, sl)])) ∧
  (∀ (s : State) (die port : Nat) (e : Exch), s.exch die port = some e → e.phase = .gap → s.fieldOn die port = true →
    exec (.retryStart die port) s = .next (((s.countUp die F.XEN_CNT_RETRY_COUNT F.XEN_CNT_RETRY_OVF 1).raise die 0x0C
    2).startTx die port { e with attempt := e.attempt + 1, reference := none, act := {}, heard := none })) ∧
  (∀ (s : State) (die port : Nat) (e : Exch), s.exch die port = some e → e.phase = .listen → e.member.kind = 0 →
    e.member.eofReq = true → e.eofSent = false → exec (.eofReqSend die port) s = .next (s.setExch die port
    { e with eofSent := true, reference := some (s.dieTime die) })) ∧
  (∀ (s : State) (die port : Nat) (e : Exch), s.exch die port = some e → e.phase = .next → (e.member.kind = 1 ∨
    e.member.kind = 2) → s.fieldOn die port = true → exec (.activateNextCommand die port) s = .next (s.startTx die
    port e)) ∧
  (∀ (s : State) (die port : Nat) (e : Exch), s.exch die port = some e → e.phase = .next → e.member.kind = 3 →
    s.fieldOn die port = true → exec (.invSlotEof die port) s = .next (s.startTx die port e)) ∧
  (∀ (s : State) (die port entry : Nat) (late : Bool) (e : TermEvent) (u : State), s.fieldDie die = true → port < 8 →
    entry < 4 → s.coord.termEvents.find? (fun e => e.port == aerial die port && e.entry == entry) = some e → u =
    { s with coord := { s.coord with termEvents := s.coord.termEvents.eraseP (fun e => e.port == aerial die port && e.entry == entry) } }
    → exec (.neighbourTermSwitch die port entry late) s = .next ((u.syncLate late).switchTerm die port entry
    e.change)) ∧
  (∀ (s : State) (die port entry : Nat) (late : Bool), s.fieldDie die = true → port < 8 → entry < 4 →
    s.coord.termEvents.find? (fun e => e.port == aerial die port && e.entry == entry) = none → exec
    (.neighbourTermSwitch die port entry late) s = .next s) ∧
  (∀ (s : State) (d p : Nat) (e x : Exch),
    x = (if e.member.kind = 3 ∧ e.inv.frame = .request then { e.fresh with inv := e.fresh.inv.nextRequest } else e.fresh) →
    s.startTx d p e = (s.setExch d p x).modulate (s.exchSlices d p x) ∧ x.phase = .transmit ∧ x.fdt = none ∧
      x.members = e.members ∧ x.cur = e.cur ∧ x.attempt = e.attempt ∧ x.res = e.res) ∧
  (∀ (s : State) (d p k l ph : Nat),
    s.switchTerm d p k (.on l ph) = (s.setTerm (aerial d p) k (l, ph)).setBit d (F.RCV_P_STAT_TERMS p) k true ∧
    s.switchTerm d p k .off = s.setBit d (F.RCV_P_STAT_TERMS p) k false ∧
    s.switchTerm d p k (.level l) = s.setTerm (aerial d p) k (l, (s.term (aerial d p) k).2) ∧
    s.switchTerm d p k (.phase ph) = s.setTerm (aerial d p) k ((s.term (aerial d p) k).1, ph))

/-- Replies, empty windows, holds, streams, and the listener that a higher candidate takes. A reply start that is
  looked for is judged against the window and kept with its amplitude and angle. The end of the reply fixes the status
  of a frame exchange, or lets the activation, the read or the slot go on; the end of a window without a reply start
  ends the attempt with status 1, or 0 when none is expected, waits for the EOF reply, or lets the activation, the
  read or the slot go on; saturation is kept. A failed attempt within RETRY waits for the gap. A hold that expires
  raises its event, and one that the host ends lets the field ramp down, or records 0x0105. A stream gap breaks the
  stream for the slot with its count, event and error, and once only; what a listener leaves out of a slot is counted
  when the slot is taken. One of the two oldest solves of a die ends. A listener that a candidate of higher priority
  needs is withdrawn outside the slot. -/
def Obligations.ExchangeReplies : Prop :=
  (∀ (s : State) (die port fdt ampl angle : Nat) (e : Exch) (u : State), s.exch die port = some e → e.phase = .listen
    → e.fdt = none → s.startSeen die e fdt = true → u = (s.set die (F.RCV_P_LAST_AMPL port) ampl).set die
    (F.RCV_P_LAST_ANGLE port) angle → exec (.replyStart die port fdt ampl angle) s = .next (u.setExch die port
    { e with fdt := some fdt, timing := (if fdt < e.window.1 then .early else if e.window.2 < fdt then .late else .accepted), ampl := ampl % 65536, angle := angle % 256, heard := some (fdt, ampl % 65536, angle % 256) })) ∧
  (∀ (s : State) (die port : Nat) (data : List Byte) (nbits : Nat) (parityOk : Bool) (collision : Option Nat) (sat :
    List Nat) (e x : Exch) (f : Nat) (r : Result), s.exch die port = some e → e.phase = .listen → e.fdt = some f → x =
    { e with sat := e.sat ++ e.chains die port sat } → x.member.kind = 0 → r = x.member.decode
    { data := data, nbits := nbits, parityOk := parityOk, collision := collision } x.timing → exec (.replyEnd die port
    data nbits parityOk collision sat) s = .next ((s.storeRx die x.member r.data).attemptEnd die port x r)) ∧
  (∀ (s : State) (die port : Nat) (data : List Byte) (nbits : Nat) (parityOk : Bool) (collision : Option Nat) (sat :
    List Nat) (e x : Exch) (f : Nat), s.exch die port = some e → e.phase = .listen → e.fdt = some f → x =
    { e with sat := e.sat ++ e.chains die port sat } → x.member.kind = 1 → exec (.replyEnd die port data nbits
    parityOk collision sat) s = .next (s.actGo die port x (x.act.replyA
    { data := data, nbits := nbits, parityOk := parityOk, collision := collision } x.timing (s.portGet die port
    F.XEN_TYPEA_CHOOSE == 1)))) ∧
  (∀ (s : State) (die port : Nat) (data : List Byte) (nbits : Nat) (parityOk : Bool) (collision : Option Nat) (sat :
    List Nat) (e x : Exch) (f : Nat), s.exch die port = some e → e.phase = .listen → e.fdt = some f → x =
    { e with sat := e.sat ++ e.chains die port sat } → x.member.kind = 2 → exec (.replyEnd die port data nbits
    parityOk collision sat) s = .next (s.actGo die port x (x.act.replyB
    { data := data, nbits := nbits, parityOk := parityOk, collision := collision } x.timing x.member.nexp))) ∧
  (∀ (s : State) (die port : Nat) (data : List Byte) (nbits : Nat) (parityOk : Bool) (collision : Option Nat) (sat :
    List Nat) (e x : Exch) (f : Nat) (u : State) (y : Exch), s.exch die port = some e → e.phase = .listen → e.fdt =
    some f → x = { e with sat := e.sat ++ e.chains die port sat } → x.member.kind = 3 → s.slotStreams die x (e.chains
    die port sat) = (u, y) → (∀ uid, x.inv.frame ≠ .read uid) → exec (.replyEnd die port data nbits parityOk collision
    sat) s = .next (u.slotReply die port y
    { data := data, nbits := nbits, parityOk := parityOk, collision := collision })) ∧
  (∀ (s : State) (die port : Nat) (data : List Byte) (nbits : Nat) (parityOk : Bool) (collision : Option Nat) (sat :
    List Nat) (e x : Exch) (f uid : Nat), s.exch die port = some e → e.phase = .listen → e.fdt = some f → x =
    { e with sat := e.sat ++ e.chains die port sat } → x.member.kind = 3 → x.inv.frame = .read uid → exec (.replyEnd
    die port data nbits parityOk collision sat) s = .next (s.nextFollow die port (x.readReply uid
    { data := data, nbits := nbits, parityOk := parityOk, collision := collision }))) ∧
  (∀ (s : State) (die port : Nat) (sat : List Nat) (e x : Exch), s.exch die port = some e → e.phase = .listen → e.fdt
    = none → x = { e with sat := e.sat ++ e.chains die port sat } → x.member.kind = 0 → (x.member.eofReq = false ∨
    x.eofSent = true) → exec (.responseWindowEnd die port sat) s = .next (s.attemptEnd die port x
    { status := if x.member.resp = 0 then 0 else 1 })) ∧
  (∀ (s : State) (die port : Nat) (sat : List Nat) (e x : Exch), s.exch die port = some e → e.phase = .listen → e.fdt
    = none → x = { e with sat := e.sat ++ e.chains die port sat } → x.member.kind = 0 → x.member.eofReq = true →
    x.eofSent = false → exec (.responseWindowEnd die port sat) s = .next s) ∧
  (∀ (s : State) (die port : Nat) (sat : List Nat) (e x : Exch), s.exch die port = some e → e.phase = .listen → e.fdt
    = none → x = { e with sat := e.sat ++ e.chains die port sat } → x.member.kind = 1 → exec (.responseWindowEnd die
    port sat) s = .next (s.attemptEnd die port x { status := 1, coll := x.act.collPos })) ∧
  (∀ (s : State) (die port : Nat) (sat : List Nat) (e x : Exch), s.exch die port = some e → e.phase = .listen → e.fdt
    = none → x = { e with sat := e.sat ++ e.chains die port sat } → x.member.kind = 2 → exec (.responseWindowEnd die
    port sat) s = .next (s.actGo die port x (x.act.slotDone x.member.nexp))) ∧
  (∀ (s : State) (die port : Nat) (sat : List Nat) (e x : Exch) (u : State) (y : Exch), s.exch die port = some e →
    e.phase = .listen → e.fdt = none → x = { e with sat := e.sat ++ e.chains die port sat } → x.member.kind = 3 →
    s.slotStreams die x (e.chains die port sat) = (u, y) → (∀ uid, x.inv.frame ≠ .read uid) → exec (.responseWindowEnd
    die port sat) s = .next (u.slotOver die port y)) ∧
  (∀ (s : State) (die port : Nat) (sat : List Nat) (e x : Exch) (uid : Nat), s.exch die port = some e → e.phase =
    .listen → e.fdt = none → x = { e with sat := e.sat ++ e.chains die port sat } → x.member.kind = 3 → x.inv.frame =
    .read uid → exec (.responseWindowEnd die port sat) s = .next (s.nextFollow die port (x.setRead uid 1 []))) ∧
  (∀ (s : State) (die port : Nat) (h : Hold), s.fieldHold die port = some h → exec (.fieldHoldExpiry die port) s =
    .next (((s.endHold die port).raise die 0x0C 1).coordinate)) ∧
  (∀ (s : State) (die : Nat) (value : Word), s.awake = true → s.flag die (F.PG_LOCK 0x0C) = false → s.inService die =
    true → exec (.xenHoldEnd die value) s = .next ((((List.range 8).filter (bit value)).foldl (fun (z : State) p => if
    (z.fieldHold die p).isSome then z.endHold die p else z.err die 0x0C 0x0105) (s.writeRo die 0x0C 0x030
    value)).coordinate)) ∧
  (∀ (s : State) (die port listener : Nat) (e : Exch), s.exch die port = some e → e.listeners.contains listener = true
    → e.inv.broken.contains listener = false → exec (.streamGap die port listener) s = .next ((((s.setExch die port
    { e with inv := { e.inv with broken := e.inv.broken ++ [listener] } }).countUp die F.RCV_CNT_GAP_COUNT
    F.RCV_CNT_GAP_OVF 1).raise die 0x0B 3).err die 0x0B 0x0103)) ∧
  (∀ (s : State) (die port listener : Nat) (e : Exch), s.exch die port = some e → e.inv.broken.contains listener =
    true → exec (.streamGap die port listener) s = .next s) ∧
  (∀ (s : State) (die port slot : Nat) (eigen : List Int) (replies : List (List Byte × Nat × Nat × Nat)) (e : Exch) (m
    : Nat), s.exch die port = some e → Store.find? e.inv.unclearSlots slot = some (.solving m) → ((s.die
    die).solves.take 2).contains (port, slot) = true → exec (.separationSolveEnd die port slot eigen replies) s =
    .next ((s.setDie die { s.die die with solves := (s.die die).solves.erase (port, slot) }).solve die port e slot m
    (s.components die port m eigen) replies)) ∧
  (∀ (s : State) (die port slot : Nat) (eigen : List Int) (replies : List (List Byte × Nat × Nat × Nat)) (e : Exch) (m
    : Nat), s.exch die port = some e → Store.find? e.inv.unclearSlots slot = some (.solving m) → ((s.die
    die).solves.take 2).contains (port, slot) = false → exec (.separationSolveEnd die port slot eigen replies) s =
    .next s) ∧
  (∀ (s : State) (die port listener : Nat) (late : Bool) (e : Exch), s.awake = true → s.exch die port = some e →
    e.listeners.contains listener = true → e.phase ≠ .listen → s.coord.cands.any (fun c => decide (e.prio < c.eff) &&
    (s.needs c).any (fun x => x.1 == portDie listener && s.servingSlice x.1 (portIx listener) == some x.2)) = true →
    exec (.listenerWithdraw die port listener late) s = .next ((((s.syncLate late).setExch die port
    { e with listeners := e.listeners.filter (· != listener) }).releaseListeners [listener]).coordinate)) ∧
  (∀ (s : State) (d p : Nat) (e : Exch) (r : Result),
    ((r.status = 1 ∨ r.status = 2) ∧ e.attempt ≤ e.member.retry →
      s.attemptEnd d p e r = (s.setExch d p { e with phase := .gap, last := r }).windowOver) ∧
    (¬((r.status = 1 ∨ r.status = 2) ∧ e.attempt ≤ e.member.retry) →
      s.attemptEnd d p e r = ((s.setExch d p { e with last := r }).finish d p r).coordinate))

/-- Probes that fall due and end, absorption, and the temperature in WATCH. On a page that is ON and outside a sleep
  entry, the probe of an armed port that falls due in ACTIVE, with its watch sequencer at rest, drops the one that
  still waits as skipped, and becomes a candidate of its level with 7 words of its class, or is skipped below level
  20; while the watch sequencer of the die probes it is the work of the sequencer, or is skipped. The end of a probe
  places its measurement, counts it and judges it; a record takes the reservation, or is held without one; the field
  goes off, a slice that comes to rest is at its boundary, and an admission pass follows. Absorption makes a DETECTED
  port ARMED with RUN 0, its record following when the detection had been reported. In WATCH the temperature is kept.
  -/
def Obligations.CardWatch : Prop :=
  (∀ (s : State) (die port : Nat) (sl level : Nat) (u : State), s.fieldDie die = true → port < 8 → s.watchState die
    port ≠ 0 → s.watchState die port ≠ 5 → s.pageOn die 0x0E = true → s.power.phase = .none → s.servingSlice die port
    = some sl → level = s.levelInForce die sl (s.get die (F.CWT_P_PROBE_LEVEL port)) → s.device = .active →
    s.sequenced die = false → u =
    (match s.waitingProbe die port with | some c => (s.dropCand c.order).skipProbe die | none => s) → 20 ≤ level →
    exec (.probeDue die port) s = .next ((u.addCand (mkCand .probe die port level ([0, 1, 2, 3].map (fun k => if k =
    u.get die (F.CWT_P_CFG_CLASS port) then 7 else 0)) 7)).coordinate)) ∧
  (∀ (s : State) (die port : Nat) (sl level : Nat) (u : State), s.fieldDie die = true → port < 8 → s.watchState die
    port ≠ 0 → s.watchState die port ≠ 5 → s.pageOn die 0x0E = true → s.power.phase = .none → s.servingSlice die port
    = some sl → level = s.levelInForce die sl (s.get die (F.CWT_P_PROBE_LEVEL port)) → s.device = .active →
    s.sequenced die = false → u =
    (match s.waitingProbe die port with | some c => (s.dropCand c.order).skipProbe die | none => s) → level < 20 →
    exec (.probeDue die port) s = .next (u.skipProbe die)) ∧
  (∀ (s : State) (die port : Nat) (sl level : Nat), s.fieldDie die = true → port < 8 → s.watchState die port ≠ 0 →
    s.watchState die port ≠ 5 → s.pageOn die 0x0E = true → s.power.phase = .none → s.servingSlice die port = some sl →
    level = s.levelInForce die sl (s.get die (F.CWT_P_PROBE_LEVEL port)) → s.sequenced die = true → level < 20 → exec
    (.probeDue die port) s = .next (s.skipProbe die)) ∧
  (∀ (s : State) (die port : Nat) (sl level : Nat), s.fieldDie die = true → port < 8 → s.watchState die port ≠ 0 →
    s.watchState die port ≠ 5 → s.pageOn die 0x0E = true → s.power.phase = .none → s.servingSlice die port = some sl →
    level = s.levelInForce die sl (s.get die (F.CWT_P_PROBE_LEVEL port)) → s.sequenced die = true → 20 ≤ level →
    s.exch die port = none → exec (.probeDue die port) s = .next ((s.addWork (portKey die port) (mkCand .probe die
    port level [0, 0, 0, 0] 7) .next []).startWatchProbe die)) ∧
  (∀ (s : State) (die port ampl : Nat) (detune : Int) (e : Exch) (a b c u v w : State) (rec : Option (List Word)),
    port < 8 → s.exch die port = some e → e.origin.isProbe = true → e.phase = .probing → s.fieldOn die port = true → a
    = (s.set die (F.CWT_P_LAST_AMPL port) ampl).set die (F.CWT_P_LAST_DETUNE port) (field 16 detune) → b = (if
    a.device = .active then a.set die F.CWT_TEMP_TEMP (a.get die F.FDC_STAT_TEMP) else a) → c = b.setWatch die port
    { b.watchOf die port with probed := true, probes := min 65535 ((b.watchOf die port).probes + 1) } → c.judgeProbe
    die port (ampl % 65536) detune = (u, rec) → v = u.dropExch die port → rec = none → w = v.unreserveAll e.res → exec
    (.probeEnd die port ampl detune) s = .next (((w.exchFieldOff die port e false).restSlices (w.exchSlices die port
    e)).coordinate)) ∧
  (∀ (s : State) (die port ampl : Nat) (detune : Int) (e : Exch) (a b c u v w : State) (rec : Option (List Word)) (r :
    List Word), port < 8 → s.exch die port = some e → e.origin.isProbe = true → e.phase = .probing → s.fieldOn die
    port = true → a = (s.set die (F.CWT_P_LAST_AMPL port) ampl).set die (F.CWT_P_LAST_DETUNE port) (field 16 detune) →
    b = (if a.device = .active then a.set die F.CWT_TEMP_TEMP (a.get die F.FDC_STAT_TEMP) else a) → c = b.setWatch die
    port { b.watchOf die port with probed := true, probes := min 65535 ((b.watchOf die port).probes + 1) } →
    c.judgeProbe die port (ampl % 65536) detune = (u, rec) → v = u.dropExch die port → rec = some r → e.res.any (· !=
    0) = true → w = v.sendWatch die port (e.res.findIdx (· != 0)) (v.watchTime die) r → exec (.probeEnd die port ampl
    detune) s = .next (((w.exchFieldOff die port e false).restSlices (w.exchSlices die port e)).coordinate)) ∧
  (∀ (s : State) (die port ampl : Nat) (detune : Int) (e : Exch) (a b c u v w : State) (rec : Option (List Word)) (r :
    List Word), port < 8 → s.exch die port = some e → e.origin.isProbe = true → e.phase = .probing → s.fieldOn die
    port = true → a = (s.set die (F.CWT_P_LAST_AMPL port) ampl).set die (F.CWT_P_LAST_DETUNE port) (field 16 detune) →
    b = (if a.device = .active then a.set die F.CWT_TEMP_TEMP (a.get die F.FDC_STAT_TEMP) else a) → c = b.setWatch die
    port { b.watchOf die port with probed := true, probes := min 65535 ((b.watchOf die port).probes + 1) } →
    c.judgeProbe die port (ampl % 65536) detune = (u, rec) → v = u.dropExch die port → rec = some r → e.res.any (· !=
    0) = false → w = v.setWatch die port { v.watchOf die port with pendingRec := some (v.watchTime die, r) } → exec
    (.probeEnd die port ampl detune) s = .next (((w.exchFieldOff die port e false).restSlices (w.exchSlices die port
    e)).coordinate)) ∧
  (∀ (s : State) (die port : Nat), s.fieldDie die = true → port < 8 → s.watchState die port = 4 → s.get die
    (F.CWT_P_TRACK_ABSORB port) ≠ 0 → (s.watchOf die port).pendingRec = none → (s.watchOf die port).reported = false →
    ∃ t : State, exec (.watchAbsorb die port) s = .next t ∧ t.watchState die port = 2 ∧ t.get die (F.CWT_P_STAT_RUN
    port) = 0 ∧ (t.watchOf die port).reported = false ∧ t.mem = s.mem ∧ t.exchs = s.exchs ∧ t.coord = s.coord) ∧
  (∀ (s : State) (die port : Nat), s.fieldDie die = true → port < 8 → s.watchState die port = 4 → s.get die
    (F.CWT_P_TRACK_ABSORB port) ≠ 0 → (s.watchOf die port).pendingRec = none → (s.watchOf die port).reported = true →
    ∃ t : State, exec (.watchAbsorb die port) s = .next t ∧ ∃ u v : State, ∃ r : List Word, ∃ base : Int × Int,
    u.watchState die port = 2 ∧ u.get die (F.CWT_P_STAT_RUN port) = 0 ∧ (u.watchOf die port).reported = false ∧
    (u.raise die 0x0E 2).watchRecord die port 3 false base (s.get die (F.CWT_P_CFG_DEB port) + 1) = (v, r) ∧ t =
    (v.setWatch die port { v.watchOf die port with pendingRec := some (v.watchTime die, r) }).flushWatch) ∧
  (∀ (s : State) (die : Nat) (temp : Int), s.fieldDie die = true → s.device = .watch → exec (.watchTempSample die
    temp) s = .next (s.set die F.CWT_TEMP_TEMP (field 8 temp)))

/-- The receiver from SEARCH to the start-of-frame word. Energy at or above RSSI_THR takes SEARCH to DETECT, a
  preamble DETECT to QUALIFIED; 32 symbols without one, or energy more than 3 dB below the threshold, take DETECT back
  to SEARCH; a start-of-frame word missed in QUALIFIED is counted as a false detection. A word found there, or by the
  correlator alone in SEARCH, DETECT or QUALIFIED, begins a reception when 6 words can be reserved, in HEADER with its
  RSSI latched or in AGC_RERUN, and is refused without credit. The AGC rerun ends in HEADER with RSSI and gain. In RX
  an RSSI update sets LIVE; the gain moves, in its 3 dB steps, in SEARCH and DETECT only, and the noise is seen in
  SEARCH only. In any other receiver state these events have no effect. -/
def Obligations.ReceiverSearch : Prop :=
  (∀ (s : State) (rssi : Int), s.rxState = 1 → s.rssiThr ≤ rssi → exec (.rxRssiDetect rssi) s = .next (s.setRx 2)) ∧
  (∀ (s : State), s.rxState = 2 → exec (.rxPreambleQualified) s = .next (s.setRx 3)) ∧
  (∀ (s : State) (symbols : Nat) (rssi : Int), s.rxState = 2 → (32 ≤ symbols ∨ rssi < s.rssiThr - 6) → exec
    (.rxDetectTimeout symbols rssi) s = .next (s.setRx 1)) ∧
  (∀ (s : State), s.rxState = 3 → exec (.rxSfdTimeout) s = .next (((s.setRx 1).countUp 0 F.RFX_CNT_FALSEDET_COUNT
    F.RFX_CNT_FALSEDET_OVF 1).raise 0 0x0F 0)) ∧
  (∀ (s : State) (rssi : Int), s.rxState = 3 → s.rxCredit = true → exec (.rxSfdFound rssi) s = .next ((s.beginRx false
    5).latchRssi rssi)) ∧
  (∀ (s : State) (rssi : Int), s.rxState = 3 → s.rxCredit = false → exec (.rxSfdFound rssi) s = .next
    (s.rxRefused.setRx 1)) ∧
  (∀ (s : State), (s.rxState = 1 ∨ s.rxState = 2 ∨ s.rxState = 3) → s.rxCredit = true → exec (.rxFreeSfd) s = .next
    (s.beginRx true 4)) ∧
  (∀ (s : State), (s.rxState = 1 ∨ s.rxState = 2 ∨ s.rxState = 3) → s.rxCredit = false → exec (.rxFreeSfd) s = .next
    (s.rxRefused.setRx 1)) ∧
  (∀ (s : State) (rssi : Int) (step : Nat), s.rxState = 4 → exec (.rxAgcRerunEnd rssi step) s = .next (((s.setRx
    5).latchRssi rssi).set 0 F.RFX_STAT_GAIN (gainOf step))) ∧
  (∀ (s : State) (rssi : Int) (step : Nat) (u v : State), s.rstate = 4 → u = s.set 0 F.RFX_RSSI_LIVE (field 16 rssi) →
    u.rxState = 1 → v = u.set 0 F.RFX_STAT_GAIN (gainOf step) → v.rxState = 1 → exec (.rssiUpdate rssi step) s = .next
    ({ v with radio := { v.radio with noise := some rssi } })) ∧
  (∀ (s : State) (rssi : Int) (step : Nat) (u v : State), s.rstate = 4 → u = s.set 0 F.RFX_RSSI_LIVE (field 16 rssi) →
    u.rxState = 2 → v = u.set 0 F.RFX_STAT_GAIN (gainOf step) → v.rxState ≠ 1 → exec (.rssiUpdate rssi step) s = .next
    v) ∧
  (∀ (s : State) (rssi : Int) (step : Nat) (u : State), s.rstate = 4 → u = s.set 0 F.RFX_RSSI_LIVE (field 16 rssi) →
    u.rxState ≠ 1 → u.rxState ≠ 2 → exec (.rssiUpdate rssi step) s = .next u) ∧
  (∀ (s : State) (rssi : Int) (step : Nat), s.rstate ≠ 4 → exec (.rssiUpdate rssi step) s = .next s) ∧
  (∀ (s : State) (rssi : Int), (s.rxState ≠ 1 ∨ rssi < s.rssiThr) → exec (.rxRssiDetect rssi) s = .next s) ∧
  (∀ (s : State), s.rxState ≠ 2 → exec (.rxPreambleQualified) s = .next s) ∧
  (∀ (s : State) (symbols : Nat) (rssi : Int), (s.rxState ≠ 2 ∨ symbols < 32 ∧ s.rssiThr - 6 ≤ rssi) → exec
    (.rxDetectTimeout symbols rssi) s = .next s) ∧
  (∀ (s : State), s.rxState ≠ 3 → exec (.rxSfdTimeout) s = .next s) ∧
  (∀ (s : State) (rssi : Int), s.rxState ≠ 3 → exec (.rxSfdFound rssi) s = .next s) ∧
  (∀ (s : State), s.rxState ≠ 1 → s.rxState ≠ 2 → s.rxState ≠ 3 → exec (.rxFreeSfd) s = .next s) ∧
  (∀ (s : State) (rssi : Int) (step : Nat), s.rxState ≠ 4 → exec (.rxAgcRerunEnd rssi step) s = .next s)

/-- Header, capture and end of a reception. A header that fails its checks is counted and drops the reception; a good
  one with credit for its payload raises the reservation and goes to PAYLOAD, without credit it is refused. A
  start-of-frame word of another frame, far enough above the latched RSSI while captures are enabled, ends the
  reception with status 2, counts it and begins a new one, or is refused without credit; else nothing changes. The end
  of a payload of the length of its header goes back to SEARCH, fills the receive buffer and writes the RADIO_RX
  record: status 1 with the CRC wrong, which is counted, else status 0 with the outcome of the security check, of the
  frame in either mode; an authentic frame triggers its ticket. An admission pass follows. -/
def Obligations.ReceiverFrames : Prop :=
  (∀ (s : State) (header : Nat) (fofs : Int) (r : RxRun) (h : Nat), s.rxState = 5 → s.radio.rx = some r → h = (if
    r.isari then header % 256 else header % 65536) → s.headerBad r.isari h = true → exec (.rxHeaderEnd header fofs) s
    = .next ((((s.dropRx r).countUp 0 F.RFX_CNT_HDRFAIL_COUNT F.RFX_CNT_HDRFAIL_OVF 1).raise 0 0x0F 3).coordinate)) ∧
  (∀ (s : State) (header : Nat) (fofs : Int) (r : RxRun) (h more : Nat) (u : State), s.rxState = 5 → s.radio.rx = some
    r → h = (if r.isari then header % 256 else header % 65536) → s.headerBad r.isari h = false → more =
    (({ r with header := h, fofs := fofs } : RxRun).plain + 3) / 4 → s.canReserve r.cls more = true → u = s.reserve
    r.cls more → exec (.rxHeaderEnd header fofs) s = .next
    (({ u with radio := { u.radio with rx := some { r with header := h, fofs := fofs, reserved := r.reserved + more } } }
    : State).setRx 6)) ∧
  (∀ (s : State) (header : Nat) (fofs : Int) (r : RxRun) (h more : Nat), s.rxState = 5 → s.radio.rx = some r → h = (if
    r.isari then header % 256 else header % 65536) → s.headerBad r.isari h = false → more =
    (({ r with header := h, fofs := fofs } : RxRun).plain + 3) / 4 → s.canReserve r.cls more = false → exec
    (.rxHeaderEnd header fofs) s = .next (((s.dropRx { r with header := h, fofs := fofs }).rxRefused).coordinate)) ∧
  (∀ (s : State) (rssi : Int) (ownWord : Bool), s.receiving = true → s.flag 0 F.RFX_CAPT_CAPT_EN = true → ownWord =
    false → signed 16 (s.get 0 F.RFX_RSSI_LATCHED) + 2 * (s.get 0 F.RFX_CAPT_CAPT_DB : Nat) ≤ rssi → s.rxCredit = true
    → exec (.rxCapture rssi ownWord) s = .next (((((s.cutRx 2).countUp 0 F.RFX_CNT_CAPTURED_COUNT
    F.RFX_CNT_CAPTURED_OVF 1).raise 0 0x0F 1).beginRx true 4).coordinate)) ∧
  (∀ (s : State) (rssi : Int) (ownWord : Bool), s.receiving = true → s.flag 0 F.RFX_CAPT_CAPT_EN = true → ownWord =
    false → signed 16 (s.get 0 F.RFX_RSSI_LATCHED) + 2 * (s.get 0 F.RFX_CAPT_CAPT_DB : Nat) ≤ rssi → s.rxCredit =
    false → exec (.rxCapture rssi ownWord) s = .next (s.rxRefused)) ∧
  (∀ (s : State) (rssi : Int) (ownWord : Bool), (s.receiving = false ∨ s.flag 0 F.RFX_CAPT_CAPT_EN = false ∨ ownWord =
    true ∨ rssi < signed 16 (s.get 0 F.RFX_RSSI_LATCHED) + 2 * (s.get 0 F.RFX_CAPT_CAPT_DB : Nat)) → exec (.rxCapture
    rssi ownWord) s = .next s) ∧
  (∀ (s : State) (header : Nat) (fofs : Int), (s.rxState ≠ 5 ∨ s.radio.rx = none) → exec (.rxHeaderEnd header fofs) s
    = .next s) ∧
  (∀ (s : State) (payload : List Byte), (s.rxState ≠ 6 ∨ s.radio.rx = none) → exec (.rxPayloadEnd payload) s = .next
    s) ∧
  (∀ (s : State) (payload : List Byte) (r : RxRun), s.rxState = 6 → s.radio.rx = some r → payload.length ≠ (if r.isari
    = true then r.header else r.header / 256) → exec (.rxPayloadEnd payload) s = .next s) ∧
  (∀ (s : State) (payload : List Byte) (r : RxRun) (body : List Byte) (u : State), s.rxState = 6 → s.radio.rx = some r
    → r.isari = false → payload.length = r.header / 256 → body = payload.take r.plain → u =
    (({ s with radio := { s.radio with rx := none } } : State).setRx 1).rxBuffer r payload → payload.drop r.plain ≠
    le4 (crc32 body) → exec (.rxPayloadEnd payload) s = .next (((u.countUp 0 F.RFX_CNT_CRCFAIL_COUNT
    F.RFX_CNT_CRCFAIL_OVF 1).rxRecord r 1 (r.header / 16 % 2) (r.header / 32 % 8) (r.header / 256) (field 16 r.fofs) 0
    noTicket body).coordinate)) ∧
  (∀ (s : State) (payload : List Byte) (r : RxRun) (body : List Byte) (u v w : State) (a k : Nat) (data : List Byte),
    s.rxState = 6 → s.radio.rx = some r → r.isari = false → payload.length = r.header / 256 → body = payload.take
    r.plain → u = (({ s with radio := { s.radio with rx := none } } : State).setRx 1).rxBuffer r payload →
    payload.drop r.plain = le4 (crc32 body) → u.rxSecurity body = (v, a, k, data) → w = v.rxRecord r 0 (r.header / 16
    % 2) (r.header / 32 % 8) (r.header / 256) (field 16 r.fofs) a k data → exec (.rxPayloadEnd payload) s = .next ((if
    a = 1 then w.ticketTrigger 3 0 k w.time else w).coordinate)) ∧
  (∀ (s : State) (payload : List Byte) (r : RxRun) (body : List Byte) (u : State) (c : Nat), s.rxState = 6 →
    s.radio.rx = some r → r.isari = true → payload.length = r.header → body = payload.take r.plain → u =
    (({ s with radio := { s.radio with rx := none } } : State).setRx 1).rxBuffer r payload → c = crcIsari
    (BitVec.ofNat 8 r.header :: body) → payload.drop r.plain ≠ [BitVec.ofNat 8 (c / 256), BitVec.ofNat 8 c] → exec
    (.rxPayloadEnd payload) s = .next (((u.countUp 0 F.RFX_CNT_CRCFAIL_COUNT F.RFX_CNT_CRCFAIL_OVF 1).rxRecord r 1 0 0
    r.header (field 16 r.fofs) 0 noTicket body).coordinate)) ∧
  (∀ (s : State) (payload : List Byte) (r : RxRun) (body : List Byte) (u v w : State) (a k : Nat) (data : List Byte)
    (c : Nat), s.rxState = 6 → s.radio.rx = some r → r.isari = true → payload.length = r.header → body = payload.take
    r.plain → u = (({ s with radio := { s.radio with rx := none } } : State).setRx 1).rxBuffer r payload → c =
    crcIsari (BitVec.ofNat 8 r.header :: body) → payload.drop r.plain = [BitVec.ofNat 8 (c / 256), BitVec.ofNat 8 c] →
    u.rxSecurity body = (v, a, k, data) → w = v.rxRecord r 0 0 0 r.header (field 16 r.fofs) a k data → exec
    (.rxPayloadEnd payload) s = .next ((if a = 1 then w.ticketTrigger 3 0 k w.time else w).coordinate))

/-- The radio commands, their queue and the start of the command at its head. On the unlocked radio control page in
  ACTIVE each radio command goes to the queue: with 8 waiting it is refused with 0x0101, an invalid one (a TX whose
  AFTER is above 2, or a channel whose hop entry is not enabled) with 0x0102, else it is put at the end as given. In a
  permitted radio at its last target, both radio pages ON and no RADIO test, pad hold, profile load or sleep entry in
  the way, the command at the head starts, a background calibration being abandoned: FLUSH withdraws the queued TX
  commands and ends, TX waits for its 6 words, counted once, CAL and CAL_ALL calibrate their entries, the others head
  for their state, an RX command asserting CXREQ. -/
def Obligations.RadioCommandQueue : Prop :=
  (∀ (s : State), s.awake = true → s.flag 0 (F.PG_LOCK 0x10) = false → exec (.radioCmdSleep) s = .next (s.queueRadio
    { code := 1, after := 0, pri := false, template := 0, channel := 0, ticket := noTicket, list := none })) ∧
  (∀ (s : State), s.awake = true → s.flag 0 (F.PG_LOCK 0x10) = false → exec (.radioCmdStandby) s = .next (s.queueRadio
    { code := 2, after := 0, pri := false, template := 0, channel := 0, ticket := noTicket, list := none })) ∧
  (∀ (s : State) (channel : Nat), s.awake = true → s.flag 0 (F.PG_LOCK 0x10) = false → exec (.radioCmdSynth channel) s
    = .next (s.queueRadio
    { code := 3, after := 0, pri := false, template := 0, channel := channel, ticket := noTicket, list := none })) ∧
  (∀ (s : State) (channel : Nat), s.awake = true → s.flag 0 (F.PG_LOCK 0x10) = false → exec (.radioCmdRx channel) s =
    .next (s.queueRadio
    { code := 4, after := 0, pri := false, template := 0, channel := channel, ticket := noTicket, list := none })) ∧
  (∀ (s : State) (after : Nat) (pri : Bool) (template channel ticket : Nat), s.awake = true → s.flag 0 (F.PG_LOCK
    0x10) = false → exec (.radioCmdTx after pri template channel ticket) s = .next (s.queueRadio
    { code := 5, after := after, pri := pri, template := template, channel := channel, ticket := ticket, list := none })) ∧
  (∀ (s : State) (channel : Nat), s.awake = true → s.flag 0 (F.PG_LOCK 0x10) = false → exec (.radioCmdCal channel) s =
    .next (s.queueRadio
    { code := 6, after := 0, pri := false, template := 0, channel := channel, ticket := noTicket, list := none })) ∧
  (∀ (s : State), s.awake = true → s.flag 0 (F.PG_LOCK 0x10) = false → exec (.radioCmdCalAll) s = .next (s.queueRadio
    { code := 7, after := 0, pri := false, template := 0, channel := 0, ticket := noTicket, list := none })) ∧
  (∀ (s : State), s.awake = true → s.flag 0 (F.PG_LOCK 0x10) = false → exec (.radioCmdFlush) s = .next (s.queueRadio
    { code := 8, after := 0, pri := false, template := 0, channel := 0, ticket := noTicket, list := none })) ∧
  (∀ (s : State) (c : RadioCmd) (cs : List RadioCmd) (u : State), s.awake = true → s.radio.running = false →
    s.radio.goal = none → s.flag 0 F.RFC_STAT_PERMIT = true → s.pageOn 0 0x10 = true → s.pageOn 0 0x0F = true →
    s.radioTested = false → (s.get 0 F.PWR_STAT_PADHELD).testBit 2 = false → s.coord.loading = false → s.power.phase =
    .none → s.radio.queue = c :: cs → u = { s.abandonHop with radio := { s.abandonHop.radio with running := true } } →
    c.code = 8 → exec (.radioCmdStart) s = .next (u.flushTx.popRadio)) ∧
  (∀ (s : State) (c : RadioCmd) (cs : List RadioCmd) (u : State), s.awake = true → s.radio.running = false →
    s.radio.goal = none → s.flag 0 F.RFC_STAT_PERMIT = true → s.pageOn 0 0x10 = true → s.pageOn 0 0x0F = true →
    s.radioTested = false → (s.get 0 F.PWR_STAT_PADHELD).testBit 2 = false → s.coord.loading = false → s.power.phase =
    .none → s.radio.queue = c :: cs → u = { s.abandonHop with radio := { s.abandonHop.radio with running := true } } →
    c.code = 5 → u.canReserve (u.get 0 F.RFC_CFG_TXCLASS) 6 = true → exec (.radioCmdStart) s = .next u) ∧
  (∀ (s : State) (c : RadioCmd) (cs : List RadioCmd) (u : State), s.awake = true → s.radio.running = false →
    s.radio.goal = none → s.flag 0 F.RFC_STAT_PERMIT = true → s.pageOn 0 0x10 = true → s.pageOn 0 0x0F = true →
    s.radioTested = false → (s.get 0 F.PWR_STAT_PADHELD).testBit 2 = false → s.coord.loading = false → s.power.phase =
    .none → s.radio.queue = c :: cs → u = { s.abandonHop with radio := { s.abandonHop.radio with running := true } } →
    c.code = 5 → u.canReserve (u.get 0 F.RFC_CFG_TXCLASS) 6 = false → u.radio.creditSeen = true → exec
    (.radioCmdStart) s = .next u) ∧
  (∀ (s : State) (c : RadioCmd) (cs : List RadioCmd) (u : State), s.awake = true → s.radio.running = false →
    s.radio.goal = none → s.flag 0 F.RFC_STAT_PERMIT = true → s.pageOn 0 0x10 = true → s.pageOn 0 0x0F = true →
    s.radioTested = false → (s.get 0 F.PWR_STAT_PADHELD).testBit 2 = false → s.coord.loading = false → s.power.phase =
    .none → s.radio.queue = c :: cs → u = { s.abandonHop with radio := { s.abandonHop.radio with running := true } } →
    c.code = 5 → u.canReserve (u.get 0 F.RFC_CFG_TXCLASS) 6 = false → u.radio.creditSeen = false → exec
    (.radioCmdStart) s = .next (({ u with radio := { u.radio with creditSeen := true } } : State).countUp 0
    F.RFC_CNT_CREDIT_COUNT F.RFC_CNT_CREDIT_OVF 1)) ∧
  (∀ (s : State) (c : RadioCmd) (cs : List RadioCmd) (u : State), s.awake = true → s.radio.running = false →
    s.radio.goal = none → s.flag 0 F.RFC_STAT_PERMIT = true → s.pageOn 0 0x10 = true → s.pageOn 0 0x0F = true →
    s.radioTested = false → (s.get 0 F.PWR_STAT_PADHELD).testBit 2 = false → s.coord.loading = false → s.power.phase =
    .none → s.radio.queue = c :: cs → u = { s.abandonHop with radio := { s.abandonHop.radio with running := true } } →
    c.code = 6 → exec (.radioCmdStart) s = .next
    (({ u with radio := { u.radio with calLeft := [c.channel], goal := some (u.rstate, u.chan) } } :
    State).radioSettle)) ∧
  (∀ (s : State) (c : RadioCmd) (cs : List RadioCmd) (u : State), s.awake = true → s.radio.running = false →
    s.radio.goal = none → s.flag 0 F.RFC_STAT_PERMIT = true → s.pageOn 0 0x10 = true → s.pageOn 0 0x0F = true →
    s.radioTested = false → (s.get 0 F.PWR_STAT_PADHELD).testBit 2 = false → s.coord.loading = false → s.power.phase =
    .none → s.radio.queue = c :: cs → u = { s.abandonHop with radio := { s.abandonHop.radio with running := true } } →
    c.code = 7 → exec (.radioCmdStart) s = .next
    (({ u with radio := { u.radio with calLeft := (List.range 128).filter u.hopEn, goal := some (u.rstate, u.chan) } }
    : State).radioSettle)) ∧
  (∀ (s : State) (c : RadioCmd) (cs : List RadioCmd) (u : State), s.awake = true → s.radio.running = false →
    s.radio.goal = none → s.flag 0 F.RFC_STAT_PERMIT = true → s.pageOn 0 0x10 = true → s.pageOn 0 0x0F = true →
    s.radioTested = false → (s.get 0 F.PWR_STAT_PADHELD).testBit 2 = false → s.coord.loading = false → s.power.phase =
    .none → s.radio.queue = c :: cs → u = { s.abandonHop with radio := { s.abandonHop.radio with running := true } } →
    (c.code = 1 ∨ c.code = 2) → exec (.radioCmdStart) s = .next
    ((({ u with radio := { u.radio with goal := some (c.code - 1, c.channel) } } : State).radioSettle).cxRelease)) ∧
  (∀ (s : State) (c : RadioCmd) (cs : List RadioCmd) (u : State), s.awake = true → s.radio.running = false →
    s.radio.goal = none → s.flag 0 F.RFC_STAT_PERMIT = true → s.pageOn 0 0x10 = true → s.pageOn 0 0x0F = true →
    s.radioTested = false → (s.get 0 F.PWR_STAT_PADHELD).testBit 2 = false → s.coord.loading = false → s.power.phase =
    .none → s.radio.queue = c :: cs → u = { s.abandonHop with radio := { s.abandonHop.radio with running := true } } →
    c.code = 3 → exec (.radioCmdStart) s = .next ((({ u with radio := { u.radio with goal := some (3, c.channel) } } :
    State).radioSettle).cxRelease)) ∧
  (∀ (s : State) (c : RadioCmd) (cs : List RadioCmd) (u : State) (v : State), s.awake = true → s.radio.running = false
    → s.radio.goal = none → s.flag 0 F.RFC_STAT_PERMIT = true → s.pageOn 0 0x10 = true → s.pageOn 0 0x0F = true →
    s.radioTested = false → (s.get 0 F.PWR_STAT_PADHELD).testBit 2 = false → s.coord.loading = false → s.power.phase =
    .none → s.radio.queue = c :: cs → u = { s.abandonHop with radio := { s.abandonHop.radio with running := true } } →
    c.code = 4 → v = u.cxAssert (u.flag 0 F.RFC_CX_RXPRI) → exec (.radioCmdStart) s = .next
    ((({ v with radio := { v.radio with goal := some (4, c.channel) } } : State).radioSettle).cxRelease)) ∧
  (∀ (s : State), (s.awake = false ∨ s.radio.running = true ∨ s.radio.goal ≠ none ∨ s.flag 0 F.RFC_STAT_PERMIT = false
    ∨ s.pageOn 0 0x10 = false ∨ s.pageOn 0 0x0F = false ∨ s.radioTested = true ∨ (s.get 0 F.PWR_STAT_PADHELD).testBit
    2 = true ∨ s.coord.loading = true ∨ s.power.phase ≠ .none ∨ s.radio.queue = []) → exec (.radioCmdStart) s = .next
    s) ∧
  (∀ (s : State) (c : RadioCmd), 1 ≤ c.code → c.code ≤ 8 →
    (8 ≤ s.radio.queue.length → s.queueRadio c = s.err 0 0x10 0x0101) ∧
    (s.radio.queue.length < 8 →
      (c.code = 5 ∧ 2 < c.after ∨ (c.code = 3 ∨ c.code = 4 ∨ c.code = 5 ∨ c.code = 6) ∧ s.hopEn c.channel = false →
        s.queueRadio c = s.err 0 0x10 0x0102) ∧
      (¬ (c.code = 5 ∧ 2 < c.after ∨ (c.code = 3 ∨ c.code = 4 ∨ c.code = 5 ∨ c.code = 6) ∧ s.hopEn c.channel = false) →
        s.queueRadio c = { s with radio := { s.radio with queue := s.radio.queue ++ [c] } })))

/-- Radio states and the course of a transmission. The radio reaches its next state on its hop entry, ending a
  reception it leaves, unless it waits for that reception. A TX command with credit reserves 6 words and is checked:
  it heads for TX, or ends with the record of the first check that fails and the radio goes to its AFTER state. When
  the conditions of the ramp hold, the charge is booked and the ramp starts, a secured frame taking the next counter,
  or the command ends with status 2. The last chip, a lost lock, a late synthesiser and a mask point violated in two
  measurements of an Isari frame end the command with status 0, 8, 1 and 5. The chips of a frame on air are as many as
  its length, coding and spreading say. -/
def Obligations.RadioStatesAndTransmit : Prop :=
  (∀ (s : State) (st n : Nat) (u v w x : State), s.awake = true → s.finishWaits = false → s.radioNext = some (st, n) →
    u = (if s.rstate = 4 then s.leaveRx else s) → v = (u.set 0 F.RFC_STAT_RSTATE st).set 0 F.RFC_STAT_CHAN n → w = (if
    st = 4 then v.setRx 1 else v) → (x = (if st = 4 ∧ w.flag 0 F.RFC_STAT_CXREQ = false then w.cxAssert (w.flag 0
    F.RFC_CX_RXPRI) else w)) → exec (.radioStateReached) s = .next ((x.radioSettle.cxRelease).coordinate)) ∧
  (∀ (s : State), s.awake = true → (s.finishWaits = true ∨ s.radioNext = none) → exec (.radioStateReached) s = .next
    s) ∧
  (∀ (s : State) (c : RadioCmd) (cls st : Nat) (x : TxRun) (u : State), s.awake = true → s.radio.running = true →
    s.radio.tx = none → s.radio.queue.head? = some c → cls = s.get 0 F.RFC_CFG_TXCLASS → c.code = 5 → s.canReserve cls
    6 = true → (s.reserve cls 6).prepareTx c cls = (st, x) → u = s.reserve cls 6 → st = 0 → exec (.txCreditReserved) s
    = .next (({ u with radio := { u.radio with tx := some x, goal := some (5, c.channel) } } : State).cxAssert c.pri)) ∧
  (∀ (s : State) (c : RadioCmd) (cls st : Nat) (x : TxRun) (u : State), s.awake = true → s.radio.running = true →
    s.radio.tx = none → s.radio.queue.head? = some c → cls = s.get 0 F.RFC_CFG_TXCLASS → c.code = 5 → s.canReserve cls
    6 = true → (s.reserve cls 6).prepareTx c cls = (st, x) → u = s.reserve cls 6 → st ≠ 0 → exec (.txCreditReserved) s
    = .next (((u.cxAssert c.pri).txRecord st c x).popRadio.headFor c.afterGoal)) ∧
  (∀ (s : State) (c : RadioCmd), s.radio.queue.head? = some c → s.canReserve (s.get 0 F.RFC_CFG_TXCLASS) 6 = false →
    exec (.txCreditReserved) s = .next s) ∧
  (∀ (s : State) (x : TxRun) (charge : Nat), s.awake = true → s.rampReady = true → s.radio.tx = some x → charge =
    airTime (s.flag 0 F.RFX_CFG_ISARI) x.flags x.len + 2 * s.get 0 F.RFX_TXCFG_RAMP_T → s.dutyLimit x.subband ≠ 1000 →
    s.dutyLimit x.subband * 3600000 < s.dutyUsed x.subband + charge → exec (.txRampStart) s = .next ((s.endTx 2
    false).coordinate)) ∧
  (∀ (s : State) (x y : TxRun) (charge ctr : Nat) (u v w : State), s.awake = true → s.rampReady = true → s.radio.tx =
    some x → charge = airTime (s.flag 0 F.RFX_CFG_ISARI) x.flags x.len + 2 * s.get 0 F.RFX_TXCFG_RAMP_T → (s.dutyLimit
    x.subband = 1000 ∨ s.dutyUsed x.subband + charge ≤ s.dutyLimit x.subband * 3600000) → u = s → ctr = u.get 0
    F.SEC_TXCTR_CTR → y =
    { x with started := true, charge := charge, frame := txFrame (s.flag 0 F.RFX_CFG_ISARI) x u.ownId ctr, fcnt := if x.secure.isSome = true then ctr else 0, firstChip := u.time + usTicks (u.get 0 F.RFX_TXCFG_RAMP_T) }
    → v = (if x.secure.isSome = true then u.nextCounter else u) → w =
    ({ v with radio := { v.radio with tx := some y, charges := v.radio.charges ++ [(x.subband, v.radio.second, charge)] } }
    : State).set 0 F.RFC_STAT_RSTATE 5 → exec (.txRampStart) s = .next ((if x.clamped = true then w.raise 0 0x0F 5
    else w).coordinate)) ∧
  (∀ (s : State), (s.awake = false ∨ s.rampReady = false) → exec (.txRampStart) s = .next s) ∧
  (∀ (s : State), s.sending = false → exec (.txLastChip) s = .next s) ∧
  (∀ (s : State), s.sending = false → exec (.synthLockLoss) s = .next s) ∧
  (∀ (s : State), (s.radio.tx = none ∨ s.sending = true) → exec (.txSynthDeadline) s = .next s) ∧
  (∀ (s : State) (below : List Nat), (s.sending = false ∨ s.flag 0 F.RFX_CFG_ISARI = false) → exec (.maskMeasure
    below) s = .next s) ∧
  (∀ (s : State), s.sending = true → exec (.txLastChip) s = .next ((s.endTx 0 false).coordinate)) ∧
  (∀ (s : State), s.sending = true → exec (.synthLockLoss) s = .next ((s.endTx 8 false).coordinate)) ∧
  (∀ (s : State) (x : TxRun) (c : RadioCmd), s.radio.tx = some x → s.sending = false → s.radio.queue.head? = some c →
    (s.rstate ≠ 3 ∧ s.rstate ≠ 4 ∨ s.chan ≠ c.channel ∨ s.hopValid c.channel = false) → exec (.txSynthDeadline) s =
    .next ((s.endTx 1 true).coordinate)) ∧
  (∀ (s : State) (below : List Nat) (x : TxRun) (bad : List Nat), s.sending = true → s.flag 0 F.RFX_CFG_ISARI = true →
    s.radio.tx = some x → bad = s.maskViolated below → bad.any x.maskBad.contains = true → exec (.maskMeasure below) s
    = .next ((s.endTx 5 false).coordinate)) ∧
  (∀ (s : State) (below : List Nat) (x : TxRun) (bad : List Nat), s.sending = true → s.flag 0 F.RFX_CFG_ISARI = true →
    s.radio.tx = some x → bad = s.maskViolated below → bad.any x.maskBad.contains = false → exec (.maskMeasure below)
    s = .next ({ s with radio := { s.radio with tx := some { x with maskBad := bad } } })) ∧
  (∀ (flags len : Nat) (frame : List Byte), frame.length = len →
    (wearunakChips flags len frame).length = 1024 +
      (if flags / 16 % 2 = 1 then 2 * (8 * len + 6) else 8 * len) * (if flags % 8 = 0 then 4 else if flags % 8 = 1 then 8 else 16) ∧
    (isariChips len frame).length = 480 + 80 * len)

/-- Coexistence, hop calibration, the duty clock and the key slots. The grant line sets and clears CXGNT; in grant
  mode its loss ends a frame with status 3, or 0 when its last chip has ended, or marks a reception COEX, and its
  absence at the timeout ends a waiting TX command with status 9. A DUE hop entry is calibrated in STANDBY in the
  background; an entry being calibrated, at start-up, for a command or in the background, becomes valid at its end,
  the last one of the start-up permitting the radio in SLEEP. While VSUP is present the duty clock counts each second
  and drops charges of 3,600 s. A key operation on one of the 64 slots of the unlocked page loads or empties its slot
  at once, or waits for a frame that uses it. -/
def Obligations.RadioCoexDutyKeys : Prop :=
  (∀ (s : State), exec (.cxgntAssert) s = .next (s.set 0 F.RFC_STAT_CXGNT 1)) ∧
  (∀ (s : State) (u : State), u = s.set 0 F.RFC_STAT_CXGNT 0 → u.flag 0 F.RFC_CX_MODE = false → exec (.cxgntWithdraw)
    s = .next u) ∧
  (∀ (s : State) (u : State) (x : TxRun), u = s.set 0 F.RFC_STAT_CXGNT 0 → u.flag 0 F.RFC_CX_MODE = true → u.sending =
    true → u.radio.tx = some x → x.lastChip (u.get 0 F.RFX_TXCFG_RAMP_T) ≤ u.time → exec (.cxgntWithdraw) s = .next
    ((u.endTx 0 false).coordinate)) ∧
  (∀ (s : State) (u : State) (x : TxRun), u = s.set 0 F.RFC_STAT_CXGNT 0 → u.flag 0 F.RFC_CX_MODE = true → u.sending =
    true → u.radio.tx = some x → x.lastChip (u.get 0 F.RFX_TXCFG_RAMP_T) > u.time → exec (.cxgntWithdraw) s = .next
    ((u.endTx 3 false).coordinate)) ∧
  (∀ (s : State) (u : State), u = s.set 0 F.RFC_STAT_CXGNT 0 → u.flag 0 F.RFC_CX_MODE = true → u.sending = false →
    exec (.cxgntWithdraw) s = .next
    ({ u with radio := { u.radio with rx := u.radio.rx.map (fun (r : RxRun) => { r with coex := true }) } })) ∧
  (∀ (s : State) (x : TxRun), s.radio.tx = some x → s.sending = false → s.flag 0 F.RFC_CX_MODE = true → s.flag 0
    F.RFC_STAT_CXGNT = false → exec (.coexGrantTimeout) s = .next ((s.endTx 9 false).coordinate)) ∧
  (∀ (s : State) (entry : Nat) (u : State), s.awake = true → s.rstate = 1 → s.radio.queue = [] → s.radio.goal = none →
    s.radio.hopRun = none → (s.calTarget (hopSet entry)).due = true → s.hopEn entry = true → s.power.phase = .none →
    s.pageOn 0 0x12 = true → s.radioTested = false → u = s.setCalTarget (hopSet entry)
    { s.calTarget (hopSet entry) with running := true } → exec (.hopCalBackground entry) s = .next
    (({ u with radio := { s.radio with hopRun := some entry } } : State).set 0 F.RFC_STAT_RSTATE 2)) ∧
  (∀ (s : State) (entry : Nat) (temp band gain : Int) (k : Nat) (u : State), s.awake = true → s.radio.startup = [] → k
    = hopSet entry → u = ((s.setCalTarget k { s.calTarget k with due := false, aged := false }).set 0 (F.RFC_HOP_VALID
    entry) 1).endRun k true temp [(13, 0, band), (14, 0, gain)] → s.rstate = 2 → s.chan = entry → s.radio.hopRun =
    none → exec (.hopCalEnd entry temp band gain) s = .next
    (({ u with radio := { u.radio with calLeft := u.radio.calLeft.filter (· != entry) } } : State).coordinate)) ∧
  (∀ (s : State) (entry : Nat) (temp band gain : Int) (k : Nat) (u : State), s.awake = true → s.radio.startup = [] → k
    = hopSet entry → u = ((s.setCalTarget k { s.calTarget k with due := false, aged := false }).set 0 (F.RFC_HOP_VALID
    entry) 1).endRun k true temp [(13, 0, band), (14, 0, gain)] → (s.rstate ≠ 2 ∨ s.chan ≠ entry) → s.radio.hopRun =
    some entry → exec (.hopCalEnd entry temp band gain) s = .next
    ((({ u with radio := { u.radio with hopRun := none } } : State).set 0 F.RFC_STAT_RSTATE 1).coordinate)) ∧
  (∀ (s : State), s.device ≠ .off → exec (.dutyClockSecond) s = .next
    ({ s with radio := { s.radio with second := s.radio.second + 1, charges := s.radio.charges.filter (fun c => decide (s.radio.second + 1 < c.2.1 + 3600)) } })) ∧
  (∀ (s : State) (entry : Nat) (temp band gain : Int) (k : Nat) (rest : List Nat) (u v : State), s.awake = true →
    s.radio.startup = entry :: rest → k = hopSet entry → u = ((s.setCalTarget k
    { s.calTarget k with due := false, aged := false }).set 0 (F.RFC_HOP_VALID entry) 1).endRun k true temp [(13, 0,
    band), (14, 0, gain)] → s.rstate ≠ 2 → s.radio.hopRun = none → v =
    { u with radio := { u.radio with startup := u.radio.startup.tail } } → v.radio.startup.isEmpty = false → exec
    (.hopCalEnd entry temp band gain) s = .next (v.coordinate)) ∧
  (∀ (s : State) (entry : Nat) (temp band gain : Int) (k : Nat) (rest : List Nat) (u v : State), s.awake = true →
    s.radio.startup = entry :: rest → k = hopSet entry → u = ((s.setCalTarget k
    { s.calTarget k with due := false, aged := false }).set 0 (F.RFC_HOP_VALID entry) 1).endRun k true temp [(13, 0,
    band), (14, 0, gain)] → s.rstate ≠ 2 → s.radio.hopRun = none → v =
    { u with radio := { u.radio with startup := u.radio.startup.tail } } → v.radio.startup.isEmpty = true → exec
    (.hopCalEnd entry temp band gain) s = .next (((v.set 0 F.RFC_STAT_PERMIT 1).set 0 F.RFC_STAT_RSTATE
    0).coordinate)) ∧
  (∀ (s : State) (entry : Nat) (temp band gain : Int), (s.awake = false ∨ s.radio.startup.head? ≠ some entry ∧
    (s.rstate ≠ 2 ∨ s.chan ≠ entry) ∧ s.radio.hopRun ≠ some entry) → exec (.hopCalEnd entry temp band gain) s = .next
    s) ∧
  (∀ (s : State), s.device = .off → exec (.dutyClockSecond) s = .next s) ∧
  (∀ (s : State) (slot : Nat), s.awake = true → s.flag 0 (F.PG_LOCK 0x11) = false → slot < 64 → s.radio.tx = none →
    exec (.secKeyLoad slot) s = .next (s.keySet slot ((List.range 4).map (fun n => s.reg 0 0x11 (0x030 + 4 * n))))) ∧
  (∀ (s : State) (slot : Nat) (x : TxRun), s.awake = true → s.flag 0 (F.PG_LOCK 0x11) = false → slot < 64 → s.radio.tx
    = some x → x.secure = none → exec (.secKeyLoad slot) s = .next (s.keySet slot ((List.range 4).map (fun n => s.reg
    0 0x11 (0x030 + 4 * n))))) ∧
  (∀ (s : State) (slot : Nat) (x : TxRun) (l m : Nat) (k : List Word), s.awake = true → s.flag 0 (F.PG_LOCK 0x11) =
    false → slot < 64 → s.radio.tx = some x → x.secure = some (l, m, k) → m ≠ slot → exec (.secKeyLoad slot) s = .next
    (s.keySet slot ((List.range 4).map (fun n => s.reg 0 0x11 (0x030 + 4 * n))))) ∧
  (∀ (s : State) (slot : Nat) (x : TxRun) (l : Nat) (k : List Word), s.awake = true → s.flag 0 (F.PG_LOCK 0x11) =
    false → slot < 64 → s.radio.tx = some x → x.secure = some (l, slot, k) → exec (.secKeyLoad slot) s = .next
    ({ s with radio := { s.radio with keyOps := s.radio.keyOps ++ [(slot, ((List.range 4).map (fun n => s.reg 0 0x11 (0x030 + 4 * n))))] } })) ∧
  (∀ (s : State) (slot : Nat), s.awake = true → s.flag 0 (F.PG_LOCK 0x11) = false → slot < 64 → s.radio.tx = none →
    exec (.secKeyErase slot) s = .next (s.keySet slot [])) ∧
  (∀ (s : State) (slot : Nat) (x : TxRun), s.awake = true → s.flag 0 (F.PG_LOCK 0x11) = false → slot < 64 → s.radio.tx
    = some x → x.secure = none → exec (.secKeyErase slot) s = .next (s.keySet slot [])) ∧
  (∀ (s : State) (slot : Nat) (x : TxRun) (l m : Nat) (k : List Word), s.awake = true → s.flag 0 (F.PG_LOCK 0x11) =
    false → slot < 64 → s.radio.tx = some x → x.secure = some (l, m, k) → m ≠ slot → exec (.secKeyErase slot) s =
    .next (s.keySet slot [])) ∧
  (∀ (s : State) (slot : Nat) (x : TxRun) (l : Nat) (k : List Word), s.awake = true → s.flag 0 (F.PG_LOCK 0x11) =
    false → slot < 64 → s.radio.tx = some x → x.secure = some (l, slot, k) → exec (.secKeyErase slot) s = .next
    ({ s with radio := { s.radio with keyOps := s.radio.keyOps ++ [(slot, [])] } }))

/-- What the arithmetic instructions of a poll list leave. When the engine runs and selects a list whose word decodes
  to the instruction, each arithmetic instruction puts its result into variable A with VALID, takes the flags Z and N
  of the value written (S for a saturating one, E for a MEAN of nothing, C and H for CMPH, W for WINDOW), leaves T,
  and the list goes on at the word after it. An instruction whose list does not run, is not selected, or holds another
  opcode there, changes nothing. -/
def Obligations.PollArithmetic : Prop :=
  (∀ (s : State) (list : Nat) (r : PleRun) (w v : Word) (u : State), (s.pleList list).run = some r → w = s.progWord
    r.pc → v = s.progWord (r.pc + 1) → s.pleEngine = true → opOf w = 2 → s.pleSelected = some list → r.wait = .none →
    u = { s with ple := { s.ple with last := Store.insert (Store.erase s.ple.last r.prio) r.prio list, wrote := [] } }
    → exec (.pleMovi list) s = .next ((u.setPleVar (fieldA w) (ofInt (signed 16 (bits w 0 16)))).pleDone list ((r.zn
    (ofInt (signed 16 (bits w 0 16)))).next 0x02))) ∧
  (∀ (s : State) (list : Nat) (r : PleRun) (w v : Word) (u : State), (s.pleList list).run = some r → w = s.progWord
    r.pc → v = s.progWord (r.pc + 1) → s.pleEngine = true → opOf w = 3 → s.pleSelected = some list → r.wait = .none →
    u = { s with ple := { s.ple with last := Store.insert (Store.erase s.ple.last r.prio) r.prio list, wrote := [] } }
    → exec (.pleMovw list) s = .next ((u.setPleVar (fieldA w) v).pleDone list ((r.zn v).next 0x03))) ∧
  (∀ (s : State) (list : Nat) (r : PleRun) (w v : Word) (u : State) (x : Int), (s.pleList list).run = some r → w =
    s.progWord r.pc → v = s.progWord (r.pc + 1) → s.pleEngine = true → opOf w = 6 → s.pleSelected = some list → r.wait
    = .none → u =
    { s with ple := { s.ple with last := Store.insert (Store.erase s.ple.last r.prio) r.prio list, wrote := [] } } → x
    = (u.pleVar (fieldB w)).toInt + (u.pleVar (fieldC w)).toInt → exec (.pleAdd list) s = .next ((u.setPleVar (fieldA
    w) (ofInt (sat32 x))).pleDone list (((r.zn (ofInt (sat32 x))).setFlag 6 (sats x)).next 6))) ∧
  (∀ (s : State) (list : Nat) (r : PleRun) (w v : Word) (u : State) (x : Int), (s.pleList list).run = some r → w =
    s.progWord r.pc → v = s.progWord (r.pc + 1) → s.pleEngine = true → opOf w = 7 → s.pleSelected = some list → r.wait
    = .none → u =
    { s with ple := { s.ple with last := Store.insert (Store.erase s.ple.last r.prio) r.prio list, wrote := [] } } → x
    = (u.pleVar (fieldB w)).toInt - (u.pleVar (fieldC w)).toInt → exec (.pleSub list) s = .next ((u.setPleVar (fieldA
    w) (ofInt (sat32 x))).pleDone list (((r.zn (ofInt (sat32 x))).setFlag 6 (sats x)).next 7))) ∧
  (∀ (s : State) (list : Nat) (r : PleRun) (w v : Word) (u : State) (x : Int), (s.pleList list).run = some r → w =
    s.progWord r.pc → v = s.progWord (r.pc + 1) → s.pleEngine = true → opOf w = 8 → s.pleSelected = some list → r.wait
    = .none → u =
    { s with ple := { s.ple with last := Store.insert (Store.erase s.ple.last r.prio) r.prio list, wrote := [] } } → x
    = Int.fdiv ((u.pleVar (fieldB w)).toInt * signed 16 (bits v 16 16)) (2 ^ bits v 0 5 : Nat) → exec (.pleScale list)
    s = .next ((u.setPleVar (fieldA w) (ofInt (sat32 x))).pleDone list (((r.zn (ofInt (sat32 x))).setFlag 6 (sats
    x)).next 8))) ∧
  (∀ (s : State) (list : Nat) (r : PleRun) (w v : Word) (u : State) (x : Word), (s.pleList list).run = some r → w =
    s.progWord r.pc → v = s.progWord (r.pc + 1) → s.pleEngine = true → opOf w = 9 → s.pleSelected = some list → r.wait
    = .none → u =
    { s with ple := { s.ple with last := Store.insert (Store.erase s.ple.last r.prio) r.prio list, wrote := [] } } → x
    = (if bit w 0 then ofInt (signed (bits w 4 5 + 1) (bits (u.pleVar (fieldB w)) (bits w 9 5) (bits w 4 5 + 1))) else
    word (bits (u.pleVar (fieldB w)) (bits w 9 5) (bits w 4 5 + 1))) → exec (.pleExt list) s = .next ((u.setPleVar
    (fieldA w) x).pleDone list ((r.zn x).next 0x09))) ∧
  (∀ (s : State) (list : Nat) (r : PleRun) (w v : Word) (u : State) (x : Word), (s.pleList list).run = some r → w =
    s.progWord r.pc → v = s.progWord (r.pc + 1) → s.pleEngine = true → opOf w = 10 → s.pleSelected = some list →
    r.wait = .none → u =
    { s with ple := { s.ple with last := Store.insert (Store.erase s.ple.last r.prio) r.prio list, wrote := [] } } →
    u.pleValid (fieldA w) = false → x = u.pleVar (fieldB w) → exec (.pleIir list) s = .next ((u.setPleVar (fieldA w)
    x).pleDone list (((r.zn x).setFlag 6 false).next 0x0A))) ∧
  (∀ (s : State) (list : Nat) (r : PleRun) (w v : Word) (u : State) (d : Int) (x : Word), (s.pleList list).run = some
    r → w = s.progWord r.pc → v = s.progWord (r.pc + 1) → s.pleEngine = true → opOf w = 10 → s.pleSelected = some list
    → r.wait = .none → u =
    { s with ple := { s.ple with last := Store.insert (Store.erase s.ple.last r.prio) r.prio list, wrote := [] } } →
    u.pleValid (fieldA w) = true → d = (u.pleVar (fieldB w)).toInt - (u.pleVar (fieldA w)).toInt → x = ofInt
    ((u.pleVar (fieldA w)).toInt + Int.fdiv (sat32 d) (2 ^ bits w 0 4 : Nat)) → exec (.pleIir list) s = .next
    ((u.setPleVar (fieldA w) x).pleDone list (((r.zn x).setFlag 6 (sats d)).next 0x0A))) ∧
  (∀ (s : State) (list : Nat) (r : PleRun) (w v : Word) (u : State) (old hist : List (Word × Bool)) (m : Word),
    (s.pleList list).run = some r → w = s.progWord r.pc → v = s.progWord (r.pc + 1) → s.pleEngine = true → opOf w = 11
    → s.pleSelected = some list → r.wait = .none → u =
    { s with ple := { s.ple with last := Store.insert (Store.erase s.ple.last r.prio) r.prio list, wrote := [] } } →
    old = [0, 1, 2, 3].map (fun i => (u.pleVar (fieldC w + i), u.pleValid (fieldC w + i))) → m = ofInt (medianOf
    ((u.pleVar (fieldB w)).toInt :: (old.filter Prod.snd).map (fun x => x.1.toInt))) → hist = (u.pleVar (fieldB w),
    u.pleValid (fieldB w)) :: old.take 3 → exec (.pleMedian5 list) s = .next ((hist.zipIdx.foldl (fun (z : State) (e :
    (Word × Bool) × Nat) => (z.setPleVar (fieldC w + e.2) e.1.1).setPleValid (fieldC w + e.2) e.1.2) (u.setPleVar
    (fieldA w) m)).pleDone list ((r.zn m).next 0x0B))) ∧
  (∀ (s : State) (list : Nat) (r : PleRun) (w v : Word) (u : State), (s.pleList list).run = some r → w = s.progWord
    r.pc → v = s.progWord (r.pc + 1) → s.pleEngine = true → opOf w = 12 → s.pleSelected = some list → r.wait = .none →
    u = { s with ple := { s.ple with last := Store.insert (Store.erase s.ple.last r.prio) r.prio list, wrote := [] } }
    → (List.range (bits w 0 5)).all (fun i => !u.pleValid (fieldB w + i)) = true → exec (.pleMean list) s = .next
    (u.pleDone list ((r.setFlag 5 true).next 0x0C))) ∧
  (∀ (s : State) (list : Nat) (r : PleRun) (w v : Word) (u : State) (l : List Nat) (x : Word), (s.pleList list).run =
    some r → w = s.progWord r.pc → v = s.progWord (r.pc + 1) → s.pleEngine = true → opOf w = 12 → s.pleSelected = some
    list → r.wait = .none → u =
    { s with ple := { s.ple with last := Store.insert (Store.erase s.ple.last r.prio) r.prio list, wrote := [] } } → l
    = ((List.range (bits w 0 5)).map (fieldB w + ·)).filter u.pleValid → l ≠ [] → x = ofInt (Int.tdiv ((l.map (fun i
    => (u.pleVar i).toInt)).foldl (· + ·) 0) l.length) → exec (.pleMean list) s = .next ((u.setPleVar (fieldA w)
    x).pleDone list ((((r.setFlag 5 false)).zn x).next 0x0C))) ∧
  (∀ (s : State) (list : Nat) (r : PleRun) (w v : Word) (u : State) (on change : Bool), (s.pleList list).run = some r
    → w = s.progWord r.pc → v = s.progWord (r.pc + 1) → s.pleEngine = true → opOf w = 13 → s.pleSelected = some list →
    r.wait = .none → u =
    { s with ple := { s.ple with last := Store.insert (Store.erase s.ple.last r.prio) r.prio list, wrote := [] } } →
    on = (u.pleValid (fieldA w) && u.pleVar (fieldA w) != 0) → change = (if on then decide ((u.pleVar (fieldB
    w)).toInt < sat32 ((u.pleVar (fieldC w)).toInt - (u.pleVar (fieldD w)).toInt)) else decide (sat32 ((u.pleVar
    (fieldC w)).toInt + (u.pleVar (fieldD w)).toInt) ≤ (u.pleVar (fieldB w)).toInt)) → exec (.pleCmph list) s = .next
    ((if change then u.setPleVar (fieldA w) (if on then 0 else 1) else u).pleDone list (((r.setFlag 2 change).setFlag
    3 (on != change)).next 0x0D))) ∧
  (∀ (s : State) (list : Nat) (r : PleRun) (w v : Word) (u : State), (s.pleList list).run = some r → w = s.progWord
    r.pc → v = s.progWord (r.pc + 1) → s.pleEngine = true → opOf w = 14 → s.pleSelected = some list → r.wait = .none →
    u = { s with ple := { s.ple with last := Store.insert (Store.erase s.ple.last r.prio) r.prio list, wrote := [] } }
    → exec (.pleWindow list) s = .next (u.pleDone list ((r.setFlag 4 (decide (u.plePair (fieldA w) ≤ r.time ∧ r.time <
    u.plePair (fieldA w + 2)))).next 0x0E))) ∧
  (∀ (s : State) (list : Nat) (r : PleRun) (w v : Word) (u : State) (x : Nat), (s.pleList list).run = some r → w =
    s.progWord r.pc → v = s.progWord (r.pc + 1) → s.pleEngine = true → opOf w = 15 → s.pleSelected = some list →
    r.wait = .none → u =
    { s with ple := { s.ple with last := Store.insert (Store.erase s.ple.last r.prio) r.prio list, wrote := [] } } → x
    = field 64 ((r.time : Int) + v.toInt * 27120) → exec (.pleTime list) s = .next (((u.setPleVar (fieldA w) (loWord
    x)).setPleVar (fieldA w + 1) (hiWord x)).pleDone list (r.next 0x0F))) ∧
  (∀ (s : State) (n op : Nat) (i : Instr), (op, i) ∈ ([(0x00, Instr.pleEnd n), (0x01, .pleWait n), (0x02, .pleMovi n), (0x03, .pleMovw n), (0x04, .pleLoad n), (0x05, .pleStore n), (0x06, .pleAdd n), (0x07, .pleSub n), (0x08, .pleScale n), (0x09, .pleExt n), (0x0A, .pleIir n), (0x0B, .pleMedian5 n), (0x0C, .pleMean n), (0x0D, .pleCmph n), (0x0E, .pleWindow n), (0x0F, .pleTime n), (0x10, .pleBranch n), (0x11, .pleEmit n), (0x12, .pleRaise n), (0x13, .pleTrig n), (0x14, .pleSpi n), (0x15, .pleListen n), (0x16, .pleAdc n), (0x17, .pleTag n), (0x18, .pleRadio n)] : List (Nat × Instr)) →
    ((s.pleList n).run = none ∨ s.pleEngine = false ∨
      ∃ r, (s.pleList n).run = some r ∧ (opOf (s.progWord r.pc) ≠ op ∨ s.pleSelected ≠ some n ∧ r.wait ≠ .room)) →
    exec i s = .next s)

/-- Control, access and record instructions of a poll list. In a list that the engine selects, END ends the run,
  starts a pending one and fires LIST triggers; WAIT waits MS ms; BRANCH goes to its target when its condition holds,
  else on; LOAD takes a register with E when the access is rejected, STORE writes it, or records 0x0105 with E when
  the page rejects or discards the write; EMIT writes its record with the credit and otherwise waits in CREDIT,
  counted; RAISE sets bit K with an event of its source; TRIG triggers a list that is enabled, else records 0x0104. A
  list that reaches its step limit, or leaves its range, ends with a fault. -/
def Obligations.PollControl : Prop :=
  (∀ (s : State) (list : Nat) (r : PleRun) (w v : Word) (u : State) (z : State), (s.pleList list).run = some r → w =
    s.progWord r.pc → v = s.progWord (r.pc + 1) → s.pleEngine = true → opOf w = 0 → s.pleSelected = some list → r.wait
    = .none → u =
    { s with ple := { s.ple with last := Store.insert (Store.erase s.ple.last r.prio) r.prio list, wrote := [] } } → z
    = u.setList list { u.pleList list with run := none } → exec (.pleEnd list) s = .next (((z.pleNext
    list).listTrigger list z.time).coordinate)) ∧
  (∀ (s : State) (list : Nat) (r : PleRun) (w v : Word) (u : State), (s.pleList list).run = some r → w = s.progWord
    r.pc → v = s.progWord (r.pc + 1) → s.pleEngine = true → opOf w = 1 → s.pleSelected = some list → r.wait = .none →
    u = { s with ple := { s.ple with last := Store.insert (Store.erase s.ple.last r.prio) r.prio list, wrote := [] } }
    → exec (.pleWait list) s = .next (u.pleDone list
    { r with pc := r.pc + 1, wait := .time (u.time + bits w 0 24 * ticksPerMs) })) ∧
  (∀ (s : State) (list : Nat) (r : PleRun) (w v : Word) (u : State), (s.pleList list).run = some r → w = s.progWord
    r.pc → v = s.progWord (r.pc + 1) → s.pleEngine = true → opOf w = 16 → s.pleSelected = some list → r.wait = .none →
    u = { s with ple := { s.ple with last := Store.insert (Store.erase s.ple.last r.prio) r.prio list, wrote := [] } }
    → exec (.pleBranch list) s = .next (u.pleDone list
    { r with pc := if (bits w 23 3 == 7 || r.flag (bits w 23 3)) != bit w 22 then bits w 0 12 else r.pc + 1 })) ∧
  (∀ (s : State) (list : Nat) (r : PleRun) (w v : Word) (u : State) (z : State) (x : Word) (bad : Bool), (s.pleList
    list).run = some r → w = s.progWord r.pc → v = s.progWord (r.pc + 1) → s.pleEngine = true → opOf w = 4 →
    s.pleSelected = some list → r.wait = .none → u =
    { s with ple := { s.ple with last := Store.insert (Store.erase s.ple.last r.prio) r.prio list, wrote := [] } } →
    u.busRead 2 (bits v 0 24) (addrPage (bits v 0 24) == 0x05) = (z, x, bad) → exec (.pleLoad list) s = .next
    ((z.setPleVar (fieldA w) x).pleDone list (((r.setFlag 5 bad).zn x).next 0x04))) ∧
  (∀ (s : State) (list : Nat) (r : PleRun) (w v : Word) (u : State) (z : State), (s.pleList list).run = some r → w =
    s.progWord r.pc → v = s.progWord (r.pc + 1) → s.pleEngine = true → opOf w = 5 → s.pleSelected = some list → r.wait
    = .none → u =
    { s with ple := { s.ple with last := Store.insert (Store.erase s.ple.last r.prio) r.prio list, wrote := [] } } →
    u.busWrite (bits v 0 24) (u.pleVar (fieldA w)) = (z, 0) → u.discards (bits v 0 24) (u.pleVar (fieldA w)) = 0 →
    exec (.pleStore list) s = .next (z.pleDone list ((r.setFlag 5 false).next 0x05))) ∧
  (∀ (s : State) (list : Nat) (r : PleRun) (w v : Word) (u : State) (z : State) (code : Nat), (s.pleList list).run =
    some r → w = s.progWord r.pc → v = s.progWord (r.pc + 1) → s.pleEngine = true → opOf w = 5 → s.pleSelected = some
    list → r.wait = .none → u =
    { s with ple := { s.ple with last := Store.insert (Store.erase s.ple.last r.prio) r.prio list, wrote := [] } } →
    u.busWrite (bits v 0 24) (u.pleVar (fieldA w)) = (z, code) → (code ≠ 0 ∨ u.discards (bits v 0 24) (u.pleVar
    (fieldA w)) ≠ 0) → exec (.pleStore list) s = .next ((z.err 0 0x0B 0x0105).pleDone list ((r.setFlag 5 true).next
    0x05))) ∧
  (∀ (s : State) (list : Nat) (r : PleRun) (w v : Word) (u : State) (c n : Nat), (s.pleList list).run = some r → w =
    s.progWord r.pc → v = s.progWord (r.pc + 1) → s.pleEngine = true → opOf w = 17 → s.pleSelected = some list →
    r.wait = .none → u =
    { s with ple := { s.ple with last := Store.insert (Store.erase s.ple.last r.prio) r.prio list, wrote := [] } } → c
    = bits w 24 2 → n = 4 + bits w 8 5 → u.canReserve c n = true → exec (.pleEmit list) s = .next (((u.reserve c
    n).writeRecord c (u.emitRecord list r w)).pleDone list (r.next 0x11))) ∧
  (∀ (s : State) (list : Nat) (r : PleRun) (w v : Word) (u : State) (c n : Nat) (z : State), (s.pleList list).run =
    some r → w = s.progWord r.pc → v = s.progWord (r.pc + 1) → s.pleEngine = true → opOf w = 17 → s.pleSelected = some
    list → r.wait = .none → u =
    { s with ple := { s.ple with last := Store.insert (Store.erase s.ple.last r.prio) r.prio list, wrote := [] } } → c
    = bits w 24 2 → n = 4 + bits w 8 5 → u.canReserve c n = false → z = u.setList list
    { u.pleList list with run := some { r with wait := .credit } } → exec (.pleEmit list) s = .next (((z.countUp 0
    F.PLE_CNT_CREDIT_COUNT F.PLE_CNT_CREDIT_OVF 1).raise 0 0x0B 2).oversize c n)) ∧
  (∀ (s : State) (list : Nat) (r : PleRun) (w : Word), (s.pleList list).run = some r → w = s.progWord r.pc →
    (s.pleEngine = false ∨ r.wait ≠ .credit ∨ s.canReserve (bits w 24 2) (4 + bits w 8 5) = false) → exec
    (.pleEmitCredit list) s = .next s) ∧
  (∀ (s : State) (list : Nat) (r : PleRun) (w : Word) (c n : Nat), (s.pleList list).run = some r → w = s.progWord r.pc
    → c = bits w 24 2 → n = 4 + bits w 8 5 → s.pleEngine = true → r.wait = .credit → s.canReserve c n = true → exec
    (.pleEmitCredit list) s = .next (((s.reserve c n).writeRecord c (s.emitRecord list r w)).pleDone list (r.next
    0x11))) ∧
  (∀ (s : State) (list : Nat) (r : PleRun) (w v : Word) (u : State), (s.pleList list).run = some r → w = s.progWord
    r.pc → v = s.progWord (r.pc + 1) → s.pleEngine = true → opOf w = 18 → s.pleSelected = some list → r.wait = .none →
    u = { s with ple := { s.ple with last := Store.insert (Store.erase s.ple.last r.prio) r.prio list, wrote := [] } }
    → exec (.pleRaise list) s = .next (((u.setReg 0 0x0B 0x02C (putBits (u.reg 0 0x0B 0x02C) (bits w 0 4) 1
    1)).sourceEvent (23 + bits w 0 4) 1).pleDone list (r.next 0x12))) ∧
  (∀ (s : State) (list : Nat) (r : PleRun) (w v : Word) (u : State), (s.pleList list).run = some r → w = s.progWord
    r.pc → v = s.progWord (r.pc + 1) → s.pleEngine = true → opOf w = 19 → s.pleSelected = some list → r.wait = .none →
    u = { s with ple := { s.ple with last := Store.insert (Store.erase s.ple.last r.prio) r.prio list, wrote := [] } }
    → u.listOn (bits w 0 5) = true → exec (.pleTrig list) s = .next ((u.listStart (bits w 0 5) u.time (pleArg 5 0 0
    list)).pleDone list (r.next 0x13))) ∧
  (∀ (s : State) (list : Nat) (r : PleRun) (w v : Word) (u : State), (s.pleList list).run = some r → w = s.progWord
    r.pc → v = s.progWord (r.pc + 1) → s.pleEngine = true → opOf w = 19 → s.pleSelected = some list → r.wait = .none →
    u = { s with ple := { s.ple with last := Store.insert (Store.erase s.ple.last r.prio) r.prio list, wrote := [] } }
    → u.listOn (bits w 0 5) = false → exec (.pleTrig list) s = .next ((u.err 0 0x0B 0x0104).pleDone list (r.next
    0x13))) ∧
  (∀ (s : State) (n : Nat) (r : PleRun),
    (s.get 0 F.PLE_CFG_MAXSTEP ≤ r.steps + 1 → s.pleDone n r = s.pleFault n 0x0101) ∧
    (r.steps + 1 < s.get 0 F.PLE_CFG_MAXSTEP → r.last < r.pc → s.pleDone n r = s.pleFault n 0x0102) ∧
    (r.steps + 1 < s.get 0 F.PLE_CFG_MAXSTEP → r.pc ≤ r.last →
      s.pleDone n r = s.setList n { s.pleList n with run := some { r with steps := r.steps + 1 } }))

/-- Input and output instructions of a poll list and their ends. In a list that the engine selects, SPI, ADC, TAG and
  RADIO put their entry, request, candidate or command into its queue and the list waits, for room first where the
  queue is full, or the instruction goes on with E when it is refused; a candidate of a TAG during a sleep entry is
  withdrawn and counted. LISTEN takes its words when they are there or its time is over. The end of each gives the
  list its results, its E flag and its T; without a result it waits on. -/
def Obligations.PollInputOutput : Prop :=
  (∀ (s : State) (list : Nat) (r : PleRun) (w v : Word) (u : State), (s.pleList list).run = some r → w = s.progWord
    r.pc → v = s.progWord (r.pc + 1) → s.pleEngine = true → opOf w = 20 → s.pleSelected = some list → r.wait = .none →
    u = { s with ple := { s.ple with last := Store.insert (Store.erase s.ple.last r.prio) r.prio list, wrote := [] } }
    → 32 * bits w 10 4 < bits (u.reg 0 0x0C (0x808 + 32 * (bits w 0 6))) 0 12 → exec (.pleSpi list) s = .next
    (u.pleDone list ((r.setFlag 5 true).next 0x14))) ∧
  (∀ (s : State) (list : Nat) (r : PleRun) (w v : Word) (u : State), (s.pleList list).run = some r → w = s.progWord
    r.pc → v = s.progWord (r.pc + 1) → s.pleEngine = true → opOf w = 20 → s.pleSelected = some list → r.wait = .none →
    u = { s with ple := { s.ple with last := Store.insert (Store.erase s.ple.last r.prio) r.prio list, wrote := [] } }
    → bits (u.reg 0 0x0C (0x808 + 32 * (bits w 0 6))) 0 12 ≤ 32 * bits w 10 4 → u.ssc.queue.length < 64 → exec
    (.pleSpi list) s = .next
    (({ u with ssc := { u.ssc with queue := u.ssc.queue ++ [({ template := bits w 0 6, buf := 0, tag := 0, list := some list } : SscEntry)] } }
    : State).pleAwait list r .spi)) ∧
  (∀ (s : State) (list : Nat) (r : PleRun) (w v : Word) (u : State), (s.pleList list).run = some r → w = s.progWord
    r.pc → v = s.progWord (r.pc + 1) → s.pleEngine = true → opOf w = 20 → s.pleSelected = some list → r.wait = .none →
    u = { s with ple := { s.ple with last := Store.insert (Store.erase s.ple.last r.prio) r.prio list, wrote := [] } }
    → bits (u.reg 0 0x0C (0x808 + 32 * (bits w 0 6))) 0 12 ≤ 32 * bits w 10 4 → 64 ≤ u.ssc.queue.length → exec
    (.pleSpi list) s = .next (u.pleAwait list r .room)) ∧
  (∀ (s : State) (list : Nat) (r : PleRun) (w v : Word) (u : State), (s.pleList list).run = some r → w = s.progWord
    r.pc → v = s.progWord (r.pc + 1) → s.pleEngine = true → r.wait = .room → u =
    { s with ple := { s.ple with wrote := [] } } → opOf w = 20 → bits (u.reg 0 0x0C (0x808 + 32 * (bits w 0 6))) 0 12
    ≤ 32 * bits w 10 4 → u.ssc.queue.length < 64 → exec (.pleSpi list) s = .next
    (({ u with ssc := { u.ssc with queue := u.ssc.queue ++ [({ template := bits w 0 6, buf := 0, tag := 0, list := some list } : SscEntry)] } }
    : State).pleAwait list r .spi)) ∧
  (∀ (s : State) (list : Nat) (r : PleRun) (w : Word) (l : Nat) (ws : List Word) (tm : Nat) (u : State), (s.pleList
    list).run = some r → w = s.progWord r.pc → s.pleEngine = true → s.ssc.results.find? (fun e => e.1 == list) = some
    (l, 0, ws, tm) → r.wait = .spi → u =
    { s with ssc := { s.ssc with results := s.ssc.results.filter (fun e => e.1 != list) } } → exec (.pleSpiDone list)
    s = .next ((u.storeVars (fieldB w) ws).pleDone list (({ r.setFlag 5 false with time := tm } : PleRun).next 0x14))) ∧
  (∀ (s : State) (list : Nat) (r : PleRun) (w : Word) (l st : Nat) (ws : List Word) (tm : Nat) (u : State), (s.pleList
    list).run = some r → w = s.progWord r.pc → s.pleEngine = true → s.ssc.results.find? (fun e => e.1 == list) = some
    (l, st, ws, tm) → st ≠ 0 → r.wait = .spi → u =
    { s with ssc := { s.ssc with results := s.ssc.results.filter (fun e => e.1 != list) } } → exec (.pleSpiDone list)
    s = .next (u.pleDone list ((r.setFlag 5 true).next 0x14))) ∧
  (∀ (s : State) (list : Nat) (r : PleRun) (w v : Word) (u : State), (s.pleList list).run = some r → w = s.progWord
    r.pc → v = s.progWord (r.pc + 1) → s.pleEngine = true → opOf w = 21 → s.pleSelected = some list → r.wait = .none →
    u = { s with ple := { s.ple with last := Store.insert (Store.erase s.ple.last r.prio) r.prio list, wrote := [] } }
    → (u.listenFull w = true ∨ bits w 0 10 = 0) → exec (.pleListen list) s = .next (u.listenEnd list r w)) ∧
  (∀ (s : State) (list : Nat) (r : PleRun) (w v : Word) (u : State), (s.pleList list).run = some r → w = s.progWord
    r.pc → v = s.progWord (r.pc + 1) → s.pleEngine = true → opOf w = 21 → s.pleSelected = some list → r.wait = .none →
    u = { s with ple := { s.ple with last := Store.insert (Store.erase s.ple.last r.prio) r.prio list, wrote := [] } }
    → u.listenFull w = false → bits w 0 10 ≠ 0 → exec (.pleListen list) s = .next (u.pleAwait list r (.listen (u.time
    + bits w 0 10 * ticksPerMs)))) ∧
  (∀ (s : State) (list : Nat) (r : PleRun) (w : Word) (due : Nat), (s.pleList list).run = some r → w = s.progWord r.pc
    → s.pleEngine = true → r.wait = .listen due → (s.listenFull w = true ∨ due ≤ s.time) → exec (.pleListenDone list)
    s = .next (s.listenEnd list r w)) ∧
  (∀ (s : State) (list : Nat) (r : PleRun) (w v : Word) (u : State), (s.pleList list).run = some r → w = s.progWord
    r.pc → v = s.progWord (r.pc + 1) → s.pleEngine = true → opOf w = 22 → s.pleSelected = some list → r.wait = .none →
    u = { s with ple := { s.ple with last := Store.insert (Store.erase s.ple.last r.prio) r.prio list, wrote := [] } }
    → u.pageOn 0 0x0E = true → exec (.pleAdc list) s = .next
    (({ u with saf := { u.saf with reqs := u.saf.reqs ++ [(bits w 8 3, bits w 0 4 + 1, some list)] } } :
    State).pleAwait list r .adc)) ∧
  (∀ (s : State) (list : Nat) (r : PleRun) (w v : Word) (u : State), (s.pleList list).run = some r → w = s.progWord
    r.pc → v = s.progWord (r.pc + 1) → s.pleEngine = true → opOf w = 22 → s.pleSelected = some list → r.wait = .none →
    u = { s with ple := { s.ple with last := Store.insert (Store.erase s.ple.last r.prio) r.prio list, wrote := [] } }
    → u.pageOn 0 0x0E = false → exec (.pleAdc list) s = .next (u.pleDone list ((r.setFlag 5 true).next 0x16))) ∧
  (∀ (s : State) (list : Nat) (volts : List Int) (r : PleRun) (w : Word) (ch n : Nat) (rest : List (Nat × Nat × Option
    Nat)) (u : State) (x : Word), (s.pleList list).run = some r → w = s.progWord r.pc → s.pleEngine = true →
    s.saf.reqs = (ch, n, some list) :: rest → r.wait = .adc → volts.length = n → s.safRuns = true → s.converterHeld =
    false → u = { s with saf := { s.saf with reqs := rest } } → x = word (meanCode (volts.map adcCode)) → exec
    (.pleAdcDone list volts) s = .next ((u.setPleVar (fieldA w) x).pleDone list
    (({ (r.setFlag 5 false).zn x with time := (u.setPleVar (fieldA w) x).time } : PleRun).next 0x16))) ∧
  (∀ (s : State) (list : Nat) (r : PleRun) (w v : Word) (u : State), (s.pleList list).run = some r → w = s.progWord
    r.pc → v = s.progWord (r.pc + 1) → s.pleEngine = true → opOf w = 23 → s.pleSelected = some list → r.wait = .none →
    u = { s with ple := { s.ple with last := Store.insert (Store.erase s.ple.last r.prio) r.prio list, wrote := [] } }
    → u.inService (bits w 16 3) = false → exec (.pleTag list) s = .next (u.tagRefused list r w)) ∧
  (∀ (s : State) (list : Nat) (r : PleRun) (w v : Word) (u : State) (z : State), (s.pleList list).run = some r → w =
    s.progWord r.pc → v = s.progWord (r.pc + 1) → s.pleEngine = true → opOf w = 23 → s.pleSelected = some list →
    r.wait = .none → u =
    { s with ple := { s.ple with last := Store.insert (Store.erase s.ple.last r.prio) r.prio list, wrote := [] } } →
    u.inService (bits w 16 3) = true → u.formChain (bits w 16 3) (bits w 0 9) = (z, []) → exec (.pleTag list) s =
    .next (z.tagRefused list r w)) ∧
  (∀ (s : State) (list : Nat) (r : PleRun) (w v : Word) (u : State) (z x y : State) (c : Cand) (m : Member) (ms : List
    Member), (s.pleList list).run = some r → w = s.progWord r.pc → v = s.progWord (r.pc + 1) → s.pleEngine = true →
    opOf w = 23 → s.pleSelected = some list → r.wait = .none → u =
    { s with ple := { s.ple with last := Store.insert (Store.erase s.ple.last r.prio) r.prio list, wrote := [] } } →
    u.inService (bits w 16 3) = true → u.formChain (bits w 16 3) (bits w 0 9) = (z, m :: ms) → z.power.phase ≠ .none →
    x = ({ z with recDone := Store.erase z.recDone list } : State).pleAwait list r .tag → c =
    { mkCand (.list list) (bits w 16 3) m.port (x.chainLevel (bits w 16 3) m.port (m :: ms)) (chainCredits (m :: ms)) (bits w 13 3) with members := m :: ms, order := x.coord.order, since := x.time }
    → y = { x with coord := { x.coord with order := x.coord.order + 1, cands := x.coord.cands ++ [c] } } → exec
    (.pleTag list) s = .next ((y.withdraw c).coordinate)) ∧
  (∀ (s : State) (list : Nat) (r : PleRun) (w v : Word) (u : State) (z : State) (m : Member) (ms : List Member),
    (s.pleList list).run = some r → w = s.progWord r.pc → v = s.progWord (r.pc + 1) → s.pleEngine = true → opOf w = 23
    → s.pleSelected = some list → r.wait = .none → u =
    { s with ple := { s.ple with last := Store.insert (Store.erase s.ple.last r.prio) r.prio list, wrote := [] } } →
    u.inService (bits w 16 3) = true → u.formChain (bits w 16 3) (bits w 0 9) = (z, m :: ms) → z.power.phase = .none →
    exec (.pleTag list) s = .next (((({ z with recDone := Store.erase z.recDone list } : State).pleAwait list r
    .tag).addExchange (.list list) (bits w 16 3) m.port (m :: ms) (bits w 13 3)).coordinate)) ∧
  (∀ (s : State) (list : Nat) (r : PleRun) (w : Word) (u : State), (s.pleList list).run = some r → w = s.progWord r.pc
    → s.pleEngine = true → Store.find? s.recDone list = some [] → r.wait = .tag → u =
    { s with recDone := Store.erase s.recDone list } → exec (.pleTagDone list) s = .next (u.tagRefused list r w)) ∧
  (∀ (s : State) (list : Nat) (r : PleRun) (w : Word) (ws : List Word) (u : State) (x : Nat → Word), (s.pleList
    list).run = some r → w = s.progWord r.pc → s.pleEngine = true → Store.find? s.recDone list = some ws → ws ≠ [] →
    r.wait = .tag → u = { s with recDone := Store.erase s.recDone list } → x = (fun (i : Nat) => (ws[i]?).getD 0) →
    exec (.pleTagDone list) s = .next ((((u.setPleVar (fieldA w) (x 3)).setPleVar (fieldA w + 1) (x 8)).setPleVar
    (fieldA w + 2) (x 9)).pleDone list
    (({ (r.zn (x 3)).setFlag 5 (bits (x 3) 28 4 != 0) with time := (x 1).toNat + 4294967296 * (x 2).toNat } :
    PleRun).next 0x17))) ∧
  (∀ (s : State) (list : Nat) (r : PleRun) (w v : Word) (u : State), (s.pleList list).run = some r → w = s.progWord
    r.pc → v = s.progWord (r.pc + 1) → s.pleEngine = true → opOf w = 24 → s.pleSelected = some list → r.wait = .none →
    u = { s with ple := { s.ple with last := Store.insert (Store.erase s.ple.last r.prio) r.prio list, wrote := [] } }
    → 8 ≤ u.radio.queue.length → exec (.pleRadio list) s = .next (u.pleAwait list r .room)) ∧
  (∀ (s : State) (list : Nat) (r : PleRun) (w v : Word) (u : State) (c : RadioCmd), (s.pleList list).run = some r → w
    = s.progWord r.pc → v = s.progWord (r.pc + 1) → s.pleEngine = true → opOf w = 24 → s.pleSelected = some list →
    r.wait = .none → u =
    { s with ple := { s.ple with last := Store.insert (Store.erase s.ple.last r.prio) r.prio list, wrote := [] } } →
    u.radio.queue.length < 8 → c =
    ({ code := 5, after := bits w 10 2, pri := bit w 12, template := bits w 0 4, channel := bits v 14 7, ticket := if bit w 13 then bits (u.pleVar (fieldB w)) 0 14 else bits v 0 14, list := some list }
    : RadioCmd) → u.radioInvalid c = true → exec (.pleRadio list) s = .next ((u.err 0 0x10 0x0102).radioRefused list r
    w)) ∧
  (∀ (s : State) (list : Nat) (r : PleRun) (w v : Word) (u : State) (c : RadioCmd), (s.pleList list).run = some r → w
    = s.progWord r.pc → v = s.progWord (r.pc + 1) → s.pleEngine = true → opOf w = 24 → s.pleSelected = some list →
    r.wait = .none → u =
    { s with ple := { s.ple with last := Store.insert (Store.erase s.ple.last r.prio) r.prio list, wrote := [] } } →
    u.radio.queue.length < 8 → c =
    ({ code := 5, after := bits w 10 2, pri := bit w 12, template := bits w 0 4, channel := bits v 14 7, ticket := if bit w 13 then bits (u.pleVar (fieldB w)) 0 14 else bits v 0 14, list := some list }
    : RadioCmd) → u.radioInvalid c = false → exec (.pleRadio list) s = .next
    (({ u with recDone := Store.erase u.recDone (32 + list), radio := { u.radio with queue := u.radio.queue ++ [c] } }
    : State).pleAwait list r .radio)) ∧
  (∀ (s : State) (list : Nat) (r : PleRun) (w v : Word) (u : State) (c : RadioCmd), (s.pleList list).run = some r → w
    = s.progWord r.pc → v = s.progWord (r.pc + 1) → s.pleEngine = true → r.wait = .room → u =
    { s with ple := { s.ple with wrote := [] } } → opOf w = 24 → u.radio.queue.length < 8 → c =
    ({ code := 5, after := bits w 10 2, pri := bit w 12, template := bits w 0 4, channel := bits v 14 7, ticket := if bit w 13 then bits (u.pleVar (fieldB w)) 0 14 else bits v 0 14, list := some list }
    : RadioCmd) → u.radioInvalid c = false → exec (.pleRadio list) s = .next
    (({ u with recDone := Store.erase u.recDone (32 + list), radio := { u.radio with queue := u.radio.queue ++ [c] } }
    : State).pleAwait list r .radio)) ∧
  (∀ (s : State) (list : Nat) (r : PleRun) (w : Word) (u : State), (s.pleList list).run = some r → w = s.progWord r.pc
    → s.pleEngine = true → Store.find? s.recDone (32 + list) = some [] → r.wait = .radio → u =
    { s with recDone := Store.erase s.recDone (32 + list) } → exec (.pleRadioDone list) s = .next (u.radioRefused list
    r w)) ∧
  (∀ (s : State) (list : Nat) (r : PleRun) (w : Word) (ws : List Word) (u : State) (x : Nat → Word), (s.pleList
    list).run = some r → w = s.progWord r.pc → s.pleEngine = true → Store.find? s.recDone (32 + list) = some ws → ws ≠
    [] → r.wait = .radio → u = { s with recDone := Store.erase s.recDone (32 + list) } → x = (fun (i : Nat) =>
    (ws[i]?).getD 0) → exec (.pleRadioDone list) s = .next ((u.setPleVar (fieldA w) (x 3)).pleDone list
    (({ (r.setFlag 5 (bits (x 3) 28 4 != 0)).zn (x 3) with time := (x 1).toNat + 4294967296 * (x 2).toNat } :
    PleRun).next 0x18))) ∧
  (∀ (s : State) (list : Nat) (r : PleRun), (s.pleList list).run = some r → (s.pleEngine = false ∨ r.wait ≠ .spi ∨
    s.ssc.results.find? (fun e => e.1 == list) = none) → exec (.pleSpiDone list) s = .next s) ∧
  (∀ (s : State) (list : Nat) (r : PleRun), (s.pleList list).run = some r → (s.pleEngine = false ∨ r.wait ≠ .tag ∨
    Store.find? s.recDone list = none) → exec (.pleTagDone list) s = .next s) ∧
  (∀ (s : State) (list : Nat) (r : PleRun), (s.pleList list).run = some r → (s.pleEngine = false ∨ r.wait ≠ .radio ∨
    Store.find? s.recDone (32 + list) = none) → exec (.pleRadioDone list) s = .next s) ∧
  (∀ (s : State) (list : Nat) (r : PleRun) (due : Nat), (s.pleList list).run = some r → r.wait = .listen due →
    (s.pleEngine = false ∨ s.listenFull (s.progWord r.pc) = false ∧ s.time < due) → exec (.pleListenDone list) s =
    .next s) ∧
  (∀ (s : State) (n : Nat) (volts : List Int), (s.pleList n).run = none →
    exec (.pleEmitCredit n) s = .next s ∧ exec (.pleSpiDone n) s = .next s ∧ exec (.pleListenDone n) s = .next s ∧
    exec (.pleAdcDone n volts) s = .next s ∧ exec (.pleTagDone n) s = .next s ∧ exec (.pleRadioDone n) s = .next s ∧
    exec (.pleWaitEnd n) s = .next s)

/-- What the host and the clock do to the poll lists. On the unlocked page in ACTIVE a start of an enabled list
  without a fault triggers it, and of any other records 0x0103; a stop ends the list; a write of one of the 64
  variables sets VALID of it and leaves the others, but one that falls in the instant of an instruction that wrote the
  variable leaves the value of the instruction; clears of VALID and RAISED clear the bits that are 1. A due time of an
  enabled PERIOD list triggers the list with the due instant and the next one lies a period later; a WAIT that is over
  makes the list ready; both wake the device as their list says. A due time or a WAIT that is not over changes
  nothing. -/
def Obligations.PollHost : Prop :=
  (∀ (s : State) (list : Nat), s.awake = true → s.flag 0 (F.PG_LOCK 0x0B) = false → s.listOn (list % 32) = true →
    (s.pleList (list % 32)).faulted = false → exec (.pleStart list) s = .next (s.listStart (list % 32) s.time (pleArg
    0 0 0 0))) ∧
  (∀ (s : State) (list : Nat), s.awake = true → s.flag 0 (F.PG_LOCK 0x0B) = false → (s.listOn (list % 32) = false ∨
    (s.pleList (list % 32)).faulted = true) → exec (.pleStart list) s = .next (s.err 0 0x0B 0x0103)) ∧
  (∀ (s : State) (list : Nat), s.awake = true → s.flag 0 (F.PG_LOCK 0x0B) = false → exec (.pleStop list) s = .next
    ((s.stopList (list % 32)).coordinate)) ∧
  (∀ (s : State) (list : Nat) (td : Nat), (s.pleList list).due = some td → list < 32 → td ≤ s.time → s.listOn list =
    true → s.get 0 (F.PLE_L_TRIG_KIND list) = 1 → s.device ≠ .off → s.device ≠ .reset → exec (.plePeriodDue list) s =
    .next (((s.setList list
    { s.pleList list with due := some (td + s.get 0 (F.PLE_L_PERIOD_PERIOD list) * ticksPerMs) }).listWake
    list).listStart list td (pleArg 1 0 0 0))) ∧
  (∀ (s : State) (list : Nat) (r : PleRun) (due : Nat), (s.pleList list).run = some r → r.wait = .time due → due ≤
    s.time → exec (.pleWaitEnd list) s = .next ((s.setList list
    { s.pleList list with run := some { r with wait := .none } }).listWake list)) ∧
  (∀ (s : State) (list : Nat), ((s.pleList list).due = none ∨ 32 ≤ list ∨ s.listOn list = false ∨ s.get 0
    (F.PLE_L_TRIG_KIND list) ≠ 1 ∨ s.device = .off ∨ s.device = .reset) → exec (.plePeriodDue list) s = .next s) ∧
  (∀ (s : State) (list : Nat) (td : Nat), (s.pleList list).due = some td → s.time < td → exec (.plePeriodDue list) s =
    .next s) ∧
  (∀ (s : State) (list : Nat) (r : PleRun) (due : Nat), (s.pleList list).run = some r → r.wait = .time due → s.time <
    due → exec (.pleWaitEnd list) s = .next s) ∧
  (∀ (s : State) (n : Nat) (value : Word), s.awake = true → s.flag 0 (F.PG_LOCK 0x0B) = false → 64 ≤ n → exec
    (.pleVariableWrite n value) s = .next s) ∧
  (∀ (s : State) (n : Nat) (value : Word), s.awake = true → s.flag 0 (F.PG_LOCK 0x0B) = false → n < 64 → s.varTaken n
    = false → exec (.pleVariableWrite n value) s = .next (s.putPleVar n value)) ∧
  (∀ (s : State) (n : Nat) (value : Word), s.awake = true → s.flag 0 (F.PG_LOCK 0x0B) = false → n < 64 → s.varTaken n
    = true → exec (.pleVariableWrite n value) s = .next s) ∧
  (∀ (s : State) (hi : Bool) (value : Word), s.awake = true → s.flag 0 (F.PG_LOCK 0x0B) = false → exec
    (.pleVvalidClear hi value) s = .next (s.setReg 0 0x0B (0x030 + 4 * b2n hi) (s.reg 0 0x0B (0x030 + 4 * b2n hi) &&&
    ~~~ value))) ∧
  (∀ (s : State) (value : Word) (u : State), s.awake = true → s.flag 0 (F.PG_LOCK 0x0B) = false → u =
    s.attnSync.writeRo 0 0x0B 0x02C value → exec (.pleRaiseClear value) s = .next ((u.setReg 0 0x0B 0x02C (u.reg 0
    0x0B 0x02C &&& ~~~ value)).attnSync)) ∧
  (∀ (s : State) (n : Nat) (w : Word), n < 64 →
    (s.putPleVar n w).pleVar n = w ∧ (s.putPleVar n w).pleValid n = true ∧
    (∀ m, m < 64 → m ≠ n → (s.putPleVar n w).pleVar m = s.pleVar m ∧ (s.putPleVar n w).pleValid m = s.pleValid m) ∧
    s.setPleVar n w = ({ s with ple := { s.ple with wroteAt := s.time, wrote := n :: (if s.ple.wroteAt = s.time then s.ple.wrote else []) } } : State).putPleVar n w)

/-- The sensor serial controller: pushes, entries and the done FIFO. On an unlocked page in ACTIVE a push queues its
  entry, or is refused with 0x0101 without room for it or its status, or with 7 while the page is not ON. On a page
  that is ON, with the pads not held and no profile load, the head entry starts with the template in force, the words
  that go out and the words that come in, as many as its data phase has, or ends SEL_OFF when its select is not
  driven. The end of the running entry leaves its input, masked to DATA_BITS, in its buffer or for its list, its
  status in the done FIFO with its event, and an admission pass follows; a pop takes the oldest status, or records
  0x0103 when there is none. -/
def Obligations.SensorSerial : Prop :=
  (∀ (s : State) (tag buf template : Nat), s.awake = true → s.flag 0 (F.PG_LOCK 0x0C) = false → s.pageOn 0 0x0C = true
    → s.ssc.queue.length < 64 → s.sscHost + s.ssc.done.length < 64 → exec (.sscQpush tag buf template) s = .next
    ({ s with ssc := { s.ssc with queue := s.ssc.queue ++ [({ template := template % 64, buf := buf % 4, tag := tag % 65536, list := none } : SscEntry)] } })) ∧
  (∀ (s : State) (tag buf template : Nat), s.awake = true → s.flag 0 (F.PG_LOCK 0x0C) = false → s.pageOn 0 0x0C = true
    → (64 ≤ s.ssc.queue.length ∨ 64 ≤ s.sscHost + s.ssc.done.length) → exec (.sscQpush tag buf template) s = .next
    (s.err 0 0x0C 0x0101)) ∧
  (∀ (s : State) (tag buf template : Nat), s.awake = true → s.flag 0 (F.PG_LOCK 0x0C) = false → s.pageOn 0 0x0C =
    false → exec (.sscQpush tag buf template) s = .next (s.err 0 0x0C 7)) ∧
  (∀ (s : State) (input : List Word) (e : SscEntry) (es : List SscEntry) (tm : List Word) (sel : Nat), s.awake = true
    → s.pageOn 0 0x0C = true → s.ssc.running = false → s.padHeld 1 = false → s.coord.loading = false → s.ssc.queue = e
    :: es → tm = s.sscTemplate e.template → sel = bits ((tm[0]?).getD 0) 28 3 → (s.get 0 F.SSC_SELCFG_DRIVE).testBit
    sel = true → input.length = sscWords tm → e.list = none → exec (.sscEntryStart input) s = .next
    ({ s with ssc := { s.ssc with running := true, begun := s.time, input := maskTail (sscBits tm) input, tmpl := tm, sel := some sel, sent := sscWire tm (s.sscOut e []), mode := bits ((tm[0]?).getD 0) 26 2 } })) ∧
  (∀ (s : State) (input : List Word) (e : SscEntry) (es : List SscEntry) (tm : List Word) (sel l : Nat), s.awake =
    true → s.pageOn 0 0x0C = true → s.ssc.running = false → s.padHeld 1 = false → s.coord.loading = false →
    s.ssc.queue = e :: es → tm = s.sscTemplate e.template → sel = bits ((tm[0]?).getD 0) 28 3 → (s.get 0
    F.SSC_SELCFG_DRIVE).testBit sel = true → input.length = sscWords tm → e.list = some l → exec (.sscEntryStart
    input) s = .next
    ({ s with ssc := { s.ssc with running := true, begun := s.time, input := maskTail (sscBits tm) input, tmpl := tm, sel := some sel, sent := sscWire tm (s.sscOut e (s.spiOut l)), mode := bits ((tm[0]?).getD 0) 26 2 } })) ∧
  (∀ (s : State) (input : List Word) (e : SscEntry) (es : List SscEntry) (tm : List Word) (sel : Nat), s.awake = true
    → s.pageOn 0 0x0C = true → s.ssc.running = false → s.padHeld 1 = false → s.coord.loading = false → s.ssc.queue = e
    :: es → tm = s.sscTemplate e.template → sel = bits ((tm[0]?).getD 0) 28 3 → (s.get 0 F.SSC_SELCFG_DRIVE).testBit
    sel = false → exec (.sscEntryStart input) s = .next ((s.sscEnd e 1 [] false).sscPop)) ∧
  (∀ (s : State) (input : List Word), (s.awake = false ∨ s.pageOn 0 0x0C = false ∨ s.ssc.running = true ∨ s.padHeld 1
    = true ∨ s.coord.loading = true ∨ s.ssc.queue = []) → exec (.sscEntryStart input) s = .next s) ∧
  (∀ (s : State) (input : List Word) (e : SscEntry) (es : List SscEntry) (tm : List Word) (sel : Nat), s.awake = true
    → s.pageOn 0 0x0C = true → s.ssc.running = false → s.padHeld 1 = false → s.coord.loading = false → s.ssc.queue = e
    :: es → tm = s.sscTemplate e.template → sel = bits ((tm[0]?).getD 0) 28 3 → (s.get 0 F.SSC_SELCFG_DRIVE).testBit
    sel = true → input.length ≠ sscWords tm → exec (.sscEntryStart input) s = .next s) ∧
  (∀ (s : State), (s.ssc.running = false ∨ s.ssc.queue = []) → exec (.sscEntryEnd) s = .next s) ∧
  (∀ (s : State) (e : SscEntry) (es : List SscEntry) (ws : List Word) (l : Nat), s.ssc.running = true → s.ssc.queue =
    e :: es → ws = s.ssc.input → e.list = some l → exec (.sscEntryEnd) s = .next ((s.sscEnd e 0 ws
    true).sscPop.coordinate)) ∧
  (∀ (s : State) (e : SscEntry) (es : List SscEntry) (ws : List Word), s.ssc.running = true → s.ssc.queue = e :: es →
    ws = s.ssc.input → e.list = none → exec (.sscEntryEnd) s = .next (((ws.zipIdx.foldl (fun (z : State) (x : Word ×
    Nat) => z.setReg 0 0x0C (sscBufAddr e.buf x.2) x.1) s).sscEnd e 0 ws true).sscPop.coordinate)) ∧
  (∀ (s : State) (x : Nat × Nat) (xs : List (Nat × Nat)), s.awake = true → s.flag 0 (F.PG_LOCK 0x0C) = false →
    s.ssc.done = x :: xs → exec (.sscDonePop) s = .next ({ s with ssc := { s.ssc with done := xs } })) ∧
  (∀ (s : State), s.awake = true → s.flag 0 (F.PG_LOCK 0x0C) = false → s.ssc.done = [] → exec (.sscDonePop) s = .next
    (s.err 0 0x0C 0x0103)) ∧
  (∀ (e : SscEntry) (s : State) (st : Nat) (ws : List Word) (moved : Bool), e.list = none →
    s.sscEnd e st ws moved = (if st = 0 then ({ s with ssc := { s.ssc with done := s.ssc.done ++ [(e.tag, st)] } } : State).raise 0 0x0C 0
      else (({ s with ssc := { s.ssc with done := s.ssc.done ++ [(e.tag, st)] } } : State).raise 0 0x0C 0).raise 0 0x0C st))

/-- The listener, the conversions and the comparators. SLSEL at the level that asserts it, held for 2 ticks or more,
  begins a message. While the page is ON or drains, each clock brings the bit of the capturing edge; the bit that
  completes the width set ends the word, which is delivered when SLRDY was low at its first edge and it has room, and
  refused and counted otherwise. The release and, with an idle limit and a message in progress, SEL_STUCK end the
  message, the last with its event and 0x0101; where the listener does not run the release moves the pin only. A
  conversion request is taken, or refused with 0x0101 while one waits or runs and with 7 while the page is not ON; the
  end of a conversion leaves the mean of the codes of the voltages with its event. A strobe of a running comparator
  sets the state by the threshold with hysteresis, a change after the first one being a crossing. -/
def Obligations.ListenerAndAnalogue : Prop :=
  (∀ (s : State) (level : Bool) (ticks : Nat), s.slselIs level ticks true = true → s.flag 0 F.SSL_STAT_SELACT = false
    → exec (.slselAssert level ticks) s = .next
    ((({ s with ssl := { s.ssl with first := true, active := true, part := [] } } : State).set 0 F.SSL_STAT_SELACT
    1).sslReserve)) ∧
  (∀ (s : State) (level : Bool) (ticks : Nat), (s.slselIs level ticks true = false ∨ s.flag 0 F.SSL_STAT_SELACT =
    true) → exec (.slselAssert level ticks) s = .next s) ∧
  (∀ (s : State) (sldi : List (Bool × Bool)) (start : Nat), s.awake = true → (s.pageState 0 0x0D = 2 ∨ s.pageState 0
    0x0D = 3) → s.flag 0 F.SSL_STAT_SELACT = true → exec (.listenerWord sldi start) s = .next (sldi.foldl (fun (u :
    State) x => u.sslBit (u.sslCapture x) start) s)) ∧
  (∀ (s : State) (level : Bool) (ticks : Nat), s.slselIs level ticks false = true → s.awake = true → (s.pageState 0
    0x0D = 2 ∨ s.pageState 0 0x0D = 3) → s.flag 0 F.SSL_STAT_SELACT = true → exec (.slselRelease level ticks) s =
    .next (((s.sslMessageEnd false).set 0 F.SSL_STAT_SELACT 0).sslUpdate.coordinate)) ∧
  (∀ (s : State) (level : Bool) (ticks : Nat), s.slselIs level ticks false = true → (s.awake = false ∨ ¬ (s.pageState
    0 0x0D = 2 ∨ s.pageState 0 0x0D = 3)) → s.flag 0 F.SSL_STAT_SELACT = true → exec (.slselRelease level ticks) s =
    .next ((s.set 0 F.SSL_STAT_SELACT 0).sslUpdate.coordinate)) ∧
  (∀ (s : State), s.awake = true → (s.pageState 0 0x0D = 2 ∨ s.pageState 0 0x0D = 3) → s.flag 0 F.SSL_STAT_SELACT =
    true → s.ssl.active = true → s.get 0 F.SSL_CFG_IDLE ≠ 0 → exec (.selStuck) s = .next ((((s.sslMessageEnd
    true).raise 0 0x0D 2).err 0 0x0D 0x0101).coordinate)) ∧
  (∀ (s : State) (sldi : List (Bool × Bool)) (start : Nat), (s.awake = false ∨ ¬ (s.pageState 0 0x0D = 2 ∨ s.pageState
    0 0x0D = 3) ∨ s.flag 0 F.SSL_STAT_SELACT = false) → exec (.listenerWord sldi start) s = .next s) ∧
  (∀ (s : State) (level : Bool) (ticks : Nat), (s.slselIs level ticks false = false ∨ s.flag 0 F.SSL_STAT_SELACT =
    false) → exec (.slselRelease level ticks) s = .next s) ∧
  (∀ (s : State), (s.awake = false ∨ ¬ (s.pageState 0 0x0D = 2 ∨ s.pageState 0 0x0D = 3) ∨ s.flag 0 F.SSL_STAT_SELACT
    = false ∨ s.ssl.active = false ∨ s.get 0 F.SSL_CFG_IDLE = 0) → exec (.selStuck) s = .next s) ∧
  (∀ (s : State), exec (.listenerReserve) s = .next (s.sslReserve)) ∧
  (∀ (s : State) (count ch : Nat), s.awake = true → s.flag 0 (F.PG_LOCK 0x0E) = false → s.pageOn 0 0x0E = true →
    s.safBusy = false → exec (.safReq count ch) s = .next
    (({ s with saf := { s.saf with reqs := s.saf.reqs ++ [(ch % 8, count % 16 + 1, none)] } } : State).set 0
    F.SAF_RESULT_BUSY 1)) ∧
  (∀ (s : State) (count ch : Nat), s.awake = true → s.flag 0 (F.PG_LOCK 0x0E) = false → s.pageOn 0 0x0E = true →
    s.safBusy = true → exec (.safReq count ch) s = .next (s.err 0 0x0E 0x0101)) ∧
  (∀ (s : State) (count ch : Nat), s.awake = true → s.flag 0 (F.PG_LOCK 0x0E) = false → s.pageOn 0 0x0E = false → exec
    (.safReq count ch) s = .next (s.err 0 0x0E 7)) ∧
  (∀ (s : State) (volts : List Int) (ch n : Nat) (rest : List (Nat × Nat × Option Nat)), s.awake = true → (s.pageState
    0 0x0E = 2 ∨ s.pageState 0 0x0E = 3) → s.converterHeld = false → s.saf.reqs = (ch, n, none) :: rest → volts.length
    = n → exec (.safConvDone volts) s = .next (((((({ s with saf := { s.saf with reqs := rest } } : State).set 0
    F.SAF_RESULT_BUSY 0).set 0 F.SAF_RESULT_VALID 1).set 0 F.SAF_RESULT_CH ch).set 0 F.SAF_RESULT_CODE (meanCode
    (volts.map adcCode))).raise 0 0x0E 8)) ∧
  (∀ (s : State) (volts : List Int), (s.awake = false ∨ s.converterHeld = true ∨ s.saf.reqs = []) → exec (.safConvDone
    volts) s = .next s) ∧
  (∀ (s : State) (k : Nat) (level : Int), s.cmpRuns k = false → exec (.comparatorStrobe k level) s = .next s) ∧
  (∀ (s : State) (k : Nat) (level : Int) (was now : Bool), s.cmpRuns k = true → was = (s.get 0
    F.SAF_CMPSTAT_STATE).testBit k → now = (if clampI 0 1023 ((s.get 0 (F.SAF_CMP_THR k) : Nat) + (s.get 0
    (F.SAF_CMP_HYST k) : Nat) : Int) ≤ level then true else if level < clampI 0 1023 ((s.get 0 (F.SAF_CMP_THR k) :
    Nat) - (s.get 0 (F.SAF_CMP_HYST k) : Nat) : Int) then false else was) → s.saf.primed.contains k = false → exec
    (.comparatorStrobe k level) s = .next (({ s with saf := { s.saf with primed := k :: s.saf.primed } } :
    State).setBit 0 F.SAF_CMPSTAT_STATE k now)) ∧
  (∀ (s : State) (k : Nat) (level : Int) (was now : Bool), s.cmpRuns k = true → was = (s.get 0
    F.SAF_CMPSTAT_STATE).testBit k → now = (if clampI 0 1023 ((s.get 0 (F.SAF_CMP_THR k) : Nat) + (s.get 0
    (F.SAF_CMP_HYST k) : Nat) : Int) ≤ level then true else if level < clampI 0 1023 ((s.get 0 (F.SAF_CMP_THR k) :
    Nat) - (s.get 0 (F.SAF_CMP_HYST k) : Nat) : Int) then false else was) → s.saf.primed.contains k = true → exec
    (.comparatorStrobe k level) s = .next ((if was != now then (s.setBit 0 F.SAF_CMPSTAT_STATE k now).crossing k now
    else s.setBit 0 F.SAF_CMPSTAT_STATE k now))) ∧
  (∀ (s : State) (level : Bool) (ticks : Nat) (on : Bool), s.slselIs level ticks on =
    (decide (2 ≤ ticks) && ((level == s.flag 0 F.SSL_CFG_SELPOL) == on))) ∧
  (∀ (s : State) (b : Bool) (start : Nat), s.ssl.part ≠ [] → s.ssl.part.length < s.get 0 F.SSL_CFG_WIDTH →
    s.sslBit b start = { s with ssl := { s.ssl with part := s.ssl.part ++ [b], active := true } }) ∧
  (∀ (s : State) (b : Bool) (start : Nat), s.ssl.part ≠ [] → s.ssl.part.length = s.get 0 F.SSL_CFG_WIDTH →
    s.sslBit b start =
      ({ s with ssl := { s.ssl with part := s.ssl.part ++ [b], active := true } } : State).sslWordEnd false) ∧
  (∀ (s u : State) (cut : Bool), u = { s with ssl := { s.ssl with part := [] } } →
    (s.ssl.took = true → u.sslRoom = true → s.sslWordEnd cut = (u.sslDeliver s.ssl.part s.ssl.start cut).sslUpdate) ∧
      (s.ssl.took = false ∨ u.sslRoom = false → s.sslWordEnd cut = u.sslRefused.sslUpdate))

/-- System records, marks and a credit mismatch of the hamper. A credit count that differs from the region freezes the
  class with 0x0103, its event and, unless it is class 3, a FAULT record; one that agrees, or of no class, changes
  nothing. The first system record is written with its credits, and waits for them otherwise; without one nothing
  happens. On the unlocked page in ACTIVE HMP_MARK queues a MARK with the class and data, or is refused with 0x0101
  while one is queued or the queue is full (log entry 18). -/
def Obligations.HamperRecords : Prop :=
  (∀ (s : State) (cls found : Nat) (u : State), s.awake = true → cls ≤ 3 → found ≠ s.regionSize cls → u = ((s.setCls
    cls { s.cls cls with frozen := true }).err 0 0x08 0x0103).raise 0 0x08 4 → cls ≠ 3 → exec (.creditMismatch cls
    found) s = .next (u.queueFault 0x03 0 (word cls) (word (found % 131072)))) ∧
  (∀ (s : State) (cls found : Nat) (u : State), s.awake = true → cls ≤ 3 → found ≠ s.regionSize cls → u = ((s.setCls
    cls { s.cls cls with frozen := true }).err 0 0x08 0x0103).raise 0 0x08 4 → cls = 3 → exec (.creditMismatch cls
    found) s = .next u) ∧
  (∀ (s : State) (cls found : Nat), (s.awake = false ∨ 3 < cls ∨ found = s.regionSize cls) → exec (.creditMismatch cls
    found) s = .next s) ∧
  (∀ (s : State), s.hamper.sysq = [] → exec (.systemRecordWrite) s = .next s) ∧
  (∀ (s : State) (r : SysRec) (rest : List SysRec) (c : Nat) (p : PendRec), s.hamper.sysq = r :: rest → r.build
    s.hamper.merged = (c, p) → s.canReserve c p.reserved = true → exec (.systemRecordWrite) s = .next
    ((({ s with hamper := { s.hamper with sysq := rest, merged := if r.isFault then 0 else s.hamper.merged, tooBig := false } }
    : State).reserve c p.reserved).writeRecord c p)) ∧
  (∀ (s : State) (r : SysRec) (rest : List SysRec) (c : Nat) (p : PendRec), s.hamper.sysq = r :: rest → r.build
    s.hamper.merged = (c, p) → s.canReserve c p.reserved = false → s.hamper.tooBig = false → exec (.systemRecordWrite)
    s = .next (({ s with hamper := { s.hamper with tooBig := decide (s.regionSize c < p.reserved) } } :
    State).oversize c p.reserved)) ∧
  (∀ (s : State) (r : SysRec) (rest : List SysRec) (c : Nat) (p : PendRec), s.hamper.sysq = r :: rest → r.build
    s.hamper.merged = (c, p) → s.canReserve c p.reserved = false → s.hamper.tooBig = true → exec (.systemRecordWrite)
    s = .next s) ∧
  (∀ (s : State) (value : Word) (u : State), s.awake = true → s.flag 0 (F.PG_LOCK 0x08) = false → u = s.writeRo 0 0x08
    0x034 value → u.hamper.sysq.any SysRec.isMark = false → u.hamper.sysq.length < 16 → exec (.hmpMark value) s =
    .next
    ({ u with hamper := { u.hamper with sysq := u.hamper.sysq ++ [SysRec.mark (bits value 0 2) (u.reg 0 0x08 0x030) u.time] } })) ∧
  (∀ (s : State) (value : Word) (u : State), s.awake = true → s.flag 0 (F.PG_LOCK 0x08) = false → u = s.writeRo 0 0x08
    0x034 value → (u.hamper.sysq.any SysRec.isMark = true ∨ 16 ≤ u.hamper.sysq.length) → exec (.hmpMark value) s =
    .next (u.err 0 0x08 0x0101))

/-- The host operations and snapshots of the ticket table. With a commit of the ticket page pending and no profile
  load past its drain, the commit of the operation staged is taken whole when it is legal, and is otherwise ended with
  its event and error 4; with another operation staged nothing happens. On the unlocked page in ACTIVE, with no
  snapshot work in hand, a save starts with VALID cleared and the copy empty; the save queues behind the background
  operations of the NV store; when it is its turn it ends with the rest of the table copied and kept, or with a FAULT
  record. A load starts on an OFF page, suspending a background operation of the NV store, and replaces the table, or
  records 0x0105. -/
def Obligations.Tickets : Prop :=
  (∀ (s : State), s.flag 0 (F.PG_COMMIT_PEND 0x09) = true → s.loadLets = true → s.sget 0 F.TKT_OP_OP = 0 → s.commitOk
    0 0x09 (s.shadowWord 0 0x09) = true → exec (.tktOpNone) s = .next (s.commitAll 0 0x09)) ∧
  (∀ (s : State), s.flag 0 (F.PG_COMMIT_PEND 0x09) = true → s.loadLets = true → s.sget 0 F.TKT_OP_OP = 1 → s.commitOk
    0 0x09 (s.shadowWord 0 0x09) = true → exec (.tktOpWrite) s = .next (s.commitAll 0 0x09)) ∧
  (∀ (s : State), s.flag 0 (F.PG_COMMIT_PEND 0x09) = true → s.loadLets = true → s.sget 0 F.TKT_OP_OP = 2 → s.commitOk
    0 0x09 (s.shadowWord 0 0x09) = true → exec (.tktOpInsert) s = .next (s.commitAll 0 0x09)) ∧
  (∀ (s : State), s.flag 0 (F.PG_COMMIT_PEND 0x09) = true → s.loadLets = true → s.sget 0 F.TKT_OP_OP = 3 → s.commitOk
    0 0x09 (s.shadowWord 0 0x09) = true → exec (.tktOpDelete) s = .next (s.commitAll 0 0x09)) ∧
  (∀ (s : State), s.flag 0 (F.PG_COMMIT_PEND 0x09) = true → s.loadLets = true → s.sget 0 F.TKT_OP_OP = 4 → s.commitOk
    0 0x09 (s.shadowWord 0 0x09) = true → exec (.tktOpLookup) s = .next (s.commitAll 0 0x09)) ∧
  (∀ (s : State), s.flag 0 (F.PG_COMMIT_PEND 0x09) = true → s.loadLets = true → s.sget 0 F.TKT_OP_OP = 0 → s.commitOk
    0 0x09 (s.shadowWord 0 0x09) = false → exec (.tktOpNone) s = .next (((s.set 0 (F.PG_COMMIT_PEND 0x09) 0).raise 0
    0x09 30).err 0 0x09 4)) ∧
  (∀ (s : State), (s.flag 0 (F.PG_COMMIT_PEND 0x09) = false ∨ s.loadLets = false ∨ s.sget 0 F.TKT_OP_OP ≠ 0) → exec
    (.tktOpNone) s = .next s) ∧
  (∀ (s : State), s.flag 0 (F.PG_COMMIT_PEND 0x09) = true → s.loadLets = true → s.sget 0 F.TKT_OP_OP = 1 → s.commitOk
    0 0x09 (s.shadowWord 0 0x09) = false → exec (.tktOpWrite) s = .next (((s.set 0 (F.PG_COMMIT_PEND 0x09) 0).raise 0
    0x09 30).err 0 0x09 4)) ∧
  (∀ (s : State), (s.flag 0 (F.PG_COMMIT_PEND 0x09) = false ∨ s.loadLets = false ∨ s.sget 0 F.TKT_OP_OP ≠ 1) → exec
    (.tktOpWrite) s = .next s) ∧
  (∀ (s : State), s.flag 0 (F.PG_COMMIT_PEND 0x09) = true → s.loadLets = true → s.sget 0 F.TKT_OP_OP = 2 → s.commitOk
    0 0x09 (s.shadowWord 0 0x09) = false → exec (.tktOpInsert) s = .next (((s.set 0 (F.PG_COMMIT_PEND 0x09) 0).raise 0
    0x09 30).err 0 0x09 4)) ∧
  (∀ (s : State), (s.flag 0 (F.PG_COMMIT_PEND 0x09) = false ∨ s.loadLets = false ∨ s.sget 0 F.TKT_OP_OP ≠ 2) → exec
    (.tktOpInsert) s = .next s) ∧
  (∀ (s : State), s.flag 0 (F.PG_COMMIT_PEND 0x09) = true → s.loadLets = true → s.sget 0 F.TKT_OP_OP = 3 → s.commitOk
    0 0x09 (s.shadowWord 0 0x09) = false → exec (.tktOpDelete) s = .next (((s.set 0 (F.PG_COMMIT_PEND 0x09) 0).raise 0
    0x09 30).err 0 0x09 4)) ∧
  (∀ (s : State), (s.flag 0 (F.PG_COMMIT_PEND 0x09) = false ∨ s.loadLets = false ∨ s.sget 0 F.TKT_OP_OP ≠ 3) → exec
    (.tktOpDelete) s = .next s) ∧
  (∀ (s : State), s.flag 0 (F.PG_COMMIT_PEND 0x09) = true → s.loadLets = true → s.sget 0 F.TKT_OP_OP = 4 → s.commitOk
    0 0x09 (s.shadowWord 0 0x09) = false → exec (.tktOpLookup) s = .next (((s.set 0 (F.PG_COMMIT_PEND 0x09) 0).raise 0
    0x09 30).err 0 0x09 4)) ∧
  (∀ (s : State), (s.flag 0 (F.PG_COMMIT_PEND 0x09) = false ∨ s.loadLets = false ∨ s.sget 0 F.TKT_OP_OP ≠ 4) → exec
    (.tktOpLookup) s = .next s) ∧
  (∀ (s : State) (u : State), s.awake = true → s.flag 0 (F.PG_LOCK 0x09) = false → s.flag 0 F.TKT_SNAP_BUSY = false →
    u = (((s.set 0 F.TKT_SNAP_BUSY 1).set 0 F.TKT_SNAP_SAVE 1).set 0 F.TKT_SNAP_VALID 0).set 0 F.TKT_SNAP_PROGRESS 0 →
    exec (.tktSnapSave) s = .next (({ u with nv := { u.nv with snap := none, saving := [] } } : State).nvQueue
    .snapSave)) ∧
  (∀ (s : State), s.awake = true → s.flag 0 (F.PG_LOCK 0x09) = false → s.flag 0 F.TKT_SNAP_BUSY = true → exec
    (.tktSnapSave) s = .next (s.err 0 0x09 0x0106)) ∧
  (∀ (s : State) (ok : Bool) (bucket : Nat) (code : Nat) (u v : State), s.flag 0 F.TKT_SNAP_BUSY = true → s.flag 0
    F.TKT_SNAP_SAVE = true → s.nvRuns .snapSave = true → ok = true → u = (((s.saveTo 3072).set 0 F.TKT_SNAP_BUSY
    0).set 0 F.TKT_SNAP_SAVE 0).nvPop.nvBetween → v = (u.set 0 F.TKT_SNAP_VALID 1).raise 0 0x09 3 → exec
    (.tktSnapSaveEnd ok bucket code) s = .next
    ({ v with nv := { v.nv with snap := some u.nv.saving, saving := [] } })) ∧
  (∀ (s : State) (ok : Bool) (bucket : Nat) (code : Nat) (u : State), s.flag 0 F.TKT_SNAP_BUSY = true → s.flag 0
    F.TKT_SNAP_SAVE = true → s.nvRuns .snapSave = true → ok = false → u = (((s.set 0 F.TKT_SNAP_PROGRESS bucket).set 0
    F.TKT_SNAP_BUSY 0).set 0 F.TKT_SNAP_SAVE 0).nvPop.nvBetween → exec (.tktSnapSaveEnd ok bucket code) s = .next
    ((({ u with nv := { u.nv with saving := [] } } : State).raise 0 0x09 4).queueFault 0x04 0 (word bucket) (word
    code))) ∧
  (∀ (s : State) (ok : Bool) (bucket : Nat) (code : Nat), (s.flag 0 F.TKT_SNAP_BUSY = false ∨ s.flag 0 F.TKT_SNAP_SAVE
    = false ∨ s.nvRuns .snapSave = false) → exec (.tktSnapSaveEnd ok bucket code) s = .next s) ∧
  (∀ (s : State), s.awake = true → s.flag 0 (F.PG_LOCK 0x09) = false → s.flag 0 F.TKT_SNAP_BUSY = false → s.pageState
    0 0x09 = 0 → exec (.tktSnapLoad) s = .next ((((s.set 0 F.TKT_SNAP_BUSY 1).set 0 F.TKT_SNAP_LOAD 1).set 0
    F.TKT_SNAP_PROGRESS 0).nvForeground)) ∧
  (∀ (s : State), s.awake = true → s.flag 0 (F.PG_LOCK 0x09) = false → (s.flag 0 F.TKT_SNAP_BUSY = true ∨ s.pageState
    0 0x09 ≠ 0) → exec (.tktSnapLoad) s = .next (s.err 0 0x09 0x0106)) ∧
  (∀ (s : State) (crcOk : Bool) (u v : State) (l : List (Nat × Ticket)), s.flag 0 F.TKT_SNAP_BUSY = true → s.flag 0
    F.TKT_SNAP_LOAD = true → u = (s.set 0 F.TKT_SNAP_BUSY 0).set 0 F.TKT_SNAP_LOAD 0 → crcOk = true → s.nv.snap = some
    l → v = u.set 0 F.TKT_SNAP_PROGRESS 3072 → exec (.tktSnapLoadEnd crcOk) s = .next
    ({ v with tickets := (l.map (fun (e : Nat × Ticket) => (e.1, e.2.loaded))).filter (fun (e : Nat × Ticket) => e.2 != ({} : Ticket)) })) ∧
  (∀ (s : State) (crcOk : Bool) (u : State), s.flag 0 F.TKT_SNAP_BUSY = true → s.flag 0 F.TKT_SNAP_LOAD = true → u =
    (s.set 0 F.TKT_SNAP_BUSY 0).set 0 F.TKT_SNAP_LOAD 0 → (crcOk = false ∨ s.nv.snap = none) → exec (.tktSnapLoadEnd
    crcOk) s = .next (u.err 0 0x09 0x0105)) ∧
  (∀ (s : State) (crcOk : Bool), (s.flag 0 F.TKT_SNAP_BUSY = false ∨ s.flag 0 F.TKT_SNAP_LOAD = false) → exec
    (.tktSnapLoadEnd crcOk) s = .next s) ∧
  (∀ (s : State) (n : Nat), s.saveTo n =
    ({ s with nv := { s.nv with saving := s.nv.saving ++ s.tickets.filter (fun e => decide (4 * s.get 0 F.TKT_SNAP_PROGRESS ≤ e.1 ∧ e.1 < 4 * n)) } } : State).set 0 F.TKT_SNAP_PROGRESS n)

/-- The commands of the interrupt controller. A claim of one of the four targets answers 0 by a fetch, with 0x0105, or
  without a slot offered; else it takes the highest slot offered to the target into service with its target, clears
  IDLE and starts the hold when MODGAP is not 0, or loses to a claim of the same cycle with 511 and its event. A
  completion of a slot in service at that target ends the service; slots 0 and 511 do nothing, any other slot records
  0x0104. A write of a source is refused for its reasons, or takes slot and targets, takes the count written off and
  clears OVF when asked. A hold ends, a level of a die in service arrives, an enabled cause is latched, each under its
  own condition and else without effect. -/
def Obligations.InterruptController : Prop :=
  (∀ (s : State) (target : Nat) (others : List Nat) (fetch : Bool) (b u : State), s.awake = true → target < 4 → b =
    s.attnSync → u = ({ b with icu := { b.icu with claims := Store.erase b.icu.claims target } } : State) → fetch =
    true → exec (.icuClaim target others fetch) s = .next ((u.err 0 0x05 0x0105).setReg 0 0x05 (0x040 + 32 * target)
    0)) ∧
  (∀ (s : State) (target : Nat) (others : List Nat) (fetch : Bool) (b u : State) (taken : List Nat) (slot src : Nat),
    s.awake = true → target < 4 → b = s.attnSync → u =
    ({ b with icu := { b.icu with claims := Store.erase b.icu.claims target } } : State) → fetch = false → taken =
    (others.filter (fun k => decide (k < target))).filterMap (fun k => Store.find? b.icu.claims k) → u.topFor target
    (taken.filterMap (fun k => (u.slotSource k).map Prod.fst)) = (slot, src) → slot = 0 → exec (.icuClaim target
    others fetch) s = .next (u.setReg 0 0x05 (0x040 + 32 * target) 0)) ∧
  (∀ (s : State) (target : Nat) (others : List Nat) (fetch : Bool) (b u : State) (taken : List Nat) (slot src : Nat),
    s.awake = true → target < 4 → b = s.attnSync → u =
    ({ b with icu := { b.icu with claims := Store.erase b.icu.claims target } } : State) → fetch = false → taken =
    (others.filter (fun k => decide (k < target))).filterMap (fun k => Store.find? b.icu.claims k) → u.topFor target
    (taken.filterMap (fun k => (u.slotSource k).map Prod.fst)) = (slot, src) → slot ≠ 0 → taken.contains slot = true →
    exec (.icuClaim target others fetch) s = .next ((u.raise 0 0x05 1).setReg 0 0x05 (0x040 + 32 * target) 511)) ∧
  (∀ (s : State) (target : Nat) (others : List Nat) (fetch : Bool) (b u : State) (taken : List Nat) (slot src : Nat)
    (x v : State), s.awake = true → target < 4 → b = s.attnSync → u =
    ({ b with icu := { b.icu with claims := Store.erase b.icu.claims target } } : State) → fetch = false → taken =
    (others.filter (fun k => decide (k < target))).filterMap (fun k => Store.find? b.icu.claims k) → u.topFor target
    (taken.filterMap (fun k => (u.slotSource k).map Prod.fst)) = (slot, src) → slot ≠ 0 → taken.contains slot = false
    → x = (u.set 0 (F.ICU_SRC_INSVC src) 1).set 0 (F.ICU_SRC_SVCT src) target → v = (x.set 0 (F.ICU_T_CFG_IDLE target)
    0).set 0 (F.ICU_T_STAT_HOLD target) (b2n (x.get 0 (F.ICU_T_CFG_MODGAP target) != 0)) → exec (.icuClaim target
    others fetch) s = .next ((({ v with icu := { v.icu with claims := Store.insert v.icu.claims target slot } } :
    State).setReg 0 0x05 (0x040 + 32 * target) (word (src * 65536 + slot))).attnSync)) ∧
  (∀ (s : State) (target : Nat) (slot : Nat), s.awake = true → s.flag 0 (F.PG_LOCK 0x05) = false → target < 4 → (slot
    % 512 = 0 ∨ slot % 512 = 511) → exec (.icuComplete target slot) s = .next s) ∧
  (∀ (s : State) (target : Nat) (slot : Nat) (k src : Nat) (w : Word), s.awake = true → s.flag 0 (F.PG_LOCK 0x05) =
    false → target < 4 → k = slot % 512 → k ≠ 0 → k ≠ 511 → s.slotSource k = some (src, w) → bit w 28 = true → bits w
    26 2 = target → exec (.icuComplete target slot) s = .next (((s.set 0 (F.ICU_SRC_INSVC src) 0).set 0
    (F.ICU_SRC_SVCT src) 0).takeStagedMap src k)) ∧
  (∀ (s : State) (target : Nat) (slot : Nat) (k : Nat), s.awake = true → s.flag 0 (F.PG_LOCK 0x05) = false → target <
    4 → k = slot % 512 → k ≠ 0 → k ≠ 511 → s.slotSource k = none → exec (.icuComplete target slot) s = .next (s.err 0
    0x05 0x0104)) ∧
  (∀ (s : State) (target : Nat) (slot : Nat) (k src : Nat) (w : Word), s.awake = true → s.flag 0 (F.PG_LOCK 0x05) =
    false → target < 4 → k = slot % 512 → k ≠ 0 → k ≠ 511 → s.slotSource k = some (src, w) → (bit w 28 = false ∨ bits
    w 26 2 ≠ target) → exec (.icuComplete target slot) s = .next (s.err 0 0x05 0x0104)) ∧
  (∀ (s : State) (source : Nat) (value : Word) (u : State) (slot : Nat), s.awake = true → s.flag 0 (F.PG_LOCK 0x05) =
    false → source < 420 → u = s.attnSync → slot = bits value 0 9 → reservedSource source = true → exec (.icuSrcWrite
    source value) s = .next (u.err 0 0x05 2)) ∧
  (∀ (s : State) (source : Nat) (value : Word) (u : State) (slot : Nat), s.awake = true → s.flag 0 (F.PG_LOCK 0x05) =
    false → source < 420 → u = s.attnSync → slot = bits value 0 9 → reservedSource source = false → slot = 511 → exec
    (.icuSrcWrite source value) s = .next (u.err 0 0x05 0x0102)) ∧
  (∀ (s : State) (source : Nat) (value : Word) (u : State) (slot : Nat), s.awake = true → s.flag 0 (F.PG_LOCK 0x05) =
    false → source < 420 → u = s.attnSync → slot = bits value 0 9 → reservedSource source = false → slot ≠ 511 → slot
    ≠ 0 → u.slotHeld source slot = true → exec (.icuSrcWrite source value) s = .next (u.err 0 0x05 0x0101)) ∧
  (∀ (s : State) (source : Nat) (value : Word) (u : State) (slot : Nat), s.awake = true → s.flag 0 (F.PG_LOCK 0x05) =
    false → source < 420 → u = s.attnSync → slot = bits value 0 9 → reservedSource source = false → slot ≠ 511 → (slot
    = 0 ∨ u.slotHeld source slot = false) → u.flag 0 (F.ICU_SRC_INSVC source) = true → u.get 0 (F.ICU_SRC_SLOT source)
    ≠ slot → exec (.icuSrcWrite source value) s = .next (u.err 0 0x05 0x0103)) ∧
  (∀ (s : State) (source : Nat) (value : Word) (u : State) (slot : Nat) (y v x : State), s.awake = true → s.flag 0
    (F.PG_LOCK 0x05) = false → source < 420 → u = s.attnSync → slot = bits value 0 9 → reservedSource source = false →
    slot ≠ 511 → (slot = 0 ∨ u.slotHeld source slot = false) → (u.flag 0 (F.ICU_SRC_INSVC source) = false ∨ u.get 0
    (F.ICU_SRC_SLOT source) = slot) → y = u.writeRo 0 0x05 (0x400 + 4 * source) value → v =
    (({ y with icu := { y.icu with unmapped := Store.erase y.icu.unmapped source } } : State).set 0 (F.ICU_SRC_SLOT
    source) slot).set 0 (F.ICU_SRC_TARGET source) (bits value 20 4) → x = v.set 0 (F.ICU_SRC_COUNT source) (v.get 0
    (F.ICU_SRC_COUNT source) - bits value 12 8) → exec (.icuSrcWrite source value) s = .next ((if bit value 31 then
    x.set 0 (F.ICU_SRC_OVF source) 0 else x).attnSync)) ∧
  (∀ (s : State) (target : Nat) (value : Word) (u : State), s.awake = true → s.flag 0 (F.PG_LOCK 0x05) = false →
    target < 4 → u = (s.attnSync.writeRo 0 0x05 (0x044 + 32 * target) value).setReg 0 0x05 (0x044 + 32 * target)
    (value &&& writableMask 0 0x05 (0x044 + 32 * target)) → exec (.icuTargetCfgWrite target value) s = .next ((if bit
    value 30 then u.set 0 (F.ICU_T_STAT_HOLD target) 0 else u).attnSync)) ∧
  (∀ (s : State) (target : Nat), (s.awake = false ∨ 4 ≤ target) → exec (.icuModgapEnd target) s = .next s) ∧
  (∀ (s : State) (target : Nat) (others : List Nat) (fetch : Bool), (s.awake = false ∨ 4 ≤ target) → exec (.icuClaim
    target others fetch) s = .next s) ∧
  (∀ (s : State) (target : Nat) (slot : Nat), s.awake = true → s.flag 0 (F.PG_LOCK 0x05) = false → 4 ≤ target → exec
    (.icuComplete target slot) s = .next s) ∧
  (∀ (s : State) (source : Nat) (value : Word), s.awake = true → s.flag 0 (F.PG_LOCK 0x05) = false → 420 ≤ source →
    exec (.icuSrcWrite source value) s = .next s) ∧
  (∀ (s : State) (target : Nat) (value : Word), s.awake = true → s.flag 0 (F.PG_LOCK 0x05) = false → 4 ≤ target → exec
    (.icuTargetCfgWrite target value) s = .next s) ∧
  (∀ (s : State) (source : Nat), (s.awake = false ∨ source < 140 ∨ 420 ≤ source ∨ reservedSource source = true ∨
    s.inService ((source - 140) / 40 + 1) = false) → exec (.icuLevelChange source) s = .next s) ∧
  (∀ (s : State) (source bit : Nat), (420 ≤ source ∨ 32 ≤ bit ∨ s.awake = true) → exec (.icuSleepLatch source bit) s =
    .next s) ∧
  (∀ (s : State) (target : Nat), s.awake = true → target < 4 → exec (.icuModgapEnd target) s = .next (s.set 0
    (F.ICU_T_STAT_HOLD target) 0)) ∧
  (∀ (s : State) (source : Nat), s.awake = true → 140 ≤ source → source < 420 → reservedSource source = false →
    s.inService ((source - 140) / 40 + 1) = true → exec (.icuLevelChange source) s = .next ((s.attnSync.icuDeliver
    source).attnSync)) ∧
  (∀ (s : State) (source bit : Nat), source < 140 → bit < 32 → s.latched 0 source = true → exec (.icuSleepLatch source
    bit) s = .next (s.raise 0 source bit)) ∧
  (∀ (s : State) (source bit : Nat), 140 ≤ source → source < 420 → bit < 32 → s.latched ((source - 140) / 40 + 1)
    ((source - 140) % 40) = true → exec (.icuSleepLatch source bit) s = .next (s.raise ((source - 140) / 40 + 1)
    ((source - 140) % 40) bit)) ∧
  (∀ (s : State) (source slot : Nat), s.slotHeld source slot =
    (s.mapped.any (fun e => e.1 != source && bits e.2 0 9 == slot) ||
      s.icu.staged.any (fun e => e.1 != source && bits e.2 0 9 == slot) ||
      s.icu.unmapped.any (fun e => e.1 != source && e.2 == slot)))

/-- Sleep requests, the end of the entry and the commit to sleep. On the unlocked page in ACTIVE a request outside an
  entry and a load starts DRAIN, withdraws the candidates, ends the holds and withdraws the radio queue, and an
  admission pass follows; in an entry, with a load, or for WATCH with more than eight ports it is refused. At the
  timeout with holders the entry ends with 0x0101 and its event, in PREPARE too with the pads released (log entry
  134). Without holders PREPARE starts: the listener and the radio stop, and with no supply target the rest of the
  steps follow, ending with the pads latched and held; else the supply request is made. The commit, once every step is
  done and with no holder, leaves the target state with every field die off. -/
def Obligations.SleepEntry : Prop :=
  (∀ (s : State) (u v : State), s.awake = true → s.flag 0 (F.PG_LOCK 0x03) = false → s.power.phase = .none → s.load =
    none → u = s.setPhase .drain → v = { u with power := { u.power with toWatch := false, frozenHolders := none } } →
    exec (.sleepDeepRequest) s = .next (((v.coord.cands.foldl (fun (z : State) c => z.withdraw c) v).endHolds
    none).withdrawQueue.coordinate)) ∧
  (∀ (s : State), s.awake = true → s.flag 0 (F.PG_LOCK 0x03) = false → (s.power.phase ≠ .none ∨ s.load ≠ none) → exec
    (.sleepDeepRequest) s = .next (s.err 0 0x03 7)) ∧
  (∀ (s : State) (u v : State), s.awake = true → s.flag 0 (F.PG_LOCK 0x03) = false → s.power.phase = .none → s.load =
    none → s.sleepPorts.length ≤ 8 → u = s.setPhase .drain → v =
    { u with power := { u.power with toWatch := true, frozenHolders := none } } → exec (.sleepWatchRequest) s = .next
    (((v.coord.cands.foldl (fun (z : State) c => z.withdraw c) v).endHolds none).withdrawQueue.coordinate)) ∧
  (∀ (s : State), s.awake = true → s.flag 0 (F.PG_LOCK 0x03) = false → (s.power.phase ≠ .none ∨ s.load ≠ none) → exec
    (.sleepWatchRequest) s = .next (s.err 0 0x03 7)) ∧
  (∀ (s : State), s.awake = true → s.flag 0 (F.PG_LOCK 0x03) = false → s.power.phase = .none → s.load = none → 8 <
    s.sleepPorts.length → exec (.sleepWatchRequest) s = .next (s.err 0 0x03 0x0102)) ∧
  (∀ (s : State) (u : State), s.power.phase = .drain → s.holders ≠ 0 → u = s.setPhase .none → exec (.entryTimeout) s =
    .next (((({ u with power := { u.power with frozenHolders := some s.holders } } : State).err 0 0x03 0x0101).raise 0
    0x03 2).coordinate)) ∧
  (∀ (s : State) (u : State), s.power.phase = .prepare → s.holders ≠ 0 → u = (s.releasePads 7).setPhase .none → exec
    (.entryTimeout) s = .next (((({ u with power := { u.power with frozenHolders := some s.holders } } : State).err 0
    0x03 0x0101).raise 0 0x03 2).coordinate)) ∧
  (∀ (s : State), (s.power.phase = .none ∨ s.holders = 0) → exec (.entryTimeout) s = .next s) ∧
  (∀ (s : State) (u v : State), s.power.phase = .drain → s.holders = 0 → u =
    ({ s with power := { s.power with prepared := false } } : State).setPhase .prepare → v = u.sslRelease.radioSleep →
    v.get 0 F.PWR_VSLEEP_TARGET = 0 → exec (.sleepPrepare) s = .next (v.prepareRest)) ∧
  (∀ (s : State) (u v : State), s.power.phase = .drain → s.holders = 0 → u =
    ({ s with power := { s.power with prepared := false } } : State).setPhase .prepare → v = u.sslRelease.radioSleep →
    v.get 0 F.PWR_VSLEEP_TARGET ≠ 0 → exec (.sleepPrepare) s = .next (v.supplyRequest
    { cmd := 1, value := v.get 0 F.PWR_VSLEEP_TARGET })) ∧
  (∀ (s : State), (s.power.phase ≠ .drain ∨ s.holders ≠ 0) → exec (.sleepPrepare) s = .next s) ∧
  (∀ (s : State), (s.power.phase ≠ .prepare ∨ s.power.prepared = false ∨ s.holders ≠ 0) → exec (.sleepCommit) s =
    .next s) ∧
  (∀ (s : State), s.power.phase = .prepare → s.power.prepared = true → s.holders = 0 → ∃ t : State, exec
    (.sleepCommit) s = .next t ∧ t.device = (if s.power.toWatch then .watch else .deepSleep) ∧ t.ready = false ∧
    t.epoch = s.epoch ∧ t.mem = s.mem ∧ ∀ d, 1 ≤ d → d ≤ s.dies → t.pstate d = 0) ∧
  (∀ (s : State), s.prepareRest.get 0 F.PWR_STAT_PADHELD = 7 ∧ s.prepareRest.power.prepared = true ∧ s.prepareRest.mem = s.mem ∧
    s.prepareRest.device = s.device ∧ s.prepareRest.epoch = s.epoch ∧
    (s.padHeld 0 = false → s.prepareRest.power.padLatch.take 4 = s.autotrim.gpWords))

/-- Waking, the memory step of a domain, pads, field-die power and pin edges. An enabled wake pin, at its active level
  for two periods of the 32 kHz crystal, is a wake source: asleep it starts the wake, or of several at one time the
  lower source is recorded; during a sleep entry it abandons the entry with its event and count, the pads released; in
  ACTIVE without an entry it does nothing. A domain that is ready joins the wake with its failed banks, or brings a
  die that is asked for to RUN, with a report of banks that failed. The anchor, its own domain ready, reaches ACTIVE
  with READY. On the unlocked page groups written 1 release their pads; KEEP_RUN brings a die to RUN; an idle die
  stores the CRC-32 of its banks, turns off and loses its time and lock. A level that differs from the last one is
  kept and raises the rise or the fall event of its pin; the same level, a pin from 8 on and a device that is not in
  ACTIVE change nothing. -/
def Obligations.WakeAndPads : Prop :=
  (∀ (s : State) (high : Bool) (periods : Nat), s.flag 0 F.PWR_WAKE_EN_WAKEPIN = true → high = s.flag 0
    F.PWR_CFG_WAKE_POL → 2 ≤ periods → exec (.wakePinAssert high periods) s = .next (s.wakeBy 1 0)) ∧
  (∀ (s : State) (high : Bool) (periods : Nat), (s.flag 0 F.PWR_WAKE_EN_WAKEPIN = false ∨ high ≠ s.flag 0
    F.PWR_CFG_WAKE_POL ∨ periods < 2) → exec (.wakePinAssert high periods) s = .next s) ∧
  (∀ (s : State) (die : Nat) (front : Bool) (found : List (Nat × Nat)) (l : List Nat) (u : State), (s.device =
    .deepSleep ∨ s.device = .watch) → s.power.waking = true → s.present die = true → l = (s.failing die found).filter
    (fun x => !s.power.failed.contains x) → u =
    { s with power := { s.power with failed := s.power.failed ++ l, anchorReady := s.power.anchorReady || (die == 0 && !front) } }
    → exec (.wakeDomainReady die front found) s = .next ((l.foldl (fun (z : State) x => z.failBank die (x % 256))
    (u.reloadReads die l)).frontsUp front)) ∧
  (∀ (s : State) (die : Nat) (front : Bool) (found : List (Nat × Nat)) (l : List Nat) (u v w : State), s.awake = true
    → s.inService die = true → s.pstate die = 0 → (front = true ∨ (s.die die).runAsked = true ∨ s.flag die
    F.DPWR_CFG_KEEP_RUN = true) → l = s.failing die found → u = { s with power := { s.power with lostWatch := 0 } } →
    v = l.foldl (fun (z : State) x => z.failBank die (x % 256)) (u.reloadReads die l) → w = (v.dieUp die).coordinate →
    exec (.wakeDomainReady die front found) s = .next (if l = [] then w else (w.retFail l).wakeReport 0 0 die 0 w.time
    l v.power.lostWatch)) ∧
  (∀ (s : State) (die : Nat) (front : Bool) (found : List (Nat × Nat)), s.awake = true → (s.inService die = false ∨
    s.pstate die ≠ 0 ∨ front = false ∧ (s.die die).runAsked = false ∧ s.flag die F.DPWR_CFG_KEEP_RUN = false) → exec
    (.wakeDomainReady die front found) s = .next s) ∧
  (∀ (s : State) (die : Nat) (front : Bool) (found : List (Nat × Nat)), s.awake = false → (s.power.waking = false ∨
    s.present die = false) → exec (.wakeDomainReady die front found) s = .next s) ∧
  (∀ (s : State) (gp : Nat), (s.device = .active ∨ s.device = .off ∨ s.device = .reset ∨ s.power.waking = false ∨
    s.power.anchorReady = false) → exec (.wakeComplete gp) s = .next s) ∧
  (∀ (s : State) (gp : Nat), (s.device = .deepSleep ∨ s.device = .watch) → s.power.waking = true → s.power.anchorReady
    = true → ∃ t : State, exec (.wakeComplete gp) s = .next t ∧ t.device = Device.active ∧ t.ready = true ∧ t.epoch =
    s.epoch ∧ t.mem = s.mem) ∧
  (∀ (s : State) (value : Word), s.awake = true → s.flag 0 (F.PG_LOCK 0x03) = false → exec (.padRelease value) s =
    .next (((s.writeRo 0 0x03 0x040 value).set 0 F.PWR_STAT_PADHELD ((s.writeRo 0 0x03 0x040 value).get 0
    F.PWR_STAT_PADHELD &&& (7 - bits value 0 3 % 8))).sslReserve)) ∧
  (∀ (s : State) (die : Nat) (u : State), s.awake = true → s.fieldDie die = true → s.inService die = true → u =
    s.touchDie die → u.awake = true → u.flag die (F.PG_LOCK 0x12) = false → exec (.keepRun die) s = .next ((u.set die
    F.DPWR_CFG_KEEP_RUN 1).holdRun die)) ∧
  (∀ (s : State) (die : Nat), (s.awake = false ∨ s.fieldDie die = false ∨ s.inService die = false) → exec (.keepRun
    die) s = .next s) ∧
  (∀ (s : State) (die : Nat), (s.awake = false ∨ s.inService die = false ∨ s.pstate die ≠ 1 ∨ s.get die
    F.DPWR_CFG_OFF_IDLE = 0 ∨ (s.die die).runAsked = true) → exec (.dieOffIdle die) s = .next s) ∧
  (∀ (s : State) (die : Nat) (u : State), s.awake = true → s.inService die = true → s.pstate die = 1 → s.get die
    F.DPWR_CFG_OFF_IDLE ≠ 0 → (s.die die).runAsked = false → u = ((s.storeCrcs [die]).set die F.DPWR_STAT_PSTATE
    0).setBit 0 F.SEM_DIES_LOCKED (die - 1) false → exec (.dieOffIdle die) s = .next ((u.setDie die
    { u.die die with timeLoaded := false }).watchSyncDie die)) ∧
  (∀ (s : State) (pin : Nat) (level : Bool), s.awake = true → pin < 8 → (s.get 0 F.GPP_IN_LEVEL).testBit pin ≠ level →
    exec (.gppEdge pin level) s = .next ((s.setBit 0 F.GPP_IN_LEVEL pin level).raise 0 0x16 (if level then pin else 8
    + pin))) ∧
  (∀ (s : State) (pin : Nat) (level : Bool), s.awake = true → pin < 8 → (s.get 0 F.GPP_IN_LEVEL).testBit pin = level →
    exec (.gppEdge pin level) s = .next s) ∧
  (∀ (s : State) (pin : Nat) (level : Bool), (s.awake = false ∨ 8 ≤ pin) → exec (.gppEdge pin level) s = .next s) ∧
  (∀ (s : State) (src detail left : Nat),
    (s.device = .active → s.power.phase = .none → s.wakeBy src detail = s) ∧
    (s.device = .active → s.power.phase ≠ .none → s.wakeBy src detail =
      (((((s.setPhase .none).releasePads 7).recordWake true 0 src detail).raise 0 0x03 1).countUp 0 F.PWR_CNT_ABORT_COUNT
        F.PWR_CNT_ABORT_OVF 1).coordinate) ∧
    ((s.device = .deepSleep ∧ left = 1 ∨ s.device = .watch ∧ left = 2) →
      (s.power.waking = false → s.wakeBy src detail =
        ({ s with power :=
            { s.power with waking := true, frontReady := false, anchorReady := false, wakeSrc := src, wakeDetail := detail, wakeFrom := left,
                           wakeTime := s.time, failed := [], lostWatch := 0 } } : State).recordWake false left src detail) ∧
      (s.power.waking = true → s.power.wakeTime = s.time → src < s.power.wakeSrc → s.wakeBy src detail =
        ({ s with power := { s.power with wakeSrc := src, wakeDetail := detail } } : State).recordWake false left src detail) ∧
      (s.power.waking = true → s.power.wakeTime ≠ s.time ∨ s.power.wakeSrc ≤ src → s.wakeBy src detail = s)) ∧
    ((s.device = .off ∨ s.device = .reset) → s.wakeBy src detail = s)) ∧
  (∀ (s : State) (d : Nat), s.awake = true → s.inService d = true → s.flag d F.DPWR_CFG_KEEP_RUN = true → s.pstate d = 1 →
    s.holdRun d = (s.set d F.DPWR_STAT_PSTATE 2).coordinate)

/-- The supply request link. On the unlocked page in ACTIVE a legal host request waits, replacing a waiting one; a SET
  out of range records 0x0102; a SET of the device itself waits in the same way in ACTIVE. The frame of a waiting
  request starts when none is in flight, SRAK low, with the clamped target shown but for a QUERY; an acknowledged
  request puts its target in force, but for a QUERY, with the event; an unacknowledged one is counted with 0x0101. The
  last request of PREPARE to end lets its other steps follow. Without a request there is no frame, and without a frame
  no end of one. -/
def Obligations.SupplyLink : Prop :=
  (∀ (s : State) (value : Nat) (origin : SupplyOrigin), s.awake = true → s.flag 0 (F.PG_LOCK 0x04) = false → origin =
    .host → 1500 ≤ value → value ≤ 2750 → exec (.srlSet value origin) s = .next
    ({ s with supply := { s.supply with waiting := some ({ cmd := 1, value := value } : SupplyReq) } })) ∧
  (∀ (s : State) (value : Nat) (origin : SupplyOrigin), s.awake = true → s.flag 0 (F.PG_LOCK 0x04) = false → origin =
    .host → (value < 1500 ∨ 2750 < value) → exec (.srlSet value origin) s = .next (s.err 0 0x04 0x0102)) ∧
  (∀ (s : State) (value : Nat) (origin : SupplyOrigin), s.awake = true → origin ≠ .host → exec (.srlSet value origin)
    s = .next ({ s with supply := { s.supply with waiting := some { cmd := 1, value := value } } })) ∧
  (∀ (s : State) (value : Nat), s.awake = true → s.flag 0 (F.PG_LOCK 0x04) = false → exec (.srlStepUp value) s = .next
    ({ s with supply := { s.supply with waiting := some ({ cmd := 2, value := value } : SupplyReq) } })) ∧
  (∀ (s : State) (value : Nat), s.awake = true → s.flag 0 (F.PG_LOCK 0x04) = false → exec (.srlStepDown value) s =
    .next ({ s with supply := { s.supply with waiting := some ({ cmd := 3, value := value } : SupplyReq) } })) ∧
  (∀ (s : State), s.awake = true → s.flag 0 (F.PG_LOCK 0x04) = false → exec (.srlQuery) s = .next
    ({ s with supply := { s.supply with waiting := some ({ cmd := 4, value := 0 } : SupplyReq) } })) ∧
  (∀ (s : State) (value : Nat) (origin : SupplyOrigin), s.awake = false → origin ≠ .host → exec (.srlSet value origin)
    s = .next s) ∧
  (∀ (s : State), (s.supply.flight ≠ none ∨ s.supply.waiting = none) → exec (.srlFrameStart) s = .next s) ∧
  (∀ (s : State), s.supply.flight = none → exec (.srlAck) s = .next s) ∧
  (∀ (s : State), s.supply.flight = none → exec (.srlNoack) s = .next s) ∧
  (∀ (s : State) (r : SupplyReq) (b target : Nat) (u : State), s.supply.flight = none → s.supply.waiting = some r → b
    = s.supplyTarget → target = (if r.cmd = 1 then r.value else if r.cmd = 2 then (clampI 1500 2750 ((b : Int) +
    r.value)).toNat else if r.cmd = 3 then (clampI 1500 2750 ((b : Int) - r.value)).toNat else b) → u =
    { s with supply := { s.supply with flight := some r, waiting := none, sent := target } } → r.cmd ≠ 4 → exec
    (.srlFrameStart) s = .next ((u.set 0 F.SRL_STAT_SRAK 0).set 0 F.SRL_STAT_TARGET target)) ∧
  (∀ (s : State) (r : SupplyReq) (b target : Nat) (u : State), s.supply.flight = none → s.supply.waiting = some r → b
    = s.supplyTarget → target = (if r.cmd = 1 then r.value else if r.cmd = 2 then (clampI 1500 2750 ((b : Int) +
    r.value)).toNat else if r.cmd = 3 then (clampI 1500 2750 ((b : Int) - r.value)).toNat else b) → u =
    { s with supply := { s.supply with flight := some r, waiting := none, sent := target } } → r.cmd = 4 → exec
    (.srlFrameStart) s = .next (u.set 0 F.SRL_STAT_SRAK 0)) ∧
  (∀ (s : State) (r : SupplyReq) (u v : State), s.supply.flight = some r → r.cmd ≠ 4 → u =
    { s with supply := { s.supply with inForce := some s.supply.sent } } → v = u.set 0 F.SRL_STAT_SRAK 1 → exec
    (.srlAck) s = .next (((({ v with supply := { v.supply with flight := none } } : State).set 0 F.SRL_STAT_RESULT
    1).raise 0 0x04 0).afterSupply)) ∧
  (∀ (s : State) (r : SupplyReq) (v : State), s.supply.flight = some r → r.cmd = 4 → v = s.set 0 F.SRL_STAT_SRAK 1 →
    exec (.srlAck) s = .next (((({ v with supply := { v.supply with flight := none } } : State).set 0
    F.SRL_STAT_RESULT 1).raise 0 0x04 0).afterSupply)) ∧
  (∀ (s : State) (r : SupplyReq), s.supply.flight = some r → exec (.srlNoack) s = .next
    (((((({ s with supply := { s.supply with flight := none } } : State).set 0 F.SRL_STAT_RESULT 2).countUp 0
    F.SRL_CNT_NOACK_COUNT F.SRL_CNT_NOACK_OVF 1).raise 0 0x04 1).err 0 0x04 0x0101).afterSupply)) ∧
  (∀ (s : State), (s.power.phase = .prepare → s.power.prepared = false → s.supply.flight = none → s.supply.waiting = none → s.afterSupply = s.prepareRest) ∧
    (s.power.phase ≠ .prepare ∨ s.power.prepared = true ∨ s.supply.flight ≠ none ∨ s.supply.waiting ≠ none → s.afterSupply = s))

/-- Power-on, resets and start-up. From OFF a power-on resets the device with EPOCH 1, the I/O rail as the pin gives
  it and an empty duty window; a loss of VSUP leaves the device OFF with what the NV store keeps, the operation in
  hand cut; a dip, NRST and the core rail reset the device with their cause from any state but OFF. The end of reset
  samples the straps and starts the start-up; its memory test remaps the faulty rows and reports those left out, and
  it ends with READY. -/
def Obligations.ResetsAndStartUp : Prop :=
  (∀ (s : State) (iosel : Bool) (u : State), s.device = .off → u =
    { s.resetDevice 0 with epoch := true, rail33 := iosel } → exec (.powerOn iosel) s = .next
    (({ u with radio := { u.radio with second := 0, charges := [] } } : State).set 0 F.RFC_STAT_DUTY_RESTART 1)) ∧
  (∀ (s : State) (iosel : Bool), s.device ≠ .off → exec (.powerOn iosel) s = .next s) ∧
  (∀ (s : State) (torn : Bool) (lock : Bool) (n : Nv), lock =
    (match s.nv.ops with | .regLock _ :: _ => true | _ => false) → n =
    { s.nv.cut with torn := s.nv.torn || (torn && lock) } → exec (.vsupLoss torn) s = .next
    ({ State.reset with part := s.part, device := .off, epoch := false, nv := n, free := s.free, pending := s.pending })) ∧
  (∀ (s : State), s.device ≠ .off → exec (.vsupDip) s = .next (s.resetDevice 3)) ∧
  (∀ (s : State), s.device = .off → exec (.vsupDip) s = .next s) ∧
  (∀ (s : State), s.device ≠ .off → exec (.nrstLow) s = .next (s.resetDevice 1)) ∧
  (∀ (s : State), s.device = .off → exec (.nrstLow) s = .next s) ∧
  (∀ (s : State), s.device ≠ .off → exec (.coreRailReset) s = .next (s.resetDevice 4)) ∧
  (∀ (s : State), s.device = .off → exec (.coreRailReset) s = .next s) ∧
  (∀ (s : State) (prof twa : Nat) (u : State), s.device = .reset → u = { s with device := .active, ready := false } →
    exec (.resetEnd prof twa) s = .next ((u.set 0 F.DEV_PROFILE_PINS prof).set 0 F.HTW_STAT_OWN_ADDR (0x58 + twa %
    8))) ∧
  (∀ (s : State) (prof twa : Nat), s.device ≠ .reset → exec (.resetEnd prof twa) s = .next s) ∧
  (∀ (s : State) (faults : List (Nat × Nat)), (s.awake = false ∨ s.ready = true) → exec (.memoryTestEnd faults) s =
    .next s) ∧
  (∀ (s : State) (seams : Nat) (badSets : List Nat), (s.awake = false ∨ s.ready = true) → exec (.startupReady seams
    badSets) s = .next s) ∧
  (∀ (s : State) (faults : List (Nat × Nat)) (l : List (Nat × Nat)) (u : State) (out : List (Nat × Nat)), s.awake =
    true → s.ready = false → l = (banksOf 0).filterMap (fun b => (Store.find? faults b).map (fun n => (b, n))) → (u,
    out) = l.foldl (fun (x : State × List (Nat × Nat)) f => ((x.1.remapRows f.1 f.2).1, if (x.1.remapRows f.1 f.2).2 =
    0 then x.2 else x.2 ++ [f])) (s, []) → exec (.memoryTestEnd faults) s = .next (((u.set 0 F.DRN_ROWS_FIELD (min 255
    (u.nv.remaps.foldl (fun (n : Nat) (e : Nat × Nat) => n + e.2) 0))).set 0 F.DRN_ROWS_FACTORY (min 255
    (u.nv.factoryRows.foldl (fun (n : Nat) (e : Nat × Nat) => n + e.2) 0))).memoryReports out)) ∧
  (∀ (s : State) (seams : Nat) (badSets : List Nat), s.awake = true → s.ready = false → ∃ t : State, exec
    (.startupReady seams badSets) s = .next t ∧ t.ready = true ∧ t.device = s.device ∧ t.epoch = s.epoch ∧ t.pending =
    s.pending ∧ t.part = s.part) ∧
  (∀ (n : Nv), n.cut.ops = [] ∧ n.cut.lockWords = n.lockWords ∧ n.cut.lockDone = n.lockDone ∧ n.cut.debugLock = n.debugLock ∧
    n.cut.txCtr = n.txCtr ∧ n.cut.cal = n.cal ∧ n.cut.snap = n.snap ∧ n.cut.remaps = n.remaps ∧ n.cut.fieldDarn = n.fieldDarn ∧
    n.cut.fieldPorts = n.fieldPorts ∧ n.cut.factoryDarn = n.factoryDarn) ∧
  (∀ (s : State) (cause : Nat), cause < 8 → (s.resetDevice cause).epoch = !s.epoch ∧ (s.resetDevice cause).device = .reset ∧
    (s.resetDevice cause).ready = false ∧ (s.resetDevice cause).time = State.reset.time ∧ (s.resetDevice cause).mem = State.reset.mem ∧
    (s.resetDevice cause).get 0 F.DEV_RESET_CAUSE = cause ∧ (s.resetDevice cause).get 0 F.DEV_RESET_FRESH = 1 ∧
    ∀ d p o, hostAddr d p o ≠ hostAddr 0 F.DEV_RESET_CAUSE.page F.DEV_RESET_CAUSE.off → (s.resetDevice cause).reg d p o = State.reset.reg d p o)

/-- What makes a calibration run DUE, start, end and save. On the unlocked page in ACTIVE a request of slices or
  spares makes each sound one that serves, or does not serve, DUE, and with none is refused with 0x0102; a die, the
  anchor and all become DUE, a die that is none being refused. A temperature of a die that is present is kept with its
  causes. A running run ends with its measured values, the reference measured being shown. A run DUE for CAL_MAXDEFER
  is AGED with its event, and one that waits for budget with the event of the coordinator. An ANCHOR run starts on a
  free converter. A save queues behind the operations of the NV store, or is refused while one runs; its end, when it
  is its turn, puts the dirty sets into the NV store, or records 0x0104. -/
def Obligations.CalibrationRequests : Prop :=
  (∀ (s : State) (die mask : Nat) (l : List Nat), s.awake = true → s.flag 0 (F.PG_LOCK 0x12) = false → s.fieldDie die
    = true → l = maskSlices mask (fun sl => s.sound die sl && (s.servedPort die sl).isSome == true) → l ≠ [] → exec
    (.calReqSlice die mask) s = .next ((l.foldl (fun (z : State) sl => z.makeDue (sliceSet die sl) false)
    s).coordinate)) ∧
  (∀ (s : State) (die mask : Nat), s.awake = true → s.flag 0 (F.PG_LOCK 0x12) = false → (s.fieldDie die = false ∨
    maskSlices mask (fun sl => s.sound die sl && (s.servedPort die sl).isSome == true) = []) → exec (.calReqSlice die
    mask) s = .next (s.err 0 0x12 0x0102)) ∧
  (∀ (s : State) (die mask : Nat) (l : List Nat), s.awake = true → s.flag 0 (F.PG_LOCK 0x12) = false → s.fieldDie die
    = true → l = maskSlices mask (fun sl => s.sound die sl && (s.servedPort die sl).isSome == false) → l ≠ [] → exec
    (.calReqSpare die mask) s = .next ((l.foldl (fun (z : State) sl => z.makeDue (sliceSet die sl) false)
    s).coordinate)) ∧
  (∀ (s : State) (die mask : Nat), s.awake = true → s.flag 0 (F.PG_LOCK 0x12) = false → (s.fieldDie die = false ∨
    maskSlices mask (fun sl => s.sound die sl && (s.servedPort die sl).isSome == false) = []) → exec (.calReqSpare die
    mask) s = .next (s.err 0 0x12 0x0102)) ∧
  (∀ (s : State) (die : Nat), s.awake = true → s.flag 0 (F.PG_LOCK 0x12) = false → s.fieldDie die = true → exec
    (.calReqDie die) s = .next ((s.makeDue (dieSet die) false).coordinate)) ∧
  (∀ (s : State) (die : Nat), s.awake = true → s.flag 0 (F.PG_LOCK 0x12) = false → s.fieldDie die = false → exec
    (.calReqDie die) s = .next (s.err 0 0x12 0x0102)) ∧
  (∀ (s : State), s.awake = true → s.flag 0 (F.PG_LOCK 0x12) = false → exec (.calReqAnchor) s = .next (s.makeDue 0
    false)) ∧
  (∀ (s : State), s.awake = true → s.flag 0 (F.PG_LOCK 0x12) = false → exec (.calReqAll) s = .next
    (s.allDue.coordinate)) ∧
  (∀ (s : State) (die : Nat) (temp : Int), s.awake = true → s.present die = true → 1 ≤ die → exec (.dieTempUpdate die
    temp) s = .next ((((s.set die F.DCAL_TEMP_TEMP (field 16 temp)).tempCauses die temp).refreshDie die).coordinate)) ∧
  (∀ (s : State) (die : Nat) (temp : Int), s.awake = true → die = 0 → exec (.dieTempUpdate die temp) s = .next
    ((({ s with coord := { s.coord with anchorTemp := temp } } : State).tempCauses 0 temp).coordinate)) ∧
  (∀ (s : State) (die : Nat) (temp : Int), (s.awake = false ∨ s.present die = false) → exec (.dieTempUpdate die temp)
    s = .next s) ∧
  (∀ (s : State) (target : Nat) (refv refres temp : Int) (values : List (Nat × Nat × Int)) (u : State), s.awake = true
    → (s.calTarget target).running = true → target < 0x1000 → u = (s.set 0 F.CAL_REF_REFV_DEV (field 16 refv)).set 0
    F.CAL_REF_REFRES_DEV (field 16 refres) → exec (.calRunEnd target refv refres temp values) s = .next (((u.endRun
    target (refPasses refv refres) temp values).refreshDie (target % 0x1000 / 16)).coordinate)) ∧
  (∀ (s : State) (target : Nat) (refv refres temp : Int) (values : List (Nat × Nat × Int)), s.awake = true →
    (s.calTarget target).running = true → 0x1000 ≤ target → exec (.calRunEnd target refv refres temp values) s = .next
    (((s.endRun target true temp values).refreshDie (target % 0x1000 / 16)).coordinate)) ∧
  (∀ (s : State) (target : Nat) (refv refres temp : Int) (values : List (Nat × Nat × Int)), (s.awake = false ∨
    (s.calTarget target).running = false) → exec (.calRunEnd target refv refres temp values) s = .next s) ∧
  (∀ (s : State) (target : Nat), (s.awake = false ∨ (s.calTarget target).due = false ∨ (s.calTarget target).aged =
    true) → exec (.calMaxdeferExpiry target) s = .next s) ∧
  (∀ (s : State), (s.awake = false ∨ s.pageOn 0 0x12 = false ∨ (s.calTarget 0).due = false ∨ s.converterHeld = true ∨
    s.power.phase ≠ .none ∨ s.coord.loading = true) → exec (.anchorCalStart) s = .next s) ∧
  (∀ (s : State), (s.awake = false ∨ s.flag 0 F.CAL_SAVE_DIRTY = false ∨ s.flag 0 F.CAL_SAVE_BUSY = true) → exec
    (.calAutosave) s = .next s) ∧
  (∀ (s : State) (ok : Bool), (s.flag 0 F.CAL_SAVE_BUSY = false ∨ s.nvRuns .calSave = false) → exec (.calSaveEnd ok) s
    = .next s) ∧
  (∀ (s : State) (target : Nat) (u v : State), s.awake = true → (s.calTarget target).due = true → (s.calTarget
    target).aged = false → u = (s.setCalTarget target { s.calTarget target with aged := true }).raise 0 0x12 4 → v =
    (if u.coord.cands.any (fun (c : Cand) =>
    (match c.origin with | .cal 3 _ => dieSet c.die == target | .cal _ n => sliceSet c.die n == target | _ => false)
    && c.budgetWait && !c.aged) then u.raise 0 0x0A 1 else u) → exec (.calMaxdeferExpiry target) s = .next
    (({ v with coord := { v.coord with cands := v.coord.cands.map (fun (c : Cand) => if (match c.origin with | .cal 3 _ => dieSet c.die == target | .cal _ n => sliceSet c.die n == target | _ => false) then { c with forced := true } else c) } }
    : State).coordinate)) ∧
  (∀ (s : State), s.awake = true → s.pageOn 0 0x12 = true → (s.calTarget 0).due = true → s.converterHeld = false →
    s.power.phase = .none → s.coord.loading = false → exec (.anchorCalStart) s = .next ((s.setCalTarget 0
    { s.calTarget 0 with due := false, aged := false, running := true }).calBits 0)) ∧
  (∀ (s : State), s.awake = true → s.flag 0 (F.PG_LOCK 0x12) = false → s.flag 0 F.CAL_SAVE_BUSY = false → exec
    (.calSave) s = .next ((s.set 0 F.CAL_SAVE_BUSY 1).nvQueue .calSave)) ∧
  (∀ (s : State), s.awake = true → s.flag 0 (F.PG_LOCK 0x12) = false → s.flag 0 F.CAL_SAVE_BUSY = true → exec
    (.calSave) s = .next (s.err 0 0x12 0x0103)) ∧
  (∀ (s : State), s.awake = true → s.flag 0 F.CAL_SAVE_DIRTY = true → s.flag 0 F.CAL_SAVE_BUSY = false → exec
    (.calAutosave) s = .next ((s.set 0 F.CAL_SAVE_BUSY 1).nvQueue .calSave)) ∧
  (∀ (s : State) (ok : Bool), s.flag 0 F.CAL_SAVE_BUSY = true → s.nvRuns .calSave = true → ok = false → exec
    (.calSaveEnd ok) s = .next (((s.set 0 F.CAL_SAVE_BUSY 0).nvPop.nvBetween.err 0 0x12 0x0104).raise 0 0x12 5)) ∧
  (∀ (s : State) (ok : Bool) (u v : State), s.flag 0 F.CAL_SAVE_BUSY = true → s.nvRuns .calSave = true → ok = true → u
    = (s.set 0 F.CAL_SAVE_BUSY 0).nvPop.nvBetween → v = ((s.cal.filter (fun e => e.2.dirty)).map Prod.fst).foldl (fun
    (z : State) k => (fun (w : State) => { w with nv := { w.nv with cal := Store.put w.nv.cal k {} (w.calSet k) } })
    (z.setCalTarget k { z.calTarget k with dirty := false })) u → exec (.calSaveEnd ok) s = .next (((v.set 0
    F.CAL_SAVE_DIRTY 0).countUp 0 F.CAL_SAVE_COUNT F.CAL_SAVE_OVF 1).raise 0 0x12 3)) ∧
  (∀ (s : State) (ok : Bool), s.flag 0 F.CAL_SAVE_BUSY = true → s.nvRuns .calSave = true → ok = true → ∃ t : State,
    exec (.calSaveEnd ok) s = .next t ∧ t.flag 0 F.CAL_SAVE_DIRTY = false ∧ t.flag 0 F.CAL_SAVE_BUSY = false ∧ t.mem =
    s.mem)

/-- Test requests, starts and ends. On the unlocked page in ACTIVE a request of present units makes each a requested
  test, an admission pass following, and one that names none is refused with 0x0101; all units are requested by
  BST_REQ_ALL and, with a period set and no sleep entry, at each period. A requested test whose unit is available
  starts; the end of a running test with all its steps judges it; else nothing happens. -/
def Obligations.SelfTests : Prop :=
  (∀ (s : State) (die mask : Nat) (l : List Nat), s.awake = true → s.flag 0 (F.PG_LOCK 0x13) = false → l = (maskSlices
    mask (s.sound die)).filter (s.unitPresent 1 die) → l ≠ [] → exec (.bstReqSlice die mask) s = .next ((l.foldl (fun
    (z : State) u => z.requestTest 1 die u) s).coordinate)) ∧
  (∀ (s : State) (die : Nat) (l : List Nat), s.awake = true → s.flag 0 (F.PG_LOCK 0x13) = false → l = ([0]).filter
    (s.unitPresent 2 die) → l ≠ [] → exec (.bstReqDie die) s = .next ((l.foldl (fun (z : State) u => z.requestTest 2
    die u) s).coordinate)) ∧
  (∀ (s : State) (mask : Nat) (l : List Nat), s.awake = true → s.flag 0 (F.PG_LOCK 0x13) = false → l = ((List.range
    8).filter mask.testBit).filter (s.unitPresent 3 0) → l ≠ [] → exec (.bstReqSeam mask) s = .next ((l.foldl (fun (z
    : State) u => z.requestTest 3 0 u) s).coordinate)) ∧
  (∀ (s : State) (entry : Nat) (l : List Nat), s.awake = true → s.flag 0 (F.PG_LOCK 0x13) = false → l =
    ([entry]).filter (s.unitPresent 4 0) → l ≠ [] → exec (.bstReqRadio entry) s = .next ((l.foldl (fun (z : State) u
    => z.requestTest 4 0 u) s).coordinate)) ∧
  (∀ (s : State) (l : List Nat), s.awake = true → s.flag 0 (F.PG_LOCK 0x13) = false → l = ([0]).filter (s.unitPresent
    5 0) → l ≠ [] → exec (.bstReqAnchor) s = .next ((l.foldl (fun (z : State) u => z.requestTest 5 0 u)
    s).coordinate)) ∧
  (∀ (s : State) (die mask : Nat), s.awake = true → s.flag 0 (F.PG_LOCK 0x13) = false → (maskSlices mask (s.sound
    die)).filter (s.unitPresent 1 die) = [] → exec (.bstReqSlice die mask) s = .next (s.err 0 0x13 0x0101)) ∧
  (∀ (s : State) (die : Nat), s.awake = true → s.flag 0 (F.PG_LOCK 0x13) = false → ([0]).filter (s.unitPresent 2 die)
    = [] → exec (.bstReqDie die) s = .next (s.err 0 0x13 0x0101)) ∧
  (∀ (s : State) (mask : Nat), s.awake = true → s.flag 0 (F.PG_LOCK 0x13) = false → ((List.range 8).filter
    mask.testBit).filter (s.unitPresent 3 0) = [] → exec (.bstReqSeam mask) s = .next (s.err 0 0x13 0x0101)) ∧
  (∀ (s : State) (entry : Nat), s.awake = true → s.flag 0 (F.PG_LOCK 0x13) = false → ([entry]).filter (s.unitPresent 4
    0) = [] → exec (.bstReqRadio entry) s = .next (s.err 0 0x13 0x0101)) ∧
  (∀ (s : State), s.awake = true → s.flag 0 (F.PG_LOCK 0x13) = false → exec (.bstReqAll) s = .next
    (s.requestAll.coordinate)) ∧
  (∀ (s : State), s.awake = true → s.get 0 F.BST_CFG_PERIOD ≠ 0 → s.power.phase = .none → exec (.bstPeriodic) s =
    .next (s.requestAll.coordinate)) ∧
  (∀ (s : State), (s.awake = false ∨ s.get 0 F.BST_CFG_PERIOD = 0 ∨ s.power.phase ≠ .none) → exec (.bstPeriodic) s =
    .next s) ∧
  (∀ (s : State) (kind die unit : Nat), s.testReady kind die unit = false → exec (.testStart kind die unit) s = .next
    s) ∧
  (∀ (s : State) (kind die unit : Nat) (classes : List Nat) (value : Int) (cw : Bool), (s.awake = false ∨ (s.testUnit
    (testKey kind die unit)).running = false ∨ classes.length ≠ testSteps kind) → exec (.testEnd kind die unit classes
    value cw) s = .next s) ∧
  (∀ (s : State) (kind die unit : Nat), s.testReady kind die unit = true → exec (.testStart kind die unit) s = .next
    (s.beginTest kind die unit)) ∧
  (∀ (s : State) (kind die unit : Nat) (classes : List Nat) (value : Int) (cw : Bool), s.awake = true → (s.testUnit
    (testKey kind die unit)).running = true → classes.length = testSteps kind → exec (.testEnd kind die unit classes
    value cw) s = .next ((s.endTest kind die unit classes value cw).coordinate)) ∧
  (∀ (s : State) (kind die unit : Nat), s.testReady kind die unit = true →
    ((s.beginTest kind die unit).testUnit (testKey kind die unit)).running = true ∧
    ((s.beginTest kind die unit).testUnit (testKey kind die unit)).requested = false ∧ (s.beginTest kind die unit).mem = s.mem)

/-- Swaps, the crossbar and the darning map. On the unlocked page in ACTIVE a swap of a port for a legal spare starts,
  and is refused with 0x0101 or, while one runs, 0x0103. A swap with its outgoing slice idle gives the port to the
  eligible spare it picks once that one is OFF and free; without one it tests the lowest untested spare that has not
  failed in it, one at a time, or leaves the port out. A slice made DARNED in the field returns to OFF, its test
  result none; another slice is refused. The map stands in the NV store when its write ends; NETFAULT of one of the
  eight ports is cleared, the slice that serves it being at its boundary when it rests. -/
def Obligations.Darning : Prop :=
  (∀ (s : State) (die port slice : Nat), s.awake = true → s.flag 0 (F.PG_LOCK 0x15) = false → s.fieldDie die = true →
    port < 8 → (slice = 15 ∨ slice < 10 ∧ s.eligible die slice = true) → s.swapping die port = false → exec
    (.drnSwapCmd die port slice) s = .next (s.startSwap die port slice)) ∧
  (∀ (s : State) (die port slice : Nat), s.awake = true → s.flag 0 (F.PG_LOCK 0x15) = false → s.fieldDie die = true →
    port < 8 → (slice = 15 ∨ slice < 10 ∧ s.eligible die slice = true) → s.swapping die port = true → exec
    (.drnSwapCmd die port slice) s = .next (s.err 0 0x15 0x0103)) ∧
  (∀ (s : State) (die port slice : Nat), s.awake = true → s.flag 0 (F.PG_LOCK 0x15) = false → (s.fieldDie die = false
    ∨ 8 ≤ port ∨ slice ≠ 15 ∧ (10 ≤ slice ∨ s.eligible die slice = false)) → exec (.drnSwapCmd die port slice) s =
    .next (s.err 0 0x15 0x0101)) ∧
  (∀ (s : State) (die slice : Nat) (u : State), s.awake = true → s.flag 0 (F.PG_LOCK 0x15) = false → s.fieldDie die =
    true → slice < 10 → (s.get die F.DDRN_SLICES_FACTORY).testBit slice = false → (s.get die
    F.DDRN_SLICES_DARNED).testBit slice = true → u = ((((s.setPage die (slcPage slice) 0).setFstate die slice
    0).setDarned die slice false).set die (F.PG_EN (slcPage slice)) 0).mapPending → exec (.drnUndarn die slice) s =
    .next ((u.setTest (testKey 1 die slice) { u.testUnit (testKey 1 die slice) with last := 15 }).set die ⟨0x10, 0x040
    + 4 * slice, 28, 4⟩ 15)) ∧
  (∀ (s : State) (die slice : Nat), s.awake = true → s.flag 0 (F.PG_LOCK 0x15) = false → s.fieldDie die = true → slice
    < 10 → (s.get die F.DDRN_SLICES_FACTORY).testBit slice = true → exec (.drnUndarn die slice) s = .next (s.err 0
    0x15 0x0102)) ∧
  (∀ (s : State) (die slice : Nat), s.awake = true → s.flag 0 (F.PG_LOCK 0x15) = false → s.fieldDie die = true → slice
    < 10 → (s.get die F.DDRN_SLICES_FACTORY).testBit slice = false → (s.get die F.DDRN_SLICES_DARNED).testBit slice =
    false → exec (.drnUndarn die slice) s = .next (s.err 0 0x15 0x0101)) ∧
  (∀ (s : State) (die slice : Nat), s.awake = true → s.flag 0 (F.PG_LOCK 0x15) = false → (s.fieldDie die = false ∨ 10
    ≤ slice) → exec (.drnUndarn die slice) s = .next (s.err 0 0x15 0x0101)) ∧
  (∀ (s : State) (die port : Nat) (w : Swap) (u : State) (x : Nat), s.awake = true → s.darn.swaps.find? (fun w =>
    w.die == die && w.port == port) = some w → u = s.clearFaulted w → u.outgoingIdle w = true → u.pickSpare w = some x
    → u.fstate w.die x = 0 → u.sliceGranted w.die x = false → exec (.darnSwapExecute die port) s = .next ((u.swapTo w
    x).coordinate)) ∧
  (∀ (s : State) (die port : Nat) (w : Swap) (u : State) (x : Nat), s.awake = true → s.darn.swaps.find? (fun w =>
    w.die == die && w.port == port) = some w → u = s.clearFaulted w → u.outgoingIdle w = true → u.pickSpare w = some x
    → (u.fstate w.die x ≠ 0 ∨ u.sliceGranted w.die x = true) → exec (.darnSwapExecute die port) s = .next u) ∧
  (∀ (s : State) (die port : Nat) (w : Swap) (u : State), s.awake = true → s.darn.swaps.find? (fun w => w.die == die
    && w.port == port) = some w → u = s.clearFaulted w → u.outgoingIdle w = true → u.pickSpare w = none →
    u.spareTested w.die = true → exec (.darnSwapExecute die port) s = .next u) ∧
  (∀ (s : State) (die port : Nat) (w : Swap) (u : State) (x : Nat), s.awake = true → s.darn.swaps.find? (fun w =>
    w.die == die && w.port == port) = some w → u = s.clearFaulted w → u.outgoingIdle w = true → u.pickSpare w = none →
    u.spareTested w.die = false → (List.range 10).find? (fun x => u.untested w.die x && !w.passed.contains x) = some x
    → exec (.darnSwapExecute die port) s = .next ((u.requestTest 1 w.die x).coordinate)) ∧
  (∀ (s : State) (die port : Nat) (w : Swap) (u : State), s.awake = true → s.darn.swaps.find? (fun w => w.die == die
    && w.port == port) = some w → u = s.clearFaulted w → u.outgoingIdle w = true → u.pickSpare w = none →
    u.spareTested w.die = false → (List.range 10).find? (fun x => u.untested w.die x && !w.passed.contains x) = none →
    exec (.darnSwapExecute die port) s = .next ((u.darnOut w).coordinate)) ∧
  (∀ (s : State) (die port : Nat) (w : Swap) (u : State), s.awake = true → s.darn.swaps.find? (fun w => w.die == die
    && w.port == port) = some w → u = s.clearFaulted w → u.outgoingIdle w = false → exec (.darnSwapExecute die port) s
    = .next u) ∧
  (∀ (s : State) (die port : Nat), (s.awake = false ∨ s.darn.swaps.find? (fun w => w.die == die && w.port == port) =
    none) → exec (.darnSwapExecute die port) s = .next s) ∧
  (∀ (s : State), (s.flag 0 F.DRN_STAT_NVPEND = false ∨ s.nvRuns .darnMap = false) → exec (.darnMapWritten) s = .next
    s) ∧
  (∀ (s : State) (die port : Nat), s.awake = true → s.flag die (F.PG_LOCK 0x11) = false → (s.inService die = false ∨ 8
    ≤ port) → exec (.netfaultClear die port) s = .next s) ∧
  (∀ (s : State) (a : List Nat) (b : List (Nat × Nat)), s.flag 0 F.DRN_STAT_NVPEND = true → s.nvRuns .darnMap = true →
    s.darnMap = (a, b) → exec (.darnMapWritten) s = .next
    ((({ s with nv := { s.nv with fieldDarn := a, fieldPorts := b } } : State).set 0 F.DRN_STAT_NVPEND
    0).nvPop.nvBetween)) ∧
  (∀ (s : State) (die port : Nat) (u : State) (sl : Nat), s.awake = true → s.flag die (F.PG_LOCK 0x11) = false →
    s.inService die = true → port < 8 → u = (s.set die (F.DDRN_P_NETFAULT port) 0).watchSyncDie die → u.servingSlice
    die port = some sl → exec (.netfaultClear die port) s = .next ((u.restSlice die sl).coordinate)) ∧
  (∀ (s : State) (die port : Nat) (u : State), s.awake = true → s.flag die (F.PG_LOCK 0x11) = false → s.inService die
    = true → port < 8 → u = (s.set die (F.DDRN_P_NETFAULT port) 0).watchSyncDie die → u.servingSlice die port = none →
    exec (.netfaultClear die port) s = .next (u.coordinate)) ∧
  (∀ (s : State) (w : Swap), (w.spare ≠ 15 → s.eligible w.die w.spare = true → s.pickSpare w = some w.spare) ∧
    (w.spare = 15 ∨ s.eligible w.die w.spare = false → s.pickSpare w = (List.range 10).find? (s.eligible w.die)))

/-- The NV store: erase, program, read, locks and the end of an operation. On the unlocked page in ACTIVE an erase of
  a slot that is not active is queued, of the active one refused with 0x0101; a word is queued for an erased place and
  the address advances, or is refused with its code; a lock with the key is queued unless it is done, torn or running,
  or its words are not legal. A read in ACTIVE gives the word, suspends a background operation and advances; a
  fetch-ahead reads 0. The oldest operation ends with its effect and DONE, or records 0x0106, the wear being kept, and
  a pending commit of the page takes effect; a save or map write, which has a command of its own, does not end by this
  one. -/
def Obligations.NvStore : Prop :=
  (∀ (s : State) (slot : Nat), s.awake = true → s.flag 0 (F.PG_LOCK 0x14) = false → s.activeSlot ≠ some (slot % 4) →
    exec (.nvsEraseSlot slot) s = .next (s.nvQueue (.eraseSlot (slot % 4)))) ∧
  (∀ (s : State) (slot : Nat), s.awake = true → s.flag 0 (F.PG_LOCK 0x14) = false → s.activeSlot = some (slot % 4) →
    exec (.nvsEraseSlot slot) s = .next (s.err 0 0x14 0x0101)) ∧
  (∀ (s : State) (value : Word) (sl o : Nat), s.awake = true → s.flag 0 (F.PG_LOCK 0x14) = false → sl = s.get 0
    F.NVS_ADDR_SLOT → o = s.get 0 F.NVS_ADDR_OFFSET / 4 → s.activeSlot ≠ some sl → s.programs < 64 → s.wordErased sl o
    = true → exec (.nvsWdataWrite value) s = .next ((s.nvQueue (.program sl o value)).set 0 F.NVS_ADDR_OFFSET
    ((s.nvQueue (.program sl o value)).get 0 F.NVS_ADDR_OFFSET + 4))) ∧
  (∀ (s : State) (value : Word) (sl o : Nat), s.awake = true → s.flag 0 (F.PG_LOCK 0x14) = false → sl = s.get 0
    F.NVS_ADDR_SLOT → o = s.get 0 F.NVS_ADDR_OFFSET / 4 → s.activeSlot = some sl → exec (.nvsWdataWrite value) s =
    .next (s.err 0 0x14 0x0101)) ∧
  (∀ (s : State) (value : Word) (sl o : Nat), s.awake = true → s.flag 0 (F.PG_LOCK 0x14) = false → sl = s.get 0
    F.NVS_ADDR_SLOT → o = s.get 0 F.NVS_ADDR_OFFSET / 4 → s.activeSlot ≠ some sl → 64 ≤ s.programs → exec
    (.nvsWdataWrite value) s = .next (s.err 0 0x14 0x0103)) ∧
  (∀ (s : State) (value : Word) (sl o : Nat), s.awake = true → s.flag 0 (F.PG_LOCK 0x14) = false → sl = s.get 0
    F.NVS_ADDR_SLOT → o = s.get 0 F.NVS_ADDR_OFFSET / 4 → s.activeSlot ≠ some sl → s.programs < 64 → s.wordErased sl o
    = false → exec (.nvsWdataWrite value) s = .next (s.err 0 0x14 0x0102)) ∧
  (∀ (s : State) (fetch : Bool), s.awake = true → fetch = true → exec (.nvsRdataRead fetch) s = .next (s.set 0
    F.NVS_RDATA_DATA 0)) ∧
  (∀ (s : State) (fetch : Bool) (w : Word), s.awake = true → fetch = false → w = s.nvRead (s.get 0 F.NVS_ADDR_SLOT)
    (s.get 0 F.NVS_ADDR_OFFSET / 4) → exec (.nvsRdataRead fetch) s = .next (((s.setReg 0 0x14 0x030
    w).nvForeground).nvAdvance)) ∧
  (∀ (s : State) (fetch : Bool), s.awake = false → exec (.nvsRdataRead fetch) s = .next s) ∧
  (∀ (s : State) (ok : Bool) (spares worn : Nat), s.nv.ops = [] → exec (.nvOpDone ok spares worn) s = .next s) ∧
  (∀ (s : State) (ok : Bool) (spares worn : Nat) (o : NvOp) (rest : List NvOp), s.nv.ops = o :: rest → o.apart = true
    → exec (.nvOpDone ok spares worn) s = .next s) ∧
  (∀ (s : State) (key : Nat), s.awake = true → s.flag 0 (F.PG_LOCK 0x14) = false → key % 256 = 0xA5 → s.nv.lockDone =
    false → s.nv.torn = false → s.nv.ops.any NvOp.isLock = false → lockOk s.stagedLock = true → exec (.nvsRegLock key)
    s = .next (s.nvQueue (.regLock s.stagedLock))) ∧
  (∀ (s : State) (key : Nat), s.awake = true → s.flag 0 (F.PG_LOCK 0x14) = false → key % 256 = 0xA5 → s.nv.lockDone =
    false → s.nv.torn = false → s.nv.ops.any NvOp.isLock = false → lockOk s.stagedLock = false → exec (.nvsRegLock
    key) s = .next (s.err 0 0x14 0x0104)) ∧
  (∀ (s : State) (key : Nat), s.awake = true → s.flag 0 (F.PG_LOCK 0x14) = false → key % 256 = 0xA5 → (s.nv.lockDone =
    true ∨ s.nv.torn = true ∨ s.nv.ops.any NvOp.isLock = true) → exec (.nvsRegLock key) s = .next (s.err 0 0x14
    0x0105)) ∧
  (∀ (s : State) (key : Nat), s.awake = true → s.flag 0 (F.PG_LOCK 0x14) = false → key % 256 ≠ 0xA5 → exec
    (.nvsRegLock key) s = .next (s.err 0 0x14 0x0107)) ∧
  (∀ (s : State) (key : Nat), s.awake = true → s.flag 0 (F.PG_LOCK 0x14) = false → key % 256 = 0xA5 → s.nv.debugLock =
    false → s.nv.ops.any NvOp.isDebug = false → exec (.nvsDebugLock key) s = .next (s.nvQueue .debugLock)) ∧
  (∀ (s : State) (key : Nat), s.awake = true → s.flag 0 (F.PG_LOCK 0x14) = false → key % 256 = 0xA5 → (s.nv.debugLock
    = true ∨ s.nv.ops.any NvOp.isDebug = true) → exec (.nvsDebugLock key) s = .next (s.err 0 0x14 0x0105)) ∧
  (∀ (s : State) (key : Nat), s.awake = true → s.flag 0 (F.PG_LOCK 0x14) = false → key % 256 ≠ 0xA5 → exec
    (.nvsDebugLock key) s = .next (s.err 0 0x14 0x0107)) ∧
  (∀ (s : State) (ok : Bool) (spares worn : Nat) (o : NvOp) (rest : List NvOp) (u v : State), s.nv.ops = o :: rest →
    o.apart = false → u = (({ s with nv := { s.nv with ops := rest } } : State).set 0 F.NVS_WEAR_SPARES spares).set 0
    F.NVS_WEAR_WORN (min 255 worn) → (v = (if spares % 256 < 8 ∧ (8 ≤ s.get 0 F.NVS_WEAR_SPARES ∨ s.get 0
    F.NVS_WEAR_SPARES = 0) then u.raise 0 0x14 2 else u)) → ok = true → exec (.nvOpDone ok spares worn) s = .next
    ((({ v with nv := v.nv.apply o } : State).raise 0 0x14 0).nvBetween)) ∧
  (∀ (s : State) (ok : Bool) (spares worn : Nat) (o : NvOp) (rest : List NvOp) (u v : State), s.nv.ops = o :: rest →
    o.apart = false → u = (({ s with nv := { s.nv with ops := rest } } : State).set 0 F.NVS_WEAR_SPARES spares).set 0
    F.NVS_WEAR_WORN (min 255 worn) → (v = (if spares % 256 < 8 ∧ (8 ≤ s.get 0 F.NVS_WEAR_SPARES ∨ s.get 0
    F.NVS_WEAR_SPARES = 0) then u.raise 0 0x14 2 else u)) → ok = false → exec (.nvOpDone ok spares worn) s = .next
    (((v.err 0 0x14 0x0106).raise 0 0x14 1).nvBetween)) ∧
  (∀ (s : State) (slot off : Nat) (w : Word), s.nvWord slot off = some w → s.nvRead slot off = w) ∧
  (∀ (s : State) (o : NvOp), s.nvQueue o = { s with nv := { s.nv with ops := s.nv.ops ++ [o] } } ∧
    s.nvAdvance = s.set 0 F.NVS_ADDR_OFFSET (s.get 0 F.NVS_ADDR_OFFSET + 4) ∧
    (s.nvBusy = true → s.nvForeground = s.countUp 0 F.NVS_WEAR_SUSPENDS F.NVS_WEAR_OVF 1) ∧
    (s.nvBusy = false → s.nvForeground = s))

/-- A run-time profile load. On the unlocked page in ACTIVE DEV_LOAD starts a load with its check, or is refused with
  code 7 during a load or a sleep entry. The check ends the load with its code, or starts the drain with candidates
  withdrawn, holds ended, lists stopped and the receiver in SYNTH_ON. Once drained, the image is staged on the pages
  that are not locked and its windows are written, or the load fails with its code; at the timeout it fails with
  0x0106. The commit takes every staged page in one instant, a late one being counted, and the load is over. Out of
  its phase none of these changes anything. -/
def Obligations.ProfileLoads : Prop :=
  (∀ (s : State) (slot : Nat) (u : State), s.awake = true → s.flag 0 (F.PG_LOCK 0x00) = false → s.load = none →
    s.power.phase = .none → u = ((s.set 0 F.DEV_PROFILE_LOADING 1).set 0 F.DEV_PROFILE_LAYOUT_KEPT 0).set 0
    F.DEV_PROFILE_LOCK_SKIPPED 0 → exec (.devLoad slot) s = .next
    ({ u.nvForeground with load := some { slot := slot % 4, phase := .check } })) ∧
  (∀ (s : State) (slot : Nat), s.awake = true → s.flag 0 (F.PG_LOCK 0x00) = false → (s.load ≠ none ∨ s.power.phase ≠
    .none) → exec (.devLoad slot) s = .next (s.err 0 0x00 7)) ∧
  (∀ (s : State) (l m : Load) (u v x y : State), s.load = some l → l.phase = .check → u =
    { s with coord := { s.coord with loading := true } } → v = (u.coord.cands.foldl (fun (z : State) c => z.withdraw
    c) u).endHolds none → x = (List.range 32).foldl (fun (z : State) n => if (z.pleList n).run.isSome then z.stopList
    n else z) v → x.radioToSynth { l with phase := .drain } = (y, m) → exec (.profileCheckEnd) s = .next
    (match s.checkImage l.slot with | .error e => s.loadFailed e | .ok _ => ({ y with load := some m } : State).sslUpdate.coordinate)) ∧
  (∀ (s : State), s.load = none → exec (.profileCheckEnd) s = .next s) ∧
  (∀ (s : State) (l : Load), s.load = some l → l.phase ≠ .check → exec (.profileCheckEnd) s = .next s) ∧
  (∀ (s : State), s.load = none → exec (.profileLoadTimeout) s = .next s) ∧
  (∀ (s : State) (l : Load), s.load = some l → (l.phase ≠ .drain ∨ s.drained = true) → exec (.profileLoadTimeout) s =
    .next s) ∧
  (∀ (s : State), s.load = none → exec (.profileDrainEnd) s = .next s) ∧
  (∀ (s : State) (l : Load), s.load = some l → (l.phase ≠ .drain ∨ s.drained = false) → exec (.profileDrainEnd) s =
    .next s) ∧
  (∀ (s : State) (late : Bool), s.load = none → exec (.profileCommit late) s = .next s) ∧
  (∀ (s : State) (late : Bool) (l : Load), s.load = some l → l.phase ≠ .staged → exec (.profileCommit late) s = .next
    s) ∧
  (∀ (s : State) (l : Load), s.load = some l → l.phase = .drain → s.drained = false → exec (.profileLoadTimeout) s =
    .next (s.loadFailed 0x0106)) ∧
  (∀ (s : State) (l m : Load) (u : State), s.load = some l → l.phase = .drain → s.drained = true → s.radioToSynth l =
    (u, m) → exec (.profileDrainEnd) s = .next
    (match u.checkImage m.slot with | .error e => u.loadFailed e | .ok q => u.stageLoad m q.1 q.2.2)) ∧
  (∀ (s : State) (late : Bool) (l : Load) (pages : List (Nat × Nat)) (id : Word) (u v : State), s.load = some l →
    l.phase = .staged → pages = (profilePages s.loadDies).filter (fun p => !s.flag p.1 (F.PG_LOCK p.2)) → id =
    (s.nvWord l.slot 2).getD 0 → u = (s.syncLate late).attnSync.commitStaged pages l.held → v = ((((u.set 0
    F.DEV_PROFILE_LASTRES 1).set 0 F.DEV_PROFILE_ACTIVE l.slot).set 0 F.DEV_PROFILE_NONE 0).set 0
    F.DEV_PROFILE_FALLBACK 0).setReg 0 0x00 0x02C id → exec (.profileCommit late) s = .next ((((((v.raise 0 0x00
    0).loadCal []).refreshAll).allDue.resume true).radioBack l.radio).attnSync)) ∧
  (∀ (s v t u : State) (l : Load) (h : Word) (ws held : List (Nat × Word)) (all pages : List (Nat × Nat)) (lay : Nat),
    all = profilePages s.loadDies → pages = all.filter (fun p => !s.flag p.1 (F.PG_LOCK p.2)) → lay = hostAddr 0 0x08 0x020 →
    v = (s.set 0 F.DEV_PROFILE_LOCK_SKIPPED
        (b2n (all.any (fun p => s.flag p.1 (F.PG_LOCK p.2) && ws.any (fun e => onPage p.1 p.2 e.1))))).set 0
      F.DEV_PROFILE_LAYOUT_KEPT (b2n ((Store.find? ws lay).isSome && Store.get ws lay 0 != s.reg 0 0x08 0x020)) →
    v.stageImage pages keptAtRun ws = (t, held) → u = t.writeWindows ws →
    s.stageLoad l h ws = if u.pagesOk pages = false then v.loadFailed 0x0105
      else
        { pages.foldl (fun (t : State) p => t.set p.1 (F.PG_COMMIT_PEND p.2) 1)
            (if bit h 1 = true then
              (if pages.contains (0, 0x0B) = true then u.setVariables ws else u).imageTable ws
             else if pages.contains (0, 0x0B) = true then u.setVariables ws else u) with
          load := some { l with phase := .staged, held := held } })

/-- A step runs the command at the front of the queue. With command c at the front of the queue, a step is exec of c
  on the state with the rest of the queue. -/
def Obligations.StepRunsFrontCommand : Prop :=
  ∀ (c : Instr) (s : State) (rest : List Instr), s.pending = c :: rest → step s = exec c { s with pending := rest }

/-- On an empty queue the clock of the device ticks (model choice, assumption log entry 3). The model lets a step on
  an empty queue be one tick of the clock that runs (its own choice, log entry 3). In ACTIVE device time counts one
  tick and wraps at 64 bits; in DEEP_SLEEP, WATCH and until re-alignment it takes the increment of a 32 kHz period and
  the fraction is carried; in OFF and RESET it stands. Nothing else changes. -/
def Obligations.EmptyQueueTick : Prop :=
  ∀ s : State, s.pending = [] →
    (s.device = .active ∧ s.tb.align = false → step s = .next { s with time := (s.time + 1) % 2 ^ 64 }) ∧
    (s.device = .off ∨ s.device = .reset → step s = .next s) ∧
    (s.device = .deepSleep ∨ s.device = .watch ∨ s.device = .active ∧ s.tb.align = true →
      step s = .next { s with
        time := (s.time + (s.tb.inc + s.tb.frac) / 2 ^ 32) % 2 ^ 64,
        tb := { s.tb with frac := (s.tb.inc + s.tb.frac) % 2 ^ 32 } })

/-- Every command answers a next state, in every state and with every operand, and what that state keeps. No command
  of the table stops the block: for every command, operand and state exec answers a next state, which has the part and
  the queue of the one before, EPOCH as it was unless the command resets the device, and the bytes of the memory
  windows as they were unless mayStore names the command; and every step answers a next state. -/
def Obligations.EveryCommandAnswers : Prop :=
  ∀ (c : Instr) (s : State), (∃ t : State, exec c s = .next t ∧ t.part = s.part ∧ t.pending = s.pending ∧
    (mayReset c = false → t.epoch = s.epoch) ∧ (mayStore c = false → t.mem = s.mem)) ∧ ∃ t : State, step s = .next t

/-- The state right after reset (values the manual leaves open: log entries 5 to 8). After reset the device is in
  RESET and not READY with EPOCH 1, time 0 and every register at the reset value of its table, the reset increment of
  the 32 kHz timebase among them; every hamper class has its whole region free; no field, exchange, candidate, run,
  ticket or record exists. The part, what unwritten memory reads, and the contents of the NV store are the choices of
  log entries 5 to 8. The stores are in canonical form. -/
def Obligations.ResetState : Prop :=
  State.reset.device = .reset ∧ State.reset.ready = false ∧ State.reset.epoch = true ∧ State.reset.time = 0 ∧
    (∀ d p o, State.reset.reg d p o = resetAt (hostAddr d p o)) ∧
    State.reset.get 0 F.TBS_INC_INT_INT = 827 ∧ State.reset.get 0 F.TBS_INC_FRAC_FRAC = 0xA3000000 ∧
    (∀ a, Memory.readByte State.reset.mem a = 0) ∧ State.reset.canonical = true ∧
    (State.reset.cls 0).free = 16384 ∧ (State.reset.cls 1).free = 32768 ∧ (State.reset.cls 2).free = 8192 ∧
    (State.reset.cls 3).free = 8192 ∧
    (State.reset.cls 0).free = 2 ^ State.reset.get 0 F.HMP_LAYOUT_K0 ∧ (State.reset.cls 1).free = 2 ^ State.reset.get 0 F.HMP_LAYOUT_K1 ∧
    (State.reset.cls 2).free = 2 ^ State.reset.get 0 F.HMP_LAYOUT_K2 ∧ (State.reset.cls 3).free = 2 ^ State.reset.get 0 F.HMP_LAYOUT_K3 ∧
    State.reset.exchs = [] ∧ State.reset.coord = {} ∧ State.reset.tickets = [] ∧ State.reset.pending = []

/-- The window memory keeps its canonical form over every step. If the bytes of the memory windows are listed with
  addresses strictly rising and no entry that reads as an unwritten byte, they are so after every step: equal memories
  are equal data. -/
def Obligations.MemoryStaysCanonical : Prop :=
  ∀ s t : State, Memory.wf s.mem = true → step s = .next t → Memory.wf t.mem = true

/-- No command changes the part or the queue, and a step takes its front only. exec leaves the part and the queue as
  they are; after a step the queue is its old rest and the part is the same. -/
def Obligations.PartAndQueueStay : Prop :=
  (∀ (c : Instr) (s t : State), exec c s = .next t → t.part = s.part ∧ t.pending = s.pending) ∧
  (∀ s t : State, step s = .next t → t.part = s.part ∧ t.pending = s.pending.tail)

/-- The one-time block only closes: LOCKED, its words and the debug lock last over every step and reset. Once the
  regulatory lock block is locked, it stays locked with the same words over every step, resets and losses of VSUP
  among them, unless a REG_LOCK operation is at the head of the NV queue and completes; the debug lock stays set. -/
def Obligations.LockBlockLasts : Prop :=
  ∀ s t : State, step s = .next t →
    (s.nv.lockDone = true → t.nv.lockDone = true) ∧ (s.nv.debugLock = true → t.nv.debugLock = true) ∧
    ((∀ ws rest, s.nv.ops ≠ .regLock ws :: rest) → t.nv.lockWords = s.nv.lockWords ∧ t.nv.lockDone = s.nv.lockDone)

/-- EPOCH changes at a reset and nowhere else. A command that is no reset leaves EPOCH; NRST, the internal resets and
  a complete SOFT_RESET toggle it; after a loss of VSUP it reads 0, and the power-on reset sets it to 1. A refused
  SOFT_RESET leaves it. -/
def Obligations.EpochOnlyByReset : Prop :=
  ∀ (c : Instr) (s t : State), exec c s = .next t → t.epoch = s.epoch ∨
    ((∃ torn, c = .vsupLoss torn) ∧ t.epoch = false) ∨ ((∃ b, c = .powerOn b) ∧ s.device = .off ∧ t.epoch = true) ∨
    ((c = .nrstLow ∨ c = .vsupDip ∨ c = .coreRailReset ∨ ∃ k0 k1 m n, c = .softReset k0 k1 m n ∧ n = 24 ∧ k0 = 0xA5 ∧ k1 = 0x5A) ∧
      t.epoch = !s.epoch ∧ t.device = .reset)

/-- The device states move only as the table of transitions says, and READY stands in ACTIVE only. Whatever the
  command, the device state stays, or moves OFF to RESET at power-on, RESET to ACTIVE at the end of the reset, from
  any but OFF to RESET by NRST, a complete SOFT_RESET or an internal reset, to OFF when VSUP is lost, to DEEP_SLEEP or
  WATCH at the commit of an entry, and from sleep to ACTIVE when a wake completes. READY implies ACTIVE over every
  command. -/
def Obligations.DeviceStatesMove : Prop :=
  (∀ (c : Instr) (s t : State), exec c s = .next t → t.device = s.device ∨
    ((∃ b, c = .powerOn b) ∧ s.device = .off ∧ t.device = .reset) ∨
    ((∃ p a, c = .resetEnd p a) ∧ s.device = .reset ∧ t.device = .active) ∨
    (mayReset c = true ∧ (∀ b, c ≠ .powerOn b) ∧ s.device ≠ .off ∧ t.device = .reset) ∨
    ((∃ torn, c = .vsupLoss torn) ∧ t.device = .off) ∨
    (c = .sleepCommit ∧ s.power.phase = .prepare ∧ (t.device = .deepSleep ∨ t.device = .watch)) ∨
    ((∃ g, c = .wakeComplete g) ∧ (s.device = .deepSleep ∨ s.device = .watch) ∧ t.device = .active)) ∧
  (∀ (c : Instr) (s t : State), (s.ready = true → s.device = .active) → exec c s = .next t → t.ready = true → t.device = .active)

/-- Commands that store nothing leave every byte of the memory windows. Every command outside the 33 that mayStore
  names (port, seam and list writes, receptions and their ends, seam failures and ends of tests that cut exchanges
  short, resets, profile loads and failed banks) leaves every byte of every window, and so does a tick. -/
def Obligations.MemoryFrame : Prop :=
  (∀ (c : Instr) (s t : State), mayStore c = false → exec c s = .next t → ∀ a, Memory.readByte t.mem a = Memory.readByte s.mem a) ∧
  (∀ s : State, s.tick.mem = s.mem)

/-- What the commands that store leave: bytes outside the word written, the buffer filled or the windows of the dies.
  A window write leaves every byte outside its word, a register write (but of FCO_ABORT, which ends exchanges) every
  byte, a tagged write over a seam every byte outside its word at the die, a reception of the radio every byte outside
  its buffer from the two header bytes on, and the ends of exchanges every byte of the anchor windows. -/
def Obligations.StoredBytes : Prop :=
  (∀ (s t : State) (addr : Nat) (value : Word), addrDie addr ≠ 15 → exec (.windowWrite addr value) s = .next t →
    ∀ a, a < addr % 2 ^ 24 ∨ addr % 2 ^ 24 + 4 ≤ a → Memory.readByte t.mem a = Memory.readByte s.mem a) ∧
  (∀ (s t : State) (addr : Nat) (value : Word), addr % 2 ^ 24 ≠ 0x0A048 → exec (.registerWrite addr value) s = .next t →
    ∀ a, Memory.readByte t.mem a = Memory.readByte s.mem a) ∧
  (∀ (s t : State) (die tag : Nat) (write : Bool) (offset : Nat) (data : Word),
    exec (.seamRegisterAccess die tag write offset data) s = .next t →
    ∀ a, a < hostAddr die (addrPage offset) (addrOff offset / 4 * 4) ∨ hostAddr die (addrPage offset) (addrOff offset / 4 * 4) + 4 ≤ a →
      Memory.readByte t.mem a = Memory.readByte s.mem a) ∧
  (∀ (s t : State) (payload : List Byte), exec (.rxPayloadEnd payload) s = .next t →
    ∀ a, a < hostAddr 0 0xB9 0 ∨ hostAddr 0 0xB9 0 + payload.length + 2 ≤ a → Memory.readByte t.mem a = Memory.readByte s.mem a) ∧
  (∀ (c : Instr) (s t : State), (∀ e ∈ s.exchs, 16 ≤ e.1) → 
    ((∃ v, c = .fcoAbort v) ∨ (∃ l, c = .thermalSample l) ∨ (∃ v, c = .vsupWindowEnd v) ∨ (∃ d sl, c = .guardEnd d sl) ∨
      (∃ d sl, c = .overcurrent d sl) ∨ (∃ d sl b, c = .sliceStartCheck d sl b) ∨ (∃ d, c = .dieSeamSilence d) ∨
      (∃ d, c = .dieAnchorSilence d) ∨ (∃ d, c = .carrierUnlock d) ∨ (∃ m cw b, c = .seamBadCrc m cw b) ∨
      (∃ m cw, c = .seamWatchdog m cw) ∨ (∃ k d u cl v cw, c = .testEnd k d u cl v cw)) →
    exec c s = .next t → ∀ a, a < hostAddr 1 0 0 → Memory.readByte t.mem a = Memory.readByte s.mem a)

/-- Commands with few pages leave every register of every other page. For the commands that ownPages names (radio,
  receiver, serial, poll, record, ticket, NV, supply, timebase, interrupt, seam and calibration commands), every
  register outside the pages it gives keeps its word: special registers, status, events and errors of every other
  page, of the anchor and of the field dies. -/
def Obligations.RegisterFrame : Prop :=
  ∀ (c : Instr) (s t : State) (pages : List Nat), ownPages c = some pages → exec c s = .next t → s.sameOutside t pages

/-- An event counter stays at its maximum and sets its overflow flag (the flag at the maximum is the reading of log
  entry 9). A counter that takes n events reads the sum or its maximum; its flag reads 1 when the sum reaches the
  maximum, and otherwise keeps its value; every field elsewhere keeps its value. That the flag is set when the maximum
  is reached is the model reading of the assumption log. -/
def Obligations.CounterSaturates : Prop :=
  ∀ (s : State) (d : Nat) (cnt ovf : Fld) (n : Nat), cnt.lo + cnt.width ≤ 32 → ovf.width = 1 → ovf.lo < 32 →
    (hostAddr d ovf.page ovf.off ≠ hostAddr d cnt.page cnt.off ∨
      ovf.page = cnt.page ∧ ovf.off = cnt.off ∧ (ovf.lo < cnt.lo ∨ cnt.lo + cnt.width ≤ ovf.lo)) →
    (s.countUp d cnt ovf n).get d cnt = min (2 ^ cnt.width - 1) (s.get d cnt + n) ∧
    (s.countUp d cnt ovf n).flag d ovf = (decide (2 ^ cnt.width - 1 ≤ s.get d cnt + n) || s.flag d ovf) ∧
    ∀ d' p o, hostAddr d' p o ≠ hostAddr d cnt.page cnt.off → hostAddr d' p o ≠ hostAddr d ovf.page ovf.off →
      (s.countUp d cnt ovf n).reg d' p o = s.reg d' p o

/-- While LOCK is 1 every write to the page is discarded and records WRITE_LOCKED, but for PG_EVT and PG_EVT_EN. On a
  page with LOCK 1, every register write but those of PG_EVT and PG_EVT_EN, every host command that writes the page,
  and each of the five writes of PG_CTRL only records WRITE_LOCKED: the state is that of the error record, which
  leaves PG_CTRL as it was and, as the first error, gives CODE 1. Writes of PG_EVT and PG_EVT_EN take effect. -/
def Obligations.LockedPageWrites : Prop :=
  (∀ (s : State) (d p o : Nat) (v : Word), s.flag d (F.PG_LOCK p) = true → o ≠ 0x00C → o ≠ 0x010 →
    s.regWrite d p o v = (s.err d p 1, 0)) ∧
  (∀ (s : State) (d p : Nat) (f : State → State), s.awake = true → s.flag d (F.PG_LOCK p) = true → s.hostWrite d p f = s.err d p 1) ∧
  (∀ (s : State) (d p : Nat) (c : Instr), s.awake = true → RegTable.implemented d p = true → (d = 0 ∨ s.inService d = true ∧ 1 ≤ s.pstate d) → s.flag d (F.PG_LOCK p) = true →
    ((∃ v, c = .pgCtrlEn d p v) ∨ (∃ v, c = .pgCtrlDrain d p v) ∨ c = .pgCtrlCommit d p ∨ c = .pgCtrlTest d p ∨ c = .pgCtrlLock d p) →
    exec c s = .next (s.err d p 1)) ∧
  (∀ (s : State) (d p : Nat), (s.err d p 1).reg d p 0x004 = s.reg d p 0x004 ∧ (s.get d (F.PG_ERR_COUNT p) = 0 → (s.err d p 1).get d (F.PG_ERR_CODE p) = 1) ∧
    (s.err d p 1).get d (F.PG_ERR_COUNT p) = min 32767 (s.get d (F.PG_ERR_COUNT p) + 1)) ∧
  (∀ (s : State) (d p : Nat) (v : Word), s.awake = true → RegTable.implemented d p = true → (d = 0 ∨ s.inService d = true ∧ 1 ≤ s.pstate d) → d ≤ 7 → p < 256 → s.flag d (F.PG_LOCK p) = true →
    (s.regWrite d p 0x010 v).1.reg d p 0x010 = v &&& writableMask d p 0x010 ∧
    (s.regWrite d p 0x00C v).1.reg d p 0x00C = s.reg d p 0x00C &&& ~~~ v)

/-- PG_EVT holds the raw events, cleared by writing 1, and the source is requested while an enabled one is set. An
  event raised on a page whose clock runs sets its bit, whether or not it is enabled; a write of PG_EVT clears the
  bits written 1, but for those raised in its cycle, and leaves the others; the level of the interrupt source of the
  page is 1 exactly while a bit of PG_EVT AND PG_EVT_EN is 1. -/
def Obligations.EventsAndTheSource : Prop :=
  (∀ (s : State) (d p e : Nat), s.latched d p = false → e < 32 → bit ((s.raise d p e).reg d p 0x00C) e = true) ∧
  (∀ (s : State) (d p : Nat) (v raised : Word), s.awake = true → RegTable.implemented d p = true → (d = 0 ∨ s.inService d = true ∧ 1 ≤ s.pstate d) → d ≤ 7 → p < 256 →
    ∃ t : State, exec (.pgEvtClear d p v raised) s = .next t ∧ t.reg d p 0x00C = s.reg d p 0x00C &&& ~~~ (v &&& ~~~ raised)) ∧
  (∀ (s : State) (d p : Nat), (d = 0 ∧ p ≤ 22) ∨ (1 ≤ d ∧ d ≤ 7 ∧ p ≤ 18) →
    (s.originLevel (pageSource d p) = true ↔ ∃ i, i < 32 ∧ bit (s.reg d p 0x00C) i = true ∧ bit (s.reg d p 0x010) i = true))

/-- PG_FIRSTERR keeps the first code and counts every error until it is cleared. An error after a clear gives CODE;
  every error adds 1 to COUNT, at the maximum OVF; a later code is not kept; a write of any value to an unlocked
  PG_FIRSTERR clears CODE, COUNT and OVF; an error recorded after it, or in its cycle, is the new first error. -/
def Obligations.FirstErrorRecord : Prop :=
  (∀ (s : State) (d p c : Nat), (s.err d p c).get d (F.PG_ERR_CODE p) = (if s.get d (F.PG_ERR_COUNT p) = 0 then c % 65536 else s.get d (F.PG_ERR_CODE p)) ∧
    (s.err d p c).get d (F.PG_ERR_COUNT p) = min 32767 (s.get d (F.PG_ERR_COUNT p) + 1) ∧
    ∀ d' p' o, hostAddr d' p' o ≠ hostAddr d p 0x014 → (s.err d p c).reg d' p' o = s.reg d' p' o) ∧
  (∀ (s : State) (d p c : Nat) (v : Word), s.awake = true → RegTable.implemented d p = true → (d = 0 ∨ s.inService d = true ∧ 1 ≤ s.pstate d) → s.flag d (F.PG_LOCK p) = false →
    (∃ t : State, exec (.pgFirsterrClear d p v none) s = .next t ∧ t.reg d p 0x014 = 0 ∧
      (t.err d p c).get d (F.PG_ERR_CODE p) = c % 65536 ∧ (t.err d p c).get d (F.PG_ERR_COUNT p) = 1 ∧
      (t.err d p c).flag d (F.PG_ERR_OVF p) = false) ∧
    (∃ t : State, exec (.pgFirsterrClear d p v (some c)) s = .next t ∧ t.get d (F.PG_ERR_CODE p) = c % 65536 ∧
      t.get d (F.PG_ERR_COUNT p) = 1 ∧ t.flag d (F.PG_ERR_OVF p) = false))

/-- Triggers of a poll list that runs, waits with one, is disabled or faulted. A trigger of a running list is latched
  with its instant and argument; a second one is counted in MISSED, with its instant (R516), and raises MISSED; of a
  list that is not enabled it has no effect; of a FAULTED list it is counted as missed. When END ends the run, the
  pending trigger starts the next at once: its start, with the instant as T and the argument. -/
def Obligations.PollTriggersLatched : Prop :=
  (∀ (s : State) (n instant m : Nat) (arg : Word), s.pageOn 0 0x0B = true →
    m = (if (s.pleList n).missed.1 = s.time then (s.pleList n).missed.2 + 1 else 1) →
    (s.listOn n = true → (s.pleList n).faulted = false → (s.pleList n).run.isSome = true → (s.pleList n).pend = none →
      s.pleTrigger n instant arg = s.setList n { s.pleList n with pend := some (instant, arg) }) ∧
    (s.listOn n = true → (s.pleList n).faulted = false → (s.pleList n).run.isSome = true → (s.pleList n).pend.isSome = true →
      s.pleTrigger n instant arg = ((s.setList n { s.pleList n with missed := (s.time, m) }).countUp 0 (F.PLE_L_STAT_MISSED n) (F.PLE_L_STAT_OVF n) 1).raise 0 0x0B 1) ∧
    (s.listOn n = false → s.pleTrigger n instant arg = s) ∧
    (s.listOn n = true → (s.pleList n).faulted = true →
      s.pleTrigger n instant arg = ((s.setList n { s.pleList n with missed := (s.time, m) }).countUp 0 (F.PLE_L_STAT_MISSED n) (F.PLE_L_STAT_OVF n) 1).raise 0 0x0B 1)) ∧
  (∀ (s : State) (n instant : Nat) (arg : Word), n < 32 → s.awake = true → s.coord.loading = false → (s.pleList n).run = none →
    (s.pleList n).pend = some (instant, arg) →
    ((s.pleNext n).pleList n).pend = none ∧
    ((s.pleNext n).pleList n).run = some
      { prio := s.get 0 (F.PLE_L_CFG_PRIO n), start := s.get 0 (F.PLE_L_CFG_START n), last := s.get 0 (F.PLE_L_CFG_LAST n),
        pc := s.get 0 (F.PLE_L_CFG_START n), flags := 0, steps := 0, time := instant, wait := .none } ∧
    (s.pleNext n).get 0 (F.PLE_ARG_ARG n) = arg.toNat) ∧
  (∀ (s z u : State) (n : Nat) (r : PleRun), (s.pleList n).run = some r → s.pleEngine = true → opOf (s.progWord r.pc) = 0 →
    s.pleSelected = some n → r.wait = .none →
    u = { s with ple := { s.ple with last := Store.insert (Store.erase s.ple.last r.prio) r.prio n, wrote := [] } } →
    z = u.setList n { u.pleList n with run := none } →
    exec (.pleEnd n) s = .next (((z.pleNext n).listTrigger n z.time).coordinate))
end

