-- ==== Sys2Proof/Laws/State.lean ====
section
/-! SUPPORT. One lemma per field for each named update of State: what the update leaves alone. The proofs unfold the one
update and close by reflexivity at once, which the kernel checks without comparing the values of the changed fields. -/

namespace Sys2Proof.Machine

@[simp] theorem State.setCalSet_part (s : State) (k : Nat) (c : CalSet) :
    (State.setCalSet s k c).part = s.part := by unfold State.setCalSet; exact Eq.refl _

@[simp] theorem State.setCalSet_device (s : State) (k : Nat) (c : CalSet) :
    (State.setCalSet s k c).device = s.device := by unfold State.setCalSet; exact Eq.refl _

@[simp] theorem State.setCalSet_ready (s : State) (k : Nat) (c : CalSet) :
    (State.setCalSet s k c).ready = s.ready := by unfold State.setCalSet; exact Eq.refl _

@[simp] theorem State.setCalSet_rail33 (s : State) (k : Nat) (c : CalSet) :
    (State.setCalSet s k c).rail33 = s.rail33 := by unfold State.setCalSet; exact Eq.refl _

@[simp] theorem State.setCalSet_epoch (s : State) (k : Nat) (c : CalSet) :
    (State.setCalSet s k c).epoch = s.epoch := by unfold State.setCalSet; exact Eq.refl _

@[simp] theorem State.setCalSet_time (s : State) (k : Nat) (c : CalSet) :
    (State.setCalSet s k c).time = s.time := by unfold State.setCalSet; exact Eq.refl _

@[simp] theorem State.setCalSet_regs (s : State) (k : Nat) (c : CalSet) :
    (State.setCalSet s k c).regs = s.regs := by unfold State.setCalSet; exact Eq.refl _

@[simp] theorem State.setCalSet_shadow (s : State) (k : Nat) (c : CalSet) :
    (State.setCalSet s k c).shadow = s.shadow := by unfold State.setCalSet; exact Eq.refl _

@[simp] theorem State.setCalSet_holds (s : State) (k : Nat) (c : CalSet) :
    (State.setCalSet s k c).holds = s.holds := by unfold State.setCalSet; exact Eq.refl _

@[simp] theorem State.setCalSet_mem (s : State) (k : Nat) (c : CalSet) :
    (State.setCalSet s k c).mem = s.mem := by unfold State.setCalSet; exact Eq.refl _

@[simp] theorem State.setCalSet_tb (s : State) (k : Nat) (c : CalSet) :
    (State.setCalSet s k c).tb = s.tb := by unfold State.setCalSet; exact Eq.refl _

@[simp] theorem State.setCalSet_seams (s : State) (k : Nat) (c : CalSet) :
    (State.setCalSet s k c).seams = s.seams := by unfold State.setCalSet; exact Eq.refl _

@[simp] theorem State.setCalSet_dieX (s : State) (k : Nat) (c : CalSet) :
    (State.setCalSet s k c).dieX = s.dieX := by unfold State.setCalSet; exact Eq.refl _

@[simp] theorem State.setCalSet_slices (s : State) (k : Nat) (c : CalSet) :
    (State.setCalSet s k c).slices = s.slices := by unfold State.setCalSet; exact Eq.refl _

@[simp] theorem State.setCalSet_exchs (s : State) (k : Nat) (c : CalSet) :
    (State.setCalSet s k c).exchs = s.exchs := by unfold State.setCalSet; exact Eq.refl _

@[simp] theorem State.setCalSet_fieldHolds (s : State) (k : Nat) (c : CalSet) :
    (State.setCalSet s k c).fieldHolds = s.fieldHolds := by unfold State.setCalSet; exact Eq.refl _

@[simp] theorem State.setCalSet_watches (s : State) (k : Nat) (c : CalSet) :
    (State.setCalSet s k c).watches = s.watches := by unfold State.setCalSet; exact Eq.refl _

@[simp] theorem State.setCalSet_coord (s : State) (k : Nat) (c : CalSet) :
    (State.setCalSet s k c).coord = s.coord := by unfold State.setCalSet; exact Eq.refl _

@[simp] theorem State.setCalSet_classes (s : State) (k : Nat) (c : CalSet) :
    (State.setCalSet s k c).classes = s.classes := by unfold State.setCalSet; exact Eq.refl _

@[simp] theorem State.setCalSet_hamper (s : State) (k : Nat) (c : CalSet) :
    (State.setCalSet s k c).hamper = s.hamper := by unfold State.setCalSet; exact Eq.refl _

@[simp] theorem State.setCalSet_tickets (s : State) (k : Nat) (c : CalSet) :
    (State.setCalSet s k c).tickets = s.tickets := by unfold State.setCalSet; exact Eq.refl _

@[simp] theorem State.setCalSet_departs (s : State) (k : Nat) (c : CalSet) :
    (State.setCalSet s k c).departs = s.departs := by unfold State.setCalSet; exact Eq.refl _

@[simp] theorem State.setCalSet_lockBlock (s : State) (k : Nat) (c : CalSet) :
    (State.setCalSet s k c).lockBlock = s.lockBlock := by unfold State.setCalSet; exact Eq.refl _

@[simp] theorem State.setCalSet_recDone (s : State) (k : Nat) (c : CalSet) :
    (State.setCalSet s k c).recDone = s.recDone := by unfold State.setCalSet; exact Eq.refl _

@[simp] theorem State.setCalSet_cal (s : State) (k : Nat) (c : CalSet) :
    (State.setCalSet s k c).cal = s.cal := by unfold State.setCalSet; exact Eq.refl _

@[simp] theorem State.setCalSet_tests (s : State) (k : Nat) (c : CalSet) :
    (State.setCalSet s k c).tests = s.tests := by unfold State.setCalSet; exact Eq.refl _

@[simp] theorem State.setCalSet_darn (s : State) (k : Nat) (c : CalSet) :
    (State.setCalSet s k c).darn = s.darn := by unfold State.setCalSet; exact Eq.refl _

@[simp] theorem State.setCalSet_nv (s : State) (k : Nat) (c : CalSet) :
    (State.setCalSet s k c).nv = s.nv := by unfold State.setCalSet; exact Eq.refl _

@[simp] theorem State.setCalSet_icu (s : State) (k : Nat) (c : CalSet) :
    (State.setCalSet s k c).icu = s.icu := by unfold State.setCalSet; exact Eq.refl _

@[simp] theorem State.setCalSet_power (s : State) (k : Nat) (c : CalSet) :
    (State.setCalSet s k c).power = s.power := by unfold State.setCalSet; exact Eq.refl _

@[simp] theorem State.setCalSet_supply (s : State) (k : Nat) (c : CalSet) :
    (State.setCalSet s k c).supply = s.supply := by unfold State.setCalSet; exact Eq.refl _

@[simp] theorem State.setCalSet_radio (s : State) (k : Nat) (c : CalSet) :
    (State.setCalSet s k c).radio = s.radio := by unfold State.setCalSet; exact Eq.refl _

@[simp] theorem State.setCalSet_ple (s : State) (k : Nat) (c : CalSet) :
    (State.setCalSet s k c).ple = s.ple := by unfold State.setCalSet; exact Eq.refl _

@[simp] theorem State.setCalSet_ssc (s : State) (k : Nat) (c : CalSet) :
    (State.setCalSet s k c).ssc = s.ssc := by unfold State.setCalSet; exact Eq.refl _

@[simp] theorem State.setCalSet_ssl (s : State) (k : Nat) (c : CalSet) :
    (State.setCalSet s k c).ssl = s.ssl := by unfold State.setCalSet; exact Eq.refl _

@[simp] theorem State.setCalSet_saf (s : State) (k : Nat) (c : CalSet) :
    (State.setCalSet s k c).saf = s.saf := by unfold State.setCalSet; exact Eq.refl _

@[simp] theorem State.setCalSet_hsp (s : State) (k : Nat) (c : CalSet) :
    (State.setCalSet s k c).hsp = s.hsp := by unfold State.setCalSet; exact Eq.refl _

@[simp] theorem State.setCalSet_htw (s : State) (k : Nat) (c : CalSet) :
    (State.setCalSet s k c).htw = s.htw := by unfold State.setCalSet; exact Eq.refl _

@[simp] theorem State.setCalSet_load (s : State) (k : Nat) (c : CalSet) :
    (State.setCalSet s k c).load = s.load := by unfold State.setCalSet; exact Eq.refl _

@[simp] theorem State.setCalSet_testFrom (s : State) (k : Nat) (c : CalSet) :
    (State.setCalSet s k c).testFrom = s.testFrom := by unfold State.setCalSet; exact Eq.refl _

@[simp] theorem State.setCalSet_commitPorts (s : State) (k : Nat) (c : CalSet) :
    (State.setCalSet s k c).commitPorts = s.commitPorts := by unfold State.setCalSet; exact Eq.refl _

@[simp] theorem State.setCalSet_free (s : State) (k : Nat) (c : CalSet) :
    (State.setCalSet s k c).free = s.free := by unfold State.setCalSet; exact Eq.refl _

@[simp] theorem State.setCalSet_pending (s : State) (k : Nat) (c : CalSet) :
    (State.setCalSet s k c).pending = s.pending := by unfold State.setCalSet; exact Eq.refl _

@[simp] theorem State.setCand_part (s : State) (c : Cand) :
    (State.setCand s c).part = s.part := by unfold State.setCand; exact Eq.refl _

@[simp] theorem State.setCand_device (s : State) (c : Cand) :
    (State.setCand s c).device = s.device := by unfold State.setCand; exact Eq.refl _

@[simp] theorem State.setCand_ready (s : State) (c : Cand) :
    (State.setCand s c).ready = s.ready := by unfold State.setCand; exact Eq.refl _

@[simp] theorem State.setCand_rail33 (s : State) (c : Cand) :
    (State.setCand s c).rail33 = s.rail33 := by unfold State.setCand; exact Eq.refl _

@[simp] theorem State.setCand_epoch (s : State) (c : Cand) :
    (State.setCand s c).epoch = s.epoch := by unfold State.setCand; exact Eq.refl _

@[simp] theorem State.setCand_time (s : State) (c : Cand) :
    (State.setCand s c).time = s.time := by unfold State.setCand; exact Eq.refl _

@[simp] theorem State.setCand_regs (s : State) (c : Cand) :
    (State.setCand s c).regs = s.regs := by unfold State.setCand; exact Eq.refl _

@[simp] theorem State.setCand_shadow (s : State) (c : Cand) :
    (State.setCand s c).shadow = s.shadow := by unfold State.setCand; exact Eq.refl _

@[simp] theorem State.setCand_holds (s : State) (c : Cand) :
    (State.setCand s c).holds = s.holds := by unfold State.setCand; exact Eq.refl _

@[simp] theorem State.setCand_mem (s : State) (c : Cand) :
    (State.setCand s c).mem = s.mem := by unfold State.setCand; exact Eq.refl _

@[simp] theorem State.setCand_tb (s : State) (c : Cand) :
    (State.setCand s c).tb = s.tb := by unfold State.setCand; exact Eq.refl _

@[simp] theorem State.setCand_seams (s : State) (c : Cand) :
    (State.setCand s c).seams = s.seams := by unfold State.setCand; exact Eq.refl _

@[simp] theorem State.setCand_dieX (s : State) (c : Cand) :
    (State.setCand s c).dieX = s.dieX := by unfold State.setCand; exact Eq.refl _

@[simp] theorem State.setCand_slices (s : State) (c : Cand) :
    (State.setCand s c).slices = s.slices := by unfold State.setCand; exact Eq.refl _

@[simp] theorem State.setCand_exchs (s : State) (c : Cand) :
    (State.setCand s c).exchs = s.exchs := by unfold State.setCand; exact Eq.refl _

@[simp] theorem State.setCand_fieldHolds (s : State) (c : Cand) :
    (State.setCand s c).fieldHolds = s.fieldHolds := by unfold State.setCand; exact Eq.refl _

@[simp] theorem State.setCand_watches (s : State) (c : Cand) :
    (State.setCand s c).watches = s.watches := by unfold State.setCand; exact Eq.refl _

@[simp] theorem State.setCand_classes (s : State) (c : Cand) :
    (State.setCand s c).classes = s.classes := by unfold State.setCand; exact Eq.refl _

@[simp] theorem State.setCand_hamper (s : State) (c : Cand) :
    (State.setCand s c).hamper = s.hamper := by unfold State.setCand; exact Eq.refl _

@[simp] theorem State.setCand_tickets (s : State) (c : Cand) :
    (State.setCand s c).tickets = s.tickets := by unfold State.setCand; exact Eq.refl _

@[simp] theorem State.setCand_departs (s : State) (c : Cand) :
    (State.setCand s c).departs = s.departs := by unfold State.setCand; exact Eq.refl _

@[simp] theorem State.setCand_calSets (s : State) (c : Cand) :
    (State.setCand s c).calSets = s.calSets := by unfold State.setCand; exact Eq.refl _

@[simp] theorem State.setCand_lockBlock (s : State) (c : Cand) :
    (State.setCand s c).lockBlock = s.lockBlock := by unfold State.setCand; exact Eq.refl _

@[simp] theorem State.setCand_recDone (s : State) (c : Cand) :
    (State.setCand s c).recDone = s.recDone := by unfold State.setCand; exact Eq.refl _

@[simp] theorem State.setCand_cal (s : State) (c : Cand) :
    (State.setCand s c).cal = s.cal := by unfold State.setCand; exact Eq.refl _

@[simp] theorem State.setCand_tests (s : State) (c : Cand) :
    (State.setCand s c).tests = s.tests := by unfold State.setCand; exact Eq.refl _

@[simp] theorem State.setCand_darn (s : State) (c : Cand) :
    (State.setCand s c).darn = s.darn := by unfold State.setCand; exact Eq.refl _

@[simp] theorem State.setCand_nv (s : State) (c : Cand) :
    (State.setCand s c).nv = s.nv := by unfold State.setCand; exact Eq.refl _

@[simp] theorem State.setCand_icu (s : State) (c : Cand) :
    (State.setCand s c).icu = s.icu := by unfold State.setCand; exact Eq.refl _

@[simp] theorem State.setCand_power (s : State) (c : Cand) :
    (State.setCand s c).power = s.power := by unfold State.setCand; exact Eq.refl _

@[simp] theorem State.setCand_supply (s : State) (c : Cand) :
    (State.setCand s c).supply = s.supply := by unfold State.setCand; exact Eq.refl _

@[simp] theorem State.setCand_radio (s : State) (c : Cand) :
    (State.setCand s c).radio = s.radio := by unfold State.setCand; exact Eq.refl _

@[simp] theorem State.setCand_ple (s : State) (c : Cand) :
    (State.setCand s c).ple = s.ple := by unfold State.setCand; exact Eq.refl _

@[simp] theorem State.setCand_ssc (s : State) (c : Cand) :
    (State.setCand s c).ssc = s.ssc := by unfold State.setCand; exact Eq.refl _

@[simp] theorem State.setCand_ssl (s : State) (c : Cand) :
    (State.setCand s c).ssl = s.ssl := by unfold State.setCand; exact Eq.refl _

@[simp] theorem State.setCand_saf (s : State) (c : Cand) :
    (State.setCand s c).saf = s.saf := by unfold State.setCand; exact Eq.refl _

@[simp] theorem State.setCand_hsp (s : State) (c : Cand) :
    (State.setCand s c).hsp = s.hsp := by unfold State.setCand; exact Eq.refl _

@[simp] theorem State.setCand_htw (s : State) (c : Cand) :
    (State.setCand s c).htw = s.htw := by unfold State.setCand; exact Eq.refl _

@[simp] theorem State.setCand_load (s : State) (c : Cand) :
    (State.setCand s c).load = s.load := by unfold State.setCand; exact Eq.refl _

@[simp] theorem State.setCand_testFrom (s : State) (c : Cand) :
    (State.setCand s c).testFrom = s.testFrom := by unfold State.setCand; exact Eq.refl _

@[simp] theorem State.setCand_commitPorts (s : State) (c : Cand) :
    (State.setCand s c).commitPorts = s.commitPorts := by unfold State.setCand; exact Eq.refl _

@[simp] theorem State.setCand_free (s : State) (c : Cand) :
    (State.setCand s c).free = s.free := by unfold State.setCand; exact Eq.refl _

@[simp] theorem State.setCand_pending (s : State) (c : Cand) :
    (State.setCand s c).pending = s.pending := by unfold State.setCand; exact Eq.refl _

@[simp] theorem State.dropCand_part (s : State) (order : Nat) :
    (State.dropCand s order).part = s.part := by unfold State.dropCand; exact Eq.refl _

@[simp] theorem State.dropCand_device (s : State) (order : Nat) :
    (State.dropCand s order).device = s.device := by unfold State.dropCand; exact Eq.refl _

@[simp] theorem State.dropCand_ready (s : State) (order : Nat) :
    (State.dropCand s order).ready = s.ready := by unfold State.dropCand; exact Eq.refl _

@[simp] theorem State.dropCand_rail33 (s : State) (order : Nat) :
    (State.dropCand s order).rail33 = s.rail33 := by unfold State.dropCand; exact Eq.refl _

@[simp] theorem State.dropCand_epoch (s : State) (order : Nat) :
    (State.dropCand s order).epoch = s.epoch := by unfold State.dropCand; exact Eq.refl _

@[simp] theorem State.dropCand_time (s : State) (order : Nat) :
    (State.dropCand s order).time = s.time := by unfold State.dropCand; exact Eq.refl _

@[simp] theorem State.dropCand_regs (s : State) (order : Nat) :
    (State.dropCand s order).regs = s.regs := by unfold State.dropCand; exact Eq.refl _

@[simp] theorem State.dropCand_shadow (s : State) (order : Nat) :
    (State.dropCand s order).shadow = s.shadow := by unfold State.dropCand; exact Eq.refl _

@[simp] theorem State.dropCand_holds (s : State) (order : Nat) :
    (State.dropCand s order).holds = s.holds := by unfold State.dropCand; exact Eq.refl _

@[simp] theorem State.dropCand_mem (s : State) (order : Nat) :
    (State.dropCand s order).mem = s.mem := by unfold State.dropCand; exact Eq.refl _

@[simp] theorem State.dropCand_tb (s : State) (order : Nat) :
    (State.dropCand s order).tb = s.tb := by unfold State.dropCand; exact Eq.refl _

@[simp] theorem State.dropCand_seams (s : State) (order : Nat) :
    (State.dropCand s order).seams = s.seams := by unfold State.dropCand; exact Eq.refl _

@[simp] theorem State.dropCand_dieX (s : State) (order : Nat) :
    (State.dropCand s order).dieX = s.dieX := by unfold State.dropCand; exact Eq.refl _

@[simp] theorem State.dropCand_slices (s : State) (order : Nat) :
    (State.dropCand s order).slices = s.slices := by unfold State.dropCand; exact Eq.refl _

@[simp] theorem State.dropCand_exchs (s : State) (order : Nat) :
    (State.dropCand s order).exchs = s.exchs := by unfold State.dropCand; exact Eq.refl _

@[simp] theorem State.dropCand_fieldHolds (s : State) (order : Nat) :
    (State.dropCand s order).fieldHolds = s.fieldHolds := by unfold State.dropCand; exact Eq.refl _

@[simp] theorem State.dropCand_watches (s : State) (order : Nat) :
    (State.dropCand s order).watches = s.watches := by unfold State.dropCand; exact Eq.refl _

@[simp] theorem State.dropCand_classes (s : State) (order : Nat) :
    (State.dropCand s order).classes = s.classes := by unfold State.dropCand; exact Eq.refl _

@[simp] theorem State.dropCand_hamper (s : State) (order : Nat) :
    (State.dropCand s order).hamper = s.hamper := by unfold State.dropCand; exact Eq.refl _

@[simp] theorem State.dropCand_tickets (s : State) (order : Nat) :
    (State.dropCand s order).tickets = s.tickets := by unfold State.dropCand; exact Eq.refl _

@[simp] theorem State.dropCand_departs (s : State) (order : Nat) :
    (State.dropCand s order).departs = s.departs := by unfold State.dropCand; exact Eq.refl _

@[simp] theorem State.dropCand_calSets (s : State) (order : Nat) :
    (State.dropCand s order).calSets = s.calSets := by unfold State.dropCand; exact Eq.refl _

@[simp] theorem State.dropCand_lockBlock (s : State) (order : Nat) :
    (State.dropCand s order).lockBlock = s.lockBlock := by unfold State.dropCand; exact Eq.refl _

@[simp] theorem State.dropCand_recDone (s : State) (order : Nat) :
    (State.dropCand s order).recDone = s.recDone := by unfold State.dropCand; exact Eq.refl _

@[simp] theorem State.dropCand_cal (s : State) (order : Nat) :
    (State.dropCand s order).cal = s.cal := by unfold State.dropCand; exact Eq.refl _

@[simp] theorem State.dropCand_tests (s : State) (order : Nat) :
    (State.dropCand s order).tests = s.tests := by unfold State.dropCand; exact Eq.refl _

@[simp] theorem State.dropCand_darn (s : State) (order : Nat) :
    (State.dropCand s order).darn = s.darn := by unfold State.dropCand; exact Eq.refl _

@[simp] theorem State.dropCand_nv (s : State) (order : Nat) :
    (State.dropCand s order).nv = s.nv := by unfold State.dropCand; exact Eq.refl _

@[simp] theorem State.dropCand_icu (s : State) (order : Nat) :
    (State.dropCand s order).icu = s.icu := by unfold State.dropCand; exact Eq.refl _

@[simp] theorem State.dropCand_power (s : State) (order : Nat) :
    (State.dropCand s order).power = s.power := by unfold State.dropCand; exact Eq.refl _

@[simp] theorem State.dropCand_supply (s : State) (order : Nat) :
    (State.dropCand s order).supply = s.supply := by unfold State.dropCand; exact Eq.refl _

@[simp] theorem State.dropCand_radio (s : State) (order : Nat) :
    (State.dropCand s order).radio = s.radio := by unfold State.dropCand; exact Eq.refl _

@[simp] theorem State.dropCand_ple (s : State) (order : Nat) :
    (State.dropCand s order).ple = s.ple := by unfold State.dropCand; exact Eq.refl _

@[simp] theorem State.dropCand_ssc (s : State) (order : Nat) :
    (State.dropCand s order).ssc = s.ssc := by unfold State.dropCand; exact Eq.refl _

@[simp] theorem State.dropCand_ssl (s : State) (order : Nat) :
    (State.dropCand s order).ssl = s.ssl := by unfold State.dropCand; exact Eq.refl _

@[simp] theorem State.dropCand_saf (s : State) (order : Nat) :
    (State.dropCand s order).saf = s.saf := by unfold State.dropCand; exact Eq.refl _

@[simp] theorem State.dropCand_hsp (s : State) (order : Nat) :
    (State.dropCand s order).hsp = s.hsp := by unfold State.dropCand; exact Eq.refl _

@[simp] theorem State.dropCand_htw (s : State) (order : Nat) :
    (State.dropCand s order).htw = s.htw := by unfold State.dropCand; exact Eq.refl _

@[simp] theorem State.dropCand_load (s : State) (order : Nat) :
    (State.dropCand s order).load = s.load := by unfold State.dropCand; exact Eq.refl _

@[simp] theorem State.dropCand_testFrom (s : State) (order : Nat) :
    (State.dropCand s order).testFrom = s.testFrom := by unfold State.dropCand; exact Eq.refl _

@[simp] theorem State.dropCand_commitPorts (s : State) (order : Nat) :
    (State.dropCand s order).commitPorts = s.commitPorts := by unfold State.dropCand; exact Eq.refl _

@[simp] theorem State.dropCand_free (s : State) (order : Nat) :
    (State.dropCand s order).free = s.free := by unfold State.dropCand; exact Eq.refl _

@[simp] theorem State.dropCand_pending (s : State) (order : Nat) :
    (State.dropCand s order).pending = s.pending := by unfold State.dropCand; exact Eq.refl _

@[simp] theorem State.setRef_part (s : State) (plan i : Nat) (x : RefState) :
    (State.setRef s plan i x).part = s.part := by unfold State.setRef; exact Eq.refl _

@[simp] theorem State.setRef_device (s : State) (plan i : Nat) (x : RefState) :
    (State.setRef s plan i x).device = s.device := by unfold State.setRef; exact Eq.refl _

@[simp] theorem State.setRef_ready (s : State) (plan i : Nat) (x : RefState) :
    (State.setRef s plan i x).ready = s.ready := by unfold State.setRef; exact Eq.refl _

@[simp] theorem State.setRef_rail33 (s : State) (plan i : Nat) (x : RefState) :
    (State.setRef s plan i x).rail33 = s.rail33 := by unfold State.setRef; exact Eq.refl _

@[simp] theorem State.setRef_epoch (s : State) (plan i : Nat) (x : RefState) :
    (State.setRef s plan i x).epoch = s.epoch := by unfold State.setRef; exact Eq.refl _

@[simp] theorem State.setRef_time (s : State) (plan i : Nat) (x : RefState) :
    (State.setRef s plan i x).time = s.time := by unfold State.setRef; exact Eq.refl _

@[simp] theorem State.setRef_regs (s : State) (plan i : Nat) (x : RefState) :
    (State.setRef s plan i x).regs = s.regs := by unfold State.setRef; exact Eq.refl _

@[simp] theorem State.setRef_shadow (s : State) (plan i : Nat) (x : RefState) :
    (State.setRef s plan i x).shadow = s.shadow := by unfold State.setRef; exact Eq.refl _

@[simp] theorem State.setRef_holds (s : State) (plan i : Nat) (x : RefState) :
    (State.setRef s plan i x).holds = s.holds := by unfold State.setRef; exact Eq.refl _

@[simp] theorem State.setRef_mem (s : State) (plan i : Nat) (x : RefState) :
    (State.setRef s plan i x).mem = s.mem := by unfold State.setRef; exact Eq.refl _

@[simp] theorem State.setRef_tb (s : State) (plan i : Nat) (x : RefState) :
    (State.setRef s plan i x).tb = s.tb := by unfold State.setRef; exact Eq.refl _

@[simp] theorem State.setRef_seams (s : State) (plan i : Nat) (x : RefState) :
    (State.setRef s plan i x).seams = s.seams := by unfold State.setRef; exact Eq.refl _

@[simp] theorem State.setRef_dieX (s : State) (plan i : Nat) (x : RefState) :
    (State.setRef s plan i x).dieX = s.dieX := by unfold State.setRef; exact Eq.refl _

@[simp] theorem State.setRef_slices (s : State) (plan i : Nat) (x : RefState) :
    (State.setRef s plan i x).slices = s.slices := by unfold State.setRef; exact Eq.refl _

@[simp] theorem State.setRef_exchs (s : State) (plan i : Nat) (x : RefState) :
    (State.setRef s plan i x).exchs = s.exchs := by unfold State.setRef; exact Eq.refl _

@[simp] theorem State.setRef_fieldHolds (s : State) (plan i : Nat) (x : RefState) :
    (State.setRef s plan i x).fieldHolds = s.fieldHolds := by unfold State.setRef; exact Eq.refl _

@[simp] theorem State.setRef_watches (s : State) (plan i : Nat) (x : RefState) :
    (State.setRef s plan i x).watches = s.watches := by unfold State.setRef; exact Eq.refl _

@[simp] theorem State.setRef_classes (s : State) (plan i : Nat) (x : RefState) :
    (State.setRef s plan i x).classes = s.classes := by unfold State.setRef; exact Eq.refl _

@[simp] theorem State.setRef_hamper (s : State) (plan i : Nat) (x : RefState) :
    (State.setRef s plan i x).hamper = s.hamper := by unfold State.setRef; exact Eq.refl _

@[simp] theorem State.setRef_tickets (s : State) (plan i : Nat) (x : RefState) :
    (State.setRef s plan i x).tickets = s.tickets := by unfold State.setRef; exact Eq.refl _

@[simp] theorem State.setRef_departs (s : State) (plan i : Nat) (x : RefState) :
    (State.setRef s plan i x).departs = s.departs := by unfold State.setRef; exact Eq.refl _

@[simp] theorem State.setRef_calSets (s : State) (plan i : Nat) (x : RefState) :
    (State.setRef s plan i x).calSets = s.calSets := by unfold State.setRef; exact Eq.refl _

@[simp] theorem State.setRef_lockBlock (s : State) (plan i : Nat) (x : RefState) :
    (State.setRef s plan i x).lockBlock = s.lockBlock := by unfold State.setRef; exact Eq.refl _

@[simp] theorem State.setRef_recDone (s : State) (plan i : Nat) (x : RefState) :
    (State.setRef s plan i x).recDone = s.recDone := by unfold State.setRef; exact Eq.refl _

@[simp] theorem State.setRef_cal (s : State) (plan i : Nat) (x : RefState) :
    (State.setRef s plan i x).cal = s.cal := by unfold State.setRef; exact Eq.refl _

@[simp] theorem State.setRef_tests (s : State) (plan i : Nat) (x : RefState) :
    (State.setRef s plan i x).tests = s.tests := by unfold State.setRef; exact Eq.refl _

@[simp] theorem State.setRef_darn (s : State) (plan i : Nat) (x : RefState) :
    (State.setRef s plan i x).darn = s.darn := by unfold State.setRef; exact Eq.refl _

@[simp] theorem State.setRef_nv (s : State) (plan i : Nat) (x : RefState) :
    (State.setRef s plan i x).nv = s.nv := by unfold State.setRef; exact Eq.refl _

@[simp] theorem State.setRef_icu (s : State) (plan i : Nat) (x : RefState) :
    (State.setRef s plan i x).icu = s.icu := by unfold State.setRef; exact Eq.refl _

@[simp] theorem State.setRef_power (s : State) (plan i : Nat) (x : RefState) :
    (State.setRef s plan i x).power = s.power := by unfold State.setRef; exact Eq.refl _

@[simp] theorem State.setRef_supply (s : State) (plan i : Nat) (x : RefState) :
    (State.setRef s plan i x).supply = s.supply := by unfold State.setRef; exact Eq.refl _

@[simp] theorem State.setRef_radio (s : State) (plan i : Nat) (x : RefState) :
    (State.setRef s plan i x).radio = s.radio := by unfold State.setRef; exact Eq.refl _

@[simp] theorem State.setRef_ple (s : State) (plan i : Nat) (x : RefState) :
    (State.setRef s plan i x).ple = s.ple := by unfold State.setRef; exact Eq.refl _

@[simp] theorem State.setRef_ssc (s : State) (plan i : Nat) (x : RefState) :
    (State.setRef s plan i x).ssc = s.ssc := by unfold State.setRef; exact Eq.refl _

@[simp] theorem State.setRef_ssl (s : State) (plan i : Nat) (x : RefState) :
    (State.setRef s plan i x).ssl = s.ssl := by unfold State.setRef; exact Eq.refl _

@[simp] theorem State.setRef_saf (s : State) (plan i : Nat) (x : RefState) :
    (State.setRef s plan i x).saf = s.saf := by unfold State.setRef; exact Eq.refl _

@[simp] theorem State.setRef_hsp (s : State) (plan i : Nat) (x : RefState) :
    (State.setRef s plan i x).hsp = s.hsp := by unfold State.setRef; exact Eq.refl _

@[simp] theorem State.setRef_htw (s : State) (plan i : Nat) (x : RefState) :
    (State.setRef s plan i x).htw = s.htw := by unfold State.setRef; exact Eq.refl _

@[simp] theorem State.setRef_load (s : State) (plan i : Nat) (x : RefState) :
    (State.setRef s plan i x).load = s.load := by unfold State.setRef; exact Eq.refl _

@[simp] theorem State.setRef_testFrom (s : State) (plan i : Nat) (x : RefState) :
    (State.setRef s plan i x).testFrom = s.testFrom := by unfold State.setRef; exact Eq.refl _

@[simp] theorem State.setRef_commitPorts (s : State) (plan i : Nat) (x : RefState) :
    (State.setRef s plan i x).commitPorts = s.commitPorts := by unfold State.setRef; exact Eq.refl _

@[simp] theorem State.setRef_free (s : State) (plan i : Nat) (x : RefState) :
    (State.setRef s plan i x).free = s.free := by unfold State.setRef; exact Eq.refl _

@[simp] theorem State.setRef_pending (s : State) (plan i : Nat) (x : RefState) :
    (State.setRef s plan i x).pending = s.pending := by unfold State.setRef; exact Eq.refl _

@[simp] theorem State.setTerm_part (s : State) (n entry : Nat) (v : Nat × Nat) :
    (State.setTerm s n entry v).part = s.part := by unfold State.setTerm; exact Eq.refl _

@[simp] theorem State.setTerm_device (s : State) (n entry : Nat) (v : Nat × Nat) :
    (State.setTerm s n entry v).device = s.device := by unfold State.setTerm; exact Eq.refl _

@[simp] theorem State.setTerm_ready (s : State) (n entry : Nat) (v : Nat × Nat) :
    (State.setTerm s n entry v).ready = s.ready := by unfold State.setTerm; exact Eq.refl _

@[simp] theorem State.setTerm_rail33 (s : State) (n entry : Nat) (v : Nat × Nat) :
    (State.setTerm s n entry v).rail33 = s.rail33 := by unfold State.setTerm; exact Eq.refl _

@[simp] theorem State.setTerm_epoch (s : State) (n entry : Nat) (v : Nat × Nat) :
    (State.setTerm s n entry v).epoch = s.epoch := by unfold State.setTerm; exact Eq.refl _

@[simp] theorem State.setTerm_time (s : State) (n entry : Nat) (v : Nat × Nat) :
    (State.setTerm s n entry v).time = s.time := by unfold State.setTerm; exact Eq.refl _

@[simp] theorem State.setTerm_regs (s : State) (n entry : Nat) (v : Nat × Nat) :
    (State.setTerm s n entry v).regs = s.regs := by unfold State.setTerm; exact Eq.refl _

@[simp] theorem State.setTerm_shadow (s : State) (n entry : Nat) (v : Nat × Nat) :
    (State.setTerm s n entry v).shadow = s.shadow := by unfold State.setTerm; exact Eq.refl _

@[simp] theorem State.setTerm_holds (s : State) (n entry : Nat) (v : Nat × Nat) :
    (State.setTerm s n entry v).holds = s.holds := by unfold State.setTerm; exact Eq.refl _

@[simp] theorem State.setTerm_mem (s : State) (n entry : Nat) (v : Nat × Nat) :
    (State.setTerm s n entry v).mem = s.mem := by unfold State.setTerm; exact Eq.refl _

@[simp] theorem State.setTerm_tb (s : State) (n entry : Nat) (v : Nat × Nat) :
    (State.setTerm s n entry v).tb = s.tb := by unfold State.setTerm; exact Eq.refl _

@[simp] theorem State.setTerm_seams (s : State) (n entry : Nat) (v : Nat × Nat) :
    (State.setTerm s n entry v).seams = s.seams := by unfold State.setTerm; exact Eq.refl _

@[simp] theorem State.setTerm_dieX (s : State) (n entry : Nat) (v : Nat × Nat) :
    (State.setTerm s n entry v).dieX = s.dieX := by unfold State.setTerm; exact Eq.refl _

@[simp] theorem State.setTerm_slices (s : State) (n entry : Nat) (v : Nat × Nat) :
    (State.setTerm s n entry v).slices = s.slices := by unfold State.setTerm; exact Eq.refl _

@[simp] theorem State.setTerm_exchs (s : State) (n entry : Nat) (v : Nat × Nat) :
    (State.setTerm s n entry v).exchs = s.exchs := by unfold State.setTerm; exact Eq.refl _

@[simp] theorem State.setTerm_fieldHolds (s : State) (n entry : Nat) (v : Nat × Nat) :
    (State.setTerm s n entry v).fieldHolds = s.fieldHolds := by unfold State.setTerm; exact Eq.refl _

@[simp] theorem State.setTerm_watches (s : State) (n entry : Nat) (v : Nat × Nat) :
    (State.setTerm s n entry v).watches = s.watches := by unfold State.setTerm; exact Eq.refl _

@[simp] theorem State.setTerm_classes (s : State) (n entry : Nat) (v : Nat × Nat) :
    (State.setTerm s n entry v).classes = s.classes := by unfold State.setTerm; exact Eq.refl _

@[simp] theorem State.setTerm_hamper (s : State) (n entry : Nat) (v : Nat × Nat) :
    (State.setTerm s n entry v).hamper = s.hamper := by unfold State.setTerm; exact Eq.refl _

@[simp] theorem State.setTerm_tickets (s : State) (n entry : Nat) (v : Nat × Nat) :
    (State.setTerm s n entry v).tickets = s.tickets := by unfold State.setTerm; exact Eq.refl _

@[simp] theorem State.setTerm_departs (s : State) (n entry : Nat) (v : Nat × Nat) :
    (State.setTerm s n entry v).departs = s.departs := by unfold State.setTerm; exact Eq.refl _

@[simp] theorem State.setTerm_calSets (s : State) (n entry : Nat) (v : Nat × Nat) :
    (State.setTerm s n entry v).calSets = s.calSets := by unfold State.setTerm; exact Eq.refl _

@[simp] theorem State.setTerm_lockBlock (s : State) (n entry : Nat) (v : Nat × Nat) :
    (State.setTerm s n entry v).lockBlock = s.lockBlock := by unfold State.setTerm; exact Eq.refl _

@[simp] theorem State.setTerm_recDone (s : State) (n entry : Nat) (v : Nat × Nat) :
    (State.setTerm s n entry v).recDone = s.recDone := by unfold State.setTerm; exact Eq.refl _

@[simp] theorem State.setTerm_cal (s : State) (n entry : Nat) (v : Nat × Nat) :
    (State.setTerm s n entry v).cal = s.cal := by unfold State.setTerm; exact Eq.refl _

@[simp] theorem State.setTerm_tests (s : State) (n entry : Nat) (v : Nat × Nat) :
    (State.setTerm s n entry v).tests = s.tests := by unfold State.setTerm; exact Eq.refl _

@[simp] theorem State.setTerm_darn (s : State) (n entry : Nat) (v : Nat × Nat) :
    (State.setTerm s n entry v).darn = s.darn := by unfold State.setTerm; exact Eq.refl _

@[simp] theorem State.setTerm_nv (s : State) (n entry : Nat) (v : Nat × Nat) :
    (State.setTerm s n entry v).nv = s.nv := by unfold State.setTerm; exact Eq.refl _

@[simp] theorem State.setTerm_icu (s : State) (n entry : Nat) (v : Nat × Nat) :
    (State.setTerm s n entry v).icu = s.icu := by unfold State.setTerm; exact Eq.refl _

@[simp] theorem State.setTerm_power (s : State) (n entry : Nat) (v : Nat × Nat) :
    (State.setTerm s n entry v).power = s.power := by unfold State.setTerm; exact Eq.refl _

@[simp] theorem State.setTerm_supply (s : State) (n entry : Nat) (v : Nat × Nat) :
    (State.setTerm s n entry v).supply = s.supply := by unfold State.setTerm; exact Eq.refl _

@[simp] theorem State.setTerm_radio (s : State) (n entry : Nat) (v : Nat × Nat) :
    (State.setTerm s n entry v).radio = s.radio := by unfold State.setTerm; exact Eq.refl _

@[simp] theorem State.setTerm_ple (s : State) (n entry : Nat) (v : Nat × Nat) :
    (State.setTerm s n entry v).ple = s.ple := by unfold State.setTerm; exact Eq.refl _

@[simp] theorem State.setTerm_ssc (s : State) (n entry : Nat) (v : Nat × Nat) :
    (State.setTerm s n entry v).ssc = s.ssc := by unfold State.setTerm; exact Eq.refl _

@[simp] theorem State.setTerm_ssl (s : State) (n entry : Nat) (v : Nat × Nat) :
    (State.setTerm s n entry v).ssl = s.ssl := by unfold State.setTerm; exact Eq.refl _

@[simp] theorem State.setTerm_saf (s : State) (n entry : Nat) (v : Nat × Nat) :
    (State.setTerm s n entry v).saf = s.saf := by unfold State.setTerm; exact Eq.refl _

@[simp] theorem State.setTerm_hsp (s : State) (n entry : Nat) (v : Nat × Nat) :
    (State.setTerm s n entry v).hsp = s.hsp := by unfold State.setTerm; exact Eq.refl _

@[simp] theorem State.setTerm_htw (s : State) (n entry : Nat) (v : Nat × Nat) :
    (State.setTerm s n entry v).htw = s.htw := by unfold State.setTerm; exact Eq.refl _

@[simp] theorem State.setTerm_load (s : State) (n entry : Nat) (v : Nat × Nat) :
    (State.setTerm s n entry v).load = s.load := by unfold State.setTerm; exact Eq.refl _

@[simp] theorem State.setTerm_testFrom (s : State) (n entry : Nat) (v : Nat × Nat) :
    (State.setTerm s n entry v).testFrom = s.testFrom := by unfold State.setTerm; exact Eq.refl _

@[simp] theorem State.setTerm_commitPorts (s : State) (n entry : Nat) (v : Nat × Nat) :
    (State.setTerm s n entry v).commitPorts = s.commitPorts := by unfold State.setTerm; exact Eq.refl _

@[simp] theorem State.setTerm_free (s : State) (n entry : Nat) (v : Nat × Nat) :
    (State.setTerm s n entry v).free = s.free := by unfold State.setTerm; exact Eq.refl _

@[simp] theorem State.setTerm_pending (s : State) (n entry : Nat) (v : Nat × Nat) :
    (State.setTerm s n entry v).pending = s.pending := by unfold State.setTerm; exact Eq.refl _

@[simp] theorem State.setCalTarget_part (s : State) (k : Nat) (c : CalTarget) :
    (State.setCalTarget s k c).part = s.part := by unfold State.setCalTarget; exact Eq.refl _

@[simp] theorem State.setCalTarget_device (s : State) (k : Nat) (c : CalTarget) :
    (State.setCalTarget s k c).device = s.device := by unfold State.setCalTarget; exact Eq.refl _

@[simp] theorem State.setCalTarget_ready (s : State) (k : Nat) (c : CalTarget) :
    (State.setCalTarget s k c).ready = s.ready := by unfold State.setCalTarget; exact Eq.refl _

@[simp] theorem State.setCalTarget_rail33 (s : State) (k : Nat) (c : CalTarget) :
    (State.setCalTarget s k c).rail33 = s.rail33 := by unfold State.setCalTarget; exact Eq.refl _

@[simp] theorem State.setCalTarget_epoch (s : State) (k : Nat) (c : CalTarget) :
    (State.setCalTarget s k c).epoch = s.epoch := by unfold State.setCalTarget; exact Eq.refl _

@[simp] theorem State.setCalTarget_time (s : State) (k : Nat) (c : CalTarget) :
    (State.setCalTarget s k c).time = s.time := by unfold State.setCalTarget; exact Eq.refl _

@[simp] theorem State.setCalTarget_regs (s : State) (k : Nat) (c : CalTarget) :
    (State.setCalTarget s k c).regs = s.regs := by unfold State.setCalTarget; exact Eq.refl _

@[simp] theorem State.setCalTarget_shadow (s : State) (k : Nat) (c : CalTarget) :
    (State.setCalTarget s k c).shadow = s.shadow := by unfold State.setCalTarget; exact Eq.refl _

@[simp] theorem State.setCalTarget_holds (s : State) (k : Nat) (c : CalTarget) :
    (State.setCalTarget s k c).holds = s.holds := by unfold State.setCalTarget; exact Eq.refl _

@[simp] theorem State.setCalTarget_mem (s : State) (k : Nat) (c : CalTarget) :
    (State.setCalTarget s k c).mem = s.mem := by unfold State.setCalTarget; exact Eq.refl _

@[simp] theorem State.setCalTarget_tb (s : State) (k : Nat) (c : CalTarget) :
    (State.setCalTarget s k c).tb = s.tb := by unfold State.setCalTarget; exact Eq.refl _

@[simp] theorem State.setCalTarget_seams (s : State) (k : Nat) (c : CalTarget) :
    (State.setCalTarget s k c).seams = s.seams := by unfold State.setCalTarget; exact Eq.refl _

@[simp] theorem State.setCalTarget_dieX (s : State) (k : Nat) (c : CalTarget) :
    (State.setCalTarget s k c).dieX = s.dieX := by unfold State.setCalTarget; exact Eq.refl _

@[simp] theorem State.setCalTarget_slices (s : State) (k : Nat) (c : CalTarget) :
    (State.setCalTarget s k c).slices = s.slices := by unfold State.setCalTarget; exact Eq.refl _

@[simp] theorem State.setCalTarget_exchs (s : State) (k : Nat) (c : CalTarget) :
    (State.setCalTarget s k c).exchs = s.exchs := by unfold State.setCalTarget; exact Eq.refl _

@[simp] theorem State.setCalTarget_fieldHolds (s : State) (k : Nat) (c : CalTarget) :
    (State.setCalTarget s k c).fieldHolds = s.fieldHolds := by unfold State.setCalTarget; exact Eq.refl _

@[simp] theorem State.setCalTarget_watches (s : State) (k : Nat) (c : CalTarget) :
    (State.setCalTarget s k c).watches = s.watches := by unfold State.setCalTarget; exact Eq.refl _

@[simp] theorem State.setCalTarget_coord (s : State) (k : Nat) (c : CalTarget) :
    (State.setCalTarget s k c).coord = s.coord := by unfold State.setCalTarget; exact Eq.refl _

@[simp] theorem State.setCalTarget_classes (s : State) (k : Nat) (c : CalTarget) :
    (State.setCalTarget s k c).classes = s.classes := by unfold State.setCalTarget; exact Eq.refl _

@[simp] theorem State.setCalTarget_hamper (s : State) (k : Nat) (c : CalTarget) :
    (State.setCalTarget s k c).hamper = s.hamper := by unfold State.setCalTarget; exact Eq.refl _

@[simp] theorem State.setCalTarget_tickets (s : State) (k : Nat) (c : CalTarget) :
    (State.setCalTarget s k c).tickets = s.tickets := by unfold State.setCalTarget; exact Eq.refl _

@[simp] theorem State.setCalTarget_departs (s : State) (k : Nat) (c : CalTarget) :
    (State.setCalTarget s k c).departs = s.departs := by unfold State.setCalTarget; exact Eq.refl _

@[simp] theorem State.setCalTarget_calSets (s : State) (k : Nat) (c : CalTarget) :
    (State.setCalTarget s k c).calSets = s.calSets := by unfold State.setCalTarget; exact Eq.refl _

@[simp] theorem State.setCalTarget_lockBlock (s : State) (k : Nat) (c : CalTarget) :
    (State.setCalTarget s k c).lockBlock = s.lockBlock := by unfold State.setCalTarget; exact Eq.refl _

@[simp] theorem State.setCalTarget_recDone (s : State) (k : Nat) (c : CalTarget) :
    (State.setCalTarget s k c).recDone = s.recDone := by unfold State.setCalTarget; exact Eq.refl _

@[simp] theorem State.setCalTarget_tests (s : State) (k : Nat) (c : CalTarget) :
    (State.setCalTarget s k c).tests = s.tests := by unfold State.setCalTarget; exact Eq.refl _

@[simp] theorem State.setCalTarget_darn (s : State) (k : Nat) (c : CalTarget) :
    (State.setCalTarget s k c).darn = s.darn := by unfold State.setCalTarget; exact Eq.refl _

@[simp] theorem State.setCalTarget_nv (s : State) (k : Nat) (c : CalTarget) :
    (State.setCalTarget s k c).nv = s.nv := by unfold State.setCalTarget; exact Eq.refl _

@[simp] theorem State.setCalTarget_icu (s : State) (k : Nat) (c : CalTarget) :
    (State.setCalTarget s k c).icu = s.icu := by unfold State.setCalTarget; exact Eq.refl _

@[simp] theorem State.setCalTarget_power (s : State) (k : Nat) (c : CalTarget) :
    (State.setCalTarget s k c).power = s.power := by unfold State.setCalTarget; exact Eq.refl _

@[simp] theorem State.setCalTarget_supply (s : State) (k : Nat) (c : CalTarget) :
    (State.setCalTarget s k c).supply = s.supply := by unfold State.setCalTarget; exact Eq.refl _

@[simp] theorem State.setCalTarget_radio (s : State) (k : Nat) (c : CalTarget) :
    (State.setCalTarget s k c).radio = s.radio := by unfold State.setCalTarget; exact Eq.refl _

@[simp] theorem State.setCalTarget_ple (s : State) (k : Nat) (c : CalTarget) :
    (State.setCalTarget s k c).ple = s.ple := by unfold State.setCalTarget; exact Eq.refl _

@[simp] theorem State.setCalTarget_ssc (s : State) (k : Nat) (c : CalTarget) :
    (State.setCalTarget s k c).ssc = s.ssc := by unfold State.setCalTarget; exact Eq.refl _

@[simp] theorem State.setCalTarget_ssl (s : State) (k : Nat) (c : CalTarget) :
    (State.setCalTarget s k c).ssl = s.ssl := by unfold State.setCalTarget; exact Eq.refl _

@[simp] theorem State.setCalTarget_saf (s : State) (k : Nat) (c : CalTarget) :
    (State.setCalTarget s k c).saf = s.saf := by unfold State.setCalTarget; exact Eq.refl _

@[simp] theorem State.setCalTarget_hsp (s : State) (k : Nat) (c : CalTarget) :
    (State.setCalTarget s k c).hsp = s.hsp := by unfold State.setCalTarget; exact Eq.refl _

@[simp] theorem State.setCalTarget_htw (s : State) (k : Nat) (c : CalTarget) :
    (State.setCalTarget s k c).htw = s.htw := by unfold State.setCalTarget; exact Eq.refl _

@[simp] theorem State.setCalTarget_load (s : State) (k : Nat) (c : CalTarget) :
    (State.setCalTarget s k c).load = s.load := by unfold State.setCalTarget; exact Eq.refl _

@[simp] theorem State.setCalTarget_testFrom (s : State) (k : Nat) (c : CalTarget) :
    (State.setCalTarget s k c).testFrom = s.testFrom := by unfold State.setCalTarget; exact Eq.refl _

@[simp] theorem State.setCalTarget_commitPorts (s : State) (k : Nat) (c : CalTarget) :
    (State.setCalTarget s k c).commitPorts = s.commitPorts := by unfold State.setCalTarget; exact Eq.refl _

@[simp] theorem State.setCalTarget_free (s : State) (k : Nat) (c : CalTarget) :
    (State.setCalTarget s k c).free = s.free := by unfold State.setCalTarget; exact Eq.refl _

@[simp] theorem State.setCalTarget_pending (s : State) (k : Nat) (c : CalTarget) :
    (State.setCalTarget s k c).pending = s.pending := by unfold State.setCalTarget; exact Eq.refl _

@[simp] theorem State.setTest_part (s : State) (k : Nat) (t : TestUnit) :
    (State.setTest s k t).part = s.part := by unfold State.setTest; exact Eq.refl _

@[simp] theorem State.setTest_device (s : State) (k : Nat) (t : TestUnit) :
    (State.setTest s k t).device = s.device := by unfold State.setTest; exact Eq.refl _

@[simp] theorem State.setTest_ready (s : State) (k : Nat) (t : TestUnit) :
    (State.setTest s k t).ready = s.ready := by unfold State.setTest; exact Eq.refl _

@[simp] theorem State.setTest_rail33 (s : State) (k : Nat) (t : TestUnit) :
    (State.setTest s k t).rail33 = s.rail33 := by unfold State.setTest; exact Eq.refl _

@[simp] theorem State.setTest_epoch (s : State) (k : Nat) (t : TestUnit) :
    (State.setTest s k t).epoch = s.epoch := by unfold State.setTest; exact Eq.refl _

@[simp] theorem State.setTest_time (s : State) (k : Nat) (t : TestUnit) :
    (State.setTest s k t).time = s.time := by unfold State.setTest; exact Eq.refl _

@[simp] theorem State.setTest_regs (s : State) (k : Nat) (t : TestUnit) :
    (State.setTest s k t).regs = s.regs := by unfold State.setTest; exact Eq.refl _

@[simp] theorem State.setTest_shadow (s : State) (k : Nat) (t : TestUnit) :
    (State.setTest s k t).shadow = s.shadow := by unfold State.setTest; exact Eq.refl _

@[simp] theorem State.setTest_holds (s : State) (k : Nat) (t : TestUnit) :
    (State.setTest s k t).holds = s.holds := by unfold State.setTest; exact Eq.refl _

@[simp] theorem State.setTest_mem (s : State) (k : Nat) (t : TestUnit) :
    (State.setTest s k t).mem = s.mem := by unfold State.setTest; exact Eq.refl _

@[simp] theorem State.setTest_tb (s : State) (k : Nat) (t : TestUnit) :
    (State.setTest s k t).tb = s.tb := by unfold State.setTest; exact Eq.refl _

@[simp] theorem State.setTest_seams (s : State) (k : Nat) (t : TestUnit) :
    (State.setTest s k t).seams = s.seams := by unfold State.setTest; exact Eq.refl _

@[simp] theorem State.setTest_dieX (s : State) (k : Nat) (t : TestUnit) :
    (State.setTest s k t).dieX = s.dieX := by unfold State.setTest; exact Eq.refl _

@[simp] theorem State.setTest_slices (s : State) (k : Nat) (t : TestUnit) :
    (State.setTest s k t).slices = s.slices := by unfold State.setTest; exact Eq.refl _

@[simp] theorem State.setTest_exchs (s : State) (k : Nat) (t : TestUnit) :
    (State.setTest s k t).exchs = s.exchs := by unfold State.setTest; exact Eq.refl _

@[simp] theorem State.setTest_fieldHolds (s : State) (k : Nat) (t : TestUnit) :
    (State.setTest s k t).fieldHolds = s.fieldHolds := by unfold State.setTest; exact Eq.refl _

@[simp] theorem State.setTest_watches (s : State) (k : Nat) (t : TestUnit) :
    (State.setTest s k t).watches = s.watches := by unfold State.setTest; exact Eq.refl _

@[simp] theorem State.setTest_coord (s : State) (k : Nat) (t : TestUnit) :
    (State.setTest s k t).coord = s.coord := by unfold State.setTest; exact Eq.refl _

@[simp] theorem State.setTest_classes (s : State) (k : Nat) (t : TestUnit) :
    (State.setTest s k t).classes = s.classes := by unfold State.setTest; exact Eq.refl _

@[simp] theorem State.setTest_hamper (s : State) (k : Nat) (t : TestUnit) :
    (State.setTest s k t).hamper = s.hamper := by unfold State.setTest; exact Eq.refl _

@[simp] theorem State.setTest_tickets (s : State) (k : Nat) (t : TestUnit) :
    (State.setTest s k t).tickets = s.tickets := by unfold State.setTest; exact Eq.refl _

@[simp] theorem State.setTest_departs (s : State) (k : Nat) (t : TestUnit) :
    (State.setTest s k t).departs = s.departs := by unfold State.setTest; exact Eq.refl _

@[simp] theorem State.setTest_calSets (s : State) (k : Nat) (t : TestUnit) :
    (State.setTest s k t).calSets = s.calSets := by unfold State.setTest; exact Eq.refl _

@[simp] theorem State.setTest_lockBlock (s : State) (k : Nat) (t : TestUnit) :
    (State.setTest s k t).lockBlock = s.lockBlock := by unfold State.setTest; exact Eq.refl _

@[simp] theorem State.setTest_recDone (s : State) (k : Nat) (t : TestUnit) :
    (State.setTest s k t).recDone = s.recDone := by unfold State.setTest; exact Eq.refl _

@[simp] theorem State.setTest_cal (s : State) (k : Nat) (t : TestUnit) :
    (State.setTest s k t).cal = s.cal := by unfold State.setTest; exact Eq.refl _

@[simp] theorem State.setTest_darn (s : State) (k : Nat) (t : TestUnit) :
    (State.setTest s k t).darn = s.darn := by unfold State.setTest; exact Eq.refl _

@[simp] theorem State.setTest_nv (s : State) (k : Nat) (t : TestUnit) :
    (State.setTest s k t).nv = s.nv := by unfold State.setTest; exact Eq.refl _

@[simp] theorem State.setTest_icu (s : State) (k : Nat) (t : TestUnit) :
    (State.setTest s k t).icu = s.icu := by unfold State.setTest; exact Eq.refl _

@[simp] theorem State.setTest_power (s : State) (k : Nat) (t : TestUnit) :
    (State.setTest s k t).power = s.power := by unfold State.setTest; exact Eq.refl _

@[simp] theorem State.setTest_supply (s : State) (k : Nat) (t : TestUnit) :
    (State.setTest s k t).supply = s.supply := by unfold State.setTest; exact Eq.refl _

@[simp] theorem State.setTest_radio (s : State) (k : Nat) (t : TestUnit) :
    (State.setTest s k t).radio = s.radio := by unfold State.setTest; exact Eq.refl _

@[simp] theorem State.setTest_ple (s : State) (k : Nat) (t : TestUnit) :
    (State.setTest s k t).ple = s.ple := by unfold State.setTest; exact Eq.refl _

@[simp] theorem State.setTest_ssc (s : State) (k : Nat) (t : TestUnit) :
    (State.setTest s k t).ssc = s.ssc := by unfold State.setTest; exact Eq.refl _

@[simp] theorem State.setTest_ssl (s : State) (k : Nat) (t : TestUnit) :
    (State.setTest s k t).ssl = s.ssl := by unfold State.setTest; exact Eq.refl _

@[simp] theorem State.setTest_saf (s : State) (k : Nat) (t : TestUnit) :
    (State.setTest s k t).saf = s.saf := by unfold State.setTest; exact Eq.refl _

@[simp] theorem State.setTest_hsp (s : State) (k : Nat) (t : TestUnit) :
    (State.setTest s k t).hsp = s.hsp := by unfold State.setTest; exact Eq.refl _

@[simp] theorem State.setTest_htw (s : State) (k : Nat) (t : TestUnit) :
    (State.setTest s k t).htw = s.htw := by unfold State.setTest; exact Eq.refl _

@[simp] theorem State.setTest_load (s : State) (k : Nat) (t : TestUnit) :
    (State.setTest s k t).load = s.load := by unfold State.setTest; exact Eq.refl _

@[simp] theorem State.setTest_testFrom (s : State) (k : Nat) (t : TestUnit) :
    (State.setTest s k t).testFrom = s.testFrom := by unfold State.setTest; exact Eq.refl _

@[simp] theorem State.setTest_commitPorts (s : State) (k : Nat) (t : TestUnit) :
    (State.setTest s k t).commitPorts = s.commitPorts := by unfold State.setTest; exact Eq.refl _

@[simp] theorem State.setTest_free (s : State) (k : Nat) (t : TestUnit) :
    (State.setTest s k t).free = s.free := by unfold State.setTest; exact Eq.refl _

@[simp] theorem State.setTest_pending (s : State) (k : Nat) (t : TestUnit) :
    (State.setTest s k t).pending = s.pending := by unfold State.setTest; exact Eq.refl _

@[simp] theorem State.dropWork_part (s : State) (k : Nat) :
    (State.dropWork s k).part = s.part := by unfold State.dropWork; exact Eq.refl _

@[simp] theorem State.dropWork_device (s : State) (k : Nat) :
    (State.dropWork s k).device = s.device := by unfold State.dropWork; exact Eq.refl _

@[simp] theorem State.dropWork_ready (s : State) (k : Nat) :
    (State.dropWork s k).ready = s.ready := by unfold State.dropWork; exact Eq.refl _

@[simp] theorem State.dropWork_rail33 (s : State) (k : Nat) :
    (State.dropWork s k).rail33 = s.rail33 := by unfold State.dropWork; exact Eq.refl _

@[simp] theorem State.dropWork_epoch (s : State) (k : Nat) :
    (State.dropWork s k).epoch = s.epoch := by unfold State.dropWork; exact Eq.refl _

@[simp] theorem State.dropWork_time (s : State) (k : Nat) :
    (State.dropWork s k).time = s.time := by unfold State.dropWork; exact Eq.refl _

@[simp] theorem State.dropWork_regs (s : State) (k : Nat) :
    (State.dropWork s k).regs = s.regs := by unfold State.dropWork; exact Eq.refl _

@[simp] theorem State.dropWork_shadow (s : State) (k : Nat) :
    (State.dropWork s k).shadow = s.shadow := by unfold State.dropWork; exact Eq.refl _

@[simp] theorem State.dropWork_holds (s : State) (k : Nat) :
    (State.dropWork s k).holds = s.holds := by unfold State.dropWork; exact Eq.refl _

@[simp] theorem State.dropWork_mem (s : State) (k : Nat) :
    (State.dropWork s k).mem = s.mem := by unfold State.dropWork; exact Eq.refl _

@[simp] theorem State.dropWork_tb (s : State) (k : Nat) :
    (State.dropWork s k).tb = s.tb := by unfold State.dropWork; exact Eq.refl _

@[simp] theorem State.dropWork_seams (s : State) (k : Nat) :
    (State.dropWork s k).seams = s.seams := by unfold State.dropWork; exact Eq.refl _

@[simp] theorem State.dropWork_dieX (s : State) (k : Nat) :
    (State.dropWork s k).dieX = s.dieX := by unfold State.dropWork; exact Eq.refl _

@[simp] theorem State.dropWork_slices (s : State) (k : Nat) :
    (State.dropWork s k).slices = s.slices := by unfold State.dropWork; exact Eq.refl _

@[simp] theorem State.dropWork_fieldHolds (s : State) (k : Nat) :
    (State.dropWork s k).fieldHolds = s.fieldHolds := by unfold State.dropWork; exact Eq.refl _

@[simp] theorem State.dropWork_watches (s : State) (k : Nat) :
    (State.dropWork s k).watches = s.watches := by unfold State.dropWork; exact Eq.refl _

@[simp] theorem State.dropWork_coord (s : State) (k : Nat) :
    (State.dropWork s k).coord = s.coord := by unfold State.dropWork; exact Eq.refl _

@[simp] theorem State.dropWork_classes (s : State) (k : Nat) :
    (State.dropWork s k).classes = s.classes := by unfold State.dropWork; exact Eq.refl _

@[simp] theorem State.dropWork_hamper (s : State) (k : Nat) :
    (State.dropWork s k).hamper = s.hamper := by unfold State.dropWork; exact Eq.refl _

@[simp] theorem State.dropWork_tickets (s : State) (k : Nat) :
    (State.dropWork s k).tickets = s.tickets := by unfold State.dropWork; exact Eq.refl _

@[simp] theorem State.dropWork_departs (s : State) (k : Nat) :
    (State.dropWork s k).departs = s.departs := by unfold State.dropWork; exact Eq.refl _

@[simp] theorem State.dropWork_calSets (s : State) (k : Nat) :
    (State.dropWork s k).calSets = s.calSets := by unfold State.dropWork; exact Eq.refl _

@[simp] theorem State.dropWork_lockBlock (s : State) (k : Nat) :
    (State.dropWork s k).lockBlock = s.lockBlock := by unfold State.dropWork; exact Eq.refl _

@[simp] theorem State.dropWork_recDone (s : State) (k : Nat) :
    (State.dropWork s k).recDone = s.recDone := by unfold State.dropWork; exact Eq.refl _

@[simp] theorem State.dropWork_cal (s : State) (k : Nat) :
    (State.dropWork s k).cal = s.cal := by unfold State.dropWork; exact Eq.refl _

@[simp] theorem State.dropWork_tests (s : State) (k : Nat) :
    (State.dropWork s k).tests = s.tests := by unfold State.dropWork; exact Eq.refl _

@[simp] theorem State.dropWork_darn (s : State) (k : Nat) :
    (State.dropWork s k).darn = s.darn := by unfold State.dropWork; exact Eq.refl _

@[simp] theorem State.dropWork_nv (s : State) (k : Nat) :
    (State.dropWork s k).nv = s.nv := by unfold State.dropWork; exact Eq.refl _

@[simp] theorem State.dropWork_icu (s : State) (k : Nat) :
    (State.dropWork s k).icu = s.icu := by unfold State.dropWork; exact Eq.refl _

@[simp] theorem State.dropWork_power (s : State) (k : Nat) :
    (State.dropWork s k).power = s.power := by unfold State.dropWork; exact Eq.refl _

@[simp] theorem State.dropWork_supply (s : State) (k : Nat) :
    (State.dropWork s k).supply = s.supply := by unfold State.dropWork; exact Eq.refl _

@[simp] theorem State.dropWork_radio (s : State) (k : Nat) :
    (State.dropWork s k).radio = s.radio := by unfold State.dropWork; exact Eq.refl _

@[simp] theorem State.dropWork_ple (s : State) (k : Nat) :
    (State.dropWork s k).ple = s.ple := by unfold State.dropWork; exact Eq.refl _

@[simp] theorem State.dropWork_ssc (s : State) (k : Nat) :
    (State.dropWork s k).ssc = s.ssc := by unfold State.dropWork; exact Eq.refl _

@[simp] theorem State.dropWork_ssl (s : State) (k : Nat) :
    (State.dropWork s k).ssl = s.ssl := by unfold State.dropWork; exact Eq.refl _

@[simp] theorem State.dropWork_saf (s : State) (k : Nat) :
    (State.dropWork s k).saf = s.saf := by unfold State.dropWork; exact Eq.refl _

@[simp] theorem State.dropWork_hsp (s : State) (k : Nat) :
    (State.dropWork s k).hsp = s.hsp := by unfold State.dropWork; exact Eq.refl _

@[simp] theorem State.dropWork_htw (s : State) (k : Nat) :
    (State.dropWork s k).htw = s.htw := by unfold State.dropWork; exact Eq.refl _

@[simp] theorem State.dropWork_load (s : State) (k : Nat) :
    (State.dropWork s k).load = s.load := by unfold State.dropWork; exact Eq.refl _

@[simp] theorem State.dropWork_testFrom (s : State) (k : Nat) :
    (State.dropWork s k).testFrom = s.testFrom := by unfold State.dropWork; exact Eq.refl _

@[simp] theorem State.dropWork_commitPorts (s : State) (k : Nat) :
    (State.dropWork s k).commitPorts = s.commitPorts := by unfold State.dropWork; exact Eq.refl _

@[simp] theorem State.dropWork_free (s : State) (k : Nat) :
    (State.dropWork s k).free = s.free := by unfold State.dropWork; exact Eq.refl _

@[simp] theorem State.dropWork_pending (s : State) (k : Nat) :
    (State.dropWork s k).pending = s.pending := by unfold State.dropWork; exact Eq.refl _

@[simp] theorem State.setCls_part (s : State) (c : Nat) (k : HClass) :
    (State.setCls s c k).part = s.part := by unfold State.setCls; exact Eq.refl _

@[simp] theorem State.setCls_device (s : State) (c : Nat) (k : HClass) :
    (State.setCls s c k).device = s.device := by unfold State.setCls; exact Eq.refl _

@[simp] theorem State.setCls_ready (s : State) (c : Nat) (k : HClass) :
    (State.setCls s c k).ready = s.ready := by unfold State.setCls; exact Eq.refl _

@[simp] theorem State.setCls_rail33 (s : State) (c : Nat) (k : HClass) :
    (State.setCls s c k).rail33 = s.rail33 := by unfold State.setCls; exact Eq.refl _

@[simp] theorem State.setCls_epoch (s : State) (c : Nat) (k : HClass) :
    (State.setCls s c k).epoch = s.epoch := by unfold State.setCls; exact Eq.refl _

@[simp] theorem State.setCls_time (s : State) (c : Nat) (k : HClass) :
    (State.setCls s c k).time = s.time := by unfold State.setCls; exact Eq.refl _

@[simp] theorem State.setCls_regs (s : State) (c : Nat) (k : HClass) :
    (State.setCls s c k).regs = s.regs := by unfold State.setCls; exact Eq.refl _

@[simp] theorem State.setCls_shadow (s : State) (c : Nat) (k : HClass) :
    (State.setCls s c k).shadow = s.shadow := by unfold State.setCls; exact Eq.refl _

@[simp] theorem State.setCls_holds (s : State) (c : Nat) (k : HClass) :
    (State.setCls s c k).holds = s.holds := by unfold State.setCls; exact Eq.refl _

@[simp] theorem State.setCls_mem (s : State) (c : Nat) (k : HClass) :
    (State.setCls s c k).mem = s.mem := by unfold State.setCls; exact Eq.refl _

@[simp] theorem State.setCls_tb (s : State) (c : Nat) (k : HClass) :
    (State.setCls s c k).tb = s.tb := by unfold State.setCls; exact Eq.refl _

@[simp] theorem State.setCls_seams (s : State) (c : Nat) (k : HClass) :
    (State.setCls s c k).seams = s.seams := by unfold State.setCls; exact Eq.refl _

@[simp] theorem State.setCls_dieX (s : State) (c : Nat) (k : HClass) :
    (State.setCls s c k).dieX = s.dieX := by unfold State.setCls; exact Eq.refl _

@[simp] theorem State.setCls_slices (s : State) (c : Nat) (k : HClass) :
    (State.setCls s c k).slices = s.slices := by unfold State.setCls; exact Eq.refl _

@[simp] theorem State.setCls_exchs (s : State) (c : Nat) (k : HClass) :
    (State.setCls s c k).exchs = s.exchs := by unfold State.setCls; exact Eq.refl _

@[simp] theorem State.setCls_fieldHolds (s : State) (c : Nat) (k : HClass) :
    (State.setCls s c k).fieldHolds = s.fieldHolds := by unfold State.setCls; exact Eq.refl _

@[simp] theorem State.setCls_watches (s : State) (c : Nat) (k : HClass) :
    (State.setCls s c k).watches = s.watches := by unfold State.setCls; exact Eq.refl _

@[simp] theorem State.setCls_coord (s : State) (c : Nat) (k : HClass) :
    (State.setCls s c k).coord = s.coord := by unfold State.setCls; exact Eq.refl _

@[simp] theorem State.setCls_hamper (s : State) (c : Nat) (k : HClass) :
    (State.setCls s c k).hamper = s.hamper := by unfold State.setCls; exact Eq.refl _

@[simp] theorem State.setCls_tickets (s : State) (c : Nat) (k : HClass) :
    (State.setCls s c k).tickets = s.tickets := by unfold State.setCls; exact Eq.refl _

@[simp] theorem State.setCls_departs (s : State) (c : Nat) (k : HClass) :
    (State.setCls s c k).departs = s.departs := by unfold State.setCls; exact Eq.refl _

@[simp] theorem State.setCls_calSets (s : State) (c : Nat) (k : HClass) :
    (State.setCls s c k).calSets = s.calSets := by unfold State.setCls; exact Eq.refl _

@[simp] theorem State.setCls_lockBlock (s : State) (c : Nat) (k : HClass) :
    (State.setCls s c k).lockBlock = s.lockBlock := by unfold State.setCls; exact Eq.refl _

@[simp] theorem State.setCls_recDone (s : State) (c : Nat) (k : HClass) :
    (State.setCls s c k).recDone = s.recDone := by unfold State.setCls; exact Eq.refl _

@[simp] theorem State.setCls_cal (s : State) (c : Nat) (k : HClass) :
    (State.setCls s c k).cal = s.cal := by unfold State.setCls; exact Eq.refl _

@[simp] theorem State.setCls_tests (s : State) (c : Nat) (k : HClass) :
    (State.setCls s c k).tests = s.tests := by unfold State.setCls; exact Eq.refl _

@[simp] theorem State.setCls_darn (s : State) (c : Nat) (k : HClass) :
    (State.setCls s c k).darn = s.darn := by unfold State.setCls; exact Eq.refl _

@[simp] theorem State.setCls_nv (s : State) (c : Nat) (k : HClass) :
    (State.setCls s c k).nv = s.nv := by unfold State.setCls; exact Eq.refl _

@[simp] theorem State.setCls_icu (s : State) (c : Nat) (k : HClass) :
    (State.setCls s c k).icu = s.icu := by unfold State.setCls; exact Eq.refl _

@[simp] theorem State.setCls_power (s : State) (c : Nat) (k : HClass) :
    (State.setCls s c k).power = s.power := by unfold State.setCls; exact Eq.refl _

@[simp] theorem State.setCls_supply (s : State) (c : Nat) (k : HClass) :
    (State.setCls s c k).supply = s.supply := by unfold State.setCls; exact Eq.refl _

@[simp] theorem State.setCls_radio (s : State) (c : Nat) (k : HClass) :
    (State.setCls s c k).radio = s.radio := by unfold State.setCls; exact Eq.refl _

@[simp] theorem State.setCls_ple (s : State) (c : Nat) (k : HClass) :
    (State.setCls s c k).ple = s.ple := by unfold State.setCls; exact Eq.refl _

@[simp] theorem State.setCls_ssc (s : State) (c : Nat) (k : HClass) :
    (State.setCls s c k).ssc = s.ssc := by unfold State.setCls; exact Eq.refl _

@[simp] theorem State.setCls_ssl (s : State) (c : Nat) (k : HClass) :
    (State.setCls s c k).ssl = s.ssl := by unfold State.setCls; exact Eq.refl _

@[simp] theorem State.setCls_saf (s : State) (c : Nat) (k : HClass) :
    (State.setCls s c k).saf = s.saf := by unfold State.setCls; exact Eq.refl _

@[simp] theorem State.setCls_hsp (s : State) (c : Nat) (k : HClass) :
    (State.setCls s c k).hsp = s.hsp := by unfold State.setCls; exact Eq.refl _

@[simp] theorem State.setCls_htw (s : State) (c : Nat) (k : HClass) :
    (State.setCls s c k).htw = s.htw := by unfold State.setCls; exact Eq.refl _

@[simp] theorem State.setCls_load (s : State) (c : Nat) (k : HClass) :
    (State.setCls s c k).load = s.load := by unfold State.setCls; exact Eq.refl _

@[simp] theorem State.setCls_testFrom (s : State) (c : Nat) (k : HClass) :
    (State.setCls s c k).testFrom = s.testFrom := by unfold State.setCls; exact Eq.refl _

@[simp] theorem State.setCls_commitPorts (s : State) (c : Nat) (k : HClass) :
    (State.setCls s c k).commitPorts = s.commitPorts := by unfold State.setCls; exact Eq.refl _

@[simp] theorem State.setCls_free (s : State) (c : Nat) (k : HClass) :
    (State.setCls s c k).free = s.free := by unfold State.setCls; exact Eq.refl _

@[simp] theorem State.setCls_pending (s : State) (c : Nat) (k : HClass) :
    (State.setCls s c k).pending = s.pending := by unfold State.setCls; exact Eq.refl _

@[simp] theorem State.shiftOut_part (s : State) (l : List Bool) :
    (State.shiftOut s l).part = s.part := by unfold State.shiftOut; exact Eq.refl _

@[simp] theorem State.shiftOut_device (s : State) (l : List Bool) :
    (State.shiftOut s l).device = s.device := by unfold State.shiftOut; exact Eq.refl _

@[simp] theorem State.shiftOut_ready (s : State) (l : List Bool) :
    (State.shiftOut s l).ready = s.ready := by unfold State.shiftOut; exact Eq.refl _

@[simp] theorem State.shiftOut_rail33 (s : State) (l : List Bool) :
    (State.shiftOut s l).rail33 = s.rail33 := by unfold State.shiftOut; exact Eq.refl _

@[simp] theorem State.shiftOut_epoch (s : State) (l : List Bool) :
    (State.shiftOut s l).epoch = s.epoch := by unfold State.shiftOut; exact Eq.refl _

@[simp] theorem State.shiftOut_time (s : State) (l : List Bool) :
    (State.shiftOut s l).time = s.time := by unfold State.shiftOut; exact Eq.refl _

@[simp] theorem State.shiftOut_regs (s : State) (l : List Bool) :
    (State.shiftOut s l).regs = s.regs := by unfold State.shiftOut; exact Eq.refl _

@[simp] theorem State.shiftOut_shadow (s : State) (l : List Bool) :
    (State.shiftOut s l).shadow = s.shadow := by unfold State.shiftOut; exact Eq.refl _

@[simp] theorem State.shiftOut_holds (s : State) (l : List Bool) :
    (State.shiftOut s l).holds = s.holds := by unfold State.shiftOut; exact Eq.refl _

@[simp] theorem State.shiftOut_mem (s : State) (l : List Bool) :
    (State.shiftOut s l).mem = s.mem := by unfold State.shiftOut; exact Eq.refl _

@[simp] theorem State.shiftOut_tb (s : State) (l : List Bool) :
    (State.shiftOut s l).tb = s.tb := by unfold State.shiftOut; exact Eq.refl _

@[simp] theorem State.shiftOut_seams (s : State) (l : List Bool) :
    (State.shiftOut s l).seams = s.seams := by unfold State.shiftOut; exact Eq.refl _

@[simp] theorem State.shiftOut_dieX (s : State) (l : List Bool) :
    (State.shiftOut s l).dieX = s.dieX := by unfold State.shiftOut; exact Eq.refl _

@[simp] theorem State.shiftOut_slices (s : State) (l : List Bool) :
    (State.shiftOut s l).slices = s.slices := by unfold State.shiftOut; exact Eq.refl _

@[simp] theorem State.shiftOut_exchs (s : State) (l : List Bool) :
    (State.shiftOut s l).exchs = s.exchs := by unfold State.shiftOut; exact Eq.refl _

@[simp] theorem State.shiftOut_fieldHolds (s : State) (l : List Bool) :
    (State.shiftOut s l).fieldHolds = s.fieldHolds := by unfold State.shiftOut; exact Eq.refl _

@[simp] theorem State.shiftOut_watches (s : State) (l : List Bool) :
    (State.shiftOut s l).watches = s.watches := by unfold State.shiftOut; exact Eq.refl _

@[simp] theorem State.shiftOut_coord (s : State) (l : List Bool) :
    (State.shiftOut s l).coord = s.coord := by unfold State.shiftOut; exact Eq.refl _

@[simp] theorem State.shiftOut_classes (s : State) (l : List Bool) :
    (State.shiftOut s l).classes = s.classes := by unfold State.shiftOut; exact Eq.refl _

@[simp] theorem State.shiftOut_hamper (s : State) (l : List Bool) :
    (State.shiftOut s l).hamper = s.hamper := by unfold State.shiftOut; exact Eq.refl _

@[simp] theorem State.shiftOut_tickets (s : State) (l : List Bool) :
    (State.shiftOut s l).tickets = s.tickets := by unfold State.shiftOut; exact Eq.refl _

@[simp] theorem State.shiftOut_departs (s : State) (l : List Bool) :
    (State.shiftOut s l).departs = s.departs := by unfold State.shiftOut; exact Eq.refl _

@[simp] theorem State.shiftOut_calSets (s : State) (l : List Bool) :
    (State.shiftOut s l).calSets = s.calSets := by unfold State.shiftOut; exact Eq.refl _

@[simp] theorem State.shiftOut_lockBlock (s : State) (l : List Bool) :
    (State.shiftOut s l).lockBlock = s.lockBlock := by unfold State.shiftOut; exact Eq.refl _

@[simp] theorem State.shiftOut_recDone (s : State) (l : List Bool) :
    (State.shiftOut s l).recDone = s.recDone := by unfold State.shiftOut; exact Eq.refl _

@[simp] theorem State.shiftOut_cal (s : State) (l : List Bool) :
    (State.shiftOut s l).cal = s.cal := by unfold State.shiftOut; exact Eq.refl _

@[simp] theorem State.shiftOut_tests (s : State) (l : List Bool) :
    (State.shiftOut s l).tests = s.tests := by unfold State.shiftOut; exact Eq.refl _

@[simp] theorem State.shiftOut_darn (s : State) (l : List Bool) :
    (State.shiftOut s l).darn = s.darn := by unfold State.shiftOut; exact Eq.refl _

@[simp] theorem State.shiftOut_nv (s : State) (l : List Bool) :
    (State.shiftOut s l).nv = s.nv := by unfold State.shiftOut; exact Eq.refl _

@[simp] theorem State.shiftOut_icu (s : State) (l : List Bool) :
    (State.shiftOut s l).icu = s.icu := by unfold State.shiftOut; exact Eq.refl _

@[simp] theorem State.shiftOut_power (s : State) (l : List Bool) :
    (State.shiftOut s l).power = s.power := by unfold State.shiftOut; exact Eq.refl _

@[simp] theorem State.shiftOut_supply (s : State) (l : List Bool) :
    (State.shiftOut s l).supply = s.supply := by unfold State.shiftOut; exact Eq.refl _

@[simp] theorem State.shiftOut_radio (s : State) (l : List Bool) :
    (State.shiftOut s l).radio = s.radio := by unfold State.shiftOut; exact Eq.refl _

@[simp] theorem State.shiftOut_ple (s : State) (l : List Bool) :
    (State.shiftOut s l).ple = s.ple := by unfold State.shiftOut; exact Eq.refl _

@[simp] theorem State.shiftOut_ssc (s : State) (l : List Bool) :
    (State.shiftOut s l).ssc = s.ssc := by unfold State.shiftOut; exact Eq.refl _

@[simp] theorem State.shiftOut_ssl (s : State) (l : List Bool) :
    (State.shiftOut s l).ssl = s.ssl := by unfold State.shiftOut; exact Eq.refl _

@[simp] theorem State.shiftOut_saf (s : State) (l : List Bool) :
    (State.shiftOut s l).saf = s.saf := by unfold State.shiftOut; exact Eq.refl _

@[simp] theorem State.shiftOut_htw (s : State) (l : List Bool) :
    (State.shiftOut s l).htw = s.htw := by unfold State.shiftOut; exact Eq.refl _

@[simp] theorem State.shiftOut_load (s : State) (l : List Bool) :
    (State.shiftOut s l).load = s.load := by unfold State.shiftOut; exact Eq.refl _

@[simp] theorem State.shiftOut_testFrom (s : State) (l : List Bool) :
    (State.shiftOut s l).testFrom = s.testFrom := by unfold State.shiftOut; exact Eq.refl _

@[simp] theorem State.shiftOut_commitPorts (s : State) (l : List Bool) :
    (State.shiftOut s l).commitPorts = s.commitPorts := by unfold State.shiftOut; exact Eq.refl _

@[simp] theorem State.shiftOut_free (s : State) (l : List Bool) :
    (State.shiftOut s l).free = s.free := by unfold State.shiftOut; exact Eq.refl _

@[simp] theorem State.shiftOut_pending (s : State) (l : List Bool) :
    (State.shiftOut s l).pending = s.pending := by unfold State.shiftOut; exact Eq.refl _

@[simp] theorem State.setHtw_part (s : State) (h : Htw) :
    (State.setHtw s h).part = s.part := by unfold State.setHtw; exact Eq.refl _

@[simp] theorem State.setHtw_device (s : State) (h : Htw) :
    (State.setHtw s h).device = s.device := by unfold State.setHtw; exact Eq.refl _

@[simp] theorem State.setHtw_ready (s : State) (h : Htw) :
    (State.setHtw s h).ready = s.ready := by unfold State.setHtw; exact Eq.refl _

@[simp] theorem State.setHtw_rail33 (s : State) (h : Htw) :
    (State.setHtw s h).rail33 = s.rail33 := by unfold State.setHtw; exact Eq.refl _

@[simp] theorem State.setHtw_epoch (s : State) (h : Htw) :
    (State.setHtw s h).epoch = s.epoch := by unfold State.setHtw; exact Eq.refl _

@[simp] theorem State.setHtw_time (s : State) (h : Htw) :
    (State.setHtw s h).time = s.time := by unfold State.setHtw; exact Eq.refl _

@[simp] theorem State.setHtw_regs (s : State) (h : Htw) :
    (State.setHtw s h).regs = s.regs := by unfold State.setHtw; exact Eq.refl _

@[simp] theorem State.setHtw_shadow (s : State) (h : Htw) :
    (State.setHtw s h).shadow = s.shadow := by unfold State.setHtw; exact Eq.refl _

@[simp] theorem State.setHtw_holds (s : State) (h : Htw) :
    (State.setHtw s h).holds = s.holds := by unfold State.setHtw; exact Eq.refl _

@[simp] theorem State.setHtw_mem (s : State) (h : Htw) :
    (State.setHtw s h).mem = s.mem := by unfold State.setHtw; exact Eq.refl _

@[simp] theorem State.setHtw_tb (s : State) (h : Htw) :
    (State.setHtw s h).tb = s.tb := by unfold State.setHtw; exact Eq.refl _

@[simp] theorem State.setHtw_seams (s : State) (h : Htw) :
    (State.setHtw s h).seams = s.seams := by unfold State.setHtw; exact Eq.refl _

@[simp] theorem State.setHtw_dieX (s : State) (h : Htw) :
    (State.setHtw s h).dieX = s.dieX := by unfold State.setHtw; exact Eq.refl _

@[simp] theorem State.setHtw_slices (s : State) (h : Htw) :
    (State.setHtw s h).slices = s.slices := by unfold State.setHtw; exact Eq.refl _

@[simp] theorem State.setHtw_exchs (s : State) (h : Htw) :
    (State.setHtw s h).exchs = s.exchs := by unfold State.setHtw; exact Eq.refl _

@[simp] theorem State.setHtw_fieldHolds (s : State) (h : Htw) :
    (State.setHtw s h).fieldHolds = s.fieldHolds := by unfold State.setHtw; exact Eq.refl _

@[simp] theorem State.setHtw_watches (s : State) (h : Htw) :
    (State.setHtw s h).watches = s.watches := by unfold State.setHtw; exact Eq.refl _

@[simp] theorem State.setHtw_coord (s : State) (h : Htw) :
    (State.setHtw s h).coord = s.coord := by unfold State.setHtw; exact Eq.refl _

@[simp] theorem State.setHtw_classes (s : State) (h : Htw) :
    (State.setHtw s h).classes = s.classes := by unfold State.setHtw; exact Eq.refl _

@[simp] theorem State.setHtw_hamper (s : State) (h : Htw) :
    (State.setHtw s h).hamper = s.hamper := by unfold State.setHtw; exact Eq.refl _

@[simp] theorem State.setHtw_tickets (s : State) (h : Htw) :
    (State.setHtw s h).tickets = s.tickets := by unfold State.setHtw; exact Eq.refl _

@[simp] theorem State.setHtw_departs (s : State) (h : Htw) :
    (State.setHtw s h).departs = s.departs := by unfold State.setHtw; exact Eq.refl _

@[simp] theorem State.setHtw_calSets (s : State) (h : Htw) :
    (State.setHtw s h).calSets = s.calSets := by unfold State.setHtw; exact Eq.refl _

@[simp] theorem State.setHtw_lockBlock (s : State) (h : Htw) :
    (State.setHtw s h).lockBlock = s.lockBlock := by unfold State.setHtw; exact Eq.refl _

@[simp] theorem State.setHtw_recDone (s : State) (h : Htw) :
    (State.setHtw s h).recDone = s.recDone := by unfold State.setHtw; exact Eq.refl _

@[simp] theorem State.setHtw_cal (s : State) (h : Htw) :
    (State.setHtw s h).cal = s.cal := by unfold State.setHtw; exact Eq.refl _

@[simp] theorem State.setHtw_tests (s : State) (h : Htw) :
    (State.setHtw s h).tests = s.tests := by unfold State.setHtw; exact Eq.refl _

@[simp] theorem State.setHtw_darn (s : State) (h : Htw) :
    (State.setHtw s h).darn = s.darn := by unfold State.setHtw; exact Eq.refl _

@[simp] theorem State.setHtw_nv (s : State) (h : Htw) :
    (State.setHtw s h).nv = s.nv := by unfold State.setHtw; exact Eq.refl _

@[simp] theorem State.setHtw_icu (s : State) (h : Htw) :
    (State.setHtw s h).icu = s.icu := by unfold State.setHtw; exact Eq.refl _

@[simp] theorem State.setHtw_power (s : State) (h : Htw) :
    (State.setHtw s h).power = s.power := by unfold State.setHtw; exact Eq.refl _

@[simp] theorem State.setHtw_supply (s : State) (h : Htw) :
    (State.setHtw s h).supply = s.supply := by unfold State.setHtw; exact Eq.refl _

@[simp] theorem State.setHtw_radio (s : State) (h : Htw) :
    (State.setHtw s h).radio = s.radio := by unfold State.setHtw; exact Eq.refl _

@[simp] theorem State.setHtw_ple (s : State) (h : Htw) :
    (State.setHtw s h).ple = s.ple := by unfold State.setHtw; exact Eq.refl _

@[simp] theorem State.setHtw_ssc (s : State) (h : Htw) :
    (State.setHtw s h).ssc = s.ssc := by unfold State.setHtw; exact Eq.refl _

@[simp] theorem State.setHtw_ssl (s : State) (h : Htw) :
    (State.setHtw s h).ssl = s.ssl := by unfold State.setHtw; exact Eq.refl _

@[simp] theorem State.setHtw_saf (s : State) (h : Htw) :
    (State.setHtw s h).saf = s.saf := by unfold State.setHtw; exact Eq.refl _

@[simp] theorem State.setHtw_hsp (s : State) (h : Htw) :
    (State.setHtw s h).hsp = s.hsp := by unfold State.setHtw; exact Eq.refl _

@[simp] theorem State.setHtw_load (s : State) (h : Htw) :
    (State.setHtw s h).load = s.load := by unfold State.setHtw; exact Eq.refl _

@[simp] theorem State.setHtw_testFrom (s : State) (h : Htw) :
    (State.setHtw s h).testFrom = s.testFrom := by unfold State.setHtw; exact Eq.refl _

@[simp] theorem State.setHtw_commitPorts (s : State) (h : Htw) :
    (State.setHtw s h).commitPorts = s.commitPorts := by unfold State.setHtw; exact Eq.refl _

@[simp] theorem State.setHtw_free (s : State) (h : Htw) :
    (State.setHtw s h).free = s.free := by unfold State.setHtw; exact Eq.refl _

@[simp] theorem State.setHtw_pending (s : State) (h : Htw) :
    (State.setHtw s h).pending = s.pending := by unfold State.setHtw; exact Eq.refl _

@[simp] theorem State.keepLines_part (s : State) :
    (State.keepLines s).part = s.part := by unfold State.keepLines; exact Eq.refl _

@[simp] theorem State.keepLines_device (s : State) :
    (State.keepLines s).device = s.device := by unfold State.keepLines; exact Eq.refl _

@[simp] theorem State.keepLines_ready (s : State) :
    (State.keepLines s).ready = s.ready := by unfold State.keepLines; exact Eq.refl _

@[simp] theorem State.keepLines_rail33 (s : State) :
    (State.keepLines s).rail33 = s.rail33 := by unfold State.keepLines; exact Eq.refl _

@[simp] theorem State.keepLines_epoch (s : State) :
    (State.keepLines s).epoch = s.epoch := by unfold State.keepLines; exact Eq.refl _

@[simp] theorem State.keepLines_time (s : State) :
    (State.keepLines s).time = s.time := by unfold State.keepLines; exact Eq.refl _

@[simp] theorem State.keepLines_regs (s : State) :
    (State.keepLines s).regs = s.regs := by unfold State.keepLines; exact Eq.refl _

@[simp] theorem State.keepLines_shadow (s : State) :
    (State.keepLines s).shadow = s.shadow := by unfold State.keepLines; exact Eq.refl _

@[simp] theorem State.keepLines_holds (s : State) :
    (State.keepLines s).holds = s.holds := by unfold State.keepLines; exact Eq.refl _

@[simp] theorem State.keepLines_mem (s : State) :
    (State.keepLines s).mem = s.mem := by unfold State.keepLines; exact Eq.refl _

@[simp] theorem State.keepLines_tb (s : State) :
    (State.keepLines s).tb = s.tb := by unfold State.keepLines; exact Eq.refl _

@[simp] theorem State.keepLines_seams (s : State) :
    (State.keepLines s).seams = s.seams := by unfold State.keepLines; exact Eq.refl _

@[simp] theorem State.keepLines_dieX (s : State) :
    (State.keepLines s).dieX = s.dieX := by unfold State.keepLines; exact Eq.refl _

@[simp] theorem State.keepLines_slices (s : State) :
    (State.keepLines s).slices = s.slices := by unfold State.keepLines; exact Eq.refl _

@[simp] theorem State.keepLines_exchs (s : State) :
    (State.keepLines s).exchs = s.exchs := by unfold State.keepLines; exact Eq.refl _

@[simp] theorem State.keepLines_fieldHolds (s : State) :
    (State.keepLines s).fieldHolds = s.fieldHolds := by unfold State.keepLines; exact Eq.refl _

@[simp] theorem State.keepLines_watches (s : State) :
    (State.keepLines s).watches = s.watches := by unfold State.keepLines; exact Eq.refl _

@[simp] theorem State.keepLines_coord (s : State) :
    (State.keepLines s).coord = s.coord := by unfold State.keepLines; exact Eq.refl _

@[simp] theorem State.keepLines_classes (s : State) :
    (State.keepLines s).classes = s.classes := by unfold State.keepLines; exact Eq.refl _

@[simp] theorem State.keepLines_hamper (s : State) :
    (State.keepLines s).hamper = s.hamper := by unfold State.keepLines; exact Eq.refl _

@[simp] theorem State.keepLines_tickets (s : State) :
    (State.keepLines s).tickets = s.tickets := by unfold State.keepLines; exact Eq.refl _

@[simp] theorem State.keepLines_departs (s : State) :
    (State.keepLines s).departs = s.departs := by unfold State.keepLines; exact Eq.refl _

@[simp] theorem State.keepLines_calSets (s : State) :
    (State.keepLines s).calSets = s.calSets := by unfold State.keepLines; exact Eq.refl _

@[simp] theorem State.keepLines_lockBlock (s : State) :
    (State.keepLines s).lockBlock = s.lockBlock := by unfold State.keepLines; exact Eq.refl _

@[simp] theorem State.keepLines_recDone (s : State) :
    (State.keepLines s).recDone = s.recDone := by unfold State.keepLines; exact Eq.refl _

@[simp] theorem State.keepLines_cal (s : State) :
    (State.keepLines s).cal = s.cal := by unfold State.keepLines; exact Eq.refl _

@[simp] theorem State.keepLines_tests (s : State) :
    (State.keepLines s).tests = s.tests := by unfold State.keepLines; exact Eq.refl _

@[simp] theorem State.keepLines_darn (s : State) :
    (State.keepLines s).darn = s.darn := by unfold State.keepLines; exact Eq.refl _

@[simp] theorem State.keepLines_nv (s : State) :
    (State.keepLines s).nv = s.nv := by unfold State.keepLines; exact Eq.refl _

@[simp] theorem State.keepLines_power (s : State) :
    (State.keepLines s).power = s.power := by unfold State.keepLines; exact Eq.refl _

@[simp] theorem State.keepLines_supply (s : State) :
    (State.keepLines s).supply = s.supply := by unfold State.keepLines; exact Eq.refl _

@[simp] theorem State.keepLines_radio (s : State) :
    (State.keepLines s).radio = s.radio := by unfold State.keepLines; exact Eq.refl _

@[simp] theorem State.keepLines_ple (s : State) :
    (State.keepLines s).ple = s.ple := by unfold State.keepLines; exact Eq.refl _

@[simp] theorem State.keepLines_ssc (s : State) :
    (State.keepLines s).ssc = s.ssc := by unfold State.keepLines; exact Eq.refl _

@[simp] theorem State.keepLines_ssl (s : State) :
    (State.keepLines s).ssl = s.ssl := by unfold State.keepLines; exact Eq.refl _

@[simp] theorem State.keepLines_saf (s : State) :
    (State.keepLines s).saf = s.saf := by unfold State.keepLines; exact Eq.refl _

@[simp] theorem State.keepLines_hsp (s : State) :
    (State.keepLines s).hsp = s.hsp := by unfold State.keepLines; exact Eq.refl _

@[simp] theorem State.keepLines_htw (s : State) :
    (State.keepLines s).htw = s.htw := by unfold State.keepLines; exact Eq.refl _

@[simp] theorem State.keepLines_load (s : State) :
    (State.keepLines s).load = s.load := by unfold State.keepLines; exact Eq.refl _

@[simp] theorem State.keepLines_testFrom (s : State) :
    (State.keepLines s).testFrom = s.testFrom := by unfold State.keepLines; exact Eq.refl _

@[simp] theorem State.keepLines_commitPorts (s : State) :
    (State.keepLines s).commitPorts = s.commitPorts := by unfold State.keepLines; exact Eq.refl _

@[simp] theorem State.keepLines_free (s : State) :
    (State.keepLines s).free = s.free := by unfold State.keepLines; exact Eq.refl _

@[simp] theorem State.keepLines_pending (s : State) :
    (State.keepLines s).pending = s.pending := by unfold State.keepLines; exact Eq.refl _

@[simp] theorem State.nvQueue_part (s : State) (o : NvOp) :
    (State.nvQueue s o).part = s.part := by unfold State.nvQueue; exact Eq.refl _

@[simp] theorem State.nvQueue_device (s : State) (o : NvOp) :
    (State.nvQueue s o).device = s.device := by unfold State.nvQueue; exact Eq.refl _

@[simp] theorem State.nvQueue_ready (s : State) (o : NvOp) :
    (State.nvQueue s o).ready = s.ready := by unfold State.nvQueue; exact Eq.refl _

@[simp] theorem State.nvQueue_rail33 (s : State) (o : NvOp) :
    (State.nvQueue s o).rail33 = s.rail33 := by unfold State.nvQueue; exact Eq.refl _

@[simp] theorem State.nvQueue_epoch (s : State) (o : NvOp) :
    (State.nvQueue s o).epoch = s.epoch := by unfold State.nvQueue; exact Eq.refl _

@[simp] theorem State.nvQueue_time (s : State) (o : NvOp) :
    (State.nvQueue s o).time = s.time := by unfold State.nvQueue; exact Eq.refl _

@[simp] theorem State.nvQueue_regs (s : State) (o : NvOp) :
    (State.nvQueue s o).regs = s.regs := by unfold State.nvQueue; exact Eq.refl _

@[simp] theorem State.nvQueue_shadow (s : State) (o : NvOp) :
    (State.nvQueue s o).shadow = s.shadow := by unfold State.nvQueue; exact Eq.refl _

@[simp] theorem State.nvQueue_holds (s : State) (o : NvOp) :
    (State.nvQueue s o).holds = s.holds := by unfold State.nvQueue; exact Eq.refl _

@[simp] theorem State.nvQueue_mem (s : State) (o : NvOp) :
    (State.nvQueue s o).mem = s.mem := by unfold State.nvQueue; exact Eq.refl _

@[simp] theorem State.nvQueue_tb (s : State) (o : NvOp) :
    (State.nvQueue s o).tb = s.tb := by unfold State.nvQueue; exact Eq.refl _

@[simp] theorem State.nvQueue_seams (s : State) (o : NvOp) :
    (State.nvQueue s o).seams = s.seams := by unfold State.nvQueue; exact Eq.refl _

@[simp] theorem State.nvQueue_dieX (s : State) (o : NvOp) :
    (State.nvQueue s o).dieX = s.dieX := by unfold State.nvQueue; exact Eq.refl _

@[simp] theorem State.nvQueue_slices (s : State) (o : NvOp) :
    (State.nvQueue s o).slices = s.slices := by unfold State.nvQueue; exact Eq.refl _

@[simp] theorem State.nvQueue_exchs (s : State) (o : NvOp) :
    (State.nvQueue s o).exchs = s.exchs := by unfold State.nvQueue; exact Eq.refl _

@[simp] theorem State.nvQueue_fieldHolds (s : State) (o : NvOp) :
    (State.nvQueue s o).fieldHolds = s.fieldHolds := by unfold State.nvQueue; exact Eq.refl _

@[simp] theorem State.nvQueue_watches (s : State) (o : NvOp) :
    (State.nvQueue s o).watches = s.watches := by unfold State.nvQueue; exact Eq.refl _

@[simp] theorem State.nvQueue_coord (s : State) (o : NvOp) :
    (State.nvQueue s o).coord = s.coord := by unfold State.nvQueue; exact Eq.refl _

@[simp] theorem State.nvQueue_classes (s : State) (o : NvOp) :
    (State.nvQueue s o).classes = s.classes := by unfold State.nvQueue; exact Eq.refl _

@[simp] theorem State.nvQueue_hamper (s : State) (o : NvOp) :
    (State.nvQueue s o).hamper = s.hamper := by unfold State.nvQueue; exact Eq.refl _

@[simp] theorem State.nvQueue_tickets (s : State) (o : NvOp) :
    (State.nvQueue s o).tickets = s.tickets := by unfold State.nvQueue; exact Eq.refl _

@[simp] theorem State.nvQueue_departs (s : State) (o : NvOp) :
    (State.nvQueue s o).departs = s.departs := by unfold State.nvQueue; exact Eq.refl _

@[simp] theorem State.nvQueue_calSets (s : State) (o : NvOp) :
    (State.nvQueue s o).calSets = s.calSets := by unfold State.nvQueue; exact Eq.refl _

@[simp] theorem State.nvQueue_lockBlock (s : State) (o : NvOp) :
    (State.nvQueue s o).lockBlock = s.lockBlock := by unfold State.nvQueue; exact Eq.refl _

@[simp] theorem State.nvQueue_recDone (s : State) (o : NvOp) :
    (State.nvQueue s o).recDone = s.recDone := by unfold State.nvQueue; exact Eq.refl _

@[simp] theorem State.nvQueue_cal (s : State) (o : NvOp) :
    (State.nvQueue s o).cal = s.cal := by unfold State.nvQueue; exact Eq.refl _

@[simp] theorem State.nvQueue_tests (s : State) (o : NvOp) :
    (State.nvQueue s o).tests = s.tests := by unfold State.nvQueue; exact Eq.refl _

@[simp] theorem State.nvQueue_darn (s : State) (o : NvOp) :
    (State.nvQueue s o).darn = s.darn := by unfold State.nvQueue; exact Eq.refl _

@[simp] theorem State.nvQueue_icu (s : State) (o : NvOp) :
    (State.nvQueue s o).icu = s.icu := by unfold State.nvQueue; exact Eq.refl _

@[simp] theorem State.nvQueue_power (s : State) (o : NvOp) :
    (State.nvQueue s o).power = s.power := by unfold State.nvQueue; exact Eq.refl _

@[simp] theorem State.nvQueue_supply (s : State) (o : NvOp) :
    (State.nvQueue s o).supply = s.supply := by unfold State.nvQueue; exact Eq.refl _

@[simp] theorem State.nvQueue_radio (s : State) (o : NvOp) :
    (State.nvQueue s o).radio = s.radio := by unfold State.nvQueue; exact Eq.refl _

@[simp] theorem State.nvQueue_ple (s : State) (o : NvOp) :
    (State.nvQueue s o).ple = s.ple := by unfold State.nvQueue; exact Eq.refl _

@[simp] theorem State.nvQueue_ssc (s : State) (o : NvOp) :
    (State.nvQueue s o).ssc = s.ssc := by unfold State.nvQueue; exact Eq.refl _

@[simp] theorem State.nvQueue_ssl (s : State) (o : NvOp) :
    (State.nvQueue s o).ssl = s.ssl := by unfold State.nvQueue; exact Eq.refl _

@[simp] theorem State.nvQueue_saf (s : State) (o : NvOp) :
    (State.nvQueue s o).saf = s.saf := by unfold State.nvQueue; exact Eq.refl _

@[simp] theorem State.nvQueue_hsp (s : State) (o : NvOp) :
    (State.nvQueue s o).hsp = s.hsp := by unfold State.nvQueue; exact Eq.refl _

@[simp] theorem State.nvQueue_htw (s : State) (o : NvOp) :
    (State.nvQueue s o).htw = s.htw := by unfold State.nvQueue; exact Eq.refl _

@[simp] theorem State.nvQueue_load (s : State) (o : NvOp) :
    (State.nvQueue s o).load = s.load := by unfold State.nvQueue; exact Eq.refl _

@[simp] theorem State.nvQueue_testFrom (s : State) (o : NvOp) :
    (State.nvQueue s o).testFrom = s.testFrom := by unfold State.nvQueue; exact Eq.refl _

@[simp] theorem State.nvQueue_commitPorts (s : State) (o : NvOp) :
    (State.nvQueue s o).commitPorts = s.commitPorts := by unfold State.nvQueue; exact Eq.refl _

@[simp] theorem State.nvQueue_free (s : State) (o : NvOp) :
    (State.nvQueue s o).free = s.free := by unfold State.nvQueue; exact Eq.refl _

@[simp] theorem State.nvQueue_pending (s : State) (o : NvOp) :
    (State.nvQueue s o).pending = s.pending := by unfold State.nvQueue; exact Eq.refl _

@[simp] theorem State.nvPop_part (s : State) :
    (State.nvPop s).part = s.part := by unfold State.nvPop; exact Eq.refl _

@[simp] theorem State.nvPop_device (s : State) :
    (State.nvPop s).device = s.device := by unfold State.nvPop; exact Eq.refl _

@[simp] theorem State.nvPop_ready (s : State) :
    (State.nvPop s).ready = s.ready := by unfold State.nvPop; exact Eq.refl _

@[simp] theorem State.nvPop_rail33 (s : State) :
    (State.nvPop s).rail33 = s.rail33 := by unfold State.nvPop; exact Eq.refl _

@[simp] theorem State.nvPop_epoch (s : State) :
    (State.nvPop s).epoch = s.epoch := by unfold State.nvPop; exact Eq.refl _

@[simp] theorem State.nvPop_time (s : State) :
    (State.nvPop s).time = s.time := by unfold State.nvPop; exact Eq.refl _

@[simp] theorem State.nvPop_regs (s : State) :
    (State.nvPop s).regs = s.regs := by unfold State.nvPop; exact Eq.refl _

@[simp] theorem State.nvPop_shadow (s : State) :
    (State.nvPop s).shadow = s.shadow := by unfold State.nvPop; exact Eq.refl _

@[simp] theorem State.nvPop_holds (s : State) :
    (State.nvPop s).holds = s.holds := by unfold State.nvPop; exact Eq.refl _

@[simp] theorem State.nvPop_mem (s : State) :
    (State.nvPop s).mem = s.mem := by unfold State.nvPop; exact Eq.refl _

@[simp] theorem State.nvPop_tb (s : State) :
    (State.nvPop s).tb = s.tb := by unfold State.nvPop; exact Eq.refl _

@[simp] theorem State.nvPop_seams (s : State) :
    (State.nvPop s).seams = s.seams := by unfold State.nvPop; exact Eq.refl _

@[simp] theorem State.nvPop_dieX (s : State) :
    (State.nvPop s).dieX = s.dieX := by unfold State.nvPop; exact Eq.refl _

@[simp] theorem State.nvPop_slices (s : State) :
    (State.nvPop s).slices = s.slices := by unfold State.nvPop; exact Eq.refl _

@[simp] theorem State.nvPop_exchs (s : State) :
    (State.nvPop s).exchs = s.exchs := by unfold State.nvPop; exact Eq.refl _

@[simp] theorem State.nvPop_fieldHolds (s : State) :
    (State.nvPop s).fieldHolds = s.fieldHolds := by unfold State.nvPop; exact Eq.refl _

@[simp] theorem State.nvPop_watches (s : State) :
    (State.nvPop s).watches = s.watches := by unfold State.nvPop; exact Eq.refl _

@[simp] theorem State.nvPop_coord (s : State) :
    (State.nvPop s).coord = s.coord := by unfold State.nvPop; exact Eq.refl _

@[simp] theorem State.nvPop_classes (s : State) :
    (State.nvPop s).classes = s.classes := by unfold State.nvPop; exact Eq.refl _

@[simp] theorem State.nvPop_hamper (s : State) :
    (State.nvPop s).hamper = s.hamper := by unfold State.nvPop; exact Eq.refl _

@[simp] theorem State.nvPop_tickets (s : State) :
    (State.nvPop s).tickets = s.tickets := by unfold State.nvPop; exact Eq.refl _

@[simp] theorem State.nvPop_departs (s : State) :
    (State.nvPop s).departs = s.departs := by unfold State.nvPop; exact Eq.refl _

@[simp] theorem State.nvPop_calSets (s : State) :
    (State.nvPop s).calSets = s.calSets := by unfold State.nvPop; exact Eq.refl _

@[simp] theorem State.nvPop_lockBlock (s : State) :
    (State.nvPop s).lockBlock = s.lockBlock := by unfold State.nvPop; exact Eq.refl _

@[simp] theorem State.nvPop_recDone (s : State) :
    (State.nvPop s).recDone = s.recDone := by unfold State.nvPop; exact Eq.refl _

@[simp] theorem State.nvPop_cal (s : State) :
    (State.nvPop s).cal = s.cal := by unfold State.nvPop; exact Eq.refl _

@[simp] theorem State.nvPop_tests (s : State) :
    (State.nvPop s).tests = s.tests := by unfold State.nvPop; exact Eq.refl _

@[simp] theorem State.nvPop_darn (s : State) :
    (State.nvPop s).darn = s.darn := by unfold State.nvPop; exact Eq.refl _

@[simp] theorem State.nvPop_icu (s : State) :
    (State.nvPop s).icu = s.icu := by unfold State.nvPop; exact Eq.refl _

@[simp] theorem State.nvPop_power (s : State) :
    (State.nvPop s).power = s.power := by unfold State.nvPop; exact Eq.refl _

@[simp] theorem State.nvPop_supply (s : State) :
    (State.nvPop s).supply = s.supply := by unfold State.nvPop; exact Eq.refl _

@[simp] theorem State.nvPop_radio (s : State) :
    (State.nvPop s).radio = s.radio := by unfold State.nvPop; exact Eq.refl _

@[simp] theorem State.nvPop_ple (s : State) :
    (State.nvPop s).ple = s.ple := by unfold State.nvPop; exact Eq.refl _

@[simp] theorem State.nvPop_ssc (s : State) :
    (State.nvPop s).ssc = s.ssc := by unfold State.nvPop; exact Eq.refl _

@[simp] theorem State.nvPop_ssl (s : State) :
    (State.nvPop s).ssl = s.ssl := by unfold State.nvPop; exact Eq.refl _

@[simp] theorem State.nvPop_saf (s : State) :
    (State.nvPop s).saf = s.saf := by unfold State.nvPop; exact Eq.refl _

@[simp] theorem State.nvPop_hsp (s : State) :
    (State.nvPop s).hsp = s.hsp := by unfold State.nvPop; exact Eq.refl _

@[simp] theorem State.nvPop_htw (s : State) :
    (State.nvPop s).htw = s.htw := by unfold State.nvPop; exact Eq.refl _

@[simp] theorem State.nvPop_load (s : State) :
    (State.nvPop s).load = s.load := by unfold State.nvPop; exact Eq.refl _

@[simp] theorem State.nvPop_testFrom (s : State) :
    (State.nvPop s).testFrom = s.testFrom := by unfold State.nvPop; exact Eq.refl _

@[simp] theorem State.nvPop_commitPorts (s : State) :
    (State.nvPop s).commitPorts = s.commitPorts := by unfold State.nvPop; exact Eq.refl _

@[simp] theorem State.nvPop_free (s : State) :
    (State.nvPop s).free = s.free := by unfold State.nvPop; exact Eq.refl _

@[simp] theorem State.nvPop_pending (s : State) :
    (State.nvPop s).pending = s.pending := by unfold State.nvPop; exact Eq.refl _

@[simp] theorem State.setReg_part (s : State) (die page off : Nat) (v : Word) :
    (State.setReg s die page off v).part = s.part := by unfold State.setReg; exact Eq.refl _

@[simp] theorem State.setReg_device (s : State) (die page off : Nat) (v : Word) :
    (State.setReg s die page off v).device = s.device := by unfold State.setReg; exact Eq.refl _

@[simp] theorem State.setReg_ready (s : State) (die page off : Nat) (v : Word) :
    (State.setReg s die page off v).ready = s.ready := by unfold State.setReg; exact Eq.refl _

@[simp] theorem State.setReg_rail33 (s : State) (die page off : Nat) (v : Word) :
    (State.setReg s die page off v).rail33 = s.rail33 := by unfold State.setReg; exact Eq.refl _

@[simp] theorem State.setReg_epoch (s : State) (die page off : Nat) (v : Word) :
    (State.setReg s die page off v).epoch = s.epoch := by unfold State.setReg; exact Eq.refl _

@[simp] theorem State.setReg_time (s : State) (die page off : Nat) (v : Word) :
    (State.setReg s die page off v).time = s.time := by unfold State.setReg; exact Eq.refl _

@[simp] theorem State.setReg_shadow (s : State) (die page off : Nat) (v : Word) :
    (State.setReg s die page off v).shadow = s.shadow := by unfold State.setReg; exact Eq.refl _

@[simp] theorem State.setReg_holds (s : State) (die page off : Nat) (v : Word) :
    (State.setReg s die page off v).holds = s.holds := by unfold State.setReg; exact Eq.refl _

@[simp] theorem State.setReg_mem (s : State) (die page off : Nat) (v : Word) :
    (State.setReg s die page off v).mem = s.mem := by unfold State.setReg; exact Eq.refl _

@[simp] theorem State.setReg_tb (s : State) (die page off : Nat) (v : Word) :
    (State.setReg s die page off v).tb = s.tb := by unfold State.setReg; exact Eq.refl _

@[simp] theorem State.setReg_seams (s : State) (die page off : Nat) (v : Word) :
    (State.setReg s die page off v).seams = s.seams := by unfold State.setReg; exact Eq.refl _

@[simp] theorem State.setReg_dieX (s : State) (die page off : Nat) (v : Word) :
    (State.setReg s die page off v).dieX = s.dieX := by unfold State.setReg; exact Eq.refl _

@[simp] theorem State.setReg_slices (s : State) (die page off : Nat) (v : Word) :
    (State.setReg s die page off v).slices = s.slices := by unfold State.setReg; exact Eq.refl _

@[simp] theorem State.setReg_exchs (s : State) (die page off : Nat) (v : Word) :
    (State.setReg s die page off v).exchs = s.exchs := by unfold State.setReg; exact Eq.refl _

@[simp] theorem State.setReg_fieldHolds (s : State) (die page off : Nat) (v : Word) :
    (State.setReg s die page off v).fieldHolds = s.fieldHolds := by unfold State.setReg; exact Eq.refl _

@[simp] theorem State.setReg_watches (s : State) (die page off : Nat) (v : Word) :
    (State.setReg s die page off v).watches = s.watches := by unfold State.setReg; exact Eq.refl _

@[simp] theorem State.setReg_coord (s : State) (die page off : Nat) (v : Word) :
    (State.setReg s die page off v).coord = s.coord := by unfold State.setReg; exact Eq.refl _

@[simp] theorem State.setReg_classes (s : State) (die page off : Nat) (v : Word) :
    (State.setReg s die page off v).classes = s.classes := by unfold State.setReg; exact Eq.refl _

@[simp] theorem State.setReg_hamper (s : State) (die page off : Nat) (v : Word) :
    (State.setReg s die page off v).hamper = s.hamper := by unfold State.setReg; exact Eq.refl _

@[simp] theorem State.setReg_tickets (s : State) (die page off : Nat) (v : Word) :
    (State.setReg s die page off v).tickets = s.tickets := by unfold State.setReg; exact Eq.refl _

@[simp] theorem State.setReg_departs (s : State) (die page off : Nat) (v : Word) :
    (State.setReg s die page off v).departs = s.departs := by unfold State.setReg; exact Eq.refl _

@[simp] theorem State.setReg_calSets (s : State) (die page off : Nat) (v : Word) :
    (State.setReg s die page off v).calSets = s.calSets := by unfold State.setReg; exact Eq.refl _

@[simp] theorem State.setReg_lockBlock (s : State) (die page off : Nat) (v : Word) :
    (State.setReg s die page off v).lockBlock = s.lockBlock := by unfold State.setReg; exact Eq.refl _

@[simp] theorem State.setReg_recDone (s : State) (die page off : Nat) (v : Word) :
    (State.setReg s die page off v).recDone = s.recDone := by unfold State.setReg; exact Eq.refl _

@[simp] theorem State.setReg_cal (s : State) (die page off : Nat) (v : Word) :
    (State.setReg s die page off v).cal = s.cal := by unfold State.setReg; exact Eq.refl _

@[simp] theorem State.setReg_tests (s : State) (die page off : Nat) (v : Word) :
    (State.setReg s die page off v).tests = s.tests := by unfold State.setReg; exact Eq.refl _

@[simp] theorem State.setReg_darn (s : State) (die page off : Nat) (v : Word) :
    (State.setReg s die page off v).darn = s.darn := by unfold State.setReg; exact Eq.refl _

@[simp] theorem State.setReg_nv (s : State) (die page off : Nat) (v : Word) :
    (State.setReg s die page off v).nv = s.nv := by unfold State.setReg; exact Eq.refl _

@[simp] theorem State.setReg_icu (s : State) (die page off : Nat) (v : Word) :
    (State.setReg s die page off v).icu = s.icu := by unfold State.setReg; exact Eq.refl _

@[simp] theorem State.setReg_power (s : State) (die page off : Nat) (v : Word) :
    (State.setReg s die page off v).power = s.power := by unfold State.setReg; exact Eq.refl _

@[simp] theorem State.setReg_supply (s : State) (die page off : Nat) (v : Word) :
    (State.setReg s die page off v).supply = s.supply := by unfold State.setReg; exact Eq.refl _

@[simp] theorem State.setReg_radio (s : State) (die page off : Nat) (v : Word) :
    (State.setReg s die page off v).radio = s.radio := by unfold State.setReg; exact Eq.refl _

@[simp] theorem State.setReg_ple (s : State) (die page off : Nat) (v : Word) :
    (State.setReg s die page off v).ple = s.ple := by unfold State.setReg; exact Eq.refl _

@[simp] theorem State.setReg_ssc (s : State) (die page off : Nat) (v : Word) :
    (State.setReg s die page off v).ssc = s.ssc := by unfold State.setReg; exact Eq.refl _

@[simp] theorem State.setReg_ssl (s : State) (die page off : Nat) (v : Word) :
    (State.setReg s die page off v).ssl = s.ssl := by unfold State.setReg; exact Eq.refl _

@[simp] theorem State.setReg_saf (s : State) (die page off : Nat) (v : Word) :
    (State.setReg s die page off v).saf = s.saf := by unfold State.setReg; exact Eq.refl _

@[simp] theorem State.setReg_hsp (s : State) (die page off : Nat) (v : Word) :
    (State.setReg s die page off v).hsp = s.hsp := by unfold State.setReg; exact Eq.refl _

@[simp] theorem State.setReg_htw (s : State) (die page off : Nat) (v : Word) :
    (State.setReg s die page off v).htw = s.htw := by unfold State.setReg; exact Eq.refl _

@[simp] theorem State.setReg_load (s : State) (die page off : Nat) (v : Word) :
    (State.setReg s die page off v).load = s.load := by unfold State.setReg; exact Eq.refl _

@[simp] theorem State.setReg_testFrom (s : State) (die page off : Nat) (v : Word) :
    (State.setReg s die page off v).testFrom = s.testFrom := by unfold State.setReg; exact Eq.refl _

@[simp] theorem State.setReg_commitPorts (s : State) (die page off : Nat) (v : Word) :
    (State.setReg s die page off v).commitPorts = s.commitPorts := by unfold State.setReg; exact Eq.refl _

@[simp] theorem State.setReg_free (s : State) (die page off : Nat) (v : Word) :
    (State.setReg s die page off v).free = s.free := by unfold State.setReg; exact Eq.refl _

@[simp] theorem State.setReg_pending (s : State) (die page off : Nat) (v : Word) :
    (State.setReg s die page off v).pending = s.pending := by unfold State.setReg; exact Eq.refl _

@[simp] theorem State.setDie_part (s : State) (d : Nat) (x : Die) :
    (State.setDie s d x).part = s.part := by unfold State.setDie; exact Eq.refl _

@[simp] theorem State.setDie_device (s : State) (d : Nat) (x : Die) :
    (State.setDie s d x).device = s.device := by unfold State.setDie; exact Eq.refl _

@[simp] theorem State.setDie_ready (s : State) (d : Nat) (x : Die) :
    (State.setDie s d x).ready = s.ready := by unfold State.setDie; exact Eq.refl _

@[simp] theorem State.setDie_rail33 (s : State) (d : Nat) (x : Die) :
    (State.setDie s d x).rail33 = s.rail33 := by unfold State.setDie; exact Eq.refl _

@[simp] theorem State.setDie_epoch (s : State) (d : Nat) (x : Die) :
    (State.setDie s d x).epoch = s.epoch := by unfold State.setDie; exact Eq.refl _

@[simp] theorem State.setDie_time (s : State) (d : Nat) (x : Die) :
    (State.setDie s d x).time = s.time := by unfold State.setDie; exact Eq.refl _

@[simp] theorem State.setDie_regs (s : State) (d : Nat) (x : Die) :
    (State.setDie s d x).regs = s.regs := by unfold State.setDie; exact Eq.refl _

@[simp] theorem State.setDie_shadow (s : State) (d : Nat) (x : Die) :
    (State.setDie s d x).shadow = s.shadow := by unfold State.setDie; exact Eq.refl _

@[simp] theorem State.setDie_holds (s : State) (d : Nat) (x : Die) :
    (State.setDie s d x).holds = s.holds := by unfold State.setDie; exact Eq.refl _

@[simp] theorem State.setDie_mem (s : State) (d : Nat) (x : Die) :
    (State.setDie s d x).mem = s.mem := by unfold State.setDie; exact Eq.refl _

@[simp] theorem State.setDie_tb (s : State) (d : Nat) (x : Die) :
    (State.setDie s d x).tb = s.tb := by unfold State.setDie; exact Eq.refl _

@[simp] theorem State.setDie_seams (s : State) (d : Nat) (x : Die) :
    (State.setDie s d x).seams = s.seams := by unfold State.setDie; exact Eq.refl _

@[simp] theorem State.setDie_slices (s : State) (d : Nat) (x : Die) :
    (State.setDie s d x).slices = s.slices := by unfold State.setDie; exact Eq.refl _

@[simp] theorem State.setDie_exchs (s : State) (d : Nat) (x : Die) :
    (State.setDie s d x).exchs = s.exchs := by unfold State.setDie; exact Eq.refl _

@[simp] theorem State.setDie_fieldHolds (s : State) (d : Nat) (x : Die) :
    (State.setDie s d x).fieldHolds = s.fieldHolds := by unfold State.setDie; exact Eq.refl _

@[simp] theorem State.setDie_watches (s : State) (d : Nat) (x : Die) :
    (State.setDie s d x).watches = s.watches := by unfold State.setDie; exact Eq.refl _

@[simp] theorem State.setDie_coord (s : State) (d : Nat) (x : Die) :
    (State.setDie s d x).coord = s.coord := by unfold State.setDie; exact Eq.refl _

@[simp] theorem State.setDie_classes (s : State) (d : Nat) (x : Die) :
    (State.setDie s d x).classes = s.classes := by unfold State.setDie; exact Eq.refl _

@[simp] theorem State.setDie_hamper (s : State) (d : Nat) (x : Die) :
    (State.setDie s d x).hamper = s.hamper := by unfold State.setDie; exact Eq.refl _

@[simp] theorem State.setDie_tickets (s : State) (d : Nat) (x : Die) :
    (State.setDie s d x).tickets = s.tickets := by unfold State.setDie; exact Eq.refl _

@[simp] theorem State.setDie_departs (s : State) (d : Nat) (x : Die) :
    (State.setDie s d x).departs = s.departs := by unfold State.setDie; exact Eq.refl _

@[simp] theorem State.setDie_calSets (s : State) (d : Nat) (x : Die) :
    (State.setDie s d x).calSets = s.calSets := by unfold State.setDie; exact Eq.refl _

@[simp] theorem State.setDie_lockBlock (s : State) (d : Nat) (x : Die) :
    (State.setDie s d x).lockBlock = s.lockBlock := by unfold State.setDie; exact Eq.refl _

@[simp] theorem State.setDie_recDone (s : State) (d : Nat) (x : Die) :
    (State.setDie s d x).recDone = s.recDone := by unfold State.setDie; exact Eq.refl _

@[simp] theorem State.setDie_cal (s : State) (d : Nat) (x : Die) :
    (State.setDie s d x).cal = s.cal := by unfold State.setDie; exact Eq.refl _

@[simp] theorem State.setDie_tests (s : State) (d : Nat) (x : Die) :
    (State.setDie s d x).tests = s.tests := by unfold State.setDie; exact Eq.refl _

@[simp] theorem State.setDie_darn (s : State) (d : Nat) (x : Die) :
    (State.setDie s d x).darn = s.darn := by unfold State.setDie; exact Eq.refl _

@[simp] theorem State.setDie_nv (s : State) (d : Nat) (x : Die) :
    (State.setDie s d x).nv = s.nv := by unfold State.setDie; exact Eq.refl _

@[simp] theorem State.setDie_icu (s : State) (d : Nat) (x : Die) :
    (State.setDie s d x).icu = s.icu := by unfold State.setDie; exact Eq.refl _

@[simp] theorem State.setDie_power (s : State) (d : Nat) (x : Die) :
    (State.setDie s d x).power = s.power := by unfold State.setDie; exact Eq.refl _

@[simp] theorem State.setDie_supply (s : State) (d : Nat) (x : Die) :
    (State.setDie s d x).supply = s.supply := by unfold State.setDie; exact Eq.refl _

@[simp] theorem State.setDie_radio (s : State) (d : Nat) (x : Die) :
    (State.setDie s d x).radio = s.radio := by unfold State.setDie; exact Eq.refl _

@[simp] theorem State.setDie_ple (s : State) (d : Nat) (x : Die) :
    (State.setDie s d x).ple = s.ple := by unfold State.setDie; exact Eq.refl _

@[simp] theorem State.setDie_ssc (s : State) (d : Nat) (x : Die) :
    (State.setDie s d x).ssc = s.ssc := by unfold State.setDie; exact Eq.refl _

@[simp] theorem State.setDie_ssl (s : State) (d : Nat) (x : Die) :
    (State.setDie s d x).ssl = s.ssl := by unfold State.setDie; exact Eq.refl _

@[simp] theorem State.setDie_saf (s : State) (d : Nat) (x : Die) :
    (State.setDie s d x).saf = s.saf := by unfold State.setDie; exact Eq.refl _

@[simp] theorem State.setDie_hsp (s : State) (d : Nat) (x : Die) :
    (State.setDie s d x).hsp = s.hsp := by unfold State.setDie; exact Eq.refl _

@[simp] theorem State.setDie_htw (s : State) (d : Nat) (x : Die) :
    (State.setDie s d x).htw = s.htw := by unfold State.setDie; exact Eq.refl _

@[simp] theorem State.setDie_load (s : State) (d : Nat) (x : Die) :
    (State.setDie s d x).load = s.load := by unfold State.setDie; exact Eq.refl _

@[simp] theorem State.setDie_testFrom (s : State) (d : Nat) (x : Die) :
    (State.setDie s d x).testFrom = s.testFrom := by unfold State.setDie; exact Eq.refl _

@[simp] theorem State.setDie_commitPorts (s : State) (d : Nat) (x : Die) :
    (State.setDie s d x).commitPorts = s.commitPorts := by unfold State.setDie; exact Eq.refl _

@[simp] theorem State.setDie_free (s : State) (d : Nat) (x : Die) :
    (State.setDie s d x).free = s.free := by unfold State.setDie; exact Eq.refl _

@[simp] theorem State.setDie_pending (s : State) (d : Nat) (x : Die) :
    (State.setDie s d x).pending = s.pending := by unfold State.setDie; exact Eq.refl _

@[simp] theorem State.setSlice_part (s : State) (d sl : Nat) (x : Slice) :
    (State.setSlice s d sl x).part = s.part := by unfold State.setSlice; exact Eq.refl _

@[simp] theorem State.setSlice_device (s : State) (d sl : Nat) (x : Slice) :
    (State.setSlice s d sl x).device = s.device := by unfold State.setSlice; exact Eq.refl _

@[simp] theorem State.setSlice_ready (s : State) (d sl : Nat) (x : Slice) :
    (State.setSlice s d sl x).ready = s.ready := by unfold State.setSlice; exact Eq.refl _

@[simp] theorem State.setSlice_rail33 (s : State) (d sl : Nat) (x : Slice) :
    (State.setSlice s d sl x).rail33 = s.rail33 := by unfold State.setSlice; exact Eq.refl _

@[simp] theorem State.setSlice_epoch (s : State) (d sl : Nat) (x : Slice) :
    (State.setSlice s d sl x).epoch = s.epoch := by unfold State.setSlice; exact Eq.refl _

@[simp] theorem State.setSlice_time (s : State) (d sl : Nat) (x : Slice) :
    (State.setSlice s d sl x).time = s.time := by unfold State.setSlice; exact Eq.refl _

@[simp] theorem State.setSlice_regs (s : State) (d sl : Nat) (x : Slice) :
    (State.setSlice s d sl x).regs = s.regs := by unfold State.setSlice; exact Eq.refl _

@[simp] theorem State.setSlice_shadow (s : State) (d sl : Nat) (x : Slice) :
    (State.setSlice s d sl x).shadow = s.shadow := by unfold State.setSlice; exact Eq.refl _

@[simp] theorem State.setSlice_holds (s : State) (d sl : Nat) (x : Slice) :
    (State.setSlice s d sl x).holds = s.holds := by unfold State.setSlice; exact Eq.refl _

@[simp] theorem State.setSlice_mem (s : State) (d sl : Nat) (x : Slice) :
    (State.setSlice s d sl x).mem = s.mem := by unfold State.setSlice; exact Eq.refl _

@[simp] theorem State.setSlice_tb (s : State) (d sl : Nat) (x : Slice) :
    (State.setSlice s d sl x).tb = s.tb := by unfold State.setSlice; exact Eq.refl _

@[simp] theorem State.setSlice_seams (s : State) (d sl : Nat) (x : Slice) :
    (State.setSlice s d sl x).seams = s.seams := by unfold State.setSlice; exact Eq.refl _

@[simp] theorem State.setSlice_dieX (s : State) (d sl : Nat) (x : Slice) :
    (State.setSlice s d sl x).dieX = s.dieX := by unfold State.setSlice; exact Eq.refl _

@[simp] theorem State.setSlice_exchs (s : State) (d sl : Nat) (x : Slice) :
    (State.setSlice s d sl x).exchs = s.exchs := by unfold State.setSlice; exact Eq.refl _

@[simp] theorem State.setSlice_fieldHolds (s : State) (d sl : Nat) (x : Slice) :
    (State.setSlice s d sl x).fieldHolds = s.fieldHolds := by unfold State.setSlice; exact Eq.refl _

@[simp] theorem State.setSlice_watches (s : State) (d sl : Nat) (x : Slice) :
    (State.setSlice s d sl x).watches = s.watches := by unfold State.setSlice; exact Eq.refl _

@[simp] theorem State.setSlice_coord (s : State) (d sl : Nat) (x : Slice) :
    (State.setSlice s d sl x).coord = s.coord := by unfold State.setSlice; exact Eq.refl _

@[simp] theorem State.setSlice_classes (s : State) (d sl : Nat) (x : Slice) :
    (State.setSlice s d sl x).classes = s.classes := by unfold State.setSlice; exact Eq.refl _

@[simp] theorem State.setSlice_hamper (s : State) (d sl : Nat) (x : Slice) :
    (State.setSlice s d sl x).hamper = s.hamper := by unfold State.setSlice; exact Eq.refl _

@[simp] theorem State.setSlice_tickets (s : State) (d sl : Nat) (x : Slice) :
    (State.setSlice s d sl x).tickets = s.tickets := by unfold State.setSlice; exact Eq.refl _

@[simp] theorem State.setSlice_departs (s : State) (d sl : Nat) (x : Slice) :
    (State.setSlice s d sl x).departs = s.departs := by unfold State.setSlice; exact Eq.refl _

@[simp] theorem State.setSlice_calSets (s : State) (d sl : Nat) (x : Slice) :
    (State.setSlice s d sl x).calSets = s.calSets := by unfold State.setSlice; exact Eq.refl _

@[simp] theorem State.setSlice_lockBlock (s : State) (d sl : Nat) (x : Slice) :
    (State.setSlice s d sl x).lockBlock = s.lockBlock := by unfold State.setSlice; exact Eq.refl _

@[simp] theorem State.setSlice_recDone (s : State) (d sl : Nat) (x : Slice) :
    (State.setSlice s d sl x).recDone = s.recDone := by unfold State.setSlice; exact Eq.refl _

@[simp] theorem State.setSlice_cal (s : State) (d sl : Nat) (x : Slice) :
    (State.setSlice s d sl x).cal = s.cal := by unfold State.setSlice; exact Eq.refl _

@[simp] theorem State.setSlice_tests (s : State) (d sl : Nat) (x : Slice) :
    (State.setSlice s d sl x).tests = s.tests := by unfold State.setSlice; exact Eq.refl _

@[simp] theorem State.setSlice_darn (s : State) (d sl : Nat) (x : Slice) :
    (State.setSlice s d sl x).darn = s.darn := by unfold State.setSlice; exact Eq.refl _

@[simp] theorem State.setSlice_nv (s : State) (d sl : Nat) (x : Slice) :
    (State.setSlice s d sl x).nv = s.nv := by unfold State.setSlice; exact Eq.refl _

@[simp] theorem State.setSlice_icu (s : State) (d sl : Nat) (x : Slice) :
    (State.setSlice s d sl x).icu = s.icu := by unfold State.setSlice; exact Eq.refl _

@[simp] theorem State.setSlice_power (s : State) (d sl : Nat) (x : Slice) :
    (State.setSlice s d sl x).power = s.power := by unfold State.setSlice; exact Eq.refl _

@[simp] theorem State.setSlice_supply (s : State) (d sl : Nat) (x : Slice) :
    (State.setSlice s d sl x).supply = s.supply := by unfold State.setSlice; exact Eq.refl _

@[simp] theorem State.setSlice_radio (s : State) (d sl : Nat) (x : Slice) :
    (State.setSlice s d sl x).radio = s.radio := by unfold State.setSlice; exact Eq.refl _

@[simp] theorem State.setSlice_ple (s : State) (d sl : Nat) (x : Slice) :
    (State.setSlice s d sl x).ple = s.ple := by unfold State.setSlice; exact Eq.refl _

@[simp] theorem State.setSlice_ssc (s : State) (d sl : Nat) (x : Slice) :
    (State.setSlice s d sl x).ssc = s.ssc := by unfold State.setSlice; exact Eq.refl _

@[simp] theorem State.setSlice_ssl (s : State) (d sl : Nat) (x : Slice) :
    (State.setSlice s d sl x).ssl = s.ssl := by unfold State.setSlice; exact Eq.refl _

@[simp] theorem State.setSlice_saf (s : State) (d sl : Nat) (x : Slice) :
    (State.setSlice s d sl x).saf = s.saf := by unfold State.setSlice; exact Eq.refl _

@[simp] theorem State.setSlice_hsp (s : State) (d sl : Nat) (x : Slice) :
    (State.setSlice s d sl x).hsp = s.hsp := by unfold State.setSlice; exact Eq.refl _

@[simp] theorem State.setSlice_htw (s : State) (d sl : Nat) (x : Slice) :
    (State.setSlice s d sl x).htw = s.htw := by unfold State.setSlice; exact Eq.refl _

@[simp] theorem State.setSlice_load (s : State) (d sl : Nat) (x : Slice) :
    (State.setSlice s d sl x).load = s.load := by unfold State.setSlice; exact Eq.refl _

@[simp] theorem State.setSlice_testFrom (s : State) (d sl : Nat) (x : Slice) :
    (State.setSlice s d sl x).testFrom = s.testFrom := by unfold State.setSlice; exact Eq.refl _

@[simp] theorem State.setSlice_commitPorts (s : State) (d sl : Nat) (x : Slice) :
    (State.setSlice s d sl x).commitPorts = s.commitPorts := by unfold State.setSlice; exact Eq.refl _

@[simp] theorem State.setSlice_free (s : State) (d sl : Nat) (x : Slice) :
    (State.setSlice s d sl x).free = s.free := by unfold State.setSlice; exact Eq.refl _

@[simp] theorem State.setSlice_pending (s : State) (d sl : Nat) (x : Slice) :
    (State.setSlice s d sl x).pending = s.pending := by unfold State.setSlice; exact Eq.refl _

@[simp] theorem State.setExch_part (s : State) (d p : Nat) (e : Exch) :
    (State.setExch s d p e).part = s.part := by unfold State.setExch; exact Eq.refl _

@[simp] theorem State.setExch_device (s : State) (d p : Nat) (e : Exch) :
    (State.setExch s d p e).device = s.device := by unfold State.setExch; exact Eq.refl _

@[simp] theorem State.setExch_ready (s : State) (d p : Nat) (e : Exch) :
    (State.setExch s d p e).ready = s.ready := by unfold State.setExch; exact Eq.refl _

@[simp] theorem State.setExch_rail33 (s : State) (d p : Nat) (e : Exch) :
    (State.setExch s d p e).rail33 = s.rail33 := by unfold State.setExch; exact Eq.refl _

@[simp] theorem State.setExch_epoch (s : State) (d p : Nat) (e : Exch) :
    (State.setExch s d p e).epoch = s.epoch := by unfold State.setExch; exact Eq.refl _

@[simp] theorem State.setExch_time (s : State) (d p : Nat) (e : Exch) :
    (State.setExch s d p e).time = s.time := by unfold State.setExch; exact Eq.refl _

@[simp] theorem State.setExch_regs (s : State) (d p : Nat) (e : Exch) :
    (State.setExch s d p e).regs = s.regs := by unfold State.setExch; exact Eq.refl _

@[simp] theorem State.setExch_shadow (s : State) (d p : Nat) (e : Exch) :
    (State.setExch s d p e).shadow = s.shadow := by unfold State.setExch; exact Eq.refl _

@[simp] theorem State.setExch_holds (s : State) (d p : Nat) (e : Exch) :
    (State.setExch s d p e).holds = s.holds := by unfold State.setExch; exact Eq.refl _

@[simp] theorem State.setExch_mem (s : State) (d p : Nat) (e : Exch) :
    (State.setExch s d p e).mem = s.mem := by unfold State.setExch; exact Eq.refl _

@[simp] theorem State.setExch_tb (s : State) (d p : Nat) (e : Exch) :
    (State.setExch s d p e).tb = s.tb := by unfold State.setExch; exact Eq.refl _

@[simp] theorem State.setExch_seams (s : State) (d p : Nat) (e : Exch) :
    (State.setExch s d p e).seams = s.seams := by unfold State.setExch; exact Eq.refl _

@[simp] theorem State.setExch_dieX (s : State) (d p : Nat) (e : Exch) :
    (State.setExch s d p e).dieX = s.dieX := by unfold State.setExch; exact Eq.refl _

@[simp] theorem State.setExch_slices (s : State) (d p : Nat) (e : Exch) :
    (State.setExch s d p e).slices = s.slices := by unfold State.setExch; exact Eq.refl _

@[simp] theorem State.setExch_fieldHolds (s : State) (d p : Nat) (e : Exch) :
    (State.setExch s d p e).fieldHolds = s.fieldHolds := by unfold State.setExch; exact Eq.refl _

@[simp] theorem State.setExch_watches (s : State) (d p : Nat) (e : Exch) :
    (State.setExch s d p e).watches = s.watches := by unfold State.setExch; exact Eq.refl _

@[simp] theorem State.setExch_coord (s : State) (d p : Nat) (e : Exch) :
    (State.setExch s d p e).coord = s.coord := by unfold State.setExch; exact Eq.refl _

@[simp] theorem State.setExch_classes (s : State) (d p : Nat) (e : Exch) :
    (State.setExch s d p e).classes = s.classes := by unfold State.setExch; exact Eq.refl _

@[simp] theorem State.setExch_hamper (s : State) (d p : Nat) (e : Exch) :
    (State.setExch s d p e).hamper = s.hamper := by unfold State.setExch; exact Eq.refl _

@[simp] theorem State.setExch_tickets (s : State) (d p : Nat) (e : Exch) :
    (State.setExch s d p e).tickets = s.tickets := by unfold State.setExch; exact Eq.refl _

@[simp] theorem State.setExch_departs (s : State) (d p : Nat) (e : Exch) :
    (State.setExch s d p e).departs = s.departs := by unfold State.setExch; exact Eq.refl _

@[simp] theorem State.setExch_calSets (s : State) (d p : Nat) (e : Exch) :
    (State.setExch s d p e).calSets = s.calSets := by unfold State.setExch; exact Eq.refl _

@[simp] theorem State.setExch_lockBlock (s : State) (d p : Nat) (e : Exch) :
    (State.setExch s d p e).lockBlock = s.lockBlock := by unfold State.setExch; exact Eq.refl _

@[simp] theorem State.setExch_recDone (s : State) (d p : Nat) (e : Exch) :
    (State.setExch s d p e).recDone = s.recDone := by unfold State.setExch; exact Eq.refl _

@[simp] theorem State.setExch_cal (s : State) (d p : Nat) (e : Exch) :
    (State.setExch s d p e).cal = s.cal := by unfold State.setExch; exact Eq.refl _

@[simp] theorem State.setExch_tests (s : State) (d p : Nat) (e : Exch) :
    (State.setExch s d p e).tests = s.tests := by unfold State.setExch; exact Eq.refl _

@[simp] theorem State.setExch_darn (s : State) (d p : Nat) (e : Exch) :
    (State.setExch s d p e).darn = s.darn := by unfold State.setExch; exact Eq.refl _

@[simp] theorem State.setExch_nv (s : State) (d p : Nat) (e : Exch) :
    (State.setExch s d p e).nv = s.nv := by unfold State.setExch; exact Eq.refl _

@[simp] theorem State.setExch_icu (s : State) (d p : Nat) (e : Exch) :
    (State.setExch s d p e).icu = s.icu := by unfold State.setExch; exact Eq.refl _

@[simp] theorem State.setExch_power (s : State) (d p : Nat) (e : Exch) :
    (State.setExch s d p e).power = s.power := by unfold State.setExch; exact Eq.refl _

@[simp] theorem State.setExch_supply (s : State) (d p : Nat) (e : Exch) :
    (State.setExch s d p e).supply = s.supply := by unfold State.setExch; exact Eq.refl _

@[simp] theorem State.setExch_radio (s : State) (d p : Nat) (e : Exch) :
    (State.setExch s d p e).radio = s.radio := by unfold State.setExch; exact Eq.refl _

@[simp] theorem State.setExch_ple (s : State) (d p : Nat) (e : Exch) :
    (State.setExch s d p e).ple = s.ple := by unfold State.setExch; exact Eq.refl _

@[simp] theorem State.setExch_ssc (s : State) (d p : Nat) (e : Exch) :
    (State.setExch s d p e).ssc = s.ssc := by unfold State.setExch; exact Eq.refl _

@[simp] theorem State.setExch_ssl (s : State) (d p : Nat) (e : Exch) :
    (State.setExch s d p e).ssl = s.ssl := by unfold State.setExch; exact Eq.refl _

@[simp] theorem State.setExch_saf (s : State) (d p : Nat) (e : Exch) :
    (State.setExch s d p e).saf = s.saf := by unfold State.setExch; exact Eq.refl _

@[simp] theorem State.setExch_hsp (s : State) (d p : Nat) (e : Exch) :
    (State.setExch s d p e).hsp = s.hsp := by unfold State.setExch; exact Eq.refl _

@[simp] theorem State.setExch_htw (s : State) (d p : Nat) (e : Exch) :
    (State.setExch s d p e).htw = s.htw := by unfold State.setExch; exact Eq.refl _

@[simp] theorem State.setExch_load (s : State) (d p : Nat) (e : Exch) :
    (State.setExch s d p e).load = s.load := by unfold State.setExch; exact Eq.refl _

@[simp] theorem State.setExch_testFrom (s : State) (d p : Nat) (e : Exch) :
    (State.setExch s d p e).testFrom = s.testFrom := by unfold State.setExch; exact Eq.refl _

@[simp] theorem State.setExch_commitPorts (s : State) (d p : Nat) (e : Exch) :
    (State.setExch s d p e).commitPorts = s.commitPorts := by unfold State.setExch; exact Eq.refl _

@[simp] theorem State.setExch_free (s : State) (d p : Nat) (e : Exch) :
    (State.setExch s d p e).free = s.free := by unfold State.setExch; exact Eq.refl _

@[simp] theorem State.setExch_pending (s : State) (d p : Nat) (e : Exch) :
    (State.setExch s d p e).pending = s.pending := by unfold State.setExch; exact Eq.refl _

@[simp] theorem State.dropExch_part (s : State) (d p : Nat) :
    (State.dropExch s d p).part = s.part := by unfold State.dropExch; exact Eq.refl _

@[simp] theorem State.dropExch_device (s : State) (d p : Nat) :
    (State.dropExch s d p).device = s.device := by unfold State.dropExch; exact Eq.refl _

@[simp] theorem State.dropExch_ready (s : State) (d p : Nat) :
    (State.dropExch s d p).ready = s.ready := by unfold State.dropExch; exact Eq.refl _

@[simp] theorem State.dropExch_rail33 (s : State) (d p : Nat) :
    (State.dropExch s d p).rail33 = s.rail33 := by unfold State.dropExch; exact Eq.refl _

@[simp] theorem State.dropExch_epoch (s : State) (d p : Nat) :
    (State.dropExch s d p).epoch = s.epoch := by unfold State.dropExch; exact Eq.refl _

@[simp] theorem State.dropExch_time (s : State) (d p : Nat) :
    (State.dropExch s d p).time = s.time := by unfold State.dropExch; exact Eq.refl _

@[simp] theorem State.dropExch_regs (s : State) (d p : Nat) :
    (State.dropExch s d p).regs = s.regs := by unfold State.dropExch; exact Eq.refl _

@[simp] theorem State.dropExch_shadow (s : State) (d p : Nat) :
    (State.dropExch s d p).shadow = s.shadow := by unfold State.dropExch; exact Eq.refl _

@[simp] theorem State.dropExch_holds (s : State) (d p : Nat) :
    (State.dropExch s d p).holds = s.holds := by unfold State.dropExch; exact Eq.refl _

@[simp] theorem State.dropExch_mem (s : State) (d p : Nat) :
    (State.dropExch s d p).mem = s.mem := by unfold State.dropExch; exact Eq.refl _

@[simp] theorem State.dropExch_tb (s : State) (d p : Nat) :
    (State.dropExch s d p).tb = s.tb := by unfold State.dropExch; exact Eq.refl _

@[simp] theorem State.dropExch_seams (s : State) (d p : Nat) :
    (State.dropExch s d p).seams = s.seams := by unfold State.dropExch; exact Eq.refl _

@[simp] theorem State.dropExch_dieX (s : State) (d p : Nat) :
    (State.dropExch s d p).dieX = s.dieX := by unfold State.dropExch; exact Eq.refl _

@[simp] theorem State.dropExch_slices (s : State) (d p : Nat) :
    (State.dropExch s d p).slices = s.slices := by unfold State.dropExch; exact Eq.refl _

@[simp] theorem State.dropExch_fieldHolds (s : State) (d p : Nat) :
    (State.dropExch s d p).fieldHolds = s.fieldHolds := by unfold State.dropExch; exact Eq.refl _

@[simp] theorem State.dropExch_watches (s : State) (d p : Nat) :
    (State.dropExch s d p).watches = s.watches := by unfold State.dropExch; exact Eq.refl _

@[simp] theorem State.dropExch_coord (s : State) (d p : Nat) :
    (State.dropExch s d p).coord = s.coord := by unfold State.dropExch; exact Eq.refl _

@[simp] theorem State.dropExch_classes (s : State) (d p : Nat) :
    (State.dropExch s d p).classes = s.classes := by unfold State.dropExch; exact Eq.refl _

@[simp] theorem State.dropExch_hamper (s : State) (d p : Nat) :
    (State.dropExch s d p).hamper = s.hamper := by unfold State.dropExch; exact Eq.refl _

@[simp] theorem State.dropExch_tickets (s : State) (d p : Nat) :
    (State.dropExch s d p).tickets = s.tickets := by unfold State.dropExch; exact Eq.refl _

@[simp] theorem State.dropExch_departs (s : State) (d p : Nat) :
    (State.dropExch s d p).departs = s.departs := by unfold State.dropExch; exact Eq.refl _

@[simp] theorem State.dropExch_calSets (s : State) (d p : Nat) :
    (State.dropExch s d p).calSets = s.calSets := by unfold State.dropExch; exact Eq.refl _

@[simp] theorem State.dropExch_lockBlock (s : State) (d p : Nat) :
    (State.dropExch s d p).lockBlock = s.lockBlock := by unfold State.dropExch; exact Eq.refl _

@[simp] theorem State.dropExch_recDone (s : State) (d p : Nat) :
    (State.dropExch s d p).recDone = s.recDone := by unfold State.dropExch; exact Eq.refl _

@[simp] theorem State.dropExch_cal (s : State) (d p : Nat) :
    (State.dropExch s d p).cal = s.cal := by unfold State.dropExch; exact Eq.refl _

@[simp] theorem State.dropExch_tests (s : State) (d p : Nat) :
    (State.dropExch s d p).tests = s.tests := by unfold State.dropExch; exact Eq.refl _

@[simp] theorem State.dropExch_darn (s : State) (d p : Nat) :
    (State.dropExch s d p).darn = s.darn := by unfold State.dropExch; exact Eq.refl _

@[simp] theorem State.dropExch_nv (s : State) (d p : Nat) :
    (State.dropExch s d p).nv = s.nv := by unfold State.dropExch; exact Eq.refl _

@[simp] theorem State.dropExch_icu (s : State) (d p : Nat) :
    (State.dropExch s d p).icu = s.icu := by unfold State.dropExch; exact Eq.refl _

@[simp] theorem State.dropExch_power (s : State) (d p : Nat) :
    (State.dropExch s d p).power = s.power := by unfold State.dropExch; exact Eq.refl _

@[simp] theorem State.dropExch_supply (s : State) (d p : Nat) :
    (State.dropExch s d p).supply = s.supply := by unfold State.dropExch; exact Eq.refl _

@[simp] theorem State.dropExch_radio (s : State) (d p : Nat) :
    (State.dropExch s d p).radio = s.radio := by unfold State.dropExch; exact Eq.refl _

@[simp] theorem State.dropExch_ple (s : State) (d p : Nat) :
    (State.dropExch s d p).ple = s.ple := by unfold State.dropExch; exact Eq.refl _

@[simp] theorem State.dropExch_ssc (s : State) (d p : Nat) :
    (State.dropExch s d p).ssc = s.ssc := by unfold State.dropExch; exact Eq.refl _

@[simp] theorem State.dropExch_ssl (s : State) (d p : Nat) :
    (State.dropExch s d p).ssl = s.ssl := by unfold State.dropExch; exact Eq.refl _

@[simp] theorem State.dropExch_saf (s : State) (d p : Nat) :
    (State.dropExch s d p).saf = s.saf := by unfold State.dropExch; exact Eq.refl _

@[simp] theorem State.dropExch_hsp (s : State) (d p : Nat) :
    (State.dropExch s d p).hsp = s.hsp := by unfold State.dropExch; exact Eq.refl _

@[simp] theorem State.dropExch_htw (s : State) (d p : Nat) :
    (State.dropExch s d p).htw = s.htw := by unfold State.dropExch; exact Eq.refl _

@[simp] theorem State.dropExch_load (s : State) (d p : Nat) :
    (State.dropExch s d p).load = s.load := by unfold State.dropExch; exact Eq.refl _

@[simp] theorem State.dropExch_testFrom (s : State) (d p : Nat) :
    (State.dropExch s d p).testFrom = s.testFrom := by unfold State.dropExch; exact Eq.refl _

@[simp] theorem State.dropExch_commitPorts (s : State) (d p : Nat) :
    (State.dropExch s d p).commitPorts = s.commitPorts := by unfold State.dropExch; exact Eq.refl _

@[simp] theorem State.dropExch_free (s : State) (d p : Nat) :
    (State.dropExch s d p).free = s.free := by unfold State.dropExch; exact Eq.refl _

@[simp] theorem State.dropExch_pending (s : State) (d p : Nat) :
    (State.dropExch s d p).pending = s.pending := by unfold State.dropExch; exact Eq.refl _

@[simp] theorem State.setWatch_part (s : State) (d p : Nat) (w : Watch) :
    (State.setWatch s d p w).part = s.part := by unfold State.setWatch; exact Eq.refl _

@[simp] theorem State.setWatch_device (s : State) (d p : Nat) (w : Watch) :
    (State.setWatch s d p w).device = s.device := by unfold State.setWatch; exact Eq.refl _

@[simp] theorem State.setWatch_ready (s : State) (d p : Nat) (w : Watch) :
    (State.setWatch s d p w).ready = s.ready := by unfold State.setWatch; exact Eq.refl _

@[simp] theorem State.setWatch_rail33 (s : State) (d p : Nat) (w : Watch) :
    (State.setWatch s d p w).rail33 = s.rail33 := by unfold State.setWatch; exact Eq.refl _

@[simp] theorem State.setWatch_epoch (s : State) (d p : Nat) (w : Watch) :
    (State.setWatch s d p w).epoch = s.epoch := by unfold State.setWatch; exact Eq.refl _

@[simp] theorem State.setWatch_time (s : State) (d p : Nat) (w : Watch) :
    (State.setWatch s d p w).time = s.time := by unfold State.setWatch; exact Eq.refl _

@[simp] theorem State.setWatch_regs (s : State) (d p : Nat) (w : Watch) :
    (State.setWatch s d p w).regs = s.regs := by unfold State.setWatch; exact Eq.refl _

@[simp] theorem State.setWatch_shadow (s : State) (d p : Nat) (w : Watch) :
    (State.setWatch s d p w).shadow = s.shadow := by unfold State.setWatch; exact Eq.refl _

@[simp] theorem State.setWatch_holds (s : State) (d p : Nat) (w : Watch) :
    (State.setWatch s d p w).holds = s.holds := by unfold State.setWatch; exact Eq.refl _

@[simp] theorem State.setWatch_mem (s : State) (d p : Nat) (w : Watch) :
    (State.setWatch s d p w).mem = s.mem := by unfold State.setWatch; exact Eq.refl _

@[simp] theorem State.setWatch_tb (s : State) (d p : Nat) (w : Watch) :
    (State.setWatch s d p w).tb = s.tb := by unfold State.setWatch; exact Eq.refl _

@[simp] theorem State.setWatch_seams (s : State) (d p : Nat) (w : Watch) :
    (State.setWatch s d p w).seams = s.seams := by unfold State.setWatch; exact Eq.refl _

@[simp] theorem State.setWatch_dieX (s : State) (d p : Nat) (w : Watch) :
    (State.setWatch s d p w).dieX = s.dieX := by unfold State.setWatch; exact Eq.refl _

@[simp] theorem State.setWatch_slices (s : State) (d p : Nat) (w : Watch) :
    (State.setWatch s d p w).slices = s.slices := by unfold State.setWatch; exact Eq.refl _

@[simp] theorem State.setWatch_exchs (s : State) (d p : Nat) (w : Watch) :
    (State.setWatch s d p w).exchs = s.exchs := by unfold State.setWatch; exact Eq.refl _

@[simp] theorem State.setWatch_fieldHolds (s : State) (d p : Nat) (w : Watch) :
    (State.setWatch s d p w).fieldHolds = s.fieldHolds := by unfold State.setWatch; exact Eq.refl _

@[simp] theorem State.setWatch_coord (s : State) (d p : Nat) (w : Watch) :
    (State.setWatch s d p w).coord = s.coord := by unfold State.setWatch; exact Eq.refl _

@[simp] theorem State.setWatch_classes (s : State) (d p : Nat) (w : Watch) :
    (State.setWatch s d p w).classes = s.classes := by unfold State.setWatch; exact Eq.refl _

@[simp] theorem State.setWatch_hamper (s : State) (d p : Nat) (w : Watch) :
    (State.setWatch s d p w).hamper = s.hamper := by unfold State.setWatch; exact Eq.refl _

@[simp] theorem State.setWatch_tickets (s : State) (d p : Nat) (w : Watch) :
    (State.setWatch s d p w).tickets = s.tickets := by unfold State.setWatch; exact Eq.refl _

@[simp] theorem State.setWatch_departs (s : State) (d p : Nat) (w : Watch) :
    (State.setWatch s d p w).departs = s.departs := by unfold State.setWatch; exact Eq.refl _

@[simp] theorem State.setWatch_calSets (s : State) (d p : Nat) (w : Watch) :
    (State.setWatch s d p w).calSets = s.calSets := by unfold State.setWatch; exact Eq.refl _

@[simp] theorem State.setWatch_lockBlock (s : State) (d p : Nat) (w : Watch) :
    (State.setWatch s d p w).lockBlock = s.lockBlock := by unfold State.setWatch; exact Eq.refl _

@[simp] theorem State.setWatch_recDone (s : State) (d p : Nat) (w : Watch) :
    (State.setWatch s d p w).recDone = s.recDone := by unfold State.setWatch; exact Eq.refl _

@[simp] theorem State.setWatch_cal (s : State) (d p : Nat) (w : Watch) :
    (State.setWatch s d p w).cal = s.cal := by unfold State.setWatch; exact Eq.refl _

@[simp] theorem State.setWatch_tests (s : State) (d p : Nat) (w : Watch) :
    (State.setWatch s d p w).tests = s.tests := by unfold State.setWatch; exact Eq.refl _

@[simp] theorem State.setWatch_darn (s : State) (d p : Nat) (w : Watch) :
    (State.setWatch s d p w).darn = s.darn := by unfold State.setWatch; exact Eq.refl _

@[simp] theorem State.setWatch_nv (s : State) (d p : Nat) (w : Watch) :
    (State.setWatch s d p w).nv = s.nv := by unfold State.setWatch; exact Eq.refl _

@[simp] theorem State.setWatch_icu (s : State) (d p : Nat) (w : Watch) :
    (State.setWatch s d p w).icu = s.icu := by unfold State.setWatch; exact Eq.refl _

@[simp] theorem State.setWatch_power (s : State) (d p : Nat) (w : Watch) :
    (State.setWatch s d p w).power = s.power := by unfold State.setWatch; exact Eq.refl _

@[simp] theorem State.setWatch_supply (s : State) (d p : Nat) (w : Watch) :
    (State.setWatch s d p w).supply = s.supply := by unfold State.setWatch; exact Eq.refl _

@[simp] theorem State.setWatch_radio (s : State) (d p : Nat) (w : Watch) :
    (State.setWatch s d p w).radio = s.radio := by unfold State.setWatch; exact Eq.refl _

@[simp] theorem State.setWatch_ple (s : State) (d p : Nat) (w : Watch) :
    (State.setWatch s d p w).ple = s.ple := by unfold State.setWatch; exact Eq.refl _

@[simp] theorem State.setWatch_ssc (s : State) (d p : Nat) (w : Watch) :
    (State.setWatch s d p w).ssc = s.ssc := by unfold State.setWatch; exact Eq.refl _

@[simp] theorem State.setWatch_ssl (s : State) (d p : Nat) (w : Watch) :
    (State.setWatch s d p w).ssl = s.ssl := by unfold State.setWatch; exact Eq.refl _

@[simp] theorem State.setWatch_saf (s : State) (d p : Nat) (w : Watch) :
    (State.setWatch s d p w).saf = s.saf := by unfold State.setWatch; exact Eq.refl _

@[simp] theorem State.setWatch_hsp (s : State) (d p : Nat) (w : Watch) :
    (State.setWatch s d p w).hsp = s.hsp := by unfold State.setWatch; exact Eq.refl _

@[simp] theorem State.setWatch_htw (s : State) (d p : Nat) (w : Watch) :
    (State.setWatch s d p w).htw = s.htw := by unfold State.setWatch; exact Eq.refl _

@[simp] theorem State.setWatch_load (s : State) (d p : Nat) (w : Watch) :
    (State.setWatch s d p w).load = s.load := by unfold State.setWatch; exact Eq.refl _

@[simp] theorem State.setWatch_testFrom (s : State) (d p : Nat) (w : Watch) :
    (State.setWatch s d p w).testFrom = s.testFrom := by unfold State.setWatch; exact Eq.refl _

@[simp] theorem State.setWatch_commitPorts (s : State) (d p : Nat) (w : Watch) :
    (State.setWatch s d p w).commitPorts = s.commitPorts := by unfold State.setWatch; exact Eq.refl _

@[simp] theorem State.setWatch_free (s : State) (d p : Nat) (w : Watch) :
    (State.setWatch s d p w).free = s.free := by unfold State.setWatch; exact Eq.refl _

@[simp] theorem State.setWatch_pending (s : State) (d p : Nat) (w : Watch) :
    (State.setWatch s d p w).pending = s.pending := by unfold State.setWatch; exact Eq.refl _

@[simp] theorem State.setMemWord_part (s : State) (a : Nat) (w : Word) :
    (State.setMemWord s a w).part = s.part := by unfold State.setMemWord; exact Eq.refl _

@[simp] theorem State.setMemWord_device (s : State) (a : Nat) (w : Word) :
    (State.setMemWord s a w).device = s.device := by unfold State.setMemWord; exact Eq.refl _

@[simp] theorem State.setMemWord_ready (s : State) (a : Nat) (w : Word) :
    (State.setMemWord s a w).ready = s.ready := by unfold State.setMemWord; exact Eq.refl _

@[simp] theorem State.setMemWord_rail33 (s : State) (a : Nat) (w : Word) :
    (State.setMemWord s a w).rail33 = s.rail33 := by unfold State.setMemWord; exact Eq.refl _

@[simp] theorem State.setMemWord_epoch (s : State) (a : Nat) (w : Word) :
    (State.setMemWord s a w).epoch = s.epoch := by unfold State.setMemWord; exact Eq.refl _

@[simp] theorem State.setMemWord_time (s : State) (a : Nat) (w : Word) :
    (State.setMemWord s a w).time = s.time := by unfold State.setMemWord; exact Eq.refl _

@[simp] theorem State.setMemWord_regs (s : State) (a : Nat) (w : Word) :
    (State.setMemWord s a w).regs = s.regs := by unfold State.setMemWord; exact Eq.refl _

@[simp] theorem State.setMemWord_shadow (s : State) (a : Nat) (w : Word) :
    (State.setMemWord s a w).shadow = s.shadow := by unfold State.setMemWord; exact Eq.refl _

@[simp] theorem State.setMemWord_holds (s : State) (a : Nat) (w : Word) :
    (State.setMemWord s a w).holds = s.holds := by unfold State.setMemWord; exact Eq.refl _

@[simp] theorem State.setMemWord_tb (s : State) (a : Nat) (w : Word) :
    (State.setMemWord s a w).tb = s.tb := by unfold State.setMemWord; exact Eq.refl _

@[simp] theorem State.setMemWord_seams (s : State) (a : Nat) (w : Word) :
    (State.setMemWord s a w).seams = s.seams := by unfold State.setMemWord; exact Eq.refl _

@[simp] theorem State.setMemWord_dieX (s : State) (a : Nat) (w : Word) :
    (State.setMemWord s a w).dieX = s.dieX := by unfold State.setMemWord; exact Eq.refl _

@[simp] theorem State.setMemWord_slices (s : State) (a : Nat) (w : Word) :
    (State.setMemWord s a w).slices = s.slices := by unfold State.setMemWord; exact Eq.refl _

@[simp] theorem State.setMemWord_exchs (s : State) (a : Nat) (w : Word) :
    (State.setMemWord s a w).exchs = s.exchs := by unfold State.setMemWord; exact Eq.refl _

@[simp] theorem State.setMemWord_fieldHolds (s : State) (a : Nat) (w : Word) :
    (State.setMemWord s a w).fieldHolds = s.fieldHolds := by unfold State.setMemWord; exact Eq.refl _

@[simp] theorem State.setMemWord_watches (s : State) (a : Nat) (w : Word) :
    (State.setMemWord s a w).watches = s.watches := by unfold State.setMemWord; exact Eq.refl _

@[simp] theorem State.setMemWord_coord (s : State) (a : Nat) (w : Word) :
    (State.setMemWord s a w).coord = s.coord := by unfold State.setMemWord; exact Eq.refl _

@[simp] theorem State.setMemWord_classes (s : State) (a : Nat) (w : Word) :
    (State.setMemWord s a w).classes = s.classes := by unfold State.setMemWord; exact Eq.refl _

@[simp] theorem State.setMemWord_hamper (s : State) (a : Nat) (w : Word) :
    (State.setMemWord s a w).hamper = s.hamper := by unfold State.setMemWord; exact Eq.refl _

@[simp] theorem State.setMemWord_tickets (s : State) (a : Nat) (w : Word) :
    (State.setMemWord s a w).tickets = s.tickets := by unfold State.setMemWord; exact Eq.refl _

@[simp] theorem State.setMemWord_departs (s : State) (a : Nat) (w : Word) :
    (State.setMemWord s a w).departs = s.departs := by unfold State.setMemWord; exact Eq.refl _

@[simp] theorem State.setMemWord_calSets (s : State) (a : Nat) (w : Word) :
    (State.setMemWord s a w).calSets = s.calSets := by unfold State.setMemWord; exact Eq.refl _

@[simp] theorem State.setMemWord_lockBlock (s : State) (a : Nat) (w : Word) :
    (State.setMemWord s a w).lockBlock = s.lockBlock := by unfold State.setMemWord; exact Eq.refl _

@[simp] theorem State.setMemWord_recDone (s : State) (a : Nat) (w : Word) :
    (State.setMemWord s a w).recDone = s.recDone := by unfold State.setMemWord; exact Eq.refl _

@[simp] theorem State.setMemWord_cal (s : State) (a : Nat) (w : Word) :
    (State.setMemWord s a w).cal = s.cal := by unfold State.setMemWord; exact Eq.refl _

@[simp] theorem State.setMemWord_tests (s : State) (a : Nat) (w : Word) :
    (State.setMemWord s a w).tests = s.tests := by unfold State.setMemWord; exact Eq.refl _

@[simp] theorem State.setMemWord_darn (s : State) (a : Nat) (w : Word) :
    (State.setMemWord s a w).darn = s.darn := by unfold State.setMemWord; exact Eq.refl _

@[simp] theorem State.setMemWord_nv (s : State) (a : Nat) (w : Word) :
    (State.setMemWord s a w).nv = s.nv := by unfold State.setMemWord; exact Eq.refl _

@[simp] theorem State.setMemWord_icu (s : State) (a : Nat) (w : Word) :
    (State.setMemWord s a w).icu = s.icu := by unfold State.setMemWord; exact Eq.refl _

@[simp] theorem State.setMemWord_power (s : State) (a : Nat) (w : Word) :
    (State.setMemWord s a w).power = s.power := by unfold State.setMemWord; exact Eq.refl _

@[simp] theorem State.setMemWord_supply (s : State) (a : Nat) (w : Word) :
    (State.setMemWord s a w).supply = s.supply := by unfold State.setMemWord; exact Eq.refl _

@[simp] theorem State.setMemWord_radio (s : State) (a : Nat) (w : Word) :
    (State.setMemWord s a w).radio = s.radio := by unfold State.setMemWord; exact Eq.refl _

@[simp] theorem State.setMemWord_ple (s : State) (a : Nat) (w : Word) :
    (State.setMemWord s a w).ple = s.ple := by unfold State.setMemWord; exact Eq.refl _

@[simp] theorem State.setMemWord_ssc (s : State) (a : Nat) (w : Word) :
    (State.setMemWord s a w).ssc = s.ssc := by unfold State.setMemWord; exact Eq.refl _

@[simp] theorem State.setMemWord_ssl (s : State) (a : Nat) (w : Word) :
    (State.setMemWord s a w).ssl = s.ssl := by unfold State.setMemWord; exact Eq.refl _

@[simp] theorem State.setMemWord_saf (s : State) (a : Nat) (w : Word) :
    (State.setMemWord s a w).saf = s.saf := by unfold State.setMemWord; exact Eq.refl _

@[simp] theorem State.setMemWord_hsp (s : State) (a : Nat) (w : Word) :
    (State.setMemWord s a w).hsp = s.hsp := by unfold State.setMemWord; exact Eq.refl _

@[simp] theorem State.setMemWord_htw (s : State) (a : Nat) (w : Word) :
    (State.setMemWord s a w).htw = s.htw := by unfold State.setMemWord; exact Eq.refl _

@[simp] theorem State.setMemWord_load (s : State) (a : Nat) (w : Word) :
    (State.setMemWord s a w).load = s.load := by unfold State.setMemWord; exact Eq.refl _

@[simp] theorem State.setMemWord_testFrom (s : State) (a : Nat) (w : Word) :
    (State.setMemWord s a w).testFrom = s.testFrom := by unfold State.setMemWord; exact Eq.refl _

@[simp] theorem State.setMemWord_commitPorts (s : State) (a : Nat) (w : Word) :
    (State.setMemWord s a w).commitPorts = s.commitPorts := by unfold State.setMemWord; exact Eq.refl _

@[simp] theorem State.setMemWord_free (s : State) (a : Nat) (w : Word) :
    (State.setMemWord s a w).free = s.free := by unfold State.setMemWord; exact Eq.refl _

@[simp] theorem State.setMemWord_pending (s : State) (a : Nat) (w : Word) :
    (State.setMemWord s a w).pending = s.pending := by unfold State.setMemWord; exact Eq.refl _

@[simp] theorem State.advance_part (s : State) (n : Nat) :
    (State.advance s n).part = s.part := by unfold State.advance; exact Eq.refl _

@[simp] theorem State.advance_device (s : State) (n : Nat) :
    (State.advance s n).device = s.device := by unfold State.advance; exact Eq.refl _

@[simp] theorem State.advance_ready (s : State) (n : Nat) :
    (State.advance s n).ready = s.ready := by unfold State.advance; exact Eq.refl _

@[simp] theorem State.advance_rail33 (s : State) (n : Nat) :
    (State.advance s n).rail33 = s.rail33 := by unfold State.advance; exact Eq.refl _

@[simp] theorem State.advance_epoch (s : State) (n : Nat) :
    (State.advance s n).epoch = s.epoch := by unfold State.advance; exact Eq.refl _

@[simp] theorem State.advance_regs (s : State) (n : Nat) :
    (State.advance s n).regs = s.regs := by unfold State.advance; exact Eq.refl _

@[simp] theorem State.advance_shadow (s : State) (n : Nat) :
    (State.advance s n).shadow = s.shadow := by unfold State.advance; exact Eq.refl _

@[simp] theorem State.advance_holds (s : State) (n : Nat) :
    (State.advance s n).holds = s.holds := by unfold State.advance; exact Eq.refl _

@[simp] theorem State.advance_mem (s : State) (n : Nat) :
    (State.advance s n).mem = s.mem := by unfold State.advance; exact Eq.refl _

@[simp] theorem State.advance_tb (s : State) (n : Nat) :
    (State.advance s n).tb = s.tb := by unfold State.advance; exact Eq.refl _

@[simp] theorem State.advance_seams (s : State) (n : Nat) :
    (State.advance s n).seams = s.seams := by unfold State.advance; exact Eq.refl _

@[simp] theorem State.advance_dieX (s : State) (n : Nat) :
    (State.advance s n).dieX = s.dieX := by unfold State.advance; exact Eq.refl _

@[simp] theorem State.advance_slices (s : State) (n : Nat) :
    (State.advance s n).slices = s.slices := by unfold State.advance; exact Eq.refl _

@[simp] theorem State.advance_exchs (s : State) (n : Nat) :
    (State.advance s n).exchs = s.exchs := by unfold State.advance; exact Eq.refl _

@[simp] theorem State.advance_fieldHolds (s : State) (n : Nat) :
    (State.advance s n).fieldHolds = s.fieldHolds := by unfold State.advance; exact Eq.refl _

@[simp] theorem State.advance_watches (s : State) (n : Nat) :
    (State.advance s n).watches = s.watches := by unfold State.advance; exact Eq.refl _

@[simp] theorem State.advance_coord (s : State) (n : Nat) :
    (State.advance s n).coord = s.coord := by unfold State.advance; exact Eq.refl _

@[simp] theorem State.advance_classes (s : State) (n : Nat) :
    (State.advance s n).classes = s.classes := by unfold State.advance; exact Eq.refl _

@[simp] theorem State.advance_hamper (s : State) (n : Nat) :
    (State.advance s n).hamper = s.hamper := by unfold State.advance; exact Eq.refl _

@[simp] theorem State.advance_tickets (s : State) (n : Nat) :
    (State.advance s n).tickets = s.tickets := by unfold State.advance; exact Eq.refl _

@[simp] theorem State.advance_departs (s : State) (n : Nat) :
    (State.advance s n).departs = s.departs := by unfold State.advance; exact Eq.refl _

@[simp] theorem State.advance_calSets (s : State) (n : Nat) :
    (State.advance s n).calSets = s.calSets := by unfold State.advance; exact Eq.refl _

@[simp] theorem State.advance_lockBlock (s : State) (n : Nat) :
    (State.advance s n).lockBlock = s.lockBlock := by unfold State.advance; exact Eq.refl _

@[simp] theorem State.advance_recDone (s : State) (n : Nat) :
    (State.advance s n).recDone = s.recDone := by unfold State.advance; exact Eq.refl _

@[simp] theorem State.advance_cal (s : State) (n : Nat) :
    (State.advance s n).cal = s.cal := by unfold State.advance; exact Eq.refl _

@[simp] theorem State.advance_tests (s : State) (n : Nat) :
    (State.advance s n).tests = s.tests := by unfold State.advance; exact Eq.refl _

@[simp] theorem State.advance_darn (s : State) (n : Nat) :
    (State.advance s n).darn = s.darn := by unfold State.advance; exact Eq.refl _

@[simp] theorem State.advance_nv (s : State) (n : Nat) :
    (State.advance s n).nv = s.nv := by unfold State.advance; exact Eq.refl _

@[simp] theorem State.advance_icu (s : State) (n : Nat) :
    (State.advance s n).icu = s.icu := by unfold State.advance; exact Eq.refl _

@[simp] theorem State.advance_power (s : State) (n : Nat) :
    (State.advance s n).power = s.power := by unfold State.advance; exact Eq.refl _

@[simp] theorem State.advance_supply (s : State) (n : Nat) :
    (State.advance s n).supply = s.supply := by unfold State.advance; exact Eq.refl _

@[simp] theorem State.advance_radio (s : State) (n : Nat) :
    (State.advance s n).radio = s.radio := by unfold State.advance; exact Eq.refl _

@[simp] theorem State.advance_ple (s : State) (n : Nat) :
    (State.advance s n).ple = s.ple := by unfold State.advance; exact Eq.refl _

@[simp] theorem State.advance_ssc (s : State) (n : Nat) :
    (State.advance s n).ssc = s.ssc := by unfold State.advance; exact Eq.refl _

@[simp] theorem State.advance_ssl (s : State) (n : Nat) :
    (State.advance s n).ssl = s.ssl := by unfold State.advance; exact Eq.refl _

@[simp] theorem State.advance_saf (s : State) (n : Nat) :
    (State.advance s n).saf = s.saf := by unfold State.advance; exact Eq.refl _

@[simp] theorem State.advance_hsp (s : State) (n : Nat) :
    (State.advance s n).hsp = s.hsp := by unfold State.advance; exact Eq.refl _

@[simp] theorem State.advance_htw (s : State) (n : Nat) :
    (State.advance s n).htw = s.htw := by unfold State.advance; exact Eq.refl _

@[simp] theorem State.advance_load (s : State) (n : Nat) :
    (State.advance s n).load = s.load := by unfold State.advance; exact Eq.refl _

@[simp] theorem State.advance_testFrom (s : State) (n : Nat) :
    (State.advance s n).testFrom = s.testFrom := by unfold State.advance; exact Eq.refl _

@[simp] theorem State.advance_commitPorts (s : State) (n : Nat) :
    (State.advance s n).commitPorts = s.commitPorts := by unfold State.advance; exact Eq.refl _

@[simp] theorem State.advance_free (s : State) (n : Nat) :
    (State.advance s n).free = s.free := by unfold State.advance; exact Eq.refl _

@[simp] theorem State.advance_pending (s : State) (n : Nat) :
    (State.advance s n).pending = s.pending := by unfold State.advance; exact Eq.refl _

@[simp] theorem State.reloadSets_part (s : State) (own : Nat → Bool) :
    (State.reloadSets s own).part = s.part := by unfold State.reloadSets; exact Eq.refl _

@[simp] theorem State.reloadSets_device (s : State) (own : Nat → Bool) :
    (State.reloadSets s own).device = s.device := by unfold State.reloadSets; exact Eq.refl _

@[simp] theorem State.reloadSets_ready (s : State) (own : Nat → Bool) :
    (State.reloadSets s own).ready = s.ready := by unfold State.reloadSets; exact Eq.refl _

@[simp] theorem State.reloadSets_rail33 (s : State) (own : Nat → Bool) :
    (State.reloadSets s own).rail33 = s.rail33 := by unfold State.reloadSets; exact Eq.refl _

@[simp] theorem State.reloadSets_epoch (s : State) (own : Nat → Bool) :
    (State.reloadSets s own).epoch = s.epoch := by unfold State.reloadSets; exact Eq.refl _

@[simp] theorem State.reloadSets_time (s : State) (own : Nat → Bool) :
    (State.reloadSets s own).time = s.time := by unfold State.reloadSets; exact Eq.refl _

@[simp] theorem State.reloadSets_regs (s : State) (own : Nat → Bool) :
    (State.reloadSets s own).regs = s.regs := by unfold State.reloadSets; exact Eq.refl _

@[simp] theorem State.reloadSets_shadow (s : State) (own : Nat → Bool) :
    (State.reloadSets s own).shadow = s.shadow := by unfold State.reloadSets; exact Eq.refl _

@[simp] theorem State.reloadSets_holds (s : State) (own : Nat → Bool) :
    (State.reloadSets s own).holds = s.holds := by unfold State.reloadSets; exact Eq.refl _

@[simp] theorem State.reloadSets_mem (s : State) (own : Nat → Bool) :
    (State.reloadSets s own).mem = s.mem := by unfold State.reloadSets; exact Eq.refl _

@[simp] theorem State.reloadSets_tb (s : State) (own : Nat → Bool) :
    (State.reloadSets s own).tb = s.tb := by unfold State.reloadSets; exact Eq.refl _

@[simp] theorem State.reloadSets_seams (s : State) (own : Nat → Bool) :
    (State.reloadSets s own).seams = s.seams := by unfold State.reloadSets; exact Eq.refl _

@[simp] theorem State.reloadSets_dieX (s : State) (own : Nat → Bool) :
    (State.reloadSets s own).dieX = s.dieX := by unfold State.reloadSets; exact Eq.refl _

@[simp] theorem State.reloadSets_slices (s : State) (own : Nat → Bool) :
    (State.reloadSets s own).slices = s.slices := by unfold State.reloadSets; exact Eq.refl _

@[simp] theorem State.reloadSets_exchs (s : State) (own : Nat → Bool) :
    (State.reloadSets s own).exchs = s.exchs := by unfold State.reloadSets; exact Eq.refl _

@[simp] theorem State.reloadSets_fieldHolds (s : State) (own : Nat → Bool) :
    (State.reloadSets s own).fieldHolds = s.fieldHolds := by unfold State.reloadSets; exact Eq.refl _

@[simp] theorem State.reloadSets_watches (s : State) (own : Nat → Bool) :
    (State.reloadSets s own).watches = s.watches := by unfold State.reloadSets; exact Eq.refl _

@[simp] theorem State.reloadSets_coord (s : State) (own : Nat → Bool) :
    (State.reloadSets s own).coord = s.coord := by unfold State.reloadSets; exact Eq.refl _

@[simp] theorem State.reloadSets_classes (s : State) (own : Nat → Bool) :
    (State.reloadSets s own).classes = s.classes := by unfold State.reloadSets; exact Eq.refl _

@[simp] theorem State.reloadSets_hamper (s : State) (own : Nat → Bool) :
    (State.reloadSets s own).hamper = s.hamper := by unfold State.reloadSets; exact Eq.refl _

@[simp] theorem State.reloadSets_tickets (s : State) (own : Nat → Bool) :
    (State.reloadSets s own).tickets = s.tickets := by unfold State.reloadSets; exact Eq.refl _

@[simp] theorem State.reloadSets_departs (s : State) (own : Nat → Bool) :
    (State.reloadSets s own).departs = s.departs := by unfold State.reloadSets; exact Eq.refl _

@[simp] theorem State.reloadSets_lockBlock (s : State) (own : Nat → Bool) :
    (State.reloadSets s own).lockBlock = s.lockBlock := by unfold State.reloadSets; exact Eq.refl _

@[simp] theorem State.reloadSets_recDone (s : State) (own : Nat → Bool) :
    (State.reloadSets s own).recDone = s.recDone := by unfold State.reloadSets; exact Eq.refl _

@[simp] theorem State.reloadSets_cal (s : State) (own : Nat → Bool) :
    (State.reloadSets s own).cal = s.cal := by unfold State.reloadSets; exact Eq.refl _

@[simp] theorem State.reloadSets_tests (s : State) (own : Nat → Bool) :
    (State.reloadSets s own).tests = s.tests := by unfold State.reloadSets; exact Eq.refl _

@[simp] theorem State.reloadSets_darn (s : State) (own : Nat → Bool) :
    (State.reloadSets s own).darn = s.darn := by unfold State.reloadSets; exact Eq.refl _

@[simp] theorem State.reloadSets_nv (s : State) (own : Nat → Bool) :
    (State.reloadSets s own).nv = s.nv := by unfold State.reloadSets; exact Eq.refl _

@[simp] theorem State.reloadSets_icu (s : State) (own : Nat → Bool) :
    (State.reloadSets s own).icu = s.icu := by unfold State.reloadSets; exact Eq.refl _

@[simp] theorem State.reloadSets_power (s : State) (own : Nat → Bool) :
    (State.reloadSets s own).power = s.power := by unfold State.reloadSets; exact Eq.refl _

@[simp] theorem State.reloadSets_supply (s : State) (own : Nat → Bool) :
    (State.reloadSets s own).supply = s.supply := by unfold State.reloadSets; exact Eq.refl _

@[simp] theorem State.reloadSets_radio (s : State) (own : Nat → Bool) :
    (State.reloadSets s own).radio = s.radio := by unfold State.reloadSets; exact Eq.refl _

@[simp] theorem State.reloadSets_ple (s : State) (own : Nat → Bool) :
    (State.reloadSets s own).ple = s.ple := by unfold State.reloadSets; exact Eq.refl _

@[simp] theorem State.reloadSets_ssc (s : State) (own : Nat → Bool) :
    (State.reloadSets s own).ssc = s.ssc := by unfold State.reloadSets; exact Eq.refl _

@[simp] theorem State.reloadSets_ssl (s : State) (own : Nat → Bool) :
    (State.reloadSets s own).ssl = s.ssl := by unfold State.reloadSets; exact Eq.refl _

@[simp] theorem State.reloadSets_saf (s : State) (own : Nat → Bool) :
    (State.reloadSets s own).saf = s.saf := by unfold State.reloadSets; exact Eq.refl _

@[simp] theorem State.reloadSets_hsp (s : State) (own : Nat → Bool) :
    (State.reloadSets s own).hsp = s.hsp := by unfold State.reloadSets; exact Eq.refl _

@[simp] theorem State.reloadSets_htw (s : State) (own : Nat → Bool) :
    (State.reloadSets s own).htw = s.htw := by unfold State.reloadSets; exact Eq.refl _

@[simp] theorem State.reloadSets_load (s : State) (own : Nat → Bool) :
    (State.reloadSets s own).load = s.load := by unfold State.reloadSets; exact Eq.refl _

@[simp] theorem State.reloadSets_testFrom (s : State) (own : Nat → Bool) :
    (State.reloadSets s own).testFrom = s.testFrom := by unfold State.reloadSets; exact Eq.refl _

@[simp] theorem State.reloadSets_commitPorts (s : State) (own : Nat → Bool) :
    (State.reloadSets s own).commitPorts = s.commitPorts := by unfold State.reloadSets; exact Eq.refl _

@[simp] theorem State.reloadSets_free (s : State) (own : Nat → Bool) :
    (State.reloadSets s own).free = s.free := by unfold State.reloadSets; exact Eq.refl _

@[simp] theorem State.reloadSets_pending (s : State) (own : Nat → Bool) :
    (State.reloadSets s own).pending = s.pending := by unfold State.reloadSets; exact Eq.refl _

@[simp] theorem State.setSeam_part (s : State) (n : Nat) (x : Seam) :
    (State.setSeam s n x).part = s.part := by unfold State.setSeam; exact Eq.refl _

@[simp] theorem State.setSeam_device (s : State) (n : Nat) (x : Seam) :
    (State.setSeam s n x).device = s.device := by unfold State.setSeam; exact Eq.refl _

@[simp] theorem State.setSeam_ready (s : State) (n : Nat) (x : Seam) :
    (State.setSeam s n x).ready = s.ready := by unfold State.setSeam; exact Eq.refl _

@[simp] theorem State.setSeam_rail33 (s : State) (n : Nat) (x : Seam) :
    (State.setSeam s n x).rail33 = s.rail33 := by unfold State.setSeam; exact Eq.refl _

@[simp] theorem State.setSeam_epoch (s : State) (n : Nat) (x : Seam) :
    (State.setSeam s n x).epoch = s.epoch := by unfold State.setSeam; exact Eq.refl _

@[simp] theorem State.setSeam_time (s : State) (n : Nat) (x : Seam) :
    (State.setSeam s n x).time = s.time := by unfold State.setSeam; exact Eq.refl _

@[simp] theorem State.setSeam_regs (s : State) (n : Nat) (x : Seam) :
    (State.setSeam s n x).regs = s.regs := by unfold State.setSeam; exact Eq.refl _

@[simp] theorem State.setSeam_shadow (s : State) (n : Nat) (x : Seam) :
    (State.setSeam s n x).shadow = s.shadow := by unfold State.setSeam; exact Eq.refl _

@[simp] theorem State.setSeam_holds (s : State) (n : Nat) (x : Seam) :
    (State.setSeam s n x).holds = s.holds := by unfold State.setSeam; exact Eq.refl _

@[simp] theorem State.setSeam_mem (s : State) (n : Nat) (x : Seam) :
    (State.setSeam s n x).mem = s.mem := by unfold State.setSeam; exact Eq.refl _

@[simp] theorem State.setSeam_tb (s : State) (n : Nat) (x : Seam) :
    (State.setSeam s n x).tb = s.tb := by unfold State.setSeam; exact Eq.refl _

@[simp] theorem State.setSeam_dieX (s : State) (n : Nat) (x : Seam) :
    (State.setSeam s n x).dieX = s.dieX := by unfold State.setSeam; exact Eq.refl _

@[simp] theorem State.setSeam_slices (s : State) (n : Nat) (x : Seam) :
    (State.setSeam s n x).slices = s.slices := by unfold State.setSeam; exact Eq.refl _

@[simp] theorem State.setSeam_exchs (s : State) (n : Nat) (x : Seam) :
    (State.setSeam s n x).exchs = s.exchs := by unfold State.setSeam; exact Eq.refl _

@[simp] theorem State.setSeam_fieldHolds (s : State) (n : Nat) (x : Seam) :
    (State.setSeam s n x).fieldHolds = s.fieldHolds := by unfold State.setSeam; exact Eq.refl _

@[simp] theorem State.setSeam_watches (s : State) (n : Nat) (x : Seam) :
    (State.setSeam s n x).watches = s.watches := by unfold State.setSeam; exact Eq.refl _

@[simp] theorem State.setSeam_coord (s : State) (n : Nat) (x : Seam) :
    (State.setSeam s n x).coord = s.coord := by unfold State.setSeam; exact Eq.refl _

@[simp] theorem State.setSeam_classes (s : State) (n : Nat) (x : Seam) :
    (State.setSeam s n x).classes = s.classes := by unfold State.setSeam; exact Eq.refl _

@[simp] theorem State.setSeam_hamper (s : State) (n : Nat) (x : Seam) :
    (State.setSeam s n x).hamper = s.hamper := by unfold State.setSeam; exact Eq.refl _

@[simp] theorem State.setSeam_tickets (s : State) (n : Nat) (x : Seam) :
    (State.setSeam s n x).tickets = s.tickets := by unfold State.setSeam; exact Eq.refl _

@[simp] theorem State.setSeam_departs (s : State) (n : Nat) (x : Seam) :
    (State.setSeam s n x).departs = s.departs := by unfold State.setSeam; exact Eq.refl _

@[simp] theorem State.setSeam_calSets (s : State) (n : Nat) (x : Seam) :
    (State.setSeam s n x).calSets = s.calSets := by unfold State.setSeam; exact Eq.refl _

@[simp] theorem State.setSeam_lockBlock (s : State) (n : Nat) (x : Seam) :
    (State.setSeam s n x).lockBlock = s.lockBlock := by unfold State.setSeam; exact Eq.refl _

@[simp] theorem State.setSeam_recDone (s : State) (n : Nat) (x : Seam) :
    (State.setSeam s n x).recDone = s.recDone := by unfold State.setSeam; exact Eq.refl _

@[simp] theorem State.setSeam_cal (s : State) (n : Nat) (x : Seam) :
    (State.setSeam s n x).cal = s.cal := by unfold State.setSeam; exact Eq.refl _

@[simp] theorem State.setSeam_tests (s : State) (n : Nat) (x : Seam) :
    (State.setSeam s n x).tests = s.tests := by unfold State.setSeam; exact Eq.refl _

@[simp] theorem State.setSeam_darn (s : State) (n : Nat) (x : Seam) :
    (State.setSeam s n x).darn = s.darn := by unfold State.setSeam; exact Eq.refl _

@[simp] theorem State.setSeam_nv (s : State) (n : Nat) (x : Seam) :
    (State.setSeam s n x).nv = s.nv := by unfold State.setSeam; exact Eq.refl _

@[simp] theorem State.setSeam_icu (s : State) (n : Nat) (x : Seam) :
    (State.setSeam s n x).icu = s.icu := by unfold State.setSeam; exact Eq.refl _

@[simp] theorem State.setSeam_power (s : State) (n : Nat) (x : Seam) :
    (State.setSeam s n x).power = s.power := by unfold State.setSeam; exact Eq.refl _

@[simp] theorem State.setSeam_supply (s : State) (n : Nat) (x : Seam) :
    (State.setSeam s n x).supply = s.supply := by unfold State.setSeam; exact Eq.refl _

@[simp] theorem State.setSeam_radio (s : State) (n : Nat) (x : Seam) :
    (State.setSeam s n x).radio = s.radio := by unfold State.setSeam; exact Eq.refl _

@[simp] theorem State.setSeam_ple (s : State) (n : Nat) (x : Seam) :
    (State.setSeam s n x).ple = s.ple := by unfold State.setSeam; exact Eq.refl _

@[simp] theorem State.setSeam_ssc (s : State) (n : Nat) (x : Seam) :
    (State.setSeam s n x).ssc = s.ssc := by unfold State.setSeam; exact Eq.refl _

@[simp] theorem State.setSeam_ssl (s : State) (n : Nat) (x : Seam) :
    (State.setSeam s n x).ssl = s.ssl := by unfold State.setSeam; exact Eq.refl _

@[simp] theorem State.setSeam_saf (s : State) (n : Nat) (x : Seam) :
    (State.setSeam s n x).saf = s.saf := by unfold State.setSeam; exact Eq.refl _

@[simp] theorem State.setSeam_hsp (s : State) (n : Nat) (x : Seam) :
    (State.setSeam s n x).hsp = s.hsp := by unfold State.setSeam; exact Eq.refl _

@[simp] theorem State.setSeam_htw (s : State) (n : Nat) (x : Seam) :
    (State.setSeam s n x).htw = s.htw := by unfold State.setSeam; exact Eq.refl _

@[simp] theorem State.setSeam_load (s : State) (n : Nat) (x : Seam) :
    (State.setSeam s n x).load = s.load := by unfold State.setSeam; exact Eq.refl _

@[simp] theorem State.setSeam_testFrom (s : State) (n : Nat) (x : Seam) :
    (State.setSeam s n x).testFrom = s.testFrom := by unfold State.setSeam; exact Eq.refl _

@[simp] theorem State.setSeam_commitPorts (s : State) (n : Nat) (x : Seam) :
    (State.setSeam s n x).commitPorts = s.commitPorts := by unfold State.setSeam; exact Eq.refl _

@[simp] theorem State.setSeam_free (s : State) (n : Nat) (x : Seam) :
    (State.setSeam s n x).free = s.free := by unfold State.setSeam; exact Eq.refl _

@[simp] theorem State.setSeam_pending (s : State) (n : Nat) (x : Seam) :
    (State.setSeam s n x).pending = s.pending := by unfold State.setSeam; exact Eq.refl _

@[simp] theorem State.passSpare_part (s : State) (d sl : Nat) :
    (State.passSpare s d sl).part = s.part := by unfold State.passSpare; exact Eq.refl _

@[simp] theorem State.passSpare_device (s : State) (d sl : Nat) :
    (State.passSpare s d sl).device = s.device := by unfold State.passSpare; exact Eq.refl _

@[simp] theorem State.passSpare_ready (s : State) (d sl : Nat) :
    (State.passSpare s d sl).ready = s.ready := by unfold State.passSpare; exact Eq.refl _

@[simp] theorem State.passSpare_rail33 (s : State) (d sl : Nat) :
    (State.passSpare s d sl).rail33 = s.rail33 := by unfold State.passSpare; exact Eq.refl _

@[simp] theorem State.passSpare_epoch (s : State) (d sl : Nat) :
    (State.passSpare s d sl).epoch = s.epoch := by unfold State.passSpare; exact Eq.refl _

@[simp] theorem State.passSpare_time (s : State) (d sl : Nat) :
    (State.passSpare s d sl).time = s.time := by unfold State.passSpare; exact Eq.refl _

@[simp] theorem State.passSpare_regs (s : State) (d sl : Nat) :
    (State.passSpare s d sl).regs = s.regs := by unfold State.passSpare; exact Eq.refl _

@[simp] theorem State.passSpare_shadow (s : State) (d sl : Nat) :
    (State.passSpare s d sl).shadow = s.shadow := by unfold State.passSpare; exact Eq.refl _

@[simp] theorem State.passSpare_holds (s : State) (d sl : Nat) :
    (State.passSpare s d sl).holds = s.holds := by unfold State.passSpare; exact Eq.refl _

@[simp] theorem State.passSpare_mem (s : State) (d sl : Nat) :
    (State.passSpare s d sl).mem = s.mem := by unfold State.passSpare; exact Eq.refl _

@[simp] theorem State.passSpare_tb (s : State) (d sl : Nat) :
    (State.passSpare s d sl).tb = s.tb := by unfold State.passSpare; exact Eq.refl _

@[simp] theorem State.passSpare_seams (s : State) (d sl : Nat) :
    (State.passSpare s d sl).seams = s.seams := by unfold State.passSpare; exact Eq.refl _

@[simp] theorem State.passSpare_dieX (s : State) (d sl : Nat) :
    (State.passSpare s d sl).dieX = s.dieX := by unfold State.passSpare; exact Eq.refl _

@[simp] theorem State.passSpare_slices (s : State) (d sl : Nat) :
    (State.passSpare s d sl).slices = s.slices := by unfold State.passSpare; exact Eq.refl _

@[simp] theorem State.passSpare_exchs (s : State) (d sl : Nat) :
    (State.passSpare s d sl).exchs = s.exchs := by unfold State.passSpare; exact Eq.refl _

@[simp] theorem State.passSpare_fieldHolds (s : State) (d sl : Nat) :
    (State.passSpare s d sl).fieldHolds = s.fieldHolds := by unfold State.passSpare; exact Eq.refl _

@[simp] theorem State.passSpare_watches (s : State) (d sl : Nat) :
    (State.passSpare s d sl).watches = s.watches := by unfold State.passSpare; exact Eq.refl _

@[simp] theorem State.passSpare_coord (s : State) (d sl : Nat) :
    (State.passSpare s d sl).coord = s.coord := by unfold State.passSpare; exact Eq.refl _

@[simp] theorem State.passSpare_classes (s : State) (d sl : Nat) :
    (State.passSpare s d sl).classes = s.classes := by unfold State.passSpare; exact Eq.refl _

@[simp] theorem State.passSpare_hamper (s : State) (d sl : Nat) :
    (State.passSpare s d sl).hamper = s.hamper := by unfold State.passSpare; exact Eq.refl _

@[simp] theorem State.passSpare_tickets (s : State) (d sl : Nat) :
    (State.passSpare s d sl).tickets = s.tickets := by unfold State.passSpare; exact Eq.refl _

@[simp] theorem State.passSpare_departs (s : State) (d sl : Nat) :
    (State.passSpare s d sl).departs = s.departs := by unfold State.passSpare; exact Eq.refl _

@[simp] theorem State.passSpare_calSets (s : State) (d sl : Nat) :
    (State.passSpare s d sl).calSets = s.calSets := by unfold State.passSpare; exact Eq.refl _

@[simp] theorem State.passSpare_lockBlock (s : State) (d sl : Nat) :
    (State.passSpare s d sl).lockBlock = s.lockBlock := by unfold State.passSpare; exact Eq.refl _

@[simp] theorem State.passSpare_recDone (s : State) (d sl : Nat) :
    (State.passSpare s d sl).recDone = s.recDone := by unfold State.passSpare; exact Eq.refl _

@[simp] theorem State.passSpare_cal (s : State) (d sl : Nat) :
    (State.passSpare s d sl).cal = s.cal := by unfold State.passSpare; exact Eq.refl _

@[simp] theorem State.passSpare_tests (s : State) (d sl : Nat) :
    (State.passSpare s d sl).tests = s.tests := by unfold State.passSpare; exact Eq.refl _

@[simp] theorem State.passSpare_nv (s : State) (d sl : Nat) :
    (State.passSpare s d sl).nv = s.nv := by unfold State.passSpare; exact Eq.refl _

@[simp] theorem State.passSpare_icu (s : State) (d sl : Nat) :
    (State.passSpare s d sl).icu = s.icu := by unfold State.passSpare; exact Eq.refl _

@[simp] theorem State.passSpare_power (s : State) (d sl : Nat) :
    (State.passSpare s d sl).power = s.power := by unfold State.passSpare; exact Eq.refl _

@[simp] theorem State.passSpare_supply (s : State) (d sl : Nat) :
    (State.passSpare s d sl).supply = s.supply := by unfold State.passSpare; exact Eq.refl _

@[simp] theorem State.passSpare_radio (s : State) (d sl : Nat) :
    (State.passSpare s d sl).radio = s.radio := by unfold State.passSpare; exact Eq.refl _

@[simp] theorem State.passSpare_ple (s : State) (d sl : Nat) :
    (State.passSpare s d sl).ple = s.ple := by unfold State.passSpare; exact Eq.refl _

@[simp] theorem State.passSpare_ssc (s : State) (d sl : Nat) :
    (State.passSpare s d sl).ssc = s.ssc := by unfold State.passSpare; exact Eq.refl _

@[simp] theorem State.passSpare_ssl (s : State) (d sl : Nat) :
    (State.passSpare s d sl).ssl = s.ssl := by unfold State.passSpare; exact Eq.refl _

@[simp] theorem State.passSpare_saf (s : State) (d sl : Nat) :
    (State.passSpare s d sl).saf = s.saf := by unfold State.passSpare; exact Eq.refl _

@[simp] theorem State.passSpare_hsp (s : State) (d sl : Nat) :
    (State.passSpare s d sl).hsp = s.hsp := by unfold State.passSpare; exact Eq.refl _

@[simp] theorem State.passSpare_htw (s : State) (d sl : Nat) :
    (State.passSpare s d sl).htw = s.htw := by unfold State.passSpare; exact Eq.refl _

@[simp] theorem State.passSpare_load (s : State) (d sl : Nat) :
    (State.passSpare s d sl).load = s.load := by unfold State.passSpare; exact Eq.refl _

@[simp] theorem State.passSpare_testFrom (s : State) (d sl : Nat) :
    (State.passSpare s d sl).testFrom = s.testFrom := by unfold State.passSpare; exact Eq.refl _

@[simp] theorem State.passSpare_commitPorts (s : State) (d sl : Nat) :
    (State.passSpare s d sl).commitPorts = s.commitPorts := by unfold State.passSpare; exact Eq.refl _

@[simp] theorem State.passSpare_free (s : State) (d sl : Nat) :
    (State.passSpare s d sl).free = s.free := by unfold State.passSpare; exact Eq.refl _

@[simp] theorem State.passSpare_pending (s : State) (d sl : Nat) :
    (State.passSpare s d sl).pending = s.pending := by unfold State.passSpare; exact Eq.refl _

@[simp] theorem State.setArmed_part (s : State) (n : Nat) (v : Bool) :
    (State.setArmed s n v).part = s.part := by unfold State.setArmed; exact Eq.refl _

@[simp] theorem State.setArmed_device (s : State) (n : Nat) (v : Bool) :
    (State.setArmed s n v).device = s.device := by unfold State.setArmed; exact Eq.refl _

@[simp] theorem State.setArmed_ready (s : State) (n : Nat) (v : Bool) :
    (State.setArmed s n v).ready = s.ready := by unfold State.setArmed; exact Eq.refl _

@[simp] theorem State.setArmed_rail33 (s : State) (n : Nat) (v : Bool) :
    (State.setArmed s n v).rail33 = s.rail33 := by unfold State.setArmed; exact Eq.refl _

@[simp] theorem State.setArmed_epoch (s : State) (n : Nat) (v : Bool) :
    (State.setArmed s n v).epoch = s.epoch := by unfold State.setArmed; exact Eq.refl _

@[simp] theorem State.setArmed_time (s : State) (n : Nat) (v : Bool) :
    (State.setArmed s n v).time = s.time := by unfold State.setArmed; exact Eq.refl _

@[simp] theorem State.setArmed_regs (s : State) (n : Nat) (v : Bool) :
    (State.setArmed s n v).regs = s.regs := by unfold State.setArmed; exact Eq.refl _

@[simp] theorem State.setArmed_shadow (s : State) (n : Nat) (v : Bool) :
    (State.setArmed s n v).shadow = s.shadow := by unfold State.setArmed; exact Eq.refl _

@[simp] theorem State.setArmed_holds (s : State) (n : Nat) (v : Bool) :
    (State.setArmed s n v).holds = s.holds := by unfold State.setArmed; exact Eq.refl _

@[simp] theorem State.setArmed_mem (s : State) (n : Nat) (v : Bool) :
    (State.setArmed s n v).mem = s.mem := by unfold State.setArmed; exact Eq.refl _

@[simp] theorem State.setArmed_seams (s : State) (n : Nat) (v : Bool) :
    (State.setArmed s n v).seams = s.seams := by unfold State.setArmed; exact Eq.refl _

@[simp] theorem State.setArmed_dieX (s : State) (n : Nat) (v : Bool) :
    (State.setArmed s n v).dieX = s.dieX := by unfold State.setArmed; exact Eq.refl _

@[simp] theorem State.setArmed_slices (s : State) (n : Nat) (v : Bool) :
    (State.setArmed s n v).slices = s.slices := by unfold State.setArmed; exact Eq.refl _

@[simp] theorem State.setArmed_exchs (s : State) (n : Nat) (v : Bool) :
    (State.setArmed s n v).exchs = s.exchs := by unfold State.setArmed; exact Eq.refl _

@[simp] theorem State.setArmed_fieldHolds (s : State) (n : Nat) (v : Bool) :
    (State.setArmed s n v).fieldHolds = s.fieldHolds := by unfold State.setArmed; exact Eq.refl _

@[simp] theorem State.setArmed_watches (s : State) (n : Nat) (v : Bool) :
    (State.setArmed s n v).watches = s.watches := by unfold State.setArmed; exact Eq.refl _

@[simp] theorem State.setArmed_coord (s : State) (n : Nat) (v : Bool) :
    (State.setArmed s n v).coord = s.coord := by unfold State.setArmed; exact Eq.refl _

@[simp] theorem State.setArmed_classes (s : State) (n : Nat) (v : Bool) :
    (State.setArmed s n v).classes = s.classes := by unfold State.setArmed; exact Eq.refl _

@[simp] theorem State.setArmed_hamper (s : State) (n : Nat) (v : Bool) :
    (State.setArmed s n v).hamper = s.hamper := by unfold State.setArmed; exact Eq.refl _

@[simp] theorem State.setArmed_tickets (s : State) (n : Nat) (v : Bool) :
    (State.setArmed s n v).tickets = s.tickets := by unfold State.setArmed; exact Eq.refl _

@[simp] theorem State.setArmed_departs (s : State) (n : Nat) (v : Bool) :
    (State.setArmed s n v).departs = s.departs := by unfold State.setArmed; exact Eq.refl _

@[simp] theorem State.setArmed_calSets (s : State) (n : Nat) (v : Bool) :
    (State.setArmed s n v).calSets = s.calSets := by unfold State.setArmed; exact Eq.refl _

@[simp] theorem State.setArmed_lockBlock (s : State) (n : Nat) (v : Bool) :
    (State.setArmed s n v).lockBlock = s.lockBlock := by unfold State.setArmed; exact Eq.refl _

@[simp] theorem State.setArmed_recDone (s : State) (n : Nat) (v : Bool) :
    (State.setArmed s n v).recDone = s.recDone := by unfold State.setArmed; exact Eq.refl _

@[simp] theorem State.setArmed_cal (s : State) (n : Nat) (v : Bool) :
    (State.setArmed s n v).cal = s.cal := by unfold State.setArmed; exact Eq.refl _

@[simp] theorem State.setArmed_tests (s : State) (n : Nat) (v : Bool) :
    (State.setArmed s n v).tests = s.tests := by unfold State.setArmed; exact Eq.refl _

@[simp] theorem State.setArmed_darn (s : State) (n : Nat) (v : Bool) :
    (State.setArmed s n v).darn = s.darn := by unfold State.setArmed; exact Eq.refl _

@[simp] theorem State.setArmed_nv (s : State) (n : Nat) (v : Bool) :
    (State.setArmed s n v).nv = s.nv := by unfold State.setArmed; exact Eq.refl _

@[simp] theorem State.setArmed_icu (s : State) (n : Nat) (v : Bool) :
    (State.setArmed s n v).icu = s.icu := by unfold State.setArmed; exact Eq.refl _

@[simp] theorem State.setArmed_power (s : State) (n : Nat) (v : Bool) :
    (State.setArmed s n v).power = s.power := by unfold State.setArmed; exact Eq.refl _

@[simp] theorem State.setArmed_supply (s : State) (n : Nat) (v : Bool) :
    (State.setArmed s n v).supply = s.supply := by unfold State.setArmed; exact Eq.refl _

@[simp] theorem State.setArmed_radio (s : State) (n : Nat) (v : Bool) :
    (State.setArmed s n v).radio = s.radio := by unfold State.setArmed; exact Eq.refl _

@[simp] theorem State.setArmed_ple (s : State) (n : Nat) (v : Bool) :
    (State.setArmed s n v).ple = s.ple := by unfold State.setArmed; exact Eq.refl _

@[simp] theorem State.setArmed_ssc (s : State) (n : Nat) (v : Bool) :
    (State.setArmed s n v).ssc = s.ssc := by unfold State.setArmed; exact Eq.refl _

@[simp] theorem State.setArmed_ssl (s : State) (n : Nat) (v : Bool) :
    (State.setArmed s n v).ssl = s.ssl := by unfold State.setArmed; exact Eq.refl _

@[simp] theorem State.setArmed_saf (s : State) (n : Nat) (v : Bool) :
    (State.setArmed s n v).saf = s.saf := by unfold State.setArmed; exact Eq.refl _

@[simp] theorem State.setArmed_hsp (s : State) (n : Nat) (v : Bool) :
    (State.setArmed s n v).hsp = s.hsp := by unfold State.setArmed; exact Eq.refl _

@[simp] theorem State.setArmed_htw (s : State) (n : Nat) (v : Bool) :
    (State.setArmed s n v).htw = s.htw := by unfold State.setArmed; exact Eq.refl _

@[simp] theorem State.setArmed_load (s : State) (n : Nat) (v : Bool) :
    (State.setArmed s n v).load = s.load := by unfold State.setArmed; exact Eq.refl _

@[simp] theorem State.setArmed_testFrom (s : State) (n : Nat) (v : Bool) :
    (State.setArmed s n v).testFrom = s.testFrom := by unfold State.setArmed; exact Eq.refl _

@[simp] theorem State.setArmed_commitPorts (s : State) (n : Nat) (v : Bool) :
    (State.setArmed s n v).commitPorts = s.commitPorts := by unfold State.setArmed; exact Eq.refl _

@[simp] theorem State.setArmed_free (s : State) (n : Nat) (v : Bool) :
    (State.setArmed s n v).free = s.free := by unfold State.setArmed; exact Eq.refl _

@[simp] theorem State.setArmed_pending (s : State) (n : Nat) (v : Bool) :
    (State.setArmed s n v).pending = s.pending := by unfold State.setArmed; exact Eq.refl _

@[simp] theorem State.setList_part (s : State) (n : Nat) (l : PleList) :
    (State.setList s n l).part = s.part := by unfold State.setList; exact Eq.refl _

@[simp] theorem State.setList_device (s : State) (n : Nat) (l : PleList) :
    (State.setList s n l).device = s.device := by unfold State.setList; exact Eq.refl _

@[simp] theorem State.setList_ready (s : State) (n : Nat) (l : PleList) :
    (State.setList s n l).ready = s.ready := by unfold State.setList; exact Eq.refl _

@[simp] theorem State.setList_rail33 (s : State) (n : Nat) (l : PleList) :
    (State.setList s n l).rail33 = s.rail33 := by unfold State.setList; exact Eq.refl _

@[simp] theorem State.setList_epoch (s : State) (n : Nat) (l : PleList) :
    (State.setList s n l).epoch = s.epoch := by unfold State.setList; exact Eq.refl _

@[simp] theorem State.setList_time (s : State) (n : Nat) (l : PleList) :
    (State.setList s n l).time = s.time := by unfold State.setList; exact Eq.refl _

@[simp] theorem State.setList_regs (s : State) (n : Nat) (l : PleList) :
    (State.setList s n l).regs = s.regs := by unfold State.setList; exact Eq.refl _

@[simp] theorem State.setList_shadow (s : State) (n : Nat) (l : PleList) :
    (State.setList s n l).shadow = s.shadow := by unfold State.setList; exact Eq.refl _

@[simp] theorem State.setList_holds (s : State) (n : Nat) (l : PleList) :
    (State.setList s n l).holds = s.holds := by unfold State.setList; exact Eq.refl _

@[simp] theorem State.setList_mem (s : State) (n : Nat) (l : PleList) :
    (State.setList s n l).mem = s.mem := by unfold State.setList; exact Eq.refl _

@[simp] theorem State.setList_tb (s : State) (n : Nat) (l : PleList) :
    (State.setList s n l).tb = s.tb := by unfold State.setList; exact Eq.refl _

@[simp] theorem State.setList_seams (s : State) (n : Nat) (l : PleList) :
    (State.setList s n l).seams = s.seams := by unfold State.setList; exact Eq.refl _

@[simp] theorem State.setList_dieX (s : State) (n : Nat) (l : PleList) :
    (State.setList s n l).dieX = s.dieX := by unfold State.setList; exact Eq.refl _

@[simp] theorem State.setList_slices (s : State) (n : Nat) (l : PleList) :
    (State.setList s n l).slices = s.slices := by unfold State.setList; exact Eq.refl _

@[simp] theorem State.setList_exchs (s : State) (n : Nat) (l : PleList) :
    (State.setList s n l).exchs = s.exchs := by unfold State.setList; exact Eq.refl _

@[simp] theorem State.setList_fieldHolds (s : State) (n : Nat) (l : PleList) :
    (State.setList s n l).fieldHolds = s.fieldHolds := by unfold State.setList; exact Eq.refl _

@[simp] theorem State.setList_watches (s : State) (n : Nat) (l : PleList) :
    (State.setList s n l).watches = s.watches := by unfold State.setList; exact Eq.refl _

@[simp] theorem State.setList_coord (s : State) (n : Nat) (l : PleList) :
    (State.setList s n l).coord = s.coord := by unfold State.setList; exact Eq.refl _

@[simp] theorem State.setList_classes (s : State) (n : Nat) (l : PleList) :
    (State.setList s n l).classes = s.classes := by unfold State.setList; exact Eq.refl _

@[simp] theorem State.setList_hamper (s : State) (n : Nat) (l : PleList) :
    (State.setList s n l).hamper = s.hamper := by unfold State.setList; exact Eq.refl _

@[simp] theorem State.setList_tickets (s : State) (n : Nat) (l : PleList) :
    (State.setList s n l).tickets = s.tickets := by unfold State.setList; exact Eq.refl _

@[simp] theorem State.setList_departs (s : State) (n : Nat) (l : PleList) :
    (State.setList s n l).departs = s.departs := by unfold State.setList; exact Eq.refl _

@[simp] theorem State.setList_calSets (s : State) (n : Nat) (l : PleList) :
    (State.setList s n l).calSets = s.calSets := by unfold State.setList; exact Eq.refl _

@[simp] theorem State.setList_lockBlock (s : State) (n : Nat) (l : PleList) :
    (State.setList s n l).lockBlock = s.lockBlock := by unfold State.setList; exact Eq.refl _

@[simp] theorem State.setList_recDone (s : State) (n : Nat) (l : PleList) :
    (State.setList s n l).recDone = s.recDone := by unfold State.setList; exact Eq.refl _

@[simp] theorem State.setList_cal (s : State) (n : Nat) (l : PleList) :
    (State.setList s n l).cal = s.cal := by unfold State.setList; exact Eq.refl _

@[simp] theorem State.setList_tests (s : State) (n : Nat) (l : PleList) :
    (State.setList s n l).tests = s.tests := by unfold State.setList; exact Eq.refl _

@[simp] theorem State.setList_darn (s : State) (n : Nat) (l : PleList) :
    (State.setList s n l).darn = s.darn := by unfold State.setList; exact Eq.refl _

@[simp] theorem State.setList_nv (s : State) (n : Nat) (l : PleList) :
    (State.setList s n l).nv = s.nv := by unfold State.setList; exact Eq.refl _

@[simp] theorem State.setList_icu (s : State) (n : Nat) (l : PleList) :
    (State.setList s n l).icu = s.icu := by unfold State.setList; exact Eq.refl _

@[simp] theorem State.setList_power (s : State) (n : Nat) (l : PleList) :
    (State.setList s n l).power = s.power := by unfold State.setList; exact Eq.refl _

@[simp] theorem State.setList_supply (s : State) (n : Nat) (l : PleList) :
    (State.setList s n l).supply = s.supply := by unfold State.setList; exact Eq.refl _

@[simp] theorem State.setList_radio (s : State) (n : Nat) (l : PleList) :
    (State.setList s n l).radio = s.radio := by unfold State.setList; exact Eq.refl _

@[simp] theorem State.setList_ssc (s : State) (n : Nat) (l : PleList) :
    (State.setList s n l).ssc = s.ssc := by unfold State.setList; exact Eq.refl _

@[simp] theorem State.setList_ssl (s : State) (n : Nat) (l : PleList) :
    (State.setList s n l).ssl = s.ssl := by unfold State.setList; exact Eq.refl _

@[simp] theorem State.setList_saf (s : State) (n : Nat) (l : PleList) :
    (State.setList s n l).saf = s.saf := by unfold State.setList; exact Eq.refl _

@[simp] theorem State.setList_hsp (s : State) (n : Nat) (l : PleList) :
    (State.setList s n l).hsp = s.hsp := by unfold State.setList; exact Eq.refl _

@[simp] theorem State.setList_htw (s : State) (n : Nat) (l : PleList) :
    (State.setList s n l).htw = s.htw := by unfold State.setList; exact Eq.refl _

@[simp] theorem State.setList_load (s : State) (n : Nat) (l : PleList) :
    (State.setList s n l).load = s.load := by unfold State.setList; exact Eq.refl _

@[simp] theorem State.setList_testFrom (s : State) (n : Nat) (l : PleList) :
    (State.setList s n l).testFrom = s.testFrom := by unfold State.setList; exact Eq.refl _

@[simp] theorem State.setList_commitPorts (s : State) (n : Nat) (l : PleList) :
    (State.setList s n l).commitPorts = s.commitPorts := by unfold State.setList; exact Eq.refl _

@[simp] theorem State.setList_free (s : State) (n : Nat) (l : PleList) :
    (State.setList s n l).free = s.free := by unfold State.setList; exact Eq.refl _

@[simp] theorem State.setList_pending (s : State) (n : Nat) (l : PleList) :
    (State.setList s n l).pending = s.pending := by unfold State.setList; exact Eq.refl _

@[simp] theorem State.storeCrcs_part (s : State) (dies : List Nat) :
    (State.storeCrcs s dies).part = s.part := by unfold State.storeCrcs; exact Eq.refl _

@[simp] theorem State.storeCrcs_device (s : State) (dies : List Nat) :
    (State.storeCrcs s dies).device = s.device := by unfold State.storeCrcs; exact Eq.refl _

@[simp] theorem State.storeCrcs_ready (s : State) (dies : List Nat) :
    (State.storeCrcs s dies).ready = s.ready := by unfold State.storeCrcs; exact Eq.refl _

@[simp] theorem State.storeCrcs_rail33 (s : State) (dies : List Nat) :
    (State.storeCrcs s dies).rail33 = s.rail33 := by unfold State.storeCrcs; exact Eq.refl _

@[simp] theorem State.storeCrcs_epoch (s : State) (dies : List Nat) :
    (State.storeCrcs s dies).epoch = s.epoch := by unfold State.storeCrcs; exact Eq.refl _

@[simp] theorem State.storeCrcs_time (s : State) (dies : List Nat) :
    (State.storeCrcs s dies).time = s.time := by unfold State.storeCrcs; exact Eq.refl _

@[simp] theorem State.storeCrcs_regs (s : State) (dies : List Nat) :
    (State.storeCrcs s dies).regs = s.regs := by unfold State.storeCrcs; exact Eq.refl _

@[simp] theorem State.storeCrcs_shadow (s : State) (dies : List Nat) :
    (State.storeCrcs s dies).shadow = s.shadow := by unfold State.storeCrcs; exact Eq.refl _

@[simp] theorem State.storeCrcs_holds (s : State) (dies : List Nat) :
    (State.storeCrcs s dies).holds = s.holds := by unfold State.storeCrcs; exact Eq.refl _

@[simp] theorem State.storeCrcs_mem (s : State) (dies : List Nat) :
    (State.storeCrcs s dies).mem = s.mem := by unfold State.storeCrcs; exact Eq.refl _

@[simp] theorem State.storeCrcs_tb (s : State) (dies : List Nat) :
    (State.storeCrcs s dies).tb = s.tb := by unfold State.storeCrcs; exact Eq.refl _

@[simp] theorem State.storeCrcs_seams (s : State) (dies : List Nat) :
    (State.storeCrcs s dies).seams = s.seams := by unfold State.storeCrcs; exact Eq.refl _

@[simp] theorem State.storeCrcs_dieX (s : State) (dies : List Nat) :
    (State.storeCrcs s dies).dieX = s.dieX := by unfold State.storeCrcs; exact Eq.refl _

@[simp] theorem State.storeCrcs_slices (s : State) (dies : List Nat) :
    (State.storeCrcs s dies).slices = s.slices := by unfold State.storeCrcs; exact Eq.refl _

@[simp] theorem State.storeCrcs_exchs (s : State) (dies : List Nat) :
    (State.storeCrcs s dies).exchs = s.exchs := by unfold State.storeCrcs; exact Eq.refl _

@[simp] theorem State.storeCrcs_fieldHolds (s : State) (dies : List Nat) :
    (State.storeCrcs s dies).fieldHolds = s.fieldHolds := by unfold State.storeCrcs; exact Eq.refl _

@[simp] theorem State.storeCrcs_watches (s : State) (dies : List Nat) :
    (State.storeCrcs s dies).watches = s.watches := by unfold State.storeCrcs; exact Eq.refl _

@[simp] theorem State.storeCrcs_coord (s : State) (dies : List Nat) :
    (State.storeCrcs s dies).coord = s.coord := by unfold State.storeCrcs; exact Eq.refl _

@[simp] theorem State.storeCrcs_classes (s : State) (dies : List Nat) :
    (State.storeCrcs s dies).classes = s.classes := by unfold State.storeCrcs; exact Eq.refl _

@[simp] theorem State.storeCrcs_hamper (s : State) (dies : List Nat) :
    (State.storeCrcs s dies).hamper = s.hamper := by unfold State.storeCrcs; exact Eq.refl _

@[simp] theorem State.storeCrcs_tickets (s : State) (dies : List Nat) :
    (State.storeCrcs s dies).tickets = s.tickets := by unfold State.storeCrcs; exact Eq.refl _

@[simp] theorem State.storeCrcs_departs (s : State) (dies : List Nat) :
    (State.storeCrcs s dies).departs = s.departs := by unfold State.storeCrcs; exact Eq.refl _

@[simp] theorem State.storeCrcs_calSets (s : State) (dies : List Nat) :
    (State.storeCrcs s dies).calSets = s.calSets := by unfold State.storeCrcs; exact Eq.refl _

@[simp] theorem State.storeCrcs_lockBlock (s : State) (dies : List Nat) :
    (State.storeCrcs s dies).lockBlock = s.lockBlock := by unfold State.storeCrcs; exact Eq.refl _

@[simp] theorem State.storeCrcs_recDone (s : State) (dies : List Nat) :
    (State.storeCrcs s dies).recDone = s.recDone := by unfold State.storeCrcs; exact Eq.refl _

@[simp] theorem State.storeCrcs_cal (s : State) (dies : List Nat) :
    (State.storeCrcs s dies).cal = s.cal := by unfold State.storeCrcs; exact Eq.refl _

@[simp] theorem State.storeCrcs_tests (s : State) (dies : List Nat) :
    (State.storeCrcs s dies).tests = s.tests := by unfold State.storeCrcs; exact Eq.refl _

@[simp] theorem State.storeCrcs_darn (s : State) (dies : List Nat) :
    (State.storeCrcs s dies).darn = s.darn := by unfold State.storeCrcs; exact Eq.refl _

@[simp] theorem State.storeCrcs_nv (s : State) (dies : List Nat) :
    (State.storeCrcs s dies).nv = s.nv := by unfold State.storeCrcs; exact Eq.refl _

@[simp] theorem State.storeCrcs_icu (s : State) (dies : List Nat) :
    (State.storeCrcs s dies).icu = s.icu := by unfold State.storeCrcs; exact Eq.refl _

@[simp] theorem State.storeCrcs_supply (s : State) (dies : List Nat) :
    (State.storeCrcs s dies).supply = s.supply := by unfold State.storeCrcs; exact Eq.refl _

@[simp] theorem State.storeCrcs_radio (s : State) (dies : List Nat) :
    (State.storeCrcs s dies).radio = s.radio := by unfold State.storeCrcs; exact Eq.refl _

@[simp] theorem State.storeCrcs_ple (s : State) (dies : List Nat) :
    (State.storeCrcs s dies).ple = s.ple := by unfold State.storeCrcs; exact Eq.refl _

@[simp] theorem State.storeCrcs_ssc (s : State) (dies : List Nat) :
    (State.storeCrcs s dies).ssc = s.ssc := by unfold State.storeCrcs; exact Eq.refl _

@[simp] theorem State.storeCrcs_ssl (s : State) (dies : List Nat) :
    (State.storeCrcs s dies).ssl = s.ssl := by unfold State.storeCrcs; exact Eq.refl _

@[simp] theorem State.storeCrcs_saf (s : State) (dies : List Nat) :
    (State.storeCrcs s dies).saf = s.saf := by unfold State.storeCrcs; exact Eq.refl _

@[simp] theorem State.storeCrcs_hsp (s : State) (dies : List Nat) :
    (State.storeCrcs s dies).hsp = s.hsp := by unfold State.storeCrcs; exact Eq.refl _

@[simp] theorem State.storeCrcs_htw (s : State) (dies : List Nat) :
    (State.storeCrcs s dies).htw = s.htw := by unfold State.storeCrcs; exact Eq.refl _

@[simp] theorem State.storeCrcs_load (s : State) (dies : List Nat) :
    (State.storeCrcs s dies).load = s.load := by unfold State.storeCrcs; exact Eq.refl _

@[simp] theorem State.storeCrcs_testFrom (s : State) (dies : List Nat) :
    (State.storeCrcs s dies).testFrom = s.testFrom := by unfold State.storeCrcs; exact Eq.refl _

@[simp] theorem State.storeCrcs_commitPorts (s : State) (dies : List Nat) :
    (State.storeCrcs s dies).commitPorts = s.commitPorts := by unfold State.storeCrcs; exact Eq.refl _

@[simp] theorem State.storeCrcs_free (s : State) (dies : List Nat) :
    (State.storeCrcs s dies).free = s.free := by unfold State.storeCrcs; exact Eq.refl _

@[simp] theorem State.storeCrcs_pending (s : State) (dies : List Nat) :
    (State.storeCrcs s dies).pending = s.pending := by unfold State.storeCrcs; exact Eq.refl _

@[simp] theorem State.reclass_part (s : State) (d p : Nat) :
    (State.reclass s d p).part = s.part := by unfold State.reclass; exact Eq.refl _

@[simp] theorem State.reclass_device (s : State) (d p : Nat) :
    (State.reclass s d p).device = s.device := by unfold State.reclass; exact Eq.refl _

@[simp] theorem State.reclass_ready (s : State) (d p : Nat) :
    (State.reclass s d p).ready = s.ready := by unfold State.reclass; exact Eq.refl _

@[simp] theorem State.reclass_rail33 (s : State) (d p : Nat) :
    (State.reclass s d p).rail33 = s.rail33 := by unfold State.reclass; exact Eq.refl _

@[simp] theorem State.reclass_epoch (s : State) (d p : Nat) :
    (State.reclass s d p).epoch = s.epoch := by unfold State.reclass; exact Eq.refl _

@[simp] theorem State.reclass_time (s : State) (d p : Nat) :
    (State.reclass s d p).time = s.time := by unfold State.reclass; exact Eq.refl _

@[simp] theorem State.reclass_regs (s : State) (d p : Nat) :
    (State.reclass s d p).regs = s.regs := by unfold State.reclass; exact Eq.refl _

@[simp] theorem State.reclass_shadow (s : State) (d p : Nat) :
    (State.reclass s d p).shadow = s.shadow := by unfold State.reclass; exact Eq.refl _

@[simp] theorem State.reclass_holds (s : State) (d p : Nat) :
    (State.reclass s d p).holds = s.holds := by unfold State.reclass; exact Eq.refl _

@[simp] theorem State.reclass_mem (s : State) (d p : Nat) :
    (State.reclass s d p).mem = s.mem := by unfold State.reclass; exact Eq.refl _

@[simp] theorem State.reclass_tb (s : State) (d p : Nat) :
    (State.reclass s d p).tb = s.tb := by unfold State.reclass; exact Eq.refl _

@[simp] theorem State.reclass_seams (s : State) (d p : Nat) :
    (State.reclass s d p).seams = s.seams := by unfold State.reclass; exact Eq.refl _

@[simp] theorem State.reclass_dieX (s : State) (d p : Nat) :
    (State.reclass s d p).dieX = s.dieX := by unfold State.reclass; exact Eq.refl _

@[simp] theorem State.reclass_slices (s : State) (d p : Nat) :
    (State.reclass s d p).slices = s.slices := by unfold State.reclass; exact Eq.refl _

@[simp] theorem State.reclass_exchs (s : State) (d p : Nat) :
    (State.reclass s d p).exchs = s.exchs := by unfold State.reclass; exact Eq.refl _

@[simp] theorem State.reclass_fieldHolds (s : State) (d p : Nat) :
    (State.reclass s d p).fieldHolds = s.fieldHolds := by unfold State.reclass; exact Eq.refl _

@[simp] theorem State.reclass_watches (s : State) (d p : Nat) :
    (State.reclass s d p).watches = s.watches := by unfold State.reclass; exact Eq.refl _

@[simp] theorem State.reclass_classes (s : State) (d p : Nat) :
    (State.reclass s d p).classes = s.classes := by unfold State.reclass; exact Eq.refl _

@[simp] theorem State.reclass_hamper (s : State) (d p : Nat) :
    (State.reclass s d p).hamper = s.hamper := by unfold State.reclass; exact Eq.refl _

@[simp] theorem State.reclass_tickets (s : State) (d p : Nat) :
    (State.reclass s d p).tickets = s.tickets := by unfold State.reclass; exact Eq.refl _

@[simp] theorem State.reclass_departs (s : State) (d p : Nat) :
    (State.reclass s d p).departs = s.departs := by unfold State.reclass; exact Eq.refl _

@[simp] theorem State.reclass_calSets (s : State) (d p : Nat) :
    (State.reclass s d p).calSets = s.calSets := by unfold State.reclass; exact Eq.refl _

@[simp] theorem State.reclass_lockBlock (s : State) (d p : Nat) :
    (State.reclass s d p).lockBlock = s.lockBlock := by unfold State.reclass; exact Eq.refl _

@[simp] theorem State.reclass_recDone (s : State) (d p : Nat) :
    (State.reclass s d p).recDone = s.recDone := by unfold State.reclass; exact Eq.refl _

@[simp] theorem State.reclass_cal (s : State) (d p : Nat) :
    (State.reclass s d p).cal = s.cal := by unfold State.reclass; exact Eq.refl _

@[simp] theorem State.reclass_tests (s : State) (d p : Nat) :
    (State.reclass s d p).tests = s.tests := by unfold State.reclass; exact Eq.refl _

@[simp] theorem State.reclass_darn (s : State) (d p : Nat) :
    (State.reclass s d p).darn = s.darn := by unfold State.reclass; exact Eq.refl _

@[simp] theorem State.reclass_nv (s : State) (d p : Nat) :
    (State.reclass s d p).nv = s.nv := by unfold State.reclass; exact Eq.refl _

@[simp] theorem State.reclass_icu (s : State) (d p : Nat) :
    (State.reclass s d p).icu = s.icu := by unfold State.reclass; exact Eq.refl _

@[simp] theorem State.reclass_power (s : State) (d p : Nat) :
    (State.reclass s d p).power = s.power := by unfold State.reclass; exact Eq.refl _

@[simp] theorem State.reclass_supply (s : State) (d p : Nat) :
    (State.reclass s d p).supply = s.supply := by unfold State.reclass; exact Eq.refl _

@[simp] theorem State.reclass_radio (s : State) (d p : Nat) :
    (State.reclass s d p).radio = s.radio := by unfold State.reclass; exact Eq.refl _

@[simp] theorem State.reclass_ple (s : State) (d p : Nat) :
    (State.reclass s d p).ple = s.ple := by unfold State.reclass; exact Eq.refl _

@[simp] theorem State.reclass_ssc (s : State) (d p : Nat) :
    (State.reclass s d p).ssc = s.ssc := by unfold State.reclass; exact Eq.refl _

@[simp] theorem State.reclass_ssl (s : State) (d p : Nat) :
    (State.reclass s d p).ssl = s.ssl := by unfold State.reclass; exact Eq.refl _

@[simp] theorem State.reclass_saf (s : State) (d p : Nat) :
    (State.reclass s d p).saf = s.saf := by unfold State.reclass; exact Eq.refl _

@[simp] theorem State.reclass_hsp (s : State) (d p : Nat) :
    (State.reclass s d p).hsp = s.hsp := by unfold State.reclass; exact Eq.refl _

@[simp] theorem State.reclass_htw (s : State) (d p : Nat) :
    (State.reclass s d p).htw = s.htw := by unfold State.reclass; exact Eq.refl _

@[simp] theorem State.reclass_load (s : State) (d p : Nat) :
    (State.reclass s d p).load = s.load := by unfold State.reclass; exact Eq.refl _

@[simp] theorem State.reclass_testFrom (s : State) (d p : Nat) :
    (State.reclass s d p).testFrom = s.testFrom := by unfold State.reclass; exact Eq.refl _

@[simp] theorem State.reclass_commitPorts (s : State) (d p : Nat) :
    (State.reclass s d p).commitPorts = s.commitPorts := by unfold State.reclass; exact Eq.refl _

@[simp] theorem State.reclass_free (s : State) (d p : Nat) :
    (State.reclass s d p).free = s.free := by unfold State.reclass; exact Eq.refl _

@[simp] theorem State.reclass_pending (s : State) (d p : Nat) :
    (State.reclass s d p).pending = s.pending := by unfold State.reclass; exact Eq.refl _

@[simp] theorem State.set_part (s : State) (die : Nat) (f : Fld) (v : Nat) :
    (State.set s die f v).part = s.part := by unfold State.set; exact State.setReg_part ..

@[simp] theorem State.set_device (s : State) (die : Nat) (f : Fld) (v : Nat) :
    (State.set s die f v).device = s.device := by unfold State.set; exact State.setReg_device ..

@[simp] theorem State.set_ready (s : State) (die : Nat) (f : Fld) (v : Nat) :
    (State.set s die f v).ready = s.ready := by unfold State.set; exact State.setReg_ready ..

@[simp] theorem State.set_rail33 (s : State) (die : Nat) (f : Fld) (v : Nat) :
    (State.set s die f v).rail33 = s.rail33 := by unfold State.set; exact State.setReg_rail33 ..

@[simp] theorem State.set_epoch (s : State) (die : Nat) (f : Fld) (v : Nat) :
    (State.set s die f v).epoch = s.epoch := by unfold State.set; exact State.setReg_epoch ..

@[simp] theorem State.set_time (s : State) (die : Nat) (f : Fld) (v : Nat) :
    (State.set s die f v).time = s.time := by unfold State.set; exact State.setReg_time ..

@[simp] theorem State.set_shadow (s : State) (die : Nat) (f : Fld) (v : Nat) :
    (State.set s die f v).shadow = s.shadow := by unfold State.set; exact State.setReg_shadow ..

@[simp] theorem State.set_holds (s : State) (die : Nat) (f : Fld) (v : Nat) :
    (State.set s die f v).holds = s.holds := by unfold State.set; exact State.setReg_holds ..

@[simp] theorem State.set_mem (s : State) (die : Nat) (f : Fld) (v : Nat) :
    (State.set s die f v).mem = s.mem := by unfold State.set; exact State.setReg_mem ..

@[simp] theorem State.set_tb (s : State) (die : Nat) (f : Fld) (v : Nat) :
    (State.set s die f v).tb = s.tb := by unfold State.set; exact State.setReg_tb ..

@[simp] theorem State.set_seams (s : State) (die : Nat) (f : Fld) (v : Nat) :
    (State.set s die f v).seams = s.seams := by unfold State.set; exact State.setReg_seams ..

@[simp] theorem State.set_dieX (s : State) (die : Nat) (f : Fld) (v : Nat) :
    (State.set s die f v).dieX = s.dieX := by unfold State.set; exact State.setReg_dieX ..

@[simp] theorem State.set_slices (s : State) (die : Nat) (f : Fld) (v : Nat) :
    (State.set s die f v).slices = s.slices := by unfold State.set; exact State.setReg_slices ..

@[simp] theorem State.set_exchs (s : State) (die : Nat) (f : Fld) (v : Nat) :
    (State.set s die f v).exchs = s.exchs := by unfold State.set; exact State.setReg_exchs ..

@[simp] theorem State.set_fieldHolds (s : State) (die : Nat) (f : Fld) (v : Nat) :
    (State.set s die f v).fieldHolds = s.fieldHolds := by unfold State.set; exact State.setReg_fieldHolds ..

@[simp] theorem State.set_watches (s : State) (die : Nat) (f : Fld) (v : Nat) :
    (State.set s die f v).watches = s.watches := by unfold State.set; exact State.setReg_watches ..

@[simp] theorem State.set_coord (s : State) (die : Nat) (f : Fld) (v : Nat) :
    (State.set s die f v).coord = s.coord := by unfold State.set; exact State.setReg_coord ..

@[simp] theorem State.set_classes (s : State) (die : Nat) (f : Fld) (v : Nat) :
    (State.set s die f v).classes = s.classes := by unfold State.set; exact State.setReg_classes ..

@[simp] theorem State.set_hamper (s : State) (die : Nat) (f : Fld) (v : Nat) :
    (State.set s die f v).hamper = s.hamper := by unfold State.set; exact State.setReg_hamper ..

@[simp] theorem State.set_tickets (s : State) (die : Nat) (f : Fld) (v : Nat) :
    (State.set s die f v).tickets = s.tickets := by unfold State.set; exact State.setReg_tickets ..

@[simp] theorem State.set_departs (s : State) (die : Nat) (f : Fld) (v : Nat) :
    (State.set s die f v).departs = s.departs := by unfold State.set; exact State.setReg_departs ..

@[simp] theorem State.set_calSets (s : State) (die : Nat) (f : Fld) (v : Nat) :
    (State.set s die f v).calSets = s.calSets := by unfold State.set; exact State.setReg_calSets ..

@[simp] theorem State.set_lockBlock (s : State) (die : Nat) (f : Fld) (v : Nat) :
    (State.set s die f v).lockBlock = s.lockBlock := by unfold State.set; exact State.setReg_lockBlock ..

@[simp] theorem State.set_recDone (s : State) (die : Nat) (f : Fld) (v : Nat) :
    (State.set s die f v).recDone = s.recDone := by unfold State.set; exact State.setReg_recDone ..

@[simp] theorem State.set_cal (s : State) (die : Nat) (f : Fld) (v : Nat) :
    (State.set s die f v).cal = s.cal := by unfold State.set; exact State.setReg_cal ..

@[simp] theorem State.set_tests (s : State) (die : Nat) (f : Fld) (v : Nat) :
    (State.set s die f v).tests = s.tests := by unfold State.set; exact State.setReg_tests ..

@[simp] theorem State.set_darn (s : State) (die : Nat) (f : Fld) (v : Nat) :
    (State.set s die f v).darn = s.darn := by unfold State.set; exact State.setReg_darn ..

@[simp] theorem State.set_nv (s : State) (die : Nat) (f : Fld) (v : Nat) :
    (State.set s die f v).nv = s.nv := by unfold State.set; exact State.setReg_nv ..

@[simp] theorem State.set_icu (s : State) (die : Nat) (f : Fld) (v : Nat) :
    (State.set s die f v).icu = s.icu := by unfold State.set; exact State.setReg_icu ..

@[simp] theorem State.set_power (s : State) (die : Nat) (f : Fld) (v : Nat) :
    (State.set s die f v).power = s.power := by unfold State.set; exact State.setReg_power ..

@[simp] theorem State.set_supply (s : State) (die : Nat) (f : Fld) (v : Nat) :
    (State.set s die f v).supply = s.supply := by unfold State.set; exact State.setReg_supply ..

@[simp] theorem State.set_radio (s : State) (die : Nat) (f : Fld) (v : Nat) :
    (State.set s die f v).radio = s.radio := by unfold State.set; exact State.setReg_radio ..

@[simp] theorem State.set_ple (s : State) (die : Nat) (f : Fld) (v : Nat) :
    (State.set s die f v).ple = s.ple := by unfold State.set; exact State.setReg_ple ..

@[simp] theorem State.set_ssc (s : State) (die : Nat) (f : Fld) (v : Nat) :
    (State.set s die f v).ssc = s.ssc := by unfold State.set; exact State.setReg_ssc ..

@[simp] theorem State.set_ssl (s : State) (die : Nat) (f : Fld) (v : Nat) :
    (State.set s die f v).ssl = s.ssl := by unfold State.set; exact State.setReg_ssl ..

@[simp] theorem State.set_saf (s : State) (die : Nat) (f : Fld) (v : Nat) :
    (State.set s die f v).saf = s.saf := by unfold State.set; exact State.setReg_saf ..

@[simp] theorem State.set_hsp (s : State) (die : Nat) (f : Fld) (v : Nat) :
    (State.set s die f v).hsp = s.hsp := by unfold State.set; exact State.setReg_hsp ..

@[simp] theorem State.set_htw (s : State) (die : Nat) (f : Fld) (v : Nat) :
    (State.set s die f v).htw = s.htw := by unfold State.set; exact State.setReg_htw ..

@[simp] theorem State.set_load (s : State) (die : Nat) (f : Fld) (v : Nat) :
    (State.set s die f v).load = s.load := by unfold State.set; exact State.setReg_load ..

@[simp] theorem State.set_testFrom (s : State) (die : Nat) (f : Fld) (v : Nat) :
    (State.set s die f v).testFrom = s.testFrom := by unfold State.set; exact State.setReg_testFrom ..

@[simp] theorem State.set_commitPorts (s : State) (die : Nat) (f : Fld) (v : Nat) :
    (State.set s die f v).commitPorts = s.commitPorts := by unfold State.set; exact State.setReg_commitPorts ..

@[simp] theorem State.set_free (s : State) (die : Nat) (f : Fld) (v : Nat) :
    (State.set s die f v).free = s.free := by unfold State.set; exact State.setReg_free ..

@[simp] theorem State.set_pending (s : State) (die : Nat) (f : Fld) (v : Nat) :
    (State.set s die f v).pending = s.pending := by unfold State.set; exact State.setReg_pending ..

@[simp] theorem State.setBit_part (s : State) (die : Nat) (f : Fld) (i : Nat) (v : Bool) :
    (State.setBit s die f i v).part = s.part := by unfold State.setBit; exact State.set_part ..

@[simp] theorem State.setBit_device (s : State) (die : Nat) (f : Fld) (i : Nat) (v : Bool) :
    (State.setBit s die f i v).device = s.device := by unfold State.setBit; exact State.set_device ..

@[simp] theorem State.setBit_ready (s : State) (die : Nat) (f : Fld) (i : Nat) (v : Bool) :
    (State.setBit s die f i v).ready = s.ready := by unfold State.setBit; exact State.set_ready ..

@[simp] theorem State.setBit_rail33 (s : State) (die : Nat) (f : Fld) (i : Nat) (v : Bool) :
    (State.setBit s die f i v).rail33 = s.rail33 := by unfold State.setBit; exact State.set_rail33 ..

@[simp] theorem State.setBit_epoch (s : State) (die : Nat) (f : Fld) (i : Nat) (v : Bool) :
    (State.setBit s die f i v).epoch = s.epoch := by unfold State.setBit; exact State.set_epoch ..

@[simp] theorem State.setBit_time (s : State) (die : Nat) (f : Fld) (i : Nat) (v : Bool) :
    (State.setBit s die f i v).time = s.time := by unfold State.setBit; exact State.set_time ..

@[simp] theorem State.setBit_shadow (s : State) (die : Nat) (f : Fld) (i : Nat) (v : Bool) :
    (State.setBit s die f i v).shadow = s.shadow := by unfold State.setBit; exact State.set_shadow ..

@[simp] theorem State.setBit_holds (s : State) (die : Nat) (f : Fld) (i : Nat) (v : Bool) :
    (State.setBit s die f i v).holds = s.holds := by unfold State.setBit; exact State.set_holds ..

@[simp] theorem State.setBit_mem (s : State) (die : Nat) (f : Fld) (i : Nat) (v : Bool) :
    (State.setBit s die f i v).mem = s.mem := by unfold State.setBit; exact State.set_mem ..

@[simp] theorem State.setBit_tb (s : State) (die : Nat) (f : Fld) (i : Nat) (v : Bool) :
    (State.setBit s die f i v).tb = s.tb := by unfold State.setBit; exact State.set_tb ..

@[simp] theorem State.setBit_seams (s : State) (die : Nat) (f : Fld) (i : Nat) (v : Bool) :
    (State.setBit s die f i v).seams = s.seams := by unfold State.setBit; exact State.set_seams ..

@[simp] theorem State.setBit_dieX (s : State) (die : Nat) (f : Fld) (i : Nat) (v : Bool) :
    (State.setBit s die f i v).dieX = s.dieX := by unfold State.setBit; exact State.set_dieX ..

@[simp] theorem State.setBit_slices (s : State) (die : Nat) (f : Fld) (i : Nat) (v : Bool) :
    (State.setBit s die f i v).slices = s.slices := by unfold State.setBit; exact State.set_slices ..

@[simp] theorem State.setBit_exchs (s : State) (die : Nat) (f : Fld) (i : Nat) (v : Bool) :
    (State.setBit s die f i v).exchs = s.exchs := by unfold State.setBit; exact State.set_exchs ..

@[simp] theorem State.setBit_fieldHolds (s : State) (die : Nat) (f : Fld) (i : Nat) (v : Bool) :
    (State.setBit s die f i v).fieldHolds = s.fieldHolds := by unfold State.setBit; exact State.set_fieldHolds ..

@[simp] theorem State.setBit_watches (s : State) (die : Nat) (f : Fld) (i : Nat) (v : Bool) :
    (State.setBit s die f i v).watches = s.watches := by unfold State.setBit; exact State.set_watches ..

@[simp] theorem State.setBit_coord (s : State) (die : Nat) (f : Fld) (i : Nat) (v : Bool) :
    (State.setBit s die f i v).coord = s.coord := by unfold State.setBit; exact State.set_coord ..

@[simp] theorem State.setBit_classes (s : State) (die : Nat) (f : Fld) (i : Nat) (v : Bool) :
    (State.setBit s die f i v).classes = s.classes := by unfold State.setBit; exact State.set_classes ..

@[simp] theorem State.setBit_hamper (s : State) (die : Nat) (f : Fld) (i : Nat) (v : Bool) :
    (State.setBit s die f i v).hamper = s.hamper := by unfold State.setBit; exact State.set_hamper ..

@[simp] theorem State.setBit_tickets (s : State) (die : Nat) (f : Fld) (i : Nat) (v : Bool) :
    (State.setBit s die f i v).tickets = s.tickets := by unfold State.setBit; exact State.set_tickets ..

@[simp] theorem State.setBit_departs (s : State) (die : Nat) (f : Fld) (i : Nat) (v : Bool) :
    (State.setBit s die f i v).departs = s.departs := by unfold State.setBit; exact State.set_departs ..

@[simp] theorem State.setBit_calSets (s : State) (die : Nat) (f : Fld) (i : Nat) (v : Bool) :
    (State.setBit s die f i v).calSets = s.calSets := by unfold State.setBit; exact State.set_calSets ..

@[simp] theorem State.setBit_lockBlock (s : State) (die : Nat) (f : Fld) (i : Nat) (v : Bool) :
    (State.setBit s die f i v).lockBlock = s.lockBlock := by unfold State.setBit; exact State.set_lockBlock ..

@[simp] theorem State.setBit_recDone (s : State) (die : Nat) (f : Fld) (i : Nat) (v : Bool) :
    (State.setBit s die f i v).recDone = s.recDone := by unfold State.setBit; exact State.set_recDone ..

@[simp] theorem State.setBit_cal (s : State) (die : Nat) (f : Fld) (i : Nat) (v : Bool) :
    (State.setBit s die f i v).cal = s.cal := by unfold State.setBit; exact State.set_cal ..

@[simp] theorem State.setBit_tests (s : State) (die : Nat) (f : Fld) (i : Nat) (v : Bool) :
    (State.setBit s die f i v).tests = s.tests := by unfold State.setBit; exact State.set_tests ..

@[simp] theorem State.setBit_darn (s : State) (die : Nat) (f : Fld) (i : Nat) (v : Bool) :
    (State.setBit s die f i v).darn = s.darn := by unfold State.setBit; exact State.set_darn ..

@[simp] theorem State.setBit_nv (s : State) (die : Nat) (f : Fld) (i : Nat) (v : Bool) :
    (State.setBit s die f i v).nv = s.nv := by unfold State.setBit; exact State.set_nv ..

@[simp] theorem State.setBit_icu (s : State) (die : Nat) (f : Fld) (i : Nat) (v : Bool) :
    (State.setBit s die f i v).icu = s.icu := by unfold State.setBit; exact State.set_icu ..

@[simp] theorem State.setBit_power (s : State) (die : Nat) (f : Fld) (i : Nat) (v : Bool) :
    (State.setBit s die f i v).power = s.power := by unfold State.setBit; exact State.set_power ..

@[simp] theorem State.setBit_supply (s : State) (die : Nat) (f : Fld) (i : Nat) (v : Bool) :
    (State.setBit s die f i v).supply = s.supply := by unfold State.setBit; exact State.set_supply ..

@[simp] theorem State.setBit_radio (s : State) (die : Nat) (f : Fld) (i : Nat) (v : Bool) :
    (State.setBit s die f i v).radio = s.radio := by unfold State.setBit; exact State.set_radio ..

@[simp] theorem State.setBit_ple (s : State) (die : Nat) (f : Fld) (i : Nat) (v : Bool) :
    (State.setBit s die f i v).ple = s.ple := by unfold State.setBit; exact State.set_ple ..

@[simp] theorem State.setBit_ssc (s : State) (die : Nat) (f : Fld) (i : Nat) (v : Bool) :
    (State.setBit s die f i v).ssc = s.ssc := by unfold State.setBit; exact State.set_ssc ..

@[simp] theorem State.setBit_ssl (s : State) (die : Nat) (f : Fld) (i : Nat) (v : Bool) :
    (State.setBit s die f i v).ssl = s.ssl := by unfold State.setBit; exact State.set_ssl ..

@[simp] theorem State.setBit_saf (s : State) (die : Nat) (f : Fld) (i : Nat) (v : Bool) :
    (State.setBit s die f i v).saf = s.saf := by unfold State.setBit; exact State.set_saf ..

@[simp] theorem State.setBit_hsp (s : State) (die : Nat) (f : Fld) (i : Nat) (v : Bool) :
    (State.setBit s die f i v).hsp = s.hsp := by unfold State.setBit; exact State.set_hsp ..

@[simp] theorem State.setBit_htw (s : State) (die : Nat) (f : Fld) (i : Nat) (v : Bool) :
    (State.setBit s die f i v).htw = s.htw := by unfold State.setBit; exact State.set_htw ..

@[simp] theorem State.setBit_load (s : State) (die : Nat) (f : Fld) (i : Nat) (v : Bool) :
    (State.setBit s die f i v).load = s.load := by unfold State.setBit; exact State.set_load ..

@[simp] theorem State.setBit_testFrom (s : State) (die : Nat) (f : Fld) (i : Nat) (v : Bool) :
    (State.setBit s die f i v).testFrom = s.testFrom := by unfold State.setBit; exact State.set_testFrom ..

@[simp] theorem State.setBit_commitPorts (s : State) (die : Nat) (f : Fld) (i : Nat) (v : Bool) :
    (State.setBit s die f i v).commitPorts = s.commitPorts := by unfold State.setBit; exact State.set_commitPorts ..

@[simp] theorem State.setBit_free (s : State) (die : Nat) (f : Fld) (i : Nat) (v : Bool) :
    (State.setBit s die f i v).free = s.free := by unfold State.setBit; exact State.set_free ..

@[simp] theorem State.setBit_pending (s : State) (die : Nat) (f : Fld) (i : Nat) (v : Bool) :
    (State.setBit s die f i v).pending = s.pending := by unfold State.setBit; exact State.set_pending ..

@[simp] theorem State.setPage_part (s : State) (die page st : Nat) :
    (State.setPage s die page st).part = s.part := by unfold State.setPage; exact State.set_part ..

@[simp] theorem State.setPage_device (s : State) (die page st : Nat) :
    (State.setPage s die page st).device = s.device := by unfold State.setPage; exact State.set_device ..

@[simp] theorem State.setPage_ready (s : State) (die page st : Nat) :
    (State.setPage s die page st).ready = s.ready := by unfold State.setPage; exact State.set_ready ..

@[simp] theorem State.setPage_rail33 (s : State) (die page st : Nat) :
    (State.setPage s die page st).rail33 = s.rail33 := by unfold State.setPage; exact State.set_rail33 ..

@[simp] theorem State.setPage_epoch (s : State) (die page st : Nat) :
    (State.setPage s die page st).epoch = s.epoch := by unfold State.setPage; exact State.set_epoch ..

@[simp] theorem State.setPage_time (s : State) (die page st : Nat) :
    (State.setPage s die page st).time = s.time := by unfold State.setPage; exact State.set_time ..

@[simp] theorem State.setPage_shadow (s : State) (die page st : Nat) :
    (State.setPage s die page st).shadow = s.shadow := by unfold State.setPage; exact State.set_shadow ..

@[simp] theorem State.setPage_holds (s : State) (die page st : Nat) :
    (State.setPage s die page st).holds = s.holds := by unfold State.setPage; exact State.set_holds ..

@[simp] theorem State.setPage_mem (s : State) (die page st : Nat) :
    (State.setPage s die page st).mem = s.mem := by unfold State.setPage; exact State.set_mem ..

@[simp] theorem State.setPage_tb (s : State) (die page st : Nat) :
    (State.setPage s die page st).tb = s.tb := by unfold State.setPage; exact State.set_tb ..

@[simp] theorem State.setPage_seams (s : State) (die page st : Nat) :
    (State.setPage s die page st).seams = s.seams := by unfold State.setPage; exact State.set_seams ..

@[simp] theorem State.setPage_dieX (s : State) (die page st : Nat) :
    (State.setPage s die page st).dieX = s.dieX := by unfold State.setPage; exact State.set_dieX ..

@[simp] theorem State.setPage_slices (s : State) (die page st : Nat) :
    (State.setPage s die page st).slices = s.slices := by unfold State.setPage; exact State.set_slices ..

@[simp] theorem State.setPage_exchs (s : State) (die page st : Nat) :
    (State.setPage s die page st).exchs = s.exchs := by unfold State.setPage; exact State.set_exchs ..

@[simp] theorem State.setPage_fieldHolds (s : State) (die page st : Nat) :
    (State.setPage s die page st).fieldHolds = s.fieldHolds := by unfold State.setPage; exact State.set_fieldHolds ..

@[simp] theorem State.setPage_watches (s : State) (die page st : Nat) :
    (State.setPage s die page st).watches = s.watches := by unfold State.setPage; exact State.set_watches ..

@[simp] theorem State.setPage_coord (s : State) (die page st : Nat) :
    (State.setPage s die page st).coord = s.coord := by unfold State.setPage; exact State.set_coord ..

@[simp] theorem State.setPage_classes (s : State) (die page st : Nat) :
    (State.setPage s die page st).classes = s.classes := by unfold State.setPage; exact State.set_classes ..

@[simp] theorem State.setPage_hamper (s : State) (die page st : Nat) :
    (State.setPage s die page st).hamper = s.hamper := by unfold State.setPage; exact State.set_hamper ..

@[simp] theorem State.setPage_tickets (s : State) (die page st : Nat) :
    (State.setPage s die page st).tickets = s.tickets := by unfold State.setPage; exact State.set_tickets ..

@[simp] theorem State.setPage_departs (s : State) (die page st : Nat) :
    (State.setPage s die page st).departs = s.departs := by unfold State.setPage; exact State.set_departs ..

@[simp] theorem State.setPage_calSets (s : State) (die page st : Nat) :
    (State.setPage s die page st).calSets = s.calSets := by unfold State.setPage; exact State.set_calSets ..

@[simp] theorem State.setPage_lockBlock (s : State) (die page st : Nat) :
    (State.setPage s die page st).lockBlock = s.lockBlock := by unfold State.setPage; exact State.set_lockBlock ..

@[simp] theorem State.setPage_recDone (s : State) (die page st : Nat) :
    (State.setPage s die page st).recDone = s.recDone := by unfold State.setPage; exact State.set_recDone ..

@[simp] theorem State.setPage_cal (s : State) (die page st : Nat) :
    (State.setPage s die page st).cal = s.cal := by unfold State.setPage; exact State.set_cal ..

@[simp] theorem State.setPage_tests (s : State) (die page st : Nat) :
    (State.setPage s die page st).tests = s.tests := by unfold State.setPage; exact State.set_tests ..

@[simp] theorem State.setPage_darn (s : State) (die page st : Nat) :
    (State.setPage s die page st).darn = s.darn := by unfold State.setPage; exact State.set_darn ..

@[simp] theorem State.setPage_nv (s : State) (die page st : Nat) :
    (State.setPage s die page st).nv = s.nv := by unfold State.setPage; exact State.set_nv ..

@[simp] theorem State.setPage_icu (s : State) (die page st : Nat) :
    (State.setPage s die page st).icu = s.icu := by unfold State.setPage; exact State.set_icu ..

@[simp] theorem State.setPage_power (s : State) (die page st : Nat) :
    (State.setPage s die page st).power = s.power := by unfold State.setPage; exact State.set_power ..

@[simp] theorem State.setPage_supply (s : State) (die page st : Nat) :
    (State.setPage s die page st).supply = s.supply := by unfold State.setPage; exact State.set_supply ..

@[simp] theorem State.setPage_radio (s : State) (die page st : Nat) :
    (State.setPage s die page st).radio = s.radio := by unfold State.setPage; exact State.set_radio ..

@[simp] theorem State.setPage_ple (s : State) (die page st : Nat) :
    (State.setPage s die page st).ple = s.ple := by unfold State.setPage; exact State.set_ple ..

@[simp] theorem State.setPage_ssc (s : State) (die page st : Nat) :
    (State.setPage s die page st).ssc = s.ssc := by unfold State.setPage; exact State.set_ssc ..

@[simp] theorem State.setPage_ssl (s : State) (die page st : Nat) :
    (State.setPage s die page st).ssl = s.ssl := by unfold State.setPage; exact State.set_ssl ..

@[simp] theorem State.setPage_saf (s : State) (die page st : Nat) :
    (State.setPage s die page st).saf = s.saf := by unfold State.setPage; exact State.set_saf ..

@[simp] theorem State.setPage_hsp (s : State) (die page st : Nat) :
    (State.setPage s die page st).hsp = s.hsp := by unfold State.setPage; exact State.set_hsp ..

@[simp] theorem State.setPage_htw (s : State) (die page st : Nat) :
    (State.setPage s die page st).htw = s.htw := by unfold State.setPage; exact State.set_htw ..

@[simp] theorem State.setPage_load (s : State) (die page st : Nat) :
    (State.setPage s die page st).load = s.load := by unfold State.setPage; exact State.set_load ..

@[simp] theorem State.setPage_testFrom (s : State) (die page st : Nat) :
    (State.setPage s die page st).testFrom = s.testFrom := by unfold State.setPage; exact State.set_testFrom ..

@[simp] theorem State.setPage_commitPorts (s : State) (die page st : Nat) :
    (State.setPage s die page st).commitPorts = s.commitPorts := by unfold State.setPage; exact State.set_commitPorts ..

@[simp] theorem State.setPage_free (s : State) (die page st : Nat) :
    (State.setPage s die page st).free = s.free := by unfold State.setPage; exact State.set_free ..

@[simp] theorem State.setPage_pending (s : State) (die page st : Nat) :
    (State.setPage s die page st).pending = s.pending := by unfold State.setPage; exact State.set_pending ..

@[simp] theorem State.setEvent_part (s : State) (die page evt : Nat) :
    (State.setEvent s die page evt).part = s.part := by unfold State.setEvent; exact State.setReg_part ..

@[simp] theorem State.setEvent_device (s : State) (die page evt : Nat) :
    (State.setEvent s die page evt).device = s.device := by unfold State.setEvent; exact State.setReg_device ..

@[simp] theorem State.setEvent_ready (s : State) (die page evt : Nat) :
    (State.setEvent s die page evt).ready = s.ready := by unfold State.setEvent; exact State.setReg_ready ..

@[simp] theorem State.setEvent_rail33 (s : State) (die page evt : Nat) :
    (State.setEvent s die page evt).rail33 = s.rail33 := by unfold State.setEvent; exact State.setReg_rail33 ..

@[simp] theorem State.setEvent_epoch (s : State) (die page evt : Nat) :
    (State.setEvent s die page evt).epoch = s.epoch := by unfold State.setEvent; exact State.setReg_epoch ..

@[simp] theorem State.setEvent_time (s : State) (die page evt : Nat) :
    (State.setEvent s die page evt).time = s.time := by unfold State.setEvent; exact State.setReg_time ..

@[simp] theorem State.setEvent_shadow (s : State) (die page evt : Nat) :
    (State.setEvent s die page evt).shadow = s.shadow := by unfold State.setEvent; exact State.setReg_shadow ..

@[simp] theorem State.setEvent_holds (s : State) (die page evt : Nat) :
    (State.setEvent s die page evt).holds = s.holds := by unfold State.setEvent; exact State.setReg_holds ..

@[simp] theorem State.setEvent_mem (s : State) (die page evt : Nat) :
    (State.setEvent s die page evt).mem = s.mem := by unfold State.setEvent; exact State.setReg_mem ..

@[simp] theorem State.setEvent_tb (s : State) (die page evt : Nat) :
    (State.setEvent s die page evt).tb = s.tb := by unfold State.setEvent; exact State.setReg_tb ..

@[simp] theorem State.setEvent_seams (s : State) (die page evt : Nat) :
    (State.setEvent s die page evt).seams = s.seams := by unfold State.setEvent; exact State.setReg_seams ..

@[simp] theorem State.setEvent_dieX (s : State) (die page evt : Nat) :
    (State.setEvent s die page evt).dieX = s.dieX := by unfold State.setEvent; exact State.setReg_dieX ..

@[simp] theorem State.setEvent_slices (s : State) (die page evt : Nat) :
    (State.setEvent s die page evt).slices = s.slices := by unfold State.setEvent; exact State.setReg_slices ..

@[simp] theorem State.setEvent_exchs (s : State) (die page evt : Nat) :
    (State.setEvent s die page evt).exchs = s.exchs := by unfold State.setEvent; exact State.setReg_exchs ..

@[simp] theorem State.setEvent_fieldHolds (s : State) (die page evt : Nat) :
    (State.setEvent s die page evt).fieldHolds = s.fieldHolds := by unfold State.setEvent; exact State.setReg_fieldHolds ..

@[simp] theorem State.setEvent_watches (s : State) (die page evt : Nat) :
    (State.setEvent s die page evt).watches = s.watches := by unfold State.setEvent; exact State.setReg_watches ..

@[simp] theorem State.setEvent_coord (s : State) (die page evt : Nat) :
    (State.setEvent s die page evt).coord = s.coord := by unfold State.setEvent; exact State.setReg_coord ..

@[simp] theorem State.setEvent_classes (s : State) (die page evt : Nat) :
    (State.setEvent s die page evt).classes = s.classes := by unfold State.setEvent; exact State.setReg_classes ..

@[simp] theorem State.setEvent_hamper (s : State) (die page evt : Nat) :
    (State.setEvent s die page evt).hamper = s.hamper := by unfold State.setEvent; exact State.setReg_hamper ..

@[simp] theorem State.setEvent_tickets (s : State) (die page evt : Nat) :
    (State.setEvent s die page evt).tickets = s.tickets := by unfold State.setEvent; exact State.setReg_tickets ..

@[simp] theorem State.setEvent_departs (s : State) (die page evt : Nat) :
    (State.setEvent s die page evt).departs = s.departs := by unfold State.setEvent; exact State.setReg_departs ..

@[simp] theorem State.setEvent_calSets (s : State) (die page evt : Nat) :
    (State.setEvent s die page evt).calSets = s.calSets := by unfold State.setEvent; exact State.setReg_calSets ..

@[simp] theorem State.setEvent_lockBlock (s : State) (die page evt : Nat) :
    (State.setEvent s die page evt).lockBlock = s.lockBlock := by unfold State.setEvent; exact State.setReg_lockBlock ..

@[simp] theorem State.setEvent_recDone (s : State) (die page evt : Nat) :
    (State.setEvent s die page evt).recDone = s.recDone := by unfold State.setEvent; exact State.setReg_recDone ..

@[simp] theorem State.setEvent_cal (s : State) (die page evt : Nat) :
    (State.setEvent s die page evt).cal = s.cal := by unfold State.setEvent; exact State.setReg_cal ..

@[simp] theorem State.setEvent_tests (s : State) (die page evt : Nat) :
    (State.setEvent s die page evt).tests = s.tests := by unfold State.setEvent; exact State.setReg_tests ..

@[simp] theorem State.setEvent_darn (s : State) (die page evt : Nat) :
    (State.setEvent s die page evt).darn = s.darn := by unfold State.setEvent; exact State.setReg_darn ..

@[simp] theorem State.setEvent_nv (s : State) (die page evt : Nat) :
    (State.setEvent s die page evt).nv = s.nv := by unfold State.setEvent; exact State.setReg_nv ..

@[simp] theorem State.setEvent_icu (s : State) (die page evt : Nat) :
    (State.setEvent s die page evt).icu = s.icu := by unfold State.setEvent; exact State.setReg_icu ..

@[simp] theorem State.setEvent_power (s : State) (die page evt : Nat) :
    (State.setEvent s die page evt).power = s.power := by unfold State.setEvent; exact State.setReg_power ..

@[simp] theorem State.setEvent_supply (s : State) (die page evt : Nat) :
    (State.setEvent s die page evt).supply = s.supply := by unfold State.setEvent; exact State.setReg_supply ..

@[simp] theorem State.setEvent_radio (s : State) (die page evt : Nat) :
    (State.setEvent s die page evt).radio = s.radio := by unfold State.setEvent; exact State.setReg_radio ..

@[simp] theorem State.setEvent_ple (s : State) (die page evt : Nat) :
    (State.setEvent s die page evt).ple = s.ple := by unfold State.setEvent; exact State.setReg_ple ..

@[simp] theorem State.setEvent_ssc (s : State) (die page evt : Nat) :
    (State.setEvent s die page evt).ssc = s.ssc := by unfold State.setEvent; exact State.setReg_ssc ..

@[simp] theorem State.setEvent_ssl (s : State) (die page evt : Nat) :
    (State.setEvent s die page evt).ssl = s.ssl := by unfold State.setEvent; exact State.setReg_ssl ..

@[simp] theorem State.setEvent_saf (s : State) (die page evt : Nat) :
    (State.setEvent s die page evt).saf = s.saf := by unfold State.setEvent; exact State.setReg_saf ..

@[simp] theorem State.setEvent_hsp (s : State) (die page evt : Nat) :
    (State.setEvent s die page evt).hsp = s.hsp := by unfold State.setEvent; exact State.setReg_hsp ..

@[simp] theorem State.setEvent_htw (s : State) (die page evt : Nat) :
    (State.setEvent s die page evt).htw = s.htw := by unfold State.setEvent; exact State.setReg_htw ..

@[simp] theorem State.setEvent_load (s : State) (die page evt : Nat) :
    (State.setEvent s die page evt).load = s.load := by unfold State.setEvent; exact State.setReg_load ..

@[simp] theorem State.setEvent_testFrom (s : State) (die page evt : Nat) :
    (State.setEvent s die page evt).testFrom = s.testFrom := by unfold State.setEvent; exact State.setReg_testFrom ..

@[simp] theorem State.setEvent_commitPorts (s : State) (die page evt : Nat) :
    (State.setEvent s die page evt).commitPorts = s.commitPorts := by unfold State.setEvent; exact State.setReg_commitPorts ..

@[simp] theorem State.setEvent_free (s : State) (die page evt : Nat) :
    (State.setEvent s die page evt).free = s.free := by unfold State.setEvent; exact State.setReg_free ..

@[simp] theorem State.setEvent_pending (s : State) (die page evt : Nat) :
    (State.setEvent s die page evt).pending = s.pending := by unfold State.setEvent; exact State.setReg_pending ..

@[simp] theorem State.countUp_part (s : State) (die : Nat) (cnt ovf : Fld) (n : Nat) :
    (State.countUp s die cnt ovf n).part = s.part := by
  simp only [State.countUp]
  split <;> simp only [State.set_part]

@[simp] theorem State.countUp_device (s : State) (die : Nat) (cnt ovf : Fld) (n : Nat) :
    (State.countUp s die cnt ovf n).device = s.device := by
  simp only [State.countUp]
  split <;> simp only [State.set_device]

@[simp] theorem State.countUp_ready (s : State) (die : Nat) (cnt ovf : Fld) (n : Nat) :
    (State.countUp s die cnt ovf n).ready = s.ready := by
  simp only [State.countUp]
  split <;> simp only [State.set_ready]

@[simp] theorem State.countUp_rail33 (s : State) (die : Nat) (cnt ovf : Fld) (n : Nat) :
    (State.countUp s die cnt ovf n).rail33 = s.rail33 := by
  simp only [State.countUp]
  split <;> simp only [State.set_rail33]

@[simp] theorem State.countUp_epoch (s : State) (die : Nat) (cnt ovf : Fld) (n : Nat) :
    (State.countUp s die cnt ovf n).epoch = s.epoch := by
  simp only [State.countUp]
  split <;> simp only [State.set_epoch]

@[simp] theorem State.countUp_time (s : State) (die : Nat) (cnt ovf : Fld) (n : Nat) :
    (State.countUp s die cnt ovf n).time = s.time := by
  simp only [State.countUp]
  split <;> simp only [State.set_time]

@[simp] theorem State.countUp_shadow (s : State) (die : Nat) (cnt ovf : Fld) (n : Nat) :
    (State.countUp s die cnt ovf n).shadow = s.shadow := by
  simp only [State.countUp]
  split <;> simp only [State.set_shadow]

@[simp] theorem State.countUp_holds (s : State) (die : Nat) (cnt ovf : Fld) (n : Nat) :
    (State.countUp s die cnt ovf n).holds = s.holds := by
  simp only [State.countUp]
  split <;> simp only [State.set_holds]

@[simp] theorem State.countUp_mem (s : State) (die : Nat) (cnt ovf : Fld) (n : Nat) :
    (State.countUp s die cnt ovf n).mem = s.mem := by
  simp only [State.countUp]
  split <;> simp only [State.set_mem]

@[simp] theorem State.countUp_tb (s : State) (die : Nat) (cnt ovf : Fld) (n : Nat) :
    (State.countUp s die cnt ovf n).tb = s.tb := by
  simp only [State.countUp]
  split <;> simp only [State.set_tb]

@[simp] theorem State.countUp_seams (s : State) (die : Nat) (cnt ovf : Fld) (n : Nat) :
    (State.countUp s die cnt ovf n).seams = s.seams := by
  simp only [State.countUp]
  split <;> simp only [State.set_seams]

@[simp] theorem State.countUp_dieX (s : State) (die : Nat) (cnt ovf : Fld) (n : Nat) :
    (State.countUp s die cnt ovf n).dieX = s.dieX := by
  simp only [State.countUp]
  split <;> simp only [State.set_dieX]

@[simp] theorem State.countUp_slices (s : State) (die : Nat) (cnt ovf : Fld) (n : Nat) :
    (State.countUp s die cnt ovf n).slices = s.slices := by
  simp only [State.countUp]
  split <;> simp only [State.set_slices]

@[simp] theorem State.countUp_exchs (s : State) (die : Nat) (cnt ovf : Fld) (n : Nat) :
    (State.countUp s die cnt ovf n).exchs = s.exchs := by
  simp only [State.countUp]
  split <;> simp only [State.set_exchs]

@[simp] theorem State.countUp_fieldHolds (s : State) (die : Nat) (cnt ovf : Fld) (n : Nat) :
    (State.countUp s die cnt ovf n).fieldHolds = s.fieldHolds := by
  simp only [State.countUp]
  split <;> simp only [State.set_fieldHolds]

@[simp] theorem State.countUp_watches (s : State) (die : Nat) (cnt ovf : Fld) (n : Nat) :
    (State.countUp s die cnt ovf n).watches = s.watches := by
  simp only [State.countUp]
  split <;> simp only [State.set_watches]

@[simp] theorem State.countUp_coord (s : State) (die : Nat) (cnt ovf : Fld) (n : Nat) :
    (State.countUp s die cnt ovf n).coord = s.coord := by
  simp only [State.countUp]
  split <;> simp only [State.set_coord]

@[simp] theorem State.countUp_classes (s : State) (die : Nat) (cnt ovf : Fld) (n : Nat) :
    (State.countUp s die cnt ovf n).classes = s.classes := by
  simp only [State.countUp]
  split <;> simp only [State.set_classes]

@[simp] theorem State.countUp_hamper (s : State) (die : Nat) (cnt ovf : Fld) (n : Nat) :
    (State.countUp s die cnt ovf n).hamper = s.hamper := by
  simp only [State.countUp]
  split <;> simp only [State.set_hamper]

@[simp] theorem State.countUp_tickets (s : State) (die : Nat) (cnt ovf : Fld) (n : Nat) :
    (State.countUp s die cnt ovf n).tickets = s.tickets := by
  simp only [State.countUp]
  split <;> simp only [State.set_tickets]

@[simp] theorem State.countUp_departs (s : State) (die : Nat) (cnt ovf : Fld) (n : Nat) :
    (State.countUp s die cnt ovf n).departs = s.departs := by
  simp only [State.countUp]
  split <;> simp only [State.set_departs]

@[simp] theorem State.countUp_calSets (s : State) (die : Nat) (cnt ovf : Fld) (n : Nat) :
    (State.countUp s die cnt ovf n).calSets = s.calSets := by
  simp only [State.countUp]
  split <;> simp only [State.set_calSets]

@[simp] theorem State.countUp_lockBlock (s : State) (die : Nat) (cnt ovf : Fld) (n : Nat) :
    (State.countUp s die cnt ovf n).lockBlock = s.lockBlock := by
  simp only [State.countUp]
  split <;> simp only [State.set_lockBlock]

@[simp] theorem State.countUp_recDone (s : State) (die : Nat) (cnt ovf : Fld) (n : Nat) :
    (State.countUp s die cnt ovf n).recDone = s.recDone := by
  simp only [State.countUp]
  split <;> simp only [State.set_recDone]

@[simp] theorem State.countUp_cal (s : State) (die : Nat) (cnt ovf : Fld) (n : Nat) :
    (State.countUp s die cnt ovf n).cal = s.cal := by
  simp only [State.countUp]
  split <;> simp only [State.set_cal]

@[simp] theorem State.countUp_tests (s : State) (die : Nat) (cnt ovf : Fld) (n : Nat) :
    (State.countUp s die cnt ovf n).tests = s.tests := by
  simp only [State.countUp]
  split <;> simp only [State.set_tests]

@[simp] theorem State.countUp_darn (s : State) (die : Nat) (cnt ovf : Fld) (n : Nat) :
    (State.countUp s die cnt ovf n).darn = s.darn := by
  simp only [State.countUp]
  split <;> simp only [State.set_darn]

@[simp] theorem State.countUp_nv (s : State) (die : Nat) (cnt ovf : Fld) (n : Nat) :
    (State.countUp s die cnt ovf n).nv = s.nv := by
  simp only [State.countUp]
  split <;> simp only [State.set_nv]

@[simp] theorem State.countUp_icu (s : State) (die : Nat) (cnt ovf : Fld) (n : Nat) :
    (State.countUp s die cnt ovf n).icu = s.icu := by
  simp only [State.countUp]
  split <;> simp only [State.set_icu]

@[simp] theorem State.countUp_power (s : State) (die : Nat) (cnt ovf : Fld) (n : Nat) :
    (State.countUp s die cnt ovf n).power = s.power := by
  simp only [State.countUp]
  split <;> simp only [State.set_power]

@[simp] theorem State.countUp_supply (s : State) (die : Nat) (cnt ovf : Fld) (n : Nat) :
    (State.countUp s die cnt ovf n).supply = s.supply := by
  simp only [State.countUp]
  split <;> simp only [State.set_supply]

@[simp] theorem State.countUp_radio (s : State) (die : Nat) (cnt ovf : Fld) (n : Nat) :
    (State.countUp s die cnt ovf n).radio = s.radio := by
  simp only [State.countUp]
  split <;> simp only [State.set_radio]

@[simp] theorem State.countUp_ple (s : State) (die : Nat) (cnt ovf : Fld) (n : Nat) :
    (State.countUp s die cnt ovf n).ple = s.ple := by
  simp only [State.countUp]
  split <;> simp only [State.set_ple]

@[simp] theorem State.countUp_ssc (s : State) (die : Nat) (cnt ovf : Fld) (n : Nat) :
    (State.countUp s die cnt ovf n).ssc = s.ssc := by
  simp only [State.countUp]
  split <;> simp only [State.set_ssc]

@[simp] theorem State.countUp_ssl (s : State) (die : Nat) (cnt ovf : Fld) (n : Nat) :
    (State.countUp s die cnt ovf n).ssl = s.ssl := by
  simp only [State.countUp]
  split <;> simp only [State.set_ssl]

@[simp] theorem State.countUp_saf (s : State) (die : Nat) (cnt ovf : Fld) (n : Nat) :
    (State.countUp s die cnt ovf n).saf = s.saf := by
  simp only [State.countUp]
  split <;> simp only [State.set_saf]

@[simp] theorem State.countUp_hsp (s : State) (die : Nat) (cnt ovf : Fld) (n : Nat) :
    (State.countUp s die cnt ovf n).hsp = s.hsp := by
  simp only [State.countUp]
  split <;> simp only [State.set_hsp]

@[simp] theorem State.countUp_htw (s : State) (die : Nat) (cnt ovf : Fld) (n : Nat) :
    (State.countUp s die cnt ovf n).htw = s.htw := by
  simp only [State.countUp]
  split <;> simp only [State.set_htw]

@[simp] theorem State.countUp_load (s : State) (die : Nat) (cnt ovf : Fld) (n : Nat) :
    (State.countUp s die cnt ovf n).load = s.load := by
  simp only [State.countUp]
  split <;> simp only [State.set_load]

@[simp] theorem State.countUp_testFrom (s : State) (die : Nat) (cnt ovf : Fld) (n : Nat) :
    (State.countUp s die cnt ovf n).testFrom = s.testFrom := by
  simp only [State.countUp]
  split <;> simp only [State.set_testFrom]

@[simp] theorem State.countUp_commitPorts (s : State) (die : Nat) (cnt ovf : Fld) (n : Nat) :
    (State.countUp s die cnt ovf n).commitPorts = s.commitPorts := by
  simp only [State.countUp]
  split <;> simp only [State.set_commitPorts]

@[simp] theorem State.countUp_free (s : State) (die : Nat) (cnt ovf : Fld) (n : Nat) :
    (State.countUp s die cnt ovf n).free = s.free := by
  simp only [State.countUp]
  split <;> simp only [State.set_free]

@[simp] theorem State.countUp_pending (s : State) (die : Nat) (cnt ovf : Fld) (n : Nat) :
    (State.countUp s die cnt ovf n).pending = s.pending := by
  simp only [State.countUp]
  split <;> simp only [State.set_pending]

@[simp] theorem State.err_part (s : State) (die page code : Nat) :
    (State.err s die page code).part = s.part := by
  simp only [State.err]
  split <;> simp only [State.set_part, State.countUp_part]

@[simp] theorem State.err_device (s : State) (die page code : Nat) :
    (State.err s die page code).device = s.device := by
  simp only [State.err]
  split <;> simp only [State.set_device, State.countUp_device]

@[simp] theorem State.err_ready (s : State) (die page code : Nat) :
    (State.err s die page code).ready = s.ready := by
  simp only [State.err]
  split <;> simp only [State.set_ready, State.countUp_ready]

@[simp] theorem State.err_rail33 (s : State) (die page code : Nat) :
    (State.err s die page code).rail33 = s.rail33 := by
  simp only [State.err]
  split <;> simp only [State.set_rail33, State.countUp_rail33]

@[simp] theorem State.err_epoch (s : State) (die page code : Nat) :
    (State.err s die page code).epoch = s.epoch := by
  simp only [State.err]
  split <;> simp only [State.set_epoch, State.countUp_epoch]

@[simp] theorem State.err_time (s : State) (die page code : Nat) :
    (State.err s die page code).time = s.time := by
  simp only [State.err]
  split <;> simp only [State.set_time, State.countUp_time]

@[simp] theorem State.err_shadow (s : State) (die page code : Nat) :
    (State.err s die page code).shadow = s.shadow := by
  simp only [State.err]
  split <;> simp only [State.set_shadow, State.countUp_shadow]

@[simp] theorem State.err_holds (s : State) (die page code : Nat) :
    (State.err s die page code).holds = s.holds := by
  simp only [State.err]
  split <;> simp only [State.set_holds, State.countUp_holds]

@[simp] theorem State.err_mem (s : State) (die page code : Nat) :
    (State.err s die page code).mem = s.mem := by
  simp only [State.err]
  split <;> simp only [State.set_mem, State.countUp_mem]

@[simp] theorem State.err_tb (s : State) (die page code : Nat) :
    (State.err s die page code).tb = s.tb := by
  simp only [State.err]
  split <;> simp only [State.set_tb, State.countUp_tb]

@[simp] theorem State.err_seams (s : State) (die page code : Nat) :
    (State.err s die page code).seams = s.seams := by
  simp only [State.err]
  split <;> simp only [State.set_seams, State.countUp_seams]

@[simp] theorem State.err_dieX (s : State) (die page code : Nat) :
    (State.err s die page code).dieX = s.dieX := by
  simp only [State.err]
  split <;> simp only [State.set_dieX, State.countUp_dieX]

@[simp] theorem State.err_slices (s : State) (die page code : Nat) :
    (State.err s die page code).slices = s.slices := by
  simp only [State.err]
  split <;> simp only [State.set_slices, State.countUp_slices]

@[simp] theorem State.err_exchs (s : State) (die page code : Nat) :
    (State.err s die page code).exchs = s.exchs := by
  simp only [State.err]
  split <;> simp only [State.set_exchs, State.countUp_exchs]

@[simp] theorem State.err_fieldHolds (s : State) (die page code : Nat) :
    (State.err s die page code).fieldHolds = s.fieldHolds := by
  simp only [State.err]
  split <;> simp only [State.set_fieldHolds, State.countUp_fieldHolds]

@[simp] theorem State.err_watches (s : State) (die page code : Nat) :
    (State.err s die page code).watches = s.watches := by
  simp only [State.err]
  split <;> simp only [State.set_watches, State.countUp_watches]

@[simp] theorem State.err_coord (s : State) (die page code : Nat) :
    (State.err s die page code).coord = s.coord := by
  simp only [State.err]
  split <;> simp only [State.set_coord, State.countUp_coord]

@[simp] theorem State.err_classes (s : State) (die page code : Nat) :
    (State.err s die page code).classes = s.classes := by
  simp only [State.err]
  split <;> simp only [State.set_classes, State.countUp_classes]

@[simp] theorem State.err_hamper (s : State) (die page code : Nat) :
    (State.err s die page code).hamper = s.hamper := by
  simp only [State.err]
  split <;> simp only [State.set_hamper, State.countUp_hamper]

@[simp] theorem State.err_tickets (s : State) (die page code : Nat) :
    (State.err s die page code).tickets = s.tickets := by
  simp only [State.err]
  split <;> simp only [State.set_tickets, State.countUp_tickets]

@[simp] theorem State.err_departs (s : State) (die page code : Nat) :
    (State.err s die page code).departs = s.departs := by
  simp only [State.err]
  split <;> simp only [State.set_departs, State.countUp_departs]

@[simp] theorem State.err_calSets (s : State) (die page code : Nat) :
    (State.err s die page code).calSets = s.calSets := by
  simp only [State.err]
  split <;> simp only [State.set_calSets, State.countUp_calSets]

@[simp] theorem State.err_lockBlock (s : State) (die page code : Nat) :
    (State.err s die page code).lockBlock = s.lockBlock := by
  simp only [State.err]
  split <;> simp only [State.set_lockBlock, State.countUp_lockBlock]

@[simp] theorem State.err_recDone (s : State) (die page code : Nat) :
    (State.err s die page code).recDone = s.recDone := by
  simp only [State.err]
  split <;> simp only [State.set_recDone, State.countUp_recDone]

@[simp] theorem State.err_cal (s : State) (die page code : Nat) :
    (State.err s die page code).cal = s.cal := by
  simp only [State.err]
  split <;> simp only [State.set_cal, State.countUp_cal]

@[simp] theorem State.err_tests (s : State) (die page code : Nat) :
    (State.err s die page code).tests = s.tests := by
  simp only [State.err]
  split <;> simp only [State.set_tests, State.countUp_tests]

@[simp] theorem State.err_darn (s : State) (die page code : Nat) :
    (State.err s die page code).darn = s.darn := by
  simp only [State.err]
  split <;> simp only [State.set_darn, State.countUp_darn]

@[simp] theorem State.err_nv (s : State) (die page code : Nat) :
    (State.err s die page code).nv = s.nv := by
  simp only [State.err]
  split <;> simp only [State.set_nv, State.countUp_nv]

@[simp] theorem State.err_icu (s : State) (die page code : Nat) :
    (State.err s die page code).icu = s.icu := by
  simp only [State.err]
  split <;> simp only [State.set_icu, State.countUp_icu]

@[simp] theorem State.err_power (s : State) (die page code : Nat) :
    (State.err s die page code).power = s.power := by
  simp only [State.err]
  split <;> simp only [State.set_power, State.countUp_power]

@[simp] theorem State.err_supply (s : State) (die page code : Nat) :
    (State.err s die page code).supply = s.supply := by
  simp only [State.err]
  split <;> simp only [State.set_supply, State.countUp_supply]

@[simp] theorem State.err_radio (s : State) (die page code : Nat) :
    (State.err s die page code).radio = s.radio := by
  simp only [State.err]
  split <;> simp only [State.set_radio, State.countUp_radio]

@[simp] theorem State.err_ple (s : State) (die page code : Nat) :
    (State.err s die page code).ple = s.ple := by
  simp only [State.err]
  split <;> simp only [State.set_ple, State.countUp_ple]

@[simp] theorem State.err_ssc (s : State) (die page code : Nat) :
    (State.err s die page code).ssc = s.ssc := by
  simp only [State.err]
  split <;> simp only [State.set_ssc, State.countUp_ssc]

@[simp] theorem State.err_ssl (s : State) (die page code : Nat) :
    (State.err s die page code).ssl = s.ssl := by
  simp only [State.err]
  split <;> simp only [State.set_ssl, State.countUp_ssl]

@[simp] theorem State.err_saf (s : State) (die page code : Nat) :
    (State.err s die page code).saf = s.saf := by
  simp only [State.err]
  split <;> simp only [State.set_saf, State.countUp_saf]

@[simp] theorem State.err_hsp (s : State) (die page code : Nat) :
    (State.err s die page code).hsp = s.hsp := by
  simp only [State.err]
  split <;> simp only [State.set_hsp, State.countUp_hsp]

@[simp] theorem State.err_htw (s : State) (die page code : Nat) :
    (State.err s die page code).htw = s.htw := by
  simp only [State.err]
  split <;> simp only [State.set_htw, State.countUp_htw]

@[simp] theorem State.err_load (s : State) (die page code : Nat) :
    (State.err s die page code).load = s.load := by
  simp only [State.err]
  split <;> simp only [State.set_load, State.countUp_load]

@[simp] theorem State.err_testFrom (s : State) (die page code : Nat) :
    (State.err s die page code).testFrom = s.testFrom := by
  simp only [State.err]
  split <;> simp only [State.set_testFrom, State.countUp_testFrom]

@[simp] theorem State.err_commitPorts (s : State) (die page code : Nat) :
    (State.err s die page code).commitPorts = s.commitPorts := by
  simp only [State.err]
  split <;> simp only [State.set_commitPorts, State.countUp_commitPorts]

@[simp] theorem State.err_free (s : State) (die page code : Nat) :
    (State.err s die page code).free = s.free := by
  simp only [State.err]
  split <;> simp only [State.set_free, State.countUp_free]

@[simp] theorem State.err_pending (s : State) (die page code : Nat) :
    (State.err s die page code).pending = s.pending := by
  simp only [State.err]
  split <;> simp only [State.set_pending, State.countUp_pending]

@[simp] theorem State.saveTo_part (s : State) (n : Nat) : (s.saveTo n).part = s.part := by
  simp only [State.saveTo, State.set_part]

theorem State.saveStep_part (s : State) : s.saveStep.part = s.part := by
  simp only [State.saveStep]
  split <;> simp only [State.saveTo_part, State.fresh]

@[simp] theorem State.setTicket_part (s : State) (i : Nat) (t : Ticket) :
    (State.setTicket s i t).part = s.part := by
  simp only [State.setTicket, State.saveStep_part]

@[simp] theorem State.saveTo_device (s : State) (n : Nat) : (s.saveTo n).device = s.device := by
  simp only [State.saveTo, State.set_device]

theorem State.saveStep_device (s : State) : s.saveStep.device = s.device := by
  simp only [State.saveStep]
  split <;> simp only [State.saveTo_device, State.fresh]

@[simp] theorem State.setTicket_device (s : State) (i : Nat) (t : Ticket) :
    (State.setTicket s i t).device = s.device := by
  simp only [State.setTicket, State.saveStep_device]

@[simp] theorem State.saveTo_ready (s : State) (n : Nat) : (s.saveTo n).ready = s.ready := by
  simp only [State.saveTo, State.set_ready]

theorem State.saveStep_ready (s : State) : s.saveStep.ready = s.ready := by
  simp only [State.saveStep]
  split <;> simp only [State.saveTo_ready, State.fresh]

@[simp] theorem State.setTicket_ready (s : State) (i : Nat) (t : Ticket) :
    (State.setTicket s i t).ready = s.ready := by
  simp only [State.setTicket, State.saveStep_ready]

@[simp] theorem State.saveTo_rail33 (s : State) (n : Nat) : (s.saveTo n).rail33 = s.rail33 := by
  simp only [State.saveTo, State.set_rail33]

theorem State.saveStep_rail33 (s : State) : s.saveStep.rail33 = s.rail33 := by
  simp only [State.saveStep]
  split <;> simp only [State.saveTo_rail33, State.fresh]

@[simp] theorem State.setTicket_rail33 (s : State) (i : Nat) (t : Ticket) :
    (State.setTicket s i t).rail33 = s.rail33 := by
  simp only [State.setTicket, State.saveStep_rail33]

@[simp] theorem State.saveTo_epoch (s : State) (n : Nat) : (s.saveTo n).epoch = s.epoch := by
  simp only [State.saveTo, State.set_epoch]

theorem State.saveStep_epoch (s : State) : s.saveStep.epoch = s.epoch := by
  simp only [State.saveStep]
  split <;> simp only [State.saveTo_epoch, State.fresh]

@[simp] theorem State.setTicket_epoch (s : State) (i : Nat) (t : Ticket) :
    (State.setTicket s i t).epoch = s.epoch := by
  simp only [State.setTicket, State.saveStep_epoch]

@[simp] theorem State.saveTo_time (s : State) (n : Nat) : (s.saveTo n).time = s.time := by
  simp only [State.saveTo, State.set_time]

theorem State.saveStep_time (s : State) : s.saveStep.time = s.time := by
  simp only [State.saveStep]
  split <;> simp only [State.saveTo_time, State.fresh]

@[simp] theorem State.setTicket_time (s : State) (i : Nat) (t : Ticket) :
    (State.setTicket s i t).time = s.time := by
  simp only [State.setTicket, State.saveStep_time]

@[simp] theorem State.saveTo_shadow (s : State) (n : Nat) : (s.saveTo n).shadow = s.shadow := by
  simp only [State.saveTo, State.set_shadow]

theorem State.saveStep_shadow (s : State) : s.saveStep.shadow = s.shadow := by
  simp only [State.saveStep]
  split <;> simp only [State.saveTo_shadow, State.fresh]

@[simp] theorem State.setTicket_shadow (s : State) (i : Nat) (t : Ticket) :
    (State.setTicket s i t).shadow = s.shadow := by
  simp only [State.setTicket, State.saveStep_shadow]

@[simp] theorem State.saveTo_holds (s : State) (n : Nat) : (s.saveTo n).holds = s.holds := by
  simp only [State.saveTo, State.set_holds]

theorem State.saveStep_holds (s : State) : s.saveStep.holds = s.holds := by
  simp only [State.saveStep]
  split <;> simp only [State.saveTo_holds, State.fresh]

@[simp] theorem State.setTicket_holds (s : State) (i : Nat) (t : Ticket) :
    (State.setTicket s i t).holds = s.holds := by
  simp only [State.setTicket, State.saveStep_holds]

@[simp] theorem State.saveTo_mem (s : State) (n : Nat) : (s.saveTo n).mem = s.mem := by
  simp only [State.saveTo, State.set_mem]

theorem State.saveStep_mem (s : State) : s.saveStep.mem = s.mem := by
  simp only [State.saveStep]
  split <;> simp only [State.saveTo_mem, State.fresh]

@[simp] theorem State.setTicket_mem (s : State) (i : Nat) (t : Ticket) :
    (State.setTicket s i t).mem = s.mem := by
  simp only [State.setTicket, State.saveStep_mem]

@[simp] theorem State.saveTo_tb (s : State) (n : Nat) : (s.saveTo n).tb = s.tb := by
  simp only [State.saveTo, State.set_tb]

theorem State.saveStep_tb (s : State) : s.saveStep.tb = s.tb := by
  simp only [State.saveStep]
  split <;> simp only [State.saveTo_tb, State.fresh]

@[simp] theorem State.setTicket_tb (s : State) (i : Nat) (t : Ticket) :
    (State.setTicket s i t).tb = s.tb := by
  simp only [State.setTicket, State.saveStep_tb]

@[simp] theorem State.saveTo_seams (s : State) (n : Nat) : (s.saveTo n).seams = s.seams := by
  simp only [State.saveTo, State.set_seams]

theorem State.saveStep_seams (s : State) : s.saveStep.seams = s.seams := by
  simp only [State.saveStep]
  split <;> simp only [State.saveTo_seams, State.fresh]

@[simp] theorem State.setTicket_seams (s : State) (i : Nat) (t : Ticket) :
    (State.setTicket s i t).seams = s.seams := by
  simp only [State.setTicket, State.saveStep_seams]

@[simp] theorem State.saveTo_dieX (s : State) (n : Nat) : (s.saveTo n).dieX = s.dieX := by
  simp only [State.saveTo, State.set_dieX]

theorem State.saveStep_dieX (s : State) : s.saveStep.dieX = s.dieX := by
  simp only [State.saveStep]
  split <;> simp only [State.saveTo_dieX, State.fresh]

@[simp] theorem State.setTicket_dieX (s : State) (i : Nat) (t : Ticket) :
    (State.setTicket s i t).dieX = s.dieX := by
  simp only [State.setTicket, State.saveStep_dieX]

@[simp] theorem State.saveTo_slices (s : State) (n : Nat) : (s.saveTo n).slices = s.slices := by
  simp only [State.saveTo, State.set_slices]

theorem State.saveStep_slices (s : State) : s.saveStep.slices = s.slices := by
  simp only [State.saveStep]
  split <;> simp only [State.saveTo_slices, State.fresh]

@[simp] theorem State.setTicket_slices (s : State) (i : Nat) (t : Ticket) :
    (State.setTicket s i t).slices = s.slices := by
  simp only [State.setTicket, State.saveStep_slices]

@[simp] theorem State.saveTo_exchs (s : State) (n : Nat) : (s.saveTo n).exchs = s.exchs := by
  simp only [State.saveTo, State.set_exchs]

theorem State.saveStep_exchs (s : State) : s.saveStep.exchs = s.exchs := by
  simp only [State.saveStep]
  split <;> simp only [State.saveTo_exchs, State.fresh]

@[simp] theorem State.setTicket_exchs (s : State) (i : Nat) (t : Ticket) :
    (State.setTicket s i t).exchs = s.exchs := by
  simp only [State.setTicket, State.saveStep_exchs]

@[simp] theorem State.saveTo_fieldHolds (s : State) (n : Nat) : (s.saveTo n).fieldHolds = s.fieldHolds := by
  simp only [State.saveTo, State.set_fieldHolds]

theorem State.saveStep_fieldHolds (s : State) : s.saveStep.fieldHolds = s.fieldHolds := by
  simp only [State.saveStep]
  split <;> simp only [State.saveTo_fieldHolds, State.fresh]

@[simp] theorem State.setTicket_fieldHolds (s : State) (i : Nat) (t : Ticket) :
    (State.setTicket s i t).fieldHolds = s.fieldHolds := by
  simp only [State.setTicket, State.saveStep_fieldHolds]

@[simp] theorem State.saveTo_watches (s : State) (n : Nat) : (s.saveTo n).watches = s.watches := by
  simp only [State.saveTo, State.set_watches]

theorem State.saveStep_watches (s : State) : s.saveStep.watches = s.watches := by
  simp only [State.saveStep]
  split <;> simp only [State.saveTo_watches, State.fresh]

@[simp] theorem State.setTicket_watches (s : State) (i : Nat) (t : Ticket) :
    (State.setTicket s i t).watches = s.watches := by
  simp only [State.setTicket, State.saveStep_watches]

@[simp] theorem State.saveTo_coord (s : State) (n : Nat) : (s.saveTo n).coord = s.coord := by
  simp only [State.saveTo, State.set_coord]

theorem State.saveStep_coord (s : State) : s.saveStep.coord = s.coord := by
  simp only [State.saveStep]
  split <;> simp only [State.saveTo_coord, State.fresh]

@[simp] theorem State.setTicket_coord (s : State) (i : Nat) (t : Ticket) :
    (State.setTicket s i t).coord = s.coord := by
  simp only [State.setTicket, State.saveStep_coord]

@[simp] theorem State.saveTo_classes (s : State) (n : Nat) : (s.saveTo n).classes = s.classes := by
  simp only [State.saveTo, State.set_classes]

theorem State.saveStep_classes (s : State) : s.saveStep.classes = s.classes := by
  simp only [State.saveStep]
  split <;> simp only [State.saveTo_classes, State.fresh]

@[simp] theorem State.setTicket_classes (s : State) (i : Nat) (t : Ticket) :
    (State.setTicket s i t).classes = s.classes := by
  simp only [State.setTicket, State.saveStep_classes]

@[simp] theorem State.saveTo_hamper (s : State) (n : Nat) : (s.saveTo n).hamper = s.hamper := by
  simp only [State.saveTo, State.set_hamper]

theorem State.saveStep_hamper (s : State) : s.saveStep.hamper = s.hamper := by
  simp only [State.saveStep]
  split <;> simp only [State.saveTo_hamper, State.fresh]

@[simp] theorem State.setTicket_hamper (s : State) (i : Nat) (t : Ticket) :
    (State.setTicket s i t).hamper = s.hamper := by
  simp only [State.setTicket, State.saveStep_hamper]

@[simp] theorem State.saveTo_tickets (s : State) (n : Nat) : (s.saveTo n).tickets = s.tickets := by
  simp only [State.saveTo, State.set_tickets]

theorem State.saveStep_tickets (s : State) : s.saveStep.tickets = s.tickets := by
  simp only [State.saveStep]
  split <;> simp only [State.saveTo_tickets, State.fresh]

@[simp] theorem State.saveTo_departs (s : State) (n : Nat) : (s.saveTo n).departs = s.departs := by
  simp only [State.saveTo, State.set_departs]

theorem State.saveStep_departs (s : State) : s.saveStep.departs = s.departs := by
  simp only [State.saveStep]
  split <;> simp only [State.saveTo_departs, State.fresh]

@[simp] theorem State.setTicket_departs (s : State) (i : Nat) (t : Ticket) :
    (State.setTicket s i t).departs = s.departs := by
  simp only [State.setTicket, State.saveStep_departs]

@[simp] theorem State.saveTo_calSets (s : State) (n : Nat) : (s.saveTo n).calSets = s.calSets := by
  simp only [State.saveTo, State.set_calSets]

theorem State.saveStep_calSets (s : State) : s.saveStep.calSets = s.calSets := by
  simp only [State.saveStep]
  split <;> simp only [State.saveTo_calSets, State.fresh]

@[simp] theorem State.setTicket_calSets (s : State) (i : Nat) (t : Ticket) :
    (State.setTicket s i t).calSets = s.calSets := by
  simp only [State.setTicket, State.saveStep_calSets]

@[simp] theorem State.saveTo_lockBlock (s : State) (n : Nat) : (s.saveTo n).lockBlock = s.lockBlock := by
  simp only [State.saveTo, State.set_lockBlock]

theorem State.saveStep_lockBlock (s : State) : s.saveStep.lockBlock = s.lockBlock := by
  simp only [State.saveStep]
  split <;> simp only [State.saveTo_lockBlock, State.fresh]

@[simp] theorem State.setTicket_lockBlock (s : State) (i : Nat) (t : Ticket) :
    (State.setTicket s i t).lockBlock = s.lockBlock := by
  simp only [State.setTicket, State.saveStep_lockBlock]

@[simp] theorem State.saveTo_recDone (s : State) (n : Nat) : (s.saveTo n).recDone = s.recDone := by
  simp only [State.saveTo, State.set_recDone]

theorem State.saveStep_recDone (s : State) : s.saveStep.recDone = s.recDone := by
  simp only [State.saveStep]
  split <;> simp only [State.saveTo_recDone, State.fresh]

@[simp] theorem State.setTicket_recDone (s : State) (i : Nat) (t : Ticket) :
    (State.setTicket s i t).recDone = s.recDone := by
  simp only [State.setTicket, State.saveStep_recDone]

@[simp] theorem State.saveTo_cal (s : State) (n : Nat) : (s.saveTo n).cal = s.cal := by
  simp only [State.saveTo, State.set_cal]

theorem State.saveStep_cal (s : State) : s.saveStep.cal = s.cal := by
  simp only [State.saveStep]
  split <;> simp only [State.saveTo_cal, State.fresh]

@[simp] theorem State.setTicket_cal (s : State) (i : Nat) (t : Ticket) :
    (State.setTicket s i t).cal = s.cal := by
  simp only [State.setTicket, State.saveStep_cal]

@[simp] theorem State.saveTo_tests (s : State) (n : Nat) : (s.saveTo n).tests = s.tests := by
  simp only [State.saveTo, State.set_tests]

theorem State.saveStep_tests (s : State) : s.saveStep.tests = s.tests := by
  simp only [State.saveStep]
  split <;> simp only [State.saveTo_tests, State.fresh]

@[simp] theorem State.setTicket_tests (s : State) (i : Nat) (t : Ticket) :
    (State.setTicket s i t).tests = s.tests := by
  simp only [State.setTicket, State.saveStep_tests]

@[simp] theorem State.saveTo_darn (s : State) (n : Nat) : (s.saveTo n).darn = s.darn := by
  simp only [State.saveTo, State.set_darn]

theorem State.saveStep_darn (s : State) : s.saveStep.darn = s.darn := by
  simp only [State.saveStep]
  split <;> simp only [State.saveTo_darn, State.fresh]

@[simp] theorem State.setTicket_darn (s : State) (i : Nat) (t : Ticket) :
    (State.setTicket s i t).darn = s.darn := by
  simp only [State.setTicket, State.saveStep_darn]

@[simp] theorem State.saveTo_icu (s : State) (n : Nat) : (s.saveTo n).icu = s.icu := by
  simp only [State.saveTo, State.set_icu]

theorem State.saveStep_icu (s : State) : s.saveStep.icu = s.icu := by
  simp only [State.saveStep]
  split <;> simp only [State.saveTo_icu, State.fresh]

@[simp] theorem State.setTicket_icu (s : State) (i : Nat) (t : Ticket) :
    (State.setTicket s i t).icu = s.icu := by
  simp only [State.setTicket, State.saveStep_icu]

@[simp] theorem State.saveTo_power (s : State) (n : Nat) : (s.saveTo n).power = s.power := by
  simp only [State.saveTo, State.set_power]

theorem State.saveStep_power (s : State) : s.saveStep.power = s.power := by
  simp only [State.saveStep]
  split <;> simp only [State.saveTo_power, State.fresh]

@[simp] theorem State.setTicket_power (s : State) (i : Nat) (t : Ticket) :
    (State.setTicket s i t).power = s.power := by
  simp only [State.setTicket, State.saveStep_power]

@[simp] theorem State.saveTo_supply (s : State) (n : Nat) : (s.saveTo n).supply = s.supply := by
  simp only [State.saveTo, State.set_supply]

theorem State.saveStep_supply (s : State) : s.saveStep.supply = s.supply := by
  simp only [State.saveStep]
  split <;> simp only [State.saveTo_supply, State.fresh]

@[simp] theorem State.setTicket_supply (s : State) (i : Nat) (t : Ticket) :
    (State.setTicket s i t).supply = s.supply := by
  simp only [State.setTicket, State.saveStep_supply]

@[simp] theorem State.saveTo_radio (s : State) (n : Nat) : (s.saveTo n).radio = s.radio := by
  simp only [State.saveTo, State.set_radio]

theorem State.saveStep_radio (s : State) : s.saveStep.radio = s.radio := by
  simp only [State.saveStep]
  split <;> simp only [State.saveTo_radio, State.fresh]

@[simp] theorem State.setTicket_radio (s : State) (i : Nat) (t : Ticket) :
    (State.setTicket s i t).radio = s.radio := by
  simp only [State.setTicket, State.saveStep_radio]

@[simp] theorem State.saveTo_ple (s : State) (n : Nat) : (s.saveTo n).ple = s.ple := by
  simp only [State.saveTo, State.set_ple]

theorem State.saveStep_ple (s : State) : s.saveStep.ple = s.ple := by
  simp only [State.saveStep]
  split <;> simp only [State.saveTo_ple, State.fresh]

@[simp] theorem State.setTicket_ple (s : State) (i : Nat) (t : Ticket) :
    (State.setTicket s i t).ple = s.ple := by
  simp only [State.setTicket, State.saveStep_ple]

@[simp] theorem State.saveTo_ssc (s : State) (n : Nat) : (s.saveTo n).ssc = s.ssc := by
  simp only [State.saveTo, State.set_ssc]

theorem State.saveStep_ssc (s : State) : s.saveStep.ssc = s.ssc := by
  simp only [State.saveStep]
  split <;> simp only [State.saveTo_ssc, State.fresh]

@[simp] theorem State.setTicket_ssc (s : State) (i : Nat) (t : Ticket) :
    (State.setTicket s i t).ssc = s.ssc := by
  simp only [State.setTicket, State.saveStep_ssc]

@[simp] theorem State.saveTo_ssl (s : State) (n : Nat) : (s.saveTo n).ssl = s.ssl := by
  simp only [State.saveTo, State.set_ssl]

theorem State.saveStep_ssl (s : State) : s.saveStep.ssl = s.ssl := by
  simp only [State.saveStep]
  split <;> simp only [State.saveTo_ssl, State.fresh]

@[simp] theorem State.setTicket_ssl (s : State) (i : Nat) (t : Ticket) :
    (State.setTicket s i t).ssl = s.ssl := by
  simp only [State.setTicket, State.saveStep_ssl]

@[simp] theorem State.saveTo_saf (s : State) (n : Nat) : (s.saveTo n).saf = s.saf := by
  simp only [State.saveTo, State.set_saf]

theorem State.saveStep_saf (s : State) : s.saveStep.saf = s.saf := by
  simp only [State.saveStep]
  split <;> simp only [State.saveTo_saf, State.fresh]

@[simp] theorem State.setTicket_saf (s : State) (i : Nat) (t : Ticket) :
    (State.setTicket s i t).saf = s.saf := by
  simp only [State.setTicket, State.saveStep_saf]

@[simp] theorem State.saveTo_hsp (s : State) (n : Nat) : (s.saveTo n).hsp = s.hsp := by
  simp only [State.saveTo, State.set_hsp]

theorem State.saveStep_hsp (s : State) : s.saveStep.hsp = s.hsp := by
  simp only [State.saveStep]
  split <;> simp only [State.saveTo_hsp, State.fresh]

@[simp] theorem State.setTicket_hsp (s : State) (i : Nat) (t : Ticket) :
    (State.setTicket s i t).hsp = s.hsp := by
  simp only [State.setTicket, State.saveStep_hsp]

@[simp] theorem State.saveTo_htw (s : State) (n : Nat) : (s.saveTo n).htw = s.htw := by
  simp only [State.saveTo, State.set_htw]

theorem State.saveStep_htw (s : State) : s.saveStep.htw = s.htw := by
  simp only [State.saveStep]
  split <;> simp only [State.saveTo_htw, State.fresh]

@[simp] theorem State.setTicket_htw (s : State) (i : Nat) (t : Ticket) :
    (State.setTicket s i t).htw = s.htw := by
  simp only [State.setTicket, State.saveStep_htw]

@[simp] theorem State.saveTo_load (s : State) (n : Nat) : (s.saveTo n).load = s.load := by
  simp only [State.saveTo, State.set_load]

theorem State.saveStep_load (s : State) : s.saveStep.load = s.load := by
  simp only [State.saveStep]
  split <;> simp only [State.saveTo_load, State.fresh]

@[simp] theorem State.setTicket_load (s : State) (i : Nat) (t : Ticket) :
    (State.setTicket s i t).load = s.load := by
  simp only [State.setTicket, State.saveStep_load]

@[simp] theorem State.saveTo_testFrom (s : State) (n : Nat) : (s.saveTo n).testFrom = s.testFrom := by
  simp only [State.saveTo, State.set_testFrom]

theorem State.saveStep_testFrom (s : State) : s.saveStep.testFrom = s.testFrom := by
  simp only [State.saveStep]
  split <;> simp only [State.saveTo_testFrom, State.fresh]

@[simp] theorem State.setTicket_testFrom (s : State) (i : Nat) (t : Ticket) :
    (State.setTicket s i t).testFrom = s.testFrom := by
  simp only [State.setTicket, State.saveStep_testFrom]

@[simp] theorem State.saveTo_commitPorts (s : State) (n : Nat) : (s.saveTo n).commitPorts = s.commitPorts := by
  simp only [State.saveTo, State.set_commitPorts]

theorem State.saveStep_commitPorts (s : State) : s.saveStep.commitPorts = s.commitPorts := by
  simp only [State.saveStep]
  split <;> simp only [State.saveTo_commitPorts, State.fresh]

@[simp] theorem State.setTicket_commitPorts (s : State) (i : Nat) (t : Ticket) :
    (State.setTicket s i t).commitPorts = s.commitPorts := by
  simp only [State.setTicket, State.saveStep_commitPorts]

@[simp] theorem State.saveTo_pending (s : State) (n : Nat) : (s.saveTo n).pending = s.pending := by
  simp only [State.saveTo, State.set_pending]

theorem State.saveStep_pending (s : State) : s.saveStep.pending = s.pending := by
  simp only [State.saveStep]
  split <;> simp only [State.saveTo_pending, State.fresh]

@[simp] theorem State.setTicket_pending (s : State) (i : Nat) (t : Ticket) :
    (State.setTicket s i t).pending = s.pending := by
  simp only [State.setTicket, State.saveStep_pending]

theorem State.saveStep_lockDone (s : State) : s.saveStep.nv.lockDone = s.nv.lockDone := by
  simp only [State.saveStep]
  split <;> simp only [State.saveTo, State.set_nv, State.fresh]

@[simp] theorem State.setTicket_lockDone (s : State) (i : Nat) (t : Ticket) :
    (State.setTicket s i t).nv.lockDone = s.nv.lockDone := by
  simp only [State.setTicket, State.saveStep_lockDone]

theorem State.saveStep_lockWords (s : State) : s.saveStep.nv.lockWords = s.nv.lockWords := by
  simp only [State.saveStep]
  split <;> simp only [State.saveTo, State.set_nv, State.fresh]

@[simp] theorem State.setTicket_lockWords (s : State) (i : Nat) (t : Ticket) :
    (State.setTicket s i t).nv.lockWords = s.nv.lockWords := by
  simp only [State.setTicket, State.saveStep_lockWords]

theorem State.saveStep_debugLock (s : State) : s.saveStep.nv.debugLock = s.nv.debugLock := by
  simp only [State.saveStep]
  split <;> simp only [State.saveTo, State.set_nv, State.fresh]

@[simp] theorem State.setTicket_debugLock (s : State) (i : Nat) (t : Ticket) :
    (State.setTicket s i t).nv.debugLock = s.nv.debugLock := by
  simp only [State.setTicket, State.saveStep_debugLock]

end Sys2Proof.Machine
end

