-- ==== Sys2Proof/Laws/Store.lean ====
section
/-! SUPPORT. The laws of the sparse stores: a read after a write, and the canonical form that every write keeps; and the
same for the bytes and words of the memory windows. -/

namespace Sys2Proof.Machine

variable {α : Type}

@[simp] theorem Store.find?_nil (k : Nat) : Store.find? ([] : List (Nat × α)) k = none := rfl

theorem Store.find?_cons (k' : Nat) (v : α) (t : List (Nat × α)) (k : Nat) :
    Store.find? ((k', v) :: t) k = if k' = k then some v else Store.find? t k := rfl

@[simp] theorem Store.erase_nil (k : Nat) : Store.erase ([] : List (Nat × α)) k = [] := rfl

theorem Store.erase_cons (k' : Nat) (v : α) (t : List (Nat × α)) (k : Nat) :
    Store.erase ((k', v) :: t) k = if k' = k then Store.erase t k else (k', v) :: Store.erase t k := by
  by_cases h : k' = k <;> simp [Store.erase, h]

@[simp] theorem Store.find?_erase_same (l : List (Nat × α)) (k : Nat) : Store.find? (Store.erase l k) k = none := by
  induction l with
  | nil => rfl
  | cons e t ih =>
    obtain ⟨k', v⟩ := e
    rw [Store.erase_cons]
    split
    · exact ih
    · next h => rw [Store.find?_cons, if_neg h, ih]

theorem Store.find?_erase_ne (l : List (Nat × α)) {k j : Nat} (h : j ≠ k) :
    Store.find? (Store.erase l k) j = Store.find? l j := by
  induction l with
  | nil => rfl
  | cons e t ih =>
    obtain ⟨k', v⟩ := e
    rw [Store.erase_cons, Store.find?_cons]
    split
    · next h' => rw [ih, if_neg (by omega)]
    · rw [Store.find?_cons, ih]

theorem Store.find?_insert_same (l : List (Nat × α)) (k : Nat) (v : α) (h : Store.find? l k = none) :
    Store.find? (Store.insert l k v) k = some v := by
  induction l with
  | nil => simp [Store.insert, Store.find?]
  | cons e t ih =>
    obtain ⟨k', v'⟩ := e
    rw [Store.find?_cons] at h
    unfold Store.insert
    split
    · simp [Store.find?_cons]
    · split at h
      · cases h
      · next hk => rw [Store.find?_cons, if_neg hk, ih h]

theorem Store.find?_insert_ne (l : List (Nat × α)) {k j : Nat} (v : α) (h : j ≠ k) :
    Store.find? (Store.insert l k v) j = Store.find? l j := by
  induction l with
  | nil => simp [Store.insert, Store.find?, Ne.symm h]
  | cons e t ih =>
    obtain ⟨k', v'⟩ := e
    unfold Store.insert
    split
    · rw [Store.find?_cons, if_neg (Ne.symm h)]
    · rw [Store.find?_cons, Store.find?_cons, ih]

/-- A replaced entry reads as written. -/
@[simp] theorem Store.find?_replace_same (l : List (Nat × α)) (k : Nat) (v : α) :
    Store.find? (Store.insert (Store.erase l k) k v) k = some v :=
  Store.find?_insert_same _ _ _ (Store.find?_erase_same _ _)

theorem Store.find?_replace_ne (l : List (Nat × α)) {k j : Nat} (v : α) (h : j ≠ k) :
    Store.find? (Store.insert (Store.erase l k) k v) j = Store.find? l j := by
  rw [Store.find?_insert_ne _ _ h, Store.find?_erase_ne _ h]

/-- A read after a write of the same key. -/
@[simp] theorem Store.get_put_same [DecidableEq α] (l : List (Nat × α)) (k : Nat) (d v : α) :
    Store.get (Store.put l k d v) k d = v := by
  unfold Store.get Store.put
  split
  · next h => rw [Store.find?_erase_same]; exact h.symm
  · rw [Store.find?_replace_same]; rfl

/-- A read after a write of another key. -/
theorem Store.get_put_ne [DecidableEq α] (l : List (Nat × α)) {k j : Nat} (d v e : α) (h : j ≠ k) :
    Store.get (Store.put l k d v) j e = Store.get l j e := by
  unfold Store.get Store.put
  split
  · rw [Store.find?_erase_ne _ h]
  · rw [Store.find?_replace_ne _ _ h]

theorem Store.find?_put_ne [DecidableEq α] (l : List (Nat × α)) {k j : Nat} (d v : α) (h : j ≠ k) :
    Store.find? (Store.put l k d v) j = Store.find? l j := by
  unfold Store.put
  split
  · rw [Store.find?_erase_ne _ h]
  · rw [Store.find?_replace_ne _ _ h]

/-- Every key of a store lies above `b`. -/
def Store.above (b : Nat) (l : List (Nat × α)) : Prop := ∀ e ∈ l, b < e.1

theorem Store.sorted_cons (k : Nat) (v : α) (t : List (Nat × α)) :
    Store.sorted ((k, v) :: t) = true ↔ Store.above k t ∧ Store.sorted t = true := by
  induction t generalizing k v with
  | nil => simp [Store.sorted, Store.above]
  | cons e t ih =>
    obtain ⟨k', v'⟩ := e
    have h := ih k' v'
    constructor
    · intro hs
      simp only [Store.sorted, Bool.and_eq_true, decide_eq_true_eq] at hs
      refine ⟨fun e he => ?_, hs.2⟩
      rcases List.mem_cons.1 he with rfl | he
      · exact hs.1
      · exact Nat.lt_trans hs.1 ((h.1 hs.2).1 e he)
    · intro ⟨ha, hs⟩
      simp only [Store.sorted, Bool.and_eq_true, decide_eq_true_eq]
      exact ⟨ha (k', v') (by simp), hs⟩

theorem Store.sorted_filter (p : Nat × α → Bool) (l : List (Nat × α)) (h : Store.sorted l = true) :
    Store.sorted (l.filter p) = true := by
  induction l with
  | nil => rfl
  | cons e t ih =>
    obtain ⟨k, v⟩ := e
    obtain ⟨ha, hs⟩ := (Store.sorted_cons k v t).1 h
    rw [List.filter_cons]
    split
    · exact (Store.sorted_cons _ _ _).2 ⟨fun e he => ha e (List.mem_filter.1 he).1, ih hs⟩
    · exact ih hs

theorem Store.mem_insert (l : List (Nat × α)) (k : Nat) (v : α) (e : Nat × α) :
    e ∈ Store.insert l k v ↔ e = (k, v) ∨ e ∈ l := by
  induction l with
  | nil => simp [Store.insert]
  | cons x t ih =>
    obtain ⟨k', v'⟩ := x
    unfold Store.insert
    split
    · simp
    · rw [List.mem_cons, List.mem_cons, ih]; exact or_left_comm

theorem Store.sorted_insert (l : List (Nat × α)) (k : Nat) (v : α) (h : Store.sorted l = true)
    (hk : ∀ e ∈ l, e.1 ≠ k) : Store.sorted (Store.insert l k v) = true := by
  induction l with
  | nil => rfl
  | cons x t ih =>
    obtain ⟨k', v'⟩ := x
    obtain ⟨ha, hs⟩ := (Store.sorted_cons k' v' t).1 h
    unfold Store.insert
    split
    · next hlt =>
      refine (Store.sorted_cons _ _ _).2 ⟨fun e he => ?_, h⟩
      rcases List.mem_cons.1 he with rfl | he
      · exact hlt
      · exact Nat.lt_trans hlt (ha e he)
    · next hlt =>
      refine (Store.sorted_cons _ _ _).2 ⟨fun e he => ?_, ih hs (fun e he => hk e (by simp [he]))⟩
      rcases (Store.mem_insert t k v e).1 he with rfl | he
      · have := hk (k', v') (by simp)
        simp only at this ⊢
        omega
      · exact ha e he

/-- A write keeps the keys rising. -/
theorem Store.sorted_put [DecidableEq α] (l : List (Nat × α)) (k : Nat) (d v : α) (h : Store.sorted l = true) :
    Store.sorted (Store.put l k d v) = true := by
  unfold Store.put
  split
  · exact Store.sorted_filter _ _ h
  · refine Store.sorted_insert _ _ _ (Store.sorted_filter _ _ h) (fun e he => ?_)
    simpa [Store.erase] using (List.mem_filter.1 he).2

/-- A write keeps the canonical form. -/
theorem Store.canonical_put [DecidableEq α] (l : List (Nat × α)) (f : Nat → α) (k : Nat) (v : α)
    (h : Store.canonical l f = true) : Store.canonical (Store.put l k (f k) v) f = true := by
  simp only [Store.canonical, Bool.and_eq_true] at h ⊢
  refine ⟨Store.sorted_put _ _ _ _ h.1, ?_⟩
  rw [List.all_eq_true] at h ⊢
  unfold Store.put
  split
  · exact fun e he => h.2 e (List.mem_filter.1 he).1
  · next hv =>
    intro e he
    rcases (Store.mem_insert _ _ _ _).1 he with rfl | he
    · simpa using hv
    · exact h.2 e (List.mem_filter.1 he).1

theorem Store.canonical_filter [DecidableEq α] (l : List (Nat × α)) (f : Nat → α) (p : Nat × α → Bool)
    (h : Store.canonical l f = true) : Store.canonical (l.filter p) f = true := by
  simp only [Store.canonical, Bool.and_eq_true, List.all_eq_true] at h ⊢
  exact ⟨Store.sorted_filter _ _ h.1, fun e he => h.2 e (List.mem_filter.1 he).1⟩

theorem Memory.wf_eq (m : List Host.Cell) : Memory.wf m = Store.canonical m (fun _ => 0) := rfl

/-- The memory after reset is in canonical form. -/
@[simp] theorem Memory.wf_nil : Memory.wf [] = true := rfl

@[simp] theorem Memory.wf_writeByte (m : List Host.Cell) (a : Nat) (b : Byte) (h : Memory.wf m = true) :
    Memory.wf (Memory.writeByte m a b) = true := Store.canonical_put m (fun _ => 0) a b h

@[simp] theorem Memory.wf_writeWord (m : List Host.Cell) (a : Nat) (w : Word) (h : Memory.wf m = true) :
    Memory.wf (Memory.writeWord m a w) = true := by
  unfold Memory.writeWord
  exact Memory.wf_writeByte _ _ _ (Memory.wf_writeByte _ _ _ (Memory.wf_writeByte _ _ _ (Memory.wf_writeByte _ _ _ h)))

@[simp] theorem Memory.wf_writeWords (ws : List Word) (m : List Host.Cell) (a : Nat) (h : Memory.wf m = true) :
    Memory.wf (Memory.writeWords m a ws) = true := by
  induction ws generalizing m a with
  | nil => exact h
  | cons w ws ih => exact ih _ _ (Memory.wf_writeWord _ _ _ h)

@[simp] theorem Memory.wf_filter (p : Host.Cell → Bool) (m : List Host.Cell) (h : Memory.wf m = true) :
    Memory.wf (m.filter p) = true := Store.canonical_filter m (fun _ => 0) p h

@[simp] theorem Memory.wf_clear (m : List Host.Cell) (a n : Nat) (h : Memory.wf m = true) :
    Memory.wf (Memory.clear m a n) = true := Memory.wf_filter _ _ h

/-- Bytes written one after another keep the canonical form. -/
theorem Memory.wf_foldl {β : Type} (f : List Host.Cell → β → List Host.Cell)
    (hf : ∀ m x, Memory.wf m = true → Memory.wf (f m x) = true) (l : List β) (m : List Host.Cell)
    (h : Memory.wf m = true) : Memory.wf (l.foldl f m) = true := by
  induction l generalizing m with
  | nil => exact h
  | cons x l ih => exact ih _ (hf _ _ h)

@[simp] theorem Memory.readByte_writeByte_same (m : List Host.Cell) (a : Nat) (b : Byte) :
    Memory.readByte (Memory.writeByte m a b) a = b := Store.get_put_same _ _ _ _

theorem Memory.readByte_writeByte_ne (m : List Host.Cell) {a c : Nat} (b : Byte) (h : c ≠ a) :
    Memory.readByte (Memory.writeByte m a b) c = Memory.readByte m c := Store.get_put_ne _ _ _ _ h

/-- A word's store leaves every byte outside it alone. -/
theorem Memory.readByte_writeWord_ne (m : List Host.Cell) {a c : Nat} (w : Word) (h : c < a ∨ a + 4 ≤ c) :
    Memory.readByte (Memory.writeWord m a w) c = Memory.readByte m c := by
  unfold Memory.writeWord
  rw [Memory.readByte_writeByte_ne _ _ (by omega), Memory.readByte_writeByte_ne _ _ (by omega),
    Memory.readByte_writeByte_ne _ _ (by omega), Memory.readByte_writeByte_ne _ _ (by omega)]

/-- A word's store puts byte `k` of the word at the `k`-th address (R334). -/
theorem Memory.readByte_writeWord_at (m : List Host.Cell) (a k : Nat) (w : Word) (h : k < 4) :
    Memory.readByte (Memory.writeWord m a w) (a + k) = byteOf w k := by
  unfold Memory.writeWord
  have hk : k = 0 ∨ k = 1 ∨ k = 2 ∨ k = 3 := by omega
  rcases hk with rfl | rfl | rfl | rfl
  · rw [Memory.readByte_writeByte_ne _ _ (by omega), Memory.readByte_writeByte_ne _ _ (by omega),
      Memory.readByte_writeByte_ne _ _ (by omega), Nat.add_zero, Memory.readByte_writeByte_same]
  · rw [Memory.readByte_writeByte_ne _ _ (by omega), Memory.readByte_writeByte_ne _ _ (by omega),
      Memory.readByte_writeByte_same]
  · rw [Memory.readByte_writeByte_ne _ _ (by omega), Memory.readByte_writeByte_same]
  · rw [Memory.readByte_writeByte_same]

/-- A window word reads as it was written. -/
theorem Memory.readWord_writeWord_same (m : List Host.Cell) (a : Nat) (w : Word) :
    Memory.readWord (Memory.writeWord m a w) a = w := by
  have h0 := Memory.readByte_writeWord_at m a 0 w (by omega)
  have h1 := Memory.readByte_writeWord_at m a 1 w (by omega)
  have h2 := Memory.readByte_writeWord_at m a 2 w (by omega)
  have h3 := Memory.readByte_writeWord_at m a 3 w (by omega)
  rw [Nat.add_zero] at h0
  unfold Memory.readWord
  rw [h0, h1, h2, h3]
  apply BitVec.eq_of_toNat_eq
  have hw : w.toNat < 2 ^ 32 := w.isLt
  simp only [byteOf, BitVec.toNat_ofNat]
  omega

theorem Memory.readByte_nil (a : Nat) : Memory.readByte [] a = 0 := rfl

/-- A cleared span reads 0. -/
theorem Memory.readByte_clear (m : List Host.Cell) (a n c : Nat) :
    Memory.readByte (Memory.clear m a n) c = if a ≤ c ∧ c < a + n then 0 else Memory.readByte m c := by
  unfold Memory.readByte Store.get Memory.clear
  induction m with
  | nil => simp
  | cons e t ih =>
    obtain ⟨k, v⟩ := e
    rw [List.filter_cons]
    split
    · next h =>
      rw [decide_eq_true_eq] at h
      rw [Store.find?_cons, Store.find?_cons]
      by_cases hk : k = c
      · subst hk
        rw [if_pos rfl, if_neg (by simp only at h; omega), if_pos rfl]
      · rw [if_neg hk, if_neg hk, ih]
    · next h =>
      rw [decide_eq_true_eq] at h
      rw [ih, Store.find?_cons]
      by_cases hk : k = c
      · subst hk
        rw [if_pos (by simp only at h; omega), if_pos (by simp only at h; omega)]
      · rw [if_neg hk]

end Sys2Proof.Machine
end

