-- ==== Sys2Proof/Laws/Ops.lean ====
section
/-! SUPPORT. The laws of the named register operations: what a field reads after a write of it, of a neighbour, or of
another register; what an error, an event and a counter leave alone; the guards. -/

namespace Sys2Proof.Machine

theorem bits_eq (x : Word) (lo w : Nat) : bits x lo w = x.toNat >>> lo % 2 ^ w := by
  unfold bits; rw [Nat.shiftRight_eq_div_pow]

theorem bits_testBit (x : Word) (lo w i : Nat) : (bits x lo w).testBit i = (decide (i < w) && x.getLsbD (lo + i)) := by
  rw [bits_eq, Nat.testBit_mod_two_pow, Nat.testBit_shiftRight]
  rfl

theorem bits_lt (x : Word) (lo w : Nat) : bits x lo w < 2 ^ w := by
  unfold bits; exact Nat.mod_lt _ (Nat.two_pow_pos w)

theorem maskBits_getLsbD (lo w i : Nat) (h : lo + w ≤ 32) :
    (maskBits lo w).getLsbD i = decide (lo ≤ i ∧ i < lo + w) := by
  unfold maskBits
  rw [BitVec.getLsbD_ofNat, ← Nat.shiftLeft_eq, Nat.testBit_shiftLeft, Nat.testBit_two_pow_sub_one]
  by_cases h1 : lo ≤ i <;> by_cases h2 : i < lo + w <;> simp [h1, h2] <;> omega

theorem putBits_getLsbD (x : Word) (lo w v i : Nat) (h : lo + w ≤ 32) :
    (putBits x lo w v).getLsbD i = if lo ≤ i ∧ i < lo + w then v.testBit (i - lo) else x.getLsbD i := by
  unfold putBits
  rw [BitVec.getLsbD_or, BitVec.getLsbD_and, BitVec.getLsbD_not, maskBits_getLsbD _ _ _ h, BitVec.getLsbD_ofNat,
    ← Nat.shiftLeft_eq, Nat.testBit_shiftLeft, Nat.testBit_mod_two_pow]
  by_cases h3 : i < 32
  · by_cases h1 : lo ≤ i <;> by_cases h2 : i < lo + w <;> simp [h1, h2, h3] <;> omega
  · have hx : x.getLsbD i = false := BitVec.getLsbD_of_ge x i (by omega)
    rw [if_neg (by omega), hx]
    simp [h3]

/-- A field reads what was put into it. -/
theorem bits_putBits_same (x : Word) (lo w v : Nat) (h : lo + w ≤ 32) : bits (putBits x lo w v) lo w = v % 2 ^ w := by
  apply Nat.eq_of_testBit_eq
  intro i
  rw [bits_testBit, putBits_getLsbD _ _ _ _ _ h, Nat.testBit_mod_two_pow]
  by_cases hi : i < w <;> simp [hi]

/-- A field beside the one that was put keeps its value. -/
theorem bits_putBits_ne (x : Word) (lo w v lo' w' : Nat) (h : lo + w ≤ 32) (hd : lo' + w' ≤ lo ∨ lo + w ≤ lo') :
    bits (putBits x lo w v) lo' w' = bits x lo' w' := by
  apply Nat.eq_of_testBit_eq
  intro i
  rw [bits_testBit, bits_testBit, putBits_getLsbD _ _ _ _ _ h]
  by_cases hi : i < w'
  · rw [if_neg (by omega)]
  · simp [hi]

theorem State.reg_setReg_same (s : State) (d p o : Nat) (v : Word) : (s.setReg d p o v).reg d p o = v := by
  unfold State.reg State.setReg; exact Store.get_put_same _ _ _ _

/-- A write of a register leaves every other register alone. -/
theorem State.reg_setReg_ne (s : State) {d p o d' p' o' : Nat} (v : Word) (h : hostAddr d' p' o' ≠ hostAddr d p o) :
    (s.setReg d p o v).reg d' p' o' = s.reg d' p' o' := by
  unfold State.reg State.setReg; exact Store.get_put_ne _ _ _ _ h

/-- A field reads what was written to it. -/
theorem State.get_set_same (s : State) (d : Nat) (f : Fld) (v : Nat) (h : f.lo + f.width ≤ 32) :
    (s.set d f v).get d f = v % 2 ^ f.width := by
  unfold State.get State.set
  rw [State.reg_setReg_same, bits_putBits_same _ _ _ _ h]

/-- A write of a field leaves every other register alone. -/
theorem State.reg_set_ne (s : State) {d : Nat} (f : Fld) (v : Nat) {d' p' o' : Nat}
    (h : hostAddr d' p' o' ≠ hostAddr d f.page f.off) : (s.set d f v).reg d' p' o' = s.reg d' p' o' :=
  State.reg_setReg_ne s _ h

theorem State.get_set_ne (s : State) {d d' : Nat} (f g : Fld) (v : Nat)
    (h : hostAddr d' g.page g.off ≠ hostAddr d f.page f.off) : (s.set d f v).get d' g = s.get d' g := by
  unfold State.get; rw [State.reg_set_ne s f v h]

theorem State.get_setReg_ne (s : State) {d p o d' : Nat} (v : Word) (g : Fld)
    (h : hostAddr d' g.page g.off ≠ hostAddr d p o) : (s.setReg d p o v).get d' g = s.get d' g := by
  unfold State.get; rw [State.reg_setReg_ne s v h]

theorem State.get_setReg_same (s : State) (d : Nat) (v : Word) (g : Fld) :
    (s.setReg d g.page g.off v).get d g = bits v g.lo g.width := by
  unfold State.get; rw [State.reg_setReg_same]

/-- A write of a field leaves the other fields of its register alone. -/
theorem State.get_set_beside (s : State) (d : Nat) (f g : Fld) (v : Nat) (hp : g.page = f.page) (ho : g.off = f.off)
    (h : f.lo + f.width ≤ 32) (hd : g.lo + g.width ≤ f.lo ∨ f.lo + f.width ≤ g.lo) :
    (s.set d f v).get d g = s.get d g := by
  unfold State.get State.set
  rw [hp, ho, State.reg_setReg_same, bits_putBits_ne _ _ _ _ _ _ h hd]

/-- A counter touches the registers of its count and its flag. -/
theorem State.reg_countUp_ne (s : State) {d : Nat} (c o : Fld) (n : Nat) {d' p' o' : Nat}
    (h1 : hostAddr d' p' o' ≠ hostAddr d c.page c.off) (h2 : hostAddr d' p' o' ≠ hostAddr d o.page o.off) :
    (s.countUp d c o n).reg d' p' o' = s.reg d' p' o' := by
  simp only [State.countUp]
  split
  · rw [State.reg_set_ne _ _ _ h2, State.reg_set_ne _ _ _ h1]
  · rw [State.reg_set_ne _ _ _ h1]

/-- R97: an error touches PG_FIRSTERR of its page. -/
theorem State.reg_err_ne (s : State) {d p : Nat} (code : Nat) {d' p' o' : Nat}
    (h : hostAddr d' p' o' ≠ hostAddr d p 0x014) : (s.err d p code).reg d' p' o' = s.reg d' p' o' := by
  simp only [State.err]
  have h1 : hostAddr d' p' o' ≠ hostAddr d (F.PG_ERR_COUNT p).page (F.PG_ERR_COUNT p).off := h
  have h2 : hostAddr d' p' o' ≠ hostAddr d (F.PG_ERR_OVF p).page (F.PG_ERR_OVF p).off := h
  have h3 : hostAddr d' p' o' ≠ hostAddr d (F.PG_ERR_CODE p).page (F.PG_ERR_CODE p).off := h
  rw [State.reg_countUp_ne _ _ _ _ h1 h2]
  split
  · exact State.reg_set_ne _ _ _ h3
  · rfl

/-- R630: a count at the interrupt controller touches registers of page ICU only. -/
theorem State.reg_icuAdd_ne (s : State) (src n : Nat) {d' p' o' : Nat}
    (h : hostAddr d' p' o' < 0x5000 ∨ 0x6000 ≤ hostAddr d' p' o') : (s.icuAdd src n).1.reg d' p' o' = s.reg d' p' o' := by
  simp only [State.icuAdd]
  have ha : src < 420 → hostAddr d' p' o' ≠ hostAddr 0 5 (0x400 + 4 * src) := by
    intro hs he
    rw [he] at h
    unfold hostAddr at h
    omega
  split
  · rfl
  · next hs =>
    have hc : hostAddr d' p' o' ≠ hostAddr 0 (F.ICU_SRC_COUNT src).page (F.ICU_SRC_COUNT src).off := ha (by omega)
    have ho : hostAddr d' p' o' ≠ hostAddr 0 (F.ICU_SRC_OVF src).page (F.ICU_SRC_OVF src).off := ha (by omega)
    split
    · rw [State.reg_set_ne _ _ _ ho, State.reg_set_ne _ _ _ hc]
    · rw [State.reg_set_ne _ _ _ hc]

theorem State.reg_icuCount_ne (s : State) (src n : Nat) {d' p' o' : Nat}
    (h : hostAddr d' p' o' < 0x5000 ∨ 0x6000 ≤ hostAddr d' p' o') : (s.icuCount src n).reg d' p' o' = s.reg d' p' o' := by
  have hc : hostAddr d' p' o' ≠ hostAddr 0 5 0x00C := by
    intro he
    rw [he] at h
    unfold hostAddr at h
    omega
  simp only [State.icuCount]
  split
  · split
    · rw [State.reg_icuAdd_ne _ _ _ h, State.reg_setReg_ne _ _ hc, State.reg_icuAdd_ne _ _ _ h]
    · rw [State.reg_setReg_ne _ _ hc, State.reg_icuAdd_ne _ _ _ h]
  · exact State.reg_icuAdd_ne _ _ _ h

theorem State.reg_sourceEvent_ne (s : State) (src n : Nat) {d' p' o' : Nat}
    (h : hostAddr d' p' o' < 0x5000 ∨ 0x6000 ≤ hostAddr d' p' o') :
    (s.sourceEvent src n).reg d' p' o' = s.reg d' p' o' := by
  unfold State.sourceEvent
  split
  · exact State.reg_icuCount_ne _ _ _ h
  · unfold State.reg; exact Eq.refl _

theorem State.reg_present1_ne (s : State) {d p : Nat} (evt : Nat) {d' p' o' : Nat}
    (hp : hostAddr d' p' o' ≠ hostAddr d p 0x00C) (h : hostAddr d' p' o' < 0x5000 ∨ 0x6000 ≤ hostAddr d' p' o') :
    (s.present1 d p evt).reg d' p' o' = s.reg d' p' o' := by
  simp only [State.present1, State.setEvent]
  split
  · next hs =>
    have hl : hostAddr d' p' o' ≠
        hostAddr 0 (F.ICU_SRC_LEVEL (pageSource d p)).page (F.ICU_SRC_LEVEL (pageSource d p)).off := by
      intro he
      simp only [F.ICU_SRC_LEVEL] at he
      rw [he] at h
      unfold hostAddr at h
      omega
    rw [State.reg_set_ne _ _ _ hl, State.reg_icuCount_ne _ _ _ h, State.reg_setReg_ne _ _ hp]
  · rw [State.reg_icuCount_ne _ _ _ h, State.reg_setReg_ne _ _ hp]

/-- R94: an event touches PG_EVT of its page and registers of page ICU. -/
theorem State.reg_raise_ne (s : State) {d p : Nat} (evt : Nat) {d' p' o' : Nat}
    (hp : hostAddr d' p' o' ≠ hostAddr d p 0x00C) (h : hostAddr d' p' o' < 0x5000 ∨ 0x6000 ≤ hostAddr d' p' o') :
    (s.raise d p evt).reg d' p' o' = s.reg d' p' o' := by
  simp only [State.raise, State.setEvent]
  split
  · split
    · unfold State.reg; exact Eq.refl _
    · exact State.reg_setReg_ne _ _ hp
  · split
    · exact State.reg_present1_ne _ _ hp h
    · split
      · rw [State.reg_sourceEvent_ne _ _ _ h, State.reg_setReg_ne _ _ hp]
      · rw [State.reg_setReg_ne _ _ hp]

theorem State.icuAdd_part (s : State) (src n : Nat) : (s.icuAdd src n).1.part = s.part := by
  simp only [State.icuAdd]
  split
  · rfl
  · split <;> simp only [State.set_part]

theorem State.icuCount_part (s : State) (src n : Nat) : (s.icuCount src n).part = s.part := by
  simp only [State.icuCount]
  split
  · split <;> simp only [State.icuAdd_part, State.setReg_part]
  · exact State.icuAdd_part ..

@[simp] theorem State.sourceEvent_part (s : State) (src n : Nat) : (s.sourceEvent src n).part = s.part := by
  unfold State.sourceEvent
  split
  · exact State.icuCount_part ..
  · exact Eq.refl _

@[simp] theorem State.present1_part (s : State) (d p evt : Nat) : (s.present1 d p evt).part = s.part := by
  unfold State.present1
  extract_lets t
  have ht : t.part = s.part := (State.icuCount_part ..).trans (State.setEvent_part ..)
  split
  · exact (State.set_part ..).trans ht
  · exact ht

@[simp] theorem State.raise_part (s : State) (d p evt : Nat) : (s.raise d p evt).part = s.part := by
  unfold State.raise
  extract_lets en t
  split
  · split
    · exact Eq.refl _
    · exact State.setEvent_part ..
  · split
    · exact State.present1_part ..
    · split
      · exact (State.sourceEvent_part ..).trans (State.setEvent_part ..)
      · exact State.setEvent_part ..

theorem State.icuAdd_device (s : State) (src n : Nat) : (s.icuAdd src n).1.device = s.device := by
  simp only [State.icuAdd]
  split
  · rfl
  · split <;> simp only [State.set_device]

theorem State.icuCount_device (s : State) (src n : Nat) : (s.icuCount src n).device = s.device := by
  simp only [State.icuCount]
  split
  · split <;> simp only [State.icuAdd_device, State.setReg_device]
  · exact State.icuAdd_device ..

@[simp] theorem State.sourceEvent_device (s : State) (src n : Nat) : (s.sourceEvent src n).device = s.device := by
  unfold State.sourceEvent
  split
  · exact State.icuCount_device ..
  · exact Eq.refl _

@[simp] theorem State.present1_device (s : State) (d p evt : Nat) : (s.present1 d p evt).device = s.device := by
  unfold State.present1
  extract_lets t
  have ht : t.device = s.device := (State.icuCount_device ..).trans (State.setEvent_device ..)
  split
  · exact (State.set_device ..).trans ht
  · exact ht

@[simp] theorem State.raise_device (s : State) (d p evt : Nat) : (s.raise d p evt).device = s.device := by
  unfold State.raise
  extract_lets en t
  split
  · split
    · exact Eq.refl _
    · exact State.setEvent_device ..
  · split
    · exact State.present1_device ..
    · split
      · exact (State.sourceEvent_device ..).trans (State.setEvent_device ..)
      · exact State.setEvent_device ..

theorem State.icuAdd_ready (s : State) (src n : Nat) : (s.icuAdd src n).1.ready = s.ready := by
  simp only [State.icuAdd]
  split
  · rfl
  · split <;> simp only [State.set_ready]

theorem State.icuCount_ready (s : State) (src n : Nat) : (s.icuCount src n).ready = s.ready := by
  simp only [State.icuCount]
  split
  · split <;> simp only [State.icuAdd_ready, State.setReg_ready]
  · exact State.icuAdd_ready ..

@[simp] theorem State.sourceEvent_ready (s : State) (src n : Nat) : (s.sourceEvent src n).ready = s.ready := by
  unfold State.sourceEvent
  split
  · exact State.icuCount_ready ..
  · exact Eq.refl _

@[simp] theorem State.present1_ready (s : State) (d p evt : Nat) : (s.present1 d p evt).ready = s.ready := by
  unfold State.present1
  extract_lets t
  have ht : t.ready = s.ready := (State.icuCount_ready ..).trans (State.setEvent_ready ..)
  split
  · exact (State.set_ready ..).trans ht
  · exact ht

@[simp] theorem State.raise_ready (s : State) (d p evt : Nat) : (s.raise d p evt).ready = s.ready := by
  unfold State.raise
  extract_lets en t
  split
  · split
    · exact Eq.refl _
    · exact State.setEvent_ready ..
  · split
    · exact State.present1_ready ..
    · split
      · exact (State.sourceEvent_ready ..).trans (State.setEvent_ready ..)
      · exact State.setEvent_ready ..

theorem State.icuAdd_rail33 (s : State) (src n : Nat) : (s.icuAdd src n).1.rail33 = s.rail33 := by
  simp only [State.icuAdd]
  split
  · rfl
  · split <;> simp only [State.set_rail33]

theorem State.icuCount_rail33 (s : State) (src n : Nat) : (s.icuCount src n).rail33 = s.rail33 := by
  simp only [State.icuCount]
  split
  · split <;> simp only [State.icuAdd_rail33, State.setReg_rail33]
  · exact State.icuAdd_rail33 ..

@[simp] theorem State.sourceEvent_rail33 (s : State) (src n : Nat) : (s.sourceEvent src n).rail33 = s.rail33 := by
  unfold State.sourceEvent
  split
  · exact State.icuCount_rail33 ..
  · exact Eq.refl _

@[simp] theorem State.present1_rail33 (s : State) (d p evt : Nat) : (s.present1 d p evt).rail33 = s.rail33 := by
  unfold State.present1
  extract_lets t
  have ht : t.rail33 = s.rail33 := (State.icuCount_rail33 ..).trans (State.setEvent_rail33 ..)
  split
  · exact (State.set_rail33 ..).trans ht
  · exact ht

@[simp] theorem State.raise_rail33 (s : State) (d p evt : Nat) : (s.raise d p evt).rail33 = s.rail33 := by
  unfold State.raise
  extract_lets en t
  split
  · split
    · exact Eq.refl _
    · exact State.setEvent_rail33 ..
  · split
    · exact State.present1_rail33 ..
    · split
      · exact (State.sourceEvent_rail33 ..).trans (State.setEvent_rail33 ..)
      · exact State.setEvent_rail33 ..

theorem State.icuAdd_epoch (s : State) (src n : Nat) : (s.icuAdd src n).1.epoch = s.epoch := by
  simp only [State.icuAdd]
  split
  · rfl
  · split <;> simp only [State.set_epoch]

theorem State.icuCount_epoch (s : State) (src n : Nat) : (s.icuCount src n).epoch = s.epoch := by
  simp only [State.icuCount]
  split
  · split <;> simp only [State.icuAdd_epoch, State.setReg_epoch]
  · exact State.icuAdd_epoch ..

@[simp] theorem State.sourceEvent_epoch (s : State) (src n : Nat) : (s.sourceEvent src n).epoch = s.epoch := by
  unfold State.sourceEvent
  split
  · exact State.icuCount_epoch ..
  · exact Eq.refl _

@[simp] theorem State.present1_epoch (s : State) (d p evt : Nat) : (s.present1 d p evt).epoch = s.epoch := by
  unfold State.present1
  extract_lets t
  have ht : t.epoch = s.epoch := (State.icuCount_epoch ..).trans (State.setEvent_epoch ..)
  split
  · exact (State.set_epoch ..).trans ht
  · exact ht

@[simp] theorem State.raise_epoch (s : State) (d p evt : Nat) : (s.raise d p evt).epoch = s.epoch := by
  unfold State.raise
  extract_lets en t
  split
  · split
    · exact Eq.refl _
    · exact State.setEvent_epoch ..
  · split
    · exact State.present1_epoch ..
    · split
      · exact (State.sourceEvent_epoch ..).trans (State.setEvent_epoch ..)
      · exact State.setEvent_epoch ..

theorem State.icuAdd_time (s : State) (src n : Nat) : (s.icuAdd src n).1.time = s.time := by
  simp only [State.icuAdd]
  split
  · rfl
  · split <;> simp only [State.set_time]

theorem State.icuCount_time (s : State) (src n : Nat) : (s.icuCount src n).time = s.time := by
  simp only [State.icuCount]
  split
  · split <;> simp only [State.icuAdd_time, State.setReg_time]
  · exact State.icuAdd_time ..

@[simp] theorem State.sourceEvent_time (s : State) (src n : Nat) : (s.sourceEvent src n).time = s.time := by
  unfold State.sourceEvent
  split
  · exact State.icuCount_time ..
  · exact Eq.refl _

@[simp] theorem State.present1_time (s : State) (d p evt : Nat) : (s.present1 d p evt).time = s.time := by
  unfold State.present1
  extract_lets t
  have ht : t.time = s.time := (State.icuCount_time ..).trans (State.setEvent_time ..)
  split
  · exact (State.set_time ..).trans ht
  · exact ht

@[simp] theorem State.raise_time (s : State) (d p evt : Nat) : (s.raise d p evt).time = s.time := by
  unfold State.raise
  extract_lets en t
  split
  · split
    · exact Eq.refl _
    · exact State.setEvent_time ..
  · split
    · exact State.present1_time ..
    · split
      · exact (State.sourceEvent_time ..).trans (State.setEvent_time ..)
      · exact State.setEvent_time ..

theorem State.icuAdd_shadow (s : State) (src n : Nat) : (s.icuAdd src n).1.shadow = s.shadow := by
  simp only [State.icuAdd]
  split
  · rfl
  · split <;> simp only [State.set_shadow]

theorem State.icuCount_shadow (s : State) (src n : Nat) : (s.icuCount src n).shadow = s.shadow := by
  simp only [State.icuCount]
  split
  · split <;> simp only [State.icuAdd_shadow, State.setReg_shadow]
  · exact State.icuAdd_shadow ..

@[simp] theorem State.sourceEvent_shadow (s : State) (src n : Nat) : (s.sourceEvent src n).shadow = s.shadow := by
  unfold State.sourceEvent
  split
  · exact State.icuCount_shadow ..
  · exact Eq.refl _

@[simp] theorem State.present1_shadow (s : State) (d p evt : Nat) : (s.present1 d p evt).shadow = s.shadow := by
  unfold State.present1
  extract_lets t
  have ht : t.shadow = s.shadow := (State.icuCount_shadow ..).trans (State.setEvent_shadow ..)
  split
  · exact (State.set_shadow ..).trans ht
  · exact ht

@[simp] theorem State.raise_shadow (s : State) (d p evt : Nat) : (s.raise d p evt).shadow = s.shadow := by
  unfold State.raise
  extract_lets en t
  split
  · split
    · exact Eq.refl _
    · exact State.setEvent_shadow ..
  · split
    · exact State.present1_shadow ..
    · split
      · exact (State.sourceEvent_shadow ..).trans (State.setEvent_shadow ..)
      · exact State.setEvent_shadow ..

theorem State.icuAdd_holds (s : State) (src n : Nat) : (s.icuAdd src n).1.holds = s.holds := by
  simp only [State.icuAdd]
  split
  · rfl
  · split <;> simp only [State.set_holds]

theorem State.icuCount_holds (s : State) (src n : Nat) : (s.icuCount src n).holds = s.holds := by
  simp only [State.icuCount]
  split
  · split <;> simp only [State.icuAdd_holds, State.setReg_holds]
  · exact State.icuAdd_holds ..

@[simp] theorem State.sourceEvent_holds (s : State) (src n : Nat) : (s.sourceEvent src n).holds = s.holds := by
  unfold State.sourceEvent
  split
  · exact State.icuCount_holds ..
  · exact Eq.refl _

@[simp] theorem State.present1_holds (s : State) (d p evt : Nat) : (s.present1 d p evt).holds = s.holds := by
  unfold State.present1
  extract_lets t
  have ht : t.holds = s.holds := (State.icuCount_holds ..).trans (State.setEvent_holds ..)
  split
  · exact (State.set_holds ..).trans ht
  · exact ht

@[simp] theorem State.raise_holds (s : State) (d p evt : Nat) : (s.raise d p evt).holds = s.holds := by
  unfold State.raise
  extract_lets en t
  split
  · split
    · exact Eq.refl _
    · exact State.setEvent_holds ..
  · split
    · exact State.present1_holds ..
    · split
      · exact (State.sourceEvent_holds ..).trans (State.setEvent_holds ..)
      · exact State.setEvent_holds ..

theorem State.icuAdd_mem (s : State) (src n : Nat) : (s.icuAdd src n).1.mem = s.mem := by
  simp only [State.icuAdd]
  split
  · rfl
  · split <;> simp only [State.set_mem]

theorem State.icuCount_mem (s : State) (src n : Nat) : (s.icuCount src n).mem = s.mem := by
  simp only [State.icuCount]
  split
  · split <;> simp only [State.icuAdd_mem, State.setReg_mem]
  · exact State.icuAdd_mem ..

@[simp] theorem State.sourceEvent_mem (s : State) (src n : Nat) : (s.sourceEvent src n).mem = s.mem := by
  unfold State.sourceEvent
  split
  · exact State.icuCount_mem ..
  · exact Eq.refl _

@[simp] theorem State.present1_mem (s : State) (d p evt : Nat) : (s.present1 d p evt).mem = s.mem := by
  unfold State.present1
  extract_lets t
  have ht : t.mem = s.mem := (State.icuCount_mem ..).trans (State.setEvent_mem ..)
  split
  · exact (State.set_mem ..).trans ht
  · exact ht

@[simp] theorem State.raise_mem (s : State) (d p evt : Nat) : (s.raise d p evt).mem = s.mem := by
  unfold State.raise
  extract_lets en t
  split
  · split
    · exact Eq.refl _
    · exact State.setEvent_mem ..
  · split
    · exact State.present1_mem ..
    · split
      · exact (State.sourceEvent_mem ..).trans (State.setEvent_mem ..)
      · exact State.setEvent_mem ..

theorem State.icuAdd_tb (s : State) (src n : Nat) : (s.icuAdd src n).1.tb = s.tb := by
  simp only [State.icuAdd]
  split
  · rfl
  · split <;> simp only [State.set_tb]

theorem State.icuCount_tb (s : State) (src n : Nat) : (s.icuCount src n).tb = s.tb := by
  simp only [State.icuCount]
  split
  · split <;> simp only [State.icuAdd_tb, State.setReg_tb]
  · exact State.icuAdd_tb ..

@[simp] theorem State.sourceEvent_tb (s : State) (src n : Nat) : (s.sourceEvent src n).tb = s.tb := by
  unfold State.sourceEvent
  split
  · exact State.icuCount_tb ..
  · exact Eq.refl _

@[simp] theorem State.present1_tb (s : State) (d p evt : Nat) : (s.present1 d p evt).tb = s.tb := by
  unfold State.present1
  extract_lets t
  have ht : t.tb = s.tb := (State.icuCount_tb ..).trans (State.setEvent_tb ..)
  split
  · exact (State.set_tb ..).trans ht
  · exact ht

@[simp] theorem State.raise_tb (s : State) (d p evt : Nat) : (s.raise d p evt).tb = s.tb := by
  unfold State.raise
  extract_lets en t
  split
  · split
    · exact Eq.refl _
    · exact State.setEvent_tb ..
  · split
    · exact State.present1_tb ..
    · split
      · exact (State.sourceEvent_tb ..).trans (State.setEvent_tb ..)
      · exact State.setEvent_tb ..

theorem State.icuAdd_seams (s : State) (src n : Nat) : (s.icuAdd src n).1.seams = s.seams := by
  simp only [State.icuAdd]
  split
  · rfl
  · split <;> simp only [State.set_seams]

theorem State.icuCount_seams (s : State) (src n : Nat) : (s.icuCount src n).seams = s.seams := by
  simp only [State.icuCount]
  split
  · split <;> simp only [State.icuAdd_seams, State.setReg_seams]
  · exact State.icuAdd_seams ..

@[simp] theorem State.sourceEvent_seams (s : State) (src n : Nat) : (s.sourceEvent src n).seams = s.seams := by
  unfold State.sourceEvent
  split
  · exact State.icuCount_seams ..
  · exact Eq.refl _

@[simp] theorem State.present1_seams (s : State) (d p evt : Nat) : (s.present1 d p evt).seams = s.seams := by
  unfold State.present1
  extract_lets t
  have ht : t.seams = s.seams := (State.icuCount_seams ..).trans (State.setEvent_seams ..)
  split
  · exact (State.set_seams ..).trans ht
  · exact ht

@[simp] theorem State.raise_seams (s : State) (d p evt : Nat) : (s.raise d p evt).seams = s.seams := by
  unfold State.raise
  extract_lets en t
  split
  · split
    · exact Eq.refl _
    · exact State.setEvent_seams ..
  · split
    · exact State.present1_seams ..
    · split
      · exact (State.sourceEvent_seams ..).trans (State.setEvent_seams ..)
      · exact State.setEvent_seams ..

theorem State.icuAdd_dieX (s : State) (src n : Nat) : (s.icuAdd src n).1.dieX = s.dieX := by
  simp only [State.icuAdd]
  split
  · rfl
  · split <;> simp only [State.set_dieX]

theorem State.icuCount_dieX (s : State) (src n : Nat) : (s.icuCount src n).dieX = s.dieX := by
  simp only [State.icuCount]
  split
  · split <;> simp only [State.icuAdd_dieX, State.setReg_dieX]
  · exact State.icuAdd_dieX ..

@[simp] theorem State.sourceEvent_dieX (s : State) (src n : Nat) : (s.sourceEvent src n).dieX = s.dieX := by
  unfold State.sourceEvent
  split
  · exact State.icuCount_dieX ..
  · exact Eq.refl _

@[simp] theorem State.present1_dieX (s : State) (d p evt : Nat) : (s.present1 d p evt).dieX = s.dieX := by
  unfold State.present1
  extract_lets t
  have ht : t.dieX = s.dieX := (State.icuCount_dieX ..).trans (State.setEvent_dieX ..)
  split
  · exact (State.set_dieX ..).trans ht
  · exact ht

@[simp] theorem State.raise_dieX (s : State) (d p evt : Nat) : (s.raise d p evt).dieX = s.dieX := by
  unfold State.raise
  extract_lets en t
  split
  · split
    · exact Eq.refl _
    · exact State.setEvent_dieX ..
  · split
    · exact State.present1_dieX ..
    · split
      · exact (State.sourceEvent_dieX ..).trans (State.setEvent_dieX ..)
      · exact State.setEvent_dieX ..

theorem State.icuAdd_slices (s : State) (src n : Nat) : (s.icuAdd src n).1.slices = s.slices := by
  simp only [State.icuAdd]
  split
  · rfl
  · split <;> simp only [State.set_slices]

theorem State.icuCount_slices (s : State) (src n : Nat) : (s.icuCount src n).slices = s.slices := by
  simp only [State.icuCount]
  split
  · split <;> simp only [State.icuAdd_slices, State.setReg_slices]
  · exact State.icuAdd_slices ..

@[simp] theorem State.sourceEvent_slices (s : State) (src n : Nat) : (s.sourceEvent src n).slices = s.slices := by
  unfold State.sourceEvent
  split
  · exact State.icuCount_slices ..
  · exact Eq.refl _

@[simp] theorem State.present1_slices (s : State) (d p evt : Nat) : (s.present1 d p evt).slices = s.slices := by
  unfold State.present1
  extract_lets t
  have ht : t.slices = s.slices := (State.icuCount_slices ..).trans (State.setEvent_slices ..)
  split
  · exact (State.set_slices ..).trans ht
  · exact ht

@[simp] theorem State.raise_slices (s : State) (d p evt : Nat) : (s.raise d p evt).slices = s.slices := by
  unfold State.raise
  extract_lets en t
  split
  · split
    · exact Eq.refl _
    · exact State.setEvent_slices ..
  · split
    · exact State.present1_slices ..
    · split
      · exact (State.sourceEvent_slices ..).trans (State.setEvent_slices ..)
      · exact State.setEvent_slices ..

theorem State.icuAdd_exchs (s : State) (src n : Nat) : (s.icuAdd src n).1.exchs = s.exchs := by
  simp only [State.icuAdd]
  split
  · rfl
  · split <;> simp only [State.set_exchs]

theorem State.icuCount_exchs (s : State) (src n : Nat) : (s.icuCount src n).exchs = s.exchs := by
  simp only [State.icuCount]
  split
  · split <;> simp only [State.icuAdd_exchs, State.setReg_exchs]
  · exact State.icuAdd_exchs ..

@[simp] theorem State.sourceEvent_exchs (s : State) (src n : Nat) : (s.sourceEvent src n).exchs = s.exchs := by
  unfold State.sourceEvent
  split
  · exact State.icuCount_exchs ..
  · exact Eq.refl _

@[simp] theorem State.present1_exchs (s : State) (d p evt : Nat) : (s.present1 d p evt).exchs = s.exchs := by
  unfold State.present1
  extract_lets t
  have ht : t.exchs = s.exchs := (State.icuCount_exchs ..).trans (State.setEvent_exchs ..)
  split
  · exact (State.set_exchs ..).trans ht
  · exact ht

@[simp] theorem State.raise_exchs (s : State) (d p evt : Nat) : (s.raise d p evt).exchs = s.exchs := by
  unfold State.raise
  extract_lets en t
  split
  · split
    · exact Eq.refl _
    · exact State.setEvent_exchs ..
  · split
    · exact State.present1_exchs ..
    · split
      · exact (State.sourceEvent_exchs ..).trans (State.setEvent_exchs ..)
      · exact State.setEvent_exchs ..

theorem State.icuAdd_fieldHolds (s : State) (src n : Nat) : (s.icuAdd src n).1.fieldHolds = s.fieldHolds := by
  simp only [State.icuAdd]
  split
  · rfl
  · split <;> simp only [State.set_fieldHolds]

theorem State.icuCount_fieldHolds (s : State) (src n : Nat) : (s.icuCount src n).fieldHolds = s.fieldHolds := by
  simp only [State.icuCount]
  split
  · split <;> simp only [State.icuAdd_fieldHolds, State.setReg_fieldHolds]
  · exact State.icuAdd_fieldHolds ..

@[simp] theorem State.sourceEvent_fieldHolds (s : State) (src n : Nat) : (s.sourceEvent src n).fieldHolds = s.fieldHolds := by
  unfold State.sourceEvent
  split
  · exact State.icuCount_fieldHolds ..
  · exact Eq.refl _

@[simp] theorem State.present1_fieldHolds (s : State) (d p evt : Nat) : (s.present1 d p evt).fieldHolds = s.fieldHolds := by
  unfold State.present1
  extract_lets t
  have ht : t.fieldHolds = s.fieldHolds := (State.icuCount_fieldHolds ..).trans (State.setEvent_fieldHolds ..)
  split
  · exact (State.set_fieldHolds ..).trans ht
  · exact ht

@[simp] theorem State.raise_fieldHolds (s : State) (d p evt : Nat) : (s.raise d p evt).fieldHolds = s.fieldHolds := by
  unfold State.raise
  extract_lets en t
  split
  · split
    · exact Eq.refl _
    · exact State.setEvent_fieldHolds ..
  · split
    · exact State.present1_fieldHolds ..
    · split
      · exact (State.sourceEvent_fieldHolds ..).trans (State.setEvent_fieldHolds ..)
      · exact State.setEvent_fieldHolds ..

theorem State.icuAdd_watches (s : State) (src n : Nat) : (s.icuAdd src n).1.watches = s.watches := by
  simp only [State.icuAdd]
  split
  · rfl
  · split <;> simp only [State.set_watches]

theorem State.icuCount_watches (s : State) (src n : Nat) : (s.icuCount src n).watches = s.watches := by
  simp only [State.icuCount]
  split
  · split <;> simp only [State.icuAdd_watches, State.setReg_watches]
  · exact State.icuAdd_watches ..

@[simp] theorem State.sourceEvent_watches (s : State) (src n : Nat) : (s.sourceEvent src n).watches = s.watches := by
  unfold State.sourceEvent
  split
  · exact State.icuCount_watches ..
  · exact Eq.refl _

@[simp] theorem State.present1_watches (s : State) (d p evt : Nat) : (s.present1 d p evt).watches = s.watches := by
  unfold State.present1
  extract_lets t
  have ht : t.watches = s.watches := (State.icuCount_watches ..).trans (State.setEvent_watches ..)
  split
  · exact (State.set_watches ..).trans ht
  · exact ht

@[simp] theorem State.raise_watches (s : State) (d p evt : Nat) : (s.raise d p evt).watches = s.watches := by
  unfold State.raise
  extract_lets en t
  split
  · split
    · exact Eq.refl _
    · exact State.setEvent_watches ..
  · split
    · exact State.present1_watches ..
    · split
      · exact (State.sourceEvent_watches ..).trans (State.setEvent_watches ..)
      · exact State.setEvent_watches ..

theorem State.icuAdd_coord (s : State) (src n : Nat) : (s.icuAdd src n).1.coord = s.coord := by
  simp only [State.icuAdd]
  split
  · rfl
  · split <;> simp only [State.set_coord]

theorem State.icuCount_coord (s : State) (src n : Nat) : (s.icuCount src n).coord = s.coord := by
  simp only [State.icuCount]
  split
  · split <;> simp only [State.icuAdd_coord, State.setReg_coord]
  · exact State.icuAdd_coord ..

@[simp] theorem State.sourceEvent_coord (s : State) (src n : Nat) : (s.sourceEvent src n).coord = s.coord := by
  unfold State.sourceEvent
  split
  · exact State.icuCount_coord ..
  · exact Eq.refl _

@[simp] theorem State.present1_coord (s : State) (d p evt : Nat) : (s.present1 d p evt).coord = s.coord := by
  unfold State.present1
  extract_lets t
  have ht : t.coord = s.coord := (State.icuCount_coord ..).trans (State.setEvent_coord ..)
  split
  · exact (State.set_coord ..).trans ht
  · exact ht

@[simp] theorem State.raise_coord (s : State) (d p evt : Nat) : (s.raise d p evt).coord = s.coord := by
  unfold State.raise
  extract_lets en t
  split
  · split
    · exact Eq.refl _
    · exact State.setEvent_coord ..
  · split
    · exact State.present1_coord ..
    · split
      · exact (State.sourceEvent_coord ..).trans (State.setEvent_coord ..)
      · exact State.setEvent_coord ..

theorem State.icuAdd_classes (s : State) (src n : Nat) : (s.icuAdd src n).1.classes = s.classes := by
  simp only [State.icuAdd]
  split
  · rfl
  · split <;> simp only [State.set_classes]

theorem State.icuCount_classes (s : State) (src n : Nat) : (s.icuCount src n).classes = s.classes := by
  simp only [State.icuCount]
  split
  · split <;> simp only [State.icuAdd_classes, State.setReg_classes]
  · exact State.icuAdd_classes ..

@[simp] theorem State.sourceEvent_classes (s : State) (src n : Nat) : (s.sourceEvent src n).classes = s.classes := by
  unfold State.sourceEvent
  split
  · exact State.icuCount_classes ..
  · exact Eq.refl _

@[simp] theorem State.present1_classes (s : State) (d p evt : Nat) : (s.present1 d p evt).classes = s.classes := by
  unfold State.present1
  extract_lets t
  have ht : t.classes = s.classes := (State.icuCount_classes ..).trans (State.setEvent_classes ..)
  split
  · exact (State.set_classes ..).trans ht
  · exact ht

@[simp] theorem State.raise_classes (s : State) (d p evt : Nat) : (s.raise d p evt).classes = s.classes := by
  unfold State.raise
  extract_lets en t
  split
  · split
    · exact Eq.refl _
    · exact State.setEvent_classes ..
  · split
    · exact State.present1_classes ..
    · split
      · exact (State.sourceEvent_classes ..).trans (State.setEvent_classes ..)
      · exact State.setEvent_classes ..

theorem State.icuAdd_hamper (s : State) (src n : Nat) : (s.icuAdd src n).1.hamper = s.hamper := by
  simp only [State.icuAdd]
  split
  · rfl
  · split <;> simp only [State.set_hamper]

theorem State.icuCount_hamper (s : State) (src n : Nat) : (s.icuCount src n).hamper = s.hamper := by
  simp only [State.icuCount]
  split
  · split <;> simp only [State.icuAdd_hamper, State.setReg_hamper]
  · exact State.icuAdd_hamper ..

@[simp] theorem State.sourceEvent_hamper (s : State) (src n : Nat) : (s.sourceEvent src n).hamper = s.hamper := by
  unfold State.sourceEvent
  split
  · exact State.icuCount_hamper ..
  · exact Eq.refl _

@[simp] theorem State.present1_hamper (s : State) (d p evt : Nat) : (s.present1 d p evt).hamper = s.hamper := by
  unfold State.present1
  extract_lets t
  have ht : t.hamper = s.hamper := (State.icuCount_hamper ..).trans (State.setEvent_hamper ..)
  split
  · exact (State.set_hamper ..).trans ht
  · exact ht

@[simp] theorem State.raise_hamper (s : State) (d p evt : Nat) : (s.raise d p evt).hamper = s.hamper := by
  unfold State.raise
  extract_lets en t
  split
  · split
    · exact Eq.refl _
    · exact State.setEvent_hamper ..
  · split
    · exact State.present1_hamper ..
    · split
      · exact (State.sourceEvent_hamper ..).trans (State.setEvent_hamper ..)
      · exact State.setEvent_hamper ..

theorem State.icuAdd_tickets (s : State) (src n : Nat) : (s.icuAdd src n).1.tickets = s.tickets := by
  simp only [State.icuAdd]
  split
  · rfl
  · split <;> simp only [State.set_tickets]

theorem State.icuCount_tickets (s : State) (src n : Nat) : (s.icuCount src n).tickets = s.tickets := by
  simp only [State.icuCount]
  split
  · split <;> simp only [State.icuAdd_tickets, State.setReg_tickets]
  · exact State.icuAdd_tickets ..

@[simp] theorem State.sourceEvent_tickets (s : State) (src n : Nat) : (s.sourceEvent src n).tickets = s.tickets := by
  unfold State.sourceEvent
  split
  · exact State.icuCount_tickets ..
  · exact Eq.refl _

@[simp] theorem State.present1_tickets (s : State) (d p evt : Nat) : (s.present1 d p evt).tickets = s.tickets := by
  unfold State.present1
  extract_lets t
  have ht : t.tickets = s.tickets := (State.icuCount_tickets ..).trans (State.setEvent_tickets ..)
  split
  · exact (State.set_tickets ..).trans ht
  · exact ht

@[simp] theorem State.raise_tickets (s : State) (d p evt : Nat) : (s.raise d p evt).tickets = s.tickets := by
  unfold State.raise
  extract_lets en t
  split
  · split
    · exact Eq.refl _
    · exact State.setEvent_tickets ..
  · split
    · exact State.present1_tickets ..
    · split
      · exact (State.sourceEvent_tickets ..).trans (State.setEvent_tickets ..)
      · exact State.setEvent_tickets ..

theorem State.icuAdd_departs (s : State) (src n : Nat) : (s.icuAdd src n).1.departs = s.departs := by
  simp only [State.icuAdd]
  split
  · rfl
  · split <;> simp only [State.set_departs]

theorem State.icuCount_departs (s : State) (src n : Nat) : (s.icuCount src n).departs = s.departs := by
  simp only [State.icuCount]
  split
  · split <;> simp only [State.icuAdd_departs, State.setReg_departs]
  · exact State.icuAdd_departs ..

@[simp] theorem State.sourceEvent_departs (s : State) (src n : Nat) : (s.sourceEvent src n).departs = s.departs := by
  unfold State.sourceEvent
  split
  · exact State.icuCount_departs ..
  · exact Eq.refl _

@[simp] theorem State.present1_departs (s : State) (d p evt : Nat) : (s.present1 d p evt).departs = s.departs := by
  unfold State.present1
  extract_lets t
  have ht : t.departs = s.departs := (State.icuCount_departs ..).trans (State.setEvent_departs ..)
  split
  · exact (State.set_departs ..).trans ht
  · exact ht

@[simp] theorem State.raise_departs (s : State) (d p evt : Nat) : (s.raise d p evt).departs = s.departs := by
  unfold State.raise
  extract_lets en t
  split
  · split
    · exact Eq.refl _
    · exact State.setEvent_departs ..
  · split
    · exact State.present1_departs ..
    · split
      · exact (State.sourceEvent_departs ..).trans (State.setEvent_departs ..)
      · exact State.setEvent_departs ..

theorem State.icuAdd_calSets (s : State) (src n : Nat) : (s.icuAdd src n).1.calSets = s.calSets := by
  simp only [State.icuAdd]
  split
  · rfl
  · split <;> simp only [State.set_calSets]

theorem State.icuCount_calSets (s : State) (src n : Nat) : (s.icuCount src n).calSets = s.calSets := by
  simp only [State.icuCount]
  split
  · split <;> simp only [State.icuAdd_calSets, State.setReg_calSets]
  · exact State.icuAdd_calSets ..

@[simp] theorem State.sourceEvent_calSets (s : State) (src n : Nat) : (s.sourceEvent src n).calSets = s.calSets := by
  unfold State.sourceEvent
  split
  · exact State.icuCount_calSets ..
  · exact Eq.refl _

@[simp] theorem State.present1_calSets (s : State) (d p evt : Nat) : (s.present1 d p evt).calSets = s.calSets := by
  unfold State.present1
  extract_lets t
  have ht : t.calSets = s.calSets := (State.icuCount_calSets ..).trans (State.setEvent_calSets ..)
  split
  · exact (State.set_calSets ..).trans ht
  · exact ht

@[simp] theorem State.raise_calSets (s : State) (d p evt : Nat) : (s.raise d p evt).calSets = s.calSets := by
  unfold State.raise
  extract_lets en t
  split
  · split
    · exact Eq.refl _
    · exact State.setEvent_calSets ..
  · split
    · exact State.present1_calSets ..
    · split
      · exact (State.sourceEvent_calSets ..).trans (State.setEvent_calSets ..)
      · exact State.setEvent_calSets ..

theorem State.icuAdd_lockBlock (s : State) (src n : Nat) : (s.icuAdd src n).1.lockBlock = s.lockBlock := by
  simp only [State.icuAdd]
  split
  · rfl
  · split <;> simp only [State.set_lockBlock]

theorem State.icuCount_lockBlock (s : State) (src n : Nat) : (s.icuCount src n).lockBlock = s.lockBlock := by
  simp only [State.icuCount]
  split
  · split <;> simp only [State.icuAdd_lockBlock, State.setReg_lockBlock]
  · exact State.icuAdd_lockBlock ..

@[simp] theorem State.sourceEvent_lockBlock (s : State) (src n : Nat) : (s.sourceEvent src n).lockBlock = s.lockBlock := by
  unfold State.sourceEvent
  split
  · exact State.icuCount_lockBlock ..
  · exact Eq.refl _

@[simp] theorem State.present1_lockBlock (s : State) (d p evt : Nat) : (s.present1 d p evt).lockBlock = s.lockBlock := by
  unfold State.present1
  extract_lets t
  have ht : t.lockBlock = s.lockBlock := (State.icuCount_lockBlock ..).trans (State.setEvent_lockBlock ..)
  split
  · exact (State.set_lockBlock ..).trans ht
  · exact ht

@[simp] theorem State.raise_lockBlock (s : State) (d p evt : Nat) : (s.raise d p evt).lockBlock = s.lockBlock := by
  unfold State.raise
  extract_lets en t
  split
  · split
    · exact Eq.refl _
    · exact State.setEvent_lockBlock ..
  · split
    · exact State.present1_lockBlock ..
    · split
      · exact (State.sourceEvent_lockBlock ..).trans (State.setEvent_lockBlock ..)
      · exact State.setEvent_lockBlock ..

theorem State.icuAdd_recDone (s : State) (src n : Nat) : (s.icuAdd src n).1.recDone = s.recDone := by
  simp only [State.icuAdd]
  split
  · rfl
  · split <;> simp only [State.set_recDone]

theorem State.icuCount_recDone (s : State) (src n : Nat) : (s.icuCount src n).recDone = s.recDone := by
  simp only [State.icuCount]
  split
  · split <;> simp only [State.icuAdd_recDone, State.setReg_recDone]
  · exact State.icuAdd_recDone ..

@[simp] theorem State.sourceEvent_recDone (s : State) (src n : Nat) : (s.sourceEvent src n).recDone = s.recDone := by
  unfold State.sourceEvent
  split
  · exact State.icuCount_recDone ..
  · exact Eq.refl _

@[simp] theorem State.present1_recDone (s : State) (d p evt : Nat) : (s.present1 d p evt).recDone = s.recDone := by
  unfold State.present1
  extract_lets t
  have ht : t.recDone = s.recDone := (State.icuCount_recDone ..).trans (State.setEvent_recDone ..)
  split
  · exact (State.set_recDone ..).trans ht
  · exact ht

@[simp] theorem State.raise_recDone (s : State) (d p evt : Nat) : (s.raise d p evt).recDone = s.recDone := by
  unfold State.raise
  extract_lets en t
  split
  · split
    · exact Eq.refl _
    · exact State.setEvent_recDone ..
  · split
    · exact State.present1_recDone ..
    · split
      · exact (State.sourceEvent_recDone ..).trans (State.setEvent_recDone ..)
      · exact State.setEvent_recDone ..

theorem State.icuAdd_cal (s : State) (src n : Nat) : (s.icuAdd src n).1.cal = s.cal := by
  simp only [State.icuAdd]
  split
  · rfl
  · split <;> simp only [State.set_cal]

theorem State.icuCount_cal (s : State) (src n : Nat) : (s.icuCount src n).cal = s.cal := by
  simp only [State.icuCount]
  split
  · split <;> simp only [State.icuAdd_cal, State.setReg_cal]
  · exact State.icuAdd_cal ..

@[simp] theorem State.sourceEvent_cal (s : State) (src n : Nat) : (s.sourceEvent src n).cal = s.cal := by
  unfold State.sourceEvent
  split
  · exact State.icuCount_cal ..
  · exact Eq.refl _

@[simp] theorem State.present1_cal (s : State) (d p evt : Nat) : (s.present1 d p evt).cal = s.cal := by
  unfold State.present1
  extract_lets t
  have ht : t.cal = s.cal := (State.icuCount_cal ..).trans (State.setEvent_cal ..)
  split
  · exact (State.set_cal ..).trans ht
  · exact ht

@[simp] theorem State.raise_cal (s : State) (d p evt : Nat) : (s.raise d p evt).cal = s.cal := by
  unfold State.raise
  extract_lets en t
  split
  · split
    · exact Eq.refl _
    · exact State.setEvent_cal ..
  · split
    · exact State.present1_cal ..
    · split
      · exact (State.sourceEvent_cal ..).trans (State.setEvent_cal ..)
      · exact State.setEvent_cal ..

theorem State.icuAdd_tests (s : State) (src n : Nat) : (s.icuAdd src n).1.tests = s.tests := by
  simp only [State.icuAdd]
  split
  · rfl
  · split <;> simp only [State.set_tests]

theorem State.icuCount_tests (s : State) (src n : Nat) : (s.icuCount src n).tests = s.tests := by
  simp only [State.icuCount]
  split
  · split <;> simp only [State.icuAdd_tests, State.setReg_tests]
  · exact State.icuAdd_tests ..

@[simp] theorem State.sourceEvent_tests (s : State) (src n : Nat) : (s.sourceEvent src n).tests = s.tests := by
  unfold State.sourceEvent
  split
  · exact State.icuCount_tests ..
  · exact Eq.refl _

@[simp] theorem State.present1_tests (s : State) (d p evt : Nat) : (s.present1 d p evt).tests = s.tests := by
  unfold State.present1
  extract_lets t
  have ht : t.tests = s.tests := (State.icuCount_tests ..).trans (State.setEvent_tests ..)
  split
  · exact (State.set_tests ..).trans ht
  · exact ht

@[simp] theorem State.raise_tests (s : State) (d p evt : Nat) : (s.raise d p evt).tests = s.tests := by
  unfold State.raise
  extract_lets en t
  split
  · split
    · exact Eq.refl _
    · exact State.setEvent_tests ..
  · split
    · exact State.present1_tests ..
    · split
      · exact (State.sourceEvent_tests ..).trans (State.setEvent_tests ..)
      · exact State.setEvent_tests ..

theorem State.icuAdd_darn (s : State) (src n : Nat) : (s.icuAdd src n).1.darn = s.darn := by
  simp only [State.icuAdd]
  split
  · rfl
  · split <;> simp only [State.set_darn]

theorem State.icuCount_darn (s : State) (src n : Nat) : (s.icuCount src n).darn = s.darn := by
  simp only [State.icuCount]
  split
  · split <;> simp only [State.icuAdd_darn, State.setReg_darn]
  · exact State.icuAdd_darn ..

@[simp] theorem State.sourceEvent_darn (s : State) (src n : Nat) : (s.sourceEvent src n).darn = s.darn := by
  unfold State.sourceEvent
  split
  · exact State.icuCount_darn ..
  · exact Eq.refl _

@[simp] theorem State.present1_darn (s : State) (d p evt : Nat) : (s.present1 d p evt).darn = s.darn := by
  unfold State.present1
  extract_lets t
  have ht : t.darn = s.darn := (State.icuCount_darn ..).trans (State.setEvent_darn ..)
  split
  · exact (State.set_darn ..).trans ht
  · exact ht

@[simp] theorem State.raise_darn (s : State) (d p evt : Nat) : (s.raise d p evt).darn = s.darn := by
  unfold State.raise
  extract_lets en t
  split
  · split
    · exact Eq.refl _
    · exact State.setEvent_darn ..
  · split
    · exact State.present1_darn ..
    · split
      · exact (State.sourceEvent_darn ..).trans (State.setEvent_darn ..)
      · exact State.setEvent_darn ..

theorem State.icuAdd_nv (s : State) (src n : Nat) : (s.icuAdd src n).1.nv = s.nv := by
  simp only [State.icuAdd]
  split
  · rfl
  · split <;> simp only [State.set_nv]

theorem State.icuCount_nv (s : State) (src n : Nat) : (s.icuCount src n).nv = s.nv := by
  simp only [State.icuCount]
  split
  · split <;> simp only [State.icuAdd_nv, State.setReg_nv]
  · exact State.icuAdd_nv ..

@[simp] theorem State.sourceEvent_nv (s : State) (src n : Nat) : (s.sourceEvent src n).nv = s.nv := by
  unfold State.sourceEvent
  split
  · exact State.icuCount_nv ..
  · exact Eq.refl _

@[simp] theorem State.present1_nv (s : State) (d p evt : Nat) : (s.present1 d p evt).nv = s.nv := by
  unfold State.present1
  extract_lets t
  have ht : t.nv = s.nv := (State.icuCount_nv ..).trans (State.setEvent_nv ..)
  split
  · exact (State.set_nv ..).trans ht
  · exact ht

@[simp] theorem State.raise_nv (s : State) (d p evt : Nat) : (s.raise d p evt).nv = s.nv := by
  unfold State.raise
  extract_lets en t
  split
  · split
    · exact Eq.refl _
    · exact State.setEvent_nv ..
  · split
    · exact State.present1_nv ..
    · split
      · exact (State.sourceEvent_nv ..).trans (State.setEvent_nv ..)
      · exact State.setEvent_nv ..

theorem State.icuAdd_power (s : State) (src n : Nat) : (s.icuAdd src n).1.power = s.power := by
  simp only [State.icuAdd]
  split
  · rfl
  · split <;> simp only [State.set_power]

theorem State.icuCount_power (s : State) (src n : Nat) : (s.icuCount src n).power = s.power := by
  simp only [State.icuCount]
  split
  · split <;> simp only [State.icuAdd_power, State.setReg_power]
  · exact State.icuAdd_power ..

@[simp] theorem State.sourceEvent_power (s : State) (src n : Nat) : (s.sourceEvent src n).power = s.power := by
  unfold State.sourceEvent
  split
  · exact State.icuCount_power ..
  · exact Eq.refl _

@[simp] theorem State.present1_power (s : State) (d p evt : Nat) : (s.present1 d p evt).power = s.power := by
  unfold State.present1
  extract_lets t
  have ht : t.power = s.power := (State.icuCount_power ..).trans (State.setEvent_power ..)
  split
  · exact (State.set_power ..).trans ht
  · exact ht

@[simp] theorem State.raise_power (s : State) (d p evt : Nat) : (s.raise d p evt).power = s.power := by
  unfold State.raise
  extract_lets en t
  split
  · split
    · exact Eq.refl _
    · exact State.setEvent_power ..
  · split
    · exact State.present1_power ..
    · split
      · exact (State.sourceEvent_power ..).trans (State.setEvent_power ..)
      · exact State.setEvent_power ..

theorem State.icuAdd_supply (s : State) (src n : Nat) : (s.icuAdd src n).1.supply = s.supply := by
  simp only [State.icuAdd]
  split
  · rfl
  · split <;> simp only [State.set_supply]

theorem State.icuCount_supply (s : State) (src n : Nat) : (s.icuCount src n).supply = s.supply := by
  simp only [State.icuCount]
  split
  · split <;> simp only [State.icuAdd_supply, State.setReg_supply]
  · exact State.icuAdd_supply ..

@[simp] theorem State.sourceEvent_supply (s : State) (src n : Nat) : (s.sourceEvent src n).supply = s.supply := by
  unfold State.sourceEvent
  split
  · exact State.icuCount_supply ..
  · exact Eq.refl _

@[simp] theorem State.present1_supply (s : State) (d p evt : Nat) : (s.present1 d p evt).supply = s.supply := by
  unfold State.present1
  extract_lets t
  have ht : t.supply = s.supply := (State.icuCount_supply ..).trans (State.setEvent_supply ..)
  split
  · exact (State.set_supply ..).trans ht
  · exact ht

@[simp] theorem State.raise_supply (s : State) (d p evt : Nat) : (s.raise d p evt).supply = s.supply := by
  unfold State.raise
  extract_lets en t
  split
  · split
    · exact Eq.refl _
    · exact State.setEvent_supply ..
  · split
    · exact State.present1_supply ..
    · split
      · exact (State.sourceEvent_supply ..).trans (State.setEvent_supply ..)
      · exact State.setEvent_supply ..

theorem State.icuAdd_radio (s : State) (src n : Nat) : (s.icuAdd src n).1.radio = s.radio := by
  simp only [State.icuAdd]
  split
  · rfl
  · split <;> simp only [State.set_radio]

theorem State.icuCount_radio (s : State) (src n : Nat) : (s.icuCount src n).radio = s.radio := by
  simp only [State.icuCount]
  split
  · split <;> simp only [State.icuAdd_radio, State.setReg_radio]
  · exact State.icuAdd_radio ..

@[simp] theorem State.sourceEvent_radio (s : State) (src n : Nat) : (s.sourceEvent src n).radio = s.radio := by
  unfold State.sourceEvent
  split
  · exact State.icuCount_radio ..
  · exact Eq.refl _

@[simp] theorem State.present1_radio (s : State) (d p evt : Nat) : (s.present1 d p evt).radio = s.radio := by
  unfold State.present1
  extract_lets t
  have ht : t.radio = s.radio := (State.icuCount_radio ..).trans (State.setEvent_radio ..)
  split
  · exact (State.set_radio ..).trans ht
  · exact ht

@[simp] theorem State.raise_radio (s : State) (d p evt : Nat) : (s.raise d p evt).radio = s.radio := by
  unfold State.raise
  extract_lets en t
  split
  · split
    · exact Eq.refl _
    · exact State.setEvent_radio ..
  · split
    · exact State.present1_radio ..
    · split
      · exact (State.sourceEvent_radio ..).trans (State.setEvent_radio ..)
      · exact State.setEvent_radio ..

theorem State.icuAdd_ple (s : State) (src n : Nat) : (s.icuAdd src n).1.ple = s.ple := by
  simp only [State.icuAdd]
  split
  · rfl
  · split <;> simp only [State.set_ple]

theorem State.icuCount_ple (s : State) (src n : Nat) : (s.icuCount src n).ple = s.ple := by
  simp only [State.icuCount]
  split
  · split <;> simp only [State.icuAdd_ple, State.setReg_ple]
  · exact State.icuAdd_ple ..

@[simp] theorem State.sourceEvent_ple (s : State) (src n : Nat) : (s.sourceEvent src n).ple = s.ple := by
  unfold State.sourceEvent
  split
  · exact State.icuCount_ple ..
  · exact Eq.refl _

@[simp] theorem State.present1_ple (s : State) (d p evt : Nat) : (s.present1 d p evt).ple = s.ple := by
  unfold State.present1
  extract_lets t
  have ht : t.ple = s.ple := (State.icuCount_ple ..).trans (State.setEvent_ple ..)
  split
  · exact (State.set_ple ..).trans ht
  · exact ht

@[simp] theorem State.raise_ple (s : State) (d p evt : Nat) : (s.raise d p evt).ple = s.ple := by
  unfold State.raise
  extract_lets en t
  split
  · split
    · exact Eq.refl _
    · exact State.setEvent_ple ..
  · split
    · exact State.present1_ple ..
    · split
      · exact (State.sourceEvent_ple ..).trans (State.setEvent_ple ..)
      · exact State.setEvent_ple ..

theorem State.icuAdd_ssc (s : State) (src n : Nat) : (s.icuAdd src n).1.ssc = s.ssc := by
  simp only [State.icuAdd]
  split
  · rfl
  · split <;> simp only [State.set_ssc]

theorem State.icuCount_ssc (s : State) (src n : Nat) : (s.icuCount src n).ssc = s.ssc := by
  simp only [State.icuCount]
  split
  · split <;> simp only [State.icuAdd_ssc, State.setReg_ssc]
  · exact State.icuAdd_ssc ..

@[simp] theorem State.sourceEvent_ssc (s : State) (src n : Nat) : (s.sourceEvent src n).ssc = s.ssc := by
  unfold State.sourceEvent
  split
  · exact State.icuCount_ssc ..
  · exact Eq.refl _

@[simp] theorem State.present1_ssc (s : State) (d p evt : Nat) : (s.present1 d p evt).ssc = s.ssc := by
  unfold State.present1
  extract_lets t
  have ht : t.ssc = s.ssc := (State.icuCount_ssc ..).trans (State.setEvent_ssc ..)
  split
  · exact (State.set_ssc ..).trans ht
  · exact ht

@[simp] theorem State.raise_ssc (s : State) (d p evt : Nat) : (s.raise d p evt).ssc = s.ssc := by
  unfold State.raise
  extract_lets en t
  split
  · split
    · exact Eq.refl _
    · exact State.setEvent_ssc ..
  · split
    · exact State.present1_ssc ..
    · split
      · exact (State.sourceEvent_ssc ..).trans (State.setEvent_ssc ..)
      · exact State.setEvent_ssc ..

theorem State.icuAdd_ssl (s : State) (src n : Nat) : (s.icuAdd src n).1.ssl = s.ssl := by
  simp only [State.icuAdd]
  split
  · rfl
  · split <;> simp only [State.set_ssl]

theorem State.icuCount_ssl (s : State) (src n : Nat) : (s.icuCount src n).ssl = s.ssl := by
  simp only [State.icuCount]
  split
  · split <;> simp only [State.icuAdd_ssl, State.setReg_ssl]
  · exact State.icuAdd_ssl ..

@[simp] theorem State.sourceEvent_ssl (s : State) (src n : Nat) : (s.sourceEvent src n).ssl = s.ssl := by
  unfold State.sourceEvent
  split
  · exact State.icuCount_ssl ..
  · exact Eq.refl _

@[simp] theorem State.present1_ssl (s : State) (d p evt : Nat) : (s.present1 d p evt).ssl = s.ssl := by
  unfold State.present1
  extract_lets t
  have ht : t.ssl = s.ssl := (State.icuCount_ssl ..).trans (State.setEvent_ssl ..)
  split
  · exact (State.set_ssl ..).trans ht
  · exact ht

@[simp] theorem State.raise_ssl (s : State) (d p evt : Nat) : (s.raise d p evt).ssl = s.ssl := by
  unfold State.raise
  extract_lets en t
  split
  · split
    · exact Eq.refl _
    · exact State.setEvent_ssl ..
  · split
    · exact State.present1_ssl ..
    · split
      · exact (State.sourceEvent_ssl ..).trans (State.setEvent_ssl ..)
      · exact State.setEvent_ssl ..

theorem State.icuAdd_saf (s : State) (src n : Nat) : (s.icuAdd src n).1.saf = s.saf := by
  simp only [State.icuAdd]
  split
  · rfl
  · split <;> simp only [State.set_saf]

theorem State.icuCount_saf (s : State) (src n : Nat) : (s.icuCount src n).saf = s.saf := by
  simp only [State.icuCount]
  split
  · split <;> simp only [State.icuAdd_saf, State.setReg_saf]
  · exact State.icuAdd_saf ..

@[simp] theorem State.sourceEvent_saf (s : State) (src n : Nat) : (s.sourceEvent src n).saf = s.saf := by
  unfold State.sourceEvent
  split
  · exact State.icuCount_saf ..
  · exact Eq.refl _

@[simp] theorem State.present1_saf (s : State) (d p evt : Nat) : (s.present1 d p evt).saf = s.saf := by
  unfold State.present1
  extract_lets t
  have ht : t.saf = s.saf := (State.icuCount_saf ..).trans (State.setEvent_saf ..)
  split
  · exact (State.set_saf ..).trans ht
  · exact ht

@[simp] theorem State.raise_saf (s : State) (d p evt : Nat) : (s.raise d p evt).saf = s.saf := by
  unfold State.raise
  extract_lets en t
  split
  · split
    · exact Eq.refl _
    · exact State.setEvent_saf ..
  · split
    · exact State.present1_saf ..
    · split
      · exact (State.sourceEvent_saf ..).trans (State.setEvent_saf ..)
      · exact State.setEvent_saf ..

theorem State.icuAdd_hsp (s : State) (src n : Nat) : (s.icuAdd src n).1.hsp = s.hsp := by
  simp only [State.icuAdd]
  split
  · rfl
  · split <;> simp only [State.set_hsp]

theorem State.icuCount_hsp (s : State) (src n : Nat) : (s.icuCount src n).hsp = s.hsp := by
  simp only [State.icuCount]
  split
  · split <;> simp only [State.icuAdd_hsp, State.setReg_hsp]
  · exact State.icuAdd_hsp ..

@[simp] theorem State.sourceEvent_hsp (s : State) (src n : Nat) : (s.sourceEvent src n).hsp = s.hsp := by
  unfold State.sourceEvent
  split
  · exact State.icuCount_hsp ..
  · exact Eq.refl _

@[simp] theorem State.present1_hsp (s : State) (d p evt : Nat) : (s.present1 d p evt).hsp = s.hsp := by
  unfold State.present1
  extract_lets t
  have ht : t.hsp = s.hsp := (State.icuCount_hsp ..).trans (State.setEvent_hsp ..)
  split
  · exact (State.set_hsp ..).trans ht
  · exact ht

@[simp] theorem State.raise_hsp (s : State) (d p evt : Nat) : (s.raise d p evt).hsp = s.hsp := by
  unfold State.raise
  extract_lets en t
  split
  · split
    · exact Eq.refl _
    · exact State.setEvent_hsp ..
  · split
    · exact State.present1_hsp ..
    · split
      · exact (State.sourceEvent_hsp ..).trans (State.setEvent_hsp ..)
      · exact State.setEvent_hsp ..

theorem State.icuAdd_htw (s : State) (src n : Nat) : (s.icuAdd src n).1.htw = s.htw := by
  simp only [State.icuAdd]
  split
  · rfl
  · split <;> simp only [State.set_htw]

theorem State.icuCount_htw (s : State) (src n : Nat) : (s.icuCount src n).htw = s.htw := by
  simp only [State.icuCount]
  split
  · split <;> simp only [State.icuAdd_htw, State.setReg_htw]
  · exact State.icuAdd_htw ..

@[simp] theorem State.sourceEvent_htw (s : State) (src n : Nat) : (s.sourceEvent src n).htw = s.htw := by
  unfold State.sourceEvent
  split
  · exact State.icuCount_htw ..
  · exact Eq.refl _

@[simp] theorem State.present1_htw (s : State) (d p evt : Nat) : (s.present1 d p evt).htw = s.htw := by
  unfold State.present1
  extract_lets t
  have ht : t.htw = s.htw := (State.icuCount_htw ..).trans (State.setEvent_htw ..)
  split
  · exact (State.set_htw ..).trans ht
  · exact ht

@[simp] theorem State.raise_htw (s : State) (d p evt : Nat) : (s.raise d p evt).htw = s.htw := by
  unfold State.raise
  extract_lets en t
  split
  · split
    · exact Eq.refl _
    · exact State.setEvent_htw ..
  · split
    · exact State.present1_htw ..
    · split
      · exact (State.sourceEvent_htw ..).trans (State.setEvent_htw ..)
      · exact State.setEvent_htw ..

theorem State.icuAdd_load (s : State) (src n : Nat) : (s.icuAdd src n).1.load = s.load := by
  simp only [State.icuAdd]
  split
  · rfl
  · split <;> simp only [State.set_load]

theorem State.icuCount_load (s : State) (src n : Nat) : (s.icuCount src n).load = s.load := by
  simp only [State.icuCount]
  split
  · split <;> simp only [State.icuAdd_load, State.setReg_load]
  · exact State.icuAdd_load ..

@[simp] theorem State.sourceEvent_load (s : State) (src n : Nat) : (s.sourceEvent src n).load = s.load := by
  unfold State.sourceEvent
  split
  · exact State.icuCount_load ..
  · exact Eq.refl _

@[simp] theorem State.present1_load (s : State) (d p evt : Nat) : (s.present1 d p evt).load = s.load := by
  unfold State.present1
  extract_lets t
  have ht : t.load = s.load := (State.icuCount_load ..).trans (State.setEvent_load ..)
  split
  · exact (State.set_load ..).trans ht
  · exact ht

@[simp] theorem State.raise_load (s : State) (d p evt : Nat) : (s.raise d p evt).load = s.load := by
  unfold State.raise
  extract_lets en t
  split
  · split
    · exact Eq.refl _
    · exact State.setEvent_load ..
  · split
    · exact State.present1_load ..
    · split
      · exact (State.sourceEvent_load ..).trans (State.setEvent_load ..)
      · exact State.setEvent_load ..

theorem State.icuAdd_testFrom (s : State) (src n : Nat) : (s.icuAdd src n).1.testFrom = s.testFrom := by
  simp only [State.icuAdd]
  split
  · rfl
  · split <;> simp only [State.set_testFrom]

theorem State.icuCount_testFrom (s : State) (src n : Nat) : (s.icuCount src n).testFrom = s.testFrom := by
  simp only [State.icuCount]
  split
  · split <;> simp only [State.icuAdd_testFrom, State.setReg_testFrom]
  · exact State.icuAdd_testFrom ..

@[simp] theorem State.sourceEvent_testFrom (s : State) (src n : Nat) : (s.sourceEvent src n).testFrom = s.testFrom := by
  unfold State.sourceEvent
  split
  · exact State.icuCount_testFrom ..
  · exact Eq.refl _

@[simp] theorem State.present1_testFrom (s : State) (d p evt : Nat) : (s.present1 d p evt).testFrom = s.testFrom := by
  unfold State.present1
  extract_lets t
  have ht : t.testFrom = s.testFrom := (State.icuCount_testFrom ..).trans (State.setEvent_testFrom ..)
  split
  · exact (State.set_testFrom ..).trans ht
  · exact ht

@[simp] theorem State.raise_testFrom (s : State) (d p evt : Nat) : (s.raise d p evt).testFrom = s.testFrom := by
  unfold State.raise
  extract_lets en t
  split
  · split
    · exact Eq.refl _
    · exact State.setEvent_testFrom ..
  · split
    · exact State.present1_testFrom ..
    · split
      · exact (State.sourceEvent_testFrom ..).trans (State.setEvent_testFrom ..)
      · exact State.setEvent_testFrom ..

theorem State.icuAdd_commitPorts (s : State) (src n : Nat) : (s.icuAdd src n).1.commitPorts = s.commitPorts := by
  simp only [State.icuAdd]
  split
  · rfl
  · split <;> simp only [State.set_commitPorts]

theorem State.icuCount_commitPorts (s : State) (src n : Nat) : (s.icuCount src n).commitPorts = s.commitPorts := by
  simp only [State.icuCount]
  split
  · split <;> simp only [State.icuAdd_commitPorts, State.setReg_commitPorts]
  · exact State.icuAdd_commitPorts ..

@[simp] theorem State.sourceEvent_commitPorts (s : State) (src n : Nat) : (s.sourceEvent src n).commitPorts = s.commitPorts := by
  unfold State.sourceEvent
  split
  · exact State.icuCount_commitPorts ..
  · exact Eq.refl _

@[simp] theorem State.present1_commitPorts (s : State) (d p evt : Nat) : (s.present1 d p evt).commitPorts = s.commitPorts := by
  unfold State.present1
  extract_lets t
  have ht : t.commitPorts = s.commitPorts := (State.icuCount_commitPorts ..).trans (State.setEvent_commitPorts ..)
  split
  · exact (State.set_commitPorts ..).trans ht
  · exact ht

@[simp] theorem State.raise_commitPorts (s : State) (d p evt : Nat) : (s.raise d p evt).commitPorts = s.commitPorts := by
  unfold State.raise
  extract_lets en t
  split
  · split
    · exact Eq.refl _
    · exact State.setEvent_commitPorts ..
  · split
    · exact State.present1_commitPorts ..
    · split
      · exact (State.sourceEvent_commitPorts ..).trans (State.setEvent_commitPorts ..)
      · exact State.setEvent_commitPorts ..

theorem State.icuAdd_free (s : State) (src n : Nat) : (s.icuAdd src n).1.free = s.free := by
  simp only [State.icuAdd]
  split
  · rfl
  · split <;> simp only [State.set_free]

theorem State.icuCount_free (s : State) (src n : Nat) : (s.icuCount src n).free = s.free := by
  simp only [State.icuCount]
  split
  · split <;> simp only [State.icuAdd_free, State.setReg_free]
  · exact State.icuAdd_free ..

@[simp] theorem State.sourceEvent_free (s : State) (src n : Nat) : (s.sourceEvent src n).free = s.free := by
  unfold State.sourceEvent
  split
  · exact State.icuCount_free ..
  · exact Eq.refl _

@[simp] theorem State.present1_free (s : State) (d p evt : Nat) : (s.present1 d p evt).free = s.free := by
  unfold State.present1
  extract_lets t
  have ht : t.free = s.free := (State.icuCount_free ..).trans (State.setEvent_free ..)
  split
  · exact (State.set_free ..).trans ht
  · exact ht

@[simp] theorem State.raise_free (s : State) (d p evt : Nat) : (s.raise d p evt).free = s.free := by
  unfold State.raise
  extract_lets en t
  split
  · split
    · exact Eq.refl _
    · exact State.setEvent_free ..
  · split
    · exact State.present1_free ..
    · split
      · exact (State.sourceEvent_free ..).trans (State.setEvent_free ..)
      · exact State.setEvent_free ..

theorem State.icuAdd_pending (s : State) (src n : Nat) : (s.icuAdd src n).1.pending = s.pending := by
  simp only [State.icuAdd]
  split
  · rfl
  · split <;> simp only [State.set_pending]

theorem State.icuCount_pending (s : State) (src n : Nat) : (s.icuCount src n).pending = s.pending := by
  simp only [State.icuCount]
  split
  · split <;> simp only [State.icuAdd_pending, State.setReg_pending]
  · exact State.icuAdd_pending ..

@[simp] theorem State.sourceEvent_pending (s : State) (src n : Nat) : (s.sourceEvent src n).pending = s.pending := by
  unfold State.sourceEvent
  split
  · exact State.icuCount_pending ..
  · exact Eq.refl _

@[simp] theorem State.present1_pending (s : State) (d p evt : Nat) : (s.present1 d p evt).pending = s.pending := by
  unfold State.present1
  extract_lets t
  have ht : t.pending = s.pending := (State.icuCount_pending ..).trans (State.setEvent_pending ..)
  split
  · exact (State.set_pending ..).trans ht
  · exact ht

@[simp] theorem State.raise_pending (s : State) (d p evt : Nat) : (s.raise d p evt).pending = s.pending := by
  unfold State.raise
  extract_lets en t
  split
  · split
    · exact Eq.refl _
    · exact State.setEvent_pending ..
  · split
    · exact State.present1_pending ..
    · split
      · exact (State.sourceEvent_pending ..).trans (State.setEvent_pending ..)
      · exact State.setEvent_pending ..

end Sys2Proof.Machine
end

