-- ==== Sys2Proof/Laws/Access.lean ====
section
/-! SUPPORT. The laws of the guards and of the keyed stores: what a host write, an access to a page and a guarded command
come to when their conditions hold, and reading a die, slice, seam, list or target after it is replaced. -/

namespace Sys2Proof.Machine

theorem State.when_true {s : State} {c : Bool} (f : State → State) (h : c = true) : s.when c f = f s := by
  simp [State.when, h]

theorem State.when_false {s : State} {c : Bool} (f : State → State) (h : c = false) : s.when c f = s := by
  simp [State.when, h]

/-- R90: a host write to a page that is not locked. -/
theorem State.hostWrite_open {s : State} {d p : Nat} (f : State → State) (h1 : s.awake = true)
    (h2 : s.flag d (F.PG_LOCK p) = false) : s.hostWrite d p f = f s := by
  simp [State.hostWrite, h1, h2]

theorem State.hostWrite_locked {s : State} {d p : Nat} (f : State → State) (h1 : s.awake = true)
    (h2 : s.flag d (F.PG_LOCK p) = true) : s.hostWrite d p f = s.err d p 1 := by
  simp [State.hostWrite, h1, h2]

@[simp] theorem State.touchDie_zero (s : State) : s.touchDie 0 = s := by simp [State.touchDie, State.fieldDie]

/-- R84: an access to a die whose logic runs leaves it as it is. -/
theorem State.touchDie_powered {s : State} {d : Nat} (h : 1 ≤ s.pstate d) : s.touchDie d = s := by
  unfold State.touchDie
  rw [if_neg]
  simp only [Bool.and_eq_true, beq_iff_eq, not_and]
  omega

/-- An access to a page of the anchor, or of a powered die in service. -/
theorem State.pageAccess_open {s : State} {d p : Nat} (f : State → State) (h1 : s.awake = true)
    (h2 : RegTable.implemented d p = true) (h3 : d = 0 ∨ s.inService d = true ∧ 1 ≤ s.pstate d) :
    s.pageAccess d p f = f s := by
  unfold State.pageAccess
  rcases h3 with rfl | ⟨h3, h4⟩
  · simp [h1, h2]
  · simp [h1, h2, h3, State.touchDie_powered h4]

@[simp] theorem State.die_setDie (s : State) (d : Nat) (x : Die) : (s.setDie d x).die d = x := by
  simp [State.die, State.setDie]

@[simp] theorem State.seam_setSeam (s : State) (n : Nat) (x : Seam) : (s.setSeam n x).seam n = x := by
  simp [State.seam, State.setSeam]

@[simp] theorem State.slice_setSlice (s : State) (d n : Nat) (x : Slice) : (s.setSlice d n x).slice d n = x := by
  simp [State.slice, State.setSlice]

@[simp] theorem State.exch_setExch (s : State) (d p : Nat) (e : Exch) : (s.setExch d p e).exch d p = some e := by
  simp [State.exch, State.setExch]

@[simp] theorem State.watchOf_setWatch (s : State) (d p : Nat) (w : Watch) : (s.setWatch d p w).watchOf d p = w := by
  simp [State.watchOf, State.setWatch]

@[simp] theorem State.cls_setCls (s : State) (c : Nat) (k : HClass) : (s.setCls c k).cls c = k := by
  simp [State.cls, State.setCls]

@[simp] theorem State.pleList_setList (s : State) (n : Nat) (l : PleList) : (s.setList n l).pleList n = l := by
  simp [State.pleList, State.setList]

@[simp] theorem State.calTarget_setCalTarget (s : State) (k : Nat) (c : CalTarget) :
    (s.setCalTarget k c).calTarget k = c := by
  simp [State.calTarget, State.setCalTarget]

@[simp] theorem State.testUnit_setTest (s : State) (k : Nat) (t : TestUnit) : (s.setTest k t).testUnit k = t := by
  simp [State.testUnit, State.setTest]

@[simp] theorem State.ticket_setTicket (s : State) (i : Nat) (t : Ticket) : (s.setTicket i t).ticket i = t := by
  simp [State.ticket, State.setTicket]

@[simp] theorem State.seam_seamCount (s : State) (n m : Nat) (f : Fld) : (s.seamCount n f).seam m = s.seam m := by
  unfold State.seamCount
  dsimp only
  split <;> rfl

/-- R122, R151: a frame of at least eight clocks in a device that is on; `always` or READY. -/
theorem State.hspFrame_body {s : State} {m : Bool} {n : Nat} {always : Bool} (body : State → State)
    (h1 : s.device ≠ .off) (h2 : s.device ≠ .reset) (h3 : 8 ≤ n) (h4 : always = true ∨ (s.frameShift m n).ready = true) :
    s.hspFrame m n always body = body (s.frameShift m n) := by
  unfold State.hspFrame
  rw [if_neg (by simp [h1, h2]), if_neg (by omega)]
  dsimp only
  rw [if_neg (by omega), if_neg (by rcases h4 with h4 | h4 <;> simp [h4])]

theorem State.hspFrame_short {s : State} {m : Bool} {n : Nat} {always : Bool} (body : State → State)
    (h1 : s.device ≠ .off) (h2 : s.device ≠ .reset) (h3 : 0 < n) (h4 : n < 8) :
    s.hspFrame m n always body = (s.frameShift m n).frameEnd 0x0103 := by
  unfold State.hspFrame
  rw [if_neg (by simp [h1, h2]), if_neg (by omega)]
  dsimp only
  rw [if_pos h4]

theorem State.hspFrame_early {s : State} {m : Bool} {n : Nat} (body : State → State)
    (h1 : s.device ≠ .off) (h2 : s.device ≠ .reset) (h3 : 8 ≤ n) (h4 : (s.frameShift m n).ready = false) :
    s.hspFrame m n false body = (s.frameShift m n).frameEnd 0x0101 := by
  unfold State.hspFrame
  rw [if_neg (by simp [h1, h2]), if_neg (by omega)]
  dsimp only
  rw [if_neg (by omega), if_pos (by simp [h4])]

end Sys2Proof.Machine
end

