-- ==== Sys2Proof/Laws/Kept.lean ====
section
/-! SUPPORT. What almost every operation leaves alone: the part, the queue, EPOCH, the one-time block and the device state. The files Laws/Kept….lean prove it for each operation of the machine. -/

namespace Sys2Proof.Machine

/-- What almost every operation leaves alone. -/
def State.kept (s : State) : Part × List Instr × Bool × Bool × List Word × Bool × Device × Bool :=
  (s.part, s.pending, s.epoch, s.nv.lockDone, s.nv.lockWords, s.nv.debugLock, s.device, s.ready)

@[simp] theorem kept_fold (s : State) :
    (s.part, s.pending, s.epoch, s.nv.lockDone, s.nv.lockWords, s.nv.debugLock, s.device, s.ready) = s.kept := by
  unfold State.kept; exact Eq.refl _

@[simp] theorem kept_mk (x0 x1 x2 x3 x4 x5 x6 x7 x8 x9 x10 x11 x12 x13 x14 x15 x16 x17 x18 x19 x20 x21 x22 x23 x24 x25 x26 x27 x28 x29
      x30 x31 x32 x33 x34 x35 x36 x37 x38 x39 x40 x41 x42 x43) :
    (State.mk x0 x1 x2 x3 x4 x5 x6 x7 x8 x9 x10 x11 x12 x13 x14 x15 x16 x17 x18 x19 x20 x21 x22 x23 x24 x25 x26 x27 x28 x29
      x30 x31 x32 x33 x34 x35 x36 x37 x38 x39 x40 x41 x42 x43).kept =
      (x0, x43, x4, x28.lockDone, x28.lockWords, x28.debugLock, x1, x2) := by
  unfold State.kept; exact Eq.refl _

/-- What is kept keeps the one-time block. -/
theorem locks_of_kept {s t : State} (h : t.kept = s.kept) :
    t.nv.lockDone = s.nv.lockDone ∧ t.nv.lockWords = s.nv.lockWords ∧ t.nv.debugLock = s.nv.debugLock := by
  simp only [State.kept, Prod.mk.injEq] at h
  exact ⟨h.2.2.2.1, h.2.2.2.2.1, h.2.2.2.2.2.1⟩

@[simp] theorem kept_ite (c : Prop) [Decidable c] (a b : State) :
    (if c then a else b).kept = if c then a.kept else b.kept := apply_ite ..

@[simp] theorem kept_elim {α : Type} (o : Option α) (s : State) (f : α → State) (h : ∀ x, (f x).kept = s.kept) :
    (o.elim s f).kept = s.kept := by
  cases o
  · rfl
  · exact h _

@[simp] theorem kept_foldl {α : Type} (f : State → α → State) (h : ∀ s x, (f s x).kept = s.kept) (l : List α) (s : State) :
    (l.foldl f s).kept = s.kept := by
  induction l generalizing s with
  | nil => rfl
  | cons x l ih => rw [List.foldl_cons, ih, h]

@[simp] theorem kept_foldl_fst {α β : Type} (f : State × β → α → State × β) (h : ∀ s x, (f s x).1.kept = s.1.kept) (l : List α)
    (s : State × β) : (l.foldl f s).1.kept = s.1.kept := by
  induction l generalizing s with
  | nil => rfl
  | cons x l ih => rw [List.foldl_cons, ih, h]

end Sys2Proof.Machine
end

