-- ==== Sys2Proof/Laws/KeptOps.lean ====
section
/-! SUPPORT. What the operations of Machine/Ops.lean leave alone. -/

namespace Sys2Proof.Machine

@[simp] theorem State.fresh_kept (s : State) : (State.fresh s).1.kept = s.kept := by
  simp only [State.fresh]
  repeat' split
  all_goals simp (disch := first | (intros; (repeat' split) <;> simp; done) | fail) [-List.foldl_cons, -List.foldl_nil]

@[simp] theorem State.setReg_kept (s : State) (die page off : Nat) (v : Word) : (State.setReg s die page off v).kept = s.kept := by
  simp only [State.setReg]
  repeat' split
  all_goals simp (disch := first | (intros; (repeat' split) <;> simp; done) | fail) [-List.foldl_cons, -List.foldl_nil]

@[simp] theorem State.set_kept (s : State) (die : Nat) (f : Fld) (v : Nat) : (State.set s die f v).kept = s.kept := by
  simp only [State.set]
  repeat' split
  all_goals simp (disch := first | (intros; (repeat' split) <;> simp; done) | fail) [-List.foldl_cons, -List.foldl_nil]

@[simp] theorem State.countUp_kept (s : State) (die : Nat) (cnt ovf : Fld) (n : Nat) : (State.countUp s die cnt ovf n).kept = s.kept := by
  simp only [State.countUp]
  repeat' split
  all_goals simp (disch := first | (intros; (repeat' split) <;> simp; done) | fail) [-List.foldl_cons, -List.foldl_nil]

@[simp] theorem State.icuAdd_kept (s : State) (src n : Nat) : (State.icuAdd s src n).1.kept = s.kept := by
  simp only [State.icuAdd]
  repeat' split
  all_goals simp (disch := first | (intros; (repeat' split) <;> simp; done) | fail) [-List.foldl_cons, -List.foldl_nil]

@[simp] theorem State.icuCount_kept (s : State) (src n : Nat) : (State.icuCount s src n).kept = s.kept := by
  simp only [State.icuCount]
  repeat' split
  all_goals simp (disch := first | (intros; (repeat' split) <;> simp; done) | fail) [-List.foldl_cons, -List.foldl_nil]

@[simp] theorem State.sourceEvent_kept (s : State) (src n : Nat) : (State.sourceEvent s src n).kept = s.kept := by
  simp only [State.sourceEvent]
  repeat' split
  all_goals simp (disch := first | (intros; (repeat' split) <;> simp; done) | fail) [-List.foldl_cons, -List.foldl_nil]

@[simp] theorem State.setEvent_kept (s : State) (die page evt : Nat) : (State.setEvent s die page evt).kept = s.kept := by
  simp only [State.setEvent]
  repeat' split
  all_goals simp (disch := first | (intros; (repeat' split) <;> simp; done) | fail) [-List.foldl_cons, -List.foldl_nil]

@[simp] theorem State.present1_kept (s : State) (die page evt : Nat) : (State.present1 s die page evt).kept = s.kept := by
  simp only [State.present1]
  repeat' split
  all_goals simp (disch := first | (intros; (repeat' split) <;> simp; done) | fail) [-List.foldl_cons, -List.foldl_nil]

@[simp] theorem State.raise_kept (s : State) (die page evt : Nat) : (State.raise s die page evt).kept = s.kept := by
  simp only [State.raise]
  repeat' split
  all_goals simp (disch := first | (intros; (repeat' split) <;> simp; done) | fail) [-List.foldl_cons, -List.foldl_nil]

@[simp] theorem State.err_kept (s : State) (die page code : Nat) : (State.err s die page code).kept = s.kept := by
  simp only [State.err]
  repeat' split
  all_goals simp (disch := first | (intros; (repeat' split) <;> simp; done) | fail) [-List.foldl_cons, -List.foldl_nil]

@[simp] theorem State.setBit_kept (s : State) (die : Nat) (f : Fld) (i : Nat) (v : Bool) : (State.setBit s die f i v).kept = s.kept := by
  simp only [State.setBit]
  repeat' split
  all_goals simp (disch := first | (intros; (repeat' split) <;> simp; done) | fail) [-List.foldl_cons, -List.foldl_nil]

@[simp] theorem State.setPage_kept (s : State) (die page st : Nat) : (State.setPage s die page st).kept = s.kept := by
  simp only [State.setPage]
  repeat' split
  all_goals simp (disch := first | (intros; (repeat' split) <;> simp; done) | fail) [-List.foldl_cons, -List.foldl_nil]

@[simp] theorem State.setDie_kept (s : State) (d : Nat) (x : Die) : (State.setDie s d x).kept = s.kept := by
  simp only [State.setDie]
  repeat' split
  all_goals simp (disch := first | (intros; (repeat' split) <;> simp; done) | fail) [-List.foldl_cons, -List.foldl_nil]

@[simp] theorem State.setSlice_kept (s : State) (d sl : Nat) (x : Slice) : (State.setSlice s d sl x).kept = s.kept := by
  simp only [State.setSlice]
  repeat' split
  all_goals simp (disch := first | (intros; (repeat' split) <;> simp; done) | fail) [-List.foldl_cons, -List.foldl_nil]

@[simp] theorem State.setExch_kept (s : State) (d p : Nat) (e : Exch) : (State.setExch s d p e).kept = s.kept := by
  simp only [State.setExch]
  repeat' split
  all_goals simp (disch := first | (intros; (repeat' split) <;> simp; done) | fail) [-List.foldl_cons, -List.foldl_nil]

@[simp] theorem State.dropExch_kept (s : State) (d p : Nat) : (State.dropExch s d p).kept = s.kept := by
  simp only [State.dropExch]
  repeat' split
  all_goals simp (disch := first | (intros; (repeat' split) <;> simp; done) | fail) [-List.foldl_cons, -List.foldl_nil]

@[simp] theorem State.setWatch_kept (s : State) (d p : Nat) (w : Watch) : (State.setWatch s d p w).kept = s.kept := by
  simp only [State.setWatch]
  repeat' split
  all_goals simp (disch := first | (intros; (repeat' split) <;> simp; done) | fail) [-List.foldl_cons, -List.foldl_nil]

@[simp] theorem State.setMemWord_kept (s : State) (a : Nat) (w : Word) : (State.setMemWord s a w).kept = s.kept := by
  simp only [State.setMemWord]
  repeat' split
  all_goals simp (disch := first | (intros; (repeat' split) <;> simp; done) | fail) [-List.foldl_cons, -List.foldl_nil]

@[simp] theorem State.advance_kept (s : State) (n : Nat) : (State.advance s n).kept = s.kept := by
  simp only [State.advance]
  repeat' split
  all_goals simp (disch := first | (intros; (repeat' split) <;> simp; done) | fail) [-List.foldl_cons, -List.foldl_nil]

@[simp] theorem State.writeRo_kept (s : State) (die page off : Nat) (v : Word) : (State.writeRo s die page off v).kept = s.kept := by
  simp only [State.writeRo]
  repeat' split
  all_goals simp (disch := first | (intros; (repeat' split) <;> simp; done) | fail) [-List.foldl_cons, -List.foldl_nil]

end Sys2Proof.Machine
end

