-- ==== Sys2Proof/Laws/KeptTrigger.lean ====
section
/-! SUPPORT. What the operations of Machine/Trigger.lean leave alone. -/

namespace Sys2Proof.Machine

@[simp] theorem State.setList_kept (s : State) (n : Nat) (l : PleList) : (State.setList s n l).kept = s.kept := by
  simp only [State.setList]
  repeat' split
  all_goals simp (disch := first | (intros; (repeat' split) <;> simp; done) | fail) [-List.foldl_cons, -List.foldl_nil]

@[simp] theorem State.pleMissed_kept (s : State) (n : Nat) : (State.pleMissed s n).kept = s.kept := by
  simp only [State.pleMissed]
  repeat' split
  all_goals simp (disch := first | (intros; (repeat' split) <;> simp; done) | fail) [-List.foldl_cons, -List.foldl_nil]

@[simp] theorem State.pleStart_kept (s : State) (n instant : Nat) (arg : Word) : (State.pleStart s n instant arg).kept = s.kept := by
  simp only [State.pleStart]
  repeat' split
  all_goals simp (disch := first | (intros; (repeat' split) <;> simp; done) | fail) [-List.foldl_cons, -List.foldl_nil]

@[simp] theorem State.pleMiss_kept (s : State) (n : Nat) : (State.pleMiss s n).kept = s.kept := by
  simp only [State.pleMiss]
  repeat' split
  all_goals simp (disch := first | (intros; (repeat' split) <;> simp; done) | fail) [-List.foldl_cons, -List.foldl_nil]

@[simp] theorem State.pleTrigger_kept (s : State) (n instant : Nat) (arg : Word) : (State.pleTrigger s n instant arg).kept = s.kept := by
  simp only [State.pleTrigger]
  repeat' split
  all_goals simp (disch := first | (intros; (repeat' split) <;> simp; done) | fail) [-List.foldl_cons, -List.foldl_nil]

@[simp] theorem State.pleNext_kept (s : State) (n : Nat) : (State.pleNext s n).kept = s.kept := by
  simp only [State.pleNext]
  repeat' split
  all_goals simp (disch := first | (intros; (repeat' split) <;> simp; done) | fail) [-List.foldl_cons, -List.foldl_nil]

@[simp] theorem State.pleCause_kept (s : State) (e : PleCause) : (State.pleCause s e).kept = s.kept := by
  simp only [State.pleCause]
  repeat' split
  all_goals simp (disch := first | (intros; (repeat' split) <;> simp; done) | fail) [-List.foldl_cons, -List.foldl_nil]

@[simp] theorem State.listStart_kept (s : State) (n instant : Nat) (arg : Word) : (State.listStart s n instant arg).kept = s.kept := by
  simp only [State.listStart]
  repeat' split
  all_goals simp (disch := first | (intros; (repeat' split) <;> simp; done) | fail) [-List.foldl_cons, -List.foldl_nil]

@[simp] theorem State.ticketTrigger_kept (s : State) (event port index instant : Nat) : (State.ticketTrigger s event port index instant).kept = s.kept := by
  simp only [State.ticketTrigger]
  repeat' split
  all_goals simp (disch := first | (intros; (repeat' split) <;> simp; done) | fail) [-List.foldl_cons, -List.foldl_nil]

@[simp] theorem State.comparatorTrigger_kept (s : State) (k edge instant : Nat) : (State.comparatorTrigger s k edge instant).kept = s.kept := by
  simp only [State.comparatorTrigger]
  repeat' split
  all_goals simp (disch := first | (intros; (repeat' split) <;> simp; done) | fail) [-List.foldl_cons, -List.foldl_nil]

@[simp] theorem State.listTrigger_kept (s : State) (src instant : Nat) : (State.listTrigger s src instant).kept = s.kept := by
  simp only [State.listTrigger]
  repeat' split
  all_goals simp (disch := first | (intros; (repeat' split) <;> simp; done) | fail) [-List.foldl_cons, -List.foldl_nil]

@[simp] theorem State.triggerLate_kept (s : State) (n : Nat) : (State.triggerLate s n).kept = s.kept := by
  simp only [State.triggerLate]
  repeat' split
  all_goals simp (disch := first | (intros; (repeat' split) <;> simp; done) | fail) [-List.foldl_cons, -List.foldl_nil]

@[simp] theorem State.triggerUndo_kept (s : State) (n : Nat) : (State.triggerUndo s n).kept = s.kept := by
  simp only [State.triggerUndo]
  repeat' split
  all_goals simp (disch := first | (intros; (repeat' split) <;> simp; done) | fail) [-List.foldl_cons, -List.foldl_nil]

end Sys2Proof.Machine
end

