-- ==== Sys2Proof/Laws/KeptHamper.lean ====
section
/-! SUPPORT. What the operations of Machine/Hamper.lean leave alone. -/

namespace Sys2Proof.Machine

@[simp] theorem State.setCls_kept (s : State) (c : Nat) (k : HClass) : (State.setCls s c k).kept = s.kept := by
  simp only [State.setCls]
  repeat' split
  all_goals simp (disch := first | (intros; (repeat' split) <;> simp; done) | fail) [-List.foldl_cons, -List.foldl_nil]

@[simp] theorem State.countEligible_kept (s : State) (c : Nat) : (State.countEligible s c).kept = s.kept := by
  simp only [State.countEligible]
  repeat' split
  all_goals simp (disch := first | (intros; (repeat' split) <;> simp; done) | fail) [-List.foldl_cons, -List.foldl_nil]

@[simp] theorem State.flowUpdate_kept (s : State) : (State.flowUpdate s).kept = s.kept := by
  simp only [State.flowUpdate]
  repeat' split
  all_goals simp (disch := first | (intros; (repeat' split) <;> simp; done) | fail) [-List.foldl_cons, -List.foldl_nil]

@[simp] theorem State.urgentUpdate_kept (s : State) : (State.urgentUpdate s).kept = s.kept := by
  simp only [State.urgentUpdate]
  repeat' split
  all_goals simp (disch := first | (intros; (repeat' split) <;> simp; done) | fail) [-List.foldl_cons, -List.foldl_nil]

@[simp] theorem State.hamperAfter_kept (s : State) : (State.hamperAfter s).kept = s.kept := by
  simp only [State.hamperAfter]
  repeat' split
  all_goals simp (disch := first | (intros; (repeat' split) <;> simp; done) | fail) [-List.foldl_cons, -List.foldl_nil]

@[simp] theorem State.reserve_kept (s : State) (c n : Nat) : (State.reserve s c n).kept = s.kept := by
  simp only [State.reserve]
  repeat' split
  all_goals simp (disch := first | (intros; (repeat' split) <;> simp; done) | fail) [-List.foldl_cons, -List.foldl_nil]

@[simp] theorem State.unreserve_kept (s : State) (c n : Nat) : (State.unreserve s c n).kept = s.kept := by
  simp only [State.unreserve]
  repeat' split
  all_goals simp (disch := first | (intros; (repeat' split) <;> simp; done) | fail) [-List.foldl_cons, -List.foldl_nil]

@[simp] theorem State.oversize_kept (s : State) (c n : Nat) : (State.oversize s c n).kept = s.kept := by
  simp only [State.oversize]
  repeat' split
  all_goals simp (disch := first | (intros; (repeat' split) <;> simp; done) | fail) [-List.foldl_cons, -List.foldl_nil]

@[simp] theorem State.saveTo_kept (s : State) (n : Nat) : (State.saveTo s n).kept = s.kept := by
  simp only [State.saveTo]
  repeat' split
  all_goals simp (disch := first | (intros; (repeat' split) <;> simp; done) | fail) [-List.foldl_cons, -List.foldl_nil]

@[simp] theorem State.saveStep_kept (s : State) : (State.saveStep s).kept = s.kept := by
  simp only [State.saveStep]
  repeat' split
  all_goals simp (disch := first | (intros; (repeat' split) <;> simp; done) | fail) [-List.foldl_cons, -List.foldl_nil]

@[simp] theorem State.departed_kept (s : State) (t : Nat) : (State.departed s t).kept = s.kept := by
  simp only [State.departed]
  repeat' split
  all_goals simp (disch := first | (intros; (repeat' split) <;> simp; done) | fail) [-List.foldl_cons, -List.foldl_nil]

@[simp] theorem State.noteDone_kept (s : State) (n : Note) (ws : List Word) : (State.noteDone s n ws).kept = s.kept := by
  simp only [State.noteDone]
  repeat' split
  all_goals simp (disch := first | (intros; (repeat' split) <;> simp; done) | fail) [-List.foldl_cons, -List.foldl_nil]

@[simp] theorem State.writeRecord_kept (s : State) (c : Nat) (r : PendRec) : (State.writeRecord s c r).kept = s.kept := by
  simp only [State.writeRecord]
  repeat' split
  all_goals simp (disch := first | (intros; (repeat' split) <;> simp; done) | fail) [-List.foldl_cons, -List.foldl_nil]

@[simp] theorem State.flushWaiting_kept (s : State) (c : Nat) : (State.flushWaiting s c).kept = s.kept := by
  simp only [State.flushWaiting]
  repeat' split
  all_goals simp (disch := first | (intros; (repeat' split) <;> simp; done) | fail) [-List.foldl_cons, -List.foldl_nil]

@[simp] theorem State.changeTrigger_kept (s : State) (r : OutRec) : (State.changeTrigger s r).kept = s.kept := by
  simp only [State.changeTrigger]
  repeat' split
  all_goals simp (disch := first | (intros; (repeat' split) <;> simp; done) | fail) [-List.foldl_cons, -List.foldl_nil]

@[simp] theorem State.drainDie_kept (d : Nat) : ∀ (n : Nat) (s : State), (State.drainDie d n s).kept = s.kept
  | 0, s => by simp [State.drainDie]
  | n + 1, s => by
    simp only [State.drainDie]
    repeat' split
    all_goals simp [State.drainDie_kept d n]

@[simp] theorem State.drainDies_kept (s : State) : (State.drainDies s).kept = s.kept := by
  simp only [State.drainDies]
  repeat' split
  all_goals simp (disch := first | (intros; (repeat' split) <;> simp; done) | fail) [-List.foldl_cons, -List.foldl_nil]

@[simp] theorem State.arrive_kept (s : State) (d : Nat) : (State.arrive s d).kept = s.kept := by
  simp only [State.arrive]
  repeat' split
  all_goals simp (disch := first | (intros; (repeat' split) <;> simp; done) | fail) [-List.foldl_cons, -List.foldl_nil]

@[simp] theorem State.sendRecord_kept (s : State) (d : Nat) (r : OutRec) : (State.sendRecord s d r).kept = s.kept := by
  simp only [State.sendRecord]
  repeat' split
  all_goals simp (disch := first | (intros; (repeat' split) <;> simp; done) | fail) [-List.foldl_cons, -List.foldl_nil]

@[simp] theorem State.queueFault_kept (s : State) (code die : Nat) (d0 d1 : Word) : (State.queueFault s code die d0 d1).kept = s.kept := by
  simp only [State.queueFault]
  repeat' split
  all_goals simp (disch := first | (intros; (repeat' split) <;> simp; done) | fail) [-List.foldl_cons, -List.foldl_nil]

@[simp] theorem State.queueSys_kept (s : State) (r : SysRec) : (State.queueSys s r).kept = s.kept := by
  simp only [State.queueSys]
  repeat' split
  all_goals simp (disch := first | (intros; (repeat' split) <;> simp; done) | fail) [-List.foldl_cons, -List.foldl_nil]

@[simp] theorem State.serveSys_kept : ∀ (n : Nat) (s : State), (State.serveSys n s).kept = s.kept
  | 0, s => by simp [State.serveSys]
  | n + 1, s => by
    simp only [State.serveSys]
    repeat' split
    all_goals simp [State.serveSys_kept n]

@[simp] theorem execSystemRecordWrite_kept (s : State) : (s.run execSystemRecordWrite).kept = s.kept := by
  simp only [State.run, execSystemRecordWrite]
  repeat' split
  all_goals simp (disch := first | (intros; (repeat' split) <;> simp; done) | fail) [-List.foldl_cons, -List.foldl_nil]

@[simp] theorem execHmpMark_kept (value : Word) (s : State) : (s.run (execHmpMark value)).kept = s.kept := by
  simp only [State.run, execHmpMark, State.hostWrite]
  repeat' split
  all_goals simp (disch := first | (intros; (repeat' split) <;> simp; done) | fail) [-List.foldl_cons, -List.foldl_nil]

@[simp] theorem execCreditMismatch_kept (c found : Nat) (s : State) : (s.run (execCreditMismatch c found)).kept = s.kept := by
  simp only [State.run, execCreditMismatch, State.when]
  repeat' split
  all_goals simp (disch := first | (intros; (repeat' split) <;> simp; done) | fail) [-List.foldl_cons, -List.foldl_nil]

@[simp] theorem State.cutRecords_kept (s : State) (d : Nat) : (State.cutRecords s d).kept = s.kept := by
  simp only [State.cutRecords]
  repeat' split
  all_goals simp (disch := first | (intros; (repeat' split) <;> simp; done) | fail) [-List.foldl_cons, -List.foldl_nil]

@[simp] theorem State.discardBank_kept (s : State) (bank : Nat) : (State.discardBank s bank).kept = s.kept := by
  simp only [State.discardBank]
  repeat' split
  all_goals simp (disch := first | (intros; (repeat' split) <;> simp; done) | fail) [-List.foldl_cons, -List.foldl_nil]

@[simp] theorem State.emptyClasses_kept (s : State) : (State.emptyClasses s).kept = s.kept := by
  simp only [State.emptyClasses]
  repeat' split
  all_goals simp (disch := first | (intros; (repeat' split) <;> simp; done) | fail) [-List.foldl_cons, -List.foldl_nil]

end Sys2Proof.Machine
end

