-- ==== Sys2Proof/Laws/KeptTickets.lean ====
section
/-! SUPPORT. What the operations of Machine/Tickets.lean leave alone. -/

namespace Sys2Proof.Machine

@[simp] theorem State.setTicket_kept (s : State) (i : Nat) (t : Ticket) : (State.setTicket s i t).kept = s.kept := by
  simp only [State.setTicket]
  repeat' split
  all_goals simp (disch := first | (intros; (repeat' split) <;> simp; done) | fail) [-List.foldl_cons, -List.foldl_nil]

@[simp] theorem State.makeTicket_kept (s : State) (kind ident : Nat) : (State.makeTicket s kind ident).1.kept = s.kept := by
  simp only [State.makeTicket]
  repeat' split
  all_goals simp (disch := first | (intros; (repeat' split) <;> simp; done) | fail) [-List.foldl_cons, -List.foldl_nil]

@[simp] theorem State.cancelDeparture_kept (s : State) (t : Nat) : (State.cancelDeparture s t).kept = s.kept := by
  simp only [State.cancelDeparture]
  repeat' split
  all_goals simp (disch := first | (intros; (repeat' split) <;> simp; done) | fail) [-List.foldl_cons, -List.foldl_nil]

@[simp] theorem State.sight_kept (s : State) (ident port : Nat) : (State.sight s ident port).1.kept = s.kept := by
  simp only [State.sight]
  repeat' split
  all_goals simp (disch := first | (intros; (repeat' split) <;> simp; done) | fail) [-List.foldl_cons, -List.foldl_nil]

@[simp] theorem State.bindTicket_kept (s : State) (i port : Nat) : (State.bindTicket s i port).kept = s.kept := by
  simp only [State.bindTicket]
  repeat' split
  all_goals simp (disch := first | (intros; (repeat' split) <;> simp; done) | fail) [-List.foldl_cons, -List.foldl_nil]

@[simp] theorem State.sweep_kept (s : State) (port mask len n : Nat) (seen : List Nat) : (State.sweep s port mask len n seen).kept = s.kept := by
  simp only [State.sweep]
  repeat' split
  all_goals simp (disch := first | (intros; (repeat' split) <;> simp; done) | fail) [-List.foldl_cons, -List.foldl_nil]

@[simp] theorem State.tktResult_kept (s : State) (code index : Nat) : (State.tktResult s code index).kept = s.kept := by
  simp only [State.tktResult]
  repeat' split
  all_goals simp (disch := first | (intros; (repeat' split) <;> simp; done) | fail) [-List.foldl_cons, -List.foldl_nil]

@[simp] theorem State.tktWrite_kept (s : State) : (State.tktWrite s).kept = s.kept := by
  simp only [State.tktWrite]
  repeat' split
  all_goals simp (disch := first | (intros; (repeat' split) <;> simp; done) | fail) [-List.foldl_cons, -List.foldl_nil]

@[simp] theorem State.tktInsert_kept (s : State) : (State.tktInsert s).kept = s.kept := by
  simp only [State.tktInsert]
  repeat' split
  all_goals simp (disch := first | (intros; (repeat' split) <;> simp; done) | fail) [-List.foldl_cons, -List.foldl_nil]

@[simp] theorem State.tktDelete_kept (s : State) : (State.tktDelete s).kept = s.kept := by
  simp only [State.tktDelete]
  repeat' split
  all_goals simp (disch := first | (intros; (repeat' split) <;> simp; done) | fail) [-List.foldl_cons, -List.foldl_nil]

@[simp] theorem State.tktLookup_kept (s : State) : (State.tktLookup s).kept = s.kept := by
  simp only [State.tktLookup]
  repeat' split
  all_goals simp (disch := first | (intros; (repeat' split) <;> simp; done) | fail) [-List.foldl_cons, -List.foldl_nil]

@[simp] theorem State.tktRun_kept (s : State) : (State.tktRun s).kept = s.kept := by
  simp only [State.tktRun]
  repeat' split
  all_goals simp (disch := first | (intros; (repeat' split) <;> simp; done) | fail) [-List.foldl_cons, -List.foldl_nil]

end Sys2Proof.Machine
end

