-- ==== Sys2Proof/Laws/KeptCalValues.lean ====
section
/-! SUPPORT. What the operations of Machine/CalValues.lean leave alone. -/

namespace Sys2Proof.Machine

@[simp] theorem State.setCalSet_kept (s : State) (k : Nat) (c : CalSet) : (State.setCalSet s k c).kept = s.kept := by
  simp only [State.setCalSet]
  repeat' split
  all_goals simp (disch := first | (intros; (repeat' split) <;> simp; done) | fail) [-List.foldl_cons, -List.foldl_nil]

end Sys2Proof.Machine
end

