-- ==== Sys2Proof/Laws/KeptSlices.lean ====
section
/-! SUPPORT. What the operations of Machine/Slices.lean leave alone. -/

namespace Sys2Proof.Machine

@[simp] theorem State.setFstate_kept (s : State) (d sl st : Nat) : (State.setFstate s d sl st).kept = s.kept := by
  simp only [State.setFstate]
  repeat' split
  all_goals simp (disch := first | (intros; (repeat' split) <;> simp; done) | fail) [-List.foldl_cons, -List.foldl_nil]

@[simp] theorem State.phaseHere_kept (s : State) (d sl : Nat) : (State.phaseHere s d sl).kept = s.kept := by
  simp only [State.phaseHere]
  repeat' split
  all_goals simp (disch := first | (intros; (repeat' split) <;> simp; done) | fail) [-List.foldl_cons, -List.foldl_nil]

@[simp] theorem State.phaseMove_kept (s : State) (d sl : Nat) : (State.phaseMove s d sl).kept = s.kept := by
  simp only [State.phaseMove]
  repeat' split
  all_goals simp (disch := first | (intros; (repeat' split) <;> simp; done) | fail) [-List.foldl_cons, -List.foldl_nil]

@[simp] theorem State.command_kept (s : State) (d sl phase : Nat) : (State.command s d sl phase).kept = s.kept := by
  simp only [State.command]
  repeat' split
  all_goals simp (disch := first | (intros; (repeat' split) <;> simp; done) | fail) [-List.foldl_cons, -List.foldl_nil]

@[simp] theorem State.applyDrive_kept (s : State) (d sl : Nat) (r : Drive) : (State.applyDrive s d sl r).kept = s.kept := by
  simp only [State.applyDrive]
  repeat' split
  all_goals simp (disch := first | (intros; (repeat' split) <;> simp; done) | fail) [-List.foldl_cons, -List.foldl_nil]

@[simp] theorem State.announce_kept (s : State) (d sl : Nat) (change : TermChange) : (State.announce s d sl change).kept = s.kept := by
  simp only [State.announce]
  repeat' split
  all_goals simp (disch := first | (intros; (repeat' split) <;> simp; done) | fail) [-List.foldl_cons, -List.foldl_nil]

@[simp] theorem State.listenerOn_kept (s : State) (d sl : Nat) : (State.listenerOn s d sl).kept = s.kept := by
  simp only [State.listenerOn]
  repeat' split
  all_goals simp (disch := first | (intros; (repeat' split) <;> simp; done) | fail) [-List.foldl_cons, -List.foldl_nil]

@[simp] theorem State.moveLevel_kept (s : State) (d sl level : Nat) : (State.moveLevel s d sl level).kept = s.kept := by
  simp only [State.moveLevel]
  repeat' split
  all_goals simp (disch := first | (intros; (repeat' split) <;> simp; done) | fail) [-List.foldl_cons, -List.foldl_nil]

@[simp] theorem State.startRamp_kept (s : State) (d sl : Nat) (r : Drive) : (State.startRamp s d sl r).kept = s.kept := by
  simp only [State.startRamp]
  repeat' split
  all_goals simp (disch := first | (intros; (repeat' split) <;> simp; done) | fail) [-List.foldl_cons, -List.foldl_nil]

@[simp] theorem State.energise_kept (s : State) (d sl : Nat) : (State.energise s d sl).kept = s.kept := by
  simp only [State.energise]
  repeat' split
  all_goals simp (disch := first | (intros; (repeat' split) <;> simp; done) | fail) [-List.foldl_cons, -List.foldl_nil]

@[simp] theorem State.cancelDrive_kept (s : State) (d sl : Nat) : (State.cancelDrive s d sl).kept = s.kept := by
  simp only [State.cancelDrive]
  repeat' split
  all_goals simp (disch := first | (intros; (repeat' split) <;> simp; done) | fail) [-List.foldl_cons, -List.foldl_nil]

@[simp] theorem State.rampDown_kept (s : State) (d sl : Nat) : (State.rampDown s d sl).kept = s.kept := by
  simp only [State.rampDown]
  repeat' split
  all_goals simp (disch := first | (intros; (repeat' split) <;> simp; done) | fail) [-List.foldl_cons, -List.foldl_nil]

@[simp] theorem State.fieldOff_kept (s : State) (d sl : Nat) (abort : Bool) : (State.fieldOff s d sl abort).kept = s.kept := by
  simp only [State.fieldOff]
  repeat' split
  all_goals simp (disch := first | (intros; (repeat' split) <;> simp; done) | fail) [-List.foldl_cons, -List.foldl_nil]

@[simp] theorem State.heldOff_kept (s : State) (d sl : Nat) : (State.heldOff s d sl).kept = s.kept := by
  simp only [State.heldOff]
  repeat' split
  all_goals simp (disch := first | (intros; (repeat' split) <;> simp; done) | fail) [-List.foldl_cons, -List.foldl_nil]

@[simp] theorem State.sliceFault_kept (s : State) (d sl code : Nat) : (State.sliceFault s d sl code).kept = s.kept := by
  simp only [State.sliceFault]
  repeat' split
  all_goals simp (disch := first | (intros; (repeat' split) <;> simp; done) | fail) [-List.foldl_cons, -List.foldl_nil]

@[simp] theorem execSenseInterval_kept (d sl pwr headroom ampl detune : Nat) (s : State) : (s.run (execSenseInterval d sl pwr headroom ampl detune)).kept = s.kept := by
  simp only [State.run, execSenseInterval, State.when]
  repeat' split
  all_goals simp (disch := first | (intros; (repeat' split) <;> simp; done) | fail) [-List.foldl_cons, -List.foldl_nil]

@[simp] theorem State.syncLate_kept (s : State) (late : Bool) : (State.syncLate s late).kept = s.kept := by
  simp only [State.syncLate]
  repeat' split
  all_goals simp (disch := first | (intros; (repeat' split) <;> simp; done) | fail) [-List.foldl_cons, -List.foldl_nil]

@[simp] theorem execPhaseCommand_kept (d sl phase : Nat) (late : Bool) (s : State) : (s.run (execPhaseCommand d sl phase late)).kept = s.kept := by
  simp only [State.run, execPhaseCommand, State.when]
  repeat' split
  all_goals simp (disch := first | (intros; (repeat' split) <;> simp; done) | fail) [-List.foldl_cons, -List.foldl_nil]

@[simp] theorem execPhaseSlewEnd_kept (d sl : Nat) (s : State) : (s.run (execPhaseSlewEnd d sl)).kept = s.kept := by
  simp only [State.run, execPhaseSlewEnd, State.when]
  repeat' split
  all_goals simp (disch := first | (intros; (repeat' split) <;> simp; done) | fail) [-List.foldl_cons, -List.foldl_nil]

@[simp] theorem State.sliceBoundary_kept (s : State) (d sl : Nat) : (State.sliceBoundary s d sl).kept = s.kept := by
  simp only [State.sliceBoundary]
  repeat' split
  all_goals simp (disch := first | (intros; (repeat' split) <;> simp; done) | fail) [-List.foldl_cons, -List.foldl_nil]

end Sys2Proof.Machine
end

