-- ==== Sys2Proof/Laws/KeptSupply.lean ====
section
/-! SUPPORT. What the operations of Machine/Supply.lean leave alone. -/

namespace Sys2Proof.Machine

@[simp] theorem State.supplyRequest_kept (s : State) (r : SupplyReq) : (State.supplyRequest s r).kept = s.kept := by
  simp only [State.supplyRequest]
  repeat' split
  all_goals simp (disch := first | (intros; (repeat' split) <;> simp; done) | fail) [-List.foldl_cons, -List.foldl_nil]

@[simp] theorem State.hostSupply_kept (s : State) (cmd value : Nat) : (State.hostSupply s cmd value).kept = s.kept := by
  simp only [State.hostSupply, State.hostWrite]
  repeat' split
  all_goals simp (disch := first | (intros; (repeat' split) <;> simp; done) | fail) [-List.foldl_cons, -List.foldl_nil]

@[simp] theorem execSrlSet_kept (value : Nat) (origin : SupplyOrigin) (s : State) : (s.run (execSrlSet value origin)).kept = s.kept := by
  simp only [State.run, execSrlSet, State.when]
  repeat' split
  all_goals simp (disch := first | (intros; (repeat' split) <;> simp; done) | fail) [-List.foldl_cons, -List.foldl_nil]

@[simp] theorem execSrlStepUp_kept (value : Nat) (s : State) : (s.run (execSrlStepUp value)).kept = s.kept := by
  simp only [State.run, execSrlStepUp]
  repeat' split
  all_goals simp (disch := first | (intros; (repeat' split) <;> simp; done) | fail) [-List.foldl_cons, -List.foldl_nil]

@[simp] theorem execSrlStepDown_kept (value : Nat) (s : State) : (s.run (execSrlStepDown value)).kept = s.kept := by
  simp only [State.run, execSrlStepDown]
  repeat' split
  all_goals simp (disch := first | (intros; (repeat' split) <;> simp; done) | fail) [-List.foldl_cons, -List.foldl_nil]

@[simp] theorem execSrlQuery_kept (s : State) : (s.run execSrlQuery).kept = s.kept := by
  simp only [State.run, execSrlQuery]
  repeat' split
  all_goals simp (disch := first | (intros; (repeat' split) <;> simp; done) | fail) [-List.foldl_cons, -List.foldl_nil]

@[simp] theorem execSrlFrameStart_kept (s : State) : (s.run execSrlFrameStart).kept = s.kept := by
  simp only [State.run, execSrlFrameStart]
  repeat' split
  all_goals simp (disch := first | (intros; (repeat' split) <;> simp; done) | fail) [-List.foldl_cons, -List.foldl_nil]

@[simp] theorem State.supplyEnded_kept (s : State) (result : Nat) : (State.supplyEnded s result).kept = s.kept := by
  simp only [State.supplyEnded]
  repeat' split
  all_goals simp (disch := first | (intros; (repeat' split) <;> simp; done) | fail) [-List.foldl_cons, -List.foldl_nil]

@[simp] theorem State.supplyForRun_kept (s : State) : (State.supplyForRun s).kept = s.kept := by
  simp only [State.supplyForRun]
  repeat' split
  all_goals simp (disch := first | (intros; (repeat' split) <;> simp; done) | fail) [-List.foldl_cons, -List.foldl_nil]

end Sys2Proof.Machine
end

