-- ==== Sys2Proof/Laws/KeptWatchState.lean ====
section
/-! SUPPORT. What the operations of Machine/WatchState.lean leave alone. -/

namespace Sys2Proof.Machine

@[simp] theorem State.setWatchState_kept (s : State) (d p st : Nat) : (State.setWatchState s d p st).kept = s.kept := by
  simp only [State.setWatchState]
  repeat' split
  all_goals simp (disch := first | (intros; (repeat' split) <;> simp; done) | fail) [-List.foldl_cons, -List.foldl_nil]

@[simp] theorem State.skipProbe_kept (s : State) (d : Nat) : (State.skipProbe s d).kept = s.kept := by
  simp only [State.skipProbe]
  repeat' split
  all_goals simp (disch := first | (intros; (repeat' split) <;> simp; done) | fail) [-List.foldl_cons, -List.foldl_nil]

@[simp] theorem State.dropWaiting_kept (s : State) (d p : Nat) : (State.dropWaiting s d p).kept = s.kept := by
  simp only [State.dropWaiting]
  repeat' split
  all_goals simp (disch := first | (intros; (repeat' split) <;> simp; done) | fail) [-List.foldl_cons, -List.foldl_nil]

@[simp] theorem State.enterLearn_kept (s : State) (d p : Nat) : (State.enterLearn s d p).kept = s.kept := by
  simp only [State.enterLearn]
  repeat' split
  all_goals simp (disch := first | (intros; (repeat' split) <;> simp; done) | fail) [-List.foldl_cons, -List.foldl_nil]

@[simp] theorem State.armOrLearn_kept (s : State) (d p : Nat) : (State.armOrLearn s d p).kept = s.kept := by
  simp only [State.armOrLearn]
  repeat' split
  all_goals simp (disch := first | (intros; (repeat' split) <;> simp; done) | fail) [-List.foldl_cons, -List.foldl_nil]

@[simp] theorem State.suspendWatch_kept (s : State) (d p : Nat) : (State.suspendWatch s d p).kept = s.kept := by
  simp only [State.suspendWatch]
  repeat' split
  all_goals simp (disch := first | (intros; (repeat' split) <;> simp; done) | fail) [-List.foldl_cons, -List.foldl_nil]

@[simp] theorem State.resumeWatch_kept (s : State) (d p : Nat) : (State.resumeWatch s d p).kept = s.kept := by
  simp only [State.resumeWatch]
  repeat' split
  all_goals simp (disch := first | (intros; (repeat' split) <;> simp; done) | fail) [-List.foldl_cons, -List.foldl_nil]

@[simp] theorem State.watchSync_kept (s : State) (d p : Nat) : (State.watchSync s d p).kept = s.kept := by
  simp only [State.watchSync]
  repeat' split
  all_goals simp (disch := first | (intros; (repeat' split) <;> simp; done) | fail) [-List.foldl_cons, -List.foldl_nil]

@[simp] theorem State.watchSyncDie_kept (s : State) (d : Nat) : (State.watchSyncDie s d).kept = s.kept := by
  simp only [State.watchSyncDie]
  repeat' split
  all_goals simp (disch := first | (intros; (repeat' split) <;> simp; done) | fail) [-List.foldl_cons, -List.foldl_nil]

@[simp] theorem State.watchSyncAll_kept (s : State) : (State.watchSyncAll s).kept = s.kept := by
  simp only [State.watchSyncAll]
  repeat' split
  all_goals simp (disch := first | (intros; (repeat' split) <;> simp; done) | fail) [-List.foldl_cons, -List.foldl_nil]

@[simp] theorem State.reclass_kept (s : State) (d p : Nat) : (State.reclass s d p).kept = s.kept := by
  simp only [State.reclass]
  repeat' split
  all_goals simp (disch := first | (intros; (repeat' split) <;> simp; done) | fail) [-List.foldl_cons, -List.foldl_nil]

@[simp] theorem State.watchCommit_kept (s : State) (d p : Nat) (changed : Bool) : (State.watchCommit s d p changed).kept = s.kept := by
  simp only [State.watchCommit]
  repeat' split
  all_goals simp (disch := first | (intros; (repeat' split) <;> simp; done) | fail) [-List.foldl_cons, -List.foldl_nil]

@[simp] theorem State.sendWatch_kept (s : State) (d p cls time : Nat) (body : List Word) : (State.sendWatch s d p cls time body).kept = s.kept := by
  simp only [State.sendWatch]
  repeat' split
  all_goals simp (disch := first | (intros; (repeat' split) <;> simp; done) | fail) [-List.foldl_cons, -List.foldl_nil]

@[simp] theorem State.flushHeld_kept : ∀ (l : List (Nat × Nat)) (s : State), (State.flushHeld l s).kept = s.kept
  | [], s => by simp [State.flushHeld]
  | (t, k) :: l, s => by
    simp only [State.flushHeld]
    repeat' split
    all_goals simp [State.flushHeld_kept l]

@[simp] theorem State.flushWatch_kept (s : State) : (State.flushWatch s).kept = s.kept := by
  simp only [State.flushWatch]
  repeat' split
  all_goals simp (disch := first | (intros; (repeat' split) <;> simp; done) | fail) [-List.foldl_cons, -List.foldl_nil]

@[simp] theorem State.startProbes_kept (d : Nat) : ∀ (n : Nat) (s : State), (State.startProbes d n s).kept = s.kept
  | 0, s => by simp [State.startProbes]
  | n + 1, s => by
    simp only [State.startProbes]
    repeat' split
    all_goals simp [State.startProbes_kept d n]

@[simp] theorem State.startWatchProbe_kept (s : State) (d : Nat) : (State.startWatchProbe s d).kept = s.kept := by
  simp only [State.startWatchProbe]
  repeat' split
  all_goals simp (disch := first | (intros; (repeat' split) <;> simp; done) | fail) [-List.foldl_cons, -List.foldl_nil]

end Sys2Proof.Machine
end

