-- ==== Sys2Proof/Laws/KeptDescriptor.lean ====
section
/-! SUPPORT. What the operations of Machine/Descriptor.lean leave alone. -/

namespace Sys2Proof.Machine

@[simp] theorem State.descInvalid_kept (s : State) (d code : Nat) : (State.descInvalid s d code).kept = s.kept := by
  simp only [State.descInvalid]
  repeat' split
  all_goals simp (disch := first | (intros; (repeat' split) <;> simp; done) | fail) [-List.foldl_cons, -List.foldl_nil]

@[simp] theorem State.formChain_kept (s : State) (d index : Nat) : (State.formChain s d index).1.kept = s.kept := by
  simp only [State.formChain]
  repeat' split
  all_goals simp (disch := first | (intros; (repeat' split) <;> simp; done) | fail) [-List.foldl_cons, -List.foldl_nil]

end Sys2Proof.Machine
end

