-- ==== Sys2Proof/Laws/KeptGrants.lean ====
section
/-! SUPPORT. What the operations of Machine/Grants.lean leave alone. -/

namespace Sys2Proof.Machine

@[simp] theorem State.setCalTarget_kept (s : State) (k : Nat) (c : CalTarget) : (State.setCalTarget s k c).kept = s.kept := by
  simp only [State.setCalTarget]
  repeat' split
  all_goals simp (disch := first | (intros; (repeat' split) <;> simp; done) | fail) [-List.foldl_cons, -List.foldl_nil]

@[simp] theorem State.setTest_kept (s : State) (k : Nat) (t : TestUnit) : (State.setTest s k t).kept = s.kept := by
  simp only [State.setTest]
  repeat' split
  all_goals simp (disch := first | (intros; (repeat' split) <;> simp; done) | fail) [-List.foldl_cons, -List.foldl_nil]

@[simp] theorem State.askRun_kept (s : State) (d : Nat) : (State.askRun s d).kept = s.kept := by
  simp only [State.askRun]
  repeat' split
  all_goals simp (disch := first | (intros; (repeat' split) <;> simp; done) | fail) [-List.foldl_cons, -List.foldl_nil]

@[simp] theorem State.askRunPorts_kept (s : State) (ns : List Nat) : (State.askRunPorts s ns).kept = s.kept := by
  simp only [State.askRunPorts]
  repeat' split
  all_goals simp (disch := first | (intros; (repeat' split) <;> simp; done) | fail) [-List.foldl_cons, -List.foldl_nil]

@[simp] theorem State.userFieldOff_kept (s : State) (d sl : Nat) : (State.userFieldOff s d sl).kept = s.kept := by
  simp only [State.userFieldOff]
  repeat' split
  all_goals simp (disch := first | (intros; (repeat' split) <;> simp; done) | fail) [-List.foldl_cons, -List.foldl_nil]

@[simp] theorem State.abortFieldOff_kept (s : State) (d sl : Nat) : (State.abortFieldOff s d sl).kept = s.kept := by
  simp only [State.abortFieldOff]
  repeat' split
  all_goals simp (disch := first | (intros; (repeat' split) <;> simp; done) | fail) [-List.foldl_cons, -List.foldl_nil]

@[simp] theorem State.releaseGuarded_kept (s : State) : (State.releaseGuarded s).kept = s.kept := by
  simp only [State.releaseGuarded]
  repeat' split
  all_goals simp (disch := first | (intros; (repeat' split) <;> simp; done) | fail) [-List.foldl_cons, -List.foldl_nil]

@[simp] theorem State.dropHold_kept (s : State) (d p : Nat) : (State.dropHold s d p).kept = s.kept := by
  simp only [State.dropHold]
  repeat' split
  all_goals simp (disch := first | (intros; (repeat' split) <;> simp; done) | fail) [-List.foldl_cons, -List.foldl_nil]

@[simp] theorem State.servedFieldOff_kept (s : State) (d p : Nat) : (State.servedFieldOff s d p).kept = s.kept := by
  simp only [State.servedFieldOff]
  repeat' split
  all_goals simp (disch := first | (intros; (repeat' split) <;> simp; done) | fail) [-List.foldl_cons, -List.foldl_nil]

@[simp] theorem State.endHold_kept (s : State) (d p : Nat) : (State.endHold s d p).kept = s.kept := by
  simp only [State.endHold]
  repeat' split
  all_goals simp (disch := first | (intros; (repeat' split) <;> simp; done) | fail) [-List.foldl_cons, -List.foldl_nil]

@[simp] theorem State.endHolds_kept (s : State) (only : Option Nat) : (State.endHolds s only).kept = s.kept := by
  simp only [State.endHolds]
  repeat' split
  all_goals simp (disch := first | (intros; (repeat' split) <;> simp; done) | fail) [-List.foldl_cons, -List.foldl_nil]

@[simp] theorem State.unreserveAll_kept (s : State) (res : List Nat) : (State.unreserveAll s res).kept = s.kept := by
  simp only [State.unreserveAll]
  repeat' split
  all_goals simp (disch := first | (intros; (repeat' split) <;> simp; done) | fail) [-List.foldl_cons, -List.foldl_nil]

@[simp] theorem State.calResult_kept (s : State) (k result : Nat) (temp : Option Nat) (points : Nat) : (State.calResult s k result temp points).kept = s.kept := by
  simp only [State.calResult]
  repeat' split
  all_goals simp (disch := first | (intros; (repeat' split) <;> simp; done) | fail) [-List.foldl_cons, -List.foldl_nil]

@[simp] theorem State.takeRinse_kept (s : State) (d p sl : Nat) : (State.takeRinse s d p sl).kept = s.kept := by
  simp only [State.takeRinse]
  repeat' split
  all_goals simp (disch := first | (intros; (repeat' split) <;> simp; done) | fail) [-List.foldl_cons, -List.foldl_nil]

@[simp] theorem State.portBoundary_kept (s : State) (d p : Nat) : (State.portBoundary s d p).kept = s.kept := by
  simp only [State.portBoundary]
  repeat' split
  all_goals simp (disch := first | (intros; (repeat' split) <;> simp; done) | fail) [-List.foldl_cons, -List.foldl_nil]

@[simp] theorem State.refreshDie_kept (s : State) (d : Nat) : (State.refreshDie s d).kept = s.kept := by
  simp only [State.refreshDie, State.when]
  repeat' split
  all_goals simp (disch := first | (intros; (repeat' split) <;> simp; done) | fail) [-List.foldl_cons, -List.foldl_nil]

@[simp] theorem State.refreshAll_kept (s : State) : (State.refreshAll s).kept = s.kept := by
  simp only [State.refreshAll]
  repeat' split
  all_goals simp (disch := first | (intros; (repeat' split) <;> simp; done) | fail) [-List.foldl_cons, -List.foldl_nil]

@[simp] theorem State.restSlice_kept (s : State) (d sl : Nat) : (State.restSlice s d sl).kept = s.kept := by
  simp only [State.restSlice]
  repeat' split
  all_goals simp (disch := first | (intros; (repeat' split) <;> simp; done) | fail) [-List.foldl_cons, -List.foldl_nil]

@[simp] theorem State.restSlices_kept (s : State) (l : List (Nat × Nat)) : (State.restSlices s l).kept = s.kept := by
  simp only [State.restSlices]
  repeat' split
  all_goals simp (disch := first | (intros; (repeat' split) <;> simp; done) | fail) [-List.foldl_cons, -List.foldl_nil]

@[simp] theorem State.dropWork_kept (s : State) (k : Nat) : (State.dropWork s k).kept = s.kept := by
  simp only [State.dropWork]
  repeat' split
  all_goals simp (disch := first | (intros; (repeat' split) <;> simp; done) | fail) [-List.foldl_cons, -List.foldl_nil]

@[simp] theorem State.slicesOff_kept (s : State) (l : List (Nat × Nat)) (abort : Bool) : (State.slicesOff s l abort).kept = s.kept := by
  simp only [State.slicesOff]
  repeat' split
  all_goals simp (disch := first | (intros; (repeat' split) <;> simp; done) | fail) [-List.foldl_cons, -List.foldl_nil]

@[simp] theorem State.reportRun_kept (s : State) (res : List Nat) (write : Bool) (payload : List Word) : (State.reportRun s res write payload).kept = s.kept := by
  simp only [State.reportRun]
  repeat' split
  all_goals simp (disch := first | (intros; (repeat' split) <;> simp; done) | fail) [-List.foldl_cons, -List.foldl_nil]

@[simp] theorem State.calBits_kept (s : State) (k : Nat) : (State.calBits s k).kept = s.kept := by
  simp only [State.calBits]
  repeat' split
  all_goals simp (disch := first | (intros; (repeat' split) <;> simp; done) | fail) [-List.foldl_cons, -List.foldl_nil]

@[simp] theorem State.calAbort_kept (s : State) (key : Nat) : (State.calAbort s key).kept = s.kept := by
  simp only [State.calAbort]
  repeat' split
  all_goals simp (disch := first | (intros; (repeat' split) <;> simp; done) | fail) [-List.foldl_cons, -List.foldl_nil]

@[simp] theorem State.leaveTest_kept (s : State) (die page : Nat) : (State.leaveTest s die page).kept = s.kept := by
  simp only [State.leaveTest]
  repeat' split
  all_goals simp (disch := first | (intros; (repeat' split) <;> simp; done) | fail) [-List.foldl_cons, -List.foldl_nil]

@[simp] theorem State.pageTested_kept (s : State) (kind die unit : Nat) : (State.pageTested s kind die unit).kept = s.kept := by
  simp only [State.pageTested]
  repeat' split
  all_goals simp (disch := first | (intros; (repeat' split) <;> simp; done) | fail) [-List.foldl_cons, -List.foldl_nil]

@[simp] theorem State.sliceLeavesTest_kept (s : State) (d sl : Nat) : (State.sliceLeavesTest s d sl).kept = s.kept := by
  simp only [State.sliceLeavesTest]
  repeat' split
  all_goals simp (disch := first | (intros; (repeat' split) <;> simp; done) | fail) [-List.foldl_cons, -List.foldl_nil]

@[simp] theorem State.reportTest_kept (s : State) (kind : Nat) (res : List Nat) (result : Nat) (payload : List Word) : (State.reportTest s kind res result payload).kept = s.kept := by
  simp only [State.reportTest]
  repeat' split
  all_goals simp (disch := first | (intros; (repeat' split) <;> simp; done) | fail) [-List.foldl_cons, -List.foldl_nil]

@[simp] theorem State.testResult_kept (s : State) (kind die unit result first : Nat) : (State.testResult s kind die unit result first).kept = s.kept := by
  simp only [State.testResult]
  repeat' split
  all_goals simp (disch := first | (intros; (repeat' split) <;> simp; done) | fail) [-List.foldl_cons, -List.foldl_nil]

@[simp] theorem State.testEvent_kept (s : State) (kind die evt : Nat) : (State.testEvent s kind die evt).kept = s.kept := by
  simp only [State.testEvent]
  repeat' split
  all_goals simp (disch := first | (intros; (repeat' split) <;> simp; done) | fail) [-List.foldl_cons, -List.foldl_nil]

@[simp] theorem State.startupTested_kept (s : State) (k result : Nat) : (State.startupTested s k result).kept = s.kept := by
  simp only [State.startupTested]
  repeat' split
  all_goals simp (disch := first | (intros; (repeat' split) <;> simp; done) | fail) [-List.foldl_cons, -List.foldl_nil]

@[simp] theorem State.testAbort_kept (s : State) (kind die unit : Nat) : (State.testAbort s kind die unit).kept = s.kept := by
  simp only [State.testAbort]
  repeat' split
  all_goals simp (disch := first | (intros; (repeat' split) <;> simp; done) | fail) [-List.foldl_cons, -List.foldl_nil]

end Sys2Proof.Machine
end

