-- ==== Sys2Proof/Laws/KeptExchEnd.lean ====
section
/-! SUPPORT. What the operations of Machine/ExchEnd.lean leave alone. -/

namespace Sys2Proof.Machine

@[simp] theorem State.exchRecord_kept (s : State) (d p : Nat) (e : Exch) (r : Result) : (State.exchRecord s d p e r).kept = s.kept := by
  simp only [State.exchRecord]
  repeat' split
  all_goals simp (disch := first | (intros; (repeat' split) <;> simp; done) | fail) [-List.foldl_cons, -List.foldl_nil]

@[simp] theorem State.sendChange_kept (s : State) (d : Nat) (m : Member) (time : Nat) (note : Note) (payload : List Word) : (State.sendChange s d m time note payload).kept = s.kept := by
  simp only [State.sendChange]
  repeat' split
  all_goals simp (disch := first | (intros; (repeat' split) <;> simp; done) | fail) [-List.foldl_cons, -List.foldl_nil]

@[simp] theorem State.roundRecords_kept (s : State) (d p : Nat) (e : Exch) (status : Nat) : (State.roundRecords s d p e status).kept = s.kept := by
  simp only [State.roundRecords]
  repeat' split
  all_goals simp (disch := first | (intros; (repeat' split) <;> simp; done) | fail) [-List.foldl_cons, -List.foldl_nil]

@[simp] theorem State.roundStatus_kept (s : State) (d p : Nat) (e : Exch) (status : Nat) : (State.roundStatus s d p e status).kept = s.kept := by
  simp only [State.roundStatus]
  repeat' split
  all_goals simp (disch := first | (intros; (repeat' split) <;> simp; done) | fail) [-List.foldl_cons, -List.foldl_nil]

@[simp] theorem State.saturated_kept (s : State) (d p : Nat) : (State.saturated s d p).kept = s.kept := by
  simp only [State.saturated]
  repeat' split
  all_goals simp (disch := first | (intros; (repeat' split) <;> simp; done) | fail) [-List.foldl_cons, -List.foldl_nil]

@[simp] theorem State.chainReport_kept (s : State) (d p : Nat) (e : Exch) : (State.chainReport s d p e).kept = s.kept := by
  simp only [State.chainReport]
  repeat' split
  all_goals simp (disch := first | (intros; (repeat' split) <;> simp; done) | fail) [-List.foldl_cons, -List.foldl_nil]

@[simp] theorem State.releaseListeners_kept (s : State) (ns : List Nat) : (State.releaseListeners s ns).kept = s.kept := by
  simp only [State.releaseListeners]
  repeat' split
  all_goals simp (disch := first | (intros; (repeat' split) <;> simp; done) | fail) [-List.foldl_cons, -List.foldl_nil]

@[simp] theorem State.refDone_kept (s : State) (o : Origin) : (State.refDone s o).kept = s.kept := by
  simp only [State.refDone]
  repeat' split
  all_goals simp (disch := first | (intros; (repeat' split) <;> simp; done) | fail) [-List.foldl_cons, -List.foldl_nil]

@[simp] theorem State.wantListener_kept (s : State) (k : Nat) : (State.wantListener s k).kept = s.kept := by
  simp only [State.wantListener]
  repeat' split
  all_goals simp (disch := first | (intros; (repeat' split) <;> simp; done) | fail) [-List.foldl_cons, -List.foldl_nil]

@[simp] theorem State.takeListeners_kept (s : State) (d p : Nat) (partner : Option Nat) (m : Member) : (State.takeListeners s d p partner m).1.kept = s.kept := by
  simp only [State.takeListeners]
  repeat' split
  all_goals simp (disch := first | (intros; (repeat' split) <;> simp; done) | fail) [-List.foldl_cons, -List.foldl_nil]

@[simp] theorem State.wantMember_kept (s : State) (d p : Nat) (partner : Option Nat) (m : Member) : (State.wantMember s d p partner m).kept = s.kept := by
  simp only [State.wantMember]
  repeat' split
  all_goals simp (disch := first | (intros; (repeat' split) <;> simp; done) | fail) [-List.foldl_cons, -List.foldl_nil]

@[simp] theorem State.exchFieldOff_kept (s : State) (d p : Nat) (e : Exch) (abort : Bool) : (State.exchFieldOff s d p e abort).kept = s.kept := by
  simp only [State.exchFieldOff]
  repeat' split
  all_goals simp (disch := first | (intros; (repeat' split) <;> simp; done) | fail) [-List.foldl_cons, -List.foldl_nil]

@[simp] theorem State.exchBoundary_kept (s : State) (d p : Nat) (e : Exch) : (State.exchBoundary s d p e).kept = s.kept := by
  simp only [State.exchBoundary]
  repeat' split
  all_goals simp (disch := first | (intros; (repeat' split) <;> simp; done) | fail) [-List.foldl_cons, -List.foldl_nil]

@[simp] theorem State.beginHold_kept (s : State) (d p : Nat) : (State.beginHold s d p).kept = s.kept := by
  simp only [State.beginHold]
  repeat' split
  all_goals simp (disch := first | (intros; (repeat' split) <;> simp; done) | fail) [-List.foldl_cons, -List.foldl_nil]

@[simp] theorem State.memberRecords_kept (s : State) (d p : Nat) (e : Exch) (r : Result) : (State.memberRecords s d p e r).kept = s.kept := by
  simp only [State.memberRecords]
  repeat' split
  all_goals simp (disch := first | (intros; (repeat' split) <;> simp; done) | fail) [-List.foldl_cons, -List.foldl_nil]

@[simp] theorem State.finishTail_kept (s : State) (d p : Nat) (e : Exch) (r : Result) : (State.finishTail s d p e r).kept = s.kept := by
  simp only [State.finishTail]
  repeat' split
  all_goals simp (disch := first | (intros; (repeat' split) <;> simp; done) | fail) [-List.foldl_cons, -List.foldl_nil]

@[simp] theorem State.finish_kept (s : State) (d p : Nat) (r : Result) : (State.finish s d p r).kept = s.kept := by
  simp only [State.finish]
  repeat' split
  all_goals simp (disch := first | (intros; (repeat' split) <;> simp; done) | fail) [-List.foldl_cons, -List.foldl_nil]

@[simp] theorem State.roundsWritten_kept (s : State) : (State.roundsWritten s).kept = s.kept := by
  simp only [State.roundsWritten]
  repeat' split
  all_goals simp (disch := first | (intros; (repeat' split) <;> simp; done) | fail) [-List.foldl_cons, -List.foldl_nil]

@[simp] theorem State.freshBytes_kept : ∀ (n : Nat) (s : State), (State.freshBytes n s).1.kept = s.kept
  | 0, s => by simp [State.freshBytes]
  | n + 1, s => by simp [State.freshBytes, State.freshBytes_kept n]

@[simp] theorem State.cutAct_kept (s : State) (a : Act) : (State.cutAct s a).1.kept = s.kept := by
  simp only [State.cutAct]
  repeat' split
  all_goals simp (disch := first | (intros; (repeat' split) <;> simp; done) | fail) [-List.foldl_cons, -List.foldl_nil]

@[simp] theorem State.cutReply_kept (s : State) (e : Exch) : (State.cutReply s e).1.kept = s.kept := by
  simp only [State.cutReply]
  repeat' split
  all_goals simp (disch := first | (intros; (repeat' split) <;> simp; done) | fail) [-List.foldl_cons, -List.foldl_nil]

@[simp] theorem State.freshPick_kept : ∀ (l : List Nat) (s : State), (State.freshPick l s).1.kept = s.kept
  | [], s => by simp [State.freshPick]
  | _ :: l, s => by simp [State.freshPick, State.freshPick_kept l]

@[simp] theorem State.cutSat_kept (s : State) (d p : Nat) (e : Exch) : (State.cutSat s d p e).kept = s.kept := by
  simp only [State.cutSat]
  repeat' split
  all_goals simp (disch := first | (intros; (repeat' split) <;> simp; done) | fail) [-List.foldl_cons, -List.foldl_nil]

@[simp] theorem State.storeRx_kept (s : State) (d : Nat) (m : Member) (bs : List Byte) : (State.storeRx s d m bs).kept = s.kept := by
  simp only [State.storeRx]
  repeat' split
  all_goals simp (disch := first | (intros; (repeat' split) <;> simp; done) | fail) [-List.foldl_cons, -List.foldl_nil]

@[simp] theorem State.abortExch_kept (s : State) (d p status : Nat) : (State.abortExch s d p status).kept = s.kept := by
  simp only [State.abortExch]
  repeat' split
  all_goals simp (disch := first | (intros; (repeat' split) <;> simp; done) | fail) [-List.foldl_cons, -List.foldl_nil]

@[simp] theorem State.dropProbe_kept (s : State) (d p : Nat) (abort : Bool) : (State.dropProbe s d p abort).kept = s.kept := by
  simp only [State.dropProbe]
  repeat' split
  all_goals simp (disch := first | (intros; (repeat' split) <;> simp; done) | fail) [-List.foldl_cons, -List.foldl_nil]

@[simp] theorem State.endCw_kept (s : State) (d sl : Nat) (abort : Bool) : (State.endCw s d sl abort).kept = s.kept := by
  simp only [State.endCw]
  repeat' split
  all_goals simp (disch := first | (intros; (repeat' split) <;> simp; done) | fail) [-List.foldl_cons, -List.foldl_nil]

@[simp] theorem State.endWork_kept (s : State) (key status : Nat) : (State.endWork s key status).kept = s.kept := by
  simp only [State.endWork]
  repeat' split
  all_goals simp (disch := first | (intros; (repeat' split) <;> simp; done) | fail) [-List.foldl_cons, -List.foldl_nil]

@[simp] theorem State.loseListener_kept (s : State) (n : Nat) : (State.loseListener s n).kept = s.kept := by
  simp only [State.loseListener]
  repeat' split
  all_goals simp (disch := first | (intros; (repeat' split) <;> simp; done) | fail) [-List.foldl_cons, -List.foldl_nil]

@[simp] theorem State.faultSlice_kept (s : State) (d sl code : Nat) : (State.faultSlice s d sl code).kept = s.kept := by
  simp only [State.faultSlice]
  repeat' split
  all_goals simp (disch := first | (intros; (repeat' split) <;> simp; done) | fail) [-List.foldl_cons, -List.foldl_nil]

end Sys2Proof.Machine
end

