-- ==== Sys2Proof/Laws/KeptCoordinator.lean ====
section
/-! SUPPORT. What the operations of Machine/Coordinator.lean leave alone. -/

namespace Sys2Proof.Machine

@[simp] theorem State.setCand_kept (s : State) (c : Cand) : (State.setCand s c).kept = s.kept := by
  simp only [State.setCand]
  repeat' split
  all_goals simp (disch := first | (intros; (repeat' split) <;> simp; done) | fail) [-List.foldl_cons, -List.foldl_nil]

@[simp] theorem State.dropCand_kept (s : State) (order : Nat) : (State.dropCand s order).kept = s.kept := by
  simp only [State.dropCand]
  repeat' split
  all_goals simp (disch := first | (intros; (repeat' split) <;> simp; done) | fail) [-List.foldl_cons, -List.foldl_nil]

@[simp] theorem State.wantHeld_kept (s : State) (d p : Nat) (m : Member) : (State.wantHeld s d p m).kept = s.kept := by
  simp only [State.wantHeld]
  repeat' split
  all_goals simp (disch := first | (intros; (repeat' split) <;> simp; done) | fail) [-List.foldl_cons, -List.foldl_nil]

@[simp] theorem State.admitExchange_kept (s : State) (c : Cand) : (State.admitExchange s c).kept = s.kept := by
  simp only [State.admitExchange]
  repeat' split
  all_goals simp (disch := first | (intros; (repeat' split) <;> simp; done) | fail) [-List.foldl_cons, -List.foldl_nil]

@[simp] theorem State.wantUser_kept (s : State) (d sl user level ramp : Nat) (phase : Nat) : (State.wantUser s d sl user level ramp phase).kept = s.kept := by
  simp only [State.wantUser]
  repeat' split
  all_goals simp (disch := first | (intros; (repeat' split) <;> simp; done) | fail) [-List.foldl_cons, -List.foldl_nil]

@[simp] theorem State.addWork_kept (s : State) (key : Nat) (c : Cand) (phase : Phase) (slices : List Nat) : (State.addWork s key c phase slices).kept = s.kept := by
  simp only [State.addWork]
  repeat' split
  all_goals simp (disch := first | (intros; (repeat' split) <;> simp; done) | fail) [-List.foldl_cons, -List.foldl_nil]

@[simp] theorem State.admitCal_kept (s : State) (c : Cand) (kind unit : Nat) : (State.admitCal s c kind unit).kept = s.kept := by
  simp only [State.admitCal]
  repeat' split
  all_goals simp (disch := first | (intros; (repeat' split) <;> simp; done) | fail) [-List.foldl_cons, -List.foldl_nil]

@[simp] theorem State.admitTest_kept (s : State) (c : Cand) (kind unit : Nat) : (State.admitTest s c kind unit).kept = s.kept := by
  simp only [State.admitTest]
  repeat' split
  all_goals simp (disch := first | (intros; (repeat' split) <;> simp; done) | fail) [-List.foldl_cons, -List.foldl_nil]

@[simp] theorem State.admitNow_kept (s : State) (c : Cand) : (State.admitNow s c).kept = s.kept := by
  simp only [State.admitNow]
  repeat' split
  all_goals simp (disch := first | (intros; (repeat' split) <;> simp; done) | fail) [-List.foldl_cons, -List.foldl_nil]

@[simp] theorem State.yieldTests_kept (s : State) (c : Cand) : (State.yieldTests s c).kept = s.kept := by
  simp only [State.yieldTests]
  repeat' split
  all_goals simp (disch := first | (intros; (repeat' split) <;> simp; done) | fail) [-List.foldl_cons, -List.foldl_nil]

@[simp] theorem State.enterCreditWait_kept (s : State) (c : Cand) : (State.enterCreditWait s c).kept = s.kept := by
  simp only [State.enterCreditWait]
  repeat' split
  all_goals simp (disch := first | (intros; (repeat' split) <;> simp; done) | fail) [-List.foldl_cons, -List.foldl_nil]

@[simp] theorem State.enterBudgetWait_kept (s : State) (c : Cand) : (State.enterBudgetWait s c).kept = s.kept := by
  simp only [State.enterBudgetWait]
  repeat' split
  all_goals simp (disch := first | (intros; (repeat' split) <;> simp; done) | fail) [-List.foldl_cons, -List.foldl_nil]

@[simp] theorem State.passOver_kept (s : State) (c : Cand) : (State.passOver s c).kept = s.kept := by
  simp only [State.passOver]
  repeat' split
  all_goals simp (disch := first | (intros; (repeat' split) <;> simp; done) | fail) [-List.foldl_cons, -List.foldl_nil]

@[simp] theorem State.markOversize_kept (s : State) : (State.markOversize s).kept = s.kept := by
  simp only [State.markOversize]
  repeat' split
  all_goals simp (disch := first | (intros; (repeat' split) <;> simp; done) | fail) [-List.foldl_cons, -List.foldl_nil]

@[simp] theorem State.tryCand_kept (s : State) (c : Cand) : (State.tryCand s c).kept = s.kept := by
  simp only [State.tryCand]
  repeat' split
  all_goals simp (disch := first | (intros; (repeat' split) <;> simp; done) | fail) [-List.foldl_cons, -List.foldl_nil]

@[simp] theorem State.passOnce_kept (s : State) : (State.passOnce s).kept = s.kept := by
  simp only [State.passOnce]
  repeat' split
  all_goals simp (disch := first | (intros; (repeat' split) <;> simp; done) | fail) [-List.foldl_cons, -List.foldl_nil]

@[simp] theorem State.askRunFor_kept (s : State) (c : Cand) (listen : Bool) : (State.askRunFor s c listen).kept = s.kept := by
  simp only [State.askRunFor]
  repeat' split
  all_goals simp (disch := first | (intros; (repeat' split) <;> simp; done) | fail) [-List.foldl_cons, -List.foldl_nil]

@[simp] theorem State.withdraw_kept (s : State) (c : Cand) : (State.withdraw s c).kept = s.kept := by
  simp only [State.withdraw]
  repeat' split
  all_goals simp (disch := first | (intros; (repeat' split) <;> simp; done) | fail) [-List.foldl_cons, -List.foldl_nil]

@[simp] theorem State.addCand_kept (s : State) (c : Cand) : (State.addCand s c).kept = s.kept := by
  simp only [State.addCand]
  repeat' split
  all_goals simp (disch := first | (intros; (repeat' split) <;> simp; done) | fail) [-List.foldl_cons, -List.foldl_nil]

@[simp] theorem State.endSequencer_kept (s : State) (d : Nat) : (State.endSequencer s d).kept = s.kept := by
  simp only [State.endSequencer]
  repeat' split
  all_goals simp (disch := first | (intros; (repeat' split) <;> simp; done) | fail) [-List.foldl_cons, -List.foldl_nil]

@[simp] theorem State.offerCal_kept (s : State) (k : Nat) : (State.offerCal s k).kept = s.kept := by
  simp only [State.offerCal]
  repeat' split
  all_goals simp (disch := first | (intros; (repeat' split) <;> simp; done) | fail) [-List.foldl_cons, -List.foldl_nil]

@[simp] theorem State.offerTest_kept (s : State) (kind d unit : Nat) : (State.offerTest s kind d unit).kept = s.kept := by
  simp only [State.offerTest]
  repeat' split
  all_goals simp (disch := first | (intros; (repeat' split) <;> simp; done) | fail) [-List.foldl_cons, -List.foldl_nil]

@[simp] theorem State.offerDue_kept (s : State) : (State.offerDue s).kept = s.kept := by
  simp only [State.offerDue]
  repeat' split
  all_goals simp (disch := first | (intros; (repeat' split) <;> simp; done) | fail) [-List.foldl_cons, -List.foldl_nil]

@[simp] theorem State.addExchange_kept (s : State) (o : Origin) (d p : Nat) (ms : List Member) (prio : Nat) : (State.addExchange s o d p ms prio).kept = s.kept := by
  simp only [State.addExchange]
  repeat' split
  all_goals simp (disch := first | (intros; (repeat' split) <;> simp; done) | fail) [-List.foldl_cons, -List.foldl_nil]

@[simp] theorem State.setRef_kept (s : State) (plan i : Nat) (x : RefState) : (State.setRef s plan i x).kept = s.kept := by
  simp only [State.setRef]
  repeat' split
  all_goals simp (disch := first | (intros; (repeat' split) <;> simp; done) | fail) [-List.foldl_cons, -List.foldl_nil]

@[simp] theorem State.stepRef_kept (s : State) (run : PlanRun) (i r : Nat) : (State.stepRef s run i r).kept = s.kept := by
  simp only [State.stepRef]
  repeat' split
  all_goals simp (disch := first | (intros; (repeat' split) <;> simp; done) | fail) [-List.foldl_cons, -List.foldl_nil]

@[simp] theorem State.stepRounds_kept (s : State) : (State.stepRounds s).kept = s.kept := by
  simp only [State.stepRounds]
  repeat' split
  all_goals simp (disch := first | (intros; (repeat' split) <;> simp; done) | fail) [-List.foldl_cons, -List.foldl_nil]

@[simp] theorem State.settleWork_kept : ∀ (n : Nat) (s : State), (State.settleWork n s).kept = s.kept
  | 0, s => by simp [State.settleWork]
  | n + 1, s => by
    simp only [State.settleWork]
    repeat' split
    all_goals simp [State.settleWork_kept n]

@[simp] theorem State.coordinate_kept (s : State) : (State.coordinate s).kept = s.kept := by
  simp only [State.coordinate]
  repeat' split
  all_goals simp (disch := first | (intros; (repeat' split) <;> simp; done) | fail) [-List.foldl_cons, -List.foldl_nil]

@[simp] theorem State.ageCand_kept (s : State) (c : Cand) : (State.ageCand s c).kept = s.kept := by
  simp only [State.ageCand]
  repeat' split
  all_goals simp (disch := first | (intros; (repeat' split) <;> simp; done) | fail) [-List.foldl_cons, -List.foldl_nil]

@[simp] theorem execCandidateAgeing_kept (order : Nat) (s : State) : (s.run (execCandidateAgeing order)).kept = s.kept := by
  simp only [State.run, execCandidateAgeing]
  repeat' split
  all_goals simp (disch := first | (intros; (repeat' split) <;> simp; done) | fail) [-List.foldl_cons, -List.foldl_nil]

@[simp] theorem execFcoRun_kept (value : Word) (s : State) : (s.run (execFcoRun value)).kept = s.kept := by
  simp only [State.run, execFcoRun, State.hostWrite]
  repeat' split
  all_goals simp (disch := first | (intros; (repeat' split) <;> simp; done) | fail) [-List.foldl_cons, -List.foldl_nil]

@[simp] theorem execFcoAbort_kept (value : Word) (s : State) : (s.run (execFcoAbort value)).kept = s.kept := by
  simp only [State.run, execFcoAbort, State.hostWrite]
  repeat' split
  all_goals simp (disch := first | (intros; (repeat' split) <;> simp; done) | fail) [-List.foldl_cons, -List.foldl_nil]

@[simp] theorem State.startRound_kept (s : State) (n : Nat) : (State.startRound s n).kept = s.kept := by
  simp only [State.startRound]
  repeat' split
  all_goals simp (disch := first | (intros; (repeat' split) <;> simp; done) | fail) [-List.foldl_cons, -List.foldl_nil]

@[simp] theorem State.roundDue_kept (s : State) (plan : Nat) : (State.roundDue s plan).kept = s.kept := by
  simp only [State.roundDue]
  repeat' split
  all_goals simp (disch := first | (intros; (repeat' split) <;> simp; done) | fail) [-List.foldl_cons, -List.foldl_nil]

@[simp] theorem execRoundStart_kept (plan : Nat) (late : Bool) (s : State) : (s.run (execRoundStart plan late)).kept = s.kept := by
  simp only [State.run, execRoundStart, State.when]
  repeat' split
  all_goals simp (disch := first | (intros; (repeat' split) <;> simp; done) | fail) [-List.foldl_cons, -List.foldl_nil]

@[simp] theorem State.safetyItem_kept (s : State) : (State.safetyItem s).kept = s.kept := by
  simp only [State.safetyItem]
  repeat' split
  all_goals simp (disch := first | (intros; (repeat' split) <;> simp; done) | fail) [-List.foldl_cons, -List.foldl_nil]

@[simp] theorem State.shed_kept : ∀ (n : Nat) (s : State), (State.shed n s).kept = s.kept
  | 0, s => by simp [State.shed]
  | n + 1, s => by
    simp only [State.shed]
    repeat' split
    all_goals simp [State.shed_kept n]

@[simp] theorem State.thermalStop_kept (s : State) : (State.thermalStop s).kept = s.kept := by
  simp only [State.thermalStop]
  repeat' split
  all_goals simp (disch := first | (intros; (repeat' split) <;> simp; done) | fail) [-List.foldl_cons, -List.foldl_nil]

@[simp] theorem execVsupWindowEnd_kept (vsup : Nat) (s : State) : (s.run (execVsupWindowEnd vsup)).kept = s.kept := by
  simp only [State.run, execVsupWindowEnd, State.when]
  repeat' split
  all_goals simp (disch := first | (intros; (repeat' split) <;> simp; done) | fail) [-List.foldl_cons, -List.foldl_nil]

@[simp] theorem execVsupIdleRequest_kept (s : State) : (s.run execVsupIdleRequest).kept = s.kept := by
  simp only [State.run, execVsupIdleRequest, State.when]
  repeat' split
  all_goals simp (disch := first | (intros; (repeat' split) <;> simp; done) | fail) [-List.foldl_cons, -List.foldl_nil]

@[simp] theorem execDieWakeLead_kept (plan : Nat) (s : State) : (s.run (execDieWakeLead plan)).kept = s.kept := by
  simp only [State.run, execDieWakeLead, State.when]
  repeat' split
  all_goals simp (disch := first | (intros; (repeat' split) <;> simp; done) | fail) [-List.foldl_cons, -List.foldl_nil]

@[simp] theorem execDieDozeReturn_kept (die : Nat) (s : State) : (s.run (execDieDozeReturn die)).kept = s.kept := by
  simp only [State.run, execDieDozeReturn, State.when]
  repeat' split
  all_goals simp (disch := first | (intros; (repeat' split) <;> simp; done) | fail) [-List.foldl_cons, -List.foldl_nil]

@[simp] theorem execDozeToRun_kept (die : Nat) (s : State) : (s.run (execDozeToRun die)).kept = s.kept := by
  simp only [State.run, execDozeToRun, State.when]
  repeat' split
  all_goals simp (disch := first | (intros; (repeat' split) <;> simp; done) | fail) [-List.foldl_cons, -List.foldl_nil]

@[simp] theorem execCwStart_kept (die slice : Nat) (s : State) : (s.run (execCwStart die slice)).kept = s.kept := by
  simp only [State.run, execCwStart, State.hostWrite, State.when]
  repeat' split
  all_goals simp (disch := first | (intros; (repeat' split) <;> simp; done) | fail) [-List.foldl_cons, -List.foldl_nil]

@[simp] theorem execCwStop_kept (die slice : Nat) (s : State) : (s.run (execCwStop die slice)).kept = s.kept := by
  simp only [State.run, execCwStop, State.hostWrite, State.when]
  repeat' split
  all_goals simp (disch := first | (intros; (repeat' split) <;> simp; done) | fail) [-List.foldl_cons, -List.foldl_nil]

@[simp] theorem execCwTimeout_kept (die slice : Nat) (s : State) : (s.run (execCwTimeout die slice)).kept = s.kept := by
  simp only [State.run, execCwTimeout, State.when]
  repeat' split
  all_goals simp (disch := first | (intros; (repeat' split) <;> simp; done) | fail) [-List.foldl_cons, -List.foldl_nil]

@[simp] theorem execListenerWithdraw_kept (die port listener : Nat) (late : Bool) (s : State) : (s.run (execListenerWithdraw die port listener late)).kept = s.kept := by
  simp only [State.run, execListenerWithdraw, State.when]
  repeat' split
  all_goals simp (disch := first | (intros; (repeat' split) <;> simp; done) | fail) [-List.foldl_cons, -List.foldl_nil]

@[simp] theorem execRecordWordArrival_kept (d xfer : Nat) (s : State) : (s.run (execRecordWordArrival d xfer)).kept = s.kept := by
  simp only [State.run, execRecordWordArrival, State.when]
  repeat' split
  all_goals simp (disch := first | (intros; (repeat' split) <;> simp; done) | fail) [-List.foldl_cons, -List.foldl_nil]

end Sys2Proof.Machine
end

