-- ==== Sys2Proof/Laws/KeptNvs.lean ====
section
/-! SUPPORT. What the operations of Machine/Nvs.lean leave alone. -/

namespace Sys2Proof.Machine

@[simp] theorem State.nvQueue_kept (s : State) (o : NvOp) : (State.nvQueue s o).kept = s.kept := by
  simp only [State.nvQueue]
  repeat' split
  all_goals simp (disch := first | (intros; (repeat' split) <;> simp; done) | fail) [-List.foldl_cons, -List.foldl_nil]

@[simp] theorem State.nvAdvance_kept (s : State) : (State.nvAdvance s).kept = s.kept := by
  simp only [State.nvAdvance]
  repeat' split
  all_goals simp (disch := first | (intros; (repeat' split) <;> simp; done) | fail) [-List.foldl_cons, -List.foldl_nil]

@[simp] theorem execNvsEraseSlot_kept (slot : Nat) (s : State) : (s.run (execNvsEraseSlot slot)).kept = s.kept := by
  simp only [State.run, execNvsEraseSlot, State.hostWrite]
  repeat' split
  all_goals simp (disch := first | (intros; (repeat' split) <;> simp; done) | fail) [-List.foldl_cons, -List.foldl_nil]

@[simp] theorem execNvsRegLock_kept (key : Nat) (s : State) : (s.run (execNvsRegLock key)).kept = s.kept := by
  simp only [State.run, execNvsRegLock, State.hostWrite]
  repeat' split
  all_goals simp (disch := first | (intros; (repeat' split) <;> simp; done) | fail) [-List.foldl_cons, -List.foldl_nil]

@[simp] theorem execNvsDebugLock_kept (key : Nat) (s : State) : (s.run (execNvsDebugLock key)).kept = s.kept := by
  simp only [State.run, execNvsDebugLock, State.hostWrite]
  repeat' split
  all_goals simp (disch := first | (intros; (repeat' split) <;> simp; done) | fail) [-List.foldl_cons, -List.foldl_nil]

@[simp] theorem execNvsWdataWrite_kept (value : Word) (s : State) : (s.run (execNvsWdataWrite value)).kept = s.kept := by
  simp only [State.run, execNvsWdataWrite, State.hostWrite]
  repeat' split
  all_goals simp (disch := first | (intros; (repeat' split) <;> simp; done) | fail) [-List.foldl_cons, -List.foldl_nil]

@[simp] theorem State.nvForeground_kept (s : State) : (State.nvForeground s).kept = s.kept := by
  simp only [State.nvForeground]
  repeat' split
  all_goals simp (disch := first | (intros; (repeat' split) <;> simp; done) | fail) [-List.foldl_cons, -List.foldl_nil]

@[simp] theorem execNvsRdataRead_kept (fetch : Bool) (s : State) : (s.run (execNvsRdataRead fetch)).kept = s.kept := by
  simp only [State.run, execNvsRdataRead, State.when]
  repeat' split
  all_goals simp (disch := first | (intros; (repeat' split) <;> simp; done) | fail) [-List.foldl_cons, -List.foldl_nil]

@[simp] theorem State.nvPop_kept (s : State) : (State.nvPop s).kept = s.kept := by
  simp only [State.nvPop]
  repeat' split
  all_goals simp (disch := first | (intros; (repeat' split) <;> simp; done) | fail) [-List.foldl_cons, -List.foldl_nil]

@[simp] theorem State.mapPending_kept (s : State) : (State.mapPending s).kept = s.kept := by
  simp only [State.mapPending]
  repeat' split
  all_goals simp (disch := first | (intros; (repeat' split) <;> simp; done) | fail) [-List.foldl_cons, -List.foldl_nil]

end Sys2Proof.Machine
end

