-- ==== Sys2Proof/Laws/KeptCalibration.lean ====
section
/-! SUPPORT. What the operations of Machine/Calibration.lean leave alone. -/

namespace Sys2Proof.Machine

@[simp] theorem State.makeDue_kept (s : State) (k : Nat) (line : Bool) : (State.makeDue s k line).kept = s.kept := by
  simp only [State.makeDue]
  repeat' split
  all_goals simp (disch := first | (intros; (repeat' split) <;> simp; done) | fail) [-List.foldl_cons, -List.foldl_nil]

@[simp] theorem State.calReqSlices_kept (s : State) (d mask : Nat) (serving : Bool) : (State.calReqSlices s d mask serving).kept = s.kept := by
  simp only [State.calReqSlices, State.hostWrite]
  repeat' split
  all_goals simp (disch := first | (intros; (repeat' split) <;> simp; done) | fail) [-List.foldl_cons, -List.foldl_nil]

@[simp] theorem execCalReqSlice_kept (die mask : Nat) (s : State) : (s.run (execCalReqSlice die mask)).kept = s.kept := by
  simp only [State.run, execCalReqSlice]
  repeat' split
  all_goals simp (disch := first | (intros; (repeat' split) <;> simp; done) | fail) [-List.foldl_cons, -List.foldl_nil]

@[simp] theorem execCalReqSpare_kept (die mask : Nat) (s : State) : (s.run (execCalReqSpare die mask)).kept = s.kept := by
  simp only [State.run, execCalReqSpare]
  repeat' split
  all_goals simp (disch := first | (intros; (repeat' split) <;> simp; done) | fail) [-List.foldl_cons, -List.foldl_nil]

@[simp] theorem execCalReqDie_kept (die : Nat) (s : State) : (s.run (execCalReqDie die)).kept = s.kept := by
  simp only [State.run, execCalReqDie, State.hostWrite]
  repeat' split
  all_goals simp (disch := first | (intros; (repeat' split) <;> simp; done) | fail) [-List.foldl_cons, -List.foldl_nil]

@[simp] theorem execCalReqAnchor_kept (s : State) : (s.run execCalReqAnchor).kept = s.kept := by
  simp only [State.run, execCalReqAnchor, State.hostWrite]
  repeat' split
  all_goals simp (disch := first | (intros; (repeat' split) <;> simp; done) | fail) [-List.foldl_cons, -List.foldl_nil]

@[simp] theorem State.allDue_kept (s : State) : (State.allDue s).kept = s.kept := by
  simp only [State.allDue]
  repeat' split
  all_goals simp (disch := first | (intros; (repeat' split) <;> simp; done) | fail) [-List.foldl_cons, -List.foldl_nil]

@[simp] theorem execCalReqAll_kept (s : State) : (s.run execCalReqAll).kept = s.kept := by
  simp only [State.run, execCalReqAll, State.hostWrite]
  repeat' split
  all_goals simp (disch := first | (intros; (repeat' split) <;> simp; done) | fail) [-List.foldl_cons, -List.foldl_nil]

@[simp] theorem State.tempCauses_kept (s : State) (d : Nat) (t : Int) : (State.tempCauses s d t).kept = s.kept := by
  simp only [State.tempCauses]
  repeat' split
  all_goals simp (disch := first | (intros; (repeat' split) <;> simp; done) | fail) [-List.foldl_cons, -List.foldl_nil]

@[simp] theorem State.anchorSample_kept (s : State) (temp : Int) : (State.anchorSample s temp).kept = s.kept := by
  simp [State.anchorSample]

@[simp] theorem execThermalSample_kept (temps : List Int) (s : State) : (s.run (execThermalSample temps)).kept = s.kept := by
  simp only [State.run, execThermalSample, State.when]
  repeat' split
  all_goals simp (disch := first | (intros; (repeat' split) <;> simp; done) | fail) [-List.foldl_cons, -List.foldl_nil]

@[simp] theorem execDieTempUpdate_kept (die : Nat) (temp : Int) (s : State) : (s.run (execDieTempUpdate die temp)).kept = s.kept := by
  simp only [State.run, execDieTempUpdate, State.when]
  repeat' split
  all_goals simp (disch := first | (intros; (repeat' split) <;> simp; done) | fail) [-List.foldl_cons, -List.foldl_nil]

@[simp] theorem State.storeSet_kept (s : State) (k : Nat) (c : CalSet) (inserted : Bool) : (State.storeSet s k c inserted).kept = s.kept := by
  simp only [State.storeSet]
  repeat' split
  all_goals simp (disch := first | (intros; (repeat' split) <;> simp; done) | fail) [-List.foldl_cons, -List.foldl_nil]

@[simp] theorem State.reportSys_kept (s : State) (payload : List Word) : (State.reportSys s payload).kept = s.kept := by
  simp only [State.reportSys]
  repeat' split
  all_goals simp (disch := first | (intros; (repeat' split) <;> simp; done) | fail) [-List.foldl_cons, -List.foldl_nil]

@[simp] theorem State.runEffects_kept (s : State) (kind d sl n : Nat) (good : List Measured) : (State.runEffects s kind d sl n good).kept = s.kept := by
  simp only [State.runEffects]
  repeat' split
  all_goals simp (disch := first | (intros; (repeat' split) <;> simp; done) | fail) [-List.foldl_cons, -List.foldl_nil]

@[simp] theorem State.calRejects_kept (s : State) (d : Nat) (refOk : Bool) (bad : List Measured) : (State.calRejects s d refOk bad).kept = s.kept := by
  simp only [State.calRejects]
  repeat' split
  all_goals simp (disch := first | (intros; (repeat' split) <;> simp; done) | fail) [-List.foldl_cons, -List.foldl_nil]

@[simp] theorem State.calReported_kept (s : State) (kind : Nat) (res : List Nat) (write : Bool) (payload : List Word) : (State.calReported s kind res write payload).kept = s.kept := by
  simp only [State.calReported]
  repeat' split
  all_goals simp (disch := first | (intros; (repeat' split) <;> simp; done) | fail) [-List.foldl_cons, -List.foldl_nil]

@[simp] theorem State.calStore_kept (s : State) (k : Nat) (u : Nat × Nat × Nat × Nat) (adj : Word) (c : CalSet) (temp : Int) (good : List Measured) : (State.calStore s k u adj c temp good).kept = s.kept := by
  simp only [State.calStore]
  repeat' split
  all_goals simp (disch := first | (intros; (repeat' split) <;> simp; done) | fail) [-List.foldl_cons, -List.foldl_nil]

@[simp] theorem State.calFinish_kept (s : State) (k : Nat) (u : Nat × Nat × Nat × Nat) (refOk whole : Bool) (temp : Int) (skipped : Nat) (res : List Nat) (good bad : List Measured) : (State.calFinish s k u refOk whole temp skipped res good bad).kept = s.kept := by
  simp only [State.calFinish]
  repeat' split
  all_goals simp (disch := first | (intros; (repeat' split) <;> simp; done) | fail) [-List.foldl_cons, -List.foldl_nil]

@[simp] theorem State.endRun_kept (s : State) (k : Nat) (refOk : Bool) (temp : Int) (values : List (Nat × Nat × Int)) : (State.endRun s k refOk temp values).kept = s.kept := by
  simp only [State.endRun]
  repeat' split
  all_goals simp (disch := first | (intros; (repeat' split) <;> simp; done) | fail) [-List.foldl_cons, -List.foldl_nil]

@[simp] theorem execCalRunEnd_kept (target : Nat) (refv refres temp : Int) (values : List (Nat × Nat × Int)) (s : State) : (s.run (execCalRunEnd target refv refres temp values)).kept = s.kept := by
  simp only [State.run, execCalRunEnd, State.when]
  repeat' split
  all_goals simp (disch := first | (intros; (repeat' split) <;> simp; done) | fail) [-List.foldl_cons, -List.foldl_nil]

@[simp] theorem execCalMaxdeferExpiry_kept (target : Nat) (s : State) : (s.run (execCalMaxdeferExpiry target)).kept = s.kept := by
  simp only [State.run, execCalMaxdeferExpiry, State.when]
  repeat' split
  all_goals simp (disch := first | (intros; (repeat' split) <;> simp; done) | fail) [-List.foldl_cons, -List.foldl_nil]

@[simp] theorem State.startSave_kept (s : State) : (State.startSave s).kept = s.kept := by
  simp only [State.startSave]
  repeat' split
  all_goals simp (disch := first | (intros; (repeat' split) <;> simp; done) | fail) [-List.foldl_cons, -List.foldl_nil]

@[simp] theorem execCalSave_kept (s : State) : (s.run execCalSave).kept = s.kept := by
  simp only [State.run, execCalSave, State.hostWrite]
  repeat' split
  all_goals simp (disch := first | (intros; (repeat' split) <;> simp; done) | fail) [-List.foldl_cons, -List.foldl_nil]

@[simp] theorem execCalAutosave_kept (s : State) : (s.run execCalAutosave).kept = s.kept := by
  simp only [State.run, execCalAutosave, State.when]
  repeat' split
  all_goals simp (disch := first | (intros; (repeat' split) <;> simp; done) | fail) [-List.foldl_cons, -List.foldl_nil]

end Sys2Proof.Machine
end

