-- ==== Sys2Proof/Laws/KeptIcu.lean ====
section
/-! SUPPORT. What the operations of Machine/Icu.lean leave alone. -/

namespace Sys2Proof.Machine

@[simp] theorem State.keepLines_kept (s : State) : (State.keepLines s).kept = s.kept := by
  simp only [State.keepLines]
  repeat' split
  all_goals simp (disch := first | (intros; (repeat' split) <;> simp; done) | fail) [-List.foldl_cons, -List.foldl_nil]

@[simp] theorem State.attnSync_kept (s : State) : (State.attnSync s).kept = s.kept := by
  simp only [State.attnSync]
  repeat' split
  all_goals simp (disch := first | (intros; (repeat' split) <;> simp; done) | fail) [-List.foldl_cons, -List.foldl_nil]

@[simp] theorem execIcuClaim_kept (target : Nat) (others : List Nat) (fetch : Bool) (s : State) : (s.run (execIcuClaim target others fetch)).kept = s.kept := by
  simp only [State.run, execIcuClaim, State.when]
  repeat' split
  all_goals simp (disch := first | (intros; (repeat' split) <;> simp; done) | fail) [-List.foldl_cons, -List.foldl_nil]

@[simp] theorem State.takeStagedMap_kept (s : State) (src slot : Nat) : (State.takeStagedMap s src slot).kept = s.kept := by
  simp only [State.takeStagedMap]
  repeat' split
  all_goals simp (disch := first | (intros; (repeat' split) <;> simp; done) | fail) [-List.foldl_cons, -List.foldl_nil]

@[simp] theorem execIcuComplete_kept (target : Nat) (slot : Nat) (s : State) : (s.run (execIcuComplete target slot)).kept = s.kept := by
  simp only [State.run, execIcuComplete, State.hostWrite, State.when]
  repeat' split
  all_goals simp (disch := first | (intros; (repeat' split) <;> simp; done) | fail) [-List.foldl_cons, -List.foldl_nil]

@[simp] theorem execIcuSrcWrite_kept (source : Nat) (value : Word) (s : State) : (s.run (execIcuSrcWrite source value)).kept = s.kept := by
  simp only [State.run, execIcuSrcWrite, State.hostWrite, State.when]
  repeat' split
  all_goals simp (disch := first | (intros; (repeat' split) <;> simp; done) | fail) [-List.foldl_cons, -List.foldl_nil]

@[simp] theorem execIcuTargetCfgWrite_kept (target : Nat) (value : Word) (s : State) : (s.run (execIcuTargetCfgWrite target value)).kept = s.kept := by
  simp only [State.run, execIcuTargetCfgWrite, State.hostWrite, State.when]
  repeat' split
  all_goals simp (disch := first | (intros; (repeat' split) <;> simp; done) | fail) [-List.foldl_cons, -List.foldl_nil]

@[simp] theorem execIcuModgapEnd_kept (target : Nat) (s : State) : (s.run (execIcuModgapEnd target)).kept = s.kept := by
  simp only [State.run, execIcuModgapEnd, State.when]
  repeat' split
  all_goals simp (disch := first | (intros; (repeat' split) <;> simp; done) | fail) [-List.foldl_cons, -List.foldl_nil]

@[simp] theorem State.icuDeliver_kept (s : State) (src : Nat) : (State.icuDeliver s src).kept = s.kept := by
  simp only [State.icuDeliver]
  repeat' split
  all_goals simp (disch := first | (intros; (repeat' split) <;> simp; done) | fail) [-List.foldl_cons, -List.foldl_nil]

@[simp] theorem State.icuDeliverDie_kept (s : State) (d : Nat) : (State.icuDeliverDie s d).kept = s.kept := by
  simp only [State.icuDeliverDie]
  repeat' split
  all_goals simp (disch := first | (intros; (repeat' split) <;> simp; done) | fail) [-List.foldl_cons, -List.foldl_nil]

@[simp] theorem execIcuLevelChange_kept (source : Nat) (s : State) : (s.run (execIcuLevelChange source)).kept = s.kept := by
  simp only [State.run, execIcuLevelChange, State.when]
  repeat' split
  all_goals simp (disch := first | (intros; (repeat' split) <;> simp; done) | fail) [-List.foldl_cons, -List.foldl_nil]

@[simp] theorem execIcuSleepLatch_kept (source bit : Nat) (s : State) : (s.run (execIcuSleepLatch source bit)).kept = s.kept := by
  simp only [State.run, execIcuSleepLatch, State.when]
  repeat' split
  all_goals simp (disch := first | (intros; (repeat' split) <;> simp; done) | fail) [-List.foldl_cons, -List.foldl_nil]

@[simp] theorem State.presentLatches_kept (s : State) : (State.presentLatches s).kept = s.kept := by
  simp only [State.presentLatches]
  repeat' split
  all_goals simp (disch := first | (intros; (repeat' split) <;> simp; done) | fail) [-List.foldl_cons, -List.foldl_nil]

end Sys2Proof.Machine
end

