-- ==== Sys2Proof/Laws/KeptSeams.lean ====
section
/-! SUPPORT. What the operations of Machine/Seams.lean leave alone. -/

namespace Sys2Proof.Machine

@[simp] theorem State.setSeam_kept (s : State) (n : Nat) (x : Seam) : (State.setSeam s n x).kept = s.kept := by
  simp only [State.setSeam]
  repeat' split
  all_goals simp (disch := first | (intros; (repeat' split) <;> simp; done) | fail) [-List.foldl_cons, -List.foldl_nil]

@[simp] theorem State.reroute_kept (s : State) : (State.reroute s).kept = s.kept := by
  simp only [State.reroute]
  repeat' split
  all_goals simp (disch := first | (intros; (repeat' split) <;> simp; done) | fail) [-List.foldl_cons, -List.foldl_nil]

@[simp] theorem State.lostRecord_kept (s : State) (x : ResultId) (c reserved : Nat) (note : Note) : (State.lostRecord s x c reserved note).kept = s.kept := by
  simp only [State.lostRecord]
  repeat' split
  all_goals simp (disch := first | (intros; (repeat' split) <;> simp; done) | fail) [-List.foldl_cons, -List.foldl_nil]

@[simp] theorem State.lostBuffer_kept (s : State) (d : Nat) : (State.lostBuffer s d).kept = s.kept := by
  simp only [State.lostBuffer]
  repeat' split
  all_goals simp (disch := first | (intros; (repeat' split) <;> simp; done) | fail) [-List.foldl_cons, -List.foldl_nil]

@[simp] theorem State.lostWork_kept (s : State) (d key : Nat) (e : Exch) : (State.lostWork s d key e).kept = s.kept := by
  simp only [State.lostWork]
  repeat' split
  all_goals simp (disch := first | (intros; (repeat' split) <;> simp; done) | fail) [-List.foldl_cons, -List.foldl_nil]

@[simp] theorem State.rampDie_kept (s : State) (d : Nat) : (State.rampDie s d).kept = s.kept := by
  simp only [State.rampDie]
  repeat' split
  all_goals simp (disch := first | (intros; (repeat' split) <;> simp; done) | fail) [-List.foldl_cons, -List.foldl_nil]

@[simp] theorem State.loseDieListeners_kept (s : State) (d : Nat) : (State.loseDieListeners s d).kept = s.kept := by
  simp only [State.loseDieListeners]
  repeat' split
  all_goals simp (disch := first | (intros; (repeat' split) <;> simp; done) | fail) [-List.foldl_cons, -List.foldl_nil]

@[simp] theorem State.stopStreams_kept (s : State) (key : Nat) (cut : List Nat) : (State.stopStreams s key cut).kept = s.kept := by
  simp only [State.stopStreams]
  repeat' split
  all_goals simp (disch := first | (intros; (repeat' split) <;> simp; done) | fail) [-List.foldl_cons, -List.foldl_nil]

@[simp] theorem State.cutSeam_kept (s : State) (seam : Nat) : (State.cutSeam s seam).kept = s.kept := by
  simp only [State.cutSeam]
  repeat' split
  all_goals simp (disch := first | (intros; (repeat' split) <;> simp; done) | fail) [-List.foldl_cons, -List.foldl_nil]

@[simp] theorem State.trimSeam_kept (s : State) (seam : Nat) : (State.trimSeam s seam).kept = s.kept := by
  simp only [State.trimSeam]
  repeat' split
  all_goals simp (disch := first | (intros; (repeat' split) <;> simp; done) | fail) [-List.foldl_cons, -List.foldl_nil]

@[simp] theorem State.loseDie_kept (s : State) (d : Nat) : (State.loseDie s d).kept = s.kept := by
  simp only [State.loseDie]
  repeat' split
  all_goals simp (disch := first | (intros; (repeat' split) <;> simp; done) | fail) [-List.foldl_cons, -List.foldl_nil]

@[simp] theorem State.afterSeams_kept (s : State) (seam : Nat) : (State.afterSeams s seam).kept = s.kept := by
  simp only [State.afterSeams]
  repeat' split
  all_goals simp (disch := first | (intros; (repeat' split) <;> simp; done) | fail) [-List.foldl_cons, -List.foldl_nil]

@[simp] theorem State.seamFault_kept (s : State) (n : Nat) (cw : Bool) : (State.seamFault s n cw).kept = s.kept := by
  simp only [State.seamFault]
  repeat' split
  all_goals simp (disch := first | (intros; (repeat' split) <;> simp; done) | fail) [-List.foldl_cons, -List.foldl_nil]

@[simp] theorem State.seamCount_kept (s : State) (n : Nat) (f : Fld) : (State.seamCount s n f).kept = s.kept := by
  simp only [State.seamCount]
  repeat' split
  all_goals simp (disch := first | (intros; (repeat' split) <;> simp; done) | fail) [-List.foldl_cons, -List.foldl_nil]

@[simp] theorem execSeamBadCrc_kept (seam : Nat) (cw again : Bool) (s : State) : (s.run (execSeamBadCrc seam cw again)).kept = s.kept := by
  simp only [State.run, execSeamBadCrc, State.when]
  repeat' split
  all_goals simp (disch := first | (intros; (repeat' split) <;> simp; done) | fail) [-List.foldl_cons, -List.foldl_nil]

@[simp] theorem execSeamWatchdog_kept (seam : Nat) (cw : Bool) (s : State) : (s.run (execSeamWatchdog seam cw)).kept = s.kept := by
  simp only [State.run, execSeamWatchdog, State.when]
  repeat' split
  all_goals simp (disch := first | (intros; (repeat' split) <;> simp; done) | fail) [-List.foldl_cons, -List.foldl_nil]

@[simp] theorem execSeamIdleWord_kept (seam : Nat) (cw : Bool) (s : State) : (s.run (execSeamIdleWord seam cw)).kept = s.kept := by
  simp only [State.run, execSeamIdleWord, State.when]
  repeat' split
  all_goals simp (disch := first | (intros; (repeat' split) <;> simp; done) | fail) [-List.foldl_cons, -List.foldl_nil]

@[simp] theorem execSeamRetrainStart_kept (seam : Nat) (s : State) : (s.run (execSeamRetrainStart seam)).kept = s.kept := by
  simp only [State.run, execSeamRetrainStart, State.when]
  repeat' split
  all_goals simp (disch := first | (intros; (repeat' split) <;> simp; done) | fail) [-List.foldl_cons, -List.foldl_nil]

@[simp] theorem execSeamRetrainEnd_kept (seam : Nat) (pass : Bool) (s : State) : (s.run (execSeamRetrainEnd seam pass)).kept = s.kept := by
  simp only [State.run, execSeamRetrainEnd, State.when]
  repeat' split
  all_goals simp (disch := first | (intros; (repeat' split) <;> simp; done) | fail) [-List.foldl_cons, -List.foldl_nil]

@[simp] theorem execSeamRestored_kept (seam : Nat) (s : State) : (s.run (execSeamRestored seam)).kept = s.kept := by
  simp only [State.run, execSeamRestored, State.when]
  repeat' split
  all_goals simp (disch := first | (intros; (repeat' split) <;> simp; done) | fail) [-List.foldl_cons, -List.foldl_nil]

@[simp] theorem State.cutFields_kept (s : State) (d : Nat) : (State.cutFields s d).kept = s.kept := by
  simp only [State.cutFields]
  repeat' split
  all_goals simp (disch := first | (intros; (repeat' split) <;> simp; done) | fail) [-List.foldl_cons, -List.foldl_nil]

@[simp] theorem execDieSeamSilence_kept (die : Nat) (s : State) : (s.run (execDieSeamSilence die)).kept = s.kept := by
  simp only [State.run, execDieSeamSilence, State.when]
  repeat' split
  all_goals simp (disch := first | (intros; (repeat' split) <;> simp; done) | fail) [-List.foldl_cons, -List.foldl_nil]

@[simp] theorem execDieAnchorSilence_kept (die : Nat) (s : State) : (s.run (execDieAnchorSilence die)).kept = s.kept := by
  simp only [State.run, execDieAnchorSilence, State.when]
  repeat' split
  all_goals simp (disch := first | (intros; (repeat' split) <;> simp; done) | fail) [-List.foldl_cons, -List.foldl_nil]

@[simp] theorem execAnchorKeepAlive_kept (die : Nat) (s : State) : (s.run (execAnchorKeepAlive die)).kept = s.kept := by
  simp only [State.run, execAnchorKeepAlive, State.when]
  repeat' split
  all_goals simp (disch := first | (intros; (repeat' split) <;> simp; done) | fail) [-List.foldl_cons, -List.foldl_nil]

@[simp] theorem execCarrierUnlock_kept (die : Nat) (s : State) : (s.run (execCarrierUnlock die)).kept = s.kept := by
  simp only [State.run, execCarrierUnlock, State.when]
  repeat' split
  all_goals simp (disch := first | (intros; (repeat' split) <;> simp; done) | fail) [-List.foldl_cons, -List.foldl_nil]

@[simp] theorem execCarrierRelock_kept (die : Nat) (s : State) : (s.run (execCarrierRelock die)).kept = s.kept := by
  simp only [State.run, execCarrierRelock, State.when]
  repeat' split
  all_goals simp (disch := first | (intros; (repeat' split) <;> simp; done) | fail) [-List.foldl_cons, -List.foldl_nil]

@[simp] theorem execTimeLoad_kept (die : Nat) (offset : Int) (late : Bool) (s : State) : (s.run (execTimeLoad die offset late)).kept = s.kept := by
  simp only [State.run, execTimeLoad, State.when]
  repeat' split
  all_goals simp (disch := first | (intros; (repeat' split) <;> simp; done) | fail) [-List.foldl_cons, -List.foldl_nil]

@[simp] theorem execRejoin_kept (die : Nat) (reachable : Bool) (s : State) : (s.run (execRejoin die reachable)).kept = s.kept := by
  simp only [State.run, execRejoin, State.hostWrite, State.when]
  repeat' split
  all_goals simp (disch := first | (intros; (repeat' split) <;> simp; done) | fail) [-List.foldl_cons, -List.foldl_nil]

end Sys2Proof.Machine
end

