-- ==== Sys2Proof/Laws/KeptSelfTest.lean ====
section
/-! SUPPORT. What the operations of Machine/SelfTest.lean leave alone. -/

namespace Sys2Proof.Machine

@[simp] theorem State.requestTest_kept (s : State) (kind die unit : Nat) : (State.requestTest s kind die unit).kept = s.kept := by
  simp only [State.requestTest]
  repeat' split
  all_goals simp (disch := first | (intros; (repeat' split) <;> simp; done) | fail) [-List.foldl_cons, -List.foldl_nil]

@[simp] theorem State.bstRequest_kept (s : State) (kind die : Nat) (units : List Nat) : (State.bstRequest s kind die units).kept = s.kept := by
  simp only [State.bstRequest, State.hostWrite]
  repeat' split
  all_goals simp (disch := first | (intros; (repeat' split) <;> simp; done) | fail) [-List.foldl_cons, -List.foldl_nil]

@[simp] theorem execBstReqSlice_kept (die mask : Nat) (s : State) : (s.run (execBstReqSlice die mask)).kept = s.kept := by
  simp only [State.run, execBstReqSlice]
  repeat' split
  all_goals simp (disch := first | (intros; (repeat' split) <;> simp; done) | fail) [-List.foldl_cons, -List.foldl_nil]

@[simp] theorem execBstReqDie_kept (die : Nat) (s : State) : (s.run (execBstReqDie die)).kept = s.kept := by
  simp only [State.run, execBstReqDie]
  repeat' split
  all_goals simp (disch := first | (intros; (repeat' split) <;> simp; done) | fail) [-List.foldl_cons, -List.foldl_nil]

@[simp] theorem execBstReqSeam_kept (mask : Nat) (s : State) : (s.run (execBstReqSeam mask)).kept = s.kept := by
  simp only [State.run, execBstReqSeam]
  repeat' split
  all_goals simp (disch := first | (intros; (repeat' split) <;> simp; done) | fail) [-List.foldl_cons, -List.foldl_nil]

@[simp] theorem execBstReqRadio_kept (entry : Nat) (s : State) : (s.run (execBstReqRadio entry)).kept = s.kept := by
  simp only [State.run, execBstReqRadio]
  repeat' split
  all_goals simp (disch := first | (intros; (repeat' split) <;> simp; done) | fail) [-List.foldl_cons, -List.foldl_nil]

@[simp] theorem execBstReqAnchor_kept (s : State) : (s.run execBstReqAnchor).kept = s.kept := by
  simp only [State.run, execBstReqAnchor]
  repeat' split
  all_goals simp (disch := first | (intros; (repeat' split) <;> simp; done) | fail) [-List.foldl_cons, -List.foldl_nil]

@[simp] theorem State.requestAll_kept (s : State) : (State.requestAll s).kept = s.kept := by
  simp only [State.requestAll]
  repeat' split
  all_goals simp (disch := first | (intros; (repeat' split) <;> simp; done) | fail) [-List.foldl_cons, -List.foldl_nil]

@[simp] theorem execBstReqAll_kept (s : State) : (s.run execBstReqAll).kept = s.kept := by
  simp only [State.run, execBstReqAll, State.hostWrite]
  repeat' split
  all_goals simp (disch := first | (intros; (repeat' split) <;> simp; done) | fail) [-List.foldl_cons, -List.foldl_nil]

@[simp] theorem execBstPeriodic_kept (s : State) : (s.run execBstPeriodic).kept = s.kept := by
  simp only [State.run, execBstPeriodic, State.when]
  repeat' split
  all_goals simp (disch := first | (intros; (repeat' split) <;> simp; done) | fail) [-List.foldl_cons, -List.foldl_nil]

@[simp] theorem State.startSwap_kept (s : State) (d p spare : Nat) : (State.startSwap s d p spare).kept = s.kept := by
  simp only [State.startSwap]
  repeat' split
  all_goals simp (disch := first | (intros; (repeat' split) <;> simp; done) | fail) [-List.foldl_cons, -List.foldl_nil]

@[simp] theorem State.faultCleared_kept (s : State) (d sl : Nat) : (State.faultCleared s d sl).kept = s.kept := by
  simp only [State.faultCleared]
  repeat' split
  all_goals simp (disch := first | (intros; (repeat' split) <;> simp; done) | fail) [-List.foldl_cons, -List.foldl_nil]

@[simp] theorem State.darnFault_kept (s : State) (d sl : Nat) (startCheck : Bool) : (State.darnFault s d sl startCheck).kept = s.kept := by
  simp only [State.darnFault]
  repeat' split
  all_goals simp (disch := first | (intros; (repeat' split) <;> simp; done) | fail) [-List.foldl_cons, -List.foldl_nil]

@[simp] theorem State.swapReport_kept (s : State) (result d p old new : Nat) : (State.swapReport s result d p old new).kept = s.kept := by
  simp only [State.swapReport]
  repeat' split
  all_goals simp (disch := first | (intros; (repeat' split) <;> simp; done) | fail) [-List.foldl_cons, -List.foldl_nil]

@[simp] theorem State.beginTest_kept (s : State) (kind die unit : Nat) : (State.beginTest s kind die unit).kept = s.kept := by
  simp only [State.beginTest]
  repeat' split
  all_goals simp (disch := first | (intros; (repeat' split) <;> simp; done) | fail) [-List.foldl_cons, -List.foldl_nil]

@[simp] theorem State.setDarned_kept (s : State) (d sl : Nat) (v : Bool) : (State.setDarned s d sl v).kept = s.kept := by
  simp only [State.setDarned]
  repeat' split
  all_goals simp (disch := first | (intros; (repeat' split) <;> simp; done) | fail) [-List.foldl_cons, -List.foldl_nil]

@[simp] theorem State.darnSlice_kept (s : State) (d sl : Nat) : (State.darnSlice s d sl).kept = s.kept := by
  simp only [State.darnSlice]
  repeat' split
  all_goals simp (disch := first | (intros; (repeat' split) <;> simp; done) | fail) [-List.foldl_cons, -List.foldl_nil]

@[simp] theorem State.darnOut_kept (s : State) (w : Swap) : (State.darnOut s w).kept = s.kept := by
  simp only [State.darnOut]
  repeat' split
  all_goals simp (disch := first | (intros; (repeat' split) <;> simp; done) | fail) [-List.foldl_cons, -List.foldl_nil]

@[simp] theorem State.copyPage_kept (s : State) (d old new : Nat) : (State.copyPage s d old new).kept = s.kept := by
  simp only [State.copyPage]
  repeat' split
  all_goals simp (disch := first | (intros; (repeat' split) <;> simp; done) | fail) [-List.foldl_cons, -List.foldl_nil]

@[simp] theorem State.swapTo_kept (s : State) (w : Swap) (spare : Nat) : (State.swapTo s w spare).kept = s.kept := by
  simp only [State.swapTo]
  repeat' split
  all_goals simp (disch := first | (intros; (repeat' split) <;> simp; done) | fail) [-List.foldl_cons, -List.foldl_nil]

@[simp] theorem State.clearFaulted_kept (s : State) (w : Swap) : (State.clearFaulted s w).kept = s.kept := by
  simp only [State.clearFaulted]
  repeat' split
  all_goals simp (disch := first | (intros; (repeat' split) <;> simp; done) | fail) [-List.foldl_cons, -List.foldl_nil]

@[simp] theorem State.takeSpare_kept (s : State) (w : Swap) (x : Nat) : (State.takeSpare s w x).kept = s.kept := by
  simp only [State.takeSpare]
  repeat' split
  all_goals simp (disch := first | (intros; (repeat' split) <;> simp; done) | fail) [-List.foldl_cons, -List.foldl_nil]

@[simp] theorem State.testSpare_kept (s : State) (w : Swap) : (State.testSpare s w).kept = s.kept := by
  simp only [State.testSpare]
  repeat' split
  all_goals simp (disch := first | (intros; (repeat' split) <;> simp; done) | fail) [-List.foldl_cons, -List.foldl_nil]

@[simp] theorem execDarnSwapExecute_kept (die port : Nat) (s : State) : (s.run (execDarnSwapExecute die port)).kept = s.kept := by
  simp only [State.run, execDarnSwapExecute, State.when]
  repeat' split
  all_goals simp (disch := first | (intros; (repeat' split) <;> simp; done) | fail) [-List.foldl_cons, -List.foldl_nil]

@[simp] theorem State.passSpare_kept (s : State) (d sl : Nat) : (State.passSpare s d sl).kept = s.kept := by
  simp only [State.passSpare]
  repeat' split
  all_goals simp (disch := first | (intros; (repeat' split) <;> simp; done) | fail) [-List.foldl_cons, -List.foldl_nil]

@[simp] theorem State.darnTested_kept (s : State) (d sl result : Nat) : (State.darnTested s d sl result).kept = s.kept := by
  simp only [State.darnTested]
  repeat' split
  all_goals simp (disch := first | (intros; (repeat' split) <;> simp; done) | fail) [-List.foldl_cons, -List.foldl_nil]

@[simp] theorem State.endTest_kept (s : State) (kind die unit : Nat) (classes : List Nat) (value : Int) (cw : Bool) : (State.endTest s kind die unit classes value cw).kept = s.kept := by
  simp only [State.endTest]
  repeat' split
  all_goals simp (disch := first | (intros; (repeat' split) <;> simp; done) | fail) [-List.foldl_cons, -List.foldl_nil]

@[simp] theorem execTestEnd_kept (kind die unit : Nat) (classes : List Nat) (value : Int) (cw : Bool) (s : State) : (s.run (execTestEnd kind die unit classes value cw)).kept = s.kept := by
  simp only [State.run, execTestEnd, State.when]
  repeat' split
  all_goals simp (disch := first | (intros; (repeat' split) <;> simp; done) | fail) [-List.foldl_cons, -List.foldl_nil]

@[simp] theorem execDrnSwapCmd_kept (die port slice : Nat) (s : State) : (s.run (execDrnSwapCmd die port slice)).kept = s.kept := by
  simp only [State.run, execDrnSwapCmd, State.hostWrite]
  repeat' split
  all_goals simp (disch := first | (intros; (repeat' split) <;> simp; done) | fail) [-List.foldl_cons, -List.foldl_nil]

@[simp] theorem execDrnUndarn_kept (die slice : Nat) (s : State) : (s.run (execDrnUndarn die slice)).kept = s.kept := by
  simp only [State.run, execDrnUndarn, State.hostWrite]
  repeat' split
  all_goals simp (disch := first | (intros; (repeat' split) <;> simp; done) | fail) [-List.foldl_cons, -List.foldl_nil]

@[simp] theorem execNetfaultClear_kept (die port : Nat) (s : State) : (s.run (execNetfaultClear die port)).kept = s.kept := by
  simp only [State.run, execNetfaultClear, State.hostWrite, State.when]
  repeat' split
  all_goals simp (disch := first | (intros; (repeat' split) <;> simp; done) | fail) [-List.foldl_cons, -List.foldl_nil]

end Sys2Proof.Machine
end

