-- ==== Sys2Proof/Laws/KeptFieldStates.lean ====
section
/-! SUPPORT. What the operations of Machine/FieldStates.lean leave alone. -/

namespace Sys2Proof.Machine

@[simp] theorem State.pageStarted_kept (s : State) (die page : Nat) : (State.pageStarted s die page).kept = s.kept := by
  simp only [State.pageStarted]
  repeat' split
  all_goals simp (disch := first | (intros; (repeat' split) <;> simp; done) | fail) [-List.foldl_cons, -List.foldl_nil]

@[simp] theorem State.releaseOff_kept (s : State) (d sl : Nat) : (State.releaseOff s d sl).kept = s.kept := by
  simp only [State.releaseOff]
  repeat' split
  all_goals simp (disch := first | (intros; (repeat' split) <;> simp; done) | fail) [-List.foldl_cons, -List.foldl_nil]

@[simp] theorem State.chooseAtt_kept (s : State) (d p level : Nat) : (State.chooseAtt s d p level).kept = s.kept := by
  simp only [State.chooseAtt]
  repeat' split
  all_goals simp (disch := first | (intros; (repeat' split) <;> simp; done) | fail) [-List.foldl_cons, -List.foldl_nil]

@[simp] theorem execSliceEnergise_kept (die slice : Nat) (late : Bool) (s : State) : (s.run (execSliceEnergise die slice late)).kept = s.kept := by
  simp only [State.run, execSliceEnergise, State.when]
  repeat' split
  all_goals simp (disch := first | (intros; (repeat' split) <;> simp; done) | fail) [-List.foldl_cons, -List.foldl_nil]

@[simp] theorem State.listenersOn_kept (s : State) (ns : List Nat) : (State.listenersOn s ns).kept = s.kept := by
  simp only [State.listenersOn]
  repeat' split
  all_goals simp (disch := first | (intros; (repeat' split) <;> simp; done) | fail) [-List.foldl_cons, -List.foldl_nil]

@[simp] theorem State.portOn_kept (s : State) (d p : Nat) : (State.portOn s d p).kept = s.kept := by
  simp only [State.portOn]
  repeat' split
  all_goals simp (disch := first | (intros; (repeat' split) <;> simp; done) | fail) [-List.foldl_cons, -List.foldl_nil]

@[simp] theorem execRampUpEnd_kept (die slice : Nat) (s : State) : (s.run (execRampUpEnd die slice)).kept = s.kept := by
  simp only [State.run, execRampUpEnd, State.when]
  repeat' split
  all_goals simp (disch := first | (intros; (repeat' split) <;> simp; done) | fail) [-List.foldl_cons, -List.foldl_nil]

@[simp] theorem execRampDownEnd_kept (die slice : Nat) (s : State) : (s.run (execRampDownEnd die slice)).kept = s.kept := by
  simp only [State.run, execRampDownEnd, State.when]
  repeat' split
  all_goals simp (disch := first | (intros; (repeat' split) <;> simp; done) | fail) [-List.foldl_cons, -List.foldl_nil]

@[simp] theorem State.guardOff_kept (s : State) (d sl : Nat) : (State.guardOff s d sl).kept = s.kept := by
  simp only [State.guardOff]
  repeat' split
  all_goals simp (disch := first | (intros; (repeat' split) <;> simp; done) | fail) [-List.foldl_cons, -List.foldl_nil]

@[simp] theorem execGuardEnd_kept (die slice : Nat) (s : State) : (s.run (execGuardEnd die slice)).kept = s.kept := by
  simp only [State.run, execGuardEnd, State.when]
  repeat' split
  all_goals simp (disch := first | (intros; (repeat' split) <;> simp; done) | fail) [-List.foldl_cons, -List.foldl_nil]

@[simp] theorem execOvercurrent_kept (die slice : Nat) (s : State) : (s.run (execOvercurrent die slice)).kept = s.kept := by
  simp only [State.run, execOvercurrent, State.when]
  repeat' split
  all_goals simp (disch := first | (intros; (repeat' split) <;> simp; done) | fail) [-List.foldl_cons, -List.foldl_nil]

@[simp] theorem execOpenLoad_kept (die slice : Nat) (s : State) : (s.run (execOpenLoad die slice)).kept = s.kept := by
  simp only [State.run, execOpenLoad, State.when]
  repeat' split
  all_goals simp (disch := first | (intros; (repeat' split) <;> simp; done) | fail) [-List.foldl_cons, -List.foldl_nil]

@[simp] theorem execSliceStartCheck_kept (die slice : Nat) (pass : Bool) (s : State) : (s.run (execSliceStartCheck die slice pass)).kept = s.kept := by
  simp only [State.run, execSliceStartCheck, State.when]
  repeat' split
  all_goals simp (disch := first | (intros; (repeat' split) <;> simp; done) | fail) [-List.foldl_cons, -List.foldl_nil]

end Sys2Proof.Machine
end

