-- ==== Sys2Proof/Laws/KeptFrames.lean ====
section
/-! SUPPORT. What the operations of Machine/Frames.lean leave alone. -/

namespace Sys2Proof.Machine

@[simp] theorem State.modulate_kept (s : State) (l : List (Nat × Nat)) : (State.modulate s l).kept = s.kept := by
  simp only [State.modulate]
  repeat' split
  all_goals simp (disch := first | (intros; (repeat' split) <;> simp; done) | fail) [-List.foldl_cons, -List.foldl_nil]

@[simp] theorem State.demodulated_kept (s : State) (l : List (Nat × Nat)) : (State.demodulated s l).kept = s.kept := by
  simp only [State.demodulated]
  repeat' split
  all_goals simp (disch := first | (intros; (repeat' split) <;> simp; done) | fail) [-List.foldl_cons, -List.foldl_nil]

@[simp] theorem State.windowOver_kept (s : State) : (State.windowOver s).kept = s.kept := by
  simp only [State.windowOver]
  repeat' split
  all_goals simp (disch := first | (intros; (repeat' split) <;> simp; done) | fail) [-List.foldl_cons, -List.foldl_nil]

@[simp] theorem State.startTx_kept (s : State) (d p : Nat) (e : Exch) : (State.startTx s d p e).kept = s.kept := by
  simp only [State.startTx]
  repeat' split
  all_goals simp (disch := first | (intros; (repeat' split) <;> simp; done) | fail) [-List.foldl_cons, -List.foldl_nil]

@[simp] theorem execSettleEnd_kept (die port : Nat) (s : State) : (s.run (execSettleEnd die port)).kept = s.kept := by
  simp only [State.run, execSettleEnd]
  repeat' split
  all_goals simp (disch := first | (intros; (repeat' split) <;> simp; done) | fail) [-List.foldl_cons, -List.foldl_nil]

@[simp] theorem State.applyAtOn_kept (s : State) (l : List (Nat × Nat × Drive)) : (State.applyAtOn s l).kept = s.kept := by
  simp only [State.applyAtOn]
  repeat' split
  all_goals simp (disch := first | (intros; (repeat' split) <;> simp; done) | fail) [-List.foldl_cons, -List.foldl_nil]

@[simp] theorem execTurnaroundGapEnd_kept (die port : Nat) (s : State) : (s.run (execTurnaroundGapEnd die port)).kept = s.kept := by
  simp only [State.run, execTurnaroundGapEnd]
  repeat' split
  all_goals simp (disch := first | (intros; (repeat' split) <;> simp; done) | fail) [-List.foldl_cons, -List.foldl_nil]

@[simp] theorem State.residual_kept (s : State) (d p level : Nat) (resid : Option Nat) : (State.residual s d p level resid).kept = s.kept := by
  simp only [State.residual]
  repeat' split
  all_goals simp (disch := first | (intros; (repeat' split) <;> simp; done) | fail) [-List.foldl_cons, -List.foldl_nil]

@[simp] theorem State.txEnd_kept (s : State) (d p : Nat) (e : Exch) (resid : List (Nat × Nat)) : (State.txEnd s d p e resid).kept = s.kept := by
  simp only [State.txEnd]
  repeat' split
  all_goals simp (disch := first | (intros; (repeat' split) <;> simp; done) | fail) [-List.foldl_cons, -List.foldl_nil]

@[simp] theorem State.attemptEnd_kept (s : State) (d p : Nat) (e : Exch) (r : Result) : (State.attemptEnd s d p e r).kept = s.kept := by
  simp only [State.attemptEnd]
  repeat' split
  all_goals simp (disch := first | (intros; (repeat' split) <;> simp; done) | fail) [-List.foldl_cons, -List.foldl_nil]

@[simp] theorem execReplyStart_kept (die port fdt ampl angle : Nat) (s : State) : (s.run (execReplyStart die port fdt ampl angle)).kept = s.kept := by
  simp only [State.run, execReplyStart]
  repeat' split
  all_goals simp (disch := first | (intros; (repeat' split) <;> simp; done) | fail) [-List.foldl_cons, -List.foldl_nil]

@[simp] theorem State.actGo_kept (s : State) (d p : Nat) (e : Exch) (n : ActNext) : (State.actGo s d p e n).kept = s.kept := by
  simp only [State.actGo]
  repeat' split
  all_goals simp (disch := first | (intros; (repeat' split) <;> simp; done) | fail) [-List.foldl_cons, -List.foldl_nil]

@[simp] theorem execRetryStart_kept (die port : Nat) (s : State) : (s.run (execRetryStart die port)).kept = s.kept := by
  simp only [State.run, execRetryStart]
  repeat' split
  all_goals simp (disch := first | (intros; (repeat' split) <;> simp; done) | fail) [-List.foldl_cons, -List.foldl_nil]

@[simp] theorem execEofReqSend_kept (die port : Nat) (s : State) : (s.run (execEofReqSend die port)).kept = s.kept := by
  simp only [State.run, execEofReqSend]
  repeat' split
  all_goals simp (disch := first | (intros; (repeat' split) <;> simp; done) | fail) [-List.foldl_cons, -List.foldl_nil]

@[simp] theorem execActivateNextCommand_kept (die port : Nat) (s : State) : (s.run (execActivateNextCommand die port)).kept = s.kept := by
  simp only [State.run, execActivateNextCommand]
  repeat' split
  all_goals simp (disch := first | (intros; (repeat' split) <;> simp; done) | fail) [-List.foldl_cons, -List.foldl_nil]

@[simp] theorem execFieldHoldExpiry_kept (die port : Nat) (s : State) : (s.run (execFieldHoldExpiry die port)).kept = s.kept := by
  simp only [State.run, execFieldHoldExpiry, State.when]
  repeat' split
  all_goals simp (disch := first | (intros; (repeat' split) <;> simp; done) | fail) [-List.foldl_cons, -List.foldl_nil]

@[simp] theorem execXenHoldEnd_kept (die : Nat) (value : Word) (s : State) : (s.run (execXenHoldEnd die value)).kept = s.kept := by
  simp only [State.run, execXenHoldEnd, State.hostWrite, State.when]
  repeat' split
  all_goals simp (disch := first | (intros; (repeat' split) <;> simp; done) | fail) [-List.foldl_cons, -List.foldl_nil]

@[simp] theorem execStreamGap_kept (die port listener : Nat) (s : State) : (s.run (execStreamGap die port listener)).kept = s.kept := by
  simp only [State.run, execStreamGap]
  repeat' split
  all_goals simp (disch := first | (intros; (repeat' split) <;> simp; done) | fail) [-List.foldl_cons, -List.foldl_nil]

@[simp] theorem State.setTerm_kept (s : State) (n entry : Nat) (v : Nat × Nat) : (State.setTerm s n entry v).kept = s.kept := by
  simp only [State.setTerm]
  repeat' split
  all_goals simp (disch := first | (intros; (repeat' split) <;> simp; done) | fail) [-List.foldl_cons, -List.foldl_nil]

@[simp] theorem State.switchTerm_kept (s : State) (die port entry : Nat) (c : TermChange) : (State.switchTerm s die port entry c).kept = s.kept := by
  simp only [State.switchTerm]
  repeat' split
  all_goals simp (disch := first | (intros; (repeat' split) <;> simp; done) | fail) [-List.foldl_cons, -List.foldl_nil]

@[simp] theorem execNeighbourTermSwitch_kept (die port entry : Nat) (late : Bool) (s : State) : (s.run (execNeighbourTermSwitch die port entry late)).kept = s.kept := by
  simp only [State.run, execNeighbourTermSwitch, State.when]
  repeat' split
  all_goals simp (disch := first | (intros; (repeat' split) <;> simp; done) | fail) [-List.foldl_cons, -List.foldl_nil]

end Sys2Proof.Machine
end

