-- ==== Sys2Proof/Laws/KeptWake.lean ====
section
/-! SUPPORT. What the operations of Machine/Wake.lean leave alone. -/

namespace Sys2Proof.Machine

@[simp] theorem State.releasePads_kept (s : State) (groups : Nat) : (State.releasePads s groups).kept = s.kept := by
  simp only [State.releasePads]
  repeat' split
  all_goals simp (disch := first | (intros; (repeat' split) <;> simp; done) | fail) [-List.foldl_cons, -List.foldl_nil]

@[simp] theorem State.setPhase_kept (s : State) (ph : EntryPhase) : (State.setPhase s ph).kept = s.kept := by
  simp only [State.setPhase]
  repeat' split
  all_goals simp (disch := first | (intros; (repeat' split) <;> simp; done) | fail) [-List.foldl_cons, -List.foldl_nil]

@[simp] theorem State.recordWake_kept (s : State) (aborted : Bool) (left src detail : Nat) : (State.recordWake s aborted left src detail).kept = s.kept := by
  simp only [State.recordWake]
  repeat' split
  all_goals simp (disch := first | (intros; (repeat' split) <;> simp; done) | fail) [-List.foldl_cons, -List.foldl_nil]

@[simp] theorem State.wakeBy_kept (s : State) (src detail : Nat) : (State.wakeBy s src detail).kept = s.kept := by
  simp only [State.wakeBy]
  repeat' split
  all_goals simp (disch := first | (intros; (repeat' split) <;> simp; done) | fail) [-List.foldl_cons, -List.foldl_nil]

@[simp] theorem execWakePinAssert_kept (high : Bool) (periods : Nat) (s : State) : (s.run (execWakePinAssert high periods)).kept = s.kept := by
  simp only [State.run, execWakePinAssert, State.when]
  repeat' split
  all_goals simp (disch := first | (intros; (repeat' split) <;> simp; done) | fail) [-List.foldl_cons, -List.foldl_nil]

end Sys2Proof.Machine
end

