-- ==== Sys2Proof/Laws/KeptWatch.lean ====
section
/-! SUPPORT. What the operations of Machine/Watch.lean leave alone. -/

namespace Sys2Proof.Machine

@[simp] theorem State.freeDiv_kept (s : State) (a b : Int) : (State.freeDiv s a b).1.kept = s.kept := by
  simp only [State.freeDiv]
  repeat' split
  all_goals simp (disch := first | (intros; (repeat' split) <;> simp; done) | fail) [-List.foldl_cons, -List.foldl_nil]

@[simp] theorem execProbeDue_kept (die port : Nat) (s : State) : (s.run (execProbeDue die port)).kept = s.kept := by
  simp only [State.run, execProbeDue, State.when]
  repeat' split
  all_goals simp (disch := first | (intros; (repeat' split) <;> simp; done) | fail) [-List.foldl_cons, -List.foldl_nil]

@[simp] theorem State.takeBaseline_kept (s : State) (d p : Nat) : (State.takeBaseline s d p).kept = s.kept := by
  simp only [State.takeBaseline]
  repeat' split
  all_goals simp (disch := first | (intros; (repeat' split) <;> simp; done) | fail) [-List.foldl_cons, -List.foldl_nil]

@[simp] theorem State.takeBase_kept (s : State) (d p : Nat) : (State.takeBase s d p).1.kept = s.kept := by
  simp only [State.takeBase]
  repeat' split
  all_goals simp (disch := first | (intros; (repeat' split) <;> simp; done) | fail) [-List.foldl_cons, -List.foldl_nil]

@[simp] theorem State.watchRecord_kept (s : State) (d p event : Nat) (woke : Bool) (base : Int × Int) (n : Nat) : (State.watchRecord s d p event woke base n).1.kept = s.kept := by
  simp only [State.watchRecord]
  repeat' split
  all_goals simp (disch := first | (intros; (repeat' split) <;> simp; done) | fail) [-List.foldl_cons, -List.foldl_nil]

@[simp] theorem State.track_kept (s : State) (d p : Nat) (trk calib meas : Int) : (State.track s d p trk calib meas).1.kept = s.kept := by
  simp only [State.track]
  repeat' split
  all_goals simp (disch := first | (intros; (repeat' split) <;> simp; done) | fail) [-List.foldl_cons, -List.foldl_nil]

@[simp] theorem State.showBase_kept (s : State) (d p : Nat) : (State.showBase s d p).kept = s.kept := by
  simp only [State.showBase]
  repeat' split
  all_goals simp (disch := first | (intros; (repeat' split) <;> simp; done) | fail) [-List.foldl_cons, -List.foldl_nil]

@[simp] theorem State.learnProbe_kept (s : State) (d p : Nat) (ampl detune : Int) : (State.learnProbe s d p ampl detune).kept = s.kept := by
  simp only [State.learnProbe]
  repeat' split
  all_goals simp (disch := first | (intros; (repeat' split) <;> simp; done) | fail) [-List.foldl_cons, -List.foldl_nil]

@[simp] theorem State.detect_kept (s : State) (d p n : Nat) (base : Int × Int) : (State.detect s d p n base).1.kept = s.kept := by
  simp only [State.detect]
  repeat' split
  all_goals simp (disch := first | (intros; (repeat' split) <;> simp; done) | fail) [-List.foldl_cons, -List.foldl_nil]

@[simp] theorem State.keepProbe_kept (s : State) (d p : Nat) (ampl detune : Int) : (State.keepProbe s d p ampl detune).1.kept = s.kept := by
  simp only [State.keepProbe]
  repeat' split
  all_goals simp (disch := first | (intros; (repeat' split) <;> simp; done) | fail) [-List.foldl_cons, -List.foldl_nil]

@[simp] theorem State.evalProbe_kept (s : State) (d p : Nat) (ampl detune : Int) : (State.evalProbe s d p ampl detune).1.kept = s.kept := by
  simp only [State.evalProbe]
  repeat' split
  all_goals simp (disch := first | (intros; (repeat' split) <;> simp; done) | fail) [-List.foldl_cons, -List.foldl_nil]

@[simp] theorem State.judgeProbe_kept (s : State) (d p : Nat) (ampl detune : Int) : (State.judgeProbe s d p ampl detune).1.kept = s.kept := by
  simp only [State.judgeProbe]
  repeat' split
  all_goals simp (disch := first | (intros; (repeat' split) <;> simp; done) | fail) [-List.foldl_cons, -List.foldl_nil]

@[simp] theorem execProbeEnd_kept (die port ampl : Nat) (detune : Int) (s : State) : (s.run (execProbeEnd die port ampl detune)).kept = s.kept := by
  simp only [State.run, execProbeEnd]
  repeat' split
  all_goals simp (disch := first | (intros; (repeat' split) <;> simp; done) | fail) [-List.foldl_cons, -List.foldl_nil]

@[simp] theorem execWatchAbsorb_kept (die port : Nat) (s : State) : (s.run (execWatchAbsorb die port)).kept = s.kept := by
  simp only [State.run, execWatchAbsorb, State.when]
  repeat' split
  all_goals simp (disch := first | (intros; (repeat' split) <;> simp; done) | fail) [-List.foldl_cons, -List.foldl_nil]

@[simp] theorem execWatchTempSample_kept (die : Nat) (temp : Int) (s : State) : (s.run (execWatchTempSample die temp)).kept = s.kept := by
  simp only [State.run, execWatchTempSample, State.when]
  repeat' split
  all_goals simp (disch := first | (intros; (repeat' split) <;> simp; done) | fail) [-List.foldl_cons, -List.foldl_nil]

end Sys2Proof.Machine
end

