-- ==== Sys2Proof/Laws/KeptRadio.lean ====
section
/-! SUPPORT. What the operations of Machine/Radio.lean leave alone. -/

namespace Sys2Proof.Machine

@[simp] theorem State.setRx_kept (s : State) (st : Nat) : (State.setRx s st).kept = s.kept := by
  simp only [State.setRx]
  repeat' split
  all_goals simp (disch := first | (intros; (repeat' split) <;> simp; done) | fail) [-List.foldl_cons, -List.foldl_nil]

@[simp] theorem State.queueRadio_kept (s : State) (c : RadioCmd) : (State.queueRadio s c).kept = s.kept := by
  simp only [State.queueRadio]
  repeat' split
  all_goals simp (disch := first | (intros; (repeat' split) <;> simp; done) | fail) [-List.foldl_cons, -List.foldl_nil]

@[simp] theorem State.radioCmd_kept (s : State) (code after : Nat) (pri : Bool) (template channel ticket : Nat) : (State.radioCmd s code after pri template channel ticket).kept = s.kept := by
  simp only [State.radioCmd, State.hostWrite]
  repeat' split
  all_goals simp (disch := first | (intros; (repeat' split) <;> simp; done) | fail) [-List.foldl_cons, -List.foldl_nil]

@[simp] theorem execRadioCmdSleep_kept (s : State) : (s.run execRadioCmdSleep).kept = s.kept := by
  simp only [State.run, execRadioCmdSleep]
  repeat' split
  all_goals simp (disch := first | (intros; (repeat' split) <;> simp; done) | fail) [-List.foldl_cons, -List.foldl_nil]

@[simp] theorem execRadioCmdStandby_kept (s : State) : (s.run execRadioCmdStandby).kept = s.kept := by
  simp only [State.run, execRadioCmdStandby]
  repeat' split
  all_goals simp (disch := first | (intros; (repeat' split) <;> simp; done) | fail) [-List.foldl_cons, -List.foldl_nil]

@[simp] theorem execRadioCmdSynth_kept (channel : Nat) (s : State) : (s.run (execRadioCmdSynth channel)).kept = s.kept := by
  simp only [State.run, execRadioCmdSynth]
  repeat' split
  all_goals simp (disch := first | (intros; (repeat' split) <;> simp; done) | fail) [-List.foldl_cons, -List.foldl_nil]

@[simp] theorem execRadioCmdRx_kept (channel : Nat) (s : State) : (s.run (execRadioCmdRx channel)).kept = s.kept := by
  simp only [State.run, execRadioCmdRx]
  repeat' split
  all_goals simp (disch := first | (intros; (repeat' split) <;> simp; done) | fail) [-List.foldl_cons, -List.foldl_nil]

@[simp] theorem execRadioCmdTx_kept (after : Nat) (pri : Bool) (template channel ticket : Nat) (s : State) : (s.run (execRadioCmdTx after pri template channel ticket)).kept = s.kept := by
  simp only [State.run, execRadioCmdTx]
  repeat' split
  all_goals simp (disch := first | (intros; (repeat' split) <;> simp; done) | fail) [-List.foldl_cons, -List.foldl_nil]

@[simp] theorem execRadioCmdCal_kept (channel : Nat) (s : State) : (s.run (execRadioCmdCal channel)).kept = s.kept := by
  simp only [State.run, execRadioCmdCal]
  repeat' split
  all_goals simp (disch := first | (intros; (repeat' split) <;> simp; done) | fail) [-List.foldl_cons, -List.foldl_nil]

@[simp] theorem execRadioCmdCalAll_kept (s : State) : (s.run execRadioCmdCalAll).kept = s.kept := by
  simp only [State.run, execRadioCmdCalAll]
  repeat' split
  all_goals simp (disch := first | (intros; (repeat' split) <;> simp; done) | fail) [-List.foldl_cons, -List.foldl_nil]

@[simp] theorem execRadioCmdFlush_kept (s : State) : (s.run execRadioCmdFlush).kept = s.kept := by
  simp only [State.run, execRadioCmdFlush]
  repeat' split
  all_goals simp (disch := first | (intros; (repeat' split) <;> simp; done) | fail) [-List.foldl_cons, -List.foldl_nil]

@[simp] theorem State.cxRelease_kept (s : State) : (State.cxRelease s).kept = s.kept := by
  simp only [State.cxRelease]
  repeat' split
  all_goals simp (disch := first | (intros; (repeat' split) <;> simp; done) | fail) [-List.foldl_cons, -List.foldl_nil]

@[simp] theorem State.cxAssert_kept (s : State) (pri : Bool) : (State.cxAssert s pri).kept = s.kept := by
  simp only [State.cxAssert]
  repeat' split
  all_goals simp (disch := first | (intros; (repeat' split) <;> simp; done) | fail) [-List.foldl_cons, -List.foldl_nil]

@[simp] theorem State.headFor_kept (s : State) (g : Nat × Nat) : (State.headFor s g).kept = s.kept := by
  simp only [State.headFor]
  repeat' split
  all_goals simp (disch := first | (intros; (repeat' split) <;> simp; done) | fail) [-List.foldl_cons, -List.foldl_nil]

@[simp] theorem State.popRadio_kept (s : State) : (State.popRadio s).kept = s.kept := by
  simp only [State.popRadio]
  repeat' split
  all_goals simp (disch := first | (intros; (repeat' split) <;> simp; done) | fail) [-List.foldl_cons, -List.foldl_nil]

@[simp] theorem State.withdrawTx_kept (s : State) (c : RadioCmd) : (State.withdrawTx s c).kept = s.kept := by
  simp only [State.withdrawTx]
  repeat' split
  all_goals simp (disch := first | (intros; (repeat' split) <;> simp; done) | fail) [-List.foldl_cons, -List.foldl_nil]

@[simp] theorem State.flushTx_kept (s : State) : (State.flushTx s).kept = s.kept := by
  simp only [State.flushTx]
  repeat' split
  all_goals simp (disch := first | (intros; (repeat' split) <;> simp; done) | fail) [-List.foldl_cons, -List.foldl_nil]

@[simp] theorem State.withdrawQueue_kept (s : State) : (State.withdrawQueue s).kept = s.kept := by
  simp only [State.withdrawQueue]
  repeat' split
  all_goals simp (disch := first | (intros; (repeat' split) <;> simp; done) | fail) [-List.foldl_cons, -List.foldl_nil]

@[simp] theorem State.airUnits_kept (s : State) (us : Nat) : (State.airUnits s us).1.kept = s.kept := by
  simp only [State.airUnits]
  repeat' split
  all_goals simp (disch := first | (intros; (repeat' split) <;> simp; done) | fail) [-List.foldl_cons, -List.foldl_nil]

@[simp] theorem State.txStatusEffects_kept (s : State) (status : Nat) : (State.txStatusEffects s status).kept = s.kept := by
  simp only [State.txStatusEffects]
  repeat' split
  all_goals simp (disch := first | (intros; (repeat' split) <;> simp; done) | fail) [-List.foldl_cons, -List.foldl_nil]

@[simp] theorem State.txRecord_kept (s : State) (status : Nat) (c : RadioCmd) (t : TxRun) : (State.txRecord s status c t).kept = s.kept := by
  simp only [State.txRecord]
  repeat' split
  all_goals simp (disch := first | (intros; (repeat' split) <;> simp; done) | fail) [-List.foldl_cons, -List.foldl_nil]

@[simp] theorem State.keySet_kept (s : State) (slot : Nat) (k : List Word) : (State.keySet s slot k).kept = s.kept := by
  simp only [State.keySet]
  repeat' split
  all_goals simp (disch := first | (intros; (repeat' split) <;> simp; done) | fail) [-List.foldl_cons, -List.foldl_nil]

@[simp] theorem State.keyFlush_kept (s : State) : (State.keyFlush s).kept = s.kept := by
  simp only [State.keyFlush]
  repeat' split
  all_goals simp (disch := first | (intros; (repeat' split) <;> simp; done) | fail) [-List.foldl_cons, -List.foldl_nil]

@[simp] theorem State.endTx_kept (s : State) (status : Nat) (late : Bool) : (State.endTx s status late).kept = s.kept := by
  simp only [State.endTx]
  repeat' split
  all_goals simp (disch := first | (intros; (repeat' split) <;> simp; done) | fail) [-List.foldl_cons, -List.foldl_nil]

@[simp] theorem State.noiseField_kept (s : State) (o : Option Int) : (s.noiseField o).1.kept = s.kept := by
  cases o <;> simp [State.noiseField]

@[simp] theorem State.rxRecord_kept (s : State) (r : RxRun) (status fec mode len : Nat) (fofs auth ticket : Nat) (data : List Byte) : (State.rxRecord s r status fec mode len fofs auth ticket data).kept = s.kept := by
  simp only [State.rxRecord]
  repeat' split
  all_goals simp (disch := first | (intros; (repeat' split) <;> simp; done) | fail) [-List.foldl_cons, -List.foldl_nil]

@[simp] theorem State.cutRx_kept (s : State) (status : Nat) : (State.cutRx s status).kept = s.kept := by
  simp only [State.cutRx]
  repeat' split
  all_goals simp (disch := first | (intros; (repeat' split) <;> simp; done) | fail) [-List.foldl_cons, -List.foldl_nil]

@[simp] theorem State.leaveRx_kept (s : State) : (State.leaveRx s).kept = s.kept := by
  simp only [State.leaveRx]
  repeat' split
  all_goals simp (disch := first | (intros; (repeat' split) <;> simp; done) | fail) [-List.foldl_cons, -List.foldl_nil]

@[simp] theorem State.radioSettle_kept (s : State) : (State.radioSettle s).kept = s.kept := by
  simp only [State.radioSettle]
  repeat' split
  all_goals simp (disch := first | (intros; (repeat' split) <;> simp; done) | fail) [-List.foldl_cons, -List.foldl_nil]

@[simp] theorem execRadioStateReached_kept (s : State) : (s.run execRadioStateReached).kept = s.kept := by
  simp only [State.run, execRadioStateReached, State.when]
  repeat' split
  all_goals simp (disch := first | (intros; (repeat' split) <;> simp; done) | fail) [-List.foldl_cons, -List.foldl_nil]

@[simp] theorem State.abandonHop_kept (s : State) : (State.abandonHop s).kept = s.kept := by
  simp only [State.abandonHop]
  repeat' split
  all_goals simp (disch := first | (intros; (repeat' split) <;> simp; done) | fail) [-List.foldl_cons, -List.foldl_nil]

@[simp] theorem execRadioCmdStart_kept (s : State) : (s.run execRadioCmdStart).kept = s.kept := by
  simp only [State.run, execRadioCmdStart, State.when]
  repeat' split
  all_goals simp (disch := first | (intros; (repeat' split) <;> simp; done) | fail) [-List.foldl_cons, -List.foldl_nil]

@[simp] theorem execTxCreditReserved_kept (s : State) : (s.run execTxCreditReserved).kept = s.kept := by
  simp only [State.run, execTxCreditReserved, State.when]
  repeat' split
  all_goals simp (disch := first | (intros; (repeat' split) <;> simp; done) | fail) [-List.foldl_cons, -List.foldl_nil]

@[simp] theorem State.resumeCounter_kept (s : State) : (State.resumeCounter s).kept = s.kept := by
  simp only [State.resumeCounter]
  repeat' split
  all_goals simp (disch := first | (intros; (repeat' split) <;> simp; done) | fail) [-List.foldl_cons, -List.foldl_nil]

@[simp] theorem State.nextCounter_kept (s : State) : (State.nextCounter s).kept = s.kept := by
  simp only [State.nextCounter]
  repeat' split
  all_goals simp (disch := first | (intros; (repeat' split) <;> simp; done) | fail) [-List.foldl_cons, -List.foldl_nil]

@[simp] theorem execTxRampStart_kept (s : State) : (s.run execTxRampStart).kept = s.kept := by
  simp only [State.run, execTxRampStart, State.when]
  repeat' split
  all_goals simp (disch := first | (intros; (repeat' split) <;> simp; done) | fail) [-List.foldl_cons, -List.foldl_nil]

@[simp] theorem execTxLastChip_kept (s : State) : (s.run execTxLastChip).kept = s.kept := by
  simp only [State.run, execTxLastChip, State.when]
  repeat' split
  all_goals simp (disch := first | (intros; (repeat' split) <;> simp; done) | fail) [-List.foldl_cons, -List.foldl_nil]

@[simp] theorem execTxSynthDeadline_kept (s : State) : (s.run execTxSynthDeadline).kept = s.kept := by
  simp only [State.run, execTxSynthDeadline, State.when]
  repeat' split
  all_goals simp (disch := first | (intros; (repeat' split) <;> simp; done) | fail) [-List.foldl_cons, -List.foldl_nil]

@[simp] theorem execSynthLockLoss_kept (s : State) : (s.run execSynthLockLoss).kept = s.kept := by
  simp only [State.run, execSynthLockLoss, State.when]
  repeat' split
  all_goals simp (disch := first | (intros; (repeat' split) <;> simp; done) | fail) [-List.foldl_cons, -List.foldl_nil]

@[simp] theorem execCoexGrantTimeout_kept (s : State) : (s.run execCoexGrantTimeout).kept = s.kept := by
  simp only [State.run, execCoexGrantTimeout, State.when]
  repeat' split
  all_goals simp (disch := first | (intros; (repeat' split) <;> simp; done) | fail) [-List.foldl_cons, -List.foldl_nil]

@[simp] theorem execCxgntAssert_kept (s : State) : (s.run execCxgntAssert).kept = s.kept := by
  simp only [State.run, execCxgntAssert]
  repeat' split
  all_goals simp (disch := first | (intros; (repeat' split) <;> simp; done) | fail) [-List.foldl_cons, -List.foldl_nil]

@[simp] theorem execCxgntWithdraw_kept (s : State) : (s.run execCxgntWithdraw).kept = s.kept := by
  simp only [State.run, execCxgntWithdraw]
  repeat' split
  all_goals simp (disch := first | (intros; (repeat' split) <;> simp; done) | fail) [-List.foldl_cons, -List.foldl_nil]

@[simp] theorem execMaskMeasure_kept (below : List Nat) (s : State) : (s.run (execMaskMeasure below)).kept = s.kept := by
  simp only [State.run, execMaskMeasure, State.when]
  repeat' split
  all_goals simp (disch := first | (intros; (repeat' split) <;> simp; done) | fail) [-List.foldl_cons, -List.foldl_nil]

@[simp] theorem execHopCalEnd_kept (entry : Nat) (temp band gain : Int) (s : State) : (s.run (execHopCalEnd entry temp band gain)).kept = s.kept := by
  simp only [State.run, execHopCalEnd, State.when]
  repeat' split
  all_goals simp (disch := first | (intros; (repeat' split) <;> simp; done) | fail) [-List.foldl_cons, -List.foldl_nil]

@[simp] theorem execHopCalBackground_kept (entry : Nat) (s : State) : (s.run (execHopCalBackground entry)).kept = s.kept := by
  simp only [State.run, execHopCalBackground, State.when]
  repeat' split
  all_goals simp (disch := first | (intros; (repeat' split) <;> simp; done) | fail) [-List.foldl_cons, -List.foldl_nil]

@[simp] theorem execDutyClockSecond_kept (s : State) : (s.run execDutyClockSecond).kept = s.kept := by
  simp only [State.run, execDutyClockSecond, State.when]
  repeat' split
  all_goals simp (disch := first | (intros; (repeat' split) <;> simp; done) | fail) [-List.foldl_cons, -List.foldl_nil]

@[simp] theorem State.keyOp_kept (s : State) (slot : Nat) (k : List Word) : (State.keyOp s slot k).kept = s.kept := by
  simp only [State.keyOp]
  repeat' split
  all_goals simp (disch := first | (intros; (repeat' split) <;> simp; done) | fail) [-List.foldl_cons, -List.foldl_nil]

@[simp] theorem execSecKeyLoad_kept (slot : Nat) (s : State) : (s.run (execSecKeyLoad slot)).kept = s.kept := by
  simp only [State.run, execSecKeyLoad, State.hostWrite, State.when]
  repeat' split
  all_goals simp (disch := first | (intros; (repeat' split) <;> simp; done) | fail) [-List.foldl_cons, -List.foldl_nil]

@[simp] theorem execSecKeyErase_kept (slot : Nat) (s : State) : (s.run (execSecKeyErase slot)).kept = s.kept := by
  simp only [State.run, execSecKeyErase, State.hostWrite, State.when]
  repeat' split
  all_goals simp (disch := first | (intros; (repeat' split) <;> simp; done) | fail) [-List.foldl_cons, -List.foldl_nil]

end Sys2Proof.Machine
end

