-- ==== Sys2Proof/Laws/KeptRadioRx.lean ====
section
/-! SUPPORT. What the operations of Machine/RadioRx.lean leave alone. -/

namespace Sys2Proof.Machine

@[simp] theorem execRxRssiDetect_kept (rssi : Int) (s : State) : (s.run (execRxRssiDetect rssi)).kept = s.kept := by
  simp only [State.run, execRxRssiDetect, State.when]
  repeat' split
  all_goals simp (disch := first | (intros; (repeat' split) <;> simp; done) | fail) [-List.foldl_cons, -List.foldl_nil]

@[simp] theorem execRxPreambleQualified_kept (s : State) : (s.run execRxPreambleQualified).kept = s.kept := by
  simp only [State.run, execRxPreambleQualified, State.when]
  repeat' split
  all_goals simp (disch := first | (intros; (repeat' split) <;> simp; done) | fail) [-List.foldl_cons, -List.foldl_nil]

@[simp] theorem execRxDetectTimeout_kept (symbols : Nat) (rssi : Int) (s : State) : (s.run (execRxDetectTimeout symbols rssi)).kept = s.kept := by
  simp only [State.run, execRxDetectTimeout, State.when]
  repeat' split
  all_goals simp (disch := first | (intros; (repeat' split) <;> simp; done) | fail) [-List.foldl_cons, -List.foldl_nil]

@[simp] theorem execRxSfdTimeout_kept (s : State) : (s.run execRxSfdTimeout).kept = s.kept := by
  simp only [State.run, execRxSfdTimeout, State.when]
  repeat' split
  all_goals simp (disch := first | (intros; (repeat' split) <;> simp; done) | fail) [-List.foldl_cons, -List.foldl_nil]

@[simp] theorem State.rxRefused_kept (s : State) : (State.rxRefused s).kept = s.kept := by
  simp only [State.rxRefused]
  repeat' split
  all_goals simp (disch := first | (intros; (repeat' split) <;> simp; done) | fail) [-List.foldl_cons, -List.foldl_nil]

@[simp] theorem State.beginRx_kept (s : State) (noqual : Bool) (st : Nat) : (State.beginRx s noqual st).kept = s.kept := by
  simp only [State.beginRx]
  repeat' split
  all_goals simp (disch := first | (intros; (repeat' split) <;> simp; done) | fail) [-List.foldl_cons, -List.foldl_nil]

@[simp] theorem State.latchRssi_kept (s : State) (rssi : Int) : (State.latchRssi s rssi).kept = s.kept := by
  simp only [State.latchRssi]
  repeat' split
  all_goals simp (disch := first | (intros; (repeat' split) <;> simp; done) | fail) [-List.foldl_cons, -List.foldl_nil]

@[simp] theorem execRxSfdFound_kept (rssi : Int) (s : State) : (s.run (execRxSfdFound rssi)).kept = s.kept := by
  simp only [State.run, execRxSfdFound, State.when]
  repeat' split
  all_goals simp (disch := first | (intros; (repeat' split) <;> simp; done) | fail) [-List.foldl_cons, -List.foldl_nil]

@[simp] theorem execRxFreeSfd_kept (s : State) : (s.run execRxFreeSfd).kept = s.kept := by
  simp only [State.run, execRxFreeSfd, State.when]
  repeat' split
  all_goals simp (disch := first | (intros; (repeat' split) <;> simp; done) | fail) [-List.foldl_cons, -List.foldl_nil]

@[simp] theorem execRxCapture_kept (rssi : Int) (ownWord : Bool) (s : State) : (s.run (execRxCapture rssi ownWord)).kept = s.kept := by
  simp only [State.run, execRxCapture, State.when]
  repeat' split
  all_goals simp (disch := first | (intros; (repeat' split) <;> simp; done) | fail) [-List.foldl_cons, -List.foldl_nil]

@[simp] theorem execRxAgcRerunEnd_kept (rssi : Int) (step : Nat) (s : State) : (s.run (execRxAgcRerunEnd rssi step)).kept = s.kept := by
  simp only [State.run, execRxAgcRerunEnd, State.when]
  repeat' split
  all_goals simp (disch := first | (intros; (repeat' split) <;> simp; done) | fail) [-List.foldl_cons, -List.foldl_nil]

@[simp] theorem State.dropRx_kept (s : State) (r : RxRun) : (State.dropRx s r).kept = s.kept := by
  simp only [State.dropRx]
  repeat' split
  all_goals simp (disch := first | (intros; (repeat' split) <;> simp; done) | fail) [-List.foldl_cons, -List.foldl_nil]

@[simp] theorem execRxHeaderEnd_kept (header : Nat) (fofs : Int) (s : State) : (s.run (execRxHeaderEnd header fofs)).kept = s.kept := by
  simp only [State.run, execRxHeaderEnd, State.when]
  repeat' split
  all_goals simp (disch := first | (intros; (repeat' split) <;> simp; done) | fail) [-List.foldl_cons, -List.foldl_nil]

@[simp] theorem State.rxSecurity_kept (s : State) (pl : List Byte) : (State.rxSecurity s pl).1.kept = s.kept := by
  simp only [State.rxSecurity]
  repeat' split
  all_goals simp (disch := first | (intros; (repeat' split) <;> simp; done) | fail) [-List.foldl_cons, -List.foldl_nil]

@[simp] theorem State.rxBuffer_kept (s : State) (r : RxRun) (payload : List Byte) : (State.rxBuffer s r payload).kept = s.kept := by
  simp only [State.rxBuffer]
  repeat' split
  all_goals simp (disch := first | (intros; (repeat' split) <;> simp; done) | fail) [-List.foldl_cons, -List.foldl_nil]

@[simp] theorem execRxPayloadEnd_kept (payload : List Byte) (s : State) : (s.run (execRxPayloadEnd payload)).kept = s.kept := by
  simp only [State.run, execRxPayloadEnd, State.when]
  repeat' split
  all_goals simp (disch := first | (intros; (repeat' split) <;> simp; done) | fail) [-List.foldl_cons, -List.foldl_nil]

@[simp] theorem execRssiUpdate_kept (rssi : Int) (step : Nat) (s : State) : (s.run (execRssiUpdate rssi step)).kept = s.kept := by
  simp only [State.run, execRssiUpdate, State.when]
  repeat' split
  all_goals simp (disch := first | (intros; (repeat' split) <;> simp; done) | fail) [-List.foldl_cons, -List.foldl_nil]

end Sys2Proof.Machine
end

