-- ==== Sys2Proof/Laws/KeptSensor.lean ====
section
/-! SUPPORT. What the operations of Machine/Sensor.lean leave alone. -/

namespace Sys2Proof.Machine

@[simp] theorem State.sscEnd_kept (s : State) (e : SscEntry) (status : Nat) (input : List Word) (moved : Bool) : (State.sscEnd s e status input moved).kept = s.kept := by
  simp only [State.sscEnd]
  repeat' split
  all_goals simp (disch := first | (intros; (repeat' split) <;> simp; done) | fail) [-List.foldl_cons, -List.foldl_nil]

@[simp] theorem State.sscPop_kept (s : State) : (State.sscPop s).kept = s.kept := by
  simp only [State.sscPop]
  repeat' split
  all_goals simp (disch := first | (intros; (repeat' split) <;> simp; done) | fail) [-List.foldl_cons, -List.foldl_nil]

@[simp] theorem execSscQpush_kept (tag buf template : Nat) (s : State) : (s.run (execSscQpush tag buf template)).kept = s.kept := by
  simp only [State.run, execSscQpush, State.hostWrite]
  repeat' split
  all_goals simp (disch := first | (intros; (repeat' split) <;> simp; done) | fail) [-List.foldl_cons, -List.foldl_nil]

@[simp] theorem execSscEntryStart_kept (input : List Word) (s : State) : (s.run (execSscEntryStart input)).kept = s.kept := by
  simp only [State.run, execSscEntryStart, State.when]
  repeat' split
  all_goals simp (disch := first | (intros; (repeat' split) <;> simp; done) | fail) [-List.foldl_cons, -List.foldl_nil]

@[simp] theorem execSscEntryEnd_kept (s : State) : (s.run execSscEntryEnd).kept = s.kept := by
  simp only [State.run, execSscEntryEnd, State.when]
  repeat' split
  all_goals simp (disch := first | (intros; (repeat' split) <;> simp; done) | fail) [-List.foldl_cons, -List.foldl_nil]

@[simp] theorem execSscDonePop_kept (s : State) : (s.run execSscDonePop).kept = s.kept := by
  simp only [State.run, execSscDonePop, State.hostWrite]
  repeat' split
  all_goals simp (disch := first | (intros; (repeat' split) <;> simp; done) | fail) [-List.foldl_cons, -List.foldl_nil]

@[simp] theorem State.sscAbort_kept (s : State) : (State.sscAbort s).kept = s.kept := by
  simp only [State.sscAbort]
  repeat' split
  all_goals simp (disch := first | (intros; (repeat' split) <;> simp; done) | fail) [-List.foldl_cons, -List.foldl_nil]

@[simp] theorem State.sscWithdraw_kept (s : State) (l : Nat) : (State.sscWithdraw s l).kept = s.kept := by
  simp only [State.sscWithdraw]
  repeat' split
  all_goals simp (disch := first | (intros; (repeat' split) <;> simp; done) | fail) [-List.foldl_cons, -List.foldl_nil]

@[simp] theorem State.sslUpdate_kept (s : State) : (State.sslUpdate s).kept = s.kept := by
  simp only [State.sslUpdate]
  repeat' split
  all_goals simp (disch := first | (intros; (repeat' split) <;> simp; done) | fail) [-List.foldl_cons, -List.foldl_nil]

@[simp] theorem State.sslReserve_kept (s : State) : (State.sslReserve s).kept = s.kept := by
  simp only [State.sslReserve]
  repeat' split
  all_goals simp (disch := first | (intros; (repeat' split) <;> simp; done) | fail) [-List.foldl_cons, -List.foldl_nil]

@[simp] theorem State.rawRecord_kept (s : State) (last stuck : Bool) : (State.rawRecord s last stuck).kept = s.kept := by
  simp only [State.rawRecord]
  repeat' split
  all_goals simp (disch := first | (intros; (repeat' split) <;> simp; done) | fail) [-List.foldl_cons, -List.foldl_nil]

@[simp] theorem State.sslRefused_kept (s : State) : (State.sslRefused s).kept = s.kept := by
  simp only [State.sslRefused]
  repeat' split
  all_goals simp (disch := first | (intros; (repeat' split) <;> simp; done) | fail) [-List.foldl_cons, -List.foldl_nil]

@[simp] theorem State.sslDeliver_kept (s : State) (input : List Bool) (start : Nat) (part : Bool) : (State.sslDeliver s input start part).kept = s.kept := by
  simp only [State.sslDeliver]
  repeat' split
  all_goals simp (disch := first | (intros; (repeat' split) <;> simp; done) | fail) [-List.foldl_cons, -List.foldl_nil]

@[simp] theorem State.sslFirstEdge_kept (s : State) (start : Nat) : (State.sslFirstEdge s start).kept = s.kept := by
  simp only [State.sslFirstEdge]
  repeat' split
  all_goals simp (disch := first | (intros; (repeat' split) <;> simp; done) | fail) [-List.foldl_cons, -List.foldl_nil]

@[simp] theorem State.sslWordEnd_kept (s : State) (cut : Bool) : (State.sslWordEnd s cut).kept = s.kept := by
  simp only [State.sslWordEnd]
  repeat' split
  all_goals simp (disch := first | (intros; (repeat' split) <;> simp; done) | fail) [-List.foldl_cons, -List.foldl_nil]

@[simp] theorem State.sslBit_kept (s : State) (b : Bool) (start : Nat) : (State.sslBit s b start).kept = s.kept := by
  simp only [State.sslBit]
  repeat' split
  all_goals simp (disch := first | (intros; (repeat' split) <;> simp; done) | fail) [-List.foldl_cons, -List.foldl_nil]

@[simp] theorem execListenerWord_kept (sldi : List (Bool × Bool)) (start : Nat) (s : State) : (s.run (execListenerWord sldi start)).kept = s.kept := by
  simp only [State.run, execListenerWord, State.when]
  repeat' split
  all_goals simp (disch := first | (intros; (repeat' split) <;> simp; done) | fail) [-List.foldl_cons, -List.foldl_nil]

@[simp] theorem State.sslMessageEnd_kept (s : State) (stuck : Bool) : (State.sslMessageEnd s stuck).kept = s.kept := by
  simp only [State.sslMessageEnd]
  repeat' split
  all_goals simp (disch := first | (intros; (repeat' split) <;> simp; done) | fail) [-List.foldl_cons, -List.foldl_nil]

@[simp] theorem execSlselAssert_kept (level : Bool) (ticks : Nat) (s : State) : (s.run (execSlselAssert level ticks)).kept = s.kept := by
  simp only [State.run, execSlselAssert, State.when]
  repeat' split
  all_goals simp (disch := first | (intros; (repeat' split) <;> simp; done) | fail) [-List.foldl_cons, -List.foldl_nil]

@[simp] theorem execSlselRelease_kept (level : Bool) (ticks : Nat) (s : State) : (s.run (execSlselRelease level ticks)).kept = s.kept := by
  simp only [State.run, execSlselRelease, State.when]
  repeat' split
  all_goals simp (disch := first | (intros; (repeat' split) <;> simp; done) | fail) [-List.foldl_cons, -List.foldl_nil]

@[simp] theorem execSelStuck_kept (s : State) : (s.run execSelStuck).kept = s.kept := by
  simp only [State.run, execSelStuck, State.when]
  repeat' split
  all_goals simp (disch := first | (intros; (repeat' split) <;> simp; done) | fail) [-List.foldl_cons, -List.foldl_nil]

@[simp] theorem State.selPolCommitted_kept (s old : State) : (State.selPolCommitted s old).kept = s.kept := by
  simp only [State.selPolCommitted]
  repeat' split
  all_goals simp (disch := first | (intros; (repeat' split) <;> simp; done) | fail) [-List.foldl_cons, -List.foldl_nil]

@[simp] theorem execListenerReserve_kept (s : State) : (s.run execListenerReserve).kept = s.kept := by
  simp only [State.run, execListenerReserve]
  repeat' split
  all_goals simp (disch := first | (intros; (repeat' split) <;> simp; done) | fail) [-List.foldl_cons, -List.foldl_nil]

@[simp] theorem State.sslRelease_kept (s : State) : (State.sslRelease s).kept = s.kept := by
  simp only [State.sslRelease]
  repeat' split
  all_goals simp (disch := first | (intros; (repeat' split) <;> simp; done) | fail) [-List.foldl_cons, -List.foldl_nil]

@[simp] theorem execSafReq_kept (count ch : Nat) (s : State) : (s.run (execSafReq count ch)).kept = s.kept := by
  simp only [State.run, execSafReq, State.hostWrite]
  repeat' split
  all_goals simp (disch := first | (intros; (repeat' split) <;> simp; done) | fail) [-List.foldl_cons, -List.foldl_nil]

@[simp] theorem execSafConvDone_kept (volts : List Int) (s : State) : (s.run (execSafConvDone volts)).kept = s.kept := by
  simp only [State.run, execSafConvDone, State.when]
  repeat' split
  all_goals simp (disch := first | (intros; (repeat' split) <;> simp; done) | fail) [-List.foldl_cons, -List.foldl_nil]

@[simp] theorem State.cmpSettle_kept (s : State) : (State.cmpSettle s).kept = s.kept := by
  simp only [State.cmpSettle]
  repeat' split
  all_goals simp (disch := first | (intros; (repeat' split) <;> simp; done) | fail) [-List.foldl_cons, -List.foldl_nil]

@[simp] theorem State.crossEvent_kept (s : State) (evt : Nat) : (State.crossEvent s evt).kept = s.kept := by
  simp only [State.crossEvent]
  repeat' split
  all_goals simp (disch := first | (intros; (repeat' split) <;> simp; done) | fail) [-List.foldl_cons, -List.foldl_nil]

@[simp] theorem State.crossing_kept (s : State) (k : Nat) (rise : Bool) : (State.crossing s k rise).kept = s.kept := by
  simp only [State.crossing]
  repeat' split
  all_goals simp (disch := first | (intros; (repeat' split) <;> simp; done) | fail) [-List.foldl_cons, -List.foldl_nil]

@[simp] theorem execComparatorStrobe_kept (k : Nat) (level : Int) (s : State) : (s.run (execComparatorStrobe k level)).kept = s.kept := by
  simp only [State.run, execComparatorStrobe, State.when]
  repeat' split
  all_goals simp (disch := first | (intros; (repeat' split) <;> simp; done) | fail) [-List.foldl_cons, -List.foldl_nil]

end Sys2Proof.Machine
end

