-- ==== Sys2Proof/Laws/KeptTimebase.lean ====
section
/-! SUPPORT. What the operations of Machine/Timebase.lean leave alone. -/

namespace Sys2Proof.Machine

@[simp] theorem State.period_kept (s : State) : (State.period s).kept = s.kept := by
  simp only [State.period]
  repeat' split
  all_goals simp (disch := first | (intros; (repeat' split) <;> simp; done) | fail) [-List.foldl_cons, -List.foldl_nil]

@[simp] theorem State.tick_kept (s : State) : (State.tick s).kept = s.kept := by
  simp only [State.tick]
  repeat' split
  all_goals simp (disch := first | (intros; (repeat' split) <;> simp; done) | fail) [-List.foldl_cons, -List.foldl_nil]

@[simp] theorem execRealigned_kept (s : State) : (s.run execRealigned).kept = s.kept := by
  simp only [State.run, execRealigned, State.when]
  repeat' split
  all_goals simp (disch := first | (intros; (repeat' split) <;> simp; done) | fail) [-List.foldl_cons, -List.foldl_nil]

@[simp] theorem execTbsMeasUpdate_kept (count : Nat) (s : State) : (s.run (execTbsMeasUpdate count)).kept = s.kept := by
  simp only [State.run, execTbsMeasUpdate, State.when]
  repeat' split
  all_goals simp (disch := first | (intros; (repeat' split) <;> simp; done) | fail) [-List.foldl_cons, -List.foldl_nil]

@[simp] theorem State.autotrim_kept (s : State) : (State.autotrim s).kept = s.kept := by
  simp only [State.autotrim]
  repeat' split
  all_goals simp (disch := first | (intros; (repeat' split) <;> simp; done) | fail) [-List.foldl_cons, -List.foldl_nil]

@[simp] theorem State.alarmLo_kept (s : State) (n : Nat) (lo : Word) : (State.alarmLo s n lo).kept = s.kept := by
  simp only [State.alarmLo]
  repeat' split
  all_goals simp (disch := first | (intros; (repeat' split) <;> simp; done) | fail) [-List.foldl_cons, -List.foldl_nil]

@[simp] theorem State.setArmed_kept (s : State) (n : Nat) (v : Bool) : (State.setArmed s n v).kept = s.kept := by
  simp only [State.setArmed]
  repeat' split
  all_goals simp (disch := first | (intros; (repeat' split) <;> simp; done) | fail) [-List.foldl_cons, -List.foldl_nil]

@[simp] theorem execTbsAlmHiWrite_kept (alarm : Nat) (hi : Word) (s : State) : (s.run (execTbsAlmHiWrite alarm hi)).kept = s.kept := by
  simp only [State.run, execTbsAlmHiWrite, State.hostWrite, State.when]
  repeat' split
  all_goals simp (disch := first | (intros; (repeat' split) <;> simp; done) | fail) [-List.foldl_cons, -List.foldl_nil]

@[simp] theorem execAlarmFire_kept (alarm : Nat) (s : State) : (s.run (execAlarmFire alarm)).kept = s.kept := by
  simp only [State.run, execAlarmFire, State.when]
  repeat' split
  all_goals simp (disch := first | (intros; (repeat' split) <;> simp; done) | fail) [-List.foldl_cons, -List.foldl_nil]

end Sys2Proof.Machine
end

