-- ==== Sys2Proof/Laws/KeptPages.lean ====
section
/-! SUPPORT. What the operations of Machine/Pages.lean leave alone. -/

namespace Sys2Proof.Machine

@[simp] theorem State.dieUp_kept (s : State) (d : Nat) : (State.dieUp s d).kept = s.kept := by
  simp only [State.dieUp]
  repeat' split
  all_goals simp (disch := first | (intros; (repeat' split) <;> simp; done) | fail) [-List.foldl_cons, -List.foldl_nil]

@[simp] theorem State.touchDie_kept (s : State) (d : Nat) : (State.touchDie s d).kept = s.kept := by
  simp only [State.touchDie]
  repeat' split
  all_goals simp (disch := first | (intros; (repeat' split) <;> simp; done) | fail) [-List.foldl_cons, -List.foldl_nil]

@[simp] theorem State.pageMoved_kept (s : State) (die page : Nat) : (State.pageMoved s die page).kept = s.kept := by
  simp only [State.pageMoved]
  repeat' split
  all_goals simp (disch := first | (intros; (repeat' split) <;> simp; done) | fail) [-List.foldl_cons, -List.foldl_nil]

@[simp] theorem State.pageFault_kept (s : State) (die page : Nat) : (State.pageFault s die page).kept = s.kept := by
  simp only [State.pageFault]
  repeat' split
  all_goals simp (disch := first | (intros; (repeat' split) <;> simp; done) | fail) [-List.foldl_cons, -List.foldl_nil]

@[simp] theorem State.writeEn_kept (s : State) (die page : Nat) (value : Bool) : (State.writeEn s die page value).kept = s.kept := by
  simp only [State.writeEn]
  repeat' split
  all_goals simp (disch := first | (intros; (repeat' split) <;> simp; done) | fail) [-List.foldl_cons, -List.foldl_nil]

@[simp] theorem State.writeDrain_kept (s : State) (die page : Nat) (value : Bool) : (State.writeDrain s die page value).kept = s.kept := by
  simp only [State.writeDrain]
  repeat' split
  all_goals simp (disch := first | (intros; (repeat' split) <;> simp; done) | fail) [-List.foldl_cons, -List.foldl_nil]

@[simp] theorem State.writeCommit_kept (s : State) (die page : Nat) : (State.writeCommit s die page).kept = s.kept := by
  simp only [State.writeCommit]
  repeat' split
  all_goals simp (disch := first | (intros; (repeat' split) <;> simp; done) | fail) [-List.foldl_cons, -List.foldl_nil]

@[simp] theorem State.writeTest_kept (s : State) (die page : Nat) (value : Bool) : (State.writeTest s die page value).kept = s.kept := by
  simp only [State.writeTest]
  repeat' split
  all_goals simp (disch := first | (intros; (repeat' split) <;> simp; done) | fail) [-List.foldl_cons, -List.foldl_nil]

@[simp] theorem execPgCtrlEn_kept (die page : Nat) (value : Bool) (s : State) : (s.run (execPgCtrlEn die page value)).kept = s.kept := by
  simp only [State.run, execPgCtrlEn, State.hostWrite, State.pageAccess]
  repeat' split
  all_goals simp (disch := first | (intros; (repeat' split) <;> simp; done) | fail) [-List.foldl_cons, -List.foldl_nil]

@[simp] theorem execPgCtrlDrain_kept (die page : Nat) (value : Bool) (s : State) : (s.run (execPgCtrlDrain die page value)).kept = s.kept := by
  simp only [State.run, execPgCtrlDrain, State.hostWrite, State.pageAccess]
  repeat' split
  all_goals simp (disch := first | (intros; (repeat' split) <;> simp; done) | fail) [-List.foldl_cons, -List.foldl_nil]

@[simp] theorem execPgCtrlCommit_kept (die page : Nat) (s : State) : (s.run (execPgCtrlCommit die page)).kept = s.kept := by
  simp only [State.run, execPgCtrlCommit, State.hostWrite, State.pageAccess]
  repeat' split
  all_goals simp (disch := first | (intros; (repeat' split) <;> simp; done) | fail) [-List.foldl_cons, -List.foldl_nil]

@[simp] theorem execPgCtrlTest_kept (die page : Nat) (s : State) : (s.run (execPgCtrlTest die page)).kept = s.kept := by
  simp only [State.run, execPgCtrlTest, State.hostWrite, State.pageAccess]
  repeat' split
  all_goals simp (disch := first | (intros; (repeat' split) <;> simp; done) | fail) [-List.foldl_cons, -List.foldl_nil]

@[simp] theorem execPgCtrlLock_kept (die page : Nat) (s : State) : (s.run (execPgCtrlLock die page)).kept = s.kept := by
  simp only [State.run, execPgCtrlLock, State.hostWrite, State.pageAccess]
  repeat' split
  all_goals simp (disch := first | (intros; (repeat' split) <;> simp; done) | fail) [-List.foldl_cons, -List.foldl_nil]

@[simp] theorem State.writeCtrl_kept (s : State) (die page : Nat) (v : Word) : (State.writeCtrl s die page v).kept = s.kept := by
  simp only [State.writeCtrl]
  repeat' split
  all_goals simp (disch := first | (intros; (repeat' split) <;> simp; done) | fail) [-List.foldl_cons, -List.foldl_nil]

@[simp] theorem execPageReady_kept (die page : Nat) (fault : Bool) (s : State) : (s.run (execPageReady die page fault)).kept = s.kept := by
  simp only [State.run, execPageReady, State.when]
  repeat' split
  all_goals simp (disch := first | (intros; (repeat' split) <;> simp; done) | fail) [-List.foldl_cons, -List.foldl_nil]

@[simp] theorem execPageDrainEnd_kept (die page : Nat) (s : State) : (s.run (execPageDrainEnd die page)).kept = s.kept := by
  simp only [State.run, execPageDrainEnd, State.when]
  repeat' split
  all_goals simp (disch := first | (intros; (repeat' split) <;> simp; done) | fail) [-List.foldl_cons, -List.foldl_nil]

@[simp] theorem execPgEvtClear_kept (die page : Nat) (value raised : Word) (s : State) : (s.run (execPgEvtClear die page value raised)).kept = s.kept := by
  simp only [State.run, execPgEvtClear, State.pageAccess]
  repeat' split
  all_goals simp (disch := first | (intros; (repeat' split) <;> simp; done) | fail) [-List.foldl_cons, -List.foldl_nil]

@[simp] theorem execPgFirsterrClear_kept (die page : Nat) (_value : Word) (same : Option Nat) (s : State) : (s.run (execPgFirsterrClear die page _value same)).kept = s.kept := by
  simp only [State.run, execPgFirsterrClear, State.hostWrite, State.pageAccess]
  repeat' split
  all_goals simp (disch := first | (intros; (repeat' split) <;> simp; done) | fail) [-List.foldl_cons, -List.foldl_nil]

@[simp] theorem State.applyShadows_kept (s : State) (f : Nat → Bool) : (State.applyShadows s f).kept = s.kept := by
  simp only [State.applyShadows]
  repeat' split
  all_goals simp (disch := first | (intros; (repeat' split) <;> simp; done) | fail) [-List.foldl_cons, -List.foldl_nil]

@[simp] theorem State.retarget_kept (s : State) (d p k : Nat) : (State.retarget s d p k).kept = s.kept := by
  simp only [State.retarget]
  repeat' split
  all_goals simp (disch := first | (intros; (repeat' split) <;> simp; done) | fail) [-List.foldl_cons, -List.foldl_nil]

@[simp] theorem State.fcoCommitted_kept (s old : State) : (State.fcoCommitted s old).kept = s.kept := by
  simp only [State.fcoCommitted]
  repeat' split
  all_goals simp (disch := first | (intros; (repeat' split) <;> simp; done) | fail) [-List.foldl_cons, -List.foldl_nil]

@[simp] theorem State.pleCommitted_kept (s old : State) : (State.pleCommitted s old).kept = s.kept := by
  simp only [State.pleCommitted]
  repeat' split
  all_goals simp (disch := first | (intros; (repeat' split) <;> simp; done) | fail) [-List.foldl_cons, -List.foldl_nil]

@[simp] theorem State.rfcCommitted_kept (s old : State) : (State.rfcCommitted s old).kept = s.kept := by
  simp only [State.rfcCommitted]
  repeat' split
  all_goals simp (disch := first | (intros; (repeat' split) <;> simp; done) | fail) [-List.foldl_cons, -List.foldl_nil]

@[simp] theorem State.hmpCommitted_kept (s old : State) : (State.hmpCommitted s old).kept = s.kept := by
  simp only [State.hmpCommitted]
  repeat' split
  all_goals simp (disch := first | (intros; (repeat' split) <;> simp; done) | fail) [-List.foldl_cons, -List.foldl_nil]

@[simp] theorem State.pageCommitted_kept (s old : State) (die page : Nat) : (State.pageCommitted s old die page).kept = s.kept := by
  simp only [State.pageCommitted]
  repeat' split
  all_goals simp (disch := first | (intros; (repeat' split) <;> simp; done) | fail) [-List.foldl_cons, -List.foldl_nil]

@[simp] theorem State.commitEnd_kept (s : State) (die page : Nat) : (State.commitEnd s die page).kept = s.kept := by
  simp only [State.commitEnd]
  repeat' split
  all_goals simp (disch := first | (intros; (repeat' split) <;> simp; done) | fail) [-List.foldl_cons, -List.foldl_nil]

@[simp] theorem State.commitAll_kept (s : State) (die page : Nat) : (State.commitAll s die page).kept = s.kept := by
  simp only [State.commitAll]
  repeat' split
  all_goals simp (disch := first | (intros; (repeat' split) <;> simp; done) | fail) [-List.foldl_cons, -List.foldl_nil]

@[simp] theorem State.commitPort_kept (s : State) (die page p : Nat) : (State.commitPort s die page p).kept = s.kept := by
  simp only [State.commitPort]
  repeat' split
  all_goals simp (disch := first | (intros; (repeat' split) <;> simp; done) | fail) [-List.foldl_cons, -List.foldl_nil]

@[simp] theorem State.commitNow_kept (s : State) (die page : Nat) : (State.commitNow s die page).kept = s.kept := by
  simp only [State.commitNow]
  repeat' split
  all_goals simp (disch := first | (intros; (repeat' split) <;> simp; done) | fail) [-List.foldl_cons, -List.foldl_nil]

@[simp] theorem execCommitTakeEffect_kept (die page port : Nat) (s : State) : (s.run (execCommitTakeEffect die page port)).kept = s.kept := by
  simp only [State.run, execCommitTakeEffect, State.when]
  repeat' split
  all_goals simp (disch := first | (intros; (repeat' split) <;> simp; done) | fail) [-List.foldl_cons, -List.foldl_nil]

@[simp] theorem State.tktCommit_kept (s : State) (op : Nat) : (State.tktCommit s op).kept = s.kept := by
  simp only [State.tktCommit, State.when]
  repeat' split
  all_goals simp (disch := first | (intros; (repeat' split) <;> simp; done) | fail) [-List.foldl_cons, -List.foldl_nil]

@[simp] theorem State.nvBetween_kept (s : State) : (State.nvBetween s).kept = s.kept := by
  simp only [State.nvBetween, State.when]
  repeat' split
  all_goals simp (disch := first | (intros; (repeat' split) <;> simp; done) | fail) [-List.foldl_cons, -List.foldl_nil]

@[simp] theorem execCalSaveEnd_kept (ok : Bool) (s : State) : (s.run (execCalSaveEnd ok)).kept = s.kept := by
  simp only [State.run, execCalSaveEnd, State.when]
  repeat' split
  all_goals simp (disch := first | (intros; (repeat' split) <;> simp; done) | fail) [-List.foldl_cons, -List.foldl_nil]

@[simp] theorem execDarnMapWritten_kept (s : State) : (s.run execDarnMapWritten).kept = s.kept := by
  simp only [State.run, execDarnMapWritten, State.when]
  repeat' split
  all_goals simp (disch := first | (intros; (repeat' split) <;> simp; done) | fail) [-List.foldl_cons, -List.foldl_nil]

@[simp] theorem execTktOpNone_kept (s : State) : (s.run execTktOpNone).kept = s.kept := by
  simp only [State.run, execTktOpNone]
  repeat' split
  all_goals simp (disch := first | (intros; (repeat' split) <;> simp; done) | fail) [-List.foldl_cons, -List.foldl_nil]

@[simp] theorem execTktOpWrite_kept (s : State) : (s.run execTktOpWrite).kept = s.kept := by
  simp only [State.run, execTktOpWrite]
  repeat' split
  all_goals simp (disch := first | (intros; (repeat' split) <;> simp; done) | fail) [-List.foldl_cons, -List.foldl_nil]

@[simp] theorem execTktOpInsert_kept (s : State) : (s.run execTktOpInsert).kept = s.kept := by
  simp only [State.run, execTktOpInsert]
  repeat' split
  all_goals simp (disch := first | (intros; (repeat' split) <;> simp; done) | fail) [-List.foldl_cons, -List.foldl_nil]

@[simp] theorem execTktOpDelete_kept (s : State) : (s.run execTktOpDelete).kept = s.kept := by
  simp only [State.run, execTktOpDelete]
  repeat' split
  all_goals simp (disch := first | (intros; (repeat' split) <;> simp; done) | fail) [-List.foldl_cons, -List.foldl_nil]

@[simp] theorem execTktOpLookup_kept (s : State) : (s.run execTktOpLookup).kept = s.kept := by
  simp only [State.run, execTktOpLookup]
  repeat' split
  all_goals simp (disch := first | (intros; (repeat' split) <;> simp; done) | fail) [-List.foldl_cons, -List.foldl_nil]

@[simp] theorem execTktSnapSave_kept (s : State) : (s.run execTktSnapSave).kept = s.kept := by
  simp only [State.run, execTktSnapSave, State.hostWrite]
  repeat' split
  all_goals simp (disch := first | (intros; (repeat' split) <;> simp; done) | fail) [-List.foldl_cons, -List.foldl_nil]

@[simp] theorem execTktSnapSaveEnd_kept (ok : Bool) (bucket code : Nat) (s : State) : (s.run (execTktSnapSaveEnd ok bucket code)).kept = s.kept := by
  simp only [State.run, execTktSnapSaveEnd, State.when]
  repeat' split
  all_goals simp (disch := first | (intros; (repeat' split) <;> simp; done) | fail) [-List.foldl_cons, -List.foldl_nil]

@[simp] theorem execTktSnapLoad_kept (s : State) : (s.run execTktSnapLoad).kept = s.kept := by
  simp only [State.run, execTktSnapLoad, State.hostWrite]
  repeat' split
  all_goals simp (disch := first | (intros; (repeat' split) <;> simp; done) | fail) [-List.foldl_cons, -List.foldl_nil]

@[simp] theorem State.loadSnapshot_kept (s : State) : (State.loadSnapshot s).kept = s.kept := by
  simp only [State.loadSnapshot]
  repeat' split
  all_goals simp (disch := first | (intros; (repeat' split) <;> simp; done) | fail) [-List.foldl_cons, -List.foldl_nil]

@[simp] theorem execTktSnapLoadEnd_kept (crcOk : Bool) (s : State) : (s.run (execTktSnapLoadEnd crcOk)).kept = s.kept := by
  simp only [State.run, execTktSnapLoadEnd, State.when]
  repeat' split
  all_goals simp (disch := first | (intros; (repeat' split) <;> simp; done) | fail) [-List.foldl_cons, -List.foldl_nil]

end Sys2Proof.Machine
end

