-- ==== Sys2Proof/Laws/KeptImage.lean ====
section
/-! SUPPORT. What the operations of Machine/Image.lean leave alone. -/

namespace Sys2Proof.Machine

@[simp] theorem State.stageImage_kept (s : State) (pages : List (Nat × Nat)) (kept : Nat → Bool) (ws : List (Nat × Word)) : (State.stageImage s pages kept ws).1.kept = s.kept := by
  simp only [State.stageImage]
  repeat' split
  all_goals simp (disch := first | (intros; (repeat' split) <;> simp; done) | fail) [-List.foldl_cons, -List.foldl_nil]

@[simp] theorem State.writeWindows_kept (s : State) (ws : List (Nat × Word)) : (State.writeWindows s ws).kept = s.kept := by
  simp only [State.writeWindows]
  repeat' split
  all_goals simp (disch := first | (intros; (repeat' split) <;> simp; done) | fail) [-List.foldl_cons, -List.foldl_nil]

end Sys2Proof.Machine
end

