-- ==== Sys2Proof/Laws/KeptProfile.lean ====
section
/-! SUPPORT. What the operations of Machine/Profile.lean leave alone. -/

namespace Sys2Proof.Machine

@[simp] theorem State.forgetNotes_kept (s : State) (l : Nat) : (State.forgetNotes s l).kept = s.kept := by
  simp only [State.forgetNotes]
  repeat' split
  all_goals simp (disch := first | (intros; (repeat' split) <;> simp; done) | fail) [-List.foldl_cons, -List.foldl_nil]

@[simp] theorem State.stopRadio_kept (s : State) (l : Nat) : (State.stopRadio s l).kept = s.kept := by
  simp only [State.stopRadio]
  repeat' split
  all_goals simp (disch := first | (intros; (repeat' split) <;> simp; done) | fail) [-List.foldl_cons, -List.foldl_nil]

@[simp] theorem State.stopList_kept (s : State) (l : Nat) : (State.stopList s l).kept = s.kept := by
  simp only [State.stopList]
  repeat' split
  all_goals simp (disch := first | (intros; (repeat' split) <;> simp; done) | fail) [-List.foldl_cons, -List.foldl_nil]

@[simp] theorem State.holdRun_kept (s : State) (d : Nat) : (State.holdRun s d).kept = s.kept := by
  simp only [State.holdRun]
  repeat' split
  all_goals simp (disch := first | (intros; (repeat' split) <;> simp; done) | fail) [-List.foldl_cons, -List.foldl_nil]

@[simp] theorem State.takeMap_kept (s : State) (w : Nat → Word) : (State.takeMap s w).kept = s.kept := by
  simp only [State.takeMap]
  repeat' split
  all_goals simp (disch := first | (intros; (repeat' split) <;> simp; done) | fail) [-List.foldl_cons, -List.foldl_nil]

@[simp] theorem State.takeHeld_kept (s : State) (a : Nat) (w : Word) : (State.takeHeld s a w).kept = s.kept := by
  simp only [State.takeHeld]
  repeat' split
  all_goals simp (disch := first | (intros; (repeat' split) <;> simp; done) | fail) [-List.foldl_cons, -List.foldl_nil]

@[simp] theorem State.setVariables_kept (s : State) (ws : List (Nat × Word)) : (State.setVariables s ws).kept = s.kept := by
  simp only [State.setVariables]
  repeat' split
  all_goals simp (disch := first | (intros; (repeat' split) <;> simp; done) | fail) [-List.foldl_cons, -List.foldl_nil]

@[simp] theorem State.commitStaged_kept (s : State) (pages : List (Nat × Nat)) (held : List (Nat × Word)) : (State.commitStaged s pages held).kept = s.kept := by
  simp only [State.commitStaged]
  repeat' split
  all_goals simp (disch := first | (intros; (repeat' split) <;> simp; done) | fail) [-List.foldl_cons, -List.foldl_nil]

@[simp] theorem State.imageTable_kept (s : State) (ws : List (Nat × Word)) : (State.imageTable s ws).kept = s.kept := by
  simp only [State.imageTable]
  repeat' split
  all_goals simp (disch := first | (intros; (repeat' split) <;> simp; done) | fail) [-List.foldl_cons, -List.foldl_nil]

@[simp] theorem State.startLoad_kept (s : State) (slot : Nat) : (State.startLoad s slot).kept = s.kept := by
  simp only [State.startLoad]
  repeat' split
  all_goals simp (disch := first | (intros; (repeat' split) <;> simp; done) | fail) [-List.foldl_cons, -List.foldl_nil]

@[simp] theorem execDevLoad_kept (slot : Nat) (s : State) : (s.run (execDevLoad slot)).kept = s.kept := by
  simp only [State.run, execDevLoad, State.hostWrite]
  repeat' split
  all_goals simp (disch := first | (intros; (repeat' split) <;> simp; done) | fail) [-List.foldl_cons, -List.foldl_nil]

@[simp] theorem State.resume_kept (s : State) (applied : Bool) : (State.resume s applied).kept = s.kept := by
  simp only [State.resume]
  repeat' split
  all_goals simp (disch := first | (intros; (repeat' split) <;> simp; done) | fail) [-List.foldl_cons, -List.foldl_nil]

@[simp] theorem State.radioBack_kept (s : State) (o : Option (Nat × Nat)) : (State.radioBack s o).kept = s.kept := by
  simp only [State.radioBack]
  repeat' split
  all_goals simp (disch := first | (intros; (repeat' split) <;> simp; done) | fail) [-List.foldl_cons, -List.foldl_nil]

@[simp] theorem State.loadFailed_kept (s : State) (code : Nat) : (State.loadFailed s code).kept = s.kept := by
  simp only [State.loadFailed]
  repeat' split
  all_goals simp (disch := first | (intros; (repeat' split) <;> simp; done) | fail) [-List.foldl_cons, -List.foldl_nil]

@[simp] theorem State.radioToSynth_kept (s : State) (l : Load) : (State.radioToSynth s l).1.kept = s.kept := by
  simp only [State.radioToSynth]
  repeat' split
  all_goals simp (disch := first | (intros; (repeat' split) <;> simp; done) | fail) [-List.foldl_cons, -List.foldl_nil]

@[simp] theorem execProfileCheckEnd_kept (s : State) : (s.run execProfileCheckEnd).kept = s.kept := by
  simp only [State.run, execProfileCheckEnd]
  repeat' split
  all_goals simp (disch := first | (intros; (repeat' split) <;> simp; done) | fail) [-List.foldl_cons, -List.foldl_nil]

@[simp] theorem execProfileLoadTimeout_kept (s : State) : (s.run execProfileLoadTimeout).kept = s.kept := by
  simp only [State.run, execProfileLoadTimeout]
  repeat' split
  all_goals simp (disch := first | (intros; (repeat' split) <;> simp; done) | fail) [-List.foldl_cons, -List.foldl_nil]

@[simp] theorem State.stageLoad_kept (s : State) (l : Load) (h : Word) (ws : List (Nat × Word)) : (State.stageLoad s l h ws).kept = s.kept := by
  simp only [State.stageLoad]
  repeat' split
  all_goals simp (disch := first | (intros; (repeat' split) <;> simp; done) | fail) [-List.foldl_cons, -List.foldl_nil]

@[simp] theorem execProfileDrainEnd_kept (s : State) : (s.run execProfileDrainEnd).kept = s.kept := by
  simp only [State.run, execProfileDrainEnd]
  repeat' split
  all_goals simp (disch := first | (intros; (repeat' split) <;> simp; done) | fail) [-List.foldl_cons, -List.foldl_nil]

@[simp] theorem State.loadCal_kept (s : State) (bad : List Nat) : (State.loadCal s bad).kept = s.kept := by
  simp only [State.loadCal]
  repeat' split
  all_goals simp (disch := first | (intros; (repeat' split) <;> simp; done) | fail) [-List.foldl_cons, -List.foldl_nil]

@[simp] theorem execProfileCommit_kept (late : Bool) (s : State) : (s.run (execProfileCommit late)).kept = s.kept := by
  simp only [State.run, execProfileCommit]
  repeat' split
  all_goals simp (disch := first | (intros; (repeat' split) <;> simp; done) | fail) [-List.foldl_cons, -List.foldl_nil]

@[simp] theorem State.reloadPage_kept (s : State) (die page : Nat) : (State.reloadPage s die page).kept = s.kept := by
  simp only [State.reloadPage]
  repeat' split
  all_goals simp (disch := first | (intros; (repeat' split) <;> simp; done) | fail) [-List.foldl_cons, -List.foldl_nil]

@[simp] theorem State.reloadWindow_kept (s : State) (a bytes : Nat) : (State.reloadWindow s a bytes).kept = s.kept := by
  simp only [State.reloadWindow]
  repeat' split
  all_goals simp (disch := first | (intros; (repeat' split) <;> simp; done) | fail) [-List.foldl_cons, -List.foldl_nil]

end Sys2Proof.Machine
end

