-- ==== Sys2Proof/Laws/KeptBanks.lean ====
section
/-! SUPPORT. What the operations of Machine/Banks.lean leave alone. -/

namespace Sys2Proof.Machine

@[simp] theorem State.storeCrcs_kept (s : State) (dies : List Nat) : (State.storeCrcs s dies).kept = s.kept := by
  simp only [State.storeCrcs]
  repeat' split
  all_goals simp (disch := first | (intros; (repeat' split) <;> simp; done) | fail) [-List.foldl_cons, -List.foldl_nil]

end Sys2Proof.Machine
end

