-- ==== Sys2Proof/Laws/KeptInventory.lean ====
section
/-! SUPPORT. What the operations of Machine/Inventory.lean leave alone. -/

namespace Sys2Proof.Machine

@[simp] theorem State.sightTag_kept (s : State) (d p uid : Nat) : (State.sightTag s d p uid).1.kept = s.kept := by
  simp only [State.sightTag]
  repeat' split
  all_goals simp (disch := first | (intros; (repeat' split) <;> simp; done) | fail) [-List.foldl_cons, -List.foldl_nil]

@[simp] theorem State.findUid_kept (s : State) (d p : Nat) (e : Exch) (body : List Byte) (sep : Bool) (slot ampl angle : Nat) : (State.findUid s d p e body sep slot ampl angle).1.kept = s.kept := by
  simp only [State.findUid]
  repeat' split
  all_goals simp (disch := first | (intros; (repeat' split) <;> simp; done) | fail) [-List.foldl_cons, -List.foldl_nil]

@[simp] theorem State.pushRequests_kept (s : State) (d p : Nat) (e : Exch) : (State.pushRequests s d p e).kept = s.kept := by
  simp only [State.pushRequests]
  repeat' split
  all_goals simp (disch := first | (intros; (repeat' split) <;> simp; done) | fail) [-List.foldl_cons, -List.foldl_nil]

@[simp] theorem State.nextFollow_kept (s : State) (d p : Nat) (e : Exch) : (State.nextFollow s d p e).kept = s.kept := by
  simp only [State.nextFollow]
  repeat' split
  all_goals simp (disch := first | (intros; (repeat' split) <;> simp; done) | fail) [-List.foldl_cons, -List.foldl_nil]

@[simp] theorem State.slotsDone_kept (s : State) (d p : Nat) (e : Exch) : (State.slotsDone s d p e).kept = s.kept := by
  simp only [State.slotsDone]
  repeat' split
  all_goals simp (disch := first | (intros; (repeat' split) <;> simp; done) | fail) [-List.foldl_cons, -List.foldl_nil]

@[simp] theorem State.slotOver_kept (s : State) (d p : Nat) (e : Exch) : (State.slotOver s d p e).kept = s.kept := by
  simp only [State.slotOver]
  repeat' split
  all_goals simp (disch := first | (intros; (repeat' split) <;> simp; done) | fail) [-List.foldl_cons, -List.foldl_nil]

@[simp] theorem State.slotStreams_kept (s : State) (d : Nat) (e : Exch) (sat : List Nat) : (State.slotStreams s d e sat).1.kept = s.kept := by
  simp only [State.slotStreams]
  repeat' split
  all_goals simp (disch := first | (intros; (repeat' split) <;> simp; done) | fail) [-List.foldl_cons, -List.foldl_nil]

@[simp] theorem State.unclearSlot_kept (s : State) (d p : Nat) (e : Exch) : (State.unclearSlot s d p e).1.kept = s.kept := by
  simp only [State.unclearSlot]
  repeat' split
  all_goals simp (disch := first | (intros; (repeat' split) <;> simp; done) | fail) [-List.foldl_cons, -List.foldl_nil]

@[simp] theorem State.slotReply_kept (s : State) (d p : Nat) (e : Exch) (r : Reply) : (State.slotReply s d p e r).kept = s.kept := by
  simp only [State.slotReply]
  repeat' split
  all_goals simp (disch := first | (intros; (repeat' split) <;> simp; done) | fail) [-List.foldl_cons, -List.foldl_nil]

@[simp] theorem execTxFrameEnd_kept (die port : Nat) (resid : List (Nat × Nat)) (s : State) : (s.run (execTxFrameEnd die port resid)).kept = s.kept := by
  simp only [State.run, execTxFrameEnd]
  repeat' split
  all_goals simp (disch := first | (intros; (repeat' split) <;> simp; done) | fail) [-List.foldl_cons, -List.foldl_nil]

@[simp] theorem execReplyEnd_kept (die port : Nat) (data : List Byte) (nbits : Nat) (parityOk : Bool) (collision : Option Nat) (sat : List Nat) (s : State) : (s.run (execReplyEnd die port data nbits parityOk collision sat)).kept = s.kept := by
  simp only [State.run, execReplyEnd]
  repeat' split
  all_goals simp (disch := first | (intros; (repeat' split) <;> simp; done) | fail) [-List.foldl_cons, -List.foldl_nil]

@[simp] theorem execResponseWindowEnd_kept (die port : Nat) (sat : List Nat) (s : State) : (s.run (execResponseWindowEnd die port sat)).kept = s.kept := by
  simp only [State.run, execResponseWindowEnd]
  repeat' split
  all_goals simp (disch := first | (intros; (repeat' split) <;> simp; done) | fail) [-List.foldl_cons, -List.foldl_nil]

@[simp] theorem execInvSlotEof_kept (die port : Nat) (s : State) : (s.run (execInvSlotEof die port)).kept = s.kept := by
  simp only [State.run, execInvSlotEof]
  repeat' split
  all_goals simp (disch := first | (intros; (repeat' split) <;> simp; done) | fail) [-List.foldl_cons, -List.foldl_nil]

@[simp] theorem State.solveOver_kept (s : State) (d p : Nat) (e : Exch) : (State.solveOver s d p e).kept = s.kept := by
  simp only [State.solveOver]
  repeat' split
  all_goals simp (disch := first | (intros; (repeat' split) <;> simp; done) | fail) [-List.foldl_cons, -List.foldl_nil]

@[simp] theorem State.solve_kept (s : State) (d p : Nat) (e : Exch) (slot m k : Nat) (replies : List Solved) : (State.solve s d p e slot m k replies).kept = s.kept := by
  simp only [State.solve]
  repeat' split
  all_goals simp (disch := first | (intros; (repeat' split) <;> simp; done) | fail) [-List.foldl_cons, -List.foldl_nil]

@[simp] theorem execSeparationSolveEnd_kept (die port slot : Nat) (eigen : List Int) (replies : List (List Byte × Nat × Nat × Nat)) (s : State) : (s.run (execSeparationSolveEnd die port slot eigen replies)).kept = s.kept := by
  simp only [State.run, execSeparationSolveEnd, State.when]
  repeat' split
  all_goals simp (disch := first | (intros; (repeat' split) <;> simp; done) | fail) [-List.foldl_cons, -List.foldl_nil]

end Sys2Proof.Machine
end

