-- ==== Sys2Proof/Laws/KeptPower.lean ====
section
/-! SUPPORT. What the operations of Machine/Power.lean leave alone. -/

namespace Sys2Proof.Machine

@[simp] theorem State.sleepRequest_kept (s : State) (toWatch : Bool) : (State.sleepRequest s toWatch).kept = s.kept := by
  simp only [State.sleepRequest, State.hostWrite]
  repeat' split
  all_goals simp (disch := first | (intros; (repeat' split) <;> simp; done) | fail) [-List.foldl_cons, -List.foldl_nil]

@[simp] theorem execSleepDeepRequest_kept (s : State) : (s.run execSleepDeepRequest).kept = s.kept := by
  simp only [State.run, execSleepDeepRequest]
  repeat' split
  all_goals simp (disch := first | (intros; (repeat' split) <;> simp; done) | fail) [-List.foldl_cons, -List.foldl_nil]

@[simp] theorem execSleepWatchRequest_kept (s : State) : (s.run execSleepWatchRequest).kept = s.kept := by
  simp only [State.run, execSleepWatchRequest]
  repeat' split
  all_goals simp (disch := first | (intros; (repeat' split) <;> simp; done) | fail) [-List.foldl_cons, -List.foldl_nil]

@[simp] theorem execEntryTimeout_kept (s : State) : (s.run execEntryTimeout).kept = s.kept := by
  simp only [State.run, execEntryTimeout, State.when]
  repeat' split
  all_goals simp (disch := first | (intros; (repeat' split) <;> simp; done) | fail) [-List.foldl_cons, -List.foldl_nil]

@[simp] theorem State.radioSleep_kept (s : State) : (State.radioSleep s).kept = s.kept := by
  simp only [State.radioSleep]
  repeat' split
  all_goals simp (disch := first | (intros; (repeat' split) <;> simp; done) | fail) [-List.foldl_cons, -List.foldl_nil]

@[simp] theorem State.prepareRest_kept (s : State) : (State.prepareRest s).kept = s.kept := by
  simp only [State.prepareRest]
  repeat' split
  all_goals simp (disch := first | (intros; (repeat' split) <;> simp; done) | fail) [-List.foldl_cons, -List.foldl_nil]

@[simp] theorem State.afterSupply_kept (s : State) : (State.afterSupply s).kept = s.kept := by
  simp only [State.afterSupply, State.when]
  repeat' split
  all_goals simp (disch := first | (intros; (repeat' split) <;> simp; done) | fail) [-List.foldl_cons, -List.foldl_nil]

@[simp] theorem execSrlAck_kept (s : State) : (s.run execSrlAck).kept = s.kept := by
  simp only [State.run, execSrlAck]
  repeat' split
  all_goals simp (disch := first | (intros; (repeat' split) <;> simp; done) | fail) [-List.foldl_cons, -List.foldl_nil]

@[simp] theorem execSrlNoack_kept (s : State) : (s.run execSrlNoack).kept = s.kept := by
  simp only [State.run, execSrlNoack]
  repeat' split
  all_goals simp (disch := first | (intros; (repeat' split) <;> simp; done) | fail) [-List.foldl_cons, -List.foldl_nil]

@[simp] theorem execSleepPrepare_kept (s : State) : (s.run execSleepPrepare).kept = s.kept := by
  simp only [State.run, execSleepPrepare, State.when]
  repeat' split
  all_goals simp (disch := first | (intros; (repeat' split) <;> simp; done) | fail) [-List.foldl_cons, -List.foldl_nil]

@[simp] theorem State.reloadReads_kept (s : State) (die : Nat) (l : List Nat) : (State.reloadReads s die l).kept = s.kept := by
  simp only [State.reloadReads]
  repeat' split
  all_goals simp (disch := first | (intros; (repeat' split) <;> simp; done) | fail) [-List.foldl_cons, -List.foldl_nil]

@[simp] theorem State.reloadSets_kept (s : State) (own : Nat → Bool) : (State.reloadSets s own).kept = s.kept := by
  simp only [State.reloadSets]
  repeat' split
  all_goals simp (disch := first | (intros; (repeat' split) <;> simp; done) | fail) [-List.foldl_cons, -List.foldl_nil]

@[simp] theorem State.reloadBank_kept (s : State) (die page : Nat) : (State.reloadBank s die page).kept = s.kept := by
  simp only [State.reloadBank]
  repeat' split
  all_goals simp (disch := first | (intros; (repeat' split) <;> simp; done) | fail) [-List.foldl_cons, -List.foldl_nil]

@[simp] theorem State.failBank_kept (s : State) (die bank : Nat) : (State.failBank s die bank).kept = s.kept := by
  simp only [State.failBank]
  repeat' split
  all_goals simp (disch := first | (intros; (repeat' split) <;> simp; done) | fail) [-List.foldl_cons, -List.foldl_nil]

@[simp] theorem State.retFail_kept (s : State) (l : List Nat) : (State.retFail s l).kept = s.kept := by
  simp only [State.retFail]
  repeat' split
  all_goals simp (disch := first | (intros; (repeat' split) <;> simp; done) | fail) [-List.foldl_cons, -List.foldl_nil]

@[simp] theorem State.wakeReport_kept (s : State) (src left detail slept time : Nat) (l : List Nat) (lost : Nat) : (State.wakeReport s src left detail slept time l lost).kept = s.kept := by
  simp only [State.wakeReport]
  repeat' split
  all_goals simp (disch := first | (intros; (repeat' split) <;> simp; done) | fail) [-List.foldl_cons, -List.foldl_nil]

@[simp] theorem State.frontsUp_kept (s : State) (front : Bool) : (State.frontsUp s front).kept = s.kept := by
  simp only [State.frontsUp]
  repeat' split
  all_goals simp (disch := first | (intros; (repeat' split) <;> simp; done) | fail) [-List.foldl_cons, -List.foldl_nil]

@[simp] theorem execWakeDomainReady_kept (die : Nat) (front : Bool) (found : List (Nat × Nat)) (s : State) : (s.run (execWakeDomainReady die front found)).kept = s.kept := by
  simp only [State.run, execWakeDomainReady]
  repeat' split
  all_goals simp (disch := first | (intros; (repeat' split) <;> simp; done) | fail) [-List.foldl_cons, -List.foldl_nil]

@[simp] theorem State.gpAfterWake_kept (s : State) (gp : Nat) : (State.gpAfterWake s gp).kept = s.kept := by
  simp only [State.gpAfterWake]
  repeat' split
  all_goals simp (disch := first | (intros; (repeat' split) <;> simp; done) | fail) [-List.foldl_cons, -List.foldl_nil]

@[simp] theorem execPadRelease_kept (value : Word) (s : State) : (s.run (execPadRelease value)).kept = s.kept := by
  simp only [State.run, execPadRelease, State.hostWrite]
  repeat' split
  all_goals simp (disch := first | (intros; (repeat' split) <;> simp; done) | fail) [-List.foldl_cons, -List.foldl_nil]

@[simp] theorem execKeepRun_kept (die : Nat) (s : State) : (s.run (execKeepRun die)).kept = s.kept := by
  simp only [State.run, execKeepRun, State.hostWrite, State.pageAccess, State.when]
  repeat' split
  all_goals simp (disch := first | (intros; (repeat' split) <;> simp; done) | fail) [-List.foldl_cons, -List.foldl_nil]

@[simp] theorem execDieOffIdle_kept (die : Nat) (s : State) : (s.run (execDieOffIdle die)).kept = s.kept := by
  simp only [State.run, execDieOffIdle, State.when]
  repeat' split
  all_goals simp (disch := first | (intros; (repeat' split) <;> simp; done) | fail) [-List.foldl_cons, -List.foldl_nil]

end Sys2Proof.Machine
end

