-- ==== Sys2Proof/Laws/KeptRuns.lean ====
section
/-! SUPPORT. What the operations of Machine/Runs.lean leave alone. -/

namespace Sys2Proof.Machine

@[simp] theorem execTestStart_kept (kind die unit : Nat) (s : State) : (s.run (execTestStart kind die unit)).kept = s.kept := by
  simp only [State.run, execTestStart, State.when]
  repeat' split
  all_goals simp (disch := first | (intros; (repeat' split) <;> simp; done) | fail) [-List.foldl_cons, -List.foldl_nil]

@[simp] theorem execAnchorCalStart_kept (s : State) : (s.run execAnchorCalStart).kept = s.kept := by
  simp only [State.run, execAnchorCalStart, State.when]
  repeat' split
  all_goals simp (disch := first | (intros; (repeat' split) <;> simp; done) | fail) [-List.foldl_cons, -List.foldl_nil]

end Sys2Proof.Machine
end

