-- ==== Sys2Proof/Laws/KeptStartup.lean ====
section
/-! SUPPORT. What the operations of Machine/Startup.lean leave alone. -/

namespace Sys2Proof.Machine

@[simp] theorem State.remapRows_kept (s : State) (bank rows : Nat) : (State.remapRows s bank rows).1.kept = s.kept := by
  simp only [State.remapRows]
  repeat' split
  all_goals simp (disch := first | (intros; (repeat' split) <;> simp; done) | fail) [-List.foldl_cons, -List.foldl_nil]

@[simp] theorem State.memoryReports_kept (s : State) (out : List (Nat × Nat)) : (State.memoryReports s out).kept = s.kept := by
  simp only [State.memoryReports]
  repeat' split
  all_goals simp (disch := first | (intros; (repeat' split) <;> simp; done) | fail) [-List.foldl_cons, -List.foldl_nil]

@[simp] theorem execMemoryTestEnd_kept (faults : List (Nat × Nat)) (s : State) : (s.run (execMemoryTestEnd faults)).kept = s.kept := by
  simp only [State.run, execMemoryTestEnd, State.when]
  repeat' split
  all_goals simp (disch := first | (intros; (repeat' split) <;> simp; done) | fail) [-List.foldl_cons, -List.foldl_nil]

@[simp] theorem State.trainSeams_kept (s : State) (up : Nat) : (State.trainSeams s up).kept = s.kept := by
  simp only [State.trainSeams]
  repeat' split
  all_goals simp (disch := first | (intros; (repeat' split) <;> simp; done) | fail) [-List.foldl_cons, -List.foldl_nil]

@[simp] theorem State.applyMaps_kept (s : State) (d : Nat) : (State.applyMaps s d).kept = s.kept := by
  simp only [State.applyMaps]
  repeat' split
  all_goals simp (disch := first | (intros; (repeat' split) <;> simp; done) | fail) [-List.foldl_cons, -List.foldl_nil]

@[simp] theorem State.applyProfile_kept (s : State) : (State.applyProfile s).kept = s.kept := by
  simp only [State.applyProfile]
  repeat' split
  all_goals simp (disch := first | (intros; (repeat' split) <;> simp; done) | fail) [-List.foldl_cons, -List.foldl_nil]

@[simp] theorem State.startRadio_kept (s : State) : (State.startRadio s).kept = s.kept := by
  simp only [State.startRadio]
  repeat' split
  all_goals simp (disch := first | (intros; (repeat' split) <;> simp; done) | fail) [-List.foldl_cons, -List.foldl_nil]

@[simp] theorem State.startTests_kept (s : State) : (State.startTests s).kept = s.kept := by
  simp only [State.startTests]
  repeat' split
  all_goals simp (disch := first | (intros; (repeat' split) <;> simp; done) | fail) [-List.foldl_cons, -List.foldl_nil]

@[simp] theorem State.dieDue_kept (s : State) (d : Nat) : (State.dieDue s d).kept = s.kept := by
  simp only [State.dieDue]
  repeat' split
  all_goals simp (disch := first | (intros; (repeat' split) <;> simp; done) | fail) [-List.foldl_cons, -List.foldl_nil]

@[simp] theorem State.resetDie_kept (s : State) (d : Nat) : (State.resetDie s d).kept = s.kept := by
  simp only [State.resetDie]
  repeat' split
  all_goals simp (disch := first | (intros; (repeat' split) <;> simp; done) | fail) [-List.foldl_cons, -List.foldl_nil]

@[simp] theorem execDieRejoined_kept (die : Nat) (s : State) : (s.run (execDieRejoined die)).kept = s.kept := by
  simp only [State.run, execDieRejoined, State.when]
  repeat' split
  all_goals simp (disch := first | (intros; (repeat' split) <;> simp; done) | fail) [-List.foldl_cons, -List.foldl_nil]

end Sys2Proof.Machine
end

