-- ==== Sys2Proof/Laws/KeptPleHost.lean ====
section
/-! SUPPORT. What the operations of Machine/PleHost.lean leave alone. -/

namespace Sys2Proof.Machine

@[simp] theorem State.setPleValid_kept (s : State) (n : Nat) (v : Bool) : (State.setPleValid s n v).kept = s.kept := by
  simp only [State.setPleValid]
  repeat' split
  all_goals simp (disch := first | (intros; (repeat' split) <;> simp; done) | fail) [-List.foldl_cons, -List.foldl_nil]

@[simp] theorem State.putPleVar_kept (s : State) (n : Nat) (w : Word) : (State.putPleVar s n w).kept = s.kept := by
  simp only [State.putPleVar]
  repeat' split
  all_goals simp (disch := first | (intros; (repeat' split) <;> simp; done) | fail) [-List.foldl_cons, -List.foldl_nil]

@[simp] theorem State.setPleVar_kept (s : State) (n : Nat) (w : Word) : (State.setPleVar s n w).kept = s.kept := by
  simp only [State.setPleVar]
  repeat' split
  all_goals simp (disch := first | (intros; (repeat' split) <;> simp; done) | fail) [-List.foldl_cons, -List.foldl_nil]

@[simp] theorem State.hostPleVar_kept (s : State) (n : Nat) (w : Word) : (State.hostPleVar s n w).kept = s.kept := by
  simp only [State.hostPleVar]
  repeat' split
  all_goals simp (disch := first | (intros; (repeat' split) <;> simp; done) | fail) [-List.foldl_cons, -List.foldl_nil]

@[simp] theorem execPleStart_kept (list : Nat) (s : State) : (s.run (execPleStart list)).kept = s.kept := by
  simp only [State.run, execPleStart, State.hostWrite]
  repeat' split
  all_goals simp (disch := first | (intros; (repeat' split) <;> simp; done) | fail) [-List.foldl_cons, -List.foldl_nil]

@[simp] theorem execPleStop_kept (list : Nat) (s : State) : (s.run (execPleStop list)).kept = s.kept := by
  simp only [State.run, execPleStop, State.hostWrite]
  repeat' split
  all_goals simp (disch := first | (intros; (repeat' split) <;> simp; done) | fail) [-List.foldl_cons, -List.foldl_nil]

@[simp] theorem State.listWake_kept (s : State) (n : Nat) : (State.listWake s n).kept = s.kept := by
  simp only [State.listWake]
  repeat' split
  all_goals simp (disch := first | (intros; (repeat' split) <;> simp; done) | fail) [-List.foldl_cons, -List.foldl_nil]

@[simp] theorem execPlePeriodDue_kept (list : Nat) (s : State) : (s.run (execPlePeriodDue list)).kept = s.kept := by
  simp only [State.run, execPlePeriodDue]
  repeat' split
  all_goals simp (disch := first | (intros; (repeat' split) <;> simp; done) | fail) [-List.foldl_cons, -List.foldl_nil]

@[simp] theorem execPleWaitEnd_kept (list : Nat) (s : State) : (s.run (execPleWaitEnd list)).kept = s.kept := by
  simp only [State.run, execPleWaitEnd]
  repeat' split
  all_goals simp (disch := first | (intros; (repeat' split) <;> simp; done) | fail) [-List.foldl_cons, -List.foldl_nil]

@[simp] theorem execPleVariableWrite_kept (n : Nat) (value : Word) (s : State) : (s.run (execPleVariableWrite n value)).kept = s.kept := by
  simp only [State.run, execPleVariableWrite, State.hostWrite, State.when]
  repeat' split
  all_goals simp (disch := first | (intros; (repeat' split) <;> simp; done) | fail) [-List.foldl_cons, -List.foldl_nil]

@[simp] theorem execPleVvalidClear_kept (hi : Bool) (value : Word) (s : State) : (s.run (execPleVvalidClear hi value)).kept = s.kept := by
  simp only [State.run, execPleVvalidClear, State.hostWrite]
  repeat' split
  all_goals simp (disch := first | (intros; (repeat' split) <;> simp; done) | fail) [-List.foldl_cons, -List.foldl_nil]

@[simp] theorem execPleRaiseClear_kept (value : Word) (s : State) : (s.run (execPleRaiseClear value)).kept = s.kept := by
  simp only [State.run, execPleRaiseClear, State.hostWrite]
  repeat' split
  all_goals simp (disch := first | (intros; (repeat' split) <;> simp; done) | fail) [-List.foldl_cons, -List.foldl_nil]

end Sys2Proof.Machine
end

