-- ==== Sys2Proof/Laws/KeptBus.lean ====
section
/-! SUPPORT. What the operations of Machine/Bus.lean leave alone. -/

namespace Sys2Proof.Machine

@[simp] theorem State.windowPut_kept (s : State) (die page off : Nat) (w : Word) : (State.windowPut s die page off w).1.kept = s.kept := by
  simp only [State.windowPut]
  repeat' split
  all_goals simp (disch := first | (intros; (repeat' split) <;> simp; done) | fail) [-List.foldl_cons, -List.foldl_nil]

@[simp] theorem State.regPut_kept (s : State) (die page off : Nat) (w : Word) : (State.regPut s die page off w).kept = s.kept := by
  simp only [State.regPut]
  repeat' split
  all_goals simp (disch := first | (intros; (repeat' split) <;> simp; done) | fail) [-List.foldl_cons, -List.foldl_nil]

@[simp] theorem State.bstReq_kept (s : State) (w : Word) : (State.bstReq s w).kept = s.kept := by
  simp only [State.bstReq]
  repeat' split
  all_goals simp (disch := first | (intros; (repeat' split) <;> simp; done) | fail) [-List.foldl_cons, -List.foldl_nil]

@[simp] theorem State.calReq_kept (s : State) (w : Word) : (State.calReq s w).kept = s.kept := by
  simp only [State.calReq]
  repeat' split
  all_goals simp (disch := first | (intros; (repeat' split) <;> simp; done) | fail) [-List.foldl_cons, -List.foldl_nil]

@[simp] theorem State.sleepCmd_kept (s : State) (w : Word) : (State.sleepCmd s w).kept = s.kept := by
  simp only [State.sleepCmd]
  repeat' split
  all_goals simp (disch := first | (intros; (repeat' split) <;> simp; done) | fail) [-List.foldl_cons, -List.foldl_nil]

@[simp] theorem State.keyCmd_kept (s : State) (w : Word) : (State.keyCmd s w).kept = s.kept := by
  simp only [State.keyCmd]
  repeat' split
  all_goals simp (disch := first | (intros; (repeat' split) <;> simp; done) | fail) [-List.foldl_cons, -List.foldl_nil]

@[simp] theorem State.nvsCmd_kept (s : State) (w : Word) : (State.nvsCmd s w).kept = s.kept := by
  simp only [State.nvsCmd]
  repeat' split
  all_goals simp (disch := first | (intros; (repeat' split) <;> simp; done) | fail) [-List.foldl_cons, -List.foldl_nil]

@[simp] theorem State.swapCmd_kept (s : State) (w : Word) : (State.swapCmd s w).kept = s.kept := by
  simp only [State.swapCmd]
  repeat' split
  all_goals simp (disch := first | (intros; (repeat' split) <;> simp; done) | fail) [-List.foldl_cons, -List.foldl_nil]

@[simp] theorem State.rejoinCmd_kept (s : State) (w : Word) : (State.rejoinCmd s w).kept = s.kept := by
  simp only [State.rejoinCmd]
  repeat' split
  all_goals simp (disch := first | (intros; (repeat' split) <;> simp; done) | fail) [-List.foldl_cons, -List.foldl_nil]

@[simp] theorem State.anchorCmd_kept (s : State) (page off : Nat) (w : Word) : (State.anchorCmd s page off w).kept = s.kept := by
  simp only [State.anchorCmd, State.when]
  repeat' split
  all_goals simp (disch := first | (intros; (repeat' split) <;> simp; done) | fail) [-List.foldl_cons, -List.foldl_nil]

@[simp] theorem State.dieCmd_kept (s : State) (die page off : Nat) (w : Word) : (State.dieCmd s die page off w).kept = s.kept := by
  simp only [State.dieCmd]
  repeat' split
  all_goals simp (disch := first | (intros; (repeat' split) <;> simp; done) | fail) [-List.foldl_cons, -List.foldl_nil]

@[simp] theorem State.regTake_kept (s : State) (die page off : Nat) (w : Word) : (State.regTake s die page off w).1.kept = s.kept := by
  simp only [State.regTake]
  repeat' split
  all_goals simp (disch := first | (intros; (repeat' split) <;> simp; done) | fail) [-List.foldl_cons, -List.foldl_nil]

@[simp] theorem State.regWrite_kept (s : State) (die page off : Nat) (w : Word) : (State.regWrite s die page off w).1.kept = s.kept := by
  simp only [State.regWrite]
  repeat' split
  all_goals simp (disch := first | (intros; (repeat' split) <;> simp; done) | fail) [-List.foldl_cons, -List.foldl_nil]

@[simp] theorem State.putAt_kept (s : State) (die page off : Nat) (w : Word) : (State.putAt s die page off w).1.kept = s.kept := by
  simp only [State.putAt]
  repeat' split
  all_goals simp (disch := first | (intros; (repeat' split) <;> simp; done) | fail) [-List.foldl_cons, -List.foldl_nil]

@[simp] theorem State.busWrite_kept (s : State) (a : Nat) (w : Word) : (State.busWrite s a w).1.kept = s.kept := by
  simp only [State.busWrite]
  repeat' split
  all_goals simp (disch := first | (intros; (repeat' split) <;> simp; done) | fail) [-List.foldl_cons, -List.foldl_nil]

@[simp] theorem State.takeHolds_kept (s : State) (port page off : Nat) : (State.takeHolds s port page off).kept = s.kept := by
  simp only [State.takeHolds]
  repeat' split
  all_goals simp (disch := first | (intros; (repeat' split) <;> simp; done) | fail) [-List.foldl_cons, -List.foldl_nil]

@[simp] theorem State.regRead_kept (s : State) (port die page off : Nat) (fetch : Bool) : (State.regRead s port die page off fetch).1.kept = s.kept := by
  simp only [State.regRead]
  repeat' split
  all_goals simp (disch := first | (intros; (repeat' split) <;> simp; done) | fail) [-List.foldl_cons, -List.foldl_nil]

@[simp] theorem State.busRead_kept (s : State) (port a : Nat) (fetch : Bool) : (State.busRead s port a fetch).1.kept = s.kept := by
  simp only [State.busRead]
  repeat' split
  all_goals simp (disch := first | (intros; (repeat' split) <;> simp; done) | fail) [-List.foldl_cons, -List.foldl_nil]

@[simp] theorem execRegisterWrite_kept (addr : Nat) (value : Word) (s : State) : (s.run (execRegisterWrite addr value)).kept = s.kept := by
  simp only [State.run, execRegisterWrite, State.when]
  repeat' split
  all_goals simp (disch := first | (intros; (repeat' split) <;> simp; done) | fail) [-List.foldl_cons, -List.foldl_nil]

@[simp] theorem execWindowWrite_kept (addr : Nat) (value : Word) (s : State) : (s.run (execWindowWrite addr value)).kept = s.kept := by
  simp only [State.run, execWindowWrite, State.when]
  repeat' split
  all_goals simp (disch := first | (intros; (repeat' split) <;> simp; done) | fail) [-List.foldl_cons, -List.foldl_nil]

@[simp] theorem State.seamAccess_kept (s : State) (die : Nat) (write : Bool) (offset : Nat) (data : Word) : (State.seamAccess s die write offset data).1.kept = s.kept := by
  simp only [State.seamAccess]
  repeat' split
  all_goals simp (disch := first | (intros; (repeat' split) <;> simp; done) | fail) [-List.foldl_cons, -List.foldl_nil]

@[simp] theorem execSeamRegisterAccess_kept (die tag : Nat) (write : Bool) (offset : Nat) (data : Word) (s : State) : (s.run (execSeamRegisterAccess die tag write offset data)).kept = s.kept := by
  simp only [State.run, execSeamRegisterAccess, State.when]
  repeat' split
  all_goals simp (disch := first | (intros; (repeat' split) <;> simp; done) | fail) [-List.foldl_cons, -List.foldl_nil]

end Sys2Proof.Machine
end

