-- ==== Sys2Proof/Laws/KeptPle.lean ====
section
/-! SUPPORT. What the operations of Machine/Ple.lean leave alone. -/

namespace Sys2Proof.Machine

@[simp] theorem State.pleStep_kept (s : State) (n op : Nat) (room : Bool) (f : State → PleRun → Word → Word → State)
    (hf : ∀ s r w v, (f s r w v).kept = s.kept) : (s.pleStep n op room f).kept = s.kept := by
  simp only [State.pleStep]
  repeat' split
  all_goals simp [hf]

@[simp] theorem State.pleFault_kept (s : State) (n code : Nat) : (State.pleFault s n code).kept = s.kept := by
  simp only [State.pleFault]
  repeat' split
  all_goals simp (disch := first | (intros; (repeat' split) <;> simp; done) | fail) [-List.foldl_cons, -List.foldl_nil]

@[simp] theorem State.pleDone_kept (s : State) (n : Nat) (r : PleRun) : (State.pleDone s n r).kept = s.kept := by
  simp only [State.pleDone]
  repeat' split
  all_goals simp (disch := first | (intros; (repeat' split) <;> simp; done) | fail) [-List.foldl_cons, -List.foldl_nil]

@[simp] theorem State.pleSetA_kept (s : State) (r : PleRun) (a : Nat) (w : Word) : (State.pleSetA s r a w).1.kept = s.kept := by
  simp only [State.pleSetA]
  repeat' split
  all_goals simp (disch := first | (intros; (repeat' split) <;> simp; done) | fail) [-List.foldl_cons, -List.foldl_nil]

@[simp] theorem State.pleAlu_kept (s : State) (n op : Nat) (f : State → PleRun → Word → Word → State × PleRun)
    (hf : ∀ s r w v, (f s r w v).1.kept = s.kept) : (s.pleAlu n op f).kept = s.kept := by
  simp [State.pleAlu, hf]

@[simp] theorem State.pleArith_kept (s : State) (n op : Nat) (f : State → Word → Word → Int) :
    (s.pleArith n op f).kept = s.kept := by simp [State.pleArith]

@[simp] theorem execPleEnd_kept (list : Nat) (s : State) : (s.run (execPleEnd list)).kept = s.kept := by
  simp only [State.run, execPleEnd]
  repeat' split
  all_goals simp (disch := first | (intros; (repeat' split) <;> simp; done) | fail) [-List.foldl_cons, -List.foldl_nil]

@[simp] theorem execPleWait_kept (list : Nat) (s : State) : (s.run (execPleWait list)).kept = s.kept := by
  simp only [State.run, execPleWait]
  repeat' split
  all_goals simp (disch := first | (intros; (repeat' split) <;> simp; done) | fail) [-List.foldl_cons, -List.foldl_nil]

@[simp] theorem execPleMovi_kept (list : Nat) (s : State) : (s.run (execPleMovi list)).kept = s.kept := by
  simp only [State.run, execPleMovi]
  repeat' split
  all_goals simp (disch := first | (intros; (repeat' split) <;> simp; done) | fail) [-List.foldl_cons, -List.foldl_nil]

@[simp] theorem execPleMovw_kept (list : Nat) (s : State) : (s.run (execPleMovw list)).kept = s.kept := by
  simp only [State.run, execPleMovw]
  repeat' split
  all_goals simp (disch := first | (intros; (repeat' split) <;> simp; done) | fail) [-List.foldl_cons, -List.foldl_nil]

@[simp] theorem execPleLoad_kept (list : Nat) (s : State) : (s.run (execPleLoad list)).kept = s.kept := by
  simp only [State.run, execPleLoad]
  repeat' split
  all_goals simp (disch := first | (intros; (repeat' split) <;> simp; done) | fail) [-List.foldl_cons, -List.foldl_nil]

@[simp] theorem execPleStore_kept (list : Nat) (s : State) : (s.run (execPleStore list)).kept = s.kept := by
  simp only [State.run, execPleStore]
  repeat' split
  all_goals simp (disch := first | (intros; (repeat' split) <;> simp; done) | fail) [-List.foldl_cons, -List.foldl_nil]

@[simp] theorem execPleAdd_kept (list : Nat) (s : State) : (s.run (execPleAdd list)).kept = s.kept := by
  simp only [State.run, execPleAdd]
  repeat' split
  all_goals simp (disch := first | (intros; (repeat' split) <;> simp; done) | fail) [-List.foldl_cons, -List.foldl_nil]

@[simp] theorem execPleSub_kept (list : Nat) (s : State) : (s.run (execPleSub list)).kept = s.kept := by
  simp only [State.run, execPleSub]
  repeat' split
  all_goals simp (disch := first | (intros; (repeat' split) <;> simp; done) | fail) [-List.foldl_cons, -List.foldl_nil]

@[simp] theorem execPleScale_kept (list : Nat) (s : State) : (s.run (execPleScale list)).kept = s.kept := by
  simp only [State.run, execPleScale]
  repeat' split
  all_goals simp (disch := first | (intros; (repeat' split) <;> simp; done) | fail) [-List.foldl_cons, -List.foldl_nil]

@[simp] theorem execPleExt_kept (list : Nat) (s : State) : (s.run (execPleExt list)).kept = s.kept := by
  simp only [State.run, execPleExt]
  repeat' split
  all_goals simp (disch := first | (intros; (repeat' split) <;> simp; done) | fail) [-List.foldl_cons, -List.foldl_nil]

@[simp] theorem execPleIir_kept (list : Nat) (s : State) : (s.run (execPleIir list)).kept = s.kept := by
  simp only [State.run, execPleIir]
  repeat' split
  all_goals simp (disch := first | (intros; (repeat' split) <;> simp; done) | fail) [-List.foldl_cons, -List.foldl_nil]

@[simp] theorem execPleMedian5_kept (list : Nat) (s : State) : (s.run (execPleMedian5 list)).kept = s.kept := by
  simp only [State.run, execPleMedian5]
  repeat' split
  all_goals simp (disch := first | (intros; (repeat' split) <;> simp; done) | fail) [-List.foldl_cons, -List.foldl_nil]

@[simp] theorem execPleMean_kept (list : Nat) (s : State) : (s.run (execPleMean list)).kept = s.kept := by
  simp only [State.run, execPleMean]
  repeat' split
  all_goals simp (disch := first | (intros; (repeat' split) <;> simp; done) | fail) [-List.foldl_cons, -List.foldl_nil]

@[simp] theorem execPleCmph_kept (list : Nat) (s : State) : (s.run (execPleCmph list)).kept = s.kept := by
  simp only [State.run, execPleCmph]
  repeat' split
  all_goals simp (disch := first | (intros; (repeat' split) <;> simp; done) | fail) [-List.foldl_cons, -List.foldl_nil]

@[simp] theorem execPleWindow_kept (list : Nat) (s : State) : (s.run (execPleWindow list)).kept = s.kept := by
  simp only [State.run, execPleWindow]
  repeat' split
  all_goals simp (disch := first | (intros; (repeat' split) <;> simp; done) | fail) [-List.foldl_cons, -List.foldl_nil]

@[simp] theorem execPleTime_kept (list : Nat) (s : State) : (s.run (execPleTime list)).kept = s.kept := by
  simp only [State.run, execPleTime]
  repeat' split
  all_goals simp (disch := first | (intros; (repeat' split) <;> simp; done) | fail) [-List.foldl_cons, -List.foldl_nil]

@[simp] theorem execPleBranch_kept (list : Nat) (s : State) : (s.run (execPleBranch list)).kept = s.kept := by
  simp only [State.run, execPleBranch]
  repeat' split
  all_goals simp (disch := first | (intros; (repeat' split) <;> simp; done) | fail) [-List.foldl_cons, -List.foldl_nil]

@[simp] theorem execPleEmit_kept (list : Nat) (s : State) : (s.run (execPleEmit list)).kept = s.kept := by
  simp only [State.run, execPleEmit]
  repeat' split
  all_goals simp (disch := first | (intros; (repeat' split) <;> simp; done) | fail) [-List.foldl_cons, -List.foldl_nil]

@[simp] theorem execPleEmitCredit_kept (list : Nat) (s : State) : (s.run (execPleEmitCredit list)).kept = s.kept := by
  simp only [State.run, execPleEmitCredit]
  repeat' split
  all_goals simp (disch := first | (intros; (repeat' split) <;> simp; done) | fail) [-List.foldl_cons, -List.foldl_nil]

@[simp] theorem execPleRaise_kept (list : Nat) (s : State) : (s.run (execPleRaise list)).kept = s.kept := by
  simp only [State.run, execPleRaise]
  repeat' split
  all_goals simp (disch := first | (intros; (repeat' split) <;> simp; done) | fail) [-List.foldl_cons, -List.foldl_nil]

@[simp] theorem execPleTrig_kept (list : Nat) (s : State) : (s.run (execPleTrig list)).kept = s.kept := by
  simp only [State.run, execPleTrig]
  repeat' split
  all_goals simp (disch := first | (intros; (repeat' split) <;> simp; done) | fail) [-List.foldl_cons, -List.foldl_nil]

@[simp] theorem State.pleAwait_kept (s : State) (n : Nat) (r : PleRun) (x : PleWait) : (State.pleAwait s n r x).kept = s.kept := by
  simp only [State.pleAwait]
  repeat' split
  all_goals simp (disch := first | (intros; (repeat' split) <;> simp; done) | fail) [-List.foldl_cons, -List.foldl_nil]

@[simp] theorem execPleSpi_kept (list : Nat) (s : State) : (s.run (execPleSpi list)).kept = s.kept := by
  simp only [State.run, execPleSpi]
  repeat' split
  all_goals simp (disch := first | (intros; (repeat' split) <;> simp; done) | fail) [-List.foldl_cons, -List.foldl_nil]

@[simp] theorem State.storeVars_kept (s : State) (b : Nat) (ws : List Word) : (State.storeVars s b ws).kept = s.kept := by
  simp only [State.storeVars]
  repeat' split
  all_goals simp (disch := first | (intros; (repeat' split) <;> simp; done) | fail) [-List.foldl_cons, -List.foldl_nil]

@[simp] theorem execPleSpiDone_kept (list : Nat) (s : State) : (s.run (execPleSpiDone list)).kept = s.kept := by
  simp only [State.run, execPleSpiDone]
  repeat' split
  all_goals simp (disch := first | (intros; (repeat' split) <;> simp; done) | fail) [-List.foldl_cons, -List.foldl_nil]

@[simp] theorem State.listenEnd_kept (s : State) (n : Nat) (r : PleRun) (w : Word) : (State.listenEnd s n r w).kept = s.kept := by
  simp only [State.listenEnd]
  repeat' split
  all_goals simp (disch := first | (intros; (repeat' split) <;> simp; done) | fail) [-List.foldl_cons, -List.foldl_nil]

@[simp] theorem execPleListen_kept (list : Nat) (s : State) : (s.run (execPleListen list)).kept = s.kept := by
  simp only [State.run, execPleListen]
  repeat' split
  all_goals simp (disch := first | (intros; (repeat' split) <;> simp; done) | fail) [-List.foldl_cons, -List.foldl_nil]

@[simp] theorem execPleListenDone_kept (list : Nat) (s : State) : (s.run (execPleListenDone list)).kept = s.kept := by
  simp only [State.run, execPleListenDone]
  repeat' split
  all_goals simp (disch := first | (intros; (repeat' split) <;> simp; done) | fail) [-List.foldl_cons, -List.foldl_nil]

@[simp] theorem execPleAdc_kept (list : Nat) (s : State) : (s.run (execPleAdc list)).kept = s.kept := by
  simp only [State.run, execPleAdc]
  repeat' split
  all_goals simp (disch := first | (intros; (repeat' split) <;> simp; done) | fail) [-List.foldl_cons, -List.foldl_nil]

@[simp] theorem execPleAdcDone_kept (list : Nat) (volts : List Int) (s : State) : (s.run (execPleAdcDone list volts)).kept = s.kept := by
  simp only [State.run, execPleAdcDone]
  repeat' split
  all_goals simp (disch := first | (intros; (repeat' split) <;> simp; done) | fail) [-List.foldl_cons, -List.foldl_nil]

@[simp] theorem State.tagRefused_kept (s : State) (n : Nat) (r : PleRun) (w : Word) : (State.tagRefused s n r w).kept = s.kept := by
  simp only [State.tagRefused]
  repeat' split
  all_goals simp (disch := first | (intros; (repeat' split) <;> simp; done) | fail) [-List.foldl_cons, -List.foldl_nil]

@[simp] theorem execPleTag_kept (list : Nat) (s : State) : (s.run (execPleTag list)).kept = s.kept := by
  simp only [State.run, execPleTag]
  repeat' split
  all_goals simp (disch := first | (intros; (repeat' split) <;> simp; done) | fail) [-List.foldl_cons, -List.foldl_nil]

@[simp] theorem execPleTagDone_kept (list : Nat) (s : State) : (s.run (execPleTagDone list)).kept = s.kept := by
  simp only [State.run, execPleTagDone]
  repeat' split
  all_goals simp (disch := first | (intros; (repeat' split) <;> simp; done) | fail) [-List.foldl_cons, -List.foldl_nil]

@[simp] theorem State.radioRefused_kept (s : State) (n : Nat) (r : PleRun) (w : Word) : (State.radioRefused s n r w).kept = s.kept := by
  simp only [State.radioRefused]
  repeat' split
  all_goals simp (disch := first | (intros; (repeat' split) <;> simp; done) | fail) [-List.foldl_cons, -List.foldl_nil]

@[simp] theorem execPleRadio_kept (list : Nat) (s : State) : (s.run (execPleRadio list)).kept = s.kept := by
  simp only [State.run, execPleRadio]
  repeat' split
  all_goals simp (disch := first | (intros; (repeat' split) <;> simp; done) | fail) [-List.foldl_cons, -List.foldl_nil]

@[simp] theorem execPleRadioDone_kept (list : Nat) (s : State) : (s.run (execPleRadioDone list)).kept = s.kept := by
  simp only [State.run, execPleRadioDone]
  repeat' split
  all_goals simp (disch := first | (intros; (repeat' split) <;> simp; done) | fail) [-List.foldl_cons, -List.foldl_nil]

end Sys2Proof.Machine
end

