-- ==== Sys2Proof/Laws/KeptHostSerial.lean ====
section
/-! SUPPORT. What the operations of Machine/HostSerial.lean leave alone. -/

namespace Sys2Proof.Machine

@[simp] theorem State.shiftOut_kept (s : State) (l : List Bool) : (State.shiftOut s l).kept = s.kept := by
  simp only [State.shiftOut]
  repeat' split
  all_goals simp (disch := first | (intros; (repeat' split) <;> simp; done) | fail) [-List.foldl_cons, -List.foldl_nil]

@[simp] theorem State.frameEnd_kept (s : State) (code : Nat) : (State.frameEnd s code).kept = s.kept := by
  simp only [State.frameEnd]
  repeat' split
  all_goals simp (disch := first | (intros; (repeat' split) <;> simp; done) | fail) [-List.foldl_cons, -List.foldl_nil]

@[simp] theorem State.frameLeft_kept (s : State) : (State.frameLeft s).kept = s.kept := by
  simp only [State.frameLeft]
  repeat' split
  all_goals simp (disch := first | (intros; (repeat' split) <;> simp; done) | fail) [-List.foldl_cons, -List.foldl_nil]

@[simp] theorem State.frameBegin_kept (s : State) : (State.frameBegin s).kept = s.kept := by
  simp only [State.frameBegin]
  repeat' split
  all_goals simp (disch := first | (intros; (repeat' split) <;> simp; done) | fail) [-List.foldl_cons, -List.foldl_nil]

@[simp] theorem State.frameShift_kept (s : State) (mode3 : Bool) (clocks : Nat) : (State.frameShift s mode3 clocks).kept = s.kept := by
  simp only [State.frameShift]
  repeat' split
  all_goals simp (disch := first | (intros; (repeat' split) <;> simp; done) | fail) [-List.foldl_cons, -List.foldl_nil]

@[simp] theorem State.statusClocks_kept (s : State) (n : Nat) : (State.statusClocks s n).kept = s.kept := by
  simp only [State.statusClocks]
  repeat' split
  all_goals simp (disch := first | (intros; (repeat' split) <;> simp; done) | fail) [-List.foldl_cons, -List.foldl_nil]

@[simp] theorem State.statusOut_kept (s : State) (n : Nat) (more : Bool) : (State.statusOut s n more).kept = s.kept := by
  simp only [State.statusOut]
  repeat' split
  all_goals simp (disch := first | (intros; (repeat' split) <;> simp; done) | fail) [-List.foldl_cons, -List.foldl_nil]

@[simp] theorem execStatus_kept (mode3 : Bool) (clocks : Nat) (more : Bool) (s : State) : (s.run (execStatus mode3 clocks more)).kept = s.kept := by
  simp only [State.run, execStatus]
  repeat' split
  all_goals simp (disch := first | (intros; (repeat' split) <;> simp; done) | fail) [-List.foldl_cons, -List.foldl_nil]

@[simp] theorem execWake_kept (mode3 : Bool) (clocks : Nat) (s : State) : (s.run (execWake mode3 clocks)).kept = s.kept := by
  simp only [State.run, execWake, State.hspFrame]
  repeat' split
  all_goals simp (disch := first | (intros; (repeat' split) <;> simp; done) | fail) [-List.foldl_cons, -List.foldl_nil]

@[simp] theorem execHselWake_kept (s : State) : (s.run execHselWake).kept = s.kept := by
  simp only [State.run, execHselWake]
  repeat' split
  all_goals simp (disch := first | (intros; (repeat' split) <;> simp; done) | fail) [-List.foldl_cons, -List.foldl_nil]

@[simp] theorem execUnknownCmd_kept (cmd : Nat) (mode3 : Bool) (clocks : Nat) (s : State) : (s.run (execUnknownCmd cmd mode3 clocks)).kept = s.kept := by
  simp only [State.run, execUnknownCmd, State.hspFrame, State.when]
  repeat' split
  all_goals simp (disch := first | (intros; (repeat' split) <;> simp; done) | fail) [-List.foldl_cons, -List.foldl_nil]

@[simp] theorem State.readWords_kept : ∀ (n : Nat) (s : State) (a i clocked : Nat),
    (s.readWords a i clocked n).1.kept = s.kept
  | 0, s, a, i, clocked => by simp [State.readWords]
  | n + 1, s, a, i, clocked => by simp [State.readWords, State.readWords_kept n]

@[simp] theorem State.readData_kept (s : State) (addr clocks ahead : Nat) : (State.readData s addr clocks ahead).kept = s.kept := by
  simp only [State.readData]
  repeat' split
  all_goals simp (disch := first | (intros; (repeat' split) <;> simp; done) | fail) [-List.foldl_cons, -List.foldl_nil]

@[simp] theorem State.consumeWord_kept (s : State) (p : HostPort) (c : Nat) : (State.consumeWord s p c).kept = s.kept := by
  simp only [State.consumeWord]
  repeat' split
  all_goals simp (disch := first | (intros; (repeat' split) <;> simp; done) | fail) [-List.foldl_cons, -List.foldl_nil]

@[simp] theorem State.consumeWords_kept (p : HostPort) : ∀ (l : List Nat) (s : State),
    (s.consumeWords p l).1.kept = s.kept
  | [], s => by simp [State.consumeWords]
  | c :: l, s => by simp [State.consumeWords, State.consumeWords_kept p l]

@[simp] theorem State.creditsBack_kept (s : State) : (State.creditsBack s).kept = s.kept := by
  simp only [State.creditsBack]
  repeat' split
  all_goals simp (disch := first | (intros; (repeat' split) <;> simp; done) | fail) [-List.foldl_cons, -List.foldl_nil]

@[simp] theorem State.hamperData_kept (s : State) (mask clocks : Nat) : (State.hamperData s mask clocks).kept = s.kept := by
  simp only [State.hamperData]
  repeat' split
  all_goals simp (disch := first | (intros; (repeat' split) <;> simp; done) | fail) [-List.foldl_cons, -List.foldl_nil]

@[simp] theorem State.dummyUsed_kept (s : State) (d : Nat) (raised : Bool) : (State.dummyUsed s d raised).kept = s.kept := by
  simp only [State.dummyUsed]
  repeat' split
  all_goals simp (disch := first | (intros; (repeat' split) <;> simp; done) | fail) [-List.foldl_cons, -List.foldl_nil]

@[simp] theorem execRead_kept (addr : Nat) (mode3 fast : Bool) (clocks : Nat) (ready : Option Nat) (ahead : Nat) (s : State) : (s.run (execRead addr mode3 fast clocks ready ahead)).kept = s.kept := by
  simp only [State.run, execRead, State.hspFrame, State.tokenFrame]
  repeat' split
  all_goals simp (disch := first | (intros; (repeat' split) <;> simp; done) | fail) [-List.foldl_cons, -List.foldl_nil]

@[simp] theorem execHamperRead_kept (mask : Nat) (mode3 fast : Bool) (clocks : Nat) (ready : Option Nat) (s : State) : (s.run (execHamperRead mask mode3 fast clocks ready)).kept = s.kept := by
  simp only [State.run, execHamperRead, State.hspFrame, State.tokenFrame]
  repeat' split
  all_goals simp (disch := first | (intros; (repeat' split) <;> simp; done) | fail) [-List.foldl_cons, -List.foldl_nil]

@[simp] theorem State.token_kept (s : State) (v : Nat) : (State.token s v).kept = s.kept := by
  simp only [State.token]
  repeat' split
  all_goals simp (disch := first | (intros; (repeat' split) <;> simp; done) | fail) [-List.foldl_cons, -List.foldl_nil]

@[simp] theorem execTokenReady_kept (clocks ahead : Nat) (s : State) : (s.run (execTokenReady clocks ahead)).kept = s.kept := by
  simp only [State.run, execTokenReady]
  repeat' split
  all_goals simp (disch := first | (intros; (repeat' split) <;> simp; done) | fail) [-List.foldl_cons, -List.foldl_nil]

@[simp] theorem execReadTimeout_kept (clocks : Nat) (s : State) : (s.run (execReadTimeout clocks)).kept = s.kept := by
  simp only [State.run, execReadTimeout, State.when]
  repeat' split
  all_goals simp (disch := first | (intros; (repeat' split) <;> simp; done) | fail) [-List.foldl_cons, -List.foldl_nil]

@[simp] theorem State.writeFrom_kept (only : Option Nat) : ∀ (l : List Word) (s : State) (a : Nat),
    (s.writeFrom only a l).1.kept = s.kept
  | [], s, a => by simp [State.writeFrom]
  | w :: l, s, a => by
    simp only [State.writeFrom, State.writeFrom_kept only l, apply_ite Prod.fst]
    repeat' split
    all_goals simp

@[simp] theorem State.partialWord_kept (s : State) : (State.partialWord s).kept = s.kept := by
  simp only [State.partialWord]
  repeat' split
  all_goals simp (disch := first | (intros; (repeat' split) <;> simp; done) | fail) [-List.foldl_cons, -List.foldl_nil]

@[simp] theorem State.writeData_kept (s : State) (only : Option Nat) (addr : Nat) (data : List Word) (clocks : Nat) : (State.writeData s only addr data clocks).1.kept = s.kept := by
  simp only [State.writeData]
  repeat' split
  all_goals simp (disch := first | (intros; (repeat' split) <;> simp; done) | fail) [-List.foldl_cons, -List.foldl_nil]

@[simp] theorem execWrite_kept (addr : Nat) (data : List Word) (mode3 : Bool) (clocks : Nat) (s : State) : (s.run (execWrite addr data mode3 clocks)).kept = s.kept := by
  simp only [State.run, execWrite, State.hspFrame]
  repeat' split
  all_goals simp (disch := first | (intros; (repeat' split) <;> simp; done) | fail) [-List.foldl_cons, -List.foldl_nil]

@[simp] theorem State.requestCommit_kept (s : State) (addr : Nat) : (State.requestCommit s addr).kept = s.kept := by
  simp only [State.requestCommit]
  repeat' split
  all_goals simp (disch := first | (intros; (repeat' split) <;> simp; done) | fail) [-List.foldl_cons, -List.foldl_nil]

@[simp] theorem execWriteCommit_kept (addr : Nat) (data : List Word) (mode3 : Bool) (clocks : Nat) (s : State) : (s.run (execWriteCommit addr data mode3 clocks)).kept = s.kept := by
  simp only [State.run, execWriteCommit, State.hspFrame]
  repeat' split
  all_goals simp (disch := first | (intros; (repeat' split) <;> simp; done) | fail) [-List.foldl_cons, -List.foldl_nil]

@[simp] theorem execProfileLoad_kept (addr : Nat) (mode3 : Bool) (clocks : Nat) (s : State) : (s.run (execProfileLoad addr mode3 clocks)).kept = s.kept := by
  simp only [State.run, execProfileLoad, State.hspFrame]
  repeat' split
  all_goals simp (disch := first | (intros; (repeat' split) <;> simp; done) | fail) [-List.foldl_cons, -List.foldl_nil]

end Sys2Proof.Machine
end

