-- ==== Sys2Proof/Laws/KeptHostTwoWire.lean ====
section
/-! SUPPORT. What the operations of Machine/HostTwoWire.lean leave alone. -/

namespace Sys2Proof.Machine

@[simp] theorem State.setHtw_kept (s : State) (h : Htw) : (State.setHtw s h).kept = s.kept := by
  simp only [State.setHtw]
  repeat' split
  all_goals simp (disch := first | (intros; (repeat' split) <;> simp; done) | fail) [-List.foldl_cons, -List.foldl_nil]

@[simp] theorem State.twCode_kept (s : State) (code : Nat) : (State.twCode s code).kept = s.kept := by
  simp only [State.twCode]
  repeat' split
  all_goals simp (disch := first | (intros; (repeat' split) <;> simp; done) | fail) [-List.foldl_cons, -List.foldl_nil]

@[simp] theorem State.twPartial_kept (s : State) : (State.twPartial s).kept = s.kept := by
  simp only [State.twPartial]
  repeat' split
  all_goals simp (disch := first | (intros; (repeat' split) <;> simp; done) | fail) [-List.foldl_cons, -List.foldl_nil]

@[simp] theorem State.twDrop_kept (s : State) : (State.twDrop s).kept = s.kept := by
  simp only [State.twDrop]
  repeat' split
  all_goals simp (disch := first | (intros; (repeat' split) <;> simp; done) | fail) [-List.foldl_cons, -List.foldl_nil]

@[simp] theorem State.twEnd_kept (s : State) : (State.twEnd s).kept = s.kept := by
  simp only [State.twEnd]
  repeat' split
  all_goals simp (disch := first | (intros; (repeat' split) <;> simp; done) | fail) [-List.foldl_cons, -List.foldl_nil]

@[simp] theorem State.twStart_kept (s : State) (addr : Nat) (read : Bool) : (State.twStart s addr read).1.kept = s.kept := by
  simp only [State.twStart]
  repeat' split
  all_goals simp (disch := first | (intros; (repeat' split) <;> simp; done) | fail) [-List.foldl_cons, -List.foldl_nil]

@[simp] theorem State.twStop_kept (s : State) (stop : Bool) : (State.twStop s stop).kept = s.kept := by
  simp only [State.twStop]
  repeat' split
  all_goals simp (disch := first | (intros; (repeat' split) <;> simp; done) | fail) [-List.foldl_cons, -List.foldl_nil]

@[simp] theorem State.twNext_kept (s : State) (read : Bool) : (State.twNext s read).kept = s.kept := by
  simp only [State.twNext]
  repeat' split
  all_goals simp (disch := first | (intros; (repeat' split) <;> simp; done) | fail) [-List.foldl_cons, -List.foldl_nil]

@[simp] theorem State.twPutWord_kept (s : State) (a : Nat) (w : Word) : (State.twPutWord s a w).kept = s.kept := by
  simp only [State.twPutWord]
  repeat' split
  all_goals simp (disch := first | (intros; (repeat' split) <;> simp; done) | fail) [-List.foldl_cons, -List.foldl_nil]

@[simp] theorem State.twGetWord_kept (s : State) (a : Nat) : (State.twGetWord s a).kept = s.kept := by
  simp only [State.twGetWord]
  repeat' split
  all_goals simp (disch := first | (intros; (repeat' split) <;> simp; done) | fail) [-List.foldl_cons, -List.foldl_nil]

@[simp] theorem State.twWindowByte_kept (s : State) (p : Nat) (b : Byte) (hold : Bool) : (State.twWindowByte s p b hold).kept = s.kept := by
  simp only [State.twWindowByte]
  repeat' split
  all_goals simp (disch := first | (intros; (repeat' split) <;> simp; done) | fail) [-List.foldl_cons, -List.foldl_nil]

@[simp] theorem State.winApply_kept (s : State) (v : Nat) : (State.winApply s v).kept = s.kept := by
  simp only [State.winApply]
  repeat' split
  all_goals simp (disch := first | (intros; (repeat' split) <;> simp; done) | fail) [-List.foldl_cons, -List.foldl_nil]

@[simp] theorem State.twControlByte_kept (s : State) (p : Nat) (b : Byte) : (State.twControlByte s p b).kept = s.kept := by
  simp only [State.twControlByte]
  repeat' split
  all_goals simp (disch := first | (intros; (repeat' split) <;> simp; done) | fail) [-List.foldl_cons, -List.foldl_nil]

@[simp] theorem State.twPut_kept (s : State) (b : Byte) (hold : Bool) : (State.twPut s b hold).kept = s.kept := by
  simp only [State.twPut]
  repeat' split
  all_goals simp (disch := first | (intros; (repeat' split) <;> simp; done) | fail) [-List.foldl_cons, -List.foldl_nil]

@[simp] theorem State.twPutAll_kept (hold : Bool) : ∀ (l : List Byte) (s : State), (s.twPutAll hold l).kept = s.kept
  | [], s => by simp [State.twPutAll]
  | b :: l, s => by simp [State.twPutAll, State.twPutAll_kept hold l]

@[simp] theorem execTwWriteTransfer_kept (start : Option Nat) (bytes : List Byte) (stretch stop : Bool) (s : State) : (s.run (execTwWriteTransfer start bytes stretch stop)).kept = s.kept := by
  simp only [State.run, execTwWriteTransfer, State.when]
  repeat' split
  all_goals simp (disch := first | (intros; (repeat' split) <;> simp; done) | fail) [-List.foldl_cons, -List.foldl_nil]

@[simp] theorem execWinMidWrite_kept (value : Byte) (stop : Bool) (s : State) : (s.run (execWinMidWrite value stop)).kept = s.kept := by
  simp only [State.run, execWinMidWrite, State.when]
  repeat' split
  all_goals simp (disch := first | (intros; (repeat' split) <;> simp; done) | fail) [-List.foldl_cons, -List.foldl_nil]

@[simp] theorem State.grant2_kept (s : State) : (State.grant2 s).1.kept = s.kept := by
  simp only [State.grant2]
  repeat' split
  all_goals simp (disch := first | (intros; (repeat' split) <;> simp; done) | fail) [-List.foldl_cons, -List.foldl_nil]

@[simp] theorem State.streamByte_kept (s : State) : (State.streamByte s).1.kept = s.kept := by
  simp only [State.streamByte]
  repeat' split
  all_goals simp (disch := first | (intros; (repeat' split) <;> simp; done) | fail) [-List.foldl_cons, -List.foldl_nil]

@[simp] theorem State.twControlRead_kept (s : State) (p : Nat) : (State.twControlRead s p).1.kept = s.kept := by
  simp only [State.twControlRead]
  repeat' split
  all_goals simp (disch := first | (intros; (repeat' split) <;> simp; done) | fail) [-List.foldl_cons, -List.foldl_nil]

@[simp] theorem State.twWindowRead_kept (s : State) (p : Nat) : (State.twWindowRead s p).1.kept = s.kept := by
  simp only [State.twWindowRead]
  repeat' split
  all_goals simp (disch := first | (intros; (repeat' split) <;> simp; done) | fail) [-List.foldl_cons, -List.foldl_nil]

@[simp] theorem State.twGet_kept (s : State) : (State.twGet s).kept = s.kept := by
  simp only [State.twGet]
  repeat' split
  all_goals simp (disch := first | (intros; (repeat' split) <;> simp; done) | fail) [-List.foldl_cons, -List.foldl_nil]

@[simp] theorem State.twGetAll_kept : ∀ (n : Nat) (s : State), (s.twGetAll n).kept = s.kept
  | 0, s => by simp [State.twGetAll]
  | n + 1, s => by simp [State.twGetAll, State.twGetAll_kept n]

@[simp] theorem State.twHold_kept (s : State) (stretch : Bool) : (State.twHold s stretch).kept = s.kept := by
  simp only [State.twHold]
  repeat' split
  all_goals simp (disch := first | (intros; (repeat' split) <;> simp; done) | fail) [-List.foldl_cons, -List.foldl_nil]

@[simp] theorem execTwReadTransfer_kept (start : Option Nat) (count : Nat) (stretch stop : Bool) (s : State) : (s.run (execTwReadTransfer start count stretch stop)).kept = s.kept := by
  simp only [State.run, execTwReadTransfer, State.when]
  repeat' split
  all_goals simp (disch := first | (intros; (repeat' split) <;> simp; done) | fail) [-List.foldl_cons, -List.foldl_nil]

@[simp] theorem execGrant2Read_kept (stop : Bool) (s : State) : (s.run (execGrant2Read stop)).kept = s.kept := by
  simp only [State.run, execGrant2Read, State.when]
  repeat' split
  all_goals simp (disch := first | (intros; (repeat' split) <;> simp; done) | fail) [-List.foldl_cons, -List.foldl_nil]

@[simp] theorem execStreamRead_kept (stop : Bool) (s : State) : (s.run (execStreamRead stop)).kept = s.kept := by
  simp only [State.run, execStreamRead, State.when]
  repeat' split
  all_goals simp (disch := first | (intros; (repeat' split) <;> simp; done) | fail) [-List.foldl_cons, -List.foldl_nil]

@[simp] theorem execQuickCommand_kept (addr : Nat) (read : Bool) (s : State) : (s.run (execQuickCommand addr read)).kept = s.kept := by
  simp only [State.run, execQuickCommand, State.when]
  repeat' split
  all_goals simp (disch := first | (intros; (repeat' split) <;> simp; done) | fail) [-List.foldl_cons, -List.foldl_nil]

@[simp] theorem execTwStretchRelease_kept (s : State) : (s.run execTwStretchRelease).kept = s.kept := by
  simp only [State.run, execTwStretchRelease]
  repeat' split
  all_goals simp (disch := first | (intros; (repeat' split) <;> simp; done) | fail) [-List.foldl_cons, -List.foldl_nil]

@[simp] theorem execTwStretchTimeout_kept (s : State) : (s.run execTwStretchTimeout).kept = s.kept := by
  simp only [State.run, execTwStretchTimeout]
  repeat' split
  all_goals simp (disch := first | (intros; (repeat' split) <;> simp; done) | fail) [-List.foldl_cons, -List.foldl_nil]

@[simp] theorem State.twAbort_kept (s : State) (code : Nat) : (State.twAbort s code).kept = s.kept := by
  simp only [State.twAbort]
  repeat' split
  all_goals simp (disch := first | (intros; (repeat' split) <;> simp; done) | fail) [-List.foldl_cons, -List.foldl_nil]

@[simp] theorem execBusProto_kept (start : Bool) (s : State) : (s.run (execBusProto start)).kept = s.kept := by
  simp only [State.run, execBusProto, State.when]
  repeat' split
  all_goals simp (disch := first | (intros; (repeat' split) <;> simp; done) | fail) [-List.foldl_cons, -List.foldl_nil]

@[simp] theorem State.attnOver_kept (s : State) : (State.attnOver s).kept = s.kept := by
  simp only [State.attnOver]
  repeat' split
  all_goals simp (disch := first | (intros; (repeat' split) <;> simp; done) | fail) [-List.foldl_cons, -List.foldl_nil]

@[simp] theorem State.attnDrop_kept (s : State) : (State.attnDrop s).kept = s.kept := by
  simp only [State.attnDrop]
  repeat' split
  all_goals simp (disch := first | (intros; (repeat' split) <;> simp; done) | fail) [-List.foldl_cons, -List.foldl_nil]

@[simp] theorem State.attnReject_kept (s : State) (code : Nat) : (State.attnReject s code).kept = s.kept := by
  simp only [State.attnReject]
  repeat' split
  all_goals simp (disch := first | (intros; (repeat' split) <;> simp; done) | fail) [-List.foldl_cons, -List.foldl_nil]

@[simp] theorem State.lowTimeout_kept (s : State) (flag : Fld) (evt code : Nat) : (State.lowTimeout s flag evt code).kept = s.kept := by
  simp only [State.lowTimeout]
  repeat' split
  all_goals simp (disch := first | (intros; (repeat' split) <;> simp; done) | fail) [-List.foldl_cons, -List.foldl_nil]

@[simp] theorem execSclLow_kept (s : State) : (s.run execSclLow).kept = s.kept := by
  simp only [State.run, execSclLow, State.when]
  repeat' split
  all_goals simp (disch := first | (intros; (repeat' split) <;> simp; done) | fail) [-List.foldl_cons, -List.foldl_nil]

@[simp] theorem execSdaLow_kept (s : State) : (s.run execSdaLow).kept = s.kept := by
  simp only [State.run, execSdaLow, State.when]
  repeat' split
  all_goals simp (disch := first | (intros; (repeat' split) <;> simp; done) | fail) [-List.foldl_cons, -List.foldl_nil]

@[simp] theorem execBusFree_kept (s : State) : (s.run execBusFree).kept = s.kept := by
  simp only [State.run, execBusFree, State.when]
  repeat' split
  all_goals simp (disch := first | (intros; (repeat' split) <;> simp; done) | fail) [-List.foldl_cons, -List.foldl_nil]

@[simp] theorem State.attempt_kept (s : State) (cause n : Nat) : (State.attempt s cause n).kept = s.kept := by
  simp only [State.attempt]
  repeat' split
  all_goals simp (disch := first | (intros; (repeat' split) <;> simp; done) | fail) [-List.foldl_cons, -List.foldl_nil]

@[simp] theorem execAttentionStart_kept (depth : Bool) (s : State) : (s.run (execAttentionStart depth)).kept = s.kept := by
  simp only [State.run, execAttentionStart, State.when]
  repeat' split
  all_goals simp (disch := first | (intros; (repeat' split) <;> simp; done) | fail) [-List.foldl_cons, -List.foldl_nil]

@[simp] theorem execAttnSent_kept (s : State) : (s.run execAttnSent).kept = s.kept := by
  simp only [State.run, execAttnSent, State.when]
  repeat' split
  all_goals simp (disch := first | (intros; (repeat' split) <;> simp; done) | fail) [-List.foldl_cons, -List.foldl_nil]

@[simp] theorem State.attnLost_kept (s : State) : (State.attnLost s).kept = s.kept := by
  simp only [State.attnLost]
  repeat' split
  all_goals simp (disch := first | (intros; (repeat' split) <;> simp; done) | fail) [-List.foldl_cons, -List.foldl_nil]

@[simp] theorem execAttnNack_kept (s : State) : (s.run execAttnNack).kept = s.kept := by
  simp only [State.run, execAttnNack, State.when]
  repeat' split
  all_goals simp (disch := first | (intros; (repeat' split) <;> simp; done) | fail) [-List.foldl_cons, -List.foldl_nil]

@[simp] theorem execArbLost_kept (edge own read : Bool) (s : State) : (s.run (execArbLost edge own read)).kept = s.kept := by
  simp only [State.run, execArbLost, State.when]
  repeat' split
  all_goals simp (disch := first | (intros; (repeat' split) <;> simp; done) | fail) [-List.foldl_cons, -List.foldl_nil]

@[simp] theorem execAttnBackoffEnd_kept (s : State) : (s.run execAttnBackoffEnd).kept = s.kept := by
  simp only [State.run, execAttnBackoffEnd, State.when]
  repeat' split
  all_goals simp (disch := first | (intros; (repeat' split) <;> simp; done) | fail) [-List.foldl_cons, -List.foldl_nil]

@[simp] theorem execTwAddressWake_kept (s : State) : (s.run execTwAddressWake).kept = s.kept := by
  simp only [State.run, execTwAddressWake, State.when]
  repeat' split
  all_goals simp (disch := first | (intros; (repeat' split) <;> simp; done) | fail) [-List.foldl_cons, -List.foldl_nil]

end Sys2Proof.Machine
end

