-- ==== Sys2Proof/Laws/KeptPins.lean ====
section
/-! SUPPORT. What the operations of Machine/Pins.lean leave alone. -/

namespace Sys2Proof.Machine

@[simp] theorem execGppEdge_kept (pin : Nat) (level : Bool) (s : State) : (s.run (execGppEdge pin level)).kept = s.kept := by
  simp only [State.run, execGppEdge, State.when]
  repeat' split
  all_goals simp (disch := first | (intros; (repeat' split) <;> simp; done) | fail) [-List.foldl_cons, -List.foldl_nil]

end Sys2Proof.Machine
end

