-- ==== Sys2Proof/Laws/Lasting.lean ====
section
/-! SUPPORT. What a reset and a background NV operation leave alone. -/

namespace Sys2Proof.Machine

/-- What lasts over a reset: the part, the queue and the one-time block. -/
def State.lasting (s : State) : Part × List Instr × Bool × List Word × Bool :=
  (s.part, s.pending, s.nv.lockDone, s.nv.lockWords, s.nv.debugLock)

/-- What of `kept` lasts. -/
def Kept.lasting (k : Part × List Instr × Bool × Bool × List Word × Bool × Device × Bool) :
    Part × List Instr × Bool × List Word × Bool :=
  (k.1, k.2.1, k.2.2.2.1, k.2.2.2.2.1, k.2.2.2.2.2.1)

theorem lasting_eq (s : State) : s.lasting = Kept.lasting s.kept := by
  unfold State.lasting Kept.lasting State.kept; exact Eq.refl _

theorem lasting_of_kept {s t : State} (h : t.kept = s.kept) : t.lasting = s.lasting := by
  rw [lasting_eq, lasting_eq, h]

theorem epoch_of_kept {s t : State} (h : t.kept = s.kept) : t.epoch = s.epoch := by
  simp only [State.kept, Prod.mk.injEq] at h
  exact h.2.2.1

theorem device_of_kept {s t : State} (h : t.kept = s.kept) : t.device = s.device ∧ t.ready = s.ready := by
  simp only [State.kept, Prod.mk.injEq] at h
  exact h.2.2.2.2.2.2

theorem Nv.cut_lock (n : Nv) :
    n.cut.lockDone = n.lockDone ∧ n.cut.lockWords = n.lockWords ∧ n.cut.debugLock = n.debugLock := by
  unfold Nv.cut
  repeat' split
  all_goals exact ⟨Eq.refl _, Eq.refl _, Eq.refl _⟩

/-- A reset keeps the part, the queue and the one-time block, and toggles EPOCH (R126). -/
theorem State.resetDevice_kept (s : State) (cause : Nat) :
    (s.resetDevice cause).kept =
      (s.part, s.pending, !s.epoch, s.nv.lockDone, s.nv.lockWords, s.nv.debugLock, .reset, false) := by
  obtain ⟨h1, h2, h3⟩ := Nv.cut_lock s.nv
  simp only [State.resetDevice, State.set_kept, kept_mk, h1, h2, h3]
  exact Eq.refl _

theorem State.resetDevice_epoch (s : State) (cause : Nat) : (s.resetDevice cause).epoch = !s.epoch := by
  have h := s.resetDevice_kept cause
  simp only [State.kept, Prod.mk.injEq] at h
  exact h.2.2.1

theorem State.resetDevice_lasting (s : State) (cause : Nat) : (s.resetDevice cause).lasting = s.lasting := by
  rw [lasting_eq, s.resetDevice_kept]
  unfold State.lasting Kept.lasting; exact Eq.refl _

theorem State.resetFrom_lasting (s : State) (cause : Nat) : (s.resetFrom cause).lasting = s.lasting := by
  unfold State.resetFrom State.when
  split
  · exact s.resetDevice_lasting cause
  · exact Eq.refl _

theorem execVsupDip_lasting (s : State) : (s.run execVsupDip).lasting = s.lasting := s.resetFrom_lasting 3

theorem execNrstLow_lasting (s : State) : (s.run execNrstLow).lasting = s.lasting := s.resetFrom_lasting 1

theorem execCoreRailReset_lasting (s : State) : (s.run execCoreRailReset).lasting = s.lasting := s.resetFrom_lasting 4

theorem execPowerOn_lasting (iosel : Bool) (s : State) : (s.run (execPowerOn iosel)).lasting = s.lasting := by
  simp only [State.run, execPowerOn, State.when]
  split
  · rw [lasting_eq, lasting_eq, State.set_kept]
    have h := s.resetDevice_kept 0
    simp only [State.kept, Prod.mk.injEq] at h
    simp only [h, State.kept]
    exact Eq.refl _
  · exact Eq.refl _

theorem execVsupLoss_lasting (torn : Bool) (s : State) : (s.run (execVsupLoss torn)).lasting = s.lasting := by
  obtain ⟨h1, h2, h3⟩ := Nv.cut_lock s.nv
  show State.lasting (State.mk ..) = _
  rw [lasting_eq, lasting_eq]
  simp only [kept_mk, h1, h2, h3]
  unfold State.kept; exact Eq.refl _

theorem execSoftReset_lasting (key0 key1 : Nat) (mode3 : Bool) (clocks : Nat) (s : State) :
    (s.run (execSoftReset key0 key1 mode3 clocks)).lasting = s.lasting := by
  simp only [State.run, execSoftReset, State.hspFrame]
  repeat' split
  all_goals first
    | exact (State.resetDevice_lasting _ _).trans (lasting_of_kept (by simp))
    | exact lasting_of_kept (by simp)

theorem Nv.apply_lock (n : Nv) (o : NvOp) :
    (n.lockDone = true → (n.apply o).lockDone = true) ∧ (n.debugLock = true → (n.apply o).debugLock = true) ∧
    ((∀ ws, o ≠ .regLock ws) → (n.apply o).lockWords = n.lockWords ∧ (n.apply o).lockDone = n.lockDone) := by
  cases o <;> simp [Nv.apply]

theorem kept_iff (s t : State) :
    t.kept = s.kept ↔ t.part = s.part ∧ t.pending = s.pending ∧ t.epoch = s.epoch ∧ t.nv.lockDone = s.nv.lockDone ∧
      t.nv.lockWords = s.nv.lockWords ∧ t.nv.debugLock = s.nv.debugLock ∧ t.device = s.device ∧ t.ready = s.ready := by
  simp only [State.kept, Prod.mk.injEq]

/-- The one-time block only closes: LOCKED and the debug lock stay set, and the words change only where a REG_LOCK
operation completes (R492, R761, R762). -/
theorem execNvOpDone_lock (ok : Bool) (spares worn : Nat) (s : State) :
    (s.run (execNvOpDone ok spares worn)).kept = s.kept ∨
    ∃ (n : Nv) (o : NvOp), (∃ rest, s.nv.ops = o :: rest) ∧ n.lockDone = s.nv.lockDone ∧ n.lockWords = s.nv.lockWords ∧
      n.debugLock = s.nv.debugLock ∧
      (s.run (execNvOpDone ok spares worn)).kept =
        (s.part, s.pending, s.epoch, (n.apply o).lockDone, (n.apply o).lockWords, (n.apply o).debugLock, s.device, s.ready) := by
  simp only [State.run, execNvOpDone]
  split
  · exact .inl rfl
  · rename_i o rest ho
    split
    · exact .inl rfl
    have key : ∀ u : State, u.kept = s.kept →
        ((u.nvEnd o ok).kept = s.kept
          ∨ ∃ (n : Nv) (p : NvOp), (∃ rest, s.nv.ops = p :: rest) ∧ n.lockDone = s.nv.lockDone ∧ n.lockWords = s.nv.lockWords ∧
            n.debugLock = s.nv.debugLock ∧
            (u.nvEnd o ok).kept =
              (s.part, s.pending, s.epoch, (n.apply p).lockDone, (n.apply p).lockWords, (n.apply p).debugLock, s.device, s.ready)) := by
      intro u hu
      obtain ⟨h1, h2, h3, h4, h5, h6, h7, h8⟩ := (kept_iff s u).1 hu
      unfold State.nvEnd
      cases ok
      · left
        simp [hu]
      · right
        refine ⟨u.nv, o, ⟨rest, ho⟩, h4, h5, h6, ?_⟩
        rw [if_pos rfl, State.raise_kept, kept_mk, h1, h2, h3, h7, h8]
    generalize hu : (ite (spares % 256 < 8 ∧ (8 ≤ s.get 0 F.NVS_WEAR_SPARES ∨ s.get 0 F.NVS_WEAR_SPARES = 0)) _ _ : State) = u
    rw [State.nvBetween_kept]
    refine key u ?_
    rw [← hu]
    split <;> simp

/-- A record update of the device state and READY over a state that keeps the rest. -/
theorem kept_device {s u t : State} (hu : u.kept = s.kept) (d : Device) (r : Bool)
    (ht : t.kept = (u.part, u.pending, u.epoch, u.nv.lockDone, u.nv.lockWords, u.nv.debugLock, d, r)) :
    t.kept = (s.part, s.pending, s.epoch, s.nv.lockDone, s.nv.lockWords, s.nv.debugLock, d, r) := by
  obtain ⟨h1, h2, h3, h4, h5, h6, -, -⟩ := (kept_iff s u).1 hu
  rw [ht, h1, h2, h3, h4, h5, h6]

/-- SLEEP_COMMIT changes the device state and READY only, of what `kept` holds. -/
theorem execSleepCommit_kept (s : State) : (s.run execSleepCommit).kept = s.kept ∨
    (s.run execSleepCommit).kept = (s.part, s.pending, s.epoch, s.nv.lockDone, s.nv.lockWords, s.nv.debugLock,
      if s.power.toWatch then .watch else .deepSleep, false) := by
  simp only [State.run, execSleepCommit, State.when]
  split
  · right
    generalize hF : List.foldl _ ((State.keepLines s).setPhase EntryPhase.none) _ = u
    refine kept_device (u := u) ?_ _ _ ?_
    · rw [← hF]
      simp [-List.foldl_cons, -List.foldl_nil]
    · simp only [State.attnSync_kept, State.watchSyncAll_kept, State.cmpSettle_kept, State.set_kept, kept_mk]
      rfl
  · exact .inl rfl

/-- RESET_END makes the device ACTIVE, not yet ready. -/
theorem execResetEnd_kept (prof twa : Nat) (s : State) : (s.run (execResetEnd prof twa)).kept = s.kept ∨
    (s.run (execResetEnd prof twa)).kept =
      (s.part, s.pending, s.epoch, s.nv.lockDone, s.nv.lockWords, s.nv.debugLock, .active, false) := by
  simp only [State.run, execResetEnd, State.when]
  split
  · right
    simp only [State.set_kept, kept_mk]
  · exact .inl rfl

/-- STARTUP_READY sets READY. -/
theorem execStartupReady_kept (seams : Nat) (bad : List Nat) (s : State) :
    (s.run (execStartupReady seams bad)).kept = s.kept ∨
    (s.run (execStartupReady seams bad)).kept =
      (s.part, s.pending, s.epoch, s.nv.lockDone, s.nv.lockWords, s.nv.debugLock, s.device, true) := by
  simp only [State.run, execStartupReady, State.when]
  split
  · right
    generalize hF : State.resumeCounter _ = u
    have hu : u.kept = s.kept := by
      rw [← hF]
      simp [-List.foldl_cons, -List.foldl_nil]
    rw [show s.device = u.device from ((device_of_kept hu).1).symm]
    refine kept_device (u := u) hu _ _ ?_
    simp only [State.attnSync_kept, State.refreshAll_kept, State.watchSyncAll_kept, State.cmpSettle_kept,
      State.coordinate_kept, State.sslReserve_kept, State.startTests_kept, State.startRadio_kept, State.allDue_kept, kept_mk]
  · exact .inl rfl

/-- WAKE_COMPLETE makes the device ACTIVE and READY. -/
theorem execWakeComplete_kept (gp : Nat) (s : State) : (s.run (execWakeComplete gp)).kept = s.kept ∨
    (s.run (execWakeComplete gp)).kept =
      (s.part, s.pending, s.epoch, s.nv.lockDone, s.nv.lockWords, s.nv.debugLock, .active, true) := by
  simp only [State.run, execWakeComplete, State.when]
  split
  · right
    have hu : (s.frontsUp true).kept = s.kept := State.frontsUp_kept ..
    generalize s.frontsUp true = u at hu
    refine kept_device hu _ _ ?_
    simp [-List.foldl_cons, -List.foldl_nil]
  · exact .inl rfl

end Sys2Proof.Machine
end

