-- ==== Sys2Proof/Laws/Mem.lean ====
section
/-! SUPPORT. The bytes of the memory windows under the shapes that meanings are built of. The files Laws/Mem….lean prove for each operation that stores no byte that the memory is as before. -/

namespace Sys2Proof.Machine

/-- The memory of a state, as a function of its own: a lemma about it is used by name, never by unfolding a record. -/
def State.bytes (s : State) : List Host.Cell := s.mem

@[simp] theorem bytes_fold (s : State) : s.mem = s.bytes := by unfold State.bytes; exact Eq.refl _

@[simp] theorem bytes_mk (x0 x1 x2 x3 x4 x5 x6 x7 x8 x9 x10 x11 x12 x13 x14 x15 x16 x17 x18 x19 x20 x21 x22 x23 x24 x25 x26 x27 x28 x29
      x30 x31 x32 x33 x34 x35 x36 x37 x38 x39 x40 x41 x42 x43) :
    (State.mk x0 x1 x2 x3 x4 x5 x6 x7 x8 x9 x10 x11 x12 x13 x14 x15 x16 x17 x18 x19 x20 x21 x22 x23 x24 x25 x26 x27 x28 x29
      x30 x31 x32 x33 x34 x35 x36 x37 x38 x39 x40 x41 x42 x43).bytes =
      x9 := by
  unfold State.bytes; exact Eq.refl _

@[simp] theorem bytes_ite (c : Prop) [Decidable c] (a b : State) :
    (if c then a else b).bytes = if c then a.bytes else b.bytes := apply_ite ..

@[simp] theorem bytes_elim {α : Type} (o : Option α) (s : State) (f : α → State) (h : ∀ x, (f x).bytes = s.bytes) :
    (o.elim s f).bytes = s.bytes := by
  cases o
  · rfl
  · exact h _

@[simp] theorem bytes_foldl {α : Type} (f : State → α → State) (h : ∀ s x, (f s x).bytes = s.bytes) (l : List α)
    (s : State) : (l.foldl f s).bytes = s.bytes := by
  induction l generalizing s with
  | nil => rfl
  | cons x l ih => rw [List.foldl_cons, ih, h]

@[simp] theorem bytes_foldl_fst {α β : Type} (f : State × β → α → State × β) (h : ∀ s x, (f s x).1.bytes = s.1.bytes)
    (l : List α) (s : State × β) : (l.foldl f s).1.bytes = s.1.bytes := by
  induction l generalizing s with
  | nil => rfl
  | cons x l ih => rw [List.foldl_cons, ih, h]

end Sys2Proof.Machine
end

