-- ==== Sys2Proof/Laws/MemOps.lean ====
section
/-! SUPPORT. The operations of Machine/Ops.lean leave the window memory alone. -/

namespace Sys2Proof.Machine

@[simp] theorem State.fresh_bytes (s : State) : (State.fresh s).1.bytes = s.bytes := by
  simp only [State.fresh]
  (repeat' split) <;> simp (disch := first | (intros; (repeat' split) <;> simp; done) | fail) [-List.foldl_cons, -List.foldl_nil]

@[simp] theorem State.setReg_bytes (s : State) (die page off : Nat) (v : Word) : (State.setReg s die page off v).bytes = s.bytes := by
  simp only [State.setReg]
  (repeat' split) <;> simp (disch := first | (intros; (repeat' split) <;> simp; done) | fail) [-List.foldl_cons, -List.foldl_nil]

@[simp] theorem State.set_bytes (s : State) (die : Nat) (f : Fld) (v : Nat) : (State.set s die f v).bytes = s.bytes := by
  simp only [State.set]
  (repeat' split) <;> simp (disch := first | (intros; (repeat' split) <;> simp; done) | fail) [-List.foldl_cons, -List.foldl_nil]

@[simp] theorem State.countUp_bytes (s : State) (die : Nat) (cnt ovf : Fld) (n : Nat) : (State.countUp s die cnt ovf n).bytes = s.bytes := by
  simp only [State.countUp]
  (repeat' split) <;> simp (disch := first | (intros; (repeat' split) <;> simp; done) | fail) [-List.foldl_cons, -List.foldl_nil]

@[simp] theorem State.icuAdd_bytes (s : State) (src n : Nat) : (State.icuAdd s src n).1.bytes = s.bytes := by
  simp only [State.icuAdd]
  (repeat' split) <;> simp (disch := first | (intros; (repeat' split) <;> simp; done) | fail) [-List.foldl_cons, -List.foldl_nil]

@[simp] theorem State.icuCount_bytes (s : State) (src n : Nat) : (State.icuCount s src n).bytes = s.bytes := by
  simp only [State.icuCount]
  (repeat' split) <;> simp (disch := first | (intros; (repeat' split) <;> simp; done) | fail) [-List.foldl_cons, -List.foldl_nil]

@[simp] theorem State.sourceEvent_bytes (s : State) (src n : Nat) : (State.sourceEvent s src n).bytes = s.bytes := by
  simp only [State.sourceEvent]
  (repeat' split) <;> simp (disch := first | (intros; (repeat' split) <;> simp; done) | fail) [-List.foldl_cons, -List.foldl_nil]

@[simp] theorem State.setEvent_bytes (s : State) (die page evt : Nat) : (State.setEvent s die page evt).bytes = s.bytes := by
  simp only [State.setEvent]
  (repeat' split) <;> simp (disch := first | (intros; (repeat' split) <;> simp; done) | fail) [-List.foldl_cons, -List.foldl_nil]

@[simp] theorem State.present1_bytes (s : State) (die page evt : Nat) : (State.present1 s die page evt).bytes = s.bytes := by
  simp only [State.present1]
  (repeat' split) <;> simp (disch := first | (intros; (repeat' split) <;> simp; done) | fail) [-List.foldl_cons, -List.foldl_nil]

@[simp] theorem State.raise_bytes (s : State) (die page evt : Nat) : (State.raise s die page evt).bytes = s.bytes := by
  simp only [State.raise]
  (repeat' split) <;> simp (disch := first | (intros; (repeat' split) <;> simp; done) | fail) [-List.foldl_cons, -List.foldl_nil]

@[simp] theorem State.err_bytes (s : State) (die page code : Nat) : (State.err s die page code).bytes = s.bytes := by
  simp only [State.err]
  (repeat' split) <;> simp (disch := first | (intros; (repeat' split) <;> simp; done) | fail) [-List.foldl_cons, -List.foldl_nil]

@[simp] theorem State.setBit_bytes (s : State) (die : Nat) (f : Fld) (i : Nat) (v : Bool) : (State.setBit s die f i v).bytes = s.bytes := by
  simp only [State.setBit]
  (repeat' split) <;> simp (disch := first | (intros; (repeat' split) <;> simp; done) | fail) [-List.foldl_cons, -List.foldl_nil]

@[simp] theorem State.setPage_bytes (s : State) (die page st : Nat) : (State.setPage s die page st).bytes = s.bytes := by
  simp only [State.setPage]
  (repeat' split) <;> simp (disch := first | (intros; (repeat' split) <;> simp; done) | fail) [-List.foldl_cons, -List.foldl_nil]

@[simp] theorem State.setDie_bytes (s : State) (d : Nat) (x : Die) : (State.setDie s d x).bytes = s.bytes := by
  simp only [State.setDie]
  (repeat' split) <;> simp (disch := first | (intros; (repeat' split) <;> simp; done) | fail) [-List.foldl_cons, -List.foldl_nil]

@[simp] theorem State.setSlice_bytes (s : State) (d sl : Nat) (x : Slice) : (State.setSlice s d sl x).bytes = s.bytes := by
  simp only [State.setSlice]
  (repeat' split) <;> simp (disch := first | (intros; (repeat' split) <;> simp; done) | fail) [-List.foldl_cons, -List.foldl_nil]

@[simp] theorem State.setExch_bytes (s : State) (d p : Nat) (e : Exch) : (State.setExch s d p e).bytes = s.bytes := by
  simp only [State.setExch]
  (repeat' split) <;> simp (disch := first | (intros; (repeat' split) <;> simp; done) | fail) [-List.foldl_cons, -List.foldl_nil]

@[simp] theorem State.dropExch_bytes (s : State) (d p : Nat) : (State.dropExch s d p).bytes = s.bytes := by
  simp only [State.dropExch]
  (repeat' split) <;> simp (disch := first | (intros; (repeat' split) <;> simp; done) | fail) [-List.foldl_cons, -List.foldl_nil]

@[simp] theorem State.setWatch_bytes (s : State) (d p : Nat) (w : Watch) : (State.setWatch s d p w).bytes = s.bytes := by
  simp only [State.setWatch]
  (repeat' split) <;> simp (disch := first | (intros; (repeat' split) <;> simp; done) | fail) [-List.foldl_cons, -List.foldl_nil]

@[simp] theorem State.advance_bytes (s : State) (n : Nat) : (State.advance s n).bytes = s.bytes := by
  simp only [State.advance]
  (repeat' split) <;> simp (disch := first | (intros; (repeat' split) <;> simp; done) | fail) [-List.foldl_cons, -List.foldl_nil]

@[simp] theorem State.writeRo_bytes (s : State) (die page off : Nat) (v : Word) : (State.writeRo s die page off v).bytes = s.bytes := by
  simp only [State.writeRo]
  (repeat' split) <;> simp (disch := first | (intros; (repeat' split) <;> simp; done) | fail) [-List.foldl_cons, -List.foldl_nil]

end Sys2Proof.Machine
end

