-- ==== Sys2Proof/Laws/MemTrigger.lean ====
section
/-! SUPPORT. The operations of Machine/Trigger.lean leave the window memory alone. -/

namespace Sys2Proof.Machine

@[simp] theorem State.setList_bytes (s : State) (n : Nat) (l : PleList) : (State.setList s n l).bytes = s.bytes := by
  simp only [State.setList]
  (repeat' split) <;> simp (disch := first | (intros; (repeat' split) <;> simp; done) | fail) [-List.foldl_cons, -List.foldl_nil]

@[simp] theorem State.pleMissed_bytes (s : State) (n : Nat) : (State.pleMissed s n).bytes = s.bytes := by
  simp only [State.pleMissed]
  (repeat' split) <;> simp (disch := first | (intros; (repeat' split) <;> simp; done) | fail) [-List.foldl_cons, -List.foldl_nil]

@[simp] theorem State.pleStart_bytes (s : State) (n instant : Nat) (arg : Word) : (State.pleStart s n instant arg).bytes = s.bytes := by
  simp only [State.pleStart]
  (repeat' split) <;> simp (disch := first | (intros; (repeat' split) <;> simp; done) | fail) [-List.foldl_cons, -List.foldl_nil]

@[simp] theorem State.pleMiss_bytes (s : State) (n : Nat) : (State.pleMiss s n).bytes = s.bytes := by
  simp only [State.pleMiss]
  (repeat' split) <;> simp (disch := first | (intros; (repeat' split) <;> simp; done) | fail) [-List.foldl_cons, -List.foldl_nil]

@[simp] theorem State.pleTrigger_bytes (s : State) (n instant : Nat) (arg : Word) : (State.pleTrigger s n instant arg).bytes = s.bytes := by
  simp only [State.pleTrigger]
  (repeat' split) <;> simp (disch := first | (intros; (repeat' split) <;> simp; done) | fail) [-List.foldl_cons, -List.foldl_nil]

@[simp] theorem State.pleNext_bytes (s : State) (n : Nat) : (State.pleNext s n).bytes = s.bytes := by
  simp only [State.pleNext]
  (repeat' split) <;> simp (disch := first | (intros; (repeat' split) <;> simp; done) | fail) [-List.foldl_cons, -List.foldl_nil]

@[simp] theorem State.pleCause_bytes (s : State) (e : PleCause) : (State.pleCause s e).bytes = s.bytes := by
  simp only [State.pleCause]
  (repeat' split) <;> simp (disch := first | (intros; (repeat' split) <;> simp; done) | fail) [-List.foldl_cons, -List.foldl_nil]

@[simp] theorem State.listStart_bytes (s : State) (n instant : Nat) (arg : Word) : (State.listStart s n instant arg).bytes = s.bytes := by
  simp only [State.listStart]
  (repeat' split) <;> simp (disch := first | (intros; (repeat' split) <;> simp; done) | fail) [-List.foldl_cons, -List.foldl_nil]

@[simp] theorem State.ticketTrigger_bytes (s : State) (event port index instant : Nat) : (State.ticketTrigger s event port index instant).bytes = s.bytes := by
  simp only [State.ticketTrigger]
  (repeat' split) <;> simp (disch := first | (intros; (repeat' split) <;> simp; done) | fail) [-List.foldl_cons, -List.foldl_nil]

@[simp] theorem State.comparatorTrigger_bytes (s : State) (k edge instant : Nat) : (State.comparatorTrigger s k edge instant).bytes = s.bytes := by
  simp only [State.comparatorTrigger]
  (repeat' split) <;> simp (disch := first | (intros; (repeat' split) <;> simp; done) | fail) [-List.foldl_cons, -List.foldl_nil]

@[simp] theorem State.listTrigger_bytes (s : State) (src instant : Nat) : (State.listTrigger s src instant).bytes = s.bytes := by
  simp only [State.listTrigger]
  (repeat' split) <;> simp (disch := first | (intros; (repeat' split) <;> simp; done) | fail) [-List.foldl_cons, -List.foldl_nil]

@[simp] theorem State.triggerLate_bytes (s : State) (n : Nat) : (State.triggerLate s n).bytes = s.bytes := by
  simp only [State.triggerLate]
  (repeat' split) <;> simp (disch := first | (intros; (repeat' split) <;> simp; done) | fail) [-List.foldl_cons, -List.foldl_nil]

@[simp] theorem State.triggerUndo_bytes (s : State) (n : Nat) : (State.triggerUndo s n).bytes = s.bytes := by
  simp only [State.triggerUndo]
  (repeat' split) <;> simp (disch := first | (intros; (repeat' split) <;> simp; done) | fail) [-List.foldl_cons, -List.foldl_nil]

end Sys2Proof.Machine
end

