-- ==== Sys2Proof/Laws/MemHamper.lean ====
section
/-! SUPPORT. The operations of Machine/Hamper.lean leave the window memory alone. -/

namespace Sys2Proof.Machine

@[simp] theorem State.setCls_bytes (s : State) (c : Nat) (k : HClass) : (State.setCls s c k).bytes = s.bytes := by
  simp only [State.setCls]
  (repeat' split) <;> simp (disch := first | (intros; (repeat' split) <;> simp; done) | fail) [-List.foldl_cons, -List.foldl_nil]

@[simp] theorem State.countEligible_bytes (s : State) (c : Nat) : (State.countEligible s c).bytes = s.bytes := by
  simp only [State.countEligible]
  (repeat' split) <;> simp (disch := first | (intros; (repeat' split) <;> simp; done) | fail) [-List.foldl_cons, -List.foldl_nil]

@[simp] theorem State.flowUpdate_bytes (s : State) : (State.flowUpdate s).bytes = s.bytes := by
  simp only [State.flowUpdate]
  (repeat' split) <;> simp (disch := first | (intros; (repeat' split) <;> simp; done) | fail) [-List.foldl_cons, -List.foldl_nil]

@[simp] theorem State.urgentUpdate_bytes (s : State) : (State.urgentUpdate s).bytes = s.bytes := by
  simp only [State.urgentUpdate]
  (repeat' split) <;> simp (disch := first | (intros; (repeat' split) <;> simp; done) | fail) [-List.foldl_cons, -List.foldl_nil]

@[simp] theorem State.hamperAfter_bytes (s : State) : (State.hamperAfter s).bytes = s.bytes := by
  simp only [State.hamperAfter]
  (repeat' split) <;> simp (disch := first | (intros; (repeat' split) <;> simp; done) | fail) [-List.foldl_cons, -List.foldl_nil]

@[simp] theorem State.reserve_bytes (s : State) (c n : Nat) : (State.reserve s c n).bytes = s.bytes := by
  simp only [State.reserve]
  (repeat' split) <;> simp (disch := first | (intros; (repeat' split) <;> simp; done) | fail) [-List.foldl_cons, -List.foldl_nil]

@[simp] theorem State.unreserve_bytes (s : State) (c n : Nat) : (State.unreserve s c n).bytes = s.bytes := by
  simp only [State.unreserve]
  (repeat' split) <;> simp (disch := first | (intros; (repeat' split) <;> simp; done) | fail) [-List.foldl_cons, -List.foldl_nil]

@[simp] theorem State.oversize_bytes (s : State) (c n : Nat) : (State.oversize s c n).bytes = s.bytes := by
  simp only [State.oversize]
  (repeat' split) <;> simp (disch := first | (intros; (repeat' split) <;> simp; done) | fail) [-List.foldl_cons, -List.foldl_nil]

@[simp] theorem State.saveTo_bytes (s : State) (n : Nat) : (State.saveTo s n).bytes = s.bytes := by
  simp only [State.saveTo]
  (repeat' split) <;> simp (disch := first | (intros; (repeat' split) <;> simp; done) | fail) [-List.foldl_cons, -List.foldl_nil]

@[simp] theorem State.saveStep_bytes (s : State) : (State.saveStep s).bytes = s.bytes := by
  simp only [State.saveStep]
  (repeat' split) <;> simp (disch := first | (intros; (repeat' split) <;> simp; done) | fail) [-List.foldl_cons, -List.foldl_nil]

@[simp] theorem State.departed_bytes (s : State) (t : Nat) : (State.departed s t).bytes = s.bytes := by
  simp only [State.departed]
  (repeat' split) <;> simp (disch := first | (intros; (repeat' split) <;> simp; done) | fail) [-List.foldl_cons, -List.foldl_nil]

@[simp] theorem State.noteDone_bytes (s : State) (n : Note) (ws : List Word) : (State.noteDone s n ws).bytes = s.bytes := by
  simp only [State.noteDone]
  (repeat' split) <;> simp (disch := first | (intros; (repeat' split) <;> simp; done) | fail) [-List.foldl_cons, -List.foldl_nil]

@[simp] theorem State.writeRecord_bytes (s : State) (c : Nat) (r : PendRec) : (State.writeRecord s c r).bytes = s.bytes := by
  simp only [State.writeRecord]
  (repeat' split) <;> simp (disch := first | (intros; (repeat' split) <;> simp; done) | fail) [-List.foldl_cons, -List.foldl_nil]

@[simp] theorem State.flushWaiting_bytes (s : State) (c : Nat) : (State.flushWaiting s c).bytes = s.bytes := by
  simp only [State.flushWaiting]
  (repeat' split) <;> simp (disch := first | (intros; (repeat' split) <;> simp; done) | fail) [-List.foldl_cons, -List.foldl_nil]

@[simp] theorem State.changeTrigger_bytes (s : State) (r : OutRec) : (State.changeTrigger s r).bytes = s.bytes := by
  simp only [State.changeTrigger]
  (repeat' split) <;> simp (disch := first | (intros; (repeat' split) <;> simp; done) | fail) [-List.foldl_cons, -List.foldl_nil]

@[simp] theorem State.drainDie_bytes (d : Nat) : ∀ (n : Nat) (s : State), (State.drainDie d n s).bytes = s.bytes
  | 0, s => by simp [State.drainDie]
  | n + 1, s => by
    simp only [State.drainDie]
    repeat' split
    all_goals simp [State.drainDie_bytes d n]

@[simp] theorem State.drainDies_bytes (s : State) : (State.drainDies s).bytes = s.bytes := by
  simp only [State.drainDies]
  (repeat' split) <;> simp (disch := first | (intros; (repeat' split) <;> simp; done) | fail) [-List.foldl_cons, -List.foldl_nil]

@[simp] theorem State.arrive_bytes (s : State) (d : Nat) : (State.arrive s d).bytes = s.bytes := by
  simp only [State.arrive]
  (repeat' split) <;> simp (disch := first | (intros; (repeat' split) <;> simp; done) | fail) [-List.foldl_cons, -List.foldl_nil]

@[simp] theorem State.sendRecord_bytes (s : State) (d : Nat) (r : OutRec) : (State.sendRecord s d r).bytes = s.bytes := by
  simp only [State.sendRecord]
  (repeat' split) <;> simp (disch := first | (intros; (repeat' split) <;> simp; done) | fail) [-List.foldl_cons, -List.foldl_nil]

@[simp] theorem State.queueFault_bytes (s : State) (code die : Nat) (d0 d1 : Word) : (State.queueFault s code die d0 d1).bytes = s.bytes := by
  simp only [State.queueFault]
  (repeat' split) <;> simp (disch := first | (intros; (repeat' split) <;> simp; done) | fail) [-List.foldl_cons, -List.foldl_nil]

@[simp] theorem State.queueSys_bytes (s : State) (r : SysRec) : (State.queueSys s r).bytes = s.bytes := by
  simp only [State.queueSys]
  (repeat' split) <;> simp (disch := first | (intros; (repeat' split) <;> simp; done) | fail) [-List.foldl_cons, -List.foldl_nil]

@[simp] theorem State.serveSys_bytes : ∀ (n : Nat) (s : State), (State.serveSys n s).bytes = s.bytes
  | 0, s => by simp [State.serveSys]
  | n + 1, s => by
    simp only [State.serveSys]
    repeat' split
    all_goals simp [State.serveSys_bytes n]

@[simp] theorem execSystemRecordWrite_bytes (s : State) : (s.run execSystemRecordWrite).bytes = s.bytes := by
  simp only [State.run, execSystemRecordWrite]
  (repeat' split) <;> simp (disch := first | (intros; (repeat' split) <;> simp; done) | fail) [-List.foldl_cons, -List.foldl_nil]

@[simp] theorem execHmpMark_bytes (value : Word) (s : State) : (s.run (execHmpMark value)).bytes = s.bytes := by
  simp only [State.run, execHmpMark, State.hostWrite]
  (repeat' split) <;> simp (disch := first | (intros; (repeat' split) <;> simp; done) | fail) [-List.foldl_cons, -List.foldl_nil]

@[simp] theorem execCreditMismatch_bytes (c found : Nat) (s : State) : (s.run (execCreditMismatch c found)).bytes = s.bytes := by
  simp only [State.run, execCreditMismatch, State.when]
  (repeat' split) <;> simp (disch := first | (intros; (repeat' split) <;> simp; done) | fail) [-List.foldl_cons, -List.foldl_nil]

@[simp] theorem State.cutRecords_bytes (s : State) (d : Nat) : (State.cutRecords s d).bytes = s.bytes := by
  simp only [State.cutRecords]
  (repeat' split) <;> simp (disch := first | (intros; (repeat' split) <;> simp; done) | fail) [-List.foldl_cons, -List.foldl_nil]

@[simp] theorem State.discardBank_bytes (s : State) (bank : Nat) : (State.discardBank s bank).bytes = s.bytes := by
  simp only [State.discardBank]
  (repeat' split) <;> simp (disch := first | (intros; (repeat' split) <;> simp; done) | fail) [-List.foldl_cons, -List.foldl_nil]

@[simp] theorem State.emptyClasses_bytes (s : State) : (State.emptyClasses s).bytes = s.bytes := by
  simp only [State.emptyClasses]
  (repeat' split) <;> simp (disch := first | (intros; (repeat' split) <;> simp; done) | fail) [-List.foldl_cons, -List.foldl_nil]

end Sys2Proof.Machine
end

