-- ==== Sys2Proof/Laws/MemTickets.lean ====
section
/-! SUPPORT. The operations of Machine/Tickets.lean leave the window memory alone. -/

namespace Sys2Proof.Machine

@[simp] theorem State.setTicket_bytes (s : State) (i : Nat) (t : Ticket) : (State.setTicket s i t).bytes = s.bytes := by
  simp only [State.setTicket]
  (repeat' split) <;> simp (disch := first | (intros; (repeat' split) <;> simp; done) | fail) [-List.foldl_cons, -List.foldl_nil]

@[simp] theorem State.makeTicket_bytes (s : State) (kind ident : Nat) : (State.makeTicket s kind ident).1.bytes = s.bytes := by
  simp only [State.makeTicket]
  (repeat' split) <;> simp (disch := first | (intros; (repeat' split) <;> simp; done) | fail) [-List.foldl_cons, -List.foldl_nil]

@[simp] theorem State.cancelDeparture_bytes (s : State) (t : Nat) : (State.cancelDeparture s t).bytes = s.bytes := by
  simp only [State.cancelDeparture]
  (repeat' split) <;> simp (disch := first | (intros; (repeat' split) <;> simp; done) | fail) [-List.foldl_cons, -List.foldl_nil]

@[simp] theorem State.sight_bytes (s : State) (ident port : Nat) : (State.sight s ident port).1.bytes = s.bytes := by
  simp only [State.sight]
  (repeat' split) <;> simp (disch := first | (intros; (repeat' split) <;> simp; done) | fail) [-List.foldl_cons, -List.foldl_nil]

@[simp] theorem State.bindTicket_bytes (s : State) (i port : Nat) : (State.bindTicket s i port).bytes = s.bytes := by
  simp only [State.bindTicket]
  (repeat' split) <;> simp (disch := first | (intros; (repeat' split) <;> simp; done) | fail) [-List.foldl_cons, -List.foldl_nil]

@[simp] theorem State.sweep_bytes (s : State) (port mask len n : Nat) (seen : List Nat) : (State.sweep s port mask len n seen).bytes = s.bytes := by
  simp only [State.sweep]
  (repeat' split) <;> simp (disch := first | (intros; (repeat' split) <;> simp; done) | fail) [-List.foldl_cons, -List.foldl_nil]

@[simp] theorem State.tktResult_bytes (s : State) (code index : Nat) : (State.tktResult s code index).bytes = s.bytes := by
  simp only [State.tktResult]
  (repeat' split) <;> simp (disch := first | (intros; (repeat' split) <;> simp; done) | fail) [-List.foldl_cons, -List.foldl_nil]

@[simp] theorem State.tktWrite_bytes (s : State) : (State.tktWrite s).bytes = s.bytes := by
  simp only [State.tktWrite]
  (repeat' split) <;> simp (disch := first | (intros; (repeat' split) <;> simp; done) | fail) [-List.foldl_cons, -List.foldl_nil]

@[simp] theorem State.tktInsert_bytes (s : State) : (State.tktInsert s).bytes = s.bytes := by
  simp only [State.tktInsert]
  (repeat' split) <;> simp (disch := first | (intros; (repeat' split) <;> simp; done) | fail) [-List.foldl_cons, -List.foldl_nil]

@[simp] theorem State.tktDelete_bytes (s : State) : (State.tktDelete s).bytes = s.bytes := by
  simp only [State.tktDelete]
  (repeat' split) <;> simp (disch := first | (intros; (repeat' split) <;> simp; done) | fail) [-List.foldl_cons, -List.foldl_nil]

@[simp] theorem State.tktLookup_bytes (s : State) : (State.tktLookup s).bytes = s.bytes := by
  simp only [State.tktLookup]
  (repeat' split) <;> simp (disch := first | (intros; (repeat' split) <;> simp; done) | fail) [-List.foldl_cons, -List.foldl_nil]

@[simp] theorem State.tktRun_bytes (s : State) : (State.tktRun s).bytes = s.bytes := by
  simp only [State.tktRun]
  (repeat' split) <;> simp (disch := first | (intros; (repeat' split) <;> simp; done) | fail) [-List.foldl_cons, -List.foldl_nil]

end Sys2Proof.Machine
end

