-- ==== Sys2Proof/Laws/MemCalValues.lean ====
section
/-! SUPPORT. The operations of Machine/CalValues.lean leave the window memory alone. -/

namespace Sys2Proof.Machine

@[simp] theorem State.setCalSet_bytes (s : State) (k : Nat) (c : CalSet) : (State.setCalSet s k c).bytes = s.bytes := by
  simp only [State.setCalSet]
  (repeat' split) <;> simp (disch := first | (intros; (repeat' split) <;> simp; done) | fail) [-List.foldl_cons, -List.foldl_nil]

end Sys2Proof.Machine
end

