-- ==== Sys2Proof/Laws/MemSlices.lean ====
section
/-! SUPPORT. The operations of Machine/Slices.lean leave the window memory alone. -/

namespace Sys2Proof.Machine

@[simp] theorem State.setFstate_bytes (s : State) (d sl st : Nat) : (State.setFstate s d sl st).bytes = s.bytes := by
  simp only [State.setFstate]
  (repeat' split) <;> simp (disch := first | (intros; (repeat' split) <;> simp; done) | fail) [-List.foldl_cons, -List.foldl_nil]

@[simp] theorem State.phaseHere_bytes (s : State) (d sl : Nat) : (State.phaseHere s d sl).bytes = s.bytes := by
  simp only [State.phaseHere]
  (repeat' split) <;> simp (disch := first | (intros; (repeat' split) <;> simp; done) | fail) [-List.foldl_cons, -List.foldl_nil]

@[simp] theorem State.phaseMove_bytes (s : State) (d sl : Nat) : (State.phaseMove s d sl).bytes = s.bytes := by
  simp only [State.phaseMove]
  (repeat' split) <;> simp (disch := first | (intros; (repeat' split) <;> simp; done) | fail) [-List.foldl_cons, -List.foldl_nil]

@[simp] theorem State.command_bytes (s : State) (d sl phase : Nat) : (State.command s d sl phase).bytes = s.bytes := by
  simp only [State.command]
  (repeat' split) <;> simp (disch := first | (intros; (repeat' split) <;> simp; done) | fail) [-List.foldl_cons, -List.foldl_nil]

@[simp] theorem State.applyDrive_bytes (s : State) (d sl : Nat) (r : Drive) : (State.applyDrive s d sl r).bytes = s.bytes := by
  simp only [State.applyDrive]
  (repeat' split) <;> simp (disch := first | (intros; (repeat' split) <;> simp; done) | fail) [-List.foldl_cons, -List.foldl_nil]

@[simp] theorem State.announce_bytes (s : State) (d sl : Nat) (change : TermChange) : (State.announce s d sl change).bytes = s.bytes := by
  simp only [State.announce]
  (repeat' split) <;> simp (disch := first | (intros; (repeat' split) <;> simp; done) | fail) [-List.foldl_cons, -List.foldl_nil]

@[simp] theorem State.listenerOn_bytes (s : State) (d sl : Nat) : (State.listenerOn s d sl).bytes = s.bytes := by
  simp only [State.listenerOn]
  (repeat' split) <;> simp (disch := first | (intros; (repeat' split) <;> simp; done) | fail) [-List.foldl_cons, -List.foldl_nil]

@[simp] theorem State.moveLevel_bytes (s : State) (d sl level : Nat) : (State.moveLevel s d sl level).bytes = s.bytes := by
  simp only [State.moveLevel]
  (repeat' split) <;> simp (disch := first | (intros; (repeat' split) <;> simp; done) | fail) [-List.foldl_cons, -List.foldl_nil]

@[simp] theorem State.startRamp_bytes (s : State) (d sl : Nat) (r : Drive) : (State.startRamp s d sl r).bytes = s.bytes := by
  simp only [State.startRamp]
  (repeat' split) <;> simp (disch := first | (intros; (repeat' split) <;> simp; done) | fail) [-List.foldl_cons, -List.foldl_nil]

@[simp] theorem State.energise_bytes (s : State) (d sl : Nat) : (State.energise s d sl).bytes = s.bytes := by
  simp only [State.energise]
  (repeat' split) <;> simp (disch := first | (intros; (repeat' split) <;> simp; done) | fail) [-List.foldl_cons, -List.foldl_nil]

@[simp] theorem State.cancelDrive_bytes (s : State) (d sl : Nat) : (State.cancelDrive s d sl).bytes = s.bytes := by
  simp only [State.cancelDrive]
  (repeat' split) <;> simp (disch := first | (intros; (repeat' split) <;> simp; done) | fail) [-List.foldl_cons, -List.foldl_nil]

@[simp] theorem State.rampDown_bytes (s : State) (d sl : Nat) : (State.rampDown s d sl).bytes = s.bytes := by
  simp only [State.rampDown]
  (repeat' split) <;> simp (disch := first | (intros; (repeat' split) <;> simp; done) | fail) [-List.foldl_cons, -List.foldl_nil]

@[simp] theorem State.fieldOff_bytes (s : State) (d sl : Nat) (abort : Bool) : (State.fieldOff s d sl abort).bytes = s.bytes := by
  simp only [State.fieldOff]
  (repeat' split) <;> simp (disch := first | (intros; (repeat' split) <;> simp; done) | fail) [-List.foldl_cons, -List.foldl_nil]

@[simp] theorem State.heldOff_bytes (s : State) (d sl : Nat) : (State.heldOff s d sl).bytes = s.bytes := by
  simp only [State.heldOff]
  (repeat' split) <;> simp (disch := first | (intros; (repeat' split) <;> simp; done) | fail) [-List.foldl_cons, -List.foldl_nil]

@[simp] theorem State.sliceFault_bytes (s : State) (d sl code : Nat) : (State.sliceFault s d sl code).bytes = s.bytes := by
  simp only [State.sliceFault]
  (repeat' split) <;> simp (disch := first | (intros; (repeat' split) <;> simp; done) | fail) [-List.foldl_cons, -List.foldl_nil]

@[simp] theorem execSenseInterval_bytes (d sl pwr headroom ampl detune : Nat) (s : State) : (s.run (execSenseInterval d sl pwr headroom ampl detune)).bytes = s.bytes := by
  simp only [State.run, execSenseInterval, State.when]
  (repeat' split) <;> simp (disch := first | (intros; (repeat' split) <;> simp; done) | fail) [-List.foldl_cons, -List.foldl_nil]

@[simp] theorem State.syncLate_bytes (s : State) (late : Bool) : (State.syncLate s late).bytes = s.bytes := by
  simp only [State.syncLate]
  (repeat' split) <;> simp (disch := first | (intros; (repeat' split) <;> simp; done) | fail) [-List.foldl_cons, -List.foldl_nil]

@[simp] theorem execPhaseCommand_bytes (d sl phase : Nat) (late : Bool) (s : State) : (s.run (execPhaseCommand d sl phase late)).bytes = s.bytes := by
  simp only [State.run, execPhaseCommand, State.when]
  (repeat' split) <;> simp (disch := first | (intros; (repeat' split) <;> simp; done) | fail) [-List.foldl_cons, -List.foldl_nil]

@[simp] theorem execPhaseSlewEnd_bytes (d sl : Nat) (s : State) : (s.run (execPhaseSlewEnd d sl)).bytes = s.bytes := by
  simp only [State.run, execPhaseSlewEnd, State.when]
  (repeat' split) <;> simp (disch := first | (intros; (repeat' split) <;> simp; done) | fail) [-List.foldl_cons, -List.foldl_nil]

@[simp] theorem State.sliceBoundary_bytes (s : State) (d sl : Nat) : (State.sliceBoundary s d sl).bytes = s.bytes := by
  simp only [State.sliceBoundary]
  (repeat' split) <;> simp (disch := first | (intros; (repeat' split) <;> simp; done) | fail) [-List.foldl_cons, -List.foldl_nil]

end Sys2Proof.Machine
end

