-- ==== Sys2Proof/Laws/MemSupply.lean ====
section
/-! SUPPORT. The operations of Machine/Supply.lean leave the window memory alone. -/

namespace Sys2Proof.Machine

@[simp] theorem State.supplyRequest_bytes (s : State) (r : SupplyReq) : (State.supplyRequest s r).bytes = s.bytes := by
  simp only [State.supplyRequest]
  (repeat' split) <;> simp (disch := first | (intros; (repeat' split) <;> simp; done) | fail) [-List.foldl_cons, -List.foldl_nil]

@[simp] theorem State.hostSupply_bytes (s : State) (cmd value : Nat) : (State.hostSupply s cmd value).bytes = s.bytes := by
  simp only [State.hostSupply, State.hostWrite]
  (repeat' split) <;> simp (disch := first | (intros; (repeat' split) <;> simp; done) | fail) [-List.foldl_cons, -List.foldl_nil]

@[simp] theorem execSrlSet_bytes (value : Nat) (origin : SupplyOrigin) (s : State) : (s.run (execSrlSet value origin)).bytes = s.bytes := by
  simp only [State.run, execSrlSet, State.when]
  (repeat' split) <;> simp (disch := first | (intros; (repeat' split) <;> simp; done) | fail) [-List.foldl_cons, -List.foldl_nil]

@[simp] theorem execSrlStepUp_bytes (value : Nat) (s : State) : (s.run (execSrlStepUp value)).bytes = s.bytes := by
  simp only [State.run, execSrlStepUp]
  (repeat' split) <;> simp (disch := first | (intros; (repeat' split) <;> simp; done) | fail) [-List.foldl_cons, -List.foldl_nil]

@[simp] theorem execSrlStepDown_bytes (value : Nat) (s : State) : (s.run (execSrlStepDown value)).bytes = s.bytes := by
  simp only [State.run, execSrlStepDown]
  (repeat' split) <;> simp (disch := first | (intros; (repeat' split) <;> simp; done) | fail) [-List.foldl_cons, -List.foldl_nil]

@[simp] theorem execSrlQuery_bytes (s : State) : (s.run execSrlQuery).bytes = s.bytes := by
  simp only [State.run, execSrlQuery]
  (repeat' split) <;> simp (disch := first | (intros; (repeat' split) <;> simp; done) | fail) [-List.foldl_cons, -List.foldl_nil]

@[simp] theorem execSrlFrameStart_bytes (s : State) : (s.run execSrlFrameStart).bytes = s.bytes := by
  simp only [State.run, execSrlFrameStart]
  (repeat' split) <;> simp (disch := first | (intros; (repeat' split) <;> simp; done) | fail) [-List.foldl_cons, -List.foldl_nil]

@[simp] theorem State.supplyEnded_bytes (s : State) (result : Nat) : (State.supplyEnded s result).bytes = s.bytes := by
  simp only [State.supplyEnded]
  (repeat' split) <;> simp (disch := first | (intros; (repeat' split) <;> simp; done) | fail) [-List.foldl_cons, -List.foldl_nil]

@[simp] theorem State.supplyForRun_bytes (s : State) : (State.supplyForRun s).bytes = s.bytes := by
  simp only [State.supplyForRun]
  (repeat' split) <;> simp (disch := first | (intros; (repeat' split) <;> simp; done) | fail) [-List.foldl_cons, -List.foldl_nil]

end Sys2Proof.Machine
end

