-- ==== Sys2Proof/Laws/MemWatchState.lean ====
section
/-! SUPPORT. The operations of Machine/WatchState.lean leave the window memory alone. -/

namespace Sys2Proof.Machine

@[simp] theorem State.setWatchState_bytes (s : State) (d p st : Nat) : (State.setWatchState s d p st).bytes = s.bytes := by
  simp only [State.setWatchState]
  (repeat' split) <;> simp (disch := first | (intros; (repeat' split) <;> simp; done) | fail) [-List.foldl_cons, -List.foldl_nil]

@[simp] theorem State.skipProbe_bytes (s : State) (d : Nat) : (State.skipProbe s d).bytes = s.bytes := by
  simp only [State.skipProbe]
  (repeat' split) <;> simp (disch := first | (intros; (repeat' split) <;> simp; done) | fail) [-List.foldl_cons, -List.foldl_nil]

@[simp] theorem State.dropWaiting_bytes (s : State) (d p : Nat) : (State.dropWaiting s d p).bytes = s.bytes := by
  simp only [State.dropWaiting]
  (repeat' split) <;> simp (disch := first | (intros; (repeat' split) <;> simp; done) | fail) [-List.foldl_cons, -List.foldl_nil]

@[simp] theorem State.enterLearn_bytes (s : State) (d p : Nat) : (State.enterLearn s d p).bytes = s.bytes := by
  simp only [State.enterLearn]
  (repeat' split) <;> simp (disch := first | (intros; (repeat' split) <;> simp; done) | fail) [-List.foldl_cons, -List.foldl_nil]

@[simp] theorem State.armOrLearn_bytes (s : State) (d p : Nat) : (State.armOrLearn s d p).bytes = s.bytes := by
  simp only [State.armOrLearn]
  (repeat' split) <;> simp (disch := first | (intros; (repeat' split) <;> simp; done) | fail) [-List.foldl_cons, -List.foldl_nil]

@[simp] theorem State.suspendWatch_bytes (s : State) (d p : Nat) : (State.suspendWatch s d p).bytes = s.bytes := by
  simp only [State.suspendWatch]
  (repeat' split) <;> simp (disch := first | (intros; (repeat' split) <;> simp; done) | fail) [-List.foldl_cons, -List.foldl_nil]

@[simp] theorem State.resumeWatch_bytes (s : State) (d p : Nat) : (State.resumeWatch s d p).bytes = s.bytes := by
  simp only [State.resumeWatch]
  (repeat' split) <;> simp (disch := first | (intros; (repeat' split) <;> simp; done) | fail) [-List.foldl_cons, -List.foldl_nil]

@[simp] theorem State.watchSync_bytes (s : State) (d p : Nat) : (State.watchSync s d p).bytes = s.bytes := by
  simp only [State.watchSync]
  (repeat' split) <;> simp (disch := first | (intros; (repeat' split) <;> simp; done) | fail) [-List.foldl_cons, -List.foldl_nil]

@[simp] theorem State.watchSyncDie_bytes (s : State) (d : Nat) : (State.watchSyncDie s d).bytes = s.bytes := by
  simp only [State.watchSyncDie]
  (repeat' split) <;> simp (disch := first | (intros; (repeat' split) <;> simp; done) | fail) [-List.foldl_cons, -List.foldl_nil]

@[simp] theorem State.watchSyncAll_bytes (s : State) : (State.watchSyncAll s).bytes = s.bytes := by
  simp only [State.watchSyncAll]
  (repeat' split) <;> simp (disch := first | (intros; (repeat' split) <;> simp; done) | fail) [-List.foldl_cons, -List.foldl_nil]

@[simp] theorem State.reclass_bytes (s : State) (d p : Nat) : (State.reclass s d p).bytes = s.bytes := by
  simp only [State.reclass]
  (repeat' split) <;> simp (disch := first | (intros; (repeat' split) <;> simp; done) | fail) [-List.foldl_cons, -List.foldl_nil]

@[simp] theorem State.watchCommit_bytes (s : State) (d p : Nat) (changed : Bool) : (State.watchCommit s d p changed).bytes = s.bytes := by
  simp only [State.watchCommit]
  (repeat' split) <;> simp (disch := first | (intros; (repeat' split) <;> simp; done) | fail) [-List.foldl_cons, -List.foldl_nil]

@[simp] theorem State.sendWatch_bytes (s : State) (d p cls time : Nat) (body : List Word) : (State.sendWatch s d p cls time body).bytes = s.bytes := by
  simp only [State.sendWatch]
  (repeat' split) <;> simp (disch := first | (intros; (repeat' split) <;> simp; done) | fail) [-List.foldl_cons, -List.foldl_nil]

@[simp] theorem State.flushHeld_bytes : ∀ (l : List (Nat × Nat)) (s : State), (State.flushHeld l s).bytes = s.bytes
  | [], s => by simp [State.flushHeld]
  | (t, k) :: l, s => by
    simp only [State.flushHeld]
    repeat' split
    all_goals simp [State.flushHeld_bytes l]

@[simp] theorem State.flushWatch_bytes (s : State) : (State.flushWatch s).bytes = s.bytes := by
  simp only [State.flushWatch]
  (repeat' split) <;> simp (disch := first | (intros; (repeat' split) <;> simp; done) | fail) [-List.foldl_cons, -List.foldl_nil]

@[simp] theorem State.startProbes_bytes (d : Nat) : ∀ (n : Nat) (s : State), (State.startProbes d n s).bytes = s.bytes
  | 0, s => by simp [State.startProbes]
  | n + 1, s => by
    simp only [State.startProbes]
    repeat' split
    all_goals simp [State.startProbes_bytes d n]

@[simp] theorem State.startWatchProbe_bytes (s : State) (d : Nat) : (State.startWatchProbe s d).bytes = s.bytes := by
  simp only [State.startWatchProbe]
  (repeat' split) <;> simp (disch := first | (intros; (repeat' split) <;> simp; done) | fail) [-List.foldl_cons, -List.foldl_nil]

end Sys2Proof.Machine
end

