-- ==== Sys2Proof/Laws/MemDescriptor.lean ====
section
/-! SUPPORT. The operations of Machine/Descriptor.lean leave the window memory alone. -/

namespace Sys2Proof.Machine

@[simp] theorem State.descInvalid_bytes (s : State) (d code : Nat) : (State.descInvalid s d code).bytes = s.bytes := by
  simp only [State.descInvalid]
  (repeat' split) <;> simp (disch := first | (intros; (repeat' split) <;> simp; done) | fail) [-List.foldl_cons, -List.foldl_nil]

@[simp] theorem State.formChain_bytes (s : State) (d index : Nat) : (State.formChain s d index).1.bytes = s.bytes := by
  simp only [State.formChain]
  (repeat' split) <;> simp (disch := first | (intros; (repeat' split) <;> simp; done) | fail) [-List.foldl_cons, -List.foldl_nil]

end Sys2Proof.Machine
end

