-- ==== Sys2Proof/Laws/MemGrants.lean ====
section
/-! SUPPORT. The operations of Machine/Grants.lean leave the window memory alone. -/

namespace Sys2Proof.Machine

@[simp] theorem State.setCalTarget_bytes (s : State) (k : Nat) (c : CalTarget) : (State.setCalTarget s k c).bytes = s.bytes := by
  simp only [State.setCalTarget]
  (repeat' split) <;> simp (disch := first | (intros; (repeat' split) <;> simp; done) | fail) [-List.foldl_cons, -List.foldl_nil]

@[simp] theorem State.setTest_bytes (s : State) (k : Nat) (t : TestUnit) : (State.setTest s k t).bytes = s.bytes := by
  simp only [State.setTest]
  (repeat' split) <;> simp (disch := first | (intros; (repeat' split) <;> simp; done) | fail) [-List.foldl_cons, -List.foldl_nil]

@[simp] theorem State.askRun_bytes (s : State) (d : Nat) : (State.askRun s d).bytes = s.bytes := by
  simp only [State.askRun]
  (repeat' split) <;> simp (disch := first | (intros; (repeat' split) <;> simp; done) | fail) [-List.foldl_cons, -List.foldl_nil]

@[simp] theorem State.askRunPorts_bytes (s : State) (ns : List Nat) : (State.askRunPorts s ns).bytes = s.bytes := by
  simp only [State.askRunPorts]
  (repeat' split) <;> simp (disch := first | (intros; (repeat' split) <;> simp; done) | fail) [-List.foldl_cons, -List.foldl_nil]

@[simp] theorem State.userFieldOff_bytes (s : State) (d sl : Nat) : (State.userFieldOff s d sl).bytes = s.bytes := by
  simp only [State.userFieldOff]
  (repeat' split) <;> simp (disch := first | (intros; (repeat' split) <;> simp; done) | fail) [-List.foldl_cons, -List.foldl_nil]

@[simp] theorem State.abortFieldOff_bytes (s : State) (d sl : Nat) : (State.abortFieldOff s d sl).bytes = s.bytes := by
  simp only [State.abortFieldOff]
  (repeat' split) <;> simp (disch := first | (intros; (repeat' split) <;> simp; done) | fail) [-List.foldl_cons, -List.foldl_nil]

@[simp] theorem State.releaseGuarded_bytes (s : State) : (State.releaseGuarded s).bytes = s.bytes := by
  simp only [State.releaseGuarded]
  (repeat' split) <;> simp (disch := first | (intros; (repeat' split) <;> simp; done) | fail) [-List.foldl_cons, -List.foldl_nil]

@[simp] theorem State.dropHold_bytes (s : State) (d p : Nat) : (State.dropHold s d p).bytes = s.bytes := by
  simp only [State.dropHold]
  (repeat' split) <;> simp (disch := first | (intros; (repeat' split) <;> simp; done) | fail) [-List.foldl_cons, -List.foldl_nil]

@[simp] theorem State.servedFieldOff_bytes (s : State) (d p : Nat) : (State.servedFieldOff s d p).bytes = s.bytes := by
  simp only [State.servedFieldOff]
  (repeat' split) <;> simp (disch := first | (intros; (repeat' split) <;> simp; done) | fail) [-List.foldl_cons, -List.foldl_nil]

@[simp] theorem State.endHold_bytes (s : State) (d p : Nat) : (State.endHold s d p).bytes = s.bytes := by
  simp only [State.endHold]
  (repeat' split) <;> simp (disch := first | (intros; (repeat' split) <;> simp; done) | fail) [-List.foldl_cons, -List.foldl_nil]

@[simp] theorem State.endHolds_bytes (s : State) (only : Option Nat) : (State.endHolds s only).bytes = s.bytes := by
  simp only [State.endHolds]
  (repeat' split) <;> simp (disch := first | (intros; (repeat' split) <;> simp; done) | fail) [-List.foldl_cons, -List.foldl_nil]

@[simp] theorem State.unreserveAll_bytes (s : State) (res : List Nat) : (State.unreserveAll s res).bytes = s.bytes := by
  simp only [State.unreserveAll]
  (repeat' split) <;> simp (disch := first | (intros; (repeat' split) <;> simp; done) | fail) [-List.foldl_cons, -List.foldl_nil]

@[simp] theorem State.calResult_bytes (s : State) (k result : Nat) (temp : Option Nat) (points : Nat) : (State.calResult s k result temp points).bytes = s.bytes := by
  simp only [State.calResult]
  (repeat' split) <;> simp (disch := first | (intros; (repeat' split) <;> simp; done) | fail) [-List.foldl_cons, -List.foldl_nil]

@[simp] theorem State.takeRinse_bytes (s : State) (d p sl : Nat) : (State.takeRinse s d p sl).bytes = s.bytes := by
  simp only [State.takeRinse]
  (repeat' split) <;> simp (disch := first | (intros; (repeat' split) <;> simp; done) | fail) [-List.foldl_cons, -List.foldl_nil]

@[simp] theorem State.portBoundary_bytes (s : State) (d p : Nat) : (State.portBoundary s d p).bytes = s.bytes := by
  simp only [State.portBoundary]
  (repeat' split) <;> simp (disch := first | (intros; (repeat' split) <;> simp; done) | fail) [-List.foldl_cons, -List.foldl_nil]

@[simp] theorem State.refreshDie_bytes (s : State) (d : Nat) : (State.refreshDie s d).bytes = s.bytes := by
  simp only [State.refreshDie, State.when]
  (repeat' split) <;> simp (disch := first | (intros; (repeat' split) <;> simp; done) | fail) [-List.foldl_cons, -List.foldl_nil]

@[simp] theorem State.refreshAll_bytes (s : State) : (State.refreshAll s).bytes = s.bytes := by
  simp only [State.refreshAll]
  (repeat' split) <;> simp (disch := first | (intros; (repeat' split) <;> simp; done) | fail) [-List.foldl_cons, -List.foldl_nil]

@[simp] theorem State.restSlice_bytes (s : State) (d sl : Nat) : (State.restSlice s d sl).bytes = s.bytes := by
  simp only [State.restSlice]
  (repeat' split) <;> simp (disch := first | (intros; (repeat' split) <;> simp; done) | fail) [-List.foldl_cons, -List.foldl_nil]

@[simp] theorem State.restSlices_bytes (s : State) (l : List (Nat × Nat)) : (State.restSlices s l).bytes = s.bytes := by
  simp only [State.restSlices]
  (repeat' split) <;> simp (disch := first | (intros; (repeat' split) <;> simp; done) | fail) [-List.foldl_cons, -List.foldl_nil]

@[simp] theorem State.dropWork_bytes (s : State) (k : Nat) : (State.dropWork s k).bytes = s.bytes := by
  simp only [State.dropWork]
  (repeat' split) <;> simp (disch := first | (intros; (repeat' split) <;> simp; done) | fail) [-List.foldl_cons, -List.foldl_nil]

@[simp] theorem State.slicesOff_bytes (s : State) (l : List (Nat × Nat)) (abort : Bool) : (State.slicesOff s l abort).bytes = s.bytes := by
  simp only [State.slicesOff]
  (repeat' split) <;> simp (disch := first | (intros; (repeat' split) <;> simp; done) | fail) [-List.foldl_cons, -List.foldl_nil]

@[simp] theorem State.reportRun_bytes (s : State) (res : List Nat) (write : Bool) (payload : List Word) : (State.reportRun s res write payload).bytes = s.bytes := by
  simp only [State.reportRun]
  (repeat' split) <;> simp (disch := first | (intros; (repeat' split) <;> simp; done) | fail) [-List.foldl_cons, -List.foldl_nil]

@[simp] theorem State.calBits_bytes (s : State) (k : Nat) : (State.calBits s k).bytes = s.bytes := by
  simp only [State.calBits]
  (repeat' split) <;> simp (disch := first | (intros; (repeat' split) <;> simp; done) | fail) [-List.foldl_cons, -List.foldl_nil]

@[simp] theorem State.calAbort_bytes (s : State) (key : Nat) : (State.calAbort s key).bytes = s.bytes := by
  simp only [State.calAbort]
  (repeat' split) <;> simp (disch := first | (intros; (repeat' split) <;> simp; done) | fail) [-List.foldl_cons, -List.foldl_nil]

@[simp] theorem State.leaveTest_bytes (s : State) (die page : Nat) : (State.leaveTest s die page).bytes = s.bytes := by
  simp only [State.leaveTest]
  (repeat' split) <;> simp (disch := first | (intros; (repeat' split) <;> simp; done) | fail) [-List.foldl_cons, -List.foldl_nil]

@[simp] theorem State.pageTested_bytes (s : State) (kind die unit : Nat) : (State.pageTested s kind die unit).bytes = s.bytes := by
  simp only [State.pageTested]
  (repeat' split) <;> simp (disch := first | (intros; (repeat' split) <;> simp; done) | fail) [-List.foldl_cons, -List.foldl_nil]

@[simp] theorem State.sliceLeavesTest_bytes (s : State) (d sl : Nat) : (State.sliceLeavesTest s d sl).bytes = s.bytes := by
  simp only [State.sliceLeavesTest]
  (repeat' split) <;> simp (disch := first | (intros; (repeat' split) <;> simp; done) | fail) [-List.foldl_cons, -List.foldl_nil]

@[simp] theorem State.reportTest_bytes (s : State) (kind : Nat) (res : List Nat) (result : Nat) (payload : List Word) : (State.reportTest s kind res result payload).bytes = s.bytes := by
  simp only [State.reportTest]
  (repeat' split) <;> simp (disch := first | (intros; (repeat' split) <;> simp; done) | fail) [-List.foldl_cons, -List.foldl_nil]

@[simp] theorem State.testResult_bytes (s : State) (kind die unit result first : Nat) : (State.testResult s kind die unit result first).bytes = s.bytes := by
  simp only [State.testResult]
  (repeat' split) <;> simp (disch := first | (intros; (repeat' split) <;> simp; done) | fail) [-List.foldl_cons, -List.foldl_nil]

@[simp] theorem State.testEvent_bytes (s : State) (kind die evt : Nat) : (State.testEvent s kind die evt).bytes = s.bytes := by
  simp only [State.testEvent]
  (repeat' split) <;> simp (disch := first | (intros; (repeat' split) <;> simp; done) | fail) [-List.foldl_cons, -List.foldl_nil]

@[simp] theorem State.startupTested_bytes (s : State) (k result : Nat) : (State.startupTested s k result).bytes = s.bytes := by
  simp only [State.startupTested]
  (repeat' split) <;> simp (disch := first | (intros; (repeat' split) <;> simp; done) | fail) [-List.foldl_cons, -List.foldl_nil]

@[simp] theorem State.testAbort_bytes (s : State) (kind die unit : Nat) : (State.testAbort s kind die unit).bytes = s.bytes := by
  simp only [State.testAbort]
  (repeat' split) <;> simp (disch := first | (intros; (repeat' split) <;> simp; done) | fail) [-List.foldl_cons, -List.foldl_nil]

end Sys2Proof.Machine
end

