-- ==== Sys2Proof/Laws/MemExchEnd.lean ====
section
/-! SUPPORT. The operations of Machine/ExchEnd.lean leave the window memory alone. -/

namespace Sys2Proof.Machine

@[simp] theorem State.exchRecord_bytes (s : State) (d p : Nat) (e : Exch) (r : Result) : (State.exchRecord s d p e r).bytes = s.bytes := by
  simp only [State.exchRecord]
  (repeat' split) <;> simp (disch := first | (intros; (repeat' split) <;> simp; done) | fail) [-List.foldl_cons, -List.foldl_nil]

@[simp] theorem State.sendChange_bytes (s : State) (d : Nat) (m : Member) (time : Nat) (note : Note) (payload : List Word) : (State.sendChange s d m time note payload).bytes = s.bytes := by
  simp only [State.sendChange]
  (repeat' split) <;> simp (disch := first | (intros; (repeat' split) <;> simp; done) | fail) [-List.foldl_cons, -List.foldl_nil]

@[simp] theorem State.roundRecords_bytes (s : State) (d p : Nat) (e : Exch) (status : Nat) : (State.roundRecords s d p e status).bytes = s.bytes := by
  simp only [State.roundRecords]
  (repeat' split) <;> simp (disch := first | (intros; (repeat' split) <;> simp; done) | fail) [-List.foldl_cons, -List.foldl_nil]

@[simp] theorem State.roundStatus_bytes (s : State) (d p : Nat) (e : Exch) (status : Nat) : (State.roundStatus s d p e status).bytes = s.bytes := by
  simp only [State.roundStatus]
  (repeat' split) <;> simp (disch := first | (intros; (repeat' split) <;> simp; done) | fail) [-List.foldl_cons, -List.foldl_nil]

@[simp] theorem State.saturated_bytes (s : State) (d p : Nat) : (State.saturated s d p).bytes = s.bytes := by
  simp only [State.saturated]
  (repeat' split) <;> simp (disch := first | (intros; (repeat' split) <;> simp; done) | fail) [-List.foldl_cons, -List.foldl_nil]

@[simp] theorem State.chainReport_bytes (s : State) (d p : Nat) (e : Exch) : (State.chainReport s d p e).bytes = s.bytes := by
  simp only [State.chainReport]
  (repeat' split) <;> simp (disch := first | (intros; (repeat' split) <;> simp; done) | fail) [-List.foldl_cons, -List.foldl_nil]

@[simp] theorem State.releaseListeners_bytes (s : State) (ns : List Nat) : (State.releaseListeners s ns).bytes = s.bytes := by
  simp only [State.releaseListeners]
  (repeat' split) <;> simp (disch := first | (intros; (repeat' split) <;> simp; done) | fail) [-List.foldl_cons, -List.foldl_nil]

@[simp] theorem State.refDone_bytes (s : State) (o : Origin) : (State.refDone s o).bytes = s.bytes := by
  simp only [State.refDone]
  (repeat' split) <;> simp (disch := first | (intros; (repeat' split) <;> simp; done) | fail) [-List.foldl_cons, -List.foldl_nil]

@[simp] theorem State.wantListener_bytes (s : State) (k : Nat) : (State.wantListener s k).bytes = s.bytes := by
  simp only [State.wantListener]
  (repeat' split) <;> simp (disch := first | (intros; (repeat' split) <;> simp; done) | fail) [-List.foldl_cons, -List.foldl_nil]

@[simp] theorem State.takeListeners_bytes (s : State) (d p : Nat) (partner : Option Nat) (m : Member) : (State.takeListeners s d p partner m).1.bytes = s.bytes := by
  simp only [State.takeListeners]
  (repeat' split) <;> simp (disch := first | (intros; (repeat' split) <;> simp; done) | fail) [-List.foldl_cons, -List.foldl_nil]

@[simp] theorem State.wantMember_bytes (s : State) (d p : Nat) (partner : Option Nat) (m : Member) : (State.wantMember s d p partner m).bytes = s.bytes := by
  simp only [State.wantMember]
  (repeat' split) <;> simp (disch := first | (intros; (repeat' split) <;> simp; done) | fail) [-List.foldl_cons, -List.foldl_nil]

@[simp] theorem State.exchFieldOff_bytes (s : State) (d p : Nat) (e : Exch) (abort : Bool) : (State.exchFieldOff s d p e abort).bytes = s.bytes := by
  simp only [State.exchFieldOff]
  (repeat' split) <;> simp (disch := first | (intros; (repeat' split) <;> simp; done) | fail) [-List.foldl_cons, -List.foldl_nil]

@[simp] theorem State.exchBoundary_bytes (s : State) (d p : Nat) (e : Exch) : (State.exchBoundary s d p e).bytes = s.bytes := by
  simp only [State.exchBoundary]
  (repeat' split) <;> simp (disch := first | (intros; (repeat' split) <;> simp; done) | fail) [-List.foldl_cons, -List.foldl_nil]

@[simp] theorem State.beginHold_bytes (s : State) (d p : Nat) : (State.beginHold s d p).bytes = s.bytes := by
  simp only [State.beginHold]
  (repeat' split) <;> simp (disch := first | (intros; (repeat' split) <;> simp; done) | fail) [-List.foldl_cons, -List.foldl_nil]

@[simp] theorem State.memberRecords_bytes (s : State) (d p : Nat) (e : Exch) (r : Result) : (State.memberRecords s d p e r).bytes = s.bytes := by
  simp only [State.memberRecords]
  (repeat' split) <;> simp (disch := first | (intros; (repeat' split) <;> simp; done) | fail) [-List.foldl_cons, -List.foldl_nil]

@[simp] theorem State.finishTail_bytes (s : State) (d p : Nat) (e : Exch) (r : Result) : (State.finishTail s d p e r).bytes = s.bytes := by
  simp only [State.finishTail]
  (repeat' split) <;> simp (disch := first | (intros; (repeat' split) <;> simp; done) | fail) [-List.foldl_cons, -List.foldl_nil]

@[simp] theorem State.finish_bytes (s : State) (d p : Nat) (r : Result) : (State.finish s d p r).bytes = s.bytes := by
  simp only [State.finish]
  (repeat' split) <;> simp (disch := first | (intros; (repeat' split) <;> simp; done) | fail) [-List.foldl_cons, -List.foldl_nil]

@[simp] theorem State.roundsWritten_bytes (s : State) : (State.roundsWritten s).bytes = s.bytes := by
  simp only [State.roundsWritten]
  (repeat' split) <;> simp (disch := first | (intros; (repeat' split) <;> simp; done) | fail) [-List.foldl_cons, -List.foldl_nil]

@[simp] theorem State.freshBytes_bytes : ∀ (n : Nat) (s : State), (State.freshBytes n s).1.bytes = s.bytes
  | 0, s => by simp [State.freshBytes]
  | n + 1, s => by simp [State.freshBytes, State.freshBytes_bytes n]

@[simp] theorem State.cutAct_bytes (s : State) (a : Act) : (State.cutAct s a).1.bytes = s.bytes := by
  simp only [State.cutAct]
  (repeat' split) <;> simp (disch := first | (intros; (repeat' split) <;> simp; done) | fail) [-List.foldl_cons, -List.foldl_nil]

@[simp] theorem State.cutReply_bytes (s : State) (e : Exch) : (State.cutReply s e).1.bytes = s.bytes := by
  simp only [State.cutReply]
  (repeat' split) <;> simp (disch := first | (intros; (repeat' split) <;> simp; done) | fail) [-List.foldl_cons, -List.foldl_nil]

@[simp] theorem State.freshPick_bytes : ∀ (l : List Nat) (s : State), (State.freshPick l s).1.bytes = s.bytes
  | [], s => by simp [State.freshPick]
  | _ :: l, s => by simp [State.freshPick, State.freshPick_bytes l]

@[simp] theorem State.cutSat_bytes (s : State) (d p : Nat) (e : Exch) : (State.cutSat s d p e).bytes = s.bytes := by
  simp only [State.cutSat]
  (repeat' split) <;> simp (disch := first | (intros; (repeat' split) <;> simp; done) | fail) [-List.foldl_cons, -List.foldl_nil]

@[simp] theorem State.dropProbe_bytes (s : State) (d p : Nat) (abort : Bool) : (State.dropProbe s d p abort).bytes = s.bytes := by
  simp only [State.dropProbe]
  (repeat' split) <;> simp (disch := first | (intros; (repeat' split) <;> simp; done) | fail) [-List.foldl_cons, -List.foldl_nil]

@[simp] theorem State.endCw_bytes (s : State) (d sl : Nat) (abort : Bool) : (State.endCw s d sl abort).bytes = s.bytes := by
  simp only [State.endCw]
  (repeat' split) <;> simp (disch := first | (intros; (repeat' split) <;> simp; done) | fail) [-List.foldl_cons, -List.foldl_nil]

@[simp] theorem State.loseListener_bytes (s : State) (n : Nat) : (State.loseListener s n).bytes = s.bytes := by
  simp only [State.loseListener]
  (repeat' split) <;> simp (disch := first | (intros; (repeat' split) <;> simp; done) | fail) [-List.foldl_cons, -List.foldl_nil]

end Sys2Proof.Machine
end

