-- ==== Sys2Proof/Laws/MemCoordinator.lean ====
section
/-! SUPPORT. The operations of Machine/Coordinator.lean leave the window memory alone. -/

namespace Sys2Proof.Machine

@[simp] theorem State.setCand_bytes (s : State) (c : Cand) : (State.setCand s c).bytes = s.bytes := by
  simp only [State.setCand]
  (repeat' split) <;> simp (disch := first | (intros; (repeat' split) <;> simp; done) | fail) [-List.foldl_cons, -List.foldl_nil]

@[simp] theorem State.dropCand_bytes (s : State) (order : Nat) : (State.dropCand s order).bytes = s.bytes := by
  simp only [State.dropCand]
  (repeat' split) <;> simp (disch := first | (intros; (repeat' split) <;> simp; done) | fail) [-List.foldl_cons, -List.foldl_nil]

@[simp] theorem State.wantHeld_bytes (s : State) (d p : Nat) (m : Member) : (State.wantHeld s d p m).bytes = s.bytes := by
  simp only [State.wantHeld]
  (repeat' split) <;> simp (disch := first | (intros; (repeat' split) <;> simp; done) | fail) [-List.foldl_cons, -List.foldl_nil]

@[simp] theorem State.admitExchange_bytes (s : State) (c : Cand) : (State.admitExchange s c).bytes = s.bytes := by
  simp only [State.admitExchange]
  (repeat' split) <;> simp (disch := first | (intros; (repeat' split) <;> simp; done) | fail) [-List.foldl_cons, -List.foldl_nil]

@[simp] theorem State.wantUser_bytes (s : State) (d sl user level ramp : Nat) (phase : Nat) : (State.wantUser s d sl user level ramp phase).bytes = s.bytes := by
  simp only [State.wantUser]
  (repeat' split) <;> simp (disch := first | (intros; (repeat' split) <;> simp; done) | fail) [-List.foldl_cons, -List.foldl_nil]

@[simp] theorem State.addWork_bytes (s : State) (key : Nat) (c : Cand) (phase : Phase) (slices : List Nat) : (State.addWork s key c phase slices).bytes = s.bytes := by
  simp only [State.addWork]
  (repeat' split) <;> simp (disch := first | (intros; (repeat' split) <;> simp; done) | fail) [-List.foldl_cons, -List.foldl_nil]

@[simp] theorem State.admitCal_bytes (s : State) (c : Cand) (kind unit : Nat) : (State.admitCal s c kind unit).bytes = s.bytes := by
  simp only [State.admitCal]
  (repeat' split) <;> simp (disch := first | (intros; (repeat' split) <;> simp; done) | fail) [-List.foldl_cons, -List.foldl_nil]

@[simp] theorem State.admitTest_bytes (s : State) (c : Cand) (kind unit : Nat) : (State.admitTest s c kind unit).bytes = s.bytes := by
  simp only [State.admitTest]
  (repeat' split) <;> simp (disch := first | (intros; (repeat' split) <;> simp; done) | fail) [-List.foldl_cons, -List.foldl_nil]

@[simp] theorem State.admitNow_bytes (s : State) (c : Cand) : (State.admitNow s c).bytes = s.bytes := by
  simp only [State.admitNow]
  (repeat' split) <;> simp (disch := first | (intros; (repeat' split) <;> simp; done) | fail) [-List.foldl_cons, -List.foldl_nil]

@[simp] theorem State.yieldTests_bytes (s : State) (c : Cand) : (State.yieldTests s c).bytes = s.bytes := by
  simp only [State.yieldTests]
  (repeat' split) <;> simp (disch := first | (intros; (repeat' split) <;> simp; done) | fail) [-List.foldl_cons, -List.foldl_nil]

@[simp] theorem State.enterCreditWait_bytes (s : State) (c : Cand) : (State.enterCreditWait s c).bytes = s.bytes := by
  simp only [State.enterCreditWait]
  (repeat' split) <;> simp (disch := first | (intros; (repeat' split) <;> simp; done) | fail) [-List.foldl_cons, -List.foldl_nil]

@[simp] theorem State.enterBudgetWait_bytes (s : State) (c : Cand) : (State.enterBudgetWait s c).bytes = s.bytes := by
  simp only [State.enterBudgetWait]
  (repeat' split) <;> simp (disch := first | (intros; (repeat' split) <;> simp; done) | fail) [-List.foldl_cons, -List.foldl_nil]

@[simp] theorem State.passOver_bytes (s : State) (c : Cand) : (State.passOver s c).bytes = s.bytes := by
  simp only [State.passOver]
  (repeat' split) <;> simp (disch := first | (intros; (repeat' split) <;> simp; done) | fail) [-List.foldl_cons, -List.foldl_nil]

@[simp] theorem State.markOversize_bytes (s : State) : (State.markOversize s).bytes = s.bytes := by
  simp only [State.markOversize]
  (repeat' split) <;> simp (disch := first | (intros; (repeat' split) <;> simp; done) | fail) [-List.foldl_cons, -List.foldl_nil]

@[simp] theorem State.tryCand_bytes (s : State) (c : Cand) : (State.tryCand s c).bytes = s.bytes := by
  simp only [State.tryCand]
  (repeat' split) <;> simp (disch := first | (intros; (repeat' split) <;> simp; done) | fail) [-List.foldl_cons, -List.foldl_nil]

@[simp] theorem State.passOnce_bytes (s : State) : (State.passOnce s).bytes = s.bytes := by
  simp only [State.passOnce]
  (repeat' split) <;> simp (disch := first | (intros; (repeat' split) <;> simp; done) | fail) [-List.foldl_cons, -List.foldl_nil]

@[simp] theorem State.askRunFor_bytes (s : State) (c : Cand) (listen : Bool) : (State.askRunFor s c listen).bytes = s.bytes := by
  simp only [State.askRunFor]
  (repeat' split) <;> simp (disch := first | (intros; (repeat' split) <;> simp; done) | fail) [-List.foldl_cons, -List.foldl_nil]

@[simp] theorem State.withdraw_bytes (s : State) (c : Cand) : (State.withdraw s c).bytes = s.bytes := by
  simp only [State.withdraw]
  (repeat' split) <;> simp (disch := first | (intros; (repeat' split) <;> simp; done) | fail) [-List.foldl_cons, -List.foldl_nil]

@[simp] theorem State.addCand_bytes (s : State) (c : Cand) : (State.addCand s c).bytes = s.bytes := by
  simp only [State.addCand]
  (repeat' split) <;> simp (disch := first | (intros; (repeat' split) <;> simp; done) | fail) [-List.foldl_cons, -List.foldl_nil]

@[simp] theorem State.endSequencer_bytes (s : State) (d : Nat) : (State.endSequencer s d).bytes = s.bytes := by
  simp only [State.endSequencer]
  (repeat' split) <;> simp (disch := first | (intros; (repeat' split) <;> simp; done) | fail) [-List.foldl_cons, -List.foldl_nil]

@[simp] theorem State.offerCal_bytes (s : State) (k : Nat) : (State.offerCal s k).bytes = s.bytes := by
  simp only [State.offerCal]
  (repeat' split) <;> simp (disch := first | (intros; (repeat' split) <;> simp; done) | fail) [-List.foldl_cons, -List.foldl_nil]

@[simp] theorem State.offerTest_bytes (s : State) (kind d unit : Nat) : (State.offerTest s kind d unit).bytes = s.bytes := by
  simp only [State.offerTest]
  (repeat' split) <;> simp (disch := first | (intros; (repeat' split) <;> simp; done) | fail) [-List.foldl_cons, -List.foldl_nil]

@[simp] theorem State.offerDue_bytes (s : State) : (State.offerDue s).bytes = s.bytes := by
  simp only [State.offerDue]
  (repeat' split) <;> simp (disch := first | (intros; (repeat' split) <;> simp; done) | fail) [-List.foldl_cons, -List.foldl_nil]

@[simp] theorem State.addExchange_bytes (s : State) (o : Origin) (d p : Nat) (ms : List Member) (prio : Nat) : (State.addExchange s o d p ms prio).bytes = s.bytes := by
  simp only [State.addExchange]
  (repeat' split) <;> simp (disch := first | (intros; (repeat' split) <;> simp; done) | fail) [-List.foldl_cons, -List.foldl_nil]

@[simp] theorem State.setRef_bytes (s : State) (plan i : Nat) (x : RefState) : (State.setRef s plan i x).bytes = s.bytes := by
  simp only [State.setRef]
  (repeat' split) <;> simp (disch := first | (intros; (repeat' split) <;> simp; done) | fail) [-List.foldl_cons, -List.foldl_nil]

@[simp] theorem State.stepRef_bytes (s : State) (run : PlanRun) (i r : Nat) : (State.stepRef s run i r).bytes = s.bytes := by
  simp only [State.stepRef]
  (repeat' split) <;> simp (disch := first | (intros; (repeat' split) <;> simp; done) | fail) [-List.foldl_cons, -List.foldl_nil]

@[simp] theorem State.stepRounds_bytes (s : State) : (State.stepRounds s).bytes = s.bytes := by
  simp only [State.stepRounds]
  (repeat' split) <;> simp (disch := first | (intros; (repeat' split) <;> simp; done) | fail) [-List.foldl_cons, -List.foldl_nil]

@[simp] theorem State.settleWork_bytes : ∀ (n : Nat) (s : State), (State.settleWork n s).bytes = s.bytes
  | 0, s => by simp [State.settleWork]
  | n + 1, s => by
    simp only [State.settleWork]
    repeat' split
    all_goals simp [State.settleWork_bytes n]

@[simp] theorem State.coordinate_bytes (s : State) : (State.coordinate s).bytes = s.bytes := by
  simp only [State.coordinate]
  (repeat' split) <;> simp (disch := first | (intros; (repeat' split) <;> simp; done) | fail) [-List.foldl_cons, -List.foldl_nil]

@[simp] theorem State.ageCand_bytes (s : State) (c : Cand) : (State.ageCand s c).bytes = s.bytes := by
  simp only [State.ageCand]
  (repeat' split) <;> simp (disch := first | (intros; (repeat' split) <;> simp; done) | fail) [-List.foldl_cons, -List.foldl_nil]

@[simp] theorem execCandidateAgeing_bytes (order : Nat) (s : State) : (s.run (execCandidateAgeing order)).bytes = s.bytes := by
  simp only [State.run, execCandidateAgeing]
  (repeat' split) <;> simp (disch := first | (intros; (repeat' split) <;> simp; done) | fail) [-List.foldl_cons, -List.foldl_nil]

@[simp] theorem execFcoRun_bytes (value : Word) (s : State) : (s.run (execFcoRun value)).bytes = s.bytes := by
  simp only [State.run, execFcoRun, State.hostWrite]
  (repeat' split) <;> simp (disch := first | (intros; (repeat' split) <;> simp; done) | fail) [-List.foldl_cons, -List.foldl_nil]

@[simp] theorem State.startRound_bytes (s : State) (n : Nat) : (State.startRound s n).bytes = s.bytes := by
  simp only [State.startRound]
  (repeat' split) <;> simp (disch := first | (intros; (repeat' split) <;> simp; done) | fail) [-List.foldl_cons, -List.foldl_nil]

@[simp] theorem State.roundDue_bytes (s : State) (plan : Nat) : (State.roundDue s plan).bytes = s.bytes := by
  simp only [State.roundDue]
  (repeat' split) <;> simp (disch := first | (intros; (repeat' split) <;> simp; done) | fail) [-List.foldl_cons, -List.foldl_nil]

@[simp] theorem execRoundStart_bytes (plan : Nat) (late : Bool) (s : State) : (s.run (execRoundStart plan late)).bytes = s.bytes := by
  simp only [State.run, execRoundStart, State.when]
  (repeat' split) <;> simp (disch := first | (intros; (repeat' split) <;> simp; done) | fail) [-List.foldl_cons, -List.foldl_nil]

@[simp] theorem State.safetyItem_bytes (s : State) : (State.safetyItem s).bytes = s.bytes := by
  simp only [State.safetyItem]
  (repeat' split) <;> simp (disch := first | (intros; (repeat' split) <;> simp; done) | fail) [-List.foldl_cons, -List.foldl_nil]

@[simp] theorem execVsupIdleRequest_bytes (s : State) : (s.run execVsupIdleRequest).bytes = s.bytes := by
  simp only [State.run, execVsupIdleRequest, State.when]
  (repeat' split) <;> simp (disch := first | (intros; (repeat' split) <;> simp; done) | fail) [-List.foldl_cons, -List.foldl_nil]

@[simp] theorem execDieWakeLead_bytes (plan : Nat) (s : State) : (s.run (execDieWakeLead plan)).bytes = s.bytes := by
  simp only [State.run, execDieWakeLead, State.when]
  (repeat' split) <;> simp (disch := first | (intros; (repeat' split) <;> simp; done) | fail) [-List.foldl_cons, -List.foldl_nil]

@[simp] theorem execDieDozeReturn_bytes (die : Nat) (s : State) : (s.run (execDieDozeReturn die)).bytes = s.bytes := by
  simp only [State.run, execDieDozeReturn, State.when]
  (repeat' split) <;> simp (disch := first | (intros; (repeat' split) <;> simp; done) | fail) [-List.foldl_cons, -List.foldl_nil]

@[simp] theorem execDozeToRun_bytes (die : Nat) (s : State) : (s.run (execDozeToRun die)).bytes = s.bytes := by
  simp only [State.run, execDozeToRun, State.when]
  (repeat' split) <;> simp (disch := first | (intros; (repeat' split) <;> simp; done) | fail) [-List.foldl_cons, -List.foldl_nil]

@[simp] theorem execCwStart_bytes (die slice : Nat) (s : State) : (s.run (execCwStart die slice)).bytes = s.bytes := by
  simp only [State.run, execCwStart, State.hostWrite, State.when]
  (repeat' split) <;> simp (disch := first | (intros; (repeat' split) <;> simp; done) | fail) [-List.foldl_cons, -List.foldl_nil]

@[simp] theorem execCwStop_bytes (die slice : Nat) (s : State) : (s.run (execCwStop die slice)).bytes = s.bytes := by
  simp only [State.run, execCwStop, State.hostWrite, State.when]
  (repeat' split) <;> simp (disch := first | (intros; (repeat' split) <;> simp; done) | fail) [-List.foldl_cons, -List.foldl_nil]

@[simp] theorem execCwTimeout_bytes (die slice : Nat) (s : State) : (s.run (execCwTimeout die slice)).bytes = s.bytes := by
  simp only [State.run, execCwTimeout, State.when]
  (repeat' split) <;> simp (disch := first | (intros; (repeat' split) <;> simp; done) | fail) [-List.foldl_cons, -List.foldl_nil]

@[simp] theorem execListenerWithdraw_bytes (die port listener : Nat) (late : Bool) (s : State) : (s.run (execListenerWithdraw die port listener late)).bytes = s.bytes := by
  simp only [State.run, execListenerWithdraw, State.when]
  (repeat' split) <;> simp (disch := first | (intros; (repeat' split) <;> simp; done) | fail) [-List.foldl_cons, -List.foldl_nil]

@[simp] theorem execRecordWordArrival_bytes (d xfer : Nat) (s : State) : (s.run (execRecordWordArrival d xfer)).bytes = s.bytes := by
  simp only [State.run, execRecordWordArrival, State.when]
  (repeat' split) <;> simp (disch := first | (intros; (repeat' split) <;> simp; done) | fail) [-List.foldl_cons, -List.foldl_nil]

end Sys2Proof.Machine
end

