-- ==== Sys2Proof/Laws/MemNvs.lean ====
section
/-! SUPPORT. The operations of Machine/Nvs.lean leave the window memory alone. -/

namespace Sys2Proof.Machine

@[simp] theorem State.nvQueue_bytes (s : State) (o : NvOp) : (State.nvQueue s o).bytes = s.bytes := by
  simp only [State.nvQueue]
  (repeat' split) <;> simp (disch := first | (intros; (repeat' split) <;> simp; done) | fail) [-List.foldl_cons, -List.foldl_nil]

@[simp] theorem State.nvAdvance_bytes (s : State) : (State.nvAdvance s).bytes = s.bytes := by
  simp only [State.nvAdvance]
  (repeat' split) <;> simp (disch := first | (intros; (repeat' split) <;> simp; done) | fail) [-List.foldl_cons, -List.foldl_nil]

@[simp] theorem execNvsEraseSlot_bytes (slot : Nat) (s : State) : (s.run (execNvsEraseSlot slot)).bytes = s.bytes := by
  simp only [State.run, execNvsEraseSlot, State.hostWrite]
  (repeat' split) <;> simp (disch := first | (intros; (repeat' split) <;> simp; done) | fail) [-List.foldl_cons, -List.foldl_nil]

@[simp] theorem execNvsRegLock_bytes (key : Nat) (s : State) : (s.run (execNvsRegLock key)).bytes = s.bytes := by
  simp only [State.run, execNvsRegLock, State.hostWrite]
  (repeat' split) <;> simp (disch := first | (intros; (repeat' split) <;> simp; done) | fail) [-List.foldl_cons, -List.foldl_nil]

@[simp] theorem execNvsDebugLock_bytes (key : Nat) (s : State) : (s.run (execNvsDebugLock key)).bytes = s.bytes := by
  simp only [State.run, execNvsDebugLock, State.hostWrite]
  (repeat' split) <;> simp (disch := first | (intros; (repeat' split) <;> simp; done) | fail) [-List.foldl_cons, -List.foldl_nil]

@[simp] theorem execNvsWdataWrite_bytes (value : Word) (s : State) : (s.run (execNvsWdataWrite value)).bytes = s.bytes := by
  simp only [State.run, execNvsWdataWrite, State.hostWrite]
  (repeat' split) <;> simp (disch := first | (intros; (repeat' split) <;> simp; done) | fail) [-List.foldl_cons, -List.foldl_nil]

@[simp] theorem State.nvForeground_bytes (s : State) : (State.nvForeground s).bytes = s.bytes := by
  simp only [State.nvForeground]
  (repeat' split) <;> simp (disch := first | (intros; (repeat' split) <;> simp; done) | fail) [-List.foldl_cons, -List.foldl_nil]

@[simp] theorem execNvsRdataRead_bytes (fetch : Bool) (s : State) : (s.run (execNvsRdataRead fetch)).bytes = s.bytes := by
  simp only [State.run, execNvsRdataRead, State.when]
  (repeat' split) <;> simp (disch := first | (intros; (repeat' split) <;> simp; done) | fail) [-List.foldl_cons, -List.foldl_nil]

@[simp] theorem State.nvPop_bytes (s : State) : (State.nvPop s).bytes = s.bytes := by
  simp only [State.nvPop]
  (repeat' split) <;> simp (disch := first | (intros; (repeat' split) <;> simp; done) | fail) [-List.foldl_cons, -List.foldl_nil]

@[simp] theorem State.mapPending_bytes (s : State) : (State.mapPending s).bytes = s.bytes := by
  simp only [State.mapPending]
  (repeat' split) <;> simp (disch := first | (intros; (repeat' split) <;> simp; done) | fail) [-List.foldl_cons, -List.foldl_nil]

@[simp] theorem State.nvEnd_bytes (s : State) (o : NvOp) (ok : Bool) : (State.nvEnd s o ok).bytes = s.bytes := by
  simp only [State.nvEnd]
  (repeat' split) <;> simp (disch := first | (intros; (repeat' split) <;> simp; done) | fail) [-List.foldl_cons, -List.foldl_nil]

end Sys2Proof.Machine
end

