-- ==== Sys2Proof/Laws/MemCalibration.lean ====
section
/-! SUPPORT. The operations of Machine/Calibration.lean leave the window memory alone. -/

namespace Sys2Proof.Machine

@[simp] theorem State.makeDue_bytes (s : State) (k : Nat) (line : Bool) : (State.makeDue s k line).bytes = s.bytes := by
  simp only [State.makeDue]
  (repeat' split) <;> simp (disch := first | (intros; (repeat' split) <;> simp; done) | fail) [-List.foldl_cons, -List.foldl_nil]

@[simp] theorem State.calReqSlices_bytes (s : State) (d mask : Nat) (serving : Bool) : (State.calReqSlices s d mask serving).bytes = s.bytes := by
  simp only [State.calReqSlices, State.hostWrite]
  (repeat' split) <;> simp (disch := first | (intros; (repeat' split) <;> simp; done) | fail) [-List.foldl_cons, -List.foldl_nil]

@[simp] theorem execCalReqSlice_bytes (die mask : Nat) (s : State) : (s.run (execCalReqSlice die mask)).bytes = s.bytes := by
  simp only [State.run, execCalReqSlice]
  (repeat' split) <;> simp (disch := first | (intros; (repeat' split) <;> simp; done) | fail) [-List.foldl_cons, -List.foldl_nil]

@[simp] theorem execCalReqSpare_bytes (die mask : Nat) (s : State) : (s.run (execCalReqSpare die mask)).bytes = s.bytes := by
  simp only [State.run, execCalReqSpare]
  (repeat' split) <;> simp (disch := first | (intros; (repeat' split) <;> simp; done) | fail) [-List.foldl_cons, -List.foldl_nil]

@[simp] theorem execCalReqDie_bytes (die : Nat) (s : State) : (s.run (execCalReqDie die)).bytes = s.bytes := by
  simp only [State.run, execCalReqDie, State.hostWrite]
  (repeat' split) <;> simp (disch := first | (intros; (repeat' split) <;> simp; done) | fail) [-List.foldl_cons, -List.foldl_nil]

@[simp] theorem execCalReqAnchor_bytes (s : State) : (s.run execCalReqAnchor).bytes = s.bytes := by
  simp only [State.run, execCalReqAnchor, State.hostWrite]
  (repeat' split) <;> simp (disch := first | (intros; (repeat' split) <;> simp; done) | fail) [-List.foldl_cons, -List.foldl_nil]

@[simp] theorem State.allDue_bytes (s : State) : (State.allDue s).bytes = s.bytes := by
  simp only [State.allDue]
  (repeat' split) <;> simp (disch := first | (intros; (repeat' split) <;> simp; done) | fail) [-List.foldl_cons, -List.foldl_nil]

@[simp] theorem execCalReqAll_bytes (s : State) : (s.run execCalReqAll).bytes = s.bytes := by
  simp only [State.run, execCalReqAll, State.hostWrite]
  (repeat' split) <;> simp (disch := first | (intros; (repeat' split) <;> simp; done) | fail) [-List.foldl_cons, -List.foldl_nil]

@[simp] theorem State.tempCauses_bytes (s : State) (d : Nat) (t : Int) : (State.tempCauses s d t).bytes = s.bytes := by
  simp only [State.tempCauses]
  (repeat' split) <;> simp (disch := first | (intros; (repeat' split) <;> simp; done) | fail) [-List.foldl_cons, -List.foldl_nil]

@[simp] theorem State.anchorSample_bytes (s : State) (temp : Int) : (State.anchorSample s temp).bytes = s.bytes := by
  simp [State.anchorSample]

@[simp] theorem execDieTempUpdate_bytes (die : Nat) (temp : Int) (s : State) : (s.run (execDieTempUpdate die temp)).bytes = s.bytes := by
  simp only [State.run, execDieTempUpdate, State.when]
  (repeat' split) <;> simp (disch := first | (intros; (repeat' split) <;> simp; done) | fail) [-List.foldl_cons, -List.foldl_nil]

@[simp] theorem State.storeSet_bytes (s : State) (k : Nat) (c : CalSet) (inserted : Bool) : (State.storeSet s k c inserted).bytes = s.bytes := by
  simp only [State.storeSet]
  (repeat' split) <;> simp (disch := first | (intros; (repeat' split) <;> simp; done) | fail) [-List.foldl_cons, -List.foldl_nil]

@[simp] theorem State.reportSys_bytes (s : State) (payload : List Word) : (State.reportSys s payload).bytes = s.bytes := by
  simp only [State.reportSys]
  (repeat' split) <;> simp (disch := first | (intros; (repeat' split) <;> simp; done) | fail) [-List.foldl_cons, -List.foldl_nil]

@[simp] theorem State.runEffects_bytes (s : State) (kind d sl n : Nat) (good : List Measured) : (State.runEffects s kind d sl n good).bytes = s.bytes := by
  simp only [State.runEffects]
  (repeat' split) <;> simp (disch := first | (intros; (repeat' split) <;> simp; done) | fail) [-List.foldl_cons, -List.foldl_nil]

@[simp] theorem State.calRejects_bytes (s : State) (d : Nat) (refOk : Bool) (bad : List Measured) : (State.calRejects s d refOk bad).bytes = s.bytes := by
  simp only [State.calRejects]
  (repeat' split) <;> simp (disch := first | (intros; (repeat' split) <;> simp; done) | fail) [-List.foldl_cons, -List.foldl_nil]

@[simp] theorem State.calReported_bytes (s : State) (kind : Nat) (res : List Nat) (write : Bool) (payload : List Word) : (State.calReported s kind res write payload).bytes = s.bytes := by
  simp only [State.calReported]
  (repeat' split) <;> simp (disch := first | (intros; (repeat' split) <;> simp; done) | fail) [-List.foldl_cons, -List.foldl_nil]

@[simp] theorem State.calStore_bytes (s : State) (k : Nat) (u : Nat × Nat × Nat × Nat) (adj : Word) (c : CalSet) (temp : Int) (good : List Measured) : (State.calStore s k u adj c temp good).bytes = s.bytes := by
  simp only [State.calStore]
  (repeat' split) <;> simp (disch := first | (intros; (repeat' split) <;> simp; done) | fail) [-List.foldl_cons, -List.foldl_nil]

@[simp] theorem State.calFinish_bytes (s : State) (k : Nat) (u : Nat × Nat × Nat × Nat) (refOk whole : Bool) (temp : Int) (skipped : Nat) (res : List Nat) (good bad : List Measured) : (State.calFinish s k u refOk whole temp skipped res good bad).bytes = s.bytes := by
  simp only [State.calFinish]
  (repeat' split) <;> simp (disch := first | (intros; (repeat' split) <;> simp; done) | fail) [-List.foldl_cons, -List.foldl_nil]

@[simp] theorem State.endRun_bytes (s : State) (k : Nat) (refOk : Bool) (temp : Int) (values : List (Nat × Nat × Int)) : (State.endRun s k refOk temp values).bytes = s.bytes := by
  simp only [State.endRun]
  (repeat' split) <;> simp (disch := first | (intros; (repeat' split) <;> simp; done) | fail) [-List.foldl_cons, -List.foldl_nil]

@[simp] theorem execCalRunEnd_bytes (target : Nat) (refv refres temp : Int) (values : List (Nat × Nat × Int)) (s : State) : (s.run (execCalRunEnd target refv refres temp values)).bytes = s.bytes := by
  simp only [State.run, execCalRunEnd, State.when]
  (repeat' split) <;> simp (disch := first | (intros; (repeat' split) <;> simp; done) | fail) [-List.foldl_cons, -List.foldl_nil]

@[simp] theorem execCalMaxdeferExpiry_bytes (target : Nat) (s : State) : (s.run (execCalMaxdeferExpiry target)).bytes = s.bytes := by
  simp only [State.run, execCalMaxdeferExpiry, State.when]
  (repeat' split) <;> simp (disch := first | (intros; (repeat' split) <;> simp; done) | fail) [-List.foldl_cons, -List.foldl_nil]

@[simp] theorem State.startSave_bytes (s : State) : (State.startSave s).bytes = s.bytes := by
  simp only [State.startSave]
  (repeat' split) <;> simp (disch := first | (intros; (repeat' split) <;> simp; done) | fail) [-List.foldl_cons, -List.foldl_nil]

@[simp] theorem execCalSave_bytes (s : State) : (s.run execCalSave).bytes = s.bytes := by
  simp only [State.run, execCalSave, State.hostWrite]
  (repeat' split) <;> simp (disch := first | (intros; (repeat' split) <;> simp; done) | fail) [-List.foldl_cons, -List.foldl_nil]

@[simp] theorem execCalAutosave_bytes (s : State) : (s.run execCalAutosave).bytes = s.bytes := by
  simp only [State.run, execCalAutosave, State.when]
  (repeat' split) <;> simp (disch := first | (intros; (repeat' split) <;> simp; done) | fail) [-List.foldl_cons, -List.foldl_nil]

end Sys2Proof.Machine
end

