-- ==== Sys2Proof/Laws/MemIcu.lean ====
section
/-! SUPPORT. The operations of Machine/Icu.lean leave the window memory alone. -/

namespace Sys2Proof.Machine

@[simp] theorem State.keepLines_bytes (s : State) : (State.keepLines s).bytes = s.bytes := by
  simp only [State.keepLines]
  (repeat' split) <;> simp (disch := first | (intros; (repeat' split) <;> simp; done) | fail) [-List.foldl_cons, -List.foldl_nil]

@[simp] theorem State.attnSync_bytes (s : State) : (State.attnSync s).bytes = s.bytes := by
  simp only [State.attnSync]
  (repeat' split) <;> simp (disch := first | (intros; (repeat' split) <;> simp; done) | fail) [-List.foldl_cons, -List.foldl_nil]

@[simp] theorem execIcuClaim_bytes (target : Nat) (others : List Nat) (fetch : Bool) (s : State) : (s.run (execIcuClaim target others fetch)).bytes = s.bytes := by
  simp only [State.run, execIcuClaim, State.when]
  (repeat' split) <;> simp (disch := first | (intros; (repeat' split) <;> simp; done) | fail) [-List.foldl_cons, -List.foldl_nil]

@[simp] theorem State.takeStagedMap_bytes (s : State) (src slot : Nat) : (State.takeStagedMap s src slot).bytes = s.bytes := by
  simp only [State.takeStagedMap]
  (repeat' split) <;> simp (disch := first | (intros; (repeat' split) <;> simp; done) | fail) [-List.foldl_cons, -List.foldl_nil]

@[simp] theorem execIcuComplete_bytes (target : Nat) (slot : Nat) (s : State) : (s.run (execIcuComplete target slot)).bytes = s.bytes := by
  simp only [State.run, execIcuComplete, State.hostWrite, State.when]
  (repeat' split) <;> simp (disch := first | (intros; (repeat' split) <;> simp; done) | fail) [-List.foldl_cons, -List.foldl_nil]

@[simp] theorem execIcuSrcWrite_bytes (source : Nat) (value : Word) (s : State) : (s.run (execIcuSrcWrite source value)).bytes = s.bytes := by
  simp only [State.run, execIcuSrcWrite, State.hostWrite, State.when]
  (repeat' split) <;> simp (disch := first | (intros; (repeat' split) <;> simp; done) | fail) [-List.foldl_cons, -List.foldl_nil]

@[simp] theorem execIcuTargetCfgWrite_bytes (target : Nat) (value : Word) (s : State) : (s.run (execIcuTargetCfgWrite target value)).bytes = s.bytes := by
  simp only [State.run, execIcuTargetCfgWrite, State.hostWrite, State.when]
  (repeat' split) <;> simp (disch := first | (intros; (repeat' split) <;> simp; done) | fail) [-List.foldl_cons, -List.foldl_nil]

@[simp] theorem execIcuModgapEnd_bytes (target : Nat) (s : State) : (s.run (execIcuModgapEnd target)).bytes = s.bytes := by
  simp only [State.run, execIcuModgapEnd, State.when]
  (repeat' split) <;> simp (disch := first | (intros; (repeat' split) <;> simp; done) | fail) [-List.foldl_cons, -List.foldl_nil]

@[simp] theorem State.icuDeliver_bytes (s : State) (src : Nat) : (State.icuDeliver s src).bytes = s.bytes := by
  simp only [State.icuDeliver]
  (repeat' split) <;> simp (disch := first | (intros; (repeat' split) <;> simp; done) | fail) [-List.foldl_cons, -List.foldl_nil]

@[simp] theorem State.icuDeliverDie_bytes (s : State) (d : Nat) : (State.icuDeliverDie s d).bytes = s.bytes := by
  simp only [State.icuDeliverDie]
  (repeat' split) <;> simp (disch := first | (intros; (repeat' split) <;> simp; done) | fail) [-List.foldl_cons, -List.foldl_nil]

@[simp] theorem execIcuLevelChange_bytes (source : Nat) (s : State) : (s.run (execIcuLevelChange source)).bytes = s.bytes := by
  simp only [State.run, execIcuLevelChange, State.when]
  (repeat' split) <;> simp (disch := first | (intros; (repeat' split) <;> simp; done) | fail) [-List.foldl_cons, -List.foldl_nil]

@[simp] theorem execIcuSleepLatch_bytes (source bit : Nat) (s : State) : (s.run (execIcuSleepLatch source bit)).bytes = s.bytes := by
  simp only [State.run, execIcuSleepLatch, State.when]
  (repeat' split) <;> simp (disch := first | (intros; (repeat' split) <;> simp; done) | fail) [-List.foldl_cons, -List.foldl_nil]

@[simp] theorem State.presentLatches_bytes (s : State) : (State.presentLatches s).bytes = s.bytes := by
  simp only [State.presentLatches]
  (repeat' split) <;> simp (disch := first | (intros; (repeat' split) <;> simp; done) | fail) [-List.foldl_cons, -List.foldl_nil]

end Sys2Proof.Machine
end

