-- ==== Sys2Proof/Laws/MemSeams.lean ====
section
/-! SUPPORT. The operations of Machine/Seams.lean leave the window memory alone. -/

namespace Sys2Proof.Machine

@[simp] theorem State.setSeam_bytes (s : State) (n : Nat) (x : Seam) : (State.setSeam s n x).bytes = s.bytes := by
  simp only [State.setSeam]
  (repeat' split) <;> simp (disch := first | (intros; (repeat' split) <;> simp; done) | fail) [-List.foldl_cons, -List.foldl_nil]

@[simp] theorem State.reroute_bytes (s : State) : (State.reroute s).bytes = s.bytes := by
  simp only [State.reroute]
  (repeat' split) <;> simp (disch := first | (intros; (repeat' split) <;> simp; done) | fail) [-List.foldl_cons, -List.foldl_nil]

@[simp] theorem State.lostRecord_bytes (s : State) (x : ResultId) (c reserved : Nat) (note : Note) : (State.lostRecord s x c reserved note).bytes = s.bytes := by
  simp only [State.lostRecord]
  (repeat' split) <;> simp (disch := first | (intros; (repeat' split) <;> simp; done) | fail) [-List.foldl_cons, -List.foldl_nil]

@[simp] theorem State.lostBuffer_bytes (s : State) (d : Nat) : (State.lostBuffer s d).bytes = s.bytes := by
  simp only [State.lostBuffer]
  (repeat' split) <;> simp (disch := first | (intros; (repeat' split) <;> simp; done) | fail) [-List.foldl_cons, -List.foldl_nil]

@[simp] theorem State.lostWork_bytes (s : State) (d key : Nat) (e : Exch) : (State.lostWork s d key e).bytes = s.bytes := by
  simp only [State.lostWork]
  (repeat' split) <;> simp (disch := first | (intros; (repeat' split) <;> simp; done) | fail) [-List.foldl_cons, -List.foldl_nil]

@[simp] theorem State.rampDie_bytes (s : State) (d : Nat) : (State.rampDie s d).bytes = s.bytes := by
  simp only [State.rampDie]
  (repeat' split) <;> simp (disch := first | (intros; (repeat' split) <;> simp; done) | fail) [-List.foldl_cons, -List.foldl_nil]

@[simp] theorem State.loseDieListeners_bytes (s : State) (d : Nat) : (State.loseDieListeners s d).bytes = s.bytes := by
  simp only [State.loseDieListeners]
  (repeat' split) <;> simp (disch := first | (intros; (repeat' split) <;> simp; done) | fail) [-List.foldl_cons, -List.foldl_nil]

@[simp] theorem State.stopStreams_bytes (s : State) (key : Nat) (cut : List Nat) : (State.stopStreams s key cut).bytes = s.bytes := by
  simp only [State.stopStreams]
  (repeat' split) <;> simp (disch := first | (intros; (repeat' split) <;> simp; done) | fail) [-List.foldl_cons, -List.foldl_nil]

@[simp] theorem State.cutSeam_bytes (s : State) (seam : Nat) : (State.cutSeam s seam).bytes = s.bytes := by
  simp only [State.cutSeam]
  (repeat' split) <;> simp (disch := first | (intros; (repeat' split) <;> simp; done) | fail) [-List.foldl_cons, -List.foldl_nil]

@[simp] theorem State.trimSeam_bytes (s : State) (seam : Nat) : (State.trimSeam s seam).bytes = s.bytes := by
  simp only [State.trimSeam]
  (repeat' split) <;> simp (disch := first | (intros; (repeat' split) <;> simp; done) | fail) [-List.foldl_cons, -List.foldl_nil]

@[simp] theorem State.seamCount_bytes (s : State) (n : Nat) (f : Fld) : (State.seamCount s n f).bytes = s.bytes := by
  simp only [State.seamCount]
  (repeat' split) <;> simp (disch := first | (intros; (repeat' split) <;> simp; done) | fail) [-List.foldl_cons, -List.foldl_nil]

@[simp] theorem execSeamIdleWord_bytes (seam : Nat) (cw : Bool) (s : State) : (s.run (execSeamIdleWord seam cw)).bytes = s.bytes := by
  simp only [State.run, execSeamIdleWord, State.when]
  (repeat' split) <;> simp (disch := first | (intros; (repeat' split) <;> simp; done) | fail) [-List.foldl_cons, -List.foldl_nil]

@[simp] theorem execSeamRetrainStart_bytes (seam : Nat) (s : State) : (s.run (execSeamRetrainStart seam)).bytes = s.bytes := by
  simp only [State.run, execSeamRetrainStart, State.when]
  (repeat' split) <;> simp (disch := first | (intros; (repeat' split) <;> simp; done) | fail) [-List.foldl_cons, -List.foldl_nil]

@[simp] theorem execSeamRetrainEnd_bytes (seam : Nat) (pass : Bool) (s : State) : (s.run (execSeamRetrainEnd seam pass)).bytes = s.bytes := by
  simp only [State.run, execSeamRetrainEnd, State.when]
  (repeat' split) <;> simp (disch := first | (intros; (repeat' split) <;> simp; done) | fail) [-List.foldl_cons, -List.foldl_nil]

@[simp] theorem execSeamRestored_bytes (seam : Nat) (s : State) : (s.run (execSeamRestored seam)).bytes = s.bytes := by
  simp only [State.run, execSeamRestored, State.when]
  (repeat' split) <;> simp (disch := first | (intros; (repeat' split) <;> simp; done) | fail) [-List.foldl_cons, -List.foldl_nil]

@[simp] theorem execAnchorKeepAlive_bytes (die : Nat) (s : State) : (s.run (execAnchorKeepAlive die)).bytes = s.bytes := by
  simp only [State.run, execAnchorKeepAlive, State.when]
  (repeat' split) <;> simp (disch := first | (intros; (repeat' split) <;> simp; done) | fail) [-List.foldl_cons, -List.foldl_nil]

@[simp] theorem execCarrierRelock_bytes (die : Nat) (s : State) : (s.run (execCarrierRelock die)).bytes = s.bytes := by
  simp only [State.run, execCarrierRelock, State.when]
  (repeat' split) <;> simp (disch := first | (intros; (repeat' split) <;> simp; done) | fail) [-List.foldl_cons, -List.foldl_nil]

@[simp] theorem execTimeLoad_bytes (die : Nat) (offset : Int) (late : Bool) (s : State) : (s.run (execTimeLoad die offset late)).bytes = s.bytes := by
  simp only [State.run, execTimeLoad, State.when]
  (repeat' split) <;> simp (disch := first | (intros; (repeat' split) <;> simp; done) | fail) [-List.foldl_cons, -List.foldl_nil]

@[simp] theorem execRejoin_bytes (die : Nat) (reachable : Bool) (s : State) : (s.run (execRejoin die reachable)).bytes = s.bytes := by
  simp only [State.run, execRejoin, State.hostWrite, State.when]
  (repeat' split) <;> simp (disch := first | (intros; (repeat' split) <;> simp; done) | fail) [-List.foldl_cons, -List.foldl_nil]

end Sys2Proof.Machine
end

