-- ==== Sys2Proof/Laws/MemSelfTest.lean ====
section
/-! SUPPORT. The operations of Machine/SelfTest.lean leave the window memory alone. -/

namespace Sys2Proof.Machine

@[simp] theorem State.requestTest_bytes (s : State) (kind die unit : Nat) : (State.requestTest s kind die unit).bytes = s.bytes := by
  simp only [State.requestTest]
  (repeat' split) <;> simp (disch := first | (intros; (repeat' split) <;> simp; done) | fail) [-List.foldl_cons, -List.foldl_nil]

@[simp] theorem State.bstRequest_bytes (s : State) (kind die : Nat) (units : List Nat) : (State.bstRequest s kind die units).bytes = s.bytes := by
  simp only [State.bstRequest, State.hostWrite]
  (repeat' split) <;> simp (disch := first | (intros; (repeat' split) <;> simp; done) | fail) [-List.foldl_cons, -List.foldl_nil]

@[simp] theorem execBstReqSlice_bytes (die mask : Nat) (s : State) : (s.run (execBstReqSlice die mask)).bytes = s.bytes := by
  simp only [State.run, execBstReqSlice]
  (repeat' split) <;> simp (disch := first | (intros; (repeat' split) <;> simp; done) | fail) [-List.foldl_cons, -List.foldl_nil]

@[simp] theorem execBstReqDie_bytes (die : Nat) (s : State) : (s.run (execBstReqDie die)).bytes = s.bytes := by
  simp only [State.run, execBstReqDie]
  (repeat' split) <;> simp (disch := first | (intros; (repeat' split) <;> simp; done) | fail) [-List.foldl_cons, -List.foldl_nil]

@[simp] theorem execBstReqSeam_bytes (mask : Nat) (s : State) : (s.run (execBstReqSeam mask)).bytes = s.bytes := by
  simp only [State.run, execBstReqSeam]
  (repeat' split) <;> simp (disch := first | (intros; (repeat' split) <;> simp; done) | fail) [-List.foldl_cons, -List.foldl_nil]

@[simp] theorem execBstReqRadio_bytes (entry : Nat) (s : State) : (s.run (execBstReqRadio entry)).bytes = s.bytes := by
  simp only [State.run, execBstReqRadio]
  (repeat' split) <;> simp (disch := first | (intros; (repeat' split) <;> simp; done) | fail) [-List.foldl_cons, -List.foldl_nil]

@[simp] theorem execBstReqAnchor_bytes (s : State) : (s.run execBstReqAnchor).bytes = s.bytes := by
  simp only [State.run, execBstReqAnchor]
  (repeat' split) <;> simp (disch := first | (intros; (repeat' split) <;> simp; done) | fail) [-List.foldl_cons, -List.foldl_nil]

@[simp] theorem State.requestAll_bytes (s : State) : (State.requestAll s).bytes = s.bytes := by
  simp only [State.requestAll]
  (repeat' split) <;> simp (disch := first | (intros; (repeat' split) <;> simp; done) | fail) [-List.foldl_cons, -List.foldl_nil]

@[simp] theorem execBstReqAll_bytes (s : State) : (s.run execBstReqAll).bytes = s.bytes := by
  simp only [State.run, execBstReqAll, State.hostWrite]
  (repeat' split) <;> simp (disch := first | (intros; (repeat' split) <;> simp; done) | fail) [-List.foldl_cons, -List.foldl_nil]

@[simp] theorem execBstPeriodic_bytes (s : State) : (s.run execBstPeriodic).bytes = s.bytes := by
  simp only [State.run, execBstPeriodic, State.when]
  (repeat' split) <;> simp (disch := first | (intros; (repeat' split) <;> simp; done) | fail) [-List.foldl_cons, -List.foldl_nil]

@[simp] theorem State.startSwap_bytes (s : State) (d p spare : Nat) : (State.startSwap s d p spare).bytes = s.bytes := by
  simp only [State.startSwap]
  (repeat' split) <;> simp (disch := first | (intros; (repeat' split) <;> simp; done) | fail) [-List.foldl_cons, -List.foldl_nil]

@[simp] theorem State.faultCleared_bytes (s : State) (d sl : Nat) : (State.faultCleared s d sl).bytes = s.bytes := by
  simp only [State.faultCleared]
  (repeat' split) <;> simp (disch := first | (intros; (repeat' split) <;> simp; done) | fail) [-List.foldl_cons, -List.foldl_nil]

@[simp] theorem State.darnFault_bytes (s : State) (d sl : Nat) (startCheck : Bool) : (State.darnFault s d sl startCheck).bytes = s.bytes := by
  simp only [State.darnFault]
  (repeat' split) <;> simp (disch := first | (intros; (repeat' split) <;> simp; done) | fail) [-List.foldl_cons, -List.foldl_nil]

@[simp] theorem State.swapReport_bytes (s : State) (result d p old new : Nat) : (State.swapReport s result d p old new).bytes = s.bytes := by
  simp only [State.swapReport]
  (repeat' split) <;> simp (disch := first | (intros; (repeat' split) <;> simp; done) | fail) [-List.foldl_cons, -List.foldl_nil]

@[simp] theorem State.beginTest_bytes (s : State) (kind die unit : Nat) : (State.beginTest s kind die unit).bytes = s.bytes := by
  simp only [State.beginTest]
  (repeat' split) <;> simp (disch := first | (intros; (repeat' split) <;> simp; done) | fail) [-List.foldl_cons, -List.foldl_nil]

@[simp] theorem State.setDarned_bytes (s : State) (d sl : Nat) (v : Bool) : (State.setDarned s d sl v).bytes = s.bytes := by
  simp only [State.setDarned]
  (repeat' split) <;> simp (disch := first | (intros; (repeat' split) <;> simp; done) | fail) [-List.foldl_cons, -List.foldl_nil]

@[simp] theorem State.darnSlice_bytes (s : State) (d sl : Nat) : (State.darnSlice s d sl).bytes = s.bytes := by
  simp only [State.darnSlice]
  (repeat' split) <;> simp (disch := first | (intros; (repeat' split) <;> simp; done) | fail) [-List.foldl_cons, -List.foldl_nil]

@[simp] theorem State.darnOut_bytes (s : State) (w : Swap) : (State.darnOut s w).bytes = s.bytes := by
  simp only [State.darnOut]
  (repeat' split) <;> simp (disch := first | (intros; (repeat' split) <;> simp; done) | fail) [-List.foldl_cons, -List.foldl_nil]

@[simp] theorem State.copyPage_bytes (s : State) (d old new : Nat) : (State.copyPage s d old new).bytes = s.bytes := by
  simp only [State.copyPage]
  (repeat' split) <;> simp (disch := first | (intros; (repeat' split) <;> simp; done) | fail) [-List.foldl_cons, -List.foldl_nil]

@[simp] theorem State.swapTo_bytes (s : State) (w : Swap) (spare : Nat) : (State.swapTo s w spare).bytes = s.bytes := by
  simp only [State.swapTo]
  (repeat' split) <;> simp (disch := first | (intros; (repeat' split) <;> simp; done) | fail) [-List.foldl_cons, -List.foldl_nil]

@[simp] theorem State.clearFaulted_bytes (s : State) (w : Swap) : (State.clearFaulted s w).bytes = s.bytes := by
  simp only [State.clearFaulted]
  (repeat' split) <;> simp (disch := first | (intros; (repeat' split) <;> simp; done) | fail) [-List.foldl_cons, -List.foldl_nil]

@[simp] theorem State.takeSpare_bytes (s : State) (w : Swap) (x : Nat) : (State.takeSpare s w x).bytes = s.bytes := by
  simp only [State.takeSpare]
  (repeat' split) <;> simp (disch := first | (intros; (repeat' split) <;> simp; done) | fail) [-List.foldl_cons, -List.foldl_nil]

@[simp] theorem State.testSpare_bytes (s : State) (w : Swap) : (State.testSpare s w).bytes = s.bytes := by
  simp only [State.testSpare]
  (repeat' split) <;> simp (disch := first | (intros; (repeat' split) <;> simp; done) | fail) [-List.foldl_cons, -List.foldl_nil]

@[simp] theorem execDarnSwapExecute_bytes (die port : Nat) (s : State) : (s.run (execDarnSwapExecute die port)).bytes = s.bytes := by
  simp only [State.run, execDarnSwapExecute, State.when]
  (repeat' split) <;> simp (disch := first | (intros; (repeat' split) <;> simp; done) | fail) [-List.foldl_cons, -List.foldl_nil]

@[simp] theorem State.passSpare_bytes (s : State) (d sl : Nat) : (State.passSpare s d sl).bytes = s.bytes := by
  simp only [State.passSpare]
  (repeat' split) <;> simp (disch := first | (intros; (repeat' split) <;> simp; done) | fail) [-List.foldl_cons, -List.foldl_nil]

@[simp] theorem State.darnTested_bytes (s : State) (d sl result : Nat) : (State.darnTested s d sl result).bytes = s.bytes := by
  simp only [State.darnTested]
  (repeat' split) <;> simp (disch := first | (intros; (repeat' split) <;> simp; done) | fail) [-List.foldl_cons, -List.foldl_nil]

@[simp] theorem execDrnSwapCmd_bytes (die port slice : Nat) (s : State) : (s.run (execDrnSwapCmd die port slice)).bytes = s.bytes := by
  simp only [State.run, execDrnSwapCmd, State.hostWrite]
  (repeat' split) <;> simp (disch := first | (intros; (repeat' split) <;> simp; done) | fail) [-List.foldl_cons, -List.foldl_nil]

@[simp] theorem execDrnUndarn_bytes (die slice : Nat) (s : State) : (s.run (execDrnUndarn die slice)).bytes = s.bytes := by
  simp only [State.run, execDrnUndarn, State.hostWrite]
  (repeat' split) <;> simp (disch := first | (intros; (repeat' split) <;> simp; done) | fail) [-List.foldl_cons, -List.foldl_nil]

@[simp] theorem execNetfaultClear_bytes (die port : Nat) (s : State) : (s.run (execNetfaultClear die port)).bytes = s.bytes := by
  simp only [State.run, execNetfaultClear, State.hostWrite, State.when]
  (repeat' split) <;> simp (disch := first | (intros; (repeat' split) <;> simp; done) | fail) [-List.foldl_cons, -List.foldl_nil]

end Sys2Proof.Machine
end

