-- ==== Sys2Proof/Laws/MemFieldStates.lean ====
section
/-! SUPPORT. The operations of Machine/FieldStates.lean leave the window memory alone. -/

namespace Sys2Proof.Machine

@[simp] theorem State.pageStarted_bytes (s : State) (die page : Nat) : (State.pageStarted s die page).bytes = s.bytes := by
  simp only [State.pageStarted]
  (repeat' split) <;> simp (disch := first | (intros; (repeat' split) <;> simp; done) | fail) [-List.foldl_cons, -List.foldl_nil]

@[simp] theorem State.releaseOff_bytes (s : State) (d sl : Nat) : (State.releaseOff s d sl).bytes = s.bytes := by
  simp only [State.releaseOff]
  (repeat' split) <;> simp (disch := first | (intros; (repeat' split) <;> simp; done) | fail) [-List.foldl_cons, -List.foldl_nil]

@[simp] theorem State.chooseAtt_bytes (s : State) (d p level : Nat) : (State.chooseAtt s d p level).bytes = s.bytes := by
  simp only [State.chooseAtt]
  (repeat' split) <;> simp (disch := first | (intros; (repeat' split) <;> simp; done) | fail) [-List.foldl_cons, -List.foldl_nil]

@[simp] theorem execSliceEnergise_bytes (die slice : Nat) (late : Bool) (s : State) : (s.run (execSliceEnergise die slice late)).bytes = s.bytes := by
  simp only [State.run, execSliceEnergise, State.when]
  (repeat' split) <;> simp (disch := first | (intros; (repeat' split) <;> simp; done) | fail) [-List.foldl_cons, -List.foldl_nil]

@[simp] theorem State.listenersOn_bytes (s : State) (ns : List Nat) : (State.listenersOn s ns).bytes = s.bytes := by
  simp only [State.listenersOn]
  (repeat' split) <;> simp (disch := first | (intros; (repeat' split) <;> simp; done) | fail) [-List.foldl_cons, -List.foldl_nil]

@[simp] theorem State.portOn_bytes (s : State) (d p : Nat) : (State.portOn s d p).bytes = s.bytes := by
  simp only [State.portOn]
  (repeat' split) <;> simp (disch := first | (intros; (repeat' split) <;> simp; done) | fail) [-List.foldl_cons, -List.foldl_nil]

@[simp] theorem execRampUpEnd_bytes (die slice : Nat) (s : State) : (s.run (execRampUpEnd die slice)).bytes = s.bytes := by
  simp only [State.run, execRampUpEnd, State.when]
  (repeat' split) <;> simp (disch := first | (intros; (repeat' split) <;> simp; done) | fail) [-List.foldl_cons, -List.foldl_nil]

@[simp] theorem execRampDownEnd_bytes (die slice : Nat) (s : State) : (s.run (execRampDownEnd die slice)).bytes = s.bytes := by
  simp only [State.run, execRampDownEnd, State.when]
  (repeat' split) <;> simp (disch := first | (intros; (repeat' split) <;> simp; done) | fail) [-List.foldl_cons, -List.foldl_nil]

@[simp] theorem State.guardOff_bytes (s : State) (d sl : Nat) : (State.guardOff s d sl).bytes = s.bytes := by
  simp only [State.guardOff]
  (repeat' split) <;> simp (disch := first | (intros; (repeat' split) <;> simp; done) | fail) [-List.foldl_cons, -List.foldl_nil]

@[simp] theorem execOpenLoad_bytes (die slice : Nat) (s : State) : (s.run (execOpenLoad die slice)).bytes = s.bytes := by
  simp only [State.run, execOpenLoad, State.when]
  (repeat' split) <;> simp (disch := first | (intros; (repeat' split) <;> simp; done) | fail) [-List.foldl_cons, -List.foldl_nil]

end Sys2Proof.Machine
end

