-- ==== Sys2Proof/Laws/MemFrames.lean ====
section
/-! SUPPORT. The operations of Machine/Frames.lean leave the window memory alone. -/

namespace Sys2Proof.Machine

@[simp] theorem State.modulate_bytes (s : State) (l : List (Nat × Nat)) : (State.modulate s l).bytes = s.bytes := by
  simp only [State.modulate]
  (repeat' split) <;> simp (disch := first | (intros; (repeat' split) <;> simp; done) | fail) [-List.foldl_cons, -List.foldl_nil]

@[simp] theorem State.demodulated_bytes (s : State) (l : List (Nat × Nat)) : (State.demodulated s l).bytes = s.bytes := by
  simp only [State.demodulated]
  (repeat' split) <;> simp (disch := first | (intros; (repeat' split) <;> simp; done) | fail) [-List.foldl_cons, -List.foldl_nil]

@[simp] theorem State.windowOver_bytes (s : State) : (State.windowOver s).bytes = s.bytes := by
  simp only [State.windowOver]
  (repeat' split) <;> simp (disch := first | (intros; (repeat' split) <;> simp; done) | fail) [-List.foldl_cons, -List.foldl_nil]

@[simp] theorem State.startTx_bytes (s : State) (d p : Nat) (e : Exch) : (State.startTx s d p e).bytes = s.bytes := by
  simp only [State.startTx]
  (repeat' split) <;> simp (disch := first | (intros; (repeat' split) <;> simp; done) | fail) [-List.foldl_cons, -List.foldl_nil]

@[simp] theorem execSettleEnd_bytes (die port : Nat) (s : State) : (s.run (execSettleEnd die port)).bytes = s.bytes := by
  simp only [State.run, execSettleEnd]
  (repeat' split) <;> simp (disch := first | (intros; (repeat' split) <;> simp; done) | fail) [-List.foldl_cons, -List.foldl_nil]

@[simp] theorem State.applyAtOn_bytes (s : State) (l : List (Nat × Nat × Drive)) : (State.applyAtOn s l).bytes = s.bytes := by
  simp only [State.applyAtOn]
  (repeat' split) <;> simp (disch := first | (intros; (repeat' split) <;> simp; done) | fail) [-List.foldl_cons, -List.foldl_nil]

@[simp] theorem execTurnaroundGapEnd_bytes (die port : Nat) (s : State) : (s.run (execTurnaroundGapEnd die port)).bytes = s.bytes := by
  simp only [State.run, execTurnaroundGapEnd]
  (repeat' split) <;> simp (disch := first | (intros; (repeat' split) <;> simp; done) | fail) [-List.foldl_cons, -List.foldl_nil]

@[simp] theorem State.residual_bytes (s : State) (d p level : Nat) (resid : Option Nat) : (State.residual s d p level resid).bytes = s.bytes := by
  simp only [State.residual]
  (repeat' split) <;> simp (disch := first | (intros; (repeat' split) <;> simp; done) | fail) [-List.foldl_cons, -List.foldl_nil]

@[simp] theorem State.txEnd_bytes (s : State) (d p : Nat) (e : Exch) (resid : List (Nat × Nat)) : (State.txEnd s d p e resid).bytes = s.bytes := by
  simp only [State.txEnd]
  (repeat' split) <;> simp (disch := first | (intros; (repeat' split) <;> simp; done) | fail) [-List.foldl_cons, -List.foldl_nil]

@[simp] theorem State.attemptEnd_bytes (s : State) (d p : Nat) (e : Exch) (r : Result) : (State.attemptEnd s d p e r).bytes = s.bytes := by
  simp only [State.attemptEnd]
  (repeat' split) <;> simp (disch := first | (intros; (repeat' split) <;> simp; done) | fail) [-List.foldl_cons, -List.foldl_nil]

@[simp] theorem execReplyStart_bytes (die port fdt ampl angle : Nat) (s : State) : (s.run (execReplyStart die port fdt ampl angle)).bytes = s.bytes := by
  simp only [State.run, execReplyStart]
  (repeat' split) <;> simp (disch := first | (intros; (repeat' split) <;> simp; done) | fail) [-List.foldl_cons, -List.foldl_nil]

@[simp] theorem State.actGo_bytes (s : State) (d p : Nat) (e : Exch) (n : ActNext) : (State.actGo s d p e n).bytes = s.bytes := by
  simp only [State.actGo]
  (repeat' split) <;> simp (disch := first | (intros; (repeat' split) <;> simp; done) | fail) [-List.foldl_cons, -List.foldl_nil]

@[simp] theorem execRetryStart_bytes (die port : Nat) (s : State) : (s.run (execRetryStart die port)).bytes = s.bytes := by
  simp only [State.run, execRetryStart]
  (repeat' split) <;> simp (disch := first | (intros; (repeat' split) <;> simp; done) | fail) [-List.foldl_cons, -List.foldl_nil]

@[simp] theorem execEofReqSend_bytes (die port : Nat) (s : State) : (s.run (execEofReqSend die port)).bytes = s.bytes := by
  simp only [State.run, execEofReqSend]
  (repeat' split) <;> simp (disch := first | (intros; (repeat' split) <;> simp; done) | fail) [-List.foldl_cons, -List.foldl_nil]

@[simp] theorem execActivateNextCommand_bytes (die port : Nat) (s : State) : (s.run (execActivateNextCommand die port)).bytes = s.bytes := by
  simp only [State.run, execActivateNextCommand]
  (repeat' split) <;> simp (disch := first | (intros; (repeat' split) <;> simp; done) | fail) [-List.foldl_cons, -List.foldl_nil]

@[simp] theorem execFieldHoldExpiry_bytes (die port : Nat) (s : State) : (s.run (execFieldHoldExpiry die port)).bytes = s.bytes := by
  simp only [State.run, execFieldHoldExpiry, State.when]
  (repeat' split) <;> simp (disch := first | (intros; (repeat' split) <;> simp; done) | fail) [-List.foldl_cons, -List.foldl_nil]

@[simp] theorem execXenHoldEnd_bytes (die : Nat) (value : Word) (s : State) : (s.run (execXenHoldEnd die value)).bytes = s.bytes := by
  simp only [State.run, execXenHoldEnd, State.hostWrite, State.when]
  (repeat' split) <;> simp (disch := first | (intros; (repeat' split) <;> simp; done) | fail) [-List.foldl_cons, -List.foldl_nil]

@[simp] theorem execStreamGap_bytes (die port listener : Nat) (s : State) : (s.run (execStreamGap die port listener)).bytes = s.bytes := by
  simp only [State.run, execStreamGap]
  (repeat' split) <;> simp (disch := first | (intros; (repeat' split) <;> simp; done) | fail) [-List.foldl_cons, -List.foldl_nil]

@[simp] theorem State.setTerm_bytes (s : State) (n entry : Nat) (v : Nat × Nat) : (State.setTerm s n entry v).bytes = s.bytes := by
  simp only [State.setTerm]
  (repeat' split) <;> simp (disch := first | (intros; (repeat' split) <;> simp; done) | fail) [-List.foldl_cons, -List.foldl_nil]

@[simp] theorem State.switchTerm_bytes (s : State) (die port entry : Nat) (c : TermChange) : (State.switchTerm s die port entry c).bytes = s.bytes := by
  simp only [State.switchTerm]
  (repeat' split) <;> simp (disch := first | (intros; (repeat' split) <;> simp; done) | fail) [-List.foldl_cons, -List.foldl_nil]

@[simp] theorem execNeighbourTermSwitch_bytes (die port entry : Nat) (late : Bool) (s : State) : (s.run (execNeighbourTermSwitch die port entry late)).bytes = s.bytes := by
  simp only [State.run, execNeighbourTermSwitch, State.when]
  (repeat' split) <;> simp (disch := first | (intros; (repeat' split) <;> simp; done) | fail) [-List.foldl_cons, -List.foldl_nil]

end Sys2Proof.Machine
end

