-- ==== Sys2Proof/Laws/MemWake.lean ====
section
/-! SUPPORT. The operations of Machine/Wake.lean leave the window memory alone. -/

namespace Sys2Proof.Machine

@[simp] theorem State.releasePads_bytes (s : State) (groups : Nat) : (State.releasePads s groups).bytes = s.bytes := by
  simp only [State.releasePads]
  (repeat' split) <;> simp (disch := first | (intros; (repeat' split) <;> simp; done) | fail) [-List.foldl_cons, -List.foldl_nil]

@[simp] theorem State.setPhase_bytes (s : State) (ph : EntryPhase) : (State.setPhase s ph).bytes = s.bytes := by
  simp only [State.setPhase]
  (repeat' split) <;> simp (disch := first | (intros; (repeat' split) <;> simp; done) | fail) [-List.foldl_cons, -List.foldl_nil]

@[simp] theorem State.recordWake_bytes (s : State) (aborted : Bool) (left src detail : Nat) : (State.recordWake s aborted left src detail).bytes = s.bytes := by
  simp only [State.recordWake]
  (repeat' split) <;> simp (disch := first | (intros; (repeat' split) <;> simp; done) | fail) [-List.foldl_cons, -List.foldl_nil]

@[simp] theorem State.wakeBy_bytes (s : State) (src detail : Nat) : (State.wakeBy s src detail).bytes = s.bytes := by
  simp only [State.wakeBy]
  (repeat' split) <;> simp (disch := first | (intros; (repeat' split) <;> simp; done) | fail) [-List.foldl_cons, -List.foldl_nil]

@[simp] theorem execWakePinAssert_bytes (high : Bool) (periods : Nat) (s : State) : (s.run (execWakePinAssert high periods)).bytes = s.bytes := by
  simp only [State.run, execWakePinAssert, State.when]
  (repeat' split) <;> simp (disch := first | (intros; (repeat' split) <;> simp; done) | fail) [-List.foldl_cons, -List.foldl_nil]

end Sys2Proof.Machine
end

