-- ==== Sys2Proof/Laws/MemWatch.lean ====
section
/-! SUPPORT. The operations of Machine/Watch.lean leave the window memory alone. -/

namespace Sys2Proof.Machine

@[simp] theorem State.freeDiv_bytes (s : State) (a b : Int) : (State.freeDiv s a b).1.bytes = s.bytes := by
  simp only [State.freeDiv]
  (repeat' split) <;> simp (disch := first | (intros; (repeat' split) <;> simp; done) | fail) [-List.foldl_cons, -List.foldl_nil]

@[simp] theorem execProbeDue_bytes (die port : Nat) (s : State) : (s.run (execProbeDue die port)).bytes = s.bytes := by
  simp only [State.run, execProbeDue, State.when]
  (repeat' split) <;> simp (disch := first | (intros; (repeat' split) <;> simp; done) | fail) [-List.foldl_cons, -List.foldl_nil]

@[simp] theorem State.takeBaseline_bytes (s : State) (d p : Nat) : (State.takeBaseline s d p).bytes = s.bytes := by
  simp only [State.takeBaseline]
  (repeat' split) <;> simp (disch := first | (intros; (repeat' split) <;> simp; done) | fail) [-List.foldl_cons, -List.foldl_nil]

@[simp] theorem State.takeBase_bytes (s : State) (d p : Nat) : (State.takeBase s d p).1.bytes = s.bytes := by
  simp only [State.takeBase]
  (repeat' split) <;> simp (disch := first | (intros; (repeat' split) <;> simp; done) | fail) [-List.foldl_cons, -List.foldl_nil]

@[simp] theorem State.watchRecord_bytes (s : State) (d p event : Nat) (woke : Bool) (base : Int × Int) (n : Nat) : (State.watchRecord s d p event woke base n).1.bytes = s.bytes := by
  simp only [State.watchRecord]
  (repeat' split) <;> simp (disch := first | (intros; (repeat' split) <;> simp; done) | fail) [-List.foldl_cons, -List.foldl_nil]

@[simp] theorem State.track_bytes (s : State) (d p : Nat) (trk calib meas : Int) : (State.track s d p trk calib meas).1.bytes = s.bytes := by
  simp only [State.track]
  (repeat' split) <;> simp (disch := first | (intros; (repeat' split) <;> simp; done) | fail) [-List.foldl_cons, -List.foldl_nil]

@[simp] theorem State.showBase_bytes (s : State) (d p : Nat) : (State.showBase s d p).bytes = s.bytes := by
  simp only [State.showBase]
  (repeat' split) <;> simp (disch := first | (intros; (repeat' split) <;> simp; done) | fail) [-List.foldl_cons, -List.foldl_nil]

@[simp] theorem State.learnProbe_bytes (s : State) (d p : Nat) (ampl detune : Int) : (State.learnProbe s d p ampl detune).bytes = s.bytes := by
  simp only [State.learnProbe]
  (repeat' split) <;> simp (disch := first | (intros; (repeat' split) <;> simp; done) | fail) [-List.foldl_cons, -List.foldl_nil]

@[simp] theorem State.detect_bytes (s : State) (d p n : Nat) (base : Int × Int) : (State.detect s d p n base).1.bytes = s.bytes := by
  simp only [State.detect]
  (repeat' split) <;> simp (disch := first | (intros; (repeat' split) <;> simp; done) | fail) [-List.foldl_cons, -List.foldl_nil]

@[simp] theorem State.keepProbe_bytes (s : State) (d p : Nat) (ampl detune : Int) : (State.keepProbe s d p ampl detune).1.bytes = s.bytes := by
  simp only [State.keepProbe]
  (repeat' split) <;> simp (disch := first | (intros; (repeat' split) <;> simp; done) | fail) [-List.foldl_cons, -List.foldl_nil]

@[simp] theorem State.evalProbe_bytes (s : State) (d p : Nat) (ampl detune : Int) : (State.evalProbe s d p ampl detune).1.bytes = s.bytes := by
  simp only [State.evalProbe]
  (repeat' split) <;> simp (disch := first | (intros; (repeat' split) <;> simp; done) | fail) [-List.foldl_cons, -List.foldl_nil]

@[simp] theorem State.judgeProbe_bytes (s : State) (d p : Nat) (ampl detune : Int) : (State.judgeProbe s d p ampl detune).1.bytes = s.bytes := by
  simp only [State.judgeProbe]
  (repeat' split) <;> simp (disch := first | (intros; (repeat' split) <;> simp; done) | fail) [-List.foldl_cons, -List.foldl_nil]

@[simp] theorem execProbeEnd_bytes (die port ampl : Nat) (detune : Int) (s : State) : (s.run (execProbeEnd die port ampl detune)).bytes = s.bytes := by
  simp only [State.run, execProbeEnd]
  (repeat' split) <;> simp (disch := first | (intros; (repeat' split) <;> simp; done) | fail) [-List.foldl_cons, -List.foldl_nil]

@[simp] theorem execWatchAbsorb_bytes (die port : Nat) (s : State) : (s.run (execWatchAbsorb die port)).bytes = s.bytes := by
  simp only [State.run, execWatchAbsorb, State.when]
  (repeat' split) <;> simp (disch := first | (intros; (repeat' split) <;> simp; done) | fail) [-List.foldl_cons, -List.foldl_nil]

@[simp] theorem execWatchTempSample_bytes (die : Nat) (temp : Int) (s : State) : (s.run (execWatchTempSample die temp)).bytes = s.bytes := by
  simp only [State.run, execWatchTempSample, State.when]
  (repeat' split) <;> simp (disch := first | (intros; (repeat' split) <;> simp; done) | fail) [-List.foldl_cons, -List.foldl_nil]

end Sys2Proof.Machine
end

