-- ==== Sys2Proof/Laws/MemRadio.lean ====
section
/-! SUPPORT. The operations of Machine/Radio.lean leave the window memory alone. -/

namespace Sys2Proof.Machine

@[simp] theorem State.setRx_bytes (s : State) (st : Nat) : (State.setRx s st).bytes = s.bytes := by
  simp only [State.setRx]
  (repeat' split) <;> simp (disch := first | (intros; (repeat' split) <;> simp; done) | fail) [-List.foldl_cons, -List.foldl_nil]

@[simp] theorem State.queueRadio_bytes (s : State) (c : RadioCmd) : (State.queueRadio s c).bytes = s.bytes := by
  simp only [State.queueRadio]
  (repeat' split) <;> simp (disch := first | (intros; (repeat' split) <;> simp; done) | fail) [-List.foldl_cons, -List.foldl_nil]

@[simp] theorem State.radioCmd_bytes (s : State) (code after : Nat) (pri : Bool) (template channel ticket : Nat) : (State.radioCmd s code after pri template channel ticket).bytes = s.bytes := by
  simp only [State.radioCmd, State.hostWrite]
  (repeat' split) <;> simp (disch := first | (intros; (repeat' split) <;> simp; done) | fail) [-List.foldl_cons, -List.foldl_nil]

@[simp] theorem execRadioCmdSleep_bytes (s : State) : (s.run execRadioCmdSleep).bytes = s.bytes := by
  simp only [State.run, execRadioCmdSleep]
  (repeat' split) <;> simp (disch := first | (intros; (repeat' split) <;> simp; done) | fail) [-List.foldl_cons, -List.foldl_nil]

@[simp] theorem execRadioCmdStandby_bytes (s : State) : (s.run execRadioCmdStandby).bytes = s.bytes := by
  simp only [State.run, execRadioCmdStandby]
  (repeat' split) <;> simp (disch := first | (intros; (repeat' split) <;> simp; done) | fail) [-List.foldl_cons, -List.foldl_nil]

@[simp] theorem execRadioCmdSynth_bytes (channel : Nat) (s : State) : (s.run (execRadioCmdSynth channel)).bytes = s.bytes := by
  simp only [State.run, execRadioCmdSynth]
  (repeat' split) <;> simp (disch := first | (intros; (repeat' split) <;> simp; done) | fail) [-List.foldl_cons, -List.foldl_nil]

@[simp] theorem execRadioCmdRx_bytes (channel : Nat) (s : State) : (s.run (execRadioCmdRx channel)).bytes = s.bytes := by
  simp only [State.run, execRadioCmdRx]
  (repeat' split) <;> simp (disch := first | (intros; (repeat' split) <;> simp; done) | fail) [-List.foldl_cons, -List.foldl_nil]

@[simp] theorem execRadioCmdTx_bytes (after : Nat) (pri : Bool) (template channel ticket : Nat) (s : State) : (s.run (execRadioCmdTx after pri template channel ticket)).bytes = s.bytes := by
  simp only [State.run, execRadioCmdTx]
  (repeat' split) <;> simp (disch := first | (intros; (repeat' split) <;> simp; done) | fail) [-List.foldl_cons, -List.foldl_nil]

@[simp] theorem execRadioCmdCal_bytes (channel : Nat) (s : State) : (s.run (execRadioCmdCal channel)).bytes = s.bytes := by
  simp only [State.run, execRadioCmdCal]
  (repeat' split) <;> simp (disch := first | (intros; (repeat' split) <;> simp; done) | fail) [-List.foldl_cons, -List.foldl_nil]

@[simp] theorem execRadioCmdCalAll_bytes (s : State) : (s.run execRadioCmdCalAll).bytes = s.bytes := by
  simp only [State.run, execRadioCmdCalAll]
  (repeat' split) <;> simp (disch := first | (intros; (repeat' split) <;> simp; done) | fail) [-List.foldl_cons, -List.foldl_nil]

@[simp] theorem execRadioCmdFlush_bytes (s : State) : (s.run execRadioCmdFlush).bytes = s.bytes := by
  simp only [State.run, execRadioCmdFlush]
  (repeat' split) <;> simp (disch := first | (intros; (repeat' split) <;> simp; done) | fail) [-List.foldl_cons, -List.foldl_nil]

@[simp] theorem State.cxRelease_bytes (s : State) : (State.cxRelease s).bytes = s.bytes := by
  simp only [State.cxRelease]
  (repeat' split) <;> simp (disch := first | (intros; (repeat' split) <;> simp; done) | fail) [-List.foldl_cons, -List.foldl_nil]

@[simp] theorem State.cxAssert_bytes (s : State) (pri : Bool) : (State.cxAssert s pri).bytes = s.bytes := by
  simp only [State.cxAssert]
  (repeat' split) <;> simp (disch := first | (intros; (repeat' split) <;> simp; done) | fail) [-List.foldl_cons, -List.foldl_nil]

@[simp] theorem State.headFor_bytes (s : State) (g : Nat × Nat) : (State.headFor s g).bytes = s.bytes := by
  simp only [State.headFor]
  (repeat' split) <;> simp (disch := first | (intros; (repeat' split) <;> simp; done) | fail) [-List.foldl_cons, -List.foldl_nil]

@[simp] theorem State.popRadio_bytes (s : State) : (State.popRadio s).bytes = s.bytes := by
  simp only [State.popRadio]
  (repeat' split) <;> simp (disch := first | (intros; (repeat' split) <;> simp; done) | fail) [-List.foldl_cons, -List.foldl_nil]

@[simp] theorem State.withdrawTx_bytes (s : State) (c : RadioCmd) : (State.withdrawTx s c).bytes = s.bytes := by
  simp only [State.withdrawTx]
  (repeat' split) <;> simp (disch := first | (intros; (repeat' split) <;> simp; done) | fail) [-List.foldl_cons, -List.foldl_nil]

@[simp] theorem State.flushTx_bytes (s : State) : (State.flushTx s).bytes = s.bytes := by
  simp only [State.flushTx]
  (repeat' split) <;> simp (disch := first | (intros; (repeat' split) <;> simp; done) | fail) [-List.foldl_cons, -List.foldl_nil]

@[simp] theorem State.withdrawQueue_bytes (s : State) : (State.withdrawQueue s).bytes = s.bytes := by
  simp only [State.withdrawQueue]
  (repeat' split) <;> simp (disch := first | (intros; (repeat' split) <;> simp; done) | fail) [-List.foldl_cons, -List.foldl_nil]

@[simp] theorem State.airUnits_bytes (s : State) (us : Nat) : (State.airUnits s us).1.bytes = s.bytes := by
  simp only [State.airUnits]
  (repeat' split) <;> simp (disch := first | (intros; (repeat' split) <;> simp; done) | fail) [-List.foldl_cons, -List.foldl_nil]

@[simp] theorem State.txStatusEffects_bytes (s : State) (status : Nat) : (State.txStatusEffects s status).bytes = s.bytes := by
  simp only [State.txStatusEffects]
  (repeat' split) <;> simp (disch := first | (intros; (repeat' split) <;> simp; done) | fail) [-List.foldl_cons, -List.foldl_nil]

@[simp] theorem State.txRecord_bytes (s : State) (status : Nat) (c : RadioCmd) (t : TxRun) : (State.txRecord s status c t).bytes = s.bytes := by
  simp only [State.txRecord]
  (repeat' split) <;> simp (disch := first | (intros; (repeat' split) <;> simp; done) | fail) [-List.foldl_cons, -List.foldl_nil]

@[simp] theorem State.keySet_bytes (s : State) (slot : Nat) (k : List Word) : (State.keySet s slot k).bytes = s.bytes := by
  simp only [State.keySet]
  (repeat' split) <;> simp (disch := first | (intros; (repeat' split) <;> simp; done) | fail) [-List.foldl_cons, -List.foldl_nil]

@[simp] theorem State.keyFlush_bytes (s : State) : (State.keyFlush s).bytes = s.bytes := by
  simp only [State.keyFlush]
  (repeat' split) <;> simp (disch := first | (intros; (repeat' split) <;> simp; done) | fail) [-List.foldl_cons, -List.foldl_nil]

@[simp] theorem State.endTx_bytes (s : State) (status : Nat) (late : Bool) : (State.endTx s status late).bytes = s.bytes := by
  simp only [State.endTx]
  (repeat' split) <;> simp (disch := first | (intros; (repeat' split) <;> simp; done) | fail) [-List.foldl_cons, -List.foldl_nil]

@[simp] theorem State.noiseField_bytes (s : State) (o : Option Int) : (s.noiseField o).1.bytes = s.bytes := by
  cases o <;> simp [State.noiseField]

@[simp] theorem State.rxRecord_bytes (s : State) (r : RxRun) (status fec mode len : Nat) (fofs auth ticket : Nat) (data : List Byte) : (State.rxRecord s r status fec mode len fofs auth ticket data).bytes = s.bytes := by
  simp only [State.rxRecord]
  (repeat' split) <;> simp (disch := first | (intros; (repeat' split) <;> simp; done) | fail) [-List.foldl_cons, -List.foldl_nil]

@[simp] theorem State.cutRx_bytes (s : State) (status : Nat) : (State.cutRx s status).bytes = s.bytes := by
  simp only [State.cutRx]
  (repeat' split) <;> simp (disch := first | (intros; (repeat' split) <;> simp; done) | fail) [-List.foldl_cons, -List.foldl_nil]

@[simp] theorem State.leaveRx_bytes (s : State) : (State.leaveRx s).bytes = s.bytes := by
  simp only [State.leaveRx]
  (repeat' split) <;> simp (disch := first | (intros; (repeat' split) <;> simp; done) | fail) [-List.foldl_cons, -List.foldl_nil]

@[simp] theorem State.radioSettle_bytes (s : State) : (State.radioSettle s).bytes = s.bytes := by
  simp only [State.radioSettle]
  (repeat' split) <;> simp (disch := first | (intros; (repeat' split) <;> simp; done) | fail) [-List.foldl_cons, -List.foldl_nil]

@[simp] theorem execRadioStateReached_bytes (s : State) : (s.run execRadioStateReached).bytes = s.bytes := by
  simp only [State.run, execRadioStateReached, State.when]
  (repeat' split) <;> simp (disch := first | (intros; (repeat' split) <;> simp; done) | fail) [-List.foldl_cons, -List.foldl_nil]

@[simp] theorem State.abandonHop_bytes (s : State) : (State.abandonHop s).bytes = s.bytes := by
  simp only [State.abandonHop]
  (repeat' split) <;> simp (disch := first | (intros; (repeat' split) <;> simp; done) | fail) [-List.foldl_cons, -List.foldl_nil]

@[simp] theorem execRadioCmdStart_bytes (s : State) : (s.run execRadioCmdStart).bytes = s.bytes := by
  simp only [State.run, execRadioCmdStart, State.when]
  (repeat' split) <;> simp (disch := first | (intros; (repeat' split) <;> simp; done) | fail) [-List.foldl_cons, -List.foldl_nil]

@[simp] theorem execTxCreditReserved_bytes (s : State) : (s.run execTxCreditReserved).bytes = s.bytes := by
  simp only [State.run, execTxCreditReserved, State.when]
  (repeat' split) <;> simp (disch := first | (intros; (repeat' split) <;> simp; done) | fail) [-List.foldl_cons, -List.foldl_nil]

@[simp] theorem State.resumeCounter_bytes (s : State) : (State.resumeCounter s).bytes = s.bytes := by
  simp only [State.resumeCounter]
  (repeat' split) <;> simp (disch := first | (intros; (repeat' split) <;> simp; done) | fail) [-List.foldl_cons, -List.foldl_nil]

@[simp] theorem State.nextCounter_bytes (s : State) : (State.nextCounter s).bytes = s.bytes := by
  simp only [State.nextCounter]
  (repeat' split) <;> simp (disch := first | (intros; (repeat' split) <;> simp; done) | fail) [-List.foldl_cons, -List.foldl_nil]

@[simp] theorem execTxRampStart_bytes (s : State) : (s.run execTxRampStart).bytes = s.bytes := by
  simp only [State.run, execTxRampStart, State.when]
  (repeat' split) <;> simp (disch := first | (intros; (repeat' split) <;> simp; done) | fail) [-List.foldl_cons, -List.foldl_nil]

@[simp] theorem execTxLastChip_bytes (s : State) : (s.run execTxLastChip).bytes = s.bytes := by
  simp only [State.run, execTxLastChip, State.when]
  (repeat' split) <;> simp (disch := first | (intros; (repeat' split) <;> simp; done) | fail) [-List.foldl_cons, -List.foldl_nil]

@[simp] theorem execTxSynthDeadline_bytes (s : State) : (s.run execTxSynthDeadline).bytes = s.bytes := by
  simp only [State.run, execTxSynthDeadline, State.when]
  (repeat' split) <;> simp (disch := first | (intros; (repeat' split) <;> simp; done) | fail) [-List.foldl_cons, -List.foldl_nil]

@[simp] theorem execSynthLockLoss_bytes (s : State) : (s.run execSynthLockLoss).bytes = s.bytes := by
  simp only [State.run, execSynthLockLoss, State.when]
  (repeat' split) <;> simp (disch := first | (intros; (repeat' split) <;> simp; done) | fail) [-List.foldl_cons, -List.foldl_nil]

@[simp] theorem execCoexGrantTimeout_bytes (s : State) : (s.run execCoexGrantTimeout).bytes = s.bytes := by
  simp only [State.run, execCoexGrantTimeout, State.when]
  (repeat' split) <;> simp (disch := first | (intros; (repeat' split) <;> simp; done) | fail) [-List.foldl_cons, -List.foldl_nil]

@[simp] theorem execCxgntAssert_bytes (s : State) : (s.run execCxgntAssert).bytes = s.bytes := by
  simp only [State.run, execCxgntAssert]
  (repeat' split) <;> simp (disch := first | (intros; (repeat' split) <;> simp; done) | fail) [-List.foldl_cons, -List.foldl_nil]

@[simp] theorem execCxgntWithdraw_bytes (s : State) : (s.run execCxgntWithdraw).bytes = s.bytes := by
  simp only [State.run, execCxgntWithdraw]
  (repeat' split) <;> simp (disch := first | (intros; (repeat' split) <;> simp; done) | fail) [-List.foldl_cons, -List.foldl_nil]

@[simp] theorem execMaskMeasure_bytes (below : List Nat) (s : State) : (s.run (execMaskMeasure below)).bytes = s.bytes := by
  simp only [State.run, execMaskMeasure, State.when]
  (repeat' split) <;> simp (disch := first | (intros; (repeat' split) <;> simp; done) | fail) [-List.foldl_cons, -List.foldl_nil]

@[simp] theorem execHopCalEnd_bytes (entry : Nat) (temp band gain : Int) (s : State) : (s.run (execHopCalEnd entry temp band gain)).bytes = s.bytes := by
  simp only [State.run, execHopCalEnd, State.when]
  (repeat' split) <;> simp (disch := first | (intros; (repeat' split) <;> simp; done) | fail) [-List.foldl_cons, -List.foldl_nil]

@[simp] theorem execHopCalBackground_bytes (entry : Nat) (s : State) : (s.run (execHopCalBackground entry)).bytes = s.bytes := by
  simp only [State.run, execHopCalBackground, State.when]
  (repeat' split) <;> simp (disch := first | (intros; (repeat' split) <;> simp; done) | fail) [-List.foldl_cons, -List.foldl_nil]

@[simp] theorem execDutyClockSecond_bytes (s : State) : (s.run execDutyClockSecond).bytes = s.bytes := by
  simp only [State.run, execDutyClockSecond, State.when]
  (repeat' split) <;> simp (disch := first | (intros; (repeat' split) <;> simp; done) | fail) [-List.foldl_cons, -List.foldl_nil]

@[simp] theorem State.keyOp_bytes (s : State) (slot : Nat) (k : List Word) : (State.keyOp s slot k).bytes = s.bytes := by
  simp only [State.keyOp]
  (repeat' split) <;> simp (disch := first | (intros; (repeat' split) <;> simp; done) | fail) [-List.foldl_cons, -List.foldl_nil]

@[simp] theorem execSecKeyLoad_bytes (slot : Nat) (s : State) : (s.run (execSecKeyLoad slot)).bytes = s.bytes := by
  simp only [State.run, execSecKeyLoad, State.hostWrite, State.when]
  (repeat' split) <;> simp (disch := first | (intros; (repeat' split) <;> simp; done) | fail) [-List.foldl_cons, -List.foldl_nil]

@[simp] theorem execSecKeyErase_bytes (slot : Nat) (s : State) : (s.run (execSecKeyErase slot)).bytes = s.bytes := by
  simp only [State.run, execSecKeyErase, State.hostWrite, State.when]
  (repeat' split) <;> simp (disch := first | (intros; (repeat' split) <;> simp; done) | fail) [-List.foldl_cons, -List.foldl_nil]

end Sys2Proof.Machine
end

