-- ==== Sys2Proof/Laws/MemRadioRx.lean ====
section
/-! SUPPORT. The operations of Machine/RadioRx.lean leave the window memory alone. -/

namespace Sys2Proof.Machine

@[simp] theorem execRxRssiDetect_bytes (rssi : Int) (s : State) : (s.run (execRxRssiDetect rssi)).bytes = s.bytes := by
  simp only [State.run, execRxRssiDetect, State.when]
  (repeat' split) <;> simp (disch := first | (intros; (repeat' split) <;> simp; done) | fail) [-List.foldl_cons, -List.foldl_nil]

@[simp] theorem execRxPreambleQualified_bytes (s : State) : (s.run execRxPreambleQualified).bytes = s.bytes := by
  simp only [State.run, execRxPreambleQualified, State.when]
  (repeat' split) <;> simp (disch := first | (intros; (repeat' split) <;> simp; done) | fail) [-List.foldl_cons, -List.foldl_nil]

@[simp] theorem execRxDetectTimeout_bytes (symbols : Nat) (rssi : Int) (s : State) : (s.run (execRxDetectTimeout symbols rssi)).bytes = s.bytes := by
  simp only [State.run, execRxDetectTimeout, State.when]
  (repeat' split) <;> simp (disch := first | (intros; (repeat' split) <;> simp; done) | fail) [-List.foldl_cons, -List.foldl_nil]

@[simp] theorem execRxSfdTimeout_bytes (s : State) : (s.run execRxSfdTimeout).bytes = s.bytes := by
  simp only [State.run, execRxSfdTimeout, State.when]
  (repeat' split) <;> simp (disch := first | (intros; (repeat' split) <;> simp; done) | fail) [-List.foldl_cons, -List.foldl_nil]

@[simp] theorem State.rxRefused_bytes (s : State) : (State.rxRefused s).bytes = s.bytes := by
  simp only [State.rxRefused]
  (repeat' split) <;> simp (disch := first | (intros; (repeat' split) <;> simp; done) | fail) [-List.foldl_cons, -List.foldl_nil]

@[simp] theorem State.beginRx_bytes (s : State) (noqual : Bool) (st : Nat) : (State.beginRx s noqual st).bytes = s.bytes := by
  simp only [State.beginRx]
  (repeat' split) <;> simp (disch := first | (intros; (repeat' split) <;> simp; done) | fail) [-List.foldl_cons, -List.foldl_nil]

@[simp] theorem State.latchRssi_bytes (s : State) (rssi : Int) : (State.latchRssi s rssi).bytes = s.bytes := by
  simp only [State.latchRssi]
  (repeat' split) <;> simp (disch := first | (intros; (repeat' split) <;> simp; done) | fail) [-List.foldl_cons, -List.foldl_nil]

@[simp] theorem execRxSfdFound_bytes (rssi : Int) (s : State) : (s.run (execRxSfdFound rssi)).bytes = s.bytes := by
  simp only [State.run, execRxSfdFound, State.when]
  (repeat' split) <;> simp (disch := first | (intros; (repeat' split) <;> simp; done) | fail) [-List.foldl_cons, -List.foldl_nil]

@[simp] theorem execRxFreeSfd_bytes (s : State) : (s.run execRxFreeSfd).bytes = s.bytes := by
  simp only [State.run, execRxFreeSfd, State.when]
  (repeat' split) <;> simp (disch := first | (intros; (repeat' split) <;> simp; done) | fail) [-List.foldl_cons, -List.foldl_nil]

@[simp] theorem execRxCapture_bytes (rssi : Int) (ownWord : Bool) (s : State) : (s.run (execRxCapture rssi ownWord)).bytes = s.bytes := by
  simp only [State.run, execRxCapture, State.when]
  (repeat' split) <;> simp (disch := first | (intros; (repeat' split) <;> simp; done) | fail) [-List.foldl_cons, -List.foldl_nil]

@[simp] theorem execRxAgcRerunEnd_bytes (rssi : Int) (step : Nat) (s : State) : (s.run (execRxAgcRerunEnd rssi step)).bytes = s.bytes := by
  simp only [State.run, execRxAgcRerunEnd, State.when]
  (repeat' split) <;> simp (disch := first | (intros; (repeat' split) <;> simp; done) | fail) [-List.foldl_cons, -List.foldl_nil]

@[simp] theorem State.dropRx_bytes (s : State) (r : RxRun) : (State.dropRx s r).bytes = s.bytes := by
  simp only [State.dropRx]
  (repeat' split) <;> simp (disch := first | (intros; (repeat' split) <;> simp; done) | fail) [-List.foldl_cons, -List.foldl_nil]

@[simp] theorem execRxHeaderEnd_bytes (header : Nat) (fofs : Int) (s : State) : (s.run (execRxHeaderEnd header fofs)).bytes = s.bytes := by
  simp only [State.run, execRxHeaderEnd, State.when]
  (repeat' split) <;> simp (disch := first | (intros; (repeat' split) <;> simp; done) | fail) [-List.foldl_cons, -List.foldl_nil]

@[simp] theorem State.rxSecurity_bytes (s : State) (pl : List Byte) : (State.rxSecurity s pl).1.bytes = s.bytes := by
  simp only [State.rxSecurity]
  (repeat' split) <;> simp (disch := first | (intros; (repeat' split) <;> simp; done) | fail) [-List.foldl_cons, -List.foldl_nil]

@[simp] theorem execRssiUpdate_bytes (rssi : Int) (step : Nat) (s : State) : (s.run (execRssiUpdate rssi step)).bytes = s.bytes := by
  simp only [State.run, execRssiUpdate, State.when]
  (repeat' split) <;> simp (disch := first | (intros; (repeat' split) <;> simp; done) | fail) [-List.foldl_cons, -List.foldl_nil]

end Sys2Proof.Machine
end

