-- ==== Sys2Proof/Laws/MemSensor.lean ====
section
/-! SUPPORT. The operations of Machine/Sensor.lean leave the window memory alone. -/

namespace Sys2Proof.Machine

@[simp] theorem State.sscEnd_bytes (s : State) (e : SscEntry) (status : Nat) (input : List Word) (moved : Bool) : (State.sscEnd s e status input moved).bytes = s.bytes := by
  simp only [State.sscEnd]
  (repeat' split) <;> simp (disch := first | (intros; (repeat' split) <;> simp; done) | fail) [-List.foldl_cons, -List.foldl_nil]

@[simp] theorem State.sscPop_bytes (s : State) : (State.sscPop s).bytes = s.bytes := by
  simp only [State.sscPop]
  (repeat' split) <;> simp (disch := first | (intros; (repeat' split) <;> simp; done) | fail) [-List.foldl_cons, -List.foldl_nil]

@[simp] theorem execSscQpush_bytes (tag buf template : Nat) (s : State) : (s.run (execSscQpush tag buf template)).bytes = s.bytes := by
  simp only [State.run, execSscQpush, State.hostWrite]
  (repeat' split) <;> simp (disch := first | (intros; (repeat' split) <;> simp; done) | fail) [-List.foldl_cons, -List.foldl_nil]

@[simp] theorem execSscEntryStart_bytes (input : List Word) (s : State) : (s.run (execSscEntryStart input)).bytes = s.bytes := by
  simp only [State.run, execSscEntryStart, State.when]
  (repeat' split) <;> simp (disch := first | (intros; (repeat' split) <;> simp; done) | fail) [-List.foldl_cons, -List.foldl_nil]

@[simp] theorem execSscEntryEnd_bytes (s : State) : (s.run execSscEntryEnd).bytes = s.bytes := by
  simp only [State.run, execSscEntryEnd, State.when]
  (repeat' split) <;> simp (disch := first | (intros; (repeat' split) <;> simp; done) | fail) [-List.foldl_cons, -List.foldl_nil]

@[simp] theorem execSscDonePop_bytes (s : State) : (s.run execSscDonePop).bytes = s.bytes := by
  simp only [State.run, execSscDonePop, State.hostWrite]
  (repeat' split) <;> simp (disch := first | (intros; (repeat' split) <;> simp; done) | fail) [-List.foldl_cons, -List.foldl_nil]

@[simp] theorem State.sscAbort_bytes (s : State) : (State.sscAbort s).bytes = s.bytes := by
  simp only [State.sscAbort]
  (repeat' split) <;> simp (disch := first | (intros; (repeat' split) <;> simp; done) | fail) [-List.foldl_cons, -List.foldl_nil]

@[simp] theorem State.sscWithdraw_bytes (s : State) (l : Nat) : (State.sscWithdraw s l).bytes = s.bytes := by
  simp only [State.sscWithdraw]
  (repeat' split) <;> simp (disch := first | (intros; (repeat' split) <;> simp; done) | fail) [-List.foldl_cons, -List.foldl_nil]

@[simp] theorem State.sslUpdate_bytes (s : State) : (State.sslUpdate s).bytes = s.bytes := by
  simp only [State.sslUpdate]
  (repeat' split) <;> simp (disch := first | (intros; (repeat' split) <;> simp; done) | fail) [-List.foldl_cons, -List.foldl_nil]

@[simp] theorem State.sslReserve_bytes (s : State) : (State.sslReserve s).bytes = s.bytes := by
  simp only [State.sslReserve]
  (repeat' split) <;> simp (disch := first | (intros; (repeat' split) <;> simp; done) | fail) [-List.foldl_cons, -List.foldl_nil]

@[simp] theorem State.rawRecord_bytes (s : State) (last stuck : Bool) : (State.rawRecord s last stuck).bytes = s.bytes := by
  simp only [State.rawRecord]
  (repeat' split) <;> simp (disch := first | (intros; (repeat' split) <;> simp; done) | fail) [-List.foldl_cons, -List.foldl_nil]

@[simp] theorem State.sslRefused_bytes (s : State) : (State.sslRefused s).bytes = s.bytes := by
  simp only [State.sslRefused]
  (repeat' split) <;> simp (disch := first | (intros; (repeat' split) <;> simp; done) | fail) [-List.foldl_cons, -List.foldl_nil]

@[simp] theorem State.sslDeliver_bytes (s : State) (input : List Bool) (start : Nat) (part : Bool) : (State.sslDeliver s input start part).bytes = s.bytes := by
  simp only [State.sslDeliver]
  (repeat' split) <;> simp (disch := first | (intros; (repeat' split) <;> simp; done) | fail) [-List.foldl_cons, -List.foldl_nil]

@[simp] theorem State.sslFirstEdge_bytes (s : State) (start : Nat) : (State.sslFirstEdge s start).bytes = s.bytes := by
  simp only [State.sslFirstEdge]
  (repeat' split) <;> simp (disch := first | (intros; (repeat' split) <;> simp; done) | fail) [-List.foldl_cons, -List.foldl_nil]

@[simp] theorem State.sslWordEnd_bytes (s : State) (cut : Bool) : (State.sslWordEnd s cut).bytes = s.bytes := by
  simp only [State.sslWordEnd]
  (repeat' split) <;> simp (disch := first | (intros; (repeat' split) <;> simp; done) | fail) [-List.foldl_cons, -List.foldl_nil]

@[simp] theorem State.sslBit_bytes (s : State) (b : Bool) (start : Nat) : (State.sslBit s b start).bytes = s.bytes := by
  simp only [State.sslBit]
  (repeat' split) <;> simp (disch := first | (intros; (repeat' split) <;> simp; done) | fail) [-List.foldl_cons, -List.foldl_nil]

@[simp] theorem execListenerWord_bytes (sldi : List (Bool × Bool)) (start : Nat) (s : State) : (s.run (execListenerWord sldi start)).bytes = s.bytes := by
  simp only [State.run, execListenerWord, State.when]
  (repeat' split) <;> simp (disch := first | (intros; (repeat' split) <;> simp; done) | fail) [-List.foldl_cons, -List.foldl_nil]

@[simp] theorem State.sslMessageEnd_bytes (s : State) (stuck : Bool) : (State.sslMessageEnd s stuck).bytes = s.bytes := by
  simp only [State.sslMessageEnd]
  (repeat' split) <;> simp (disch := first | (intros; (repeat' split) <;> simp; done) | fail) [-List.foldl_cons, -List.foldl_nil]

@[simp] theorem execSlselAssert_bytes (level : Bool) (ticks : Nat) (s : State) : (s.run (execSlselAssert level ticks)).bytes = s.bytes := by
  simp only [State.run, execSlselAssert, State.when]
  (repeat' split) <;> simp (disch := first | (intros; (repeat' split) <;> simp; done) | fail) [-List.foldl_cons, -List.foldl_nil]

@[simp] theorem execSlselRelease_bytes (level : Bool) (ticks : Nat) (s : State) : (s.run (execSlselRelease level ticks)).bytes = s.bytes := by
  simp only [State.run, execSlselRelease, State.when]
  (repeat' split) <;> simp (disch := first | (intros; (repeat' split) <;> simp; done) | fail) [-List.foldl_cons, -List.foldl_nil]

@[simp] theorem execSelStuck_bytes (s : State) : (s.run execSelStuck).bytes = s.bytes := by
  simp only [State.run, execSelStuck, State.when]
  (repeat' split) <;> simp (disch := first | (intros; (repeat' split) <;> simp; done) | fail) [-List.foldl_cons, -List.foldl_nil]

@[simp] theorem State.selPolCommitted_bytes (s old : State) : (State.selPolCommitted s old).bytes = s.bytes := by
  simp only [State.selPolCommitted]
  (repeat' split) <;> simp (disch := first | (intros; (repeat' split) <;> simp; done) | fail) [-List.foldl_cons, -List.foldl_nil]

@[simp] theorem execListenerReserve_bytes (s : State) : (s.run execListenerReserve).bytes = s.bytes := by
  simp only [State.run, execListenerReserve]
  (repeat' split) <;> simp (disch := first | (intros; (repeat' split) <;> simp; done) | fail) [-List.foldl_cons, -List.foldl_nil]

@[simp] theorem State.sslRelease_bytes (s : State) : (State.sslRelease s).bytes = s.bytes := by
  simp only [State.sslRelease]
  (repeat' split) <;> simp (disch := first | (intros; (repeat' split) <;> simp; done) | fail) [-List.foldl_cons, -List.foldl_nil]

@[simp] theorem execSafReq_bytes (count ch : Nat) (s : State) : (s.run (execSafReq count ch)).bytes = s.bytes := by
  simp only [State.run, execSafReq, State.hostWrite]
  (repeat' split) <;> simp (disch := first | (intros; (repeat' split) <;> simp; done) | fail) [-List.foldl_cons, -List.foldl_nil]

@[simp] theorem execSafConvDone_bytes (volts : List Int) (s : State) : (s.run (execSafConvDone volts)).bytes = s.bytes := by
  simp only [State.run, execSafConvDone, State.when]
  (repeat' split) <;> simp (disch := first | (intros; (repeat' split) <;> simp; done) | fail) [-List.foldl_cons, -List.foldl_nil]

@[simp] theorem State.cmpSettle_bytes (s : State) : (State.cmpSettle s).bytes = s.bytes := by
  simp only [State.cmpSettle]
  (repeat' split) <;> simp (disch := first | (intros; (repeat' split) <;> simp; done) | fail) [-List.foldl_cons, -List.foldl_nil]

@[simp] theorem State.crossEvent_bytes (s : State) (evt : Nat) : (State.crossEvent s evt).bytes = s.bytes := by
  simp only [State.crossEvent]
  (repeat' split) <;> simp (disch := first | (intros; (repeat' split) <;> simp; done) | fail) [-List.foldl_cons, -List.foldl_nil]

@[simp] theorem State.crossing_bytes (s : State) (k : Nat) (rise : Bool) : (State.crossing s k rise).bytes = s.bytes := by
  simp only [State.crossing]
  (repeat' split) <;> simp (disch := first | (intros; (repeat' split) <;> simp; done) | fail) [-List.foldl_cons, -List.foldl_nil]

@[simp] theorem execComparatorStrobe_bytes (k : Nat) (level : Int) (s : State) : (s.run (execComparatorStrobe k level)).bytes = s.bytes := by
  simp only [State.run, execComparatorStrobe, State.when]
  (repeat' split) <;> simp (disch := first | (intros; (repeat' split) <;> simp; done) | fail) [-List.foldl_cons, -List.foldl_nil]

end Sys2Proof.Machine
end

