-- ==== Sys2Proof/Laws/MemTimebase.lean ====
section
/-! SUPPORT. The operations of Machine/Timebase.lean leave the window memory alone. -/

namespace Sys2Proof.Machine

@[simp] theorem State.period_bytes (s : State) : (State.period s).bytes = s.bytes := by
  simp only [State.period]
  (repeat' split) <;> simp (disch := first | (intros; (repeat' split) <;> simp; done) | fail) [-List.foldl_cons, -List.foldl_nil]

@[simp] theorem State.tick_bytes (s : State) : (State.tick s).bytes = s.bytes := by
  simp only [State.tick]
  (repeat' split) <;> simp (disch := first | (intros; (repeat' split) <;> simp; done) | fail) [-List.foldl_cons, -List.foldl_nil]

@[simp] theorem execRealigned_bytes (s : State) : (s.run execRealigned).bytes = s.bytes := by
  simp only [State.run, execRealigned, State.when]
  (repeat' split) <;> simp (disch := first | (intros; (repeat' split) <;> simp; done) | fail) [-List.foldl_cons, -List.foldl_nil]

@[simp] theorem execTbsMeasUpdate_bytes (count : Nat) (s : State) : (s.run (execTbsMeasUpdate count)).bytes = s.bytes := by
  simp only [State.run, execTbsMeasUpdate, State.when]
  (repeat' split) <;> simp (disch := first | (intros; (repeat' split) <;> simp; done) | fail) [-List.foldl_cons, -List.foldl_nil]

@[simp] theorem State.autotrim_bytes (s : State) : (State.autotrim s).bytes = s.bytes := by
  simp only [State.autotrim]
  (repeat' split) <;> simp (disch := first | (intros; (repeat' split) <;> simp; done) | fail) [-List.foldl_cons, -List.foldl_nil]

@[simp] theorem State.alarmLo_bytes (s : State) (n : Nat) (lo : Word) : (State.alarmLo s n lo).bytes = s.bytes := by
  simp only [State.alarmLo]
  (repeat' split) <;> simp (disch := first | (intros; (repeat' split) <;> simp; done) | fail) [-List.foldl_cons, -List.foldl_nil]

@[simp] theorem State.setArmed_bytes (s : State) (n : Nat) (v : Bool) : (State.setArmed s n v).bytes = s.bytes := by
  simp only [State.setArmed]
  (repeat' split) <;> simp (disch := first | (intros; (repeat' split) <;> simp; done) | fail) [-List.foldl_cons, -List.foldl_nil]

@[simp] theorem execTbsAlmHiWrite_bytes (alarm : Nat) (hi : Word) (s : State) : (s.run (execTbsAlmHiWrite alarm hi)).bytes = s.bytes := by
  simp only [State.run, execTbsAlmHiWrite, State.hostWrite, State.when]
  (repeat' split) <;> simp (disch := first | (intros; (repeat' split) <;> simp; done) | fail) [-List.foldl_cons, -List.foldl_nil]

@[simp] theorem execAlarmFire_bytes (alarm : Nat) (s : State) : (s.run (execAlarmFire alarm)).bytes = s.bytes := by
  simp only [State.run, execAlarmFire, State.when]
  (repeat' split) <;> simp (disch := first | (intros; (repeat' split) <;> simp; done) | fail) [-List.foldl_cons, -List.foldl_nil]

end Sys2Proof.Machine
end

