-- ==== Sys2Proof/Laws/MemPages.lean ====
section
/-! SUPPORT. The operations of Machine/Pages.lean leave the window memory alone. -/

namespace Sys2Proof.Machine

@[simp] theorem State.dieUp_bytes (s : State) (d : Nat) : (State.dieUp s d).bytes = s.bytes := by
  simp only [State.dieUp]
  (repeat' split) <;> simp (disch := first | (intros; (repeat' split) <;> simp; done) | fail) [-List.foldl_cons, -List.foldl_nil]

@[simp] theorem State.touchDie_bytes (s : State) (d : Nat) : (State.touchDie s d).bytes = s.bytes := by
  simp only [State.touchDie]
  (repeat' split) <;> simp (disch := first | (intros; (repeat' split) <;> simp; done) | fail) [-List.foldl_cons, -List.foldl_nil]

@[simp] theorem State.pageMoved_bytes (s : State) (die page : Nat) : (State.pageMoved s die page).bytes = s.bytes := by
  simp only [State.pageMoved]
  (repeat' split) <;> simp (disch := first | (intros; (repeat' split) <;> simp; done) | fail) [-List.foldl_cons, -List.foldl_nil]

@[simp] theorem State.pageFault_bytes (s : State) (die page : Nat) : (State.pageFault s die page).bytes = s.bytes := by
  simp only [State.pageFault]
  (repeat' split) <;> simp (disch := first | (intros; (repeat' split) <;> simp; done) | fail) [-List.foldl_cons, -List.foldl_nil]

@[simp] theorem State.writeEn_bytes (s : State) (die page : Nat) (value : Bool) : (State.writeEn s die page value).bytes = s.bytes := by
  simp only [State.writeEn]
  (repeat' split) <;> simp (disch := first | (intros; (repeat' split) <;> simp; done) | fail) [-List.foldl_cons, -List.foldl_nil]

@[simp] theorem State.writeDrain_bytes (s : State) (die page : Nat) (value : Bool) : (State.writeDrain s die page value).bytes = s.bytes := by
  simp only [State.writeDrain]
  (repeat' split) <;> simp (disch := first | (intros; (repeat' split) <;> simp; done) | fail) [-List.foldl_cons, -List.foldl_nil]

@[simp] theorem State.writeCommit_bytes (s : State) (die page : Nat) : (State.writeCommit s die page).bytes = s.bytes := by
  simp only [State.writeCommit]
  (repeat' split) <;> simp (disch := first | (intros; (repeat' split) <;> simp; done) | fail) [-List.foldl_cons, -List.foldl_nil]

@[simp] theorem State.writeTest_bytes (s : State) (die page : Nat) (value : Bool) : (State.writeTest s die page value).bytes = s.bytes := by
  simp only [State.writeTest]
  (repeat' split) <;> simp (disch := first | (intros; (repeat' split) <;> simp; done) | fail) [-List.foldl_cons, -List.foldl_nil]

@[simp] theorem execPgCtrlEn_bytes (die page : Nat) (value : Bool) (s : State) : (s.run (execPgCtrlEn die page value)).bytes = s.bytes := by
  simp only [State.run, execPgCtrlEn, State.hostWrite, State.pageAccess]
  (repeat' split) <;> simp (disch := first | (intros; (repeat' split) <;> simp; done) | fail) [-List.foldl_cons, -List.foldl_nil]

@[simp] theorem execPgCtrlDrain_bytes (die page : Nat) (value : Bool) (s : State) : (s.run (execPgCtrlDrain die page value)).bytes = s.bytes := by
  simp only [State.run, execPgCtrlDrain, State.hostWrite, State.pageAccess]
  (repeat' split) <;> simp (disch := first | (intros; (repeat' split) <;> simp; done) | fail) [-List.foldl_cons, -List.foldl_nil]

@[simp] theorem execPgCtrlCommit_bytes (die page : Nat) (s : State) : (s.run (execPgCtrlCommit die page)).bytes = s.bytes := by
  simp only [State.run, execPgCtrlCommit, State.hostWrite, State.pageAccess]
  (repeat' split) <;> simp (disch := first | (intros; (repeat' split) <;> simp; done) | fail) [-List.foldl_cons, -List.foldl_nil]

@[simp] theorem execPgCtrlTest_bytes (die page : Nat) (s : State) : (s.run (execPgCtrlTest die page)).bytes = s.bytes := by
  simp only [State.run, execPgCtrlTest, State.hostWrite, State.pageAccess]
  (repeat' split) <;> simp (disch := first | (intros; (repeat' split) <;> simp; done) | fail) [-List.foldl_cons, -List.foldl_nil]

@[simp] theorem execPgCtrlLock_bytes (die page : Nat) (s : State) : (s.run (execPgCtrlLock die page)).bytes = s.bytes := by
  simp only [State.run, execPgCtrlLock, State.hostWrite, State.pageAccess]
  (repeat' split) <;> simp (disch := first | (intros; (repeat' split) <;> simp; done) | fail) [-List.foldl_cons, -List.foldl_nil]

@[simp] theorem State.writeCtrl_bytes (s : State) (die page : Nat) (v : Word) : (State.writeCtrl s die page v).bytes = s.bytes := by
  simp only [State.writeCtrl]
  (repeat' split) <;> simp (disch := first | (intros; (repeat' split) <;> simp; done) | fail) [-List.foldl_cons, -List.foldl_nil]

@[simp] theorem execPageReady_bytes (die page : Nat) (fault : Bool) (s : State) : (s.run (execPageReady die page fault)).bytes = s.bytes := by
  simp only [State.run, execPageReady, State.when]
  (repeat' split) <;> simp (disch := first | (intros; (repeat' split) <;> simp; done) | fail) [-List.foldl_cons, -List.foldl_nil]

@[simp] theorem execPageDrainEnd_bytes (die page : Nat) (s : State) : (s.run (execPageDrainEnd die page)).bytes = s.bytes := by
  simp only [State.run, execPageDrainEnd, State.when]
  (repeat' split) <;> simp (disch := first | (intros; (repeat' split) <;> simp; done) | fail) [-List.foldl_cons, -List.foldl_nil]

@[simp] theorem execPgEvtClear_bytes (die page : Nat) (value raised : Word) (s : State) : (s.run (execPgEvtClear die page value raised)).bytes = s.bytes := by
  simp only [State.run, execPgEvtClear, State.pageAccess]
  (repeat' split) <;> simp (disch := first | (intros; (repeat' split) <;> simp; done) | fail) [-List.foldl_cons, -List.foldl_nil]

@[simp] theorem execPgFirsterrClear_bytes (die page : Nat) (_value : Word) (same : Option Nat) (s : State) : (s.run (execPgFirsterrClear die page _value same)).bytes = s.bytes := by
  simp only [State.run, execPgFirsterrClear, State.hostWrite, State.pageAccess]
  (repeat' split) <;> simp (disch := first | (intros; (repeat' split) <;> simp; done) | fail) [-List.foldl_cons, -List.foldl_nil]

@[simp] theorem State.applyShadows_bytes (s : State) (f : Nat → Bool) : (State.applyShadows s f).bytes = s.bytes := by
  simp only [State.applyShadows]
  (repeat' split) <;> simp (disch := first | (intros; (repeat' split) <;> simp; done) | fail) [-List.foldl_cons, -List.foldl_nil]

@[simp] theorem State.retarget_bytes (s : State) (d p k : Nat) : (State.retarget s d p k).bytes = s.bytes := by
  simp only [State.retarget]
  (repeat' split) <;> simp (disch := first | (intros; (repeat' split) <;> simp; done) | fail) [-List.foldl_cons, -List.foldl_nil]

@[simp] theorem State.fcoCommitted_bytes (s old : State) : (State.fcoCommitted s old).bytes = s.bytes := by
  simp only [State.fcoCommitted]
  (repeat' split) <;> simp (disch := first | (intros; (repeat' split) <;> simp; done) | fail) [-List.foldl_cons, -List.foldl_nil]

@[simp] theorem State.pleCommitted_bytes (s old : State) : (State.pleCommitted s old).bytes = s.bytes := by
  simp only [State.pleCommitted]
  (repeat' split) <;> simp (disch := first | (intros; (repeat' split) <;> simp; done) | fail) [-List.foldl_cons, -List.foldl_nil]

@[simp] theorem State.rfcCommitted_bytes (s old : State) : (State.rfcCommitted s old).bytes = s.bytes := by
  simp only [State.rfcCommitted]
  (repeat' split) <;> simp (disch := first | (intros; (repeat' split) <;> simp; done) | fail) [-List.foldl_cons, -List.foldl_nil]

@[simp] theorem State.hmpCommitted_bytes (s old : State) : (State.hmpCommitted s old).bytes = s.bytes := by
  simp only [State.hmpCommitted]
  (repeat' split) <;> simp (disch := first | (intros; (repeat' split) <;> simp; done) | fail) [-List.foldl_cons, -List.foldl_nil]

@[simp] theorem State.pageCommitted_bytes (s old : State) (die page : Nat) : (State.pageCommitted s old die page).bytes = s.bytes := by
  simp only [State.pageCommitted]
  (repeat' split) <;> simp (disch := first | (intros; (repeat' split) <;> simp; done) | fail) [-List.foldl_cons, -List.foldl_nil]

@[simp] theorem State.commitEnd_bytes (s : State) (die page : Nat) : (State.commitEnd s die page).bytes = s.bytes := by
  simp only [State.commitEnd]
  (repeat' split) <;> simp (disch := first | (intros; (repeat' split) <;> simp; done) | fail) [-List.foldl_cons, -List.foldl_nil]

@[simp] theorem State.commitAll_bytes (s : State) (die page : Nat) : (State.commitAll s die page).bytes = s.bytes := by
  simp only [State.commitAll]
  (repeat' split) <;> simp (disch := first | (intros; (repeat' split) <;> simp; done) | fail) [-List.foldl_cons, -List.foldl_nil]

@[simp] theorem State.commitPort_bytes (s : State) (die page p : Nat) : (State.commitPort s die page p).bytes = s.bytes := by
  simp only [State.commitPort]
  (repeat' split) <;> simp (disch := first | (intros; (repeat' split) <;> simp; done) | fail) [-List.foldl_cons, -List.foldl_nil]

@[simp] theorem State.commitNow_bytes (s : State) (die page : Nat) : (State.commitNow s die page).bytes = s.bytes := by
  simp only [State.commitNow]
  (repeat' split) <;> simp (disch := first | (intros; (repeat' split) <;> simp; done) | fail) [-List.foldl_cons, -List.foldl_nil]

@[simp] theorem execCommitTakeEffect_bytes (die page port : Nat) (s : State) : (s.run (execCommitTakeEffect die page port)).bytes = s.bytes := by
  simp only [State.run, execCommitTakeEffect, State.when]
  (repeat' split) <;> simp (disch := first | (intros; (repeat' split) <;> simp; done) | fail) [-List.foldl_cons, -List.foldl_nil]

@[simp] theorem State.tktCommit_bytes (s : State) (op : Nat) : (State.tktCommit s op).bytes = s.bytes := by
  simp only [State.tktCommit, State.when]
  (repeat' split) <;> simp (disch := first | (intros; (repeat' split) <;> simp; done) | fail) [-List.foldl_cons, -List.foldl_nil]

@[simp] theorem State.nvBetween_bytes (s : State) : (State.nvBetween s).bytes = s.bytes := by
  simp only [State.nvBetween, State.when]
  (repeat' split) <;> simp (disch := first | (intros; (repeat' split) <;> simp; done) | fail) [-List.foldl_cons, -List.foldl_nil]

@[simp] theorem execNvOpDone_bytes (ok : Bool) (spares worn : Nat) (s : State) : (s.run (execNvOpDone ok spares worn)).bytes = s.bytes := by
  simp only [State.run, execNvOpDone]
  (repeat' split) <;> simp (disch := first | (intros; (repeat' split) <;> simp; done) | fail) [-List.foldl_cons, -List.foldl_nil]

@[simp] theorem execCalSaveEnd_bytes (ok : Bool) (s : State) : (s.run (execCalSaveEnd ok)).bytes = s.bytes := by
  simp only [State.run, execCalSaveEnd, State.when]
  (repeat' split) <;> simp (disch := first | (intros; (repeat' split) <;> simp; done) | fail) [-List.foldl_cons, -List.foldl_nil]

@[simp] theorem execDarnMapWritten_bytes (s : State) : (s.run execDarnMapWritten).bytes = s.bytes := by
  simp only [State.run, execDarnMapWritten, State.when]
  (repeat' split) <;> simp (disch := first | (intros; (repeat' split) <;> simp; done) | fail) [-List.foldl_cons, -List.foldl_nil]

@[simp] theorem execTktOpNone_bytes (s : State) : (s.run execTktOpNone).bytes = s.bytes := by
  simp only [State.run, execTktOpNone]
  (repeat' split) <;> simp (disch := first | (intros; (repeat' split) <;> simp; done) | fail) [-List.foldl_cons, -List.foldl_nil]

@[simp] theorem execTktOpWrite_bytes (s : State) : (s.run execTktOpWrite).bytes = s.bytes := by
  simp only [State.run, execTktOpWrite]
  (repeat' split) <;> simp (disch := first | (intros; (repeat' split) <;> simp; done) | fail) [-List.foldl_cons, -List.foldl_nil]

@[simp] theorem execTktOpInsert_bytes (s : State) : (s.run execTktOpInsert).bytes = s.bytes := by
  simp only [State.run, execTktOpInsert]
  (repeat' split) <;> simp (disch := first | (intros; (repeat' split) <;> simp; done) | fail) [-List.foldl_cons, -List.foldl_nil]

@[simp] theorem execTktOpDelete_bytes (s : State) : (s.run execTktOpDelete).bytes = s.bytes := by
  simp only [State.run, execTktOpDelete]
  (repeat' split) <;> simp (disch := first | (intros; (repeat' split) <;> simp; done) | fail) [-List.foldl_cons, -List.foldl_nil]

@[simp] theorem execTktOpLookup_bytes (s : State) : (s.run execTktOpLookup).bytes = s.bytes := by
  simp only [State.run, execTktOpLookup]
  (repeat' split) <;> simp (disch := first | (intros; (repeat' split) <;> simp; done) | fail) [-List.foldl_cons, -List.foldl_nil]

@[simp] theorem execTktSnapSave_bytes (s : State) : (s.run execTktSnapSave).bytes = s.bytes := by
  simp only [State.run, execTktSnapSave, State.hostWrite]
  (repeat' split) <;> simp (disch := first | (intros; (repeat' split) <;> simp; done) | fail) [-List.foldl_cons, -List.foldl_nil]

@[simp] theorem execTktSnapSaveEnd_bytes (ok : Bool) (bucket code : Nat) (s : State) : (s.run (execTktSnapSaveEnd ok bucket code)).bytes = s.bytes := by
  simp only [State.run, execTktSnapSaveEnd, State.when]
  (repeat' split) <;> simp (disch := first | (intros; (repeat' split) <;> simp; done) | fail) [-List.foldl_cons, -List.foldl_nil]

@[simp] theorem execTktSnapLoad_bytes (s : State) : (s.run execTktSnapLoad).bytes = s.bytes := by
  simp only [State.run, execTktSnapLoad, State.hostWrite]
  (repeat' split) <;> simp (disch := first | (intros; (repeat' split) <;> simp; done) | fail) [-List.foldl_cons, -List.foldl_nil]

@[simp] theorem State.loadSnapshot_bytes (s : State) : (State.loadSnapshot s).bytes = s.bytes := by
  simp only [State.loadSnapshot]
  (repeat' split) <;> simp (disch := first | (intros; (repeat' split) <;> simp; done) | fail) [-List.foldl_cons, -List.foldl_nil]

@[simp] theorem execTktSnapLoadEnd_bytes (crcOk : Bool) (s : State) : (s.run (execTktSnapLoadEnd crcOk)).bytes = s.bytes := by
  simp only [State.run, execTktSnapLoadEnd, State.when]
  (repeat' split) <;> simp (disch := first | (intros; (repeat' split) <;> simp; done) | fail) [-List.foldl_cons, -List.foldl_nil]

end Sys2Proof.Machine
end

