-- ==== Sys2Proof/Laws/MemImage.lean ====
section
/-! SUPPORT. The operations of Machine/Image.lean leave the window memory alone. -/

namespace Sys2Proof.Machine

@[simp] theorem State.stageImage_bytes (s : State) (pages : List (Nat × Nat)) (kept : Nat → Bool) (ws : List (Nat × Word)) : (State.stageImage s pages kept ws).1.bytes = s.bytes := by
  simp only [State.stageImage]
  (repeat' split) <;> simp (disch := first | (intros; (repeat' split) <;> simp; done) | fail) [-List.foldl_cons, -List.foldl_nil]

end Sys2Proof.Machine
end

