-- ==== Sys2Proof/Laws/MemProfile.lean ====
section
/-! SUPPORT. The operations of Machine/Profile.lean leave the window memory alone. -/

namespace Sys2Proof.Machine

@[simp] theorem State.forgetNotes_bytes (s : State) (l : Nat) : (State.forgetNotes s l).bytes = s.bytes := by
  simp only [State.forgetNotes]
  (repeat' split) <;> simp (disch := first | (intros; (repeat' split) <;> simp; done) | fail) [-List.foldl_cons, -List.foldl_nil]

@[simp] theorem State.stopRadio_bytes (s : State) (l : Nat) : (State.stopRadio s l).bytes = s.bytes := by
  simp only [State.stopRadio]
  (repeat' split) <;> simp (disch := first | (intros; (repeat' split) <;> simp; done) | fail) [-List.foldl_cons, -List.foldl_nil]

@[simp] theorem State.stopList_bytes (s : State) (l : Nat) : (State.stopList s l).bytes = s.bytes := by
  simp only [State.stopList]
  (repeat' split) <;> simp (disch := first | (intros; (repeat' split) <;> simp; done) | fail) [-List.foldl_cons, -List.foldl_nil]

@[simp] theorem State.holdRun_bytes (s : State) (d : Nat) : (State.holdRun s d).bytes = s.bytes := by
  simp only [State.holdRun]
  (repeat' split) <;> simp (disch := first | (intros; (repeat' split) <;> simp; done) | fail) [-List.foldl_cons, -List.foldl_nil]

@[simp] theorem State.takeMap_bytes (s : State) (w : Nat → Word) : (State.takeMap s w).bytes = s.bytes := by
  simp only [State.takeMap]
  (repeat' split) <;> simp (disch := first | (intros; (repeat' split) <;> simp; done) | fail) [-List.foldl_cons, -List.foldl_nil]

@[simp] theorem State.takeHeld_bytes (s : State) (a : Nat) (w : Word) : (State.takeHeld s a w).bytes = s.bytes := by
  simp only [State.takeHeld]
  (repeat' split) <;> simp (disch := first | (intros; (repeat' split) <;> simp; done) | fail) [-List.foldl_cons, -List.foldl_nil]

@[simp] theorem State.setVariables_bytes (s : State) (ws : List (Nat × Word)) : (State.setVariables s ws).bytes = s.bytes := by
  simp only [State.setVariables]
  (repeat' split) <;> simp (disch := first | (intros; (repeat' split) <;> simp; done) | fail) [-List.foldl_cons, -List.foldl_nil]

@[simp] theorem State.commitStaged_bytes (s : State) (pages : List (Nat × Nat)) (held : List (Nat × Word)) : (State.commitStaged s pages held).bytes = s.bytes := by
  simp only [State.commitStaged]
  (repeat' split) <;> simp (disch := first | (intros; (repeat' split) <;> simp; done) | fail) [-List.foldl_cons, -List.foldl_nil]

@[simp] theorem State.imageTable_bytes (s : State) (ws : List (Nat × Word)) : (State.imageTable s ws).bytes = s.bytes := by
  simp only [State.imageTable]
  (repeat' split) <;> simp (disch := first | (intros; (repeat' split) <;> simp; done) | fail) [-List.foldl_cons, -List.foldl_nil]

@[simp] theorem State.startLoad_bytes (s : State) (slot : Nat) : (State.startLoad s slot).bytes = s.bytes := by
  simp only [State.startLoad]
  (repeat' split) <;> simp (disch := first | (intros; (repeat' split) <;> simp; done) | fail) [-List.foldl_cons, -List.foldl_nil]

@[simp] theorem execDevLoad_bytes (slot : Nat) (s : State) : (s.run (execDevLoad slot)).bytes = s.bytes := by
  simp only [State.run, execDevLoad, State.hostWrite]
  (repeat' split) <;> simp (disch := first | (intros; (repeat' split) <;> simp; done) | fail) [-List.foldl_cons, -List.foldl_nil]

@[simp] theorem State.resume_bytes (s : State) (applied : Bool) : (State.resume s applied).bytes = s.bytes := by
  simp only [State.resume]
  (repeat' split) <;> simp (disch := first | (intros; (repeat' split) <;> simp; done) | fail) [-List.foldl_cons, -List.foldl_nil]

@[simp] theorem State.radioBack_bytes (s : State) (o : Option (Nat × Nat)) : (State.radioBack s o).bytes = s.bytes := by
  simp only [State.radioBack]
  (repeat' split) <;> simp (disch := first | (intros; (repeat' split) <;> simp; done) | fail) [-List.foldl_cons, -List.foldl_nil]

@[simp] theorem State.loadFailed_bytes (s : State) (code : Nat) : (State.loadFailed s code).bytes = s.bytes := by
  simp only [State.loadFailed]
  (repeat' split) <;> simp (disch := first | (intros; (repeat' split) <;> simp; done) | fail) [-List.foldl_cons, -List.foldl_nil]

@[simp] theorem State.radioToSynth_bytes (s : State) (l : Load) : (State.radioToSynth s l).1.bytes = s.bytes := by
  simp only [State.radioToSynth]
  (repeat' split) <;> simp (disch := first | (intros; (repeat' split) <;> simp; done) | fail) [-List.foldl_cons, -List.foldl_nil]

@[simp] theorem execProfileCheckEnd_bytes (s : State) : (s.run execProfileCheckEnd).bytes = s.bytes := by
  simp only [State.run, execProfileCheckEnd]
  (repeat' split) <;> simp (disch := first | (intros; (repeat' split) <;> simp; done) | fail) [-List.foldl_cons, -List.foldl_nil]

@[simp] theorem execProfileLoadTimeout_bytes (s : State) : (s.run execProfileLoadTimeout).bytes = s.bytes := by
  simp only [State.run, execProfileLoadTimeout]
  (repeat' split) <;> simp (disch := first | (intros; (repeat' split) <;> simp; done) | fail) [-List.foldl_cons, -List.foldl_nil]

@[simp] theorem State.loadCal_bytes (s : State) (bad : List Nat) : (State.loadCal s bad).bytes = s.bytes := by
  simp only [State.loadCal]
  (repeat' split) <;> simp (disch := first | (intros; (repeat' split) <;> simp; done) | fail) [-List.foldl_cons, -List.foldl_nil]

@[simp] theorem execProfileCommit_bytes (late : Bool) (s : State) : (s.run (execProfileCommit late)).bytes = s.bytes := by
  simp only [State.run, execProfileCommit]
  (repeat' split) <;> simp (disch := first | (intros; (repeat' split) <;> simp; done) | fail) [-List.foldl_cons, -List.foldl_nil]

@[simp] theorem State.reloadPage_bytes (s : State) (die page : Nat) : (State.reloadPage s die page).bytes = s.bytes := by
  simp only [State.reloadPage]
  (repeat' split) <;> simp (disch := first | (intros; (repeat' split) <;> simp; done) | fail) [-List.foldl_cons, -List.foldl_nil]

end Sys2Proof.Machine
end

