-- ==== Sys2Proof/Laws/MemBanks.lean ====
section
/-! SUPPORT. The operations of Machine/Banks.lean leave the window memory alone. -/

namespace Sys2Proof.Machine

@[simp] theorem State.storeCrcs_bytes (s : State) (dies : List Nat) : (State.storeCrcs s dies).bytes = s.bytes := by
  simp only [State.storeCrcs]
  (repeat' split) <;> simp (disch := first | (intros; (repeat' split) <;> simp; done) | fail) [-List.foldl_cons, -List.foldl_nil]

end Sys2Proof.Machine
end

