-- ==== Sys2Proof/Laws/MemInventory.lean ====
section
/-! SUPPORT. The operations of Machine/Inventory.lean leave the window memory alone. -/

namespace Sys2Proof.Machine

@[simp] theorem State.sightTag_bytes (s : State) (d p uid : Nat) : (State.sightTag s d p uid).1.bytes = s.bytes := by
  simp only [State.sightTag]
  (repeat' split) <;> simp (disch := first | (intros; (repeat' split) <;> simp; done) | fail) [-List.foldl_cons, -List.foldl_nil]

@[simp] theorem State.findUid_bytes (s : State) (d p : Nat) (e : Exch) (body : List Byte) (sep : Bool) (slot ampl angle : Nat) : (State.findUid s d p e body sep slot ampl angle).1.bytes = s.bytes := by
  simp only [State.findUid]
  (repeat' split) <;> simp (disch := first | (intros; (repeat' split) <;> simp; done) | fail) [-List.foldl_cons, -List.foldl_nil]

@[simp] theorem State.pushRequests_bytes (s : State) (d p : Nat) (e : Exch) : (State.pushRequests s d p e).bytes = s.bytes := by
  simp only [State.pushRequests]
  (repeat' split) <;> simp (disch := first | (intros; (repeat' split) <;> simp; done) | fail) [-List.foldl_cons, -List.foldl_nil]

@[simp] theorem State.nextFollow_bytes (s : State) (d p : Nat) (e : Exch) : (State.nextFollow s d p e).bytes = s.bytes := by
  simp only [State.nextFollow]
  (repeat' split) <;> simp (disch := first | (intros; (repeat' split) <;> simp; done) | fail) [-List.foldl_cons, -List.foldl_nil]

@[simp] theorem State.slotsDone_bytes (s : State) (d p : Nat) (e : Exch) : (State.slotsDone s d p e).bytes = s.bytes := by
  simp only [State.slotsDone]
  (repeat' split) <;> simp (disch := first | (intros; (repeat' split) <;> simp; done) | fail) [-List.foldl_cons, -List.foldl_nil]

@[simp] theorem State.slotOver_bytes (s : State) (d p : Nat) (e : Exch) : (State.slotOver s d p e).bytes = s.bytes := by
  simp only [State.slotOver]
  (repeat' split) <;> simp (disch := first | (intros; (repeat' split) <;> simp; done) | fail) [-List.foldl_cons, -List.foldl_nil]

@[simp] theorem State.slotStreams_bytes (s : State) (d : Nat) (e : Exch) (sat : List Nat) : (State.slotStreams s d e sat).1.bytes = s.bytes := by
  simp only [State.slotStreams]
  (repeat' split) <;> simp (disch := first | (intros; (repeat' split) <;> simp; done) | fail) [-List.foldl_cons, -List.foldl_nil]

@[simp] theorem State.unclearSlot_bytes (s : State) (d p : Nat) (e : Exch) : (State.unclearSlot s d p e).1.bytes = s.bytes := by
  simp only [State.unclearSlot]
  (repeat' split) <;> simp (disch := first | (intros; (repeat' split) <;> simp; done) | fail) [-List.foldl_cons, -List.foldl_nil]

@[simp] theorem State.slotReply_bytes (s : State) (d p : Nat) (e : Exch) (r : Reply) : (State.slotReply s d p e r).bytes = s.bytes := by
  simp only [State.slotReply]
  (repeat' split) <;> simp (disch := first | (intros; (repeat' split) <;> simp; done) | fail) [-List.foldl_cons, -List.foldl_nil]

@[simp] theorem execTxFrameEnd_bytes (die port : Nat) (resid : List (Nat × Nat)) (s : State) : (s.run (execTxFrameEnd die port resid)).bytes = s.bytes := by
  simp only [State.run, execTxFrameEnd]
  (repeat' split) <;> simp (disch := first | (intros; (repeat' split) <;> simp; done) | fail) [-List.foldl_cons, -List.foldl_nil]

@[simp] theorem execResponseWindowEnd_bytes (die port : Nat) (sat : List Nat) (s : State) : (s.run (execResponseWindowEnd die port sat)).bytes = s.bytes := by
  simp only [State.run, execResponseWindowEnd]
  (repeat' split) <;> simp (disch := first | (intros; (repeat' split) <;> simp; done) | fail) [-List.foldl_cons, -List.foldl_nil]

@[simp] theorem execInvSlotEof_bytes (die port : Nat) (s : State) : (s.run (execInvSlotEof die port)).bytes = s.bytes := by
  simp only [State.run, execInvSlotEof]
  (repeat' split) <;> simp (disch := first | (intros; (repeat' split) <;> simp; done) | fail) [-List.foldl_cons, -List.foldl_nil]

@[simp] theorem State.solveOver_bytes (s : State) (d p : Nat) (e : Exch) : (State.solveOver s d p e).bytes = s.bytes := by
  simp only [State.solveOver]
  (repeat' split) <;> simp (disch := first | (intros; (repeat' split) <;> simp; done) | fail) [-List.foldl_cons, -List.foldl_nil]

@[simp] theorem State.solve_bytes (s : State) (d p : Nat) (e : Exch) (slot m k : Nat) (replies : List Solved) : (State.solve s d p e slot m k replies).bytes = s.bytes := by
  simp only [State.solve]
  (repeat' split) <;> simp (disch := first | (intros; (repeat' split) <;> simp; done) | fail) [-List.foldl_cons, -List.foldl_nil]

@[simp] theorem execSeparationSolveEnd_bytes (die port slot : Nat) (eigen : List Int) (replies : List (List Byte × Nat × Nat × Nat)) (s : State) : (s.run (execSeparationSolveEnd die port slot eigen replies)).bytes = s.bytes := by
  simp only [State.run, execSeparationSolveEnd, State.when]
  (repeat' split) <;> simp (disch := first | (intros; (repeat' split) <;> simp; done) | fail) [-List.foldl_cons, -List.foldl_nil]

end Sys2Proof.Machine
end

