-- ==== Sys2Proof/Laws/MemPower.lean ====
section
/-! SUPPORT. The operations of Machine/Power.lean leave the window memory alone. -/

namespace Sys2Proof.Machine

@[simp] theorem State.sleepRequest_bytes (s : State) (toWatch : Bool) : (State.sleepRequest s toWatch).bytes = s.bytes := by
  simp only [State.sleepRequest, State.hostWrite]
  (repeat' split) <;> simp (disch := first | (intros; (repeat' split) <;> simp; done) | fail) [-List.foldl_cons, -List.foldl_nil]

@[simp] theorem execSleepDeepRequest_bytes (s : State) : (s.run execSleepDeepRequest).bytes = s.bytes := by
  simp only [State.run, execSleepDeepRequest]
  (repeat' split) <;> simp (disch := first | (intros; (repeat' split) <;> simp; done) | fail) [-List.foldl_cons, -List.foldl_nil]

@[simp] theorem execSleepWatchRequest_bytes (s : State) : (s.run execSleepWatchRequest).bytes = s.bytes := by
  simp only [State.run, execSleepWatchRequest]
  (repeat' split) <;> simp (disch := first | (intros; (repeat' split) <;> simp; done) | fail) [-List.foldl_cons, -List.foldl_nil]

@[simp] theorem execEntryTimeout_bytes (s : State) : (s.run execEntryTimeout).bytes = s.bytes := by
  simp only [State.run, execEntryTimeout, State.when]
  (repeat' split) <;> simp (disch := first | (intros; (repeat' split) <;> simp; done) | fail) [-List.foldl_cons, -List.foldl_nil]

@[simp] theorem State.radioSleep_bytes (s : State) : (State.radioSleep s).bytes = s.bytes := by
  simp only [State.radioSleep]
  (repeat' split) <;> simp (disch := first | (intros; (repeat' split) <;> simp; done) | fail) [-List.foldl_cons, -List.foldl_nil]

@[simp] theorem State.prepareRest_bytes (s : State) : (State.prepareRest s).bytes = s.bytes := by
  simp only [State.prepareRest]
  (repeat' split) <;> simp (disch := first | (intros; (repeat' split) <;> simp; done) | fail) [-List.foldl_cons, -List.foldl_nil]

@[simp] theorem State.afterSupply_bytes (s : State) : (State.afterSupply s).bytes = s.bytes := by
  simp only [State.afterSupply, State.when]
  (repeat' split) <;> simp (disch := first | (intros; (repeat' split) <;> simp; done) | fail) [-List.foldl_cons, -List.foldl_nil]

@[simp] theorem execSrlAck_bytes (s : State) : (s.run execSrlAck).bytes = s.bytes := by
  simp only [State.run, execSrlAck]
  (repeat' split) <;> simp (disch := first | (intros; (repeat' split) <;> simp; done) | fail) [-List.foldl_cons, -List.foldl_nil]

@[simp] theorem execSrlNoack_bytes (s : State) : (s.run execSrlNoack).bytes = s.bytes := by
  simp only [State.run, execSrlNoack]
  (repeat' split) <;> simp (disch := first | (intros; (repeat' split) <;> simp; done) | fail) [-List.foldl_cons, -List.foldl_nil]

@[simp] theorem execSleepPrepare_bytes (s : State) : (s.run execSleepPrepare).bytes = s.bytes := by
  simp only [State.run, execSleepPrepare, State.when]
  (repeat' split) <;> simp (disch := first | (intros; (repeat' split) <;> simp; done) | fail) [-List.foldl_cons, -List.foldl_nil]

@[simp] theorem execSleepCommit_bytes (s : State) : (s.run execSleepCommit).bytes = s.bytes := by
  simp only [State.run, execSleepCommit, State.when]
  (repeat' split) <;> simp (disch := first | (intros; (repeat' split) <;> simp; done) | fail) [-List.foldl_cons, -List.foldl_nil]

@[simp] theorem State.reloadReads_bytes (s : State) (die : Nat) (l : List Nat) : (State.reloadReads s die l).bytes = s.bytes := by
  simp only [State.reloadReads]
  (repeat' split) <;> simp (disch := first | (intros; (repeat' split) <;> simp; done) | fail) [-List.foldl_cons, -List.foldl_nil]

@[simp] theorem State.reloadSets_bytes (s : State) (own : Nat → Bool) : (State.reloadSets s own).bytes = s.bytes := by
  simp only [State.reloadSets]
  (repeat' split) <;> simp (disch := first | (intros; (repeat' split) <;> simp; done) | fail) [-List.foldl_cons, -List.foldl_nil]

@[simp] theorem State.reloadBank_bytes (s : State) (die page : Nat) : (State.reloadBank s die page).bytes = s.bytes := by
  simp only [State.reloadBank]
  (repeat' split) <;> simp (disch := first | (intros; (repeat' split) <;> simp; done) | fail) [-List.foldl_cons, -List.foldl_nil]

@[simp] theorem State.retFail_bytes (s : State) (l : List Nat) : (State.retFail s l).bytes = s.bytes := by
  simp only [State.retFail]
  (repeat' split) <;> simp (disch := first | (intros; (repeat' split) <;> simp; done) | fail) [-List.foldl_cons, -List.foldl_nil]

@[simp] theorem State.wakeReport_bytes (s : State) (src left detail slept time : Nat) (l : List Nat) (lost : Nat) : (State.wakeReport s src left detail slept time l lost).bytes = s.bytes := by
  simp only [State.wakeReport]
  (repeat' split) <;> simp (disch := first | (intros; (repeat' split) <;> simp; done) | fail) [-List.foldl_cons, -List.foldl_nil]

@[simp] theorem State.frontsUp_bytes (s : State) (front : Bool) : (State.frontsUp s front).bytes = s.bytes := by
  simp only [State.frontsUp]
  (repeat' split) <;> simp (disch := first | (intros; (repeat' split) <;> simp; done) | fail) [-List.foldl_cons, -List.foldl_nil]

@[simp] theorem State.gpAfterWake_bytes (s : State) (gp : Nat) : (State.gpAfterWake s gp).bytes = s.bytes := by
  simp only [State.gpAfterWake]
  (repeat' split) <;> simp (disch := first | (intros; (repeat' split) <;> simp; done) | fail) [-List.foldl_cons, -List.foldl_nil]

@[simp] theorem execWakeComplete_bytes (gp : Nat) (s : State) : (s.run (execWakeComplete gp)).bytes = s.bytes := by
  simp only [State.run, execWakeComplete, State.when]
  (repeat' split) <;> simp (disch := first | (intros; (repeat' split) <;> simp; done) | fail) [-List.foldl_cons, -List.foldl_nil]

@[simp] theorem execPadRelease_bytes (value : Word) (s : State) : (s.run (execPadRelease value)).bytes = s.bytes := by
  simp only [State.run, execPadRelease, State.hostWrite]
  (repeat' split) <;> simp (disch := first | (intros; (repeat' split) <;> simp; done) | fail) [-List.foldl_cons, -List.foldl_nil]

@[simp] theorem execKeepRun_bytes (die : Nat) (s : State) : (s.run (execKeepRun die)).bytes = s.bytes := by
  simp only [State.run, execKeepRun, State.hostWrite, State.pageAccess, State.when]
  (repeat' split) <;> simp (disch := first | (intros; (repeat' split) <;> simp; done) | fail) [-List.foldl_cons, -List.foldl_nil]

@[simp] theorem execDieOffIdle_bytes (die : Nat) (s : State) : (s.run (execDieOffIdle die)).bytes = s.bytes := by
  simp only [State.run, execDieOffIdle, State.when]
  (repeat' split) <;> simp (disch := first | (intros; (repeat' split) <;> simp; done) | fail) [-List.foldl_cons, -List.foldl_nil]

end Sys2Proof.Machine
end

