-- ==== Sys2Proof/Laws/MemRuns.lean ====
section
/-! SUPPORT. The operations of Machine/Runs.lean leave the window memory alone. -/

namespace Sys2Proof.Machine

@[simp] theorem execTestStart_bytes (kind die unit : Nat) (s : State) : (s.run (execTestStart kind die unit)).bytes = s.bytes := by
  simp only [State.run, execTestStart, State.when]
  (repeat' split) <;> simp (disch := first | (intros; (repeat' split) <;> simp; done) | fail) [-List.foldl_cons, -List.foldl_nil]

@[simp] theorem execAnchorCalStart_bytes (s : State) : (s.run execAnchorCalStart).bytes = s.bytes := by
  simp only [State.run, execAnchorCalStart, State.when]
  (repeat' split) <;> simp (disch := first | (intros; (repeat' split) <;> simp; done) | fail) [-List.foldl_cons, -List.foldl_nil]

end Sys2Proof.Machine
end

