-- ==== Sys2Proof/Laws/MemStartup.lean ====
section
/-! SUPPORT. The operations of Machine/Startup.lean leave the window memory alone. -/

namespace Sys2Proof.Machine

@[simp] theorem execResetEnd_bytes (prof twa : Nat) (s : State) : (s.run (execResetEnd prof twa)).bytes = s.bytes := by
  simp only [State.run, execResetEnd, State.when]
  (repeat' split) <;> simp (disch := first | (intros; (repeat' split) <;> simp; done) | fail) [-List.foldl_cons, -List.foldl_nil]

@[simp] theorem State.remapRows_bytes (s : State) (bank rows : Nat) : (State.remapRows s bank rows).1.bytes = s.bytes := by
  simp only [State.remapRows]
  (repeat' split) <;> simp (disch := first | (intros; (repeat' split) <;> simp; done) | fail) [-List.foldl_cons, -List.foldl_nil]

@[simp] theorem State.memoryReports_bytes (s : State) (out : List (Nat × Nat)) : (State.memoryReports s out).bytes = s.bytes := by
  simp only [State.memoryReports]
  (repeat' split) <;> simp (disch := first | (intros; (repeat' split) <;> simp; done) | fail) [-List.foldl_cons, -List.foldl_nil]

@[simp] theorem execMemoryTestEnd_bytes (faults : List (Nat × Nat)) (s : State) : (s.run (execMemoryTestEnd faults)).bytes = s.bytes := by
  simp only [State.run, execMemoryTestEnd, State.when]
  (repeat' split) <;> simp (disch := first | (intros; (repeat' split) <;> simp; done) | fail) [-List.foldl_cons, -List.foldl_nil]

@[simp] theorem State.trainSeams_bytes (s : State) (up : Nat) : (State.trainSeams s up).bytes = s.bytes := by
  simp only [State.trainSeams]
  (repeat' split) <;> simp (disch := first | (intros; (repeat' split) <;> simp; done) | fail) [-List.foldl_cons, -List.foldl_nil]

@[simp] theorem State.applyMaps_bytes (s : State) (d : Nat) : (State.applyMaps s d).bytes = s.bytes := by
  simp only [State.applyMaps]
  (repeat' split) <;> simp (disch := first | (intros; (repeat' split) <;> simp; done) | fail) [-List.foldl_cons, -List.foldl_nil]

@[simp] theorem State.startRadio_bytes (s : State) : (State.startRadio s).bytes = s.bytes := by
  simp only [State.startRadio]
  (repeat' split) <;> simp (disch := first | (intros; (repeat' split) <;> simp; done) | fail) [-List.foldl_cons, -List.foldl_nil]

@[simp] theorem State.startTests_bytes (s : State) : (State.startTests s).bytes = s.bytes := by
  simp only [State.startTests]
  (repeat' split) <;> simp (disch := first | (intros; (repeat' split) <;> simp; done) | fail) [-List.foldl_cons, -List.foldl_nil]

@[simp] theorem State.dieDue_bytes (s : State) (d : Nat) : (State.dieDue s d).bytes = s.bytes := by
  simp only [State.dieDue]
  (repeat' split) <;> simp (disch := first | (intros; (repeat' split) <;> simp; done) | fail) [-List.foldl_cons, -List.foldl_nil]

end Sys2Proof.Machine
end

