-- ==== Sys2Proof/Laws/MemPleHost.lean ====
section
/-! SUPPORT. The operations of Machine/PleHost.lean leave the window memory alone. -/

namespace Sys2Proof.Machine

@[simp] theorem State.setPleValid_bytes (s : State) (n : Nat) (v : Bool) : (State.setPleValid s n v).bytes = s.bytes := by
  simp only [State.setPleValid]
  (repeat' split) <;> simp (disch := first | (intros; (repeat' split) <;> simp; done) | fail) [-List.foldl_cons, -List.foldl_nil]

@[simp] theorem State.putPleVar_bytes (s : State) (n : Nat) (w : Word) : (State.putPleVar s n w).bytes = s.bytes := by
  simp only [State.putPleVar]
  (repeat' split) <;> simp (disch := first | (intros; (repeat' split) <;> simp; done) | fail) [-List.foldl_cons, -List.foldl_nil]

@[simp] theorem State.setPleVar_bytes (s : State) (n : Nat) (w : Word) : (State.setPleVar s n w).bytes = s.bytes := by
  simp only [State.setPleVar]
  (repeat' split) <;> simp (disch := first | (intros; (repeat' split) <;> simp; done) | fail) [-List.foldl_cons, -List.foldl_nil]

@[simp] theorem State.hostPleVar_bytes (s : State) (n : Nat) (w : Word) : (State.hostPleVar s n w).bytes = s.bytes := by
  simp only [State.hostPleVar]
  (repeat' split) <;> simp (disch := first | (intros; (repeat' split) <;> simp; done) | fail) [-List.foldl_cons, -List.foldl_nil]

@[simp] theorem execPleStart_bytes (list : Nat) (s : State) : (s.run (execPleStart list)).bytes = s.bytes := by
  simp only [State.run, execPleStart, State.hostWrite]
  (repeat' split) <;> simp (disch := first | (intros; (repeat' split) <;> simp; done) | fail) [-List.foldl_cons, -List.foldl_nil]

@[simp] theorem execPleStop_bytes (list : Nat) (s : State) : (s.run (execPleStop list)).bytes = s.bytes := by
  simp only [State.run, execPleStop, State.hostWrite]
  (repeat' split) <;> simp (disch := first | (intros; (repeat' split) <;> simp; done) | fail) [-List.foldl_cons, -List.foldl_nil]

@[simp] theorem State.listWake_bytes (s : State) (n : Nat) : (State.listWake s n).bytes = s.bytes := by
  simp only [State.listWake]
  (repeat' split) <;> simp (disch := first | (intros; (repeat' split) <;> simp; done) | fail) [-List.foldl_cons, -List.foldl_nil]

@[simp] theorem execPlePeriodDue_bytes (list : Nat) (s : State) : (s.run (execPlePeriodDue list)).bytes = s.bytes := by
  simp only [State.run, execPlePeriodDue]
  (repeat' split) <;> simp (disch := first | (intros; (repeat' split) <;> simp; done) | fail) [-List.foldl_cons, -List.foldl_nil]

@[simp] theorem execPleWaitEnd_bytes (list : Nat) (s : State) : (s.run (execPleWaitEnd list)).bytes = s.bytes := by
  simp only [State.run, execPleWaitEnd]
  (repeat' split) <;> simp (disch := first | (intros; (repeat' split) <;> simp; done) | fail) [-List.foldl_cons, -List.foldl_nil]

@[simp] theorem execPleVariableWrite_bytes (n : Nat) (value : Word) (s : State) : (s.run (execPleVariableWrite n value)).bytes = s.bytes := by
  simp only [State.run, execPleVariableWrite, State.hostWrite, State.when]
  (repeat' split) <;> simp (disch := first | (intros; (repeat' split) <;> simp; done) | fail) [-List.foldl_cons, -List.foldl_nil]

@[simp] theorem execPleVvalidClear_bytes (hi : Bool) (value : Word) (s : State) : (s.run (execPleVvalidClear hi value)).bytes = s.bytes := by
  simp only [State.run, execPleVvalidClear, State.hostWrite]
  (repeat' split) <;> simp (disch := first | (intros; (repeat' split) <;> simp; done) | fail) [-List.foldl_cons, -List.foldl_nil]

@[simp] theorem execPleRaiseClear_bytes (value : Word) (s : State) : (s.run (execPleRaiseClear value)).bytes = s.bytes := by
  simp only [State.run, execPleRaiseClear, State.hostWrite]
  (repeat' split) <;> simp (disch := first | (intros; (repeat' split) <;> simp; done) | fail) [-List.foldl_cons, -List.foldl_nil]

end Sys2Proof.Machine
end

