-- ==== Sys2Proof/Laws/MemBus.lean ====
section
/-! SUPPORT. The operations of Machine/Bus.lean leave the window memory alone. -/

namespace Sys2Proof.Machine

@[simp] theorem State.regPut_bytes (s : State) (die page off : Nat) (w : Word) : (State.regPut s die page off w).bytes = s.bytes := by
  simp only [State.regPut]
  (repeat' split) <;> simp (disch := first | (intros; (repeat' split) <;> simp; done) | fail) [-List.foldl_cons, -List.foldl_nil]

@[simp] theorem State.bstReq_bytes (s : State) (w : Word) : (State.bstReq s w).bytes = s.bytes := by
  simp only [State.bstReq]
  (repeat' split) <;> simp (disch := first | (intros; (repeat' split) <;> simp; done) | fail) [-List.foldl_cons, -List.foldl_nil]

@[simp] theorem State.calReq_bytes (s : State) (w : Word) : (State.calReq s w).bytes = s.bytes := by
  simp only [State.calReq]
  (repeat' split) <;> simp (disch := first | (intros; (repeat' split) <;> simp; done) | fail) [-List.foldl_cons, -List.foldl_nil]

@[simp] theorem State.sleepCmd_bytes (s : State) (w : Word) : (State.sleepCmd s w).bytes = s.bytes := by
  simp only [State.sleepCmd]
  (repeat' split) <;> simp (disch := first | (intros; (repeat' split) <;> simp; done) | fail) [-List.foldl_cons, -List.foldl_nil]

@[simp] theorem State.keyCmd_bytes (s : State) (w : Word) : (State.keyCmd s w).bytes = s.bytes := by
  simp only [State.keyCmd]
  (repeat' split) <;> simp (disch := first | (intros; (repeat' split) <;> simp; done) | fail) [-List.foldl_cons, -List.foldl_nil]

@[simp] theorem State.nvsCmd_bytes (s : State) (w : Word) : (State.nvsCmd s w).bytes = s.bytes := by
  simp only [State.nvsCmd]
  (repeat' split) <;> simp (disch := first | (intros; (repeat' split) <;> simp; done) | fail) [-List.foldl_cons, -List.foldl_nil]

@[simp] theorem State.swapCmd_bytes (s : State) (w : Word) : (State.swapCmd s w).bytes = s.bytes := by
  simp only [State.swapCmd]
  (repeat' split) <;> simp (disch := first | (intros; (repeat' split) <;> simp; done) | fail) [-List.foldl_cons, -List.foldl_nil]

@[simp] theorem State.rejoinCmd_bytes (s : State) (w : Word) : (State.rejoinCmd s w).bytes = s.bytes := by
  simp only [State.rejoinCmd]
  (repeat' split) <;> simp (disch := first | (intros; (repeat' split) <;> simp; done) | fail) [-List.foldl_cons, -List.foldl_nil]

@[simp] theorem State.dieCmd_bytes (s : State) (die page off : Nat) (w : Word) : (State.dieCmd s die page off w).bytes = s.bytes := by
  simp only [State.dieCmd]
  (repeat' split) <;> simp (disch := first | (intros; (repeat' split) <;> simp; done) | fail) [-List.foldl_cons, -List.foldl_nil]

@[simp] theorem State.takeHolds_bytes (s : State) (port page off : Nat) : (State.takeHolds s port page off).bytes = s.bytes := by
  simp only [State.takeHolds]
  (repeat' split) <;> simp (disch := first | (intros; (repeat' split) <;> simp; done) | fail) [-List.foldl_cons, -List.foldl_nil]

@[simp] theorem State.regRead_bytes (s : State) (port die page off : Nat) (fetch : Bool) : (State.regRead s port die page off fetch).1.bytes = s.bytes := by
  simp only [State.regRead]
  (repeat' split) <;> simp (disch := first | (intros; (repeat' split) <;> simp; done) | fail) [-List.foldl_cons, -List.foldl_nil]

@[simp] theorem State.busRead_bytes (s : State) (port a : Nat) (fetch : Bool) : (State.busRead s port a fetch).1.bytes = s.bytes := by
  simp only [State.busRead]
  (repeat' split) <;> simp (disch := first | (intros; (repeat' split) <;> simp; done) | fail) [-List.foldl_cons, -List.foldl_nil]

end Sys2Proof.Machine
end

