-- ==== Sys2Proof/Laws/MemPle.lean ====
section
/-! SUPPORT. The operations of Machine/Ple.lean leave the window memory alone. -/

namespace Sys2Proof.Machine

@[simp] theorem State.pleStep_bytes (s : State) (n op : Nat) (room : Bool) (f : State → PleRun → Word → Word → State)
    (hf : ∀ s r w v, (f s r w v).bytes = s.bytes) : (s.pleStep n op room f).bytes = s.bytes := by
  simp only [State.pleStep]
  repeat' split
  all_goals simp [hf]

@[simp] theorem State.pleFault_bytes (s : State) (n code : Nat) : (State.pleFault s n code).bytes = s.bytes := by
  simp only [State.pleFault]
  (repeat' split) <;> simp (disch := first | (intros; (repeat' split) <;> simp; done) | fail) [-List.foldl_cons, -List.foldl_nil]

@[simp] theorem State.pleDone_bytes (s : State) (n : Nat) (r : PleRun) : (State.pleDone s n r).bytes = s.bytes := by
  simp only [State.pleDone]
  (repeat' split) <;> simp (disch := first | (intros; (repeat' split) <;> simp; done) | fail) [-List.foldl_cons, -List.foldl_nil]

@[simp] theorem State.pleSetA_bytes (s : State) (r : PleRun) (a : Nat) (w : Word) : (State.pleSetA s r a w).1.bytes = s.bytes := by
  simp only [State.pleSetA]
  (repeat' split) <;> simp (disch := first | (intros; (repeat' split) <;> simp; done) | fail) [-List.foldl_cons, -List.foldl_nil]

@[simp] theorem State.pleAlu_bytes (s : State) (n op : Nat) (f : State → PleRun → Word → Word → State × PleRun)
    (hf : ∀ s r w v, (f s r w v).1.bytes = s.bytes) : (s.pleAlu n op f).bytes = s.bytes := by
  simp [State.pleAlu, hf]

@[simp] theorem State.pleArith_bytes (s : State) (n op : Nat) (f : State → Word → Word → Int) :
    (s.pleArith n op f).bytes = s.bytes := by simp [State.pleArith]

@[simp] theorem execPleEnd_bytes (list : Nat) (s : State) : (s.run (execPleEnd list)).bytes = s.bytes := by
  simp only [State.run, execPleEnd]
  (repeat' split) <;> simp (disch := first | (intros; (repeat' split) <;> simp; done) | fail) [-List.foldl_cons, -List.foldl_nil]

@[simp] theorem execPleWait_bytes (list : Nat) (s : State) : (s.run (execPleWait list)).bytes = s.bytes := by
  simp only [State.run, execPleWait]
  (repeat' split) <;> simp (disch := first | (intros; (repeat' split) <;> simp; done) | fail) [-List.foldl_cons, -List.foldl_nil]

@[simp] theorem execPleMovi_bytes (list : Nat) (s : State) : (s.run (execPleMovi list)).bytes = s.bytes := by
  simp only [State.run, execPleMovi]
  (repeat' split) <;> simp (disch := first | (intros; (repeat' split) <;> simp; done) | fail) [-List.foldl_cons, -List.foldl_nil]

@[simp] theorem execPleMovw_bytes (list : Nat) (s : State) : (s.run (execPleMovw list)).bytes = s.bytes := by
  simp only [State.run, execPleMovw]
  (repeat' split) <;> simp (disch := first | (intros; (repeat' split) <;> simp; done) | fail) [-List.foldl_cons, -List.foldl_nil]

@[simp] theorem execPleLoad_bytes (list : Nat) (s : State) : (s.run (execPleLoad list)).bytes = s.bytes := by
  simp only [State.run, execPleLoad]
  (repeat' split) <;> simp (disch := first | (intros; (repeat' split) <;> simp; done) | fail) [-List.foldl_cons, -List.foldl_nil]

@[simp] theorem execPleAdd_bytes (list : Nat) (s : State) : (s.run (execPleAdd list)).bytes = s.bytes := by
  simp only [State.run, execPleAdd]
  (repeat' split) <;> simp (disch := first | (intros; (repeat' split) <;> simp; done) | fail) [-List.foldl_cons, -List.foldl_nil]

@[simp] theorem execPleSub_bytes (list : Nat) (s : State) : (s.run (execPleSub list)).bytes = s.bytes := by
  simp only [State.run, execPleSub]
  (repeat' split) <;> simp (disch := first | (intros; (repeat' split) <;> simp; done) | fail) [-List.foldl_cons, -List.foldl_nil]

@[simp] theorem execPleScale_bytes (list : Nat) (s : State) : (s.run (execPleScale list)).bytes = s.bytes := by
  simp only [State.run, execPleScale]
  (repeat' split) <;> simp (disch := first | (intros; (repeat' split) <;> simp; done) | fail) [-List.foldl_cons, -List.foldl_nil]

@[simp] theorem execPleExt_bytes (list : Nat) (s : State) : (s.run (execPleExt list)).bytes = s.bytes := by
  simp only [State.run, execPleExt]
  (repeat' split) <;> simp (disch := first | (intros; (repeat' split) <;> simp; done) | fail) [-List.foldl_cons, -List.foldl_nil]

@[simp] theorem execPleIir_bytes (list : Nat) (s : State) : (s.run (execPleIir list)).bytes = s.bytes := by
  simp only [State.run, execPleIir]
  (repeat' split) <;> simp (disch := first | (intros; (repeat' split) <;> simp; done) | fail) [-List.foldl_cons, -List.foldl_nil]

@[simp] theorem execPleMedian5_bytes (list : Nat) (s : State) : (s.run (execPleMedian5 list)).bytes = s.bytes := by
  simp only [State.run, execPleMedian5]
  (repeat' split) <;> simp (disch := first | (intros; (repeat' split) <;> simp; done) | fail) [-List.foldl_cons, -List.foldl_nil]

@[simp] theorem execPleMean_bytes (list : Nat) (s : State) : (s.run (execPleMean list)).bytes = s.bytes := by
  simp only [State.run, execPleMean]
  (repeat' split) <;> simp (disch := first | (intros; (repeat' split) <;> simp; done) | fail) [-List.foldl_cons, -List.foldl_nil]

@[simp] theorem execPleCmph_bytes (list : Nat) (s : State) : (s.run (execPleCmph list)).bytes = s.bytes := by
  simp only [State.run, execPleCmph]
  (repeat' split) <;> simp (disch := first | (intros; (repeat' split) <;> simp; done) | fail) [-List.foldl_cons, -List.foldl_nil]

@[simp] theorem execPleWindow_bytes (list : Nat) (s : State) : (s.run (execPleWindow list)).bytes = s.bytes := by
  simp only [State.run, execPleWindow]
  (repeat' split) <;> simp (disch := first | (intros; (repeat' split) <;> simp; done) | fail) [-List.foldl_cons, -List.foldl_nil]

@[simp] theorem execPleTime_bytes (list : Nat) (s : State) : (s.run (execPleTime list)).bytes = s.bytes := by
  simp only [State.run, execPleTime]
  (repeat' split) <;> simp (disch := first | (intros; (repeat' split) <;> simp; done) | fail) [-List.foldl_cons, -List.foldl_nil]

@[simp] theorem execPleBranch_bytes (list : Nat) (s : State) : (s.run (execPleBranch list)).bytes = s.bytes := by
  simp only [State.run, execPleBranch]
  (repeat' split) <;> simp (disch := first | (intros; (repeat' split) <;> simp; done) | fail) [-List.foldl_cons, -List.foldl_nil]

@[simp] theorem execPleEmit_bytes (list : Nat) (s : State) : (s.run (execPleEmit list)).bytes = s.bytes := by
  simp only [State.run, execPleEmit]
  (repeat' split) <;> simp (disch := first | (intros; (repeat' split) <;> simp; done) | fail) [-List.foldl_cons, -List.foldl_nil]

@[simp] theorem execPleEmitCredit_bytes (list : Nat) (s : State) : (s.run (execPleEmitCredit list)).bytes = s.bytes := by
  simp only [State.run, execPleEmitCredit]
  (repeat' split) <;> simp (disch := first | (intros; (repeat' split) <;> simp; done) | fail) [-List.foldl_cons, -List.foldl_nil]

@[simp] theorem execPleRaise_bytes (list : Nat) (s : State) : (s.run (execPleRaise list)).bytes = s.bytes := by
  simp only [State.run, execPleRaise]
  (repeat' split) <;> simp (disch := first | (intros; (repeat' split) <;> simp; done) | fail) [-List.foldl_cons, -List.foldl_nil]

@[simp] theorem execPleTrig_bytes (list : Nat) (s : State) : (s.run (execPleTrig list)).bytes = s.bytes := by
  simp only [State.run, execPleTrig]
  (repeat' split) <;> simp (disch := first | (intros; (repeat' split) <;> simp; done) | fail) [-List.foldl_cons, -List.foldl_nil]

@[simp] theorem State.pleAwait_bytes (s : State) (n : Nat) (r : PleRun) (x : PleWait) : (State.pleAwait s n r x).bytes = s.bytes := by
  simp only [State.pleAwait]
  (repeat' split) <;> simp (disch := first | (intros; (repeat' split) <;> simp; done) | fail) [-List.foldl_cons, -List.foldl_nil]

@[simp] theorem execPleSpi_bytes (list : Nat) (s : State) : (s.run (execPleSpi list)).bytes = s.bytes := by
  simp only [State.run, execPleSpi]
  (repeat' split) <;> simp (disch := first | (intros; (repeat' split) <;> simp; done) | fail) [-List.foldl_cons, -List.foldl_nil]

@[simp] theorem State.storeVars_bytes (s : State) (b : Nat) (ws : List Word) : (State.storeVars s b ws).bytes = s.bytes := by
  simp only [State.storeVars]
  (repeat' split) <;> simp (disch := first | (intros; (repeat' split) <;> simp; done) | fail) [-List.foldl_cons, -List.foldl_nil]

@[simp] theorem execPleSpiDone_bytes (list : Nat) (s : State) : (s.run (execPleSpiDone list)).bytes = s.bytes := by
  simp only [State.run, execPleSpiDone]
  (repeat' split) <;> simp (disch := first | (intros; (repeat' split) <;> simp; done) | fail) [-List.foldl_cons, -List.foldl_nil]

@[simp] theorem State.listenEnd_bytes (s : State) (n : Nat) (r : PleRun) (w : Word) : (State.listenEnd s n r w).bytes = s.bytes := by
  simp only [State.listenEnd]
  (repeat' split) <;> simp (disch := first | (intros; (repeat' split) <;> simp; done) | fail) [-List.foldl_cons, -List.foldl_nil]

@[simp] theorem execPleListen_bytes (list : Nat) (s : State) : (s.run (execPleListen list)).bytes = s.bytes := by
  simp only [State.run, execPleListen]
  (repeat' split) <;> simp (disch := first | (intros; (repeat' split) <;> simp; done) | fail) [-List.foldl_cons, -List.foldl_nil]

@[simp] theorem execPleListenDone_bytes (list : Nat) (s : State) : (s.run (execPleListenDone list)).bytes = s.bytes := by
  simp only [State.run, execPleListenDone]
  (repeat' split) <;> simp (disch := first | (intros; (repeat' split) <;> simp; done) | fail) [-List.foldl_cons, -List.foldl_nil]

@[simp] theorem execPleAdc_bytes (list : Nat) (s : State) : (s.run (execPleAdc list)).bytes = s.bytes := by
  simp only [State.run, execPleAdc]
  (repeat' split) <;> simp (disch := first | (intros; (repeat' split) <;> simp; done) | fail) [-List.foldl_cons, -List.foldl_nil]

@[simp] theorem execPleAdcDone_bytes (list : Nat) (volts : List Int) (s : State) : (s.run (execPleAdcDone list volts)).bytes = s.bytes := by
  simp only [State.run, execPleAdcDone]
  (repeat' split) <;> simp (disch := first | (intros; (repeat' split) <;> simp; done) | fail) [-List.foldl_cons, -List.foldl_nil]

@[simp] theorem State.tagRefused_bytes (s : State) (n : Nat) (r : PleRun) (w : Word) : (State.tagRefused s n r w).bytes = s.bytes := by
  simp only [State.tagRefused]
  (repeat' split) <;> simp (disch := first | (intros; (repeat' split) <;> simp; done) | fail) [-List.foldl_cons, -List.foldl_nil]

@[simp] theorem execPleTag_bytes (list : Nat) (s : State) : (s.run (execPleTag list)).bytes = s.bytes := by
  simp only [State.run, execPleTag]
  (repeat' split) <;> simp (disch := first | (intros; (repeat' split) <;> simp; done) | fail) [-List.foldl_cons, -List.foldl_nil]

@[simp] theorem execPleTagDone_bytes (list : Nat) (s : State) : (s.run (execPleTagDone list)).bytes = s.bytes := by
  simp only [State.run, execPleTagDone]
  (repeat' split) <;> simp (disch := first | (intros; (repeat' split) <;> simp; done) | fail) [-List.foldl_cons, -List.foldl_nil]

@[simp] theorem State.radioRefused_bytes (s : State) (n : Nat) (r : PleRun) (w : Word) : (State.radioRefused s n r w).bytes = s.bytes := by
  simp only [State.radioRefused]
  (repeat' split) <;> simp (disch := first | (intros; (repeat' split) <;> simp; done) | fail) [-List.foldl_cons, -List.foldl_nil]

@[simp] theorem execPleRadio_bytes (list : Nat) (s : State) : (s.run (execPleRadio list)).bytes = s.bytes := by
  simp only [State.run, execPleRadio]
  (repeat' split) <;> simp (disch := first | (intros; (repeat' split) <;> simp; done) | fail) [-List.foldl_cons, -List.foldl_nil]

@[simp] theorem execPleRadioDone_bytes (list : Nat) (s : State) : (s.run (execPleRadioDone list)).bytes = s.bytes := by
  simp only [State.run, execPleRadioDone]
  (repeat' split) <;> simp (disch := first | (intros; (repeat' split) <;> simp; done) | fail) [-List.foldl_cons, -List.foldl_nil]

end Sys2Proof.Machine
end

