-- ==== Sys2Proof/Laws/MemHostSerial.lean ====
section
/-! SUPPORT. The operations of Machine/HostSerial.lean leave the window memory alone. -/

namespace Sys2Proof.Machine

@[simp] theorem State.shiftOut_bytes (s : State) (l : List Bool) : (State.shiftOut s l).bytes = s.bytes := by
  simp only [State.shiftOut]
  (repeat' split) <;> simp (disch := first | (intros; (repeat' split) <;> simp; done) | fail) [-List.foldl_cons, -List.foldl_nil]

@[simp] theorem State.frameEnd_bytes (s : State) (code : Nat) : (State.frameEnd s code).bytes = s.bytes := by
  simp only [State.frameEnd]
  (repeat' split) <;> simp (disch := first | (intros; (repeat' split) <;> simp; done) | fail) [-List.foldl_cons, -List.foldl_nil]

@[simp] theorem State.frameLeft_bytes (s : State) : (State.frameLeft s).bytes = s.bytes := by
  simp only [State.frameLeft]
  (repeat' split) <;> simp (disch := first | (intros; (repeat' split) <;> simp; done) | fail) [-List.foldl_cons, -List.foldl_nil]

@[simp] theorem State.frameBegin_bytes (s : State) : (State.frameBegin s).bytes = s.bytes := by
  simp only [State.frameBegin]
  (repeat' split) <;> simp (disch := first | (intros; (repeat' split) <;> simp; done) | fail) [-List.foldl_cons, -List.foldl_nil]

@[simp] theorem State.frameShift_bytes (s : State) (mode3 : Bool) (clocks : Nat) : (State.frameShift s mode3 clocks).bytes = s.bytes := by
  simp only [State.frameShift]
  (repeat' split) <;> simp (disch := first | (intros; (repeat' split) <;> simp; done) | fail) [-List.foldl_cons, -List.foldl_nil]

@[simp] theorem State.statusClocks_bytes (s : State) (n : Nat) : (State.statusClocks s n).bytes = s.bytes := by
  simp only [State.statusClocks]
  (repeat' split) <;> simp (disch := first | (intros; (repeat' split) <;> simp; done) | fail) [-List.foldl_cons, -List.foldl_nil]

@[simp] theorem State.statusOut_bytes (s : State) (n : Nat) (more : Bool) : (State.statusOut s n more).bytes = s.bytes := by
  simp only [State.statusOut]
  (repeat' split) <;> simp (disch := first | (intros; (repeat' split) <;> simp; done) | fail) [-List.foldl_cons, -List.foldl_nil]

@[simp] theorem execStatus_bytes (mode3 : Bool) (clocks : Nat) (more : Bool) (s : State) : (s.run (execStatus mode3 clocks more)).bytes = s.bytes := by
  simp only [State.run, execStatus]
  (repeat' split) <;> simp (disch := first | (intros; (repeat' split) <;> simp; done) | fail) [-List.foldl_cons, -List.foldl_nil]

@[simp] theorem execWake_bytes (mode3 : Bool) (clocks : Nat) (s : State) : (s.run (execWake mode3 clocks)).bytes = s.bytes := by
  simp only [State.run, execWake, State.hspFrame]
  (repeat' split) <;> simp (disch := first | (intros; (repeat' split) <;> simp; done) | fail) [-List.foldl_cons, -List.foldl_nil]

@[simp] theorem execHselWake_bytes (s : State) : (s.run execHselWake).bytes = s.bytes := by
  simp only [State.run, execHselWake]
  (repeat' split) <;> simp (disch := first | (intros; (repeat' split) <;> simp; done) | fail) [-List.foldl_cons, -List.foldl_nil]

@[simp] theorem execUnknownCmd_bytes (cmd : Nat) (mode3 : Bool) (clocks : Nat) (s : State) : (s.run (execUnknownCmd cmd mode3 clocks)).bytes = s.bytes := by
  simp only [State.run, execUnknownCmd, State.hspFrame, State.when]
  (repeat' split) <;> simp (disch := first | (intros; (repeat' split) <;> simp; done) | fail) [-List.foldl_cons, -List.foldl_nil]

@[simp] theorem State.readWords_bytes : ∀ (n : Nat) (s : State) (a i clocked : Nat),
    (s.readWords a i clocked n).1.bytes = s.bytes
  | 0, s, a, i, clocked => by simp [State.readWords]
  | n + 1, s, a, i, clocked => by simp [State.readWords, State.readWords_bytes n]

@[simp] theorem State.readData_bytes (s : State) (addr clocks ahead : Nat) : (State.readData s addr clocks ahead).bytes = s.bytes := by
  simp only [State.readData]
  (repeat' split) <;> simp (disch := first | (intros; (repeat' split) <;> simp; done) | fail) [-List.foldl_cons, -List.foldl_nil]

@[simp] theorem State.consumeWord_bytes (s : State) (p : HostPort) (c : Nat) : (State.consumeWord s p c).bytes = s.bytes := by
  simp only [State.consumeWord]
  (repeat' split) <;> simp (disch := first | (intros; (repeat' split) <;> simp; done) | fail) [-List.foldl_cons, -List.foldl_nil]

@[simp] theorem State.consumeWords_bytes (p : HostPort) : ∀ (l : List Nat) (s : State),
    (s.consumeWords p l).1.bytes = s.bytes
  | [], s => by simp [State.consumeWords]
  | c :: l, s => by simp [State.consumeWords, State.consumeWords_bytes p l]

@[simp] theorem State.creditsBack_bytes (s : State) : (State.creditsBack s).bytes = s.bytes := by
  simp only [State.creditsBack]
  (repeat' split) <;> simp (disch := first | (intros; (repeat' split) <;> simp; done) | fail) [-List.foldl_cons, -List.foldl_nil]

@[simp] theorem State.hamperData_bytes (s : State) (mask clocks : Nat) : (State.hamperData s mask clocks).bytes = s.bytes := by
  simp only [State.hamperData]
  (repeat' split) <;> simp (disch := first | (intros; (repeat' split) <;> simp; done) | fail) [-List.foldl_cons, -List.foldl_nil]

@[simp] theorem State.dummyUsed_bytes (s : State) (d : Nat) (raised : Bool) : (State.dummyUsed s d raised).bytes = s.bytes := by
  simp only [State.dummyUsed]
  (repeat' split) <;> simp (disch := first | (intros; (repeat' split) <;> simp; done) | fail) [-List.foldl_cons, -List.foldl_nil]

@[simp] theorem execRead_bytes (addr : Nat) (mode3 fast : Bool) (clocks : Nat) (ready : Option Nat) (ahead : Nat) (s : State) : (s.run (execRead addr mode3 fast clocks ready ahead)).bytes = s.bytes := by
  simp only [State.run, execRead, State.hspFrame, State.tokenFrame]
  (repeat' split) <;> simp (disch := first | (intros; (repeat' split) <;> simp; done) | fail) [-List.foldl_cons, -List.foldl_nil]

@[simp] theorem execHamperRead_bytes (mask : Nat) (mode3 fast : Bool) (clocks : Nat) (ready : Option Nat) (s : State) : (s.run (execHamperRead mask mode3 fast clocks ready)).bytes = s.bytes := by
  simp only [State.run, execHamperRead, State.hspFrame, State.tokenFrame]
  (repeat' split) <;> simp (disch := first | (intros; (repeat' split) <;> simp; done) | fail) [-List.foldl_cons, -List.foldl_nil]

@[simp] theorem State.token_bytes (s : State) (v : Nat) : (State.token s v).bytes = s.bytes := by
  simp only [State.token]
  (repeat' split) <;> simp (disch := first | (intros; (repeat' split) <;> simp; done) | fail) [-List.foldl_cons, -List.foldl_nil]

@[simp] theorem execTokenReady_bytes (clocks ahead : Nat) (s : State) : (s.run (execTokenReady clocks ahead)).bytes = s.bytes := by
  simp only [State.run, execTokenReady]
  (repeat' split) <;> simp (disch := first | (intros; (repeat' split) <;> simp; done) | fail) [-List.foldl_cons, -List.foldl_nil]

@[simp] theorem execReadTimeout_bytes (clocks : Nat) (s : State) : (s.run (execReadTimeout clocks)).bytes = s.bytes := by
  simp only [State.run, execReadTimeout, State.when]
  (repeat' split) <;> simp (disch := first | (intros; (repeat' split) <;> simp; done) | fail) [-List.foldl_cons, -List.foldl_nil]

@[simp] theorem State.partialWord_bytes (s : State) : (State.partialWord s).bytes = s.bytes := by
  simp only [State.partialWord]
  (repeat' split) <;> simp (disch := first | (intros; (repeat' split) <;> simp; done) | fail) [-List.foldl_cons, -List.foldl_nil]

@[simp] theorem State.requestCommit_bytes (s : State) (addr : Nat) : (State.requestCommit s addr).bytes = s.bytes := by
  simp only [State.requestCommit]
  (repeat' split) <;> simp (disch := first | (intros; (repeat' split) <;> simp; done) | fail) [-List.foldl_cons, -List.foldl_nil]

@[simp] theorem execProfileLoad_bytes (addr : Nat) (mode3 : Bool) (clocks : Nat) (s : State) : (s.run (execProfileLoad addr mode3 clocks)).bytes = s.bytes := by
  simp only [State.run, execProfileLoad, State.hspFrame]
  (repeat' split) <;> simp (disch := first | (intros; (repeat' split) <;> simp; done) | fail) [-List.foldl_cons, -List.foldl_nil]

end Sys2Proof.Machine
end

