-- ==== Sys2Proof/Laws/MemHostTwoWire.lean ====
section
/-! SUPPORT. The operations of Machine/HostTwoWire.lean leave the window memory alone. -/

namespace Sys2Proof.Machine

@[simp] theorem State.setHtw_bytes (s : State) (h : Htw) : (State.setHtw s h).bytes = s.bytes := by
  simp only [State.setHtw]
  (repeat' split) <;> simp (disch := first | (intros; (repeat' split) <;> simp; done) | fail) [-List.foldl_cons, -List.foldl_nil]

@[simp] theorem State.twCode_bytes (s : State) (code : Nat) : (State.twCode s code).bytes = s.bytes := by
  simp only [State.twCode]
  (repeat' split) <;> simp (disch := first | (intros; (repeat' split) <;> simp; done) | fail) [-List.foldl_cons, -List.foldl_nil]

@[simp] theorem State.twPartial_bytes (s : State) : (State.twPartial s).bytes = s.bytes := by
  simp only [State.twPartial]
  (repeat' split) <;> simp (disch := first | (intros; (repeat' split) <;> simp; done) | fail) [-List.foldl_cons, -List.foldl_nil]

@[simp] theorem State.twDrop_bytes (s : State) : (State.twDrop s).bytes = s.bytes := by
  simp only [State.twDrop]
  (repeat' split) <;> simp (disch := first | (intros; (repeat' split) <;> simp; done) | fail) [-List.foldl_cons, -List.foldl_nil]

@[simp] theorem State.twEnd_bytes (s : State) : (State.twEnd s).bytes = s.bytes := by
  simp only [State.twEnd]
  (repeat' split) <;> simp (disch := first | (intros; (repeat' split) <;> simp; done) | fail) [-List.foldl_cons, -List.foldl_nil]

@[simp] theorem State.twStart_bytes (s : State) (addr : Nat) (read : Bool) : (State.twStart s addr read).1.bytes = s.bytes := by
  simp only [State.twStart]
  (repeat' split) <;> simp (disch := first | (intros; (repeat' split) <;> simp; done) | fail) [-List.foldl_cons, -List.foldl_nil]

@[simp] theorem State.twStop_bytes (s : State) (stop : Bool) : (State.twStop s stop).bytes = s.bytes := by
  simp only [State.twStop]
  (repeat' split) <;> simp (disch := first | (intros; (repeat' split) <;> simp; done) | fail) [-List.foldl_cons, -List.foldl_nil]

@[simp] theorem State.twNext_bytes (s : State) (read : Bool) : (State.twNext s read).bytes = s.bytes := by
  simp only [State.twNext]
  (repeat' split) <;> simp (disch := first | (intros; (repeat' split) <;> simp; done) | fail) [-List.foldl_cons, -List.foldl_nil]

@[simp] theorem State.twGetWord_bytes (s : State) (a : Nat) : (State.twGetWord s a).bytes = s.bytes := by
  simp only [State.twGetWord]
  (repeat' split) <;> simp (disch := first | (intros; (repeat' split) <;> simp; done) | fail) [-List.foldl_cons, -List.foldl_nil]

@[simp] theorem State.winApply_bytes (s : State) (v : Nat) : (State.winApply s v).bytes = s.bytes := by
  simp only [State.winApply]
  (repeat' split) <;> simp (disch := first | (intros; (repeat' split) <;> simp; done) | fail) [-List.foldl_cons, -List.foldl_nil]

@[simp] theorem State.twControlByte_bytes (s : State) (p : Nat) (b : Byte) : (State.twControlByte s p b).bytes = s.bytes := by
  simp only [State.twControlByte]
  (repeat' split) <;> simp (disch := first | (intros; (repeat' split) <;> simp; done) | fail) [-List.foldl_cons, -List.foldl_nil]

@[simp] theorem State.grant2_bytes (s : State) : (State.grant2 s).1.bytes = s.bytes := by
  simp only [State.grant2]
  (repeat' split) <;> simp (disch := first | (intros; (repeat' split) <;> simp; done) | fail) [-List.foldl_cons, -List.foldl_nil]

@[simp] theorem State.streamByte_bytes (s : State) : (State.streamByte s).1.bytes = s.bytes := by
  simp only [State.streamByte]
  (repeat' split) <;> simp (disch := first | (intros; (repeat' split) <;> simp; done) | fail) [-List.foldl_cons, -List.foldl_nil]

@[simp] theorem State.twControlRead_bytes (s : State) (p : Nat) : (State.twControlRead s p).1.bytes = s.bytes := by
  simp only [State.twControlRead]
  (repeat' split) <;> simp (disch := first | (intros; (repeat' split) <;> simp; done) | fail) [-List.foldl_cons, -List.foldl_nil]

@[simp] theorem State.twWindowRead_bytes (s : State) (p : Nat) : (State.twWindowRead s p).1.bytes = s.bytes := by
  simp only [State.twWindowRead]
  (repeat' split) <;> simp (disch := first | (intros; (repeat' split) <;> simp; done) | fail) [-List.foldl_cons, -List.foldl_nil]

@[simp] theorem State.twGet_bytes (s : State) : (State.twGet s).bytes = s.bytes := by
  simp only [State.twGet]
  (repeat' split) <;> simp (disch := first | (intros; (repeat' split) <;> simp; done) | fail) [-List.foldl_cons, -List.foldl_nil]

@[simp] theorem State.twGetAll_bytes : ∀ (n : Nat) (s : State), (s.twGetAll n).bytes = s.bytes
  | 0, s => by simp [State.twGetAll]
  | n + 1, s => by simp [State.twGetAll, State.twGetAll_bytes n]

@[simp] theorem State.twHold_bytes (s : State) (stretch : Bool) : (State.twHold s stretch).bytes = s.bytes := by
  simp only [State.twHold]
  (repeat' split) <;> simp (disch := first | (intros; (repeat' split) <;> simp; done) | fail) [-List.foldl_cons, -List.foldl_nil]

@[simp] theorem execTwReadTransfer_bytes (start : Option Nat) (count : Nat) (stretch stop : Bool) (s : State) : (s.run (execTwReadTransfer start count stretch stop)).bytes = s.bytes := by
  simp only [State.run, execTwReadTransfer, State.when]
  (repeat' split) <;> simp (disch := first | (intros; (repeat' split) <;> simp; done) | fail) [-List.foldl_cons, -List.foldl_nil]

@[simp] theorem execGrant2Read_bytes (stop : Bool) (s : State) : (s.run (execGrant2Read stop)).bytes = s.bytes := by
  simp only [State.run, execGrant2Read, State.when]
  (repeat' split) <;> simp (disch := first | (intros; (repeat' split) <;> simp; done) | fail) [-List.foldl_cons, -List.foldl_nil]

@[simp] theorem execStreamRead_bytes (stop : Bool) (s : State) : (s.run (execStreamRead stop)).bytes = s.bytes := by
  simp only [State.run, execStreamRead, State.when]
  (repeat' split) <;> simp (disch := first | (intros; (repeat' split) <;> simp; done) | fail) [-List.foldl_cons, -List.foldl_nil]

@[simp] theorem execQuickCommand_bytes (addr : Nat) (read : Bool) (s : State) : (s.run (execQuickCommand addr read)).bytes = s.bytes := by
  simp only [State.run, execQuickCommand, State.when]
  (repeat' split) <;> simp (disch := first | (intros; (repeat' split) <;> simp; done) | fail) [-List.foldl_cons, -List.foldl_nil]

@[simp] theorem execTwStretchTimeout_bytes (s : State) : (s.run execTwStretchTimeout).bytes = s.bytes := by
  simp only [State.run, execTwStretchTimeout]
  (repeat' split) <;> simp (disch := first | (intros; (repeat' split) <;> simp; done) | fail) [-List.foldl_cons, -List.foldl_nil]

@[simp] theorem State.twAbort_bytes (s : State) (code : Nat) : (State.twAbort s code).bytes = s.bytes := by
  simp only [State.twAbort]
  (repeat' split) <;> simp (disch := first | (intros; (repeat' split) <;> simp; done) | fail) [-List.foldl_cons, -List.foldl_nil]

@[simp] theorem execBusProto_bytes (start : Bool) (s : State) : (s.run (execBusProto start)).bytes = s.bytes := by
  simp only [State.run, execBusProto, State.when]
  (repeat' split) <;> simp (disch := first | (intros; (repeat' split) <;> simp; done) | fail) [-List.foldl_cons, -List.foldl_nil]

@[simp] theorem State.attnOver_bytes (s : State) : (State.attnOver s).bytes = s.bytes := by
  simp only [State.attnOver]
  (repeat' split) <;> simp (disch := first | (intros; (repeat' split) <;> simp; done) | fail) [-List.foldl_cons, -List.foldl_nil]

@[simp] theorem State.attnDrop_bytes (s : State) : (State.attnDrop s).bytes = s.bytes := by
  simp only [State.attnDrop]
  (repeat' split) <;> simp (disch := first | (intros; (repeat' split) <;> simp; done) | fail) [-List.foldl_cons, -List.foldl_nil]

@[simp] theorem State.attnReject_bytes (s : State) (code : Nat) : (State.attnReject s code).bytes = s.bytes := by
  simp only [State.attnReject]
  (repeat' split) <;> simp (disch := first | (intros; (repeat' split) <;> simp; done) | fail) [-List.foldl_cons, -List.foldl_nil]

@[simp] theorem State.lowTimeout_bytes (s : State) (flag : Fld) (evt code : Nat) : (State.lowTimeout s flag evt code).bytes = s.bytes := by
  simp only [State.lowTimeout]
  (repeat' split) <;> simp (disch := first | (intros; (repeat' split) <;> simp; done) | fail) [-List.foldl_cons, -List.foldl_nil]

@[simp] theorem execSclLow_bytes (s : State) : (s.run execSclLow).bytes = s.bytes := by
  simp only [State.run, execSclLow, State.when]
  (repeat' split) <;> simp (disch := first | (intros; (repeat' split) <;> simp; done) | fail) [-List.foldl_cons, -List.foldl_nil]

@[simp] theorem execSdaLow_bytes (s : State) : (s.run execSdaLow).bytes = s.bytes := by
  simp only [State.run, execSdaLow, State.when]
  (repeat' split) <;> simp (disch := first | (intros; (repeat' split) <;> simp; done) | fail) [-List.foldl_cons, -List.foldl_nil]

@[simp] theorem execBusFree_bytes (s : State) : (s.run execBusFree).bytes = s.bytes := by
  simp only [State.run, execBusFree, State.when]
  (repeat' split) <;> simp (disch := first | (intros; (repeat' split) <;> simp; done) | fail) [-List.foldl_cons, -List.foldl_nil]

@[simp] theorem State.attempt_bytes (s : State) (cause n : Nat) : (State.attempt s cause n).bytes = s.bytes := by
  simp only [State.attempt]
  (repeat' split) <;> simp (disch := first | (intros; (repeat' split) <;> simp; done) | fail) [-List.foldl_cons, -List.foldl_nil]

@[simp] theorem execAttentionStart_bytes (depth : Bool) (s : State) : (s.run (execAttentionStart depth)).bytes = s.bytes := by
  simp only [State.run, execAttentionStart, State.when]
  (repeat' split) <;> simp (disch := first | (intros; (repeat' split) <;> simp; done) | fail) [-List.foldl_cons, -List.foldl_nil]

@[simp] theorem execAttnSent_bytes (s : State) : (s.run execAttnSent).bytes = s.bytes := by
  simp only [State.run, execAttnSent, State.when]
  (repeat' split) <;> simp (disch := first | (intros; (repeat' split) <;> simp; done) | fail) [-List.foldl_cons, -List.foldl_nil]

@[simp] theorem State.attnLost_bytes (s : State) : (State.attnLost s).bytes = s.bytes := by
  simp only [State.attnLost]
  (repeat' split) <;> simp (disch := first | (intros; (repeat' split) <;> simp; done) | fail) [-List.foldl_cons, -List.foldl_nil]

@[simp] theorem execAttnNack_bytes (s : State) : (s.run execAttnNack).bytes = s.bytes := by
  simp only [State.run, execAttnNack, State.when]
  (repeat' split) <;> simp (disch := first | (intros; (repeat' split) <;> simp; done) | fail) [-List.foldl_cons, -List.foldl_nil]

@[simp] theorem execArbLost_bytes (edge own read : Bool) (s : State) : (s.run (execArbLost edge own read)).bytes = s.bytes := by
  simp only [State.run, execArbLost, State.when]
  (repeat' split) <;> simp (disch := first | (intros; (repeat' split) <;> simp; done) | fail) [-List.foldl_cons, -List.foldl_nil]

@[simp] theorem execAttnBackoffEnd_bytes (s : State) : (s.run execAttnBackoffEnd).bytes = s.bytes := by
  simp only [State.run, execAttnBackoffEnd, State.when]
  (repeat' split) <;> simp (disch := first | (intros; (repeat' split) <;> simp; done) | fail) [-List.foldl_cons, -List.foldl_nil]

@[simp] theorem execTwAddressWake_bytes (s : State) : (s.run execTwAddressWake).bytes = s.bytes := by
  simp only [State.run, execTwAddressWake, State.when]
  (repeat' split) <;> simp (disch := first | (intros; (repeat' split) <;> simp; done) | fail) [-List.foldl_cons, -List.foldl_nil]

end Sys2Proof.Machine
end

