-- ==== Sys2Proof/Laws/MemPins.lean ====
section
/-! SUPPORT. The operations of Machine/Pins.lean leave the window memory alone. -/

namespace Sys2Proof.Machine

@[simp] theorem execGppEdge_bytes (pin : Nat) (level : Bool) (s : State) : (s.run (execGppEdge pin level)).bytes = s.bytes := by
  simp only [State.run, execGppEdge, State.when]
  (repeat' split) <;> simp (disch := first | (intros; (repeat' split) <;> simp; done) | fail) [-List.foldl_cons, -List.foldl_nil]

end Sys2Proof.Machine
end

