-- ==== Sys2Proof/Laws/MemWf.lean ====
section
/-! SUPPORT. The operations that store bytes keep the canonical form of the window memory; the files Laws/Mem….lean prove for every other operation that it leaves the memory alone. -/

namespace Sys2Proof.Machine

@[simp] theorem wf_ite (c : Prop) [Decidable c] (a b : State) (ha : Memory.wf a.bytes = true) (hb : Memory.wf b.bytes = true) :
    Memory.wf (if c then a else b).bytes = true := by split <;> assumption

@[simp] theorem wf_foldl {α : Type} (f : State → α → State)
    (hf : ∀ s x, Memory.wf s.bytes = true → Memory.wf (f s x).bytes = true) (l : List α) (s : State)
    (h : Memory.wf s.bytes = true) : Memory.wf (l.foldl f s).bytes = true := by
  induction l generalizing s with
  | nil => exact h
  | cons x l ih => exact ih _ (hf _ _ h)

@[simp] theorem wf_foldl_fst {α β : Type} (f : State × β → α → State × β)
    (hf : ∀ s x, Memory.wf s.1.bytes = true → Memory.wf (f s x).1.bytes = true) (l : List α) (s : State × β)
    (h : Memory.wf s.1.bytes = true) : Memory.wf (l.foldl f s).1.bytes = true := by
  induction l generalizing s with
  | nil => exact h
  | cons x l ih => exact ih _ (hf _ _ h)

@[simp] theorem State.setMemWord_wf (s : State) (a : Nat) (w : Word) (h : Memory.wf s.bytes = true) :
    Memory.wf ((State.setMemWord s a w).bytes) = true := by
  
  simp only [State.setMemWord]
  (repeat' split) <;> (simp +contextual (maxDischargeDepth := 30) [h, -List.foldl_cons, -List.foldl_nil]; done)

@[simp] theorem State.storeRx_wf (s : State) (d : Nat) (m : Member) (bs : List Byte) (h : Memory.wf s.bytes = true) :
    Memory.wf (State.storeRx s d m bs).bytes = true := by
  simp only [State.storeRx]
  split
  · rw [bytes_mk]
    exact Memory.wf_foldl _ (fun _ _ hm => Memory.wf_writeByte _ _ _ hm) _ _ (by simpa using h)
  · exact h

@[simp] theorem State.abortExch_wf (s : State) (d p status : Nat) (h : Memory.wf s.bytes = true) :
    Memory.wf ((State.abortExch s d p status).bytes) = true := by
  
  simp only [State.abortExch]
  (repeat' split) <;> (simp +contextual (maxDischargeDepth := 30) [h, -List.foldl_cons, -List.foldl_nil]; done)

@[simp] theorem State.endWork_wf (s : State) (key status : Nat) (h : Memory.wf s.bytes = true) :
    Memory.wf ((State.endWork s key status).bytes) = true := by
  
  simp only [State.endWork]
  (repeat' split) <;> (simp +contextual (maxDischargeDepth := 30) [h, -List.foldl_cons, -List.foldl_nil]; done)

@[simp] theorem State.faultSlice_wf (s : State) (d sl code : Nat) (h : Memory.wf s.bytes = true) :
    Memory.wf ((State.faultSlice s d sl code).bytes) = true := by
  
  simp only [State.faultSlice]
  (repeat' split) <;> (simp +contextual (maxDischargeDepth := 30) [h, -List.foldl_cons, -List.foldl_nil]; done)

@[simp] theorem execFcoAbort_wf (value : Word) (s : State) (h : Memory.wf s.bytes = true) :
    Memory.wf ((s.run (execFcoAbort value)).bytes) = true := by
  
  simp only [State.run, execFcoAbort, State.hostWrite]
  (repeat' split) <;> (simp +contextual (maxDischargeDepth := 30) [h, -List.foldl_cons, -List.foldl_nil]; done)

@[simp] theorem State.shed_wf : ∀ (n : Nat) (s : State), Memory.wf s.bytes = true → Memory.wf (State.shed n s).bytes = true
  | 0, s, h => by simpa only [State.shed] using h
  | n + 1, s, h => by
    simp only [State.shed]
    repeat' split
    all_goals first
      | exact h
      | (refine State.shed_wf n _ ?_; simp [h])

@[simp] theorem State.thermalStop_wf (s : State) (h : Memory.wf s.bytes = true) :
    Memory.wf ((State.thermalStop s).bytes) = true := by
  
  simp only [State.thermalStop]
  (repeat' split) <;> (simp +contextual (maxDischargeDepth := 30) [h, -List.foldl_cons, -List.foldl_nil]; done)

@[simp] theorem execThermalSample_wf (temps : List Int) (s : State) (h : Memory.wf s.bytes = true) :
    Memory.wf ((s.run (execThermalSample temps)).bytes) = true := by
  
  simp only [State.run, execThermalSample, State.when]
  (repeat' split) <;> (simp +contextual (maxDischargeDepth := 30) [h, -List.foldl_cons, -List.foldl_nil]; done)

@[simp] theorem execVsupWindowEnd_wf (vsup : Nat) (s : State) (h : Memory.wf s.bytes = true) :
    Memory.wf ((s.run (execVsupWindowEnd vsup)).bytes) = true := by
  
  simp only [State.run, execVsupWindowEnd, State.when]
  (repeat' split) <;> (simp +contextual (maxDischargeDepth := 30) [h, -List.foldl_cons, -List.foldl_nil]; done)

@[simp] theorem State.loseDie_wf (s : State) (d : Nat) (h : Memory.wf s.bytes = true) :
    Memory.wf ((State.loseDie s d).bytes) = true := by
  
  simp only [State.loseDie]
  (repeat' split) <;> (simp +contextual (maxDischargeDepth := 30) [h, -List.foldl_cons, -List.foldl_nil]; done)

@[simp] theorem State.afterSeams_wf (s : State) (seam : Nat) (h : Memory.wf s.bytes = true) :
    Memory.wf (State.afterSeams s seam).bytes = true := by
  simp only [State.afterSeams]
  refine wf_foldl _ (fun s x hs => ?_) _ _ (by simpa [-List.foldl_cons, -List.foldl_nil] using h)
  split
  · exact State.loseDie_wf _ _ hs
  · exact hs

@[simp] theorem State.seamFault_wf (s : State) (n : Nat) (cw : Bool) (h : Memory.wf s.bytes = true) :
    Memory.wf ((State.seamFault s n cw).bytes) = true := by
  
  simp only [State.seamFault]
  (repeat' split) <;> (simp +contextual (maxDischargeDepth := 30) [h, -List.foldl_cons, -List.foldl_nil]; done)

@[simp] theorem execSeamBadCrc_wf (seam : Nat) (cw again : Bool) (s : State) (h : Memory.wf s.bytes = true) :
    Memory.wf ((s.run (execSeamBadCrc seam cw again)).bytes) = true := by
  
  simp only [State.run, execSeamBadCrc, State.when]
  (repeat' split) <;> (simp +contextual (maxDischargeDepth := 30) [h, -List.foldl_cons, -List.foldl_nil]; done)

@[simp] theorem execSeamWatchdog_wf (seam : Nat) (cw : Bool) (s : State) (h : Memory.wf s.bytes = true) :
    Memory.wf ((s.run (execSeamWatchdog seam cw)).bytes) = true := by
  
  simp only [State.run, execSeamWatchdog, State.when]
  (repeat' split) <;> (simp +contextual (maxDischargeDepth := 30) [h, -List.foldl_cons, -List.foldl_nil]; done)

@[simp] theorem State.cutFields_wf (s : State) (d : Nat) (h : Memory.wf s.bytes = true) :
    Memory.wf ((State.cutFields s d).bytes) = true := by
  
  simp only [State.cutFields]
  (repeat' split) <;> (simp +contextual (maxDischargeDepth := 30) [h, -List.foldl_cons, -List.foldl_nil]; done)

@[simp] theorem execDieSeamSilence_wf (die : Nat) (s : State) (h : Memory.wf s.bytes = true) :
    Memory.wf ((s.run (execDieSeamSilence die)).bytes) = true := by
  
  simp only [State.run, execDieSeamSilence, State.when]
  (repeat' split) <;> (simp +contextual (maxDischargeDepth := 30) [h, -List.foldl_cons, -List.foldl_nil]; done)

@[simp] theorem execDieAnchorSilence_wf (die : Nat) (s : State) (h : Memory.wf s.bytes = true) :
    Memory.wf ((s.run (execDieAnchorSilence die)).bytes) = true := by
  
  simp only [State.run, execDieAnchorSilence, State.when]
  (repeat' split) <;> (simp +contextual (maxDischargeDepth := 30) [h, -List.foldl_cons, -List.foldl_nil]; done)

@[simp] theorem execCarrierUnlock_wf (die : Nat) (s : State) (h : Memory.wf s.bytes = true) :
    Memory.wf ((s.run (execCarrierUnlock die)).bytes) = true := by
  
  simp only [State.run, execCarrierUnlock, State.when]
  (repeat' split) <;> (simp +contextual (maxDischargeDepth := 30) [h, -List.foldl_cons, -List.foldl_nil]; done)

@[simp] theorem State.endTest_wf (s : State) (kind die unit : Nat) (classes : List Nat) (value : Int) (cw : Bool) (h : Memory.wf s.bytes = true) :
    Memory.wf ((State.endTest s kind die unit classes value cw).bytes) = true := by
  
  simp only [State.endTest]
  (repeat' split) <;> (simp +contextual (maxDischargeDepth := 30) [h, -List.foldl_cons, -List.foldl_nil]; done)

@[simp] theorem execTestEnd_wf (kind die unit : Nat) (classes : List Nat) (value : Int) (cw : Bool) (s : State) (h : Memory.wf s.bytes = true) :
    Memory.wf ((s.run (execTestEnd kind die unit classes value cw)).bytes) = true := by
  
  simp only [State.run, execTestEnd, State.when]
  (repeat' split) <;> (simp +contextual (maxDischargeDepth := 30) [h, -List.foldl_cons, -List.foldl_nil]; done)

@[simp] theorem execGuardEnd_wf (die slice : Nat) (s : State) (h : Memory.wf s.bytes = true) :
    Memory.wf ((s.run (execGuardEnd die slice)).bytes) = true := by
  
  simp only [State.run, execGuardEnd, State.when]
  (repeat' split) <;> (simp +contextual (maxDischargeDepth := 30) [h, -List.foldl_cons, -List.foldl_nil]; done)

@[simp] theorem execOvercurrent_wf (die slice : Nat) (s : State) (h : Memory.wf s.bytes = true) :
    Memory.wf ((s.run (execOvercurrent die slice)).bytes) = true := by
  
  simp only [State.run, execOvercurrent, State.when]
  (repeat' split) <;> (simp +contextual (maxDischargeDepth := 30) [h, -List.foldl_cons, -List.foldl_nil]; done)

@[simp] theorem execSliceStartCheck_wf (die slice : Nat) (pass : Bool) (s : State) (h : Memory.wf s.bytes = true) :
    Memory.wf ((s.run (execSliceStartCheck die slice pass)).bytes) = true := by
  
  simp only [State.run, execSliceStartCheck, State.when]
  (repeat' split) <;> (simp +contextual (maxDischargeDepth := 30) [h, -List.foldl_cons, -List.foldl_nil]; done)

@[simp] theorem State.rxBuffer_wf (s : State) (r : RxRun) (payload : List Byte) (h : Memory.wf s.bytes = true) :
    Memory.wf (State.rxBuffer s r payload).bytes = true := by
  simp only [State.rxBuffer]
  rw [bytes_mk]
  refine Memory.wf_foldl _ (fun _ _ hm => Memory.wf_writeByte _ _ _ hm) _ _ ?_
  split <;> simp [h]

@[simp] theorem execRxPayloadEnd_wf (payload : List Byte) (s : State) (h : Memory.wf s.bytes = true) :
    Memory.wf ((s.run (execRxPayloadEnd payload)).bytes) = true := by
  
  simp only [State.run, execRxPayloadEnd, State.when]
  (repeat' split) <;> (simp +contextual (maxDischargeDepth := 30) [h, -List.foldl_cons, -List.foldl_nil]; done)

@[simp] theorem State.writeWindows_wf (s : State) (ws : List (Nat × Word)) (h : Memory.wf s.bytes = true) :
    Memory.wf ((State.writeWindows s ws).bytes) = true := by
  
  simp only [State.writeWindows]
  (repeat' split) <;> (simp +contextual (maxDischargeDepth := 30) [h, -List.foldl_cons, -List.foldl_nil]; done)

@[simp] theorem State.stageLoad_wf (s : State) (l : Load) (h : Word) (ws : List (Nat × Word))
    (hm : Memory.wf s.bytes = true) : Memory.wf (State.stageLoad s l h ws).bytes = true := by
  simp only [State.stageLoad]
  split
  · simp [hm]
  · rw [bytes_mk]
    rw [bytes_fold]
    refine wf_foldl _ (fun s x hs => by simpa using hs) _ _ ?_
    repeat' split
    all_goals simp [hm, -List.foldl_cons, -List.foldl_nil]

@[simp] theorem execProfileDrainEnd_wf (s : State) (h : Memory.wf s.bytes = true) :
    Memory.wf ((s.run execProfileDrainEnd).bytes) = true := by
  
  simp only [State.run, execProfileDrainEnd]
  (repeat' split) <;> (simp +contextual (maxDischargeDepth := 30) [h, -List.foldl_cons, -List.foldl_nil]; done)

@[simp] theorem State.reloadWindow_wf (s : State) (a bytes : Nat) (h : Memory.wf s.bytes = true) :
    Memory.wf ((State.reloadWindow s a bytes).bytes) = true := by
  
  simp only [State.reloadWindow]
  (repeat' split) <;> (simp +contextual (maxDischargeDepth := 30) [h, -List.foldl_cons, -List.foldl_nil]; done)

@[simp] theorem State.failBank_wf (s : State) (die bank : Nat) (h : Memory.wf s.bytes = true) :
    Memory.wf ((State.failBank s die bank).bytes) = true := by
  
  simp only [State.failBank]
  (repeat' split) <;> (simp +contextual (maxDischargeDepth := 30) [h, -List.foldl_cons, -List.foldl_nil]; done)

@[simp] theorem execWakeDomainReady_wf (die : Nat) (front : Bool) (found : List (Nat × Nat)) (s : State) (h : Memory.wf s.bytes = true) :
    Memory.wf ((s.run (execWakeDomainReady die front found)).bytes) = true := by
  
  simp only [State.run, execWakeDomainReady]
  (repeat' split) <;> (simp +contextual (maxDischargeDepth := 30) [h, -List.foldl_cons, -List.foldl_nil]; done)

@[simp] theorem State.resetDevice_wf (s : State) (cause : Nat) : Memory.wf (s.resetDevice cause).bytes = true := by
  simp only [State.resetDevice, State.set_bytes, bytes_mk]
  exact Memory.wf_nil

@[simp] theorem execPowerOn_wf (iosel : Bool) (s : State) (h : Memory.wf s.bytes = true) :
    Memory.wf ((s.run (execPowerOn iosel)).bytes) = true := by
  
  simp only [State.run, execPowerOn, State.when]
  (repeat' split) <;> (simp +contextual (maxDischargeDepth := 30) [h, -List.foldl_cons, -List.foldl_nil]; done)

@[simp] theorem execVsupLoss_wf (torn : Bool) (s : State) : Memory.wf (s.run (execVsupLoss torn)).bytes = true := by
  simp only [State.run, execVsupLoss, bytes_mk]
  exact Memory.wf_nil

@[simp] theorem State.resetFrom_wf (s : State) (cause : Nat) (h : Memory.wf s.bytes = true) :
    Memory.wf ((State.resetFrom s cause).bytes) = true := by
  
  simp only [State.resetFrom, State.when]
  (repeat' split) <;> (simp +contextual (maxDischargeDepth := 30) [h, -List.foldl_cons, -List.foldl_nil]; done)

@[simp] theorem execVsupDip_wf (s : State) (h : Memory.wf s.bytes = true) :
    Memory.wf ((s.run execVsupDip).bytes) = true := by
  
  simp only [State.run, execVsupDip]
  (repeat' split) <;> (simp +contextual (maxDischargeDepth := 30) [h, -List.foldl_cons, -List.foldl_nil]; done)

@[simp] theorem execNrstLow_wf (s : State) (h : Memory.wf s.bytes = true) :
    Memory.wf ((s.run execNrstLow).bytes) = true := by
  
  simp only [State.run, execNrstLow]
  (repeat' split) <;> (simp +contextual (maxDischargeDepth := 30) [h, -List.foldl_cons, -List.foldl_nil]; done)

@[simp] theorem execCoreRailReset_wf (s : State) (h : Memory.wf s.bytes = true) :
    Memory.wf ((s.run execCoreRailReset).bytes) = true := by
  
  simp only [State.run, execCoreRailReset]
  (repeat' split) <;> (simp +contextual (maxDischargeDepth := 30) [h, -List.foldl_cons, -List.foldl_nil]; done)

@[simp] theorem State.applyProfile_wf (s : State) (h : Memory.wf s.bytes = true) :
    Memory.wf ((State.applyProfile s).bytes) = true := by
  
  simp only [State.applyProfile]
  (repeat' split) <;> (simp +contextual (maxDischargeDepth := 30) [h, -List.foldl_cons, -List.foldl_nil]; done)

@[simp] theorem execStartupReady_wf (seams : Nat) (badSets : List Nat) (s : State) (h : Memory.wf s.bytes = true) :
    Memory.wf ((s.run (execStartupReady seams badSets)).bytes) = true := by
  
  simp only [State.run, execStartupReady, State.when]
  (repeat' split) <;> (simp +contextual (maxDischargeDepth := 30) [h, -List.foldl_cons, -List.foldl_nil]; done)

@[simp] theorem State.resetDie_wf (s : State) (d : Nat) (h : Memory.wf s.bytes = true) :
    Memory.wf ((State.resetDie s d).bytes) = true := by
  
  simp only [State.resetDie]
  (repeat' split) <;> (simp +contextual (maxDischargeDepth := 30) [h, -List.foldl_cons, -List.foldl_nil]; done)

@[simp] theorem execDieRejoined_wf (die : Nat) (s : State) (h : Memory.wf s.bytes = true) :
    Memory.wf ((s.run (execDieRejoined die)).bytes) = true := by
  
  simp only [State.run, execDieRejoined, State.when]
  (repeat' split) <;> (simp +contextual (maxDischargeDepth := 30) [h, -List.foldl_cons, -List.foldl_nil]; done)

@[simp] theorem execReplyEnd_wf (die port : Nat) (data : List Byte) (nbits : Nat) (parityOk : Bool) (collision : Option Nat) (sat : List Nat) (s : State) (h : Memory.wf s.bytes = true) :
    Memory.wf ((s.run (execReplyEnd die port data nbits parityOk collision sat)).bytes) = true := by
  
  simp only [State.run, execReplyEnd]
  (repeat' split) <;> (simp +contextual (maxDischargeDepth := 30) [h, -List.foldl_cons, -List.foldl_nil]; done)

@[simp] theorem State.windowPut_wf (s : State) (die page off : Nat) (w : Word) (h : Memory.wf s.bytes = true) :
    Memory.wf ((State.windowPut s die page off w).1.bytes) = true := by
  
  simp only [State.windowPut]
  (repeat' split) <;> (simp +contextual (maxDischargeDepth := 30) [h, -List.foldl_cons, -List.foldl_nil]; done)

@[simp] theorem State.anchorCmd_wf (s : State) (page off : Nat) (w : Word) (h : Memory.wf s.bytes = true) :
    Memory.wf ((State.anchorCmd s page off w).bytes) = true := by
  
  simp only [State.anchorCmd, State.when]
  (repeat' split) <;> (simp +contextual (maxDischargeDepth := 30) [h, -List.foldl_cons, -List.foldl_nil]; done)

@[simp] theorem State.regTake_wf (s : State) (die page off : Nat) (w : Word) (h : Memory.wf s.bytes = true) :
    Memory.wf ((State.regTake s die page off w).1.bytes) = true := by
  
  simp only [State.regTake]
  (repeat' split) <;> (simp +contextual (maxDischargeDepth := 30) [h, -List.foldl_cons, -List.foldl_nil]; done)

@[simp] theorem State.regWrite_wf (s : State) (die page off : Nat) (w : Word) (h : Memory.wf s.bytes = true) :
    Memory.wf ((State.regWrite s die page off w).1.bytes) = true := by
  
  simp only [State.regWrite]
  (repeat' split) <;> (simp +contextual (maxDischargeDepth := 30) [h, -List.foldl_cons, -List.foldl_nil]; done)

@[simp] theorem State.putAt_wf (s : State) (die page off : Nat) (w : Word) (h : Memory.wf s.bytes = true) :
    Memory.wf ((State.putAt s die page off w).1.bytes) = true := by
  
  simp only [State.putAt]
  (repeat' split) <;> (simp +contextual (maxDischargeDepth := 30) [h, -List.foldl_cons, -List.foldl_nil]; done)

@[simp] theorem State.busWrite_wf (s : State) (a : Nat) (w : Word) (h : Memory.wf s.bytes = true) :
    Memory.wf ((State.busWrite s a w).1.bytes) = true := by
  
  simp only [State.busWrite]
  (repeat' split) <;> (simp +contextual (maxDischargeDepth := 30) [h, -List.foldl_cons, -List.foldl_nil]; done)

@[simp] theorem execRegisterWrite_wf (addr : Nat) (value : Word) (s : State) (h : Memory.wf s.bytes = true) :
    Memory.wf ((s.run (execRegisterWrite addr value)).bytes) = true := by
  
  simp only [State.run, execRegisterWrite, State.when]
  (repeat' split) <;> (simp +contextual (maxDischargeDepth := 30) [h, -List.foldl_cons, -List.foldl_nil]; done)

@[simp] theorem execWindowWrite_wf (addr : Nat) (value : Word) (s : State) (h : Memory.wf s.bytes = true) :
    Memory.wf ((s.run (execWindowWrite addr value)).bytes) = true := by
  
  simp only [State.run, execWindowWrite, State.when]
  (repeat' split) <;> (simp +contextual (maxDischargeDepth := 30) [h, -List.foldl_cons, -List.foldl_nil]; done)

@[simp] theorem State.seamAccess_wf (s : State) (die : Nat) (write : Bool) (offset : Nat) (data : Word) (h : Memory.wf s.bytes = true) :
    Memory.wf ((State.seamAccess s die write offset data).1.bytes) = true := by
  
  simp only [State.seamAccess]
  (repeat' split) <;> (simp +contextual (maxDischargeDepth := 30) [h, -List.foldl_cons, -List.foldl_nil]; done)

@[simp] theorem execSeamRegisterAccess_wf (die tag : Nat) (write : Bool) (offset : Nat) (data : Word) (s : State) (h : Memory.wf s.bytes = true) :
    Memory.wf ((s.run (execSeamRegisterAccess die tag write offset data)).bytes) = true := by
  
  simp only [State.run, execSeamRegisterAccess, State.when]
  (repeat' split) <;> (simp +contextual (maxDischargeDepth := 30) [h, -List.foldl_cons, -List.foldl_nil]; done)

theorem State.pleStep_wf (s : State) (n op : Nat) (room : Bool) (f : State → PleRun → Word → Word → State)
    (hf : ∀ s r w v, Memory.wf s.bytes = true → Memory.wf (f s r w v).bytes = true) (h : Memory.wf s.bytes = true) :
    Memory.wf (s.pleStep n op room f).bytes = true := by
  simp only [State.pleStep]
  repeat' split
  all_goals first
    | exact h
    | (refine hf _ _ _ _ ?_; simpa using h)

theorem State.pleAlu_wf (s : State) (n op : Nat) (f : State → PleRun → Word → Word → State × PleRun)
    (hf : ∀ s r w v, Memory.wf s.bytes = true → Memory.wf (f s r w v).1.bytes = true) (h : Memory.wf s.bytes = true) :
    Memory.wf (s.pleAlu n op f).bytes = true := by
  refine State.pleStep_wf _ _ _ _ _ (fun s r w v hs => ?_) h
  simpa using hf s r w v hs

@[simp] theorem execPleStore_wf (list : Nat) (s : State) (h : Memory.wf s.bytes = true) :
    Memory.wf (s.run (execPleStore list)).bytes = true := by
  simp only [State.run, execPleStore]
  refine State.pleAlu_wf _ _ _ _ (fun s r w v hs => ?_) h
  split <;> simp [hs]

@[simp] theorem State.writeFrom_wf (only : Option Nat) : ∀ (l : List Word) (s : State) (a : Nat),
    Memory.wf s.bytes = true → Memory.wf (s.writeFrom only a l).1.bytes = true
  | [], s, a, h => by simpa only [State.writeFrom] using h
  | w :: l, s, a, h => by
    simp only [State.writeFrom]
    refine State.writeFrom_wf only l _ _ ?_
    repeat' split
    all_goals simp [h]

@[simp] theorem State.writeData_wf (s : State) (only : Option Nat) (addr : Nat) (data : List Word) (clocks : Nat)
    (h : Memory.wf s.bytes = true) : Memory.wf (State.writeData s only addr data clocks).1.bytes = true := by
  simp only [State.writeData]
  split
  · exact State.writeFrom_wf _ _ _ _ h
  · simpa using State.writeFrom_wf _ _ _ _ h

@[simp] theorem execWrite_wf (addr : Nat) (data : List Word) (mode3 : Bool) (clocks : Nat) (s : State) (h : Memory.wf s.bytes = true) :
    Memory.wf ((s.run (execWrite addr data mode3 clocks)).bytes) = true := by
  
  simp only [State.run, execWrite, State.hspFrame]
  (repeat' split) <;> (simp +contextual (maxDischargeDepth := 30) [h, -List.foldl_cons, -List.foldl_nil]; done)

@[simp] theorem execWriteCommit_wf (addr : Nat) (data : List Word) (mode3 : Bool) (clocks : Nat) (s : State) (h : Memory.wf s.bytes = true) :
    Memory.wf ((s.run (execWriteCommit addr data mode3 clocks)).bytes) = true := by
  
  simp only [State.run, execWriteCommit, State.hspFrame]
  (repeat' split) <;> (simp +contextual (maxDischargeDepth := 30) [h, -List.foldl_cons, -List.foldl_nil]; done)

@[simp] theorem execSoftReset_wf (key0 key1 : Nat) (mode3 : Bool) (clocks : Nat) (s : State) (h : Memory.wf s.bytes = true) :
    Memory.wf ((s.run (execSoftReset key0 key1 mode3 clocks)).bytes) = true := by
  
  simp only [State.run, execSoftReset, State.hspFrame]
  (repeat' split) <;> (simp +contextual (maxDischargeDepth := 30) [h, -List.foldl_cons, -List.foldl_nil]; done)

@[simp] theorem State.twPutWord_wf (s : State) (a : Nat) (w : Word) (h : Memory.wf s.bytes = true) :
    Memory.wf ((State.twPutWord s a w).bytes) = true := by
  
  simp only [State.twPutWord]
  (repeat' split) <;> (simp +contextual (maxDischargeDepth := 30) [h, -List.foldl_cons, -List.foldl_nil]; done)

@[simp] theorem State.twWindowByte_wf (s : State) (p : Nat) (b : Byte) (hold : Bool) (h : Memory.wf s.bytes = true) :
    Memory.wf ((State.twWindowByte s p b hold).bytes) = true := by
  
  simp only [State.twWindowByte]
  (repeat' split) <;> (simp +contextual (maxDischargeDepth := 30) [h, -List.foldl_cons, -List.foldl_nil]; done)

@[simp] theorem State.twPut_wf (s : State) (b : Byte) (hold : Bool) (h : Memory.wf s.bytes = true) :
    Memory.wf ((State.twPut s b hold).bytes) = true := by
  
  simp only [State.twPut]
  (repeat' split) <;> (simp +contextual (maxDischargeDepth := 30) [h, -List.foldl_cons, -List.foldl_nil]; done)

@[simp] theorem State.twPutAll_wf (hold : Bool) : ∀ (l : List Byte) (s : State),
    Memory.wf s.bytes = true → Memory.wf (s.twPutAll hold l).bytes = true
  | [], s, h => by simpa only [State.twPutAll] using h
  | b :: l, s, h => by
    simp only [State.twPutAll]
    exact State.twPutAll_wf hold l _ (by simp [h])

@[simp] theorem execTwWriteTransfer_wf (start : Option Nat) (bytes : List Byte) (stretch stop : Bool) (s : State) (h : Memory.wf s.bytes = true) :
    Memory.wf ((s.run (execTwWriteTransfer start bytes stretch stop)).bytes) = true := by
  
  simp only [State.run, execTwWriteTransfer, State.when]
  (repeat' split) <;> (simp +contextual (maxDischargeDepth := 30) [h, -List.foldl_cons, -List.foldl_nil]; done)

@[simp] theorem execWinMidWrite_wf (value : Byte) (stop : Bool) (s : State) (h : Memory.wf s.bytes = true) :
    Memory.wf ((s.run (execWinMidWrite value stop)).bytes) = true := by
  
  simp only [State.run, execWinMidWrite, State.when]
  (repeat' split) <;> (simp +contextual (maxDischargeDepth := 30) [h, -List.foldl_cons, -List.foldl_nil]; done)

@[simp] theorem execTwStretchRelease_wf (s : State) (h : Memory.wf s.bytes = true) :
    Memory.wf ((s.run execTwStretchRelease).bytes) = true := by
  
  simp only [State.run, execTwStretchRelease]
  (repeat' split) <;> (simp +contextual (maxDischargeDepth := 30) [h, -List.foldl_cons, -List.foldl_nil]; done)

end Sys2Proof.Machine
end

