-- ==== Sys2Proof/WellFormed.lean ====
section
/-! DEFINITION. Which commands are well formed: every operand lies in the range that the manual's tables give it (dies,
ports, slices, pages, addresses, register fields). Values that the device measures or meets have no range. -/

namespace Sys2Proof

/-- Numbers below a bound. -/
def below (n x : Nat) : Bool := decide (x < n)

/-- A field die number (R1). -/
def fieldDie (d : Nat) : Bool := decide (1 ≤ d ∧ d ≤ 7)

/-- The command bytes of the host serial port (R121). -/
def commandBytes : List Nat := [0x01, 0x10, 0x20, 0x21, 0x30, 0x50, 0x60, 0x7E]

/-- The operands of a command lie in their ranges. -/
def Instr.wf : Instr → Bool
  | .seamBadCrc seam _ _ => below 8 seam
  | .seamWatchdog seam _ => below 8 seam
  | .seamIdleWord seam _ => below 8 seam
  | .seamRegisterAccess die _ _ offset _ => fieldDie die && below 1048576 offset
  | .recordWordArrival die xfer => fieldDie die && below 65536 xfer
  | .seamRetrainStart seam => below 8 seam
  | .seamRetrainEnd seam _ => below 8 seam
  | .seamRestored seam => below 8 seam
  | .dieSeamSilence die => fieldDie die
  | .dieAnchorSilence die => fieldDie die
  | .anchorKeepAlive die => fieldDie die
  | .rejoin die _ => fieldDie die
  | .dieRejoined die => fieldDie die
  | .carrierUnlock die => fieldDie die
  | .carrierRelock die => fieldDie die
  | .timeLoad die _ _ => fieldDie die
  | .realigned => true
  | .tbsMeasUpdate _ => true
  | .tbsAlmHiWrite alarm _ => below 2 alarm
  | .alarmFire alarm => below 2 alarm
  | .pgCtrlEn die page _ => below 8 die && below 256 page
  | .pgCtrlDrain die page _ => below 8 die && below 256 page
  | .pgCtrlCommit die page => below 8 die && below 256 page
  | .pgCtrlTest die page => below 8 die && below 256 page
  | .pgCtrlLock die page => below 8 die && below 256 page
  | .pageReady die page _ => below 8 die && below 256 page
  | .pageDrainEnd die page => below 8 die && below 256 page
  | .commitTakeEffect die page port => below 8 die && below 256 page && below 8 port
  | .pgEvtClear die page _ _ => below 8 die && below 256 page
  | .pgFirsterrClear die page _ _ => below 8 die && below 256 page
  | .registerWrite addr _ => below 16777216 addr
  | .windowWrite addr _ => below 16777216 addr
  | .status _ _ _ => true
  | .read addr _ _ _ _ _ => below 16777216 addr
  | .write addr data _ clocks => below 16777216 addr && data.length == (clocks - 32) / 32
  | .writeCommit addr data _ clocks => below 16777216 addr && data.length == (clocks - 32) / 32
  | .hamperRead mask _ _ _ _ => below 16777216 mask
  | .wake _ _ => true
  | .profileLoad addr _ _ => below 16777216 addr
  | .softReset key0 key1 _ _ => below 256 key0 && below 256 key1
  | .unknownCmd cmd _ _ => (below 256 cmd && !(commandBytes.contains cmd))
  | .tokenReady _ _ => true
  | .readTimeout _ => true
  | .hselWake => true
  | .twWriteTransfer start _ _ _ => start.all (below 128)
  | .twReadTransfer start _ _ _ => start.all (below 128)
  | .quickCommand addr _ => below 128 addr
  | .winMidWrite _ _ => true
  | .grant2Read _ => true
  | .streamRead _ => true
  | .twStretchRelease => true
  | .twStretchTimeout => true
  | .busProto _ => true
  | .sclLow => true
  | .sdaLow => true
  | .busFree => true
  | .attentionStart _ => true
  | .attnSent => true
  | .attnNack => true
  | .arbLost _ _ _ => true
  | .attnBackoffEnd => true
  | .twAddressWake => true
  | .sliceEnergise die slice _ => fieldDie die && below 10 slice
  | .rampUpEnd die slice => fieldDie die && below 10 slice
  | .rampDownEnd die slice => fieldDie die && below 10 slice
  | .guardEnd die slice => fieldDie die && below 10 slice
  | .overcurrent die slice => fieldDie die && below 10 slice
  | .openLoad die slice => fieldDie die && below 10 slice
  | .sliceStartCheck die slice _ => fieldDie die && below 10 slice
  | .senseInterval die slice _ _ _ _ => fieldDie die && below 10 slice
  | .cwStart die slice => fieldDie die && below 10 slice
  | .cwStop die slice => fieldDie die && below 10 slice
  | .cwTimeout die slice => fieldDie die && below 10 slice
  | .phaseCommand die slice _ _ => fieldDie die && below 10 slice
  | .fcoRun _ => true
  | .fcoAbort _ => true
  | .candidateAgeing _ => true
  | .roundStart plan _ => below 64 plan
  | .thermalSample temps => (1 ≤ temps.length && temps.length ≤ 8)
  | .vsupWindowEnd _ => true
  | .vsupIdleRequest => true
  | .dieWakeLead plan => below 64 plan
  | .dieDozeReturn die => fieldDie die
  | .listenerWithdraw die port listener _ => fieldDie die && below 8 port && below 56 listener
  | .neighbourTermSwitch die port entry _ => fieldDie die && below 8 port && below 4 entry
  | .settleEnd die port => fieldDie die && below 8 port
  | .txFrameEnd die port resid => fieldDie die && below 8 port && resid.all (fun r => below 56 r.1)
  | .replyStart die port _ _ _ => fieldDie die && below 8 port
  | .replyEnd die port _ _ _ _ _ => fieldDie die && below 8 port
  | .responseWindowEnd die port _ => fieldDie die && below 8 port
  | .retryStart die port => fieldDie die && below 8 port
  | .eofReqSend die port => fieldDie die && below 8 port
  | .activateNextCommand die port => fieldDie die && below 8 port
  | .fieldHoldExpiry die port => fieldDie die && below 8 port
  | .xenHoldEnd die _ => fieldDie die
  | .streamGap die port listener => fieldDie die && below 8 port && below 56 listener
  | .invSlotEof die port => fieldDie die && below 8 port
  | .separationSolveEnd die port slot _ _ => fieldDie die && below 8 port && below 16 slot
  | .probeDue die port => fieldDie die && below 8 port
  | .probeEnd die port _ _ => fieldDie die && below 8 port
  | .watchAbsorb die port => fieldDie die && below 8 port
  | .watchTempSample die _ => fieldDie die
  | .rxRssiDetect _ => true
  | .rxPreambleQualified => true
  | .rxDetectTimeout _ _ => true
  | .rxSfdFound _ => true
  | .rxSfdTimeout => true
  | .rxFreeSfd => true
  | .rxCapture _ _ => true
  | .rxAgcRerunEnd _ step => below 25 step
  | .rxHeaderEnd header _ => below 65536 header
  | .rxPayloadEnd _ => true
  | .rssiUpdate _ step => below 25 step
  | .maskMeasure _ => true
  | .radioCmdSleep => true
  | .radioCmdStandby => true
  | .radioCmdSynth channel => below 128 channel
  | .radioCmdRx channel => below 128 channel
  | .radioCmdTx after _ template channel ticket => below 4 after && below 16 template && below 128 channel && below 16384 ticket
  | .radioCmdCal channel => below 128 channel
  | .radioCmdCalAll => true
  | .radioCmdFlush => true
  | .radioCmdStart => true
  | .radioStateReached => true
  | .txCreditReserved => true
  | .txRampStart => true
  | .txSynthDeadline => true
  | .synthLockLoss => true
  | .txLastChip => true
  | .hopCalEnd entry _ _ _ => below 128 entry
  | .cxgntAssert => true
  | .coexGrantTimeout => true
  | .cxgntWithdraw => true
  | .dutyClockSecond => true
  | .secKeyLoad slot => below 64 slot
  | .secKeyErase slot => below 64 slot
  | .pleStart list => below 32 list
  | .pleStop list => below 32 list
  | .plePeriodDue list => below 32 list
  | .pleEnd list => below 32 list
  | .pleWait list => below 32 list
  | .pleWaitEnd list => below 32 list
  | .pleMovi list => below 32 list
  | .pleMovw list => below 32 list
  | .pleLoad list => below 32 list
  | .pleStore list => below 32 list
  | .pleAdd list => below 32 list
  | .pleSub list => below 32 list
  | .pleScale list => below 32 list
  | .pleExt list => below 32 list
  | .pleIir list => below 32 list
  | .pleMedian5 list => below 32 list
  | .pleMean list => below 32 list
  | .pleCmph list => below 32 list
  | .pleWindow list => below 32 list
  | .pleTime list => below 32 list
  | .pleBranch list => below 32 list
  | .pleEmit list => below 32 list
  | .pleEmitCredit list => below 32 list
  | .pleRaise list => below 32 list
  | .pleTrig list => below 32 list
  | .pleSpi list => below 32 list
  | .pleSpiDone list => below 32 list
  | .pleListen list => below 32 list
  | .pleListenDone list => below 32 list
  | .pleAdc list => below 32 list
  | .pleAdcDone list _ => below 32 list
  | .pleTag list => below 32 list
  | .pleTagDone list => below 32 list
  | .pleRadio list => below 32 list
  | .pleRadioDone list => below 32 list
  | .pleVariableWrite n _ => below 64 n
  | .pleVvalidClear _ _ => true
  | .pleRaiseClear _ => true
  | .sscQpush tag buf template => below 65536 tag && below 4 buf && below 64 template
  | .sscEntryStart _ => true
  | .sscEntryEnd => true
  | .sscDonePop => true
  | .slselAssert _ _ => true
  | .listenerWord _ _ => true
  | .slselRelease _ _ => true
  | .selStuck => true
  | .listenerReserve => true
  | .safReq count ch => below 16 count && below 8 ch
  | .safConvDone _ => true
  | .comparatorStrobe k _ => below 4 k
  | .creditMismatch cls _ => below 4 cls
  | .systemRecordWrite => true
  | .hmpMark _ => true
  | .tktOpNone => true
  | .tktOpWrite => true
  | .tktOpInsert => true
  | .tktOpDelete => true
  | .tktOpLookup => true
  | .tktSnapSave => true
  | .tktSnapSaveEnd _ _ code => below 65536 code
  | .tktSnapLoad => true
  | .tktSnapLoadEnd _ => true
  | .icuClaim target others _ => below 4 target && others.all (below 4)
  | .icuComplete target slot => below 4 target && below 512 slot
  | .icuSrcWrite source _ => below 420 source
  | .icuTargetCfgWrite target _ => below 4 target
  | .icuModgapEnd target => below 4 target
  | .icuLevelChange source => below 420 source
  | .icuSleepLatch source bit => below 420 source && below 32 bit
  | .sleepDeepRequest => true
  | .sleepWatchRequest => true
  | .entryTimeout => true
  | .sleepPrepare => true
  | .sleepCommit => true
  | .wakePinAssert _ _ => true
  | .wakeDomainReady die _ found => below 8 die && found.all (fun e => below 256 e.1 && below 0x100000000 e.2)
  | .wakeComplete gp => below 256 gp
  | .padRelease _ => true
  | .keepRun die => fieldDie die
  | .dieOffIdle die => fieldDie die
  | .srlSet value _ => below 4096 value
  | .srlStepUp value => below 4096 value
  | .srlStepDown value => below 4096 value
  | .srlQuery => true
  | .srlFrameStart => true
  | .srlAck => true
  | .srlNoack => true
  | .powerOn _ => true
  | .vsupLoss _ => true
  | .vsupDip => true
  | .nrstLow => true
  | .coreRailReset => true
  | .resetEnd prof twa => below 4 prof && below 8 twa
  | .memoryTestEnd _ => true
  | .startupReady seams _ => below 256 seams
  | .calReqSlice die mask => below 8 die && below 1024 mask
  | .calReqSpare die mask => below 8 die && below 1024 mask
  | .calReqDie die => below 8 die
  | .calReqAnchor => true
  | .calReqAll => true
  | .dieTempUpdate die _ => fieldDie die
  | .calRunEnd target _ _ _ _ => (below 128 target || (4096 ≤ target && target < 4224))
  | .calMaxdeferExpiry target => (below 128 target || (4096 ≤ target && target < 4224))
  | .anchorCalStart => true
  | .hopCalBackground entry => below 128 entry
  | .calSave => true
  | .calAutosave => true
  | .calSaveEnd _ => true
  | .bstReqSlice die mask => below 8 die && below 1024 mask
  | .bstReqDie die => below 8 die
  | .bstReqSeam mask => below 256 mask
  | .bstReqRadio entry => below 128 entry
  | .bstReqAnchor => true
  | .bstReqAll => true
  | .bstPeriodic => true
  | .testStart kind die unit => (1 ≤ kind && kind ≤ 5) && below 8 die && below 128 unit
  | .testEnd kind die unit classes _ _ => (1 ≤ kind && kind ≤ 5) && below 8 die && below 128 unit && classes.all (below 16)
  | .drnSwapCmd die port slice => below 8 die && below 8 port && below 16 slice
  | .drnUndarn die slice => below 8 die && below 16 slice
  | .darnSwapExecute die port => fieldDie die && below 8 port
  | .darnMapWritten => true
  | .netfaultClear die port => fieldDie die && below 8 port
  | .nvsEraseSlot slot => below 4 slot
  | .nvsRegLock key => below 256 key
  | .nvsDebugLock key => below 256 key
  | .nvsWdataWrite _ => true
  | .nvsRdataRead _ => true
  | .nvOpDone _ _ _ => true
  | .devLoad slot => below 4 slot
  | .profileCheckEnd => true
  | .profileDrainEnd => true
  | .profileLoadTimeout => true
  | .profileCommit _ => true
  | .gppEdge pin _ => below 8 pin
  | .dozeToRun die => fieldDie die
  | .turnaroundGapEnd die port => fieldDie die && below 8 port
  | .phaseSlewEnd die slice => fieldDie die && below 10 slice

end Sys2Proof
end

