-- ==== Sys2Proof/Tests/Slice0.lean ====
section
/-! SUPPORT. Tests: ill-formed operands are refused, examples of the manual, and for every statement with hypotheses a
state and operands that meet them (`wit_…`), built by the helpers of namespace `W`. -/

open Sys2Proof Sys2Proof.Machine

section

set_option Elab.async false
set_option linter.unusedVariables false

namespace W
def awake : State := { State.reset with device := .active, ready := true }
def up : State := [1, 2, 3, 4, 5, 6, 7].foldl (fun s d => s.set d F.DPWR_STAT_PSTATE 2)
  ((awake.set 0 F.SEM_DIES_REACHABLE 127).set 0 F.SEM_DIES_LOCKED 127)
def seamUp : State := awake.set 0 (F.SEM_SEAM_STATE 7) 1
def rejoins : State := (awake.setDie 1 { rejoining := true }).set 0 (F.SEM_SEAM_STATE 0) 1
def outRec : OutRec :=
  { cls := 0, type := 1, time := 0, payload := [0, 0, 0, 0, 0], reserved := 9, xfer := 1, note := .none, result := none }
end W
namespace W
def early : State := { awake with ready := false }
def own : State := awake.set 0 F.HTW_STAT_OWN_ADDR 88
def tw (p : Nat) (r : Bool) : State := awake.setHtw { busy := true, served := true, reading := r, pointer := p }
def streams : State :=
  (awake.setHtw { grant := some [1, 1], streamed := 3 }).setCls 1 { free := 32768, recs := [⟨0, 2, [7, 7], 0, 0, 0, 0, .none, false⟩] }
def pend : State := (awake.setHtw { busFree := true, levels := 31 }).set 0 F.HTW_STAT_ATTN_PEND 16
def drive : Drive := { user := 1, level := 100, clamped := false, depth := 0, rampUp := 0, rampDn := 0, phase := 0 }
end W
namespace W
def exch (ph : Phase) (w : List Word) : Exch :=
  { origin := .host, members := [{ index := 0, desc := w, frame := [] }], cur := 0, prio := 0, admitted := 0, level := 100,
    res := [], phase := ph, attempt := 1, reference := none, fdt := none, timing := .accepted, ampl := 0, angle := 0,
    sat := [], eofSent := false, listeners := [], listenersHeld := 0, partner := none, act := {}, inv := {} }
def on : State := up.setFstate 7 7 2
def inPhase (ph : Phase) (w : List Word) : State := on.setExch 7 7 (exch ph w)
def cw : State := { up.setPage 7 8 2 with exchs := [(sliceWork 7 7, { exch .energise [] with origin := .cw })] }
def hold : Hold := { level := 100, begun := 0 }
def cand (n : Nat) : Cand :=
  { origin := .host, die := 7, port := 7, members := [{ index := 0, desc := [], frame := [] }], level := 100,
    res := [0, 0, 0, 0], prio := 1, eighths := 0, since := 0, order := n, forced := false, first := false,
    budgetWait := false, creditWait := false, overRes := [], oversizeSeen := false }
def full : State := { up with coord := { cands := (List.range 16).map cand } }
def tagged : State :=
  ((up.setPage 7 0x0C 2).setMemWord (hostAddr 7 0x40 0) 0x40000007).setMemWord (hostAddr 7 0x40 4) 0x00017C64
def plan : State := (awake.setPage 0 0x0A 2).set 0 (F.FCO_PLAN_CFG_EN 63) 1
def running : State := { plan with coord := { runs := [{ plan := 63, refs := [], setLo := 0, setHi := 0, prio := 0, period := 0 }] } }
def notag : State := up.setPage 7 0x0C 2
def fullCal : State := { up with coord := { cands := (List.range 16).map (fun n => { cand n with prio := -1 }) } }
def terms : State := { awake with coord := { termEvents := [⟨55, 3, .off⟩] } }
def th : State := (awake.set 0 F.FCO_THERM_TMAX (field 8 25)).set 0 F.FCO_THERM_DIE 0
def th2 : State :=
  (List.range awake.dies).foldl (fun (z : State) i => z.set (i + 1) F.FDC_STAT_TEMP (field 8 ((([250] : List Int)[i + 1]?).getD 0 / 10)))
    (({ th with coord := { th.coord with thermal := thermalFactor 250 } } : State).set 0 F.FCO_THERM_FACTOR (thermalFactor 250 * 100 / 320))
def th3 : State := { th2 with coord := { th2.coord with overT := th2.overLimit th2.coord.overT } }
def hot : State := { (on.set 7 (F.SLC_APPLIED_LEVEL 7) 1000) with coord := { overV := 1 } }
def hotx : State :=
  let u := (hot.set 0 F.SRL_VSUP_VSUP 0).set 0 F.FCO_LIMITS_SUPPLY (supplyCenti 0 / 100)
  { u with coord := { u.coord with overV := u.overLimit u.coord.overV } }
def wanted : State :=
  { (on.setExch 7 7 { exch .transmit [] with listeners := [0] }) with coord := { cands := [{ cand 0 with die := 1, port := 0 }] } }
def watched : State := ((up.setPage 7 0x0E 2).setWatchState 7 7 2).set 7 (F.CWT_P_PROBE_LEVEL 7) 100
def probes (r : List Nat) (w : State) : State := w.setExch 7 7 { exch .probing [] with origin := .probe, res := r }
def probed (a : Nat) (q : Int) (s : State) : State := (s.set 7 (F.CWT_P_LAST_AMPL 7) a).set 7 (F.CWT_P_LAST_DETUNE 7) (field 16 q)
def warmed (s : State) : State := if s.device = .active then s.set 7 F.CWT_TEMP_TEMP (s.get 7 F.FDC_STAT_TEMP) else s
def counted (s : State) : State := s.setWatch 7 7 { s.watchOf 7 7 with probed := true, probes := min 65535 ((s.watchOf 7 7).probes + 1) }
def pa : State := probed 4464 (-3) (probes [] on)
def pb : State := warmed pa
def pc : State := counted pb
def detects (r : List Nat) : State := probes r (((((on.setPage 7 0x0E 2).setWatchState 7 7 2).set 7 (F.CWT_P_THR_THR_A 7) 1).set 7 (F.CWT_P_CFG_DEB 7) 0).set 7 (F.CWT_P_CFG_MASK 7) 15)
def da (r : List Nat) : State := probed 900 0 (detects r)
def db (r : List Nat) : State := warmed (da r)
def dc (r : List Nat) : State := counted (db r)
end W

namespace W
def credit (n : Nat) : State := ((awake.setPage 0 8 2).setCls 1 { free := 20 }).setRx n
def nocredit (n : Nat) : State := ((awake.setPage 0 8 2).setCls 1 { frozen := true }).setRx n
def rx (n : Nat) : State := (awake.set 0 F.RFC_STAT_RSTATE 4).setRx n
def setRadioRx (s : State) (r : Option RxRun) : State := { s with radio := { s.radio with rx := r } }
def rxRun : RxRun := ⟨false, false, 0, 1, 6, 0, 0, none, false⟩
def recv (n : Nat) (r : RxRun) : State := setRadioRx (credit n) (some r)
def recvFull (r : RxRun) : State := setRadioRx (nocredit 5) (some r)
def hop (n : Nat) : State := awake.set 0 (F.RFC_HOP_EN n) 1
def rcmd (c : Nat) : RadioCmd :=
  { code := c, after := 0, pri := false, template := 0, channel := 0, ticket := noTicket, list := none }
def radioOn : State :=
  (((credit 0).setPage 0 0x10 2).setPage 0 0x0F 2).set 0 F.RFC_STAT_PERMIT 1
def radioQ (q : List RadioCmd) : State := { radioOn with radio := { queue := q } }
def radioQX (q : List RadioCmd) : State := { radioQ q with hamper := {} }.setCls 1 { frozen := true }
def radioQS (q : List RadioCmd) : State := { radioQX q with radio := { queue := q, creditSeen := true } }
def startHop (l : List Nat) : State := { awake with radio := { startup := 5 :: l } }
def radioQC (q : List RadioCmd) : State := radioQ q
def goal (st g : Nat) : State := { awake.set 0 F.RFC_STAT_RSTATE st with radio := { goal := some (g, 3) } }
def goal23 : State := ((goal 1 3).set 0 F.RFC_STAT_RSTATE 2).set 0 F.RFC_STAT_CHAN 3
def ready6 : State := { radioOn.set 0 F.RFX_CFG_UNCODED_EN 1 with radio := { queue := [rcmd 5], running := true } }
def ready5 : State := { ready6 with lockBlock := [0x86D887F0, 0x80000000] }
def txRun (n : Nat) : TxRun :=
  { cls := 0, flags := 0, body := [], secure := none, len := 0, power := 0, clamped := false, subband := 0, started := n == 1 }
def ramp (duty used : Nat) : State :=
  { (awake.set 0 F.RFC_STAT_RSTATE 3).set 0 (F.RFC_HOP_VALID 0) 1 with
    lockBlock := [0, BitVec.ofNat 32 duty], radio := { queue := [rcmd 5], running := true, tx := some (txRun 0), charges := [(0, 0, used)] } }
def sending : State := { awake with radio := { queue := [rcmd 5], running := true, tx := some (txRun 1) } }
def masked (l : List Nat) : State :=
  { (awake.set 0 F.RFX_CFG_ISARI 1).setReg 0 0x0F 0x0AC 0x00010001 with radio := { tx := some { txRun 1 with maskBad := l } } }
def stale : State :=
  (((hop 127).setPage 0 0x12 2).set 0 F.RFC_STAT_RSTATE 1).setCalTarget (hopSet 127)
    { awake.calTarget (hopSet 127) with due := true }
def keyed : State := { awake with radio := { tx := some { txRun 1 with secure := some (5, 63, []) } } }
def hopRun (n : Nat) (b : Bool) : State :=
  { (awake.set 0 F.RFC_STAT_RSTATE 2).set 0 F.RFC_STAT_CHAN n with radio := { hopRun := if b then some 0 else none } }
def endHop (s : State) (n : Nat) : State :=
  ((s.setCalTarget (hopSet n) { s.calTarget (hopSet n) with due := false, aged := false }).set 0 (F.RFC_HOP_VALID n) 1).endRun
    (hopSet n) true 250 [(13, 0, 3), (14, 0, 4)]
end W

namespace W
def prun : PleRun := { prio := 3, start := 0, last := 10, pc := 0, flags := 0, steps := 0, time := 5, wait := .none }
def prog (s : State) (w v : Word) (r : PleRun) : State :=
  ((((s.setPage 0 0x0B 2).set 0 F.PLE_CFG_MAXSTEP 1000).setMemWord (hostAddr 0 0xB0 0) w).setMemWord (hostAddr 0 0xB0 4) v).setList 31
    { run := some r }
def ple (w v : Word) : State := prog awake w v prun
def pleU (s : State) : State :=
  { s with ple := { s.ple with last := Store.insert (Store.erase s.ple.last 3) 3 31, wrote := [] } }
def pleR (s : State) : State := { s with ple := { s.ple with wrote := [] } }
def pleV (w v : Word) : State := ((ple w v).setPleVar 1 5).setPleVar 2 9
def pleC (w v : Word) : State := ((ple w v).setPage 0 8 2).setCls 3 { free := 50 }
def pleX (w v : Word) : State := ((ple w v).setPage 0 8 2).setCls 3 { frozen := true }
def pleL (w v : Word) : State := (ple w v).set 0 (F.PLE_L_CFG_EN 30) 1
def pleT (w v : Word) : State :=
  (((ple w v).setPage 0 0x0E 2).setReg 0 0x0C (0x808 + 32 * 63) 0xFFF).set 0 (F.RFC_HOP_EN 0) 1
def pleF (w v : Word) : State :=
  { ple w v with
    ssc := { queue := List.replicate 64 { template := 0, buf := 0, tag := 0, list := none } }, radio := { queue := List.replicate 8 (rcmd 1) } }
def pleTag (w v : Word) : State := prog tagged w v prun
def pleNotag (w v : Word) : State := prog notag w v prun
def pleTagSleeps (w v : Word) : State := (pleTag w v).setPhase .drain
def pleWaits (x : PleWait) (w : Word) : State :=
  (((prog awake w 0 { prun with wait := x }).setPage 0 8 2).setCls 3 { free := 50 }).set 0 (F.RFC_HOP_EN 0) 1
def spiEnds (st : Nat) : State := { pleWaits .spi 0xA0108400 with ssc := { results := [(31, st, [7], 9)] } }
def adcEnds : State := { (pleWaits .adc 0xB0100700).setPage 0 0x0E 2 with saf := { reqs := [(7, 1, some 31)] } }
def recEnds (k : Nat) (x : PleWait) (ws : List Word) : State :=
  { pleWaits x (if k < 32 then 0xB8100000 else 0xC0100000) with recDone := [(k, ws)] }
def periodic (n : Nat) : State :=
  ((pleL 0 0).set 0 (F.PLE_L_TRIG_KIND n) 1).setList n { due := some 0 }
end W

namespace W
def entry : SscEntry := { template := 0, buf := 0, tag := 0, list := none }
def sscOn : State := awake.setPage 0 0x0C 2
def sscFull : State := { sscOn with ssc := { queue := List.replicate 64 entry } }
def sscDrive : State := { sscOn.set 0 F.SSC_SELCFG_DRIVE 1 with ssc := { queue := [entry] } }
def sscDriveL : State := { sscDrive with ssc := { queue := [{ entry with list := some 31 }] } }
def hears (dest : Nat) : State :=
  (((awake.setPage 0 0x0D 2).set 0 F.SSL_STAT_SELACT 1).set 0 F.SSL_CFG_WIDTH 7).set 0 F.SSL_CFG_DEST dest
def cmp : State := ((awake.setPage 0 0x0E 2).set 0 (F.SAF_CMP_EN_ACT 3) 1).set 0 (F.SAF_CMP_THR 3) 512
def queued : State := { awake.setPage 0 8 2 with hamper := { sysq := [.mark 3 5 9] } }
def op (k kind : Nat) : State :=
  ((awake.set 0 (F.PG_COMMIT_PEND 0x09) 1).set 0 F.TKT_OP_OP k).setReg 0 0x09 0x028 (BitVec.ofNat 32 (kind * 536870912))
def opBad (k : Nat) : State := (op k 0).setReg 0 0x09 0x030 (BitVec.ofNat 32 (k * 268435456 + 16383))
def wordIn (n : Nat) : State :=
  { hears 1 with ssl := { part := List.replicate n true, active := true } }
def snapSaves : State :=
  { (awake.set 0 F.TKT_SNAP_BUSY 1).set 0 F.TKT_SNAP_SAVE 1 with nv := { State.reset.nv with ops := [.snapSave] } }
def snapSavedU : State :=
  (((snapSaves.saveTo 3072).set 0 F.TKT_SNAP_BUSY 0).set 0 F.TKT_SNAP_SAVE 0).nvPop.nvBetween
def snapLoads : State :=
  let s := (awake.set 0 F.TKT_SNAP_BUSY 1).set 0 F.TKT_SNAP_LOAD 1
  { s with nv := { s.nv with snap := some [] } }
def source (w : Word) : State := ((awake.setReg 0 5 0x00C 2).setReg 0 5 0x010 2).setReg 0 5 0x414 w
def interrupt : State := source 0x008001FE
def claimed : State := { source 0x109001FE with icu := { claims := [(0, 510)] } }
def unclaims (s : State) : State :=
  let b := s.attnSync
  { b with icu := { b.icu with claims := Store.erase b.icu.claims 3 } }
def serving : State := source 0x1CF001FE
def remapped : State :=
  ((interrupt.attnSync.writeRo 0 5 0x414 0x001FF1FD).set 0 (F.ICU_SRC_SLOT 5) 509).set 0 (F.ICU_SRC_TARGET 5) 1
def inService : State := (interrupt.attnSync.set 0 (F.ICU_SRC_INSVC 5) 1).set 0 (F.ICU_SRC_SVCT 5) 3
def asleep : State := { awake with device := .watch }
end W

namespace W
def sleepers : State :=
  ([0, 1, 2, 3, 4, 5, 6, 7].foldl (fun s p => s.set 1 (F.CWT_P_CFG_SLEEP p) 1) awake).set 2 (F.CWT_P_CFG_SLEEP 0) 1
def waking : State := { asleep with power := { waking := true, wakeSrc := 1 } }
def asks (c v : Nat) : State :=
  { awake with supply := { inForce := some 2000, waiting := some { cmd := c, value := v } } }
def flies (c : Nat) : State :=
  { awake with supply := { flight := some { cmd := c, value := 2000 }, sent := 2000 } }
def off : State := { State.reset with device := .off }
def calSaves : State := (awake.set 0 F.CAL_SAVE_BUSY 1).nvQueue .calSave
def calRuns : State := awake.setCalTarget 0 { awake.calTarget 0 with running := true }
def wantsTest : State := awake.setTest (testKey 5 0 0) { requested := true }
def tests : State := awake.setTest (testKey 5 0 0) { running := true }
def swap : Swap := { die := 7, port := 7, spare := 15, outgoing := none, outEn := true, passed := [] }
def swaps : State := { up with darn := { swaps := [swap] } }
def swapsTested : State := swaps.setTest (testKey 1 7 9) { last := 0 }
def swapsNone : State := { up with darn := { swaps := [{ swap with passed := [8, 9] }] } }
def swapsBusy : State := swaps.setExch 7 7 (exch .listen [])
def dieOff : State := up.set 7 F.DPWR_STAT_PSTATE 0
def dieOffU : State := { dieOff with power := { dieOff.power with lostWatch := 0 } }
def calDue : State := awake.setCalTarget 17 { awake.calTarget 17 with due := true }
def darned : State := up.set 7 F.DDRN_SLICES_DARNED 512
def withNv (s : State) (n : Nv) : State := { s with nv := n }
def nvFull : State :=
  withNv (awake.set 0 F.NVS_ADDR_SLOT 3) { State.reset.nv with ops := List.replicate 64 (.program 2 0 0) }
def nvWritten : State := withNv (awake.set 0 F.NVS_ADDR_SLOT 3) { State.reset.nv with slots := [(49152, 9)] }
def lockable : State := (List.range 8).foldl (fun s b => s.setReg 0 0x14 (0x104 + 8 * b) 1) awake
def locked : State := withNv awake { State.reset.nv with lockDone := true, debugLock := true }
def nvRuns : State := withNv (awake.set 0 F.NVS_WEAR_SPARES 200) { State.reset.nv with ops := [.eraseSlot 3] }
def nvU : State :=
  ((withNv nvRuns { State.reset.nv with ops := [] }).set 0 F.NVS_WEAR_SPARES 7).set 0 F.NVS_WEAR_WORN 255
def load (ph : LoadPhase) : Load := { slot := 1, phase := ph }
def loads (ph : LoadPhase) : State := { awake with load := some (load ph) }
def loadsU : State := { loads .check with coord := { (loads .check).coord with loading := true } }
def busyLoad : State := { sending with load := some (load .drain) }
end W

namespace W
def trigWith (l : PleList) : State := ((awake.setPage 0 0x0B 2).set 0 (F.PLE_L_CFG_EN 31) 1).setList 31 l
def trig : State := trigWith { run := some prun }
def trigP : State := trigWith { run := some prun, pend := some (5, 9) }
def trigF : State := trigWith { faulted := true }
def trigN : State := trigWith { pend := some (5, 9) }
def trigE : State := ple 0 0
end W

/-- Well-formedness refuses these operands. -/
theorem test_wf_refuses_1 : (
    [.seamBadCrc 8 false false, .seamWatchdog 8 false, .seamIdleWord 8 false, .seamRegisterAccess 0 0 false 0 0,
      .seamRegisterAccess 1 0 false 1048576 0, .recordWordArrival 0 0, .recordWordArrival 1 65536, .seamRetrainStart
      8, .seamRetrainEnd 8 false, .seamRestored 8, .dieSeamSilence 0, .dieAnchorSilence 0, .anchorKeepAlive 0, .rejoin
      0 false, .dieRejoined 0, .carrierUnlock 0, .carrierRelock 0, .timeLoad 0 0 false, .tbsAlmHiWrite 2 0, .alarmFire
      2, .pgCtrlEn 8 0 false, .pgCtrlEn 1 256 false, .pgCtrlDrain 8 0 false, .pgCtrlDrain 1 256 false, .pgCtrlCommit 8
      0, .pgCtrlCommit 1 256, .pgCtrlTest 8 0, .pgCtrlTest 1 256, .pgCtrlLock 8 0, .pgCtrlLock 1 256] : List Instr).all (fun i => !i.wf) = true := by
  decide

/-- Well-formedness refuses these operands. -/
theorem test_wf_refuses_2 : (
    [.pageReady 8 0 false, .pageReady 1 256 false, .pageDrainEnd 8 0, .pageDrainEnd 1 256, .commitTakeEffect 8 0 0,
      .commitTakeEffect 1 256 0, .commitTakeEffect 1 0 8, .pgEvtClear 8 0 0 0, .pgEvtClear 1 256 0 0, .pgFirsterrClear
      8 0 0 none, .pgFirsterrClear 1 256 0 none, .registerWrite 16777216 0, .windowWrite 16777216 0, .read 16777216
      false false 0 none 0, .write 16777216 [] false 0, .write 0 [0] false 0, .writeCommit 16777216 [] false 0,
      .writeCommit 0 [0] false 0, .hamperRead 16777216 false false 0 none, .profileLoad 16777216 false 0, .softReset
      256 0 false 0, .softReset 0 256 false 0, .unknownCmd 16 false 0, .twWriteTransfer (some 128) [] false false,
      .twReadTransfer (some 128) 0 false false, .quickCommand 128 false, .sliceEnergise 0 0 false, .sliceEnergise 1 10
      false, .rampUpEnd 0 0, .rampUpEnd 1 10] : List Instr).all (fun i => !i.wf) = true := by
  decide

/-- Well-formedness refuses these operands. -/
theorem test_wf_refuses_3 : (
    [.rampDownEnd 0 0, .rampDownEnd 1 10, .guardEnd 0 0, .guardEnd 1 10, .overcurrent 0 0, .overcurrent 1 10,
      .openLoad 0 0, .openLoad 1 10, .sliceStartCheck 0 0 false, .sliceStartCheck 1 10 false, .senseInterval 0 0 0 0 0
      0, .senseInterval 1 10 0 0 0 0, .cwStart 0 0, .cwStart 1 10, .cwStop 0 0, .cwStop 1 10, .cwTimeout 0 0,
      .cwTimeout 1 10, .phaseCommand 0 0 0 false, .phaseCommand 1 10 0 false, .roundStart 64 false, .thermalSample [],
      .dieWakeLead 64, .dieDozeReturn 0, .listenerWithdraw 0 0 0 false, .listenerWithdraw 1 8 0 false,
      .listenerWithdraw 1 0 56 false, .neighbourTermSwitch 0 0 0 false, .neighbourTermSwitch 1 8 0 false,
      .neighbourTermSwitch 1 0 4 false] : List Instr).all (fun i => !i.wf) = true := by
  decide

/-- Well-formedness refuses these operands. -/
theorem test_wf_refuses_4 : (
    [.settleEnd 0 0, .settleEnd 1 8, .txFrameEnd 0 0 [], .txFrameEnd 1 8 [], .txFrameEnd 1 0 [(56, 0)], .replyStart 0
      0 0 0 0, .replyStart 1 8 0 0 0, .replyEnd 0 0 [] 0 false none [], .replyEnd 1 8 [] 0 false none [],
      .responseWindowEnd 0 0 [], .responseWindowEnd 1 8 [], .retryStart 0 0, .retryStart 1 8, .eofReqSend 0 0,
      .eofReqSend 1 8, .activateNextCommand 0 0, .activateNextCommand 1 8, .fieldHoldExpiry 0 0, .fieldHoldExpiry 1 8,
      .xenHoldEnd 0 0, .streamGap 0 0 0, .streamGap 1 8 0, .streamGap 1 0 56, .invSlotEof 0 0, .invSlotEof 1 8,
      .separationSolveEnd 0 0 0 [] [], .separationSolveEnd 1 8 0 [] [], .separationSolveEnd 1 0 16 [] [], .probeDue 0
      0, .probeDue 1 8] : List Instr).all (fun i => !i.wf) = true := by
  decide

/-- Well-formedness refuses these operands. -/
theorem test_wf_refuses_5 : (
    [.probeEnd 0 0 0 0, .probeEnd 1 8 0 0, .watchAbsorb 0 0, .watchAbsorb 1 8, .watchTempSample 0 0, .rxAgcRerunEnd 0
      25, .rxHeaderEnd 65536 0, .rssiUpdate 0 25, .radioCmdSynth 128, .radioCmdRx 128, .radioCmdTx 4 false 0 0 0,
      .radioCmdTx 0 false 16 0 0, .radioCmdTx 0 false 0 128 0, .radioCmdTx 0 false 0 0 16384, .radioCmdCal 128,
      .hopCalEnd 128 0 0 0, .secKeyLoad 64, .secKeyErase 64, .pleStart 32, .pleStop 32, .plePeriodDue 32, .pleEnd 32,
      .pleWait 32, .pleWaitEnd 32, .pleMovi 32, .pleMovw 32, .pleLoad 32, .pleStore 32, .pleAdd 32, .pleSub 32] : List Instr).all (fun i => !i.wf) = true := by
  decide

/-- Well-formedness refuses these operands. -/
theorem test_wf_refuses_6 : (
    [.pleScale 32, .pleExt 32, .pleIir 32, .pleMedian5 32, .pleMean 32, .pleCmph 32, .pleWindow 32, .pleTime 32,
      .pleBranch 32, .pleEmit 32, .pleEmitCredit 32, .pleRaise 32, .pleTrig 32, .pleSpi 32, .pleSpiDone 32, .pleListen
      32, .pleListenDone 32, .pleAdc 32, .pleAdcDone 32 [], .pleTag 32, .pleTagDone 32, .pleRadio 32, .pleRadioDone
      32, .pleVariableWrite 64 0, .sscQpush 65536 0 0, .sscQpush 0 4 0, .sscQpush 0 0 64, .safReq 16 0, .safReq 0 8,
      .comparatorStrobe 4 0] : List Instr).all (fun i => !i.wf) = true := by
  decide

/-- Well-formedness refuses these operands. -/
theorem test_wf_refuses_7 : (
    [.creditMismatch 4 0, .tktSnapSaveEnd false 0 65536, .icuClaim 4 [] false, .icuClaim 0 [4] false, .icuComplete 4
      0, .icuComplete 0 512, .icuSrcWrite 420 0, .icuTargetCfgWrite 4 0, .icuModgapEnd 4, .icuLevelChange 420,
      .icuSleepLatch 420 0, .icuSleepLatch 0 32, .wakeDomainReady 8 false [], .wakeDomainReady 1 false [(256, 0)],
      .wakeComplete 256, .keepRun 0, .dieOffIdle 0, .srlSet 4096 .host, .srlStepUp 4096, .srlStepDown 4096, .resetEnd
      4 0, .resetEnd 0 8, .startupReady 256 [], .calReqSlice 8 0, .calReqSlice 1 1024, .calReqSpare 8 0, .calReqSpare
      1 1024, .calReqDie 8, .dieTempUpdate 0 0, .calRunEnd 128 0 0 0 []] : List Instr).all (fun i => !i.wf) = true := by
  decide

/-- Well-formedness refuses these operands. -/
theorem test_wf_refuses_8 : (
    [.calMaxdeferExpiry 128, .hopCalBackground 128, .bstReqSlice 8 0, .bstReqSlice 1 1024, .bstReqDie 8, .bstReqSeam
      256, .bstReqRadio 128, .testStart 6 1 0, .testStart 1 8 0, .testStart 1 1 128, .testEnd 6 1 0 [] 0 false,
      .testEnd 1 8 0 [] 0 false, .testEnd 1 1 128 [] 0 false, .testEnd 1 1 0 [16] 0 false, .drnSwapCmd 8 0 0,
      .drnSwapCmd 1 8 0, .drnSwapCmd 1 0 16, .drnUndarn 8 0, .drnUndarn 1 16, .darnSwapExecute 0 0, .darnSwapExecute 1
      8, .netfaultClear 0 0, .netfaultClear 1 8, .nvsEraseSlot 4, .nvsRegLock 256, .nvsDebugLock 256, .devLoad 4,
      .gppEdge 8 false, .dozeToRun 0, .turnaroundGapEnd 0 0] : List Instr).all (fun i => !i.wf) = true := by
  decide

/-- Well-formedness refuses these operands. -/
theorem test_wf_refuses_9 : (
    [.turnaroundGapEnd 1 8, .phaseSlewEnd 0 0, .phaseSlewEnd 1 10] : List Instr).all (fun i => !i.wf) = true := by
  decide

/-- Well-formedness admits these operands. -/
theorem test_wf_admits_1 : (
    [.seamBadCrc 0 false false, .seamWatchdog 0 false, .seamIdleWord 0 false, .seamRegisterAccess 1 0 false 0 0,
      .recordWordArrival 1 0, .seamRetrainStart 0, .seamRetrainEnd 0 false, .seamRestored 0, .dieSeamSilence 1,
      .dieAnchorSilence 1, .anchorKeepAlive 1, .rejoin 1 false, .dieRejoined 1, .carrierUnlock 1, .carrierRelock 1,
      .timeLoad 1 0 false, .realigned, .tbsMeasUpdate 0, .tbsAlmHiWrite 0 0, .alarmFire 0, .pgCtrlEn 1 0 false,
      .pgCtrlDrain 1 0 false, .pgCtrlCommit 1 0, .pgCtrlTest 1 0, .pgCtrlLock 1 0, .pageReady 1 0 false, .pageDrainEnd
      1 0, .commitTakeEffect 1 0 0, .pgEvtClear 1 0 0 0, .pgFirsterrClear 1 0 0 none] : List Instr).all (fun i => i.wf) = true := by
  decide

/-- Well-formedness admits these operands. -/
theorem test_wf_admits_2 : (
    [.registerWrite 0 0, .windowWrite 0 0, .status false 0 false, .read 0 false false 0 none 0, .write 0 [] false 0,
      .writeCommit 0 [] false 0, .hamperRead 0 false false 0 none, .wake false 0, .profileLoad 0 false 0, .softReset 0
      0 false 0, .unknownCmd 0 false 0, .tokenReady 0 0, .readTimeout 0, .hselWake, .twWriteTransfer none [] false
      false, .twReadTransfer none 0 false false, .quickCommand 0 false, .winMidWrite 0 false, .grant2Read false,
      .streamRead false, .twStretchRelease, .twStretchTimeout, .busProto false, .sclLow, .sdaLow, .busFree,
      .attentionStart false, .attnSent, .attnNack, .arbLost false false false] : List Instr).all (fun i => i.wf) = true := by
  decide

/-- Well-formedness admits these operands. -/
theorem test_wf_admits_3 : (
    [.attnBackoffEnd, .twAddressWake, .sliceEnergise 1 0 false, .rampUpEnd 1 0, .rampDownEnd 1 0, .guardEnd 1 0,
      .overcurrent 1 0, .openLoad 1 0, .sliceStartCheck 1 0 false, .senseInterval 1 0 0 0 0 0, .cwStart 1 0, .cwStop 1
      0, .cwTimeout 1 0, .phaseCommand 1 0 0 false, .fcoRun 0, .fcoAbort 0, .candidateAgeing 0, .roundStart 0 false,
      .thermalSample [0], .vsupWindowEnd 0, .vsupIdleRequest, .dieWakeLead 0, .dieDozeReturn 1, .listenerWithdraw 1 0
      0 false, .neighbourTermSwitch 1 0 0 false, .settleEnd 1 0, .txFrameEnd 1 0 [], .replyStart 1 0 0 0 0, .replyEnd
      1 0 [] 0 false none [], .responseWindowEnd 1 0 []] : List Instr).all (fun i => i.wf) = true := by
  decide

/-- Well-formedness admits these operands. -/
theorem test_wf_admits_4 : (
    [.retryStart 1 0, .eofReqSend 1 0, .activateNextCommand 1 0, .fieldHoldExpiry 1 0, .xenHoldEnd 1 0, .streamGap 1 0
      0, .invSlotEof 1 0, .separationSolveEnd 1 0 0 [] [], .probeDue 1 0, .probeEnd 1 0 0 0, .watchAbsorb 1 0,
      .watchTempSample 1 0, .rxRssiDetect 0, .rxPreambleQualified, .rxDetectTimeout 0 0, .rxSfdFound 0, .rxSfdTimeout,
      .rxFreeSfd, .rxCapture 0 false, .rxAgcRerunEnd 0 0, .rxHeaderEnd 0 0, .rxPayloadEnd [], .rssiUpdate 0 0,
      .maskMeasure [], .radioCmdSleep, .radioCmdStandby, .radioCmdSynth 0, .radioCmdRx 0, .radioCmdTx 0 false 0 0 0,
      .radioCmdCal 0] : List Instr).all (fun i => i.wf) = true := by
  decide

/-- Well-formedness admits these operands. -/
theorem test_wf_admits_5 : (
    [.radioCmdCalAll, .radioCmdFlush, .radioCmdStart, .radioStateReached, .txCreditReserved, .txRampStart,
      .txSynthDeadline, .synthLockLoss, .txLastChip, .hopCalEnd 0 0 0 0, .cxgntAssert, .coexGrantTimeout,
      .cxgntWithdraw, .dutyClockSecond, .secKeyLoad 0, .secKeyErase 0, .pleStart 0, .pleStop 0, .plePeriodDue 0,
      .pleEnd 0, .pleWait 0, .pleWaitEnd 0, .pleMovi 0, .pleMovw 0, .pleLoad 0, .pleStore 0, .pleAdd 0, .pleSub 0,
      .pleScale 0, .pleExt 0] : List Instr).all (fun i => i.wf) = true := by
  decide

/-- Well-formedness admits these operands. -/
theorem test_wf_admits_6 : (
    [.pleIir 0, .pleMedian5 0, .pleMean 0, .pleCmph 0, .pleWindow 0, .pleTime 0, .pleBranch 0, .pleEmit 0,
      .pleEmitCredit 0, .pleRaise 0, .pleTrig 0, .pleSpi 0, .pleSpiDone 0, .pleListen 0, .pleListenDone 0, .pleAdc 0,
      .pleAdcDone 0 [], .pleTag 0, .pleTagDone 0, .pleRadio 0, .pleRadioDone 0, .pleVariableWrite 0 0, .pleVvalidClear
      false 0, .pleRaiseClear 0, .sscQpush 0 0 0, .sscEntryStart [], .sscEntryEnd, .sscDonePop, .slselAssert false 0,
      .listenerWord [] 0] : List Instr).all (fun i => i.wf) = true := by
  decide

/-- Well-formedness admits these operands. -/
theorem test_wf_admits_7 : (
    [.slselRelease false 0, .selStuck, .listenerReserve, .safReq 0 0, .safConvDone [], .comparatorStrobe 0 0,
      .creditMismatch 0 0, .systemRecordWrite, .hmpMark 0, .tktOpNone, .tktOpWrite, .tktOpInsert, .tktOpDelete,
      .tktOpLookup, .tktSnapSave, .tktSnapSaveEnd false 0 0, .tktSnapLoad, .tktSnapLoadEnd false, .icuClaim 0 []
      false, .icuComplete 0 0, .icuSrcWrite 0 0, .icuTargetCfgWrite 0 0, .icuModgapEnd 0, .icuLevelChange 0,
      .icuSleepLatch 0 0, .sleepDeepRequest, .sleepWatchRequest, .entryTimeout, .sleepPrepare, .sleepCommit] : List Instr).all (fun i => i.wf) = true := by
  decide

/-- Well-formedness admits these operands. -/
theorem test_wf_admits_8 : (
    [.wakePinAssert false 0, .wakeDomainReady 1 false [], .wakeComplete 0, .padRelease 0, .keepRun 1, .dieOffIdle 1,
      .srlSet 0 .host, .srlStepUp 0, .srlStepDown 0, .srlQuery, .srlFrameStart, .srlAck, .srlNoack, .powerOn false,
      .vsupLoss false, .vsupDip, .nrstLow, .coreRailReset, .resetEnd 0 0, .memoryTestEnd [], .startupReady 0 [],
      .calReqSlice 1 0, .calReqSpare 1 0, .calReqDie 1, .calReqAnchor, .calReqAll, .dieTempUpdate 1 0, .calRunEnd 0 0
      0 0 [], .calMaxdeferExpiry 0, .anchorCalStart] : List Instr).all (fun i => i.wf) = true := by
  decide

/-- Well-formedness admits these operands. -/
theorem test_wf_admits_9 : (
    [.hopCalBackground 0, .calSave, .calAutosave, .calSaveEnd false, .bstReqSlice 1 0, .bstReqDie 1, .bstReqSeam 0,
      .bstReqRadio 0, .bstReqAnchor, .bstReqAll, .bstPeriodic, .testStart 1 1 0, .testEnd 1 1 0 [] 0 false,
      .drnSwapCmd 1 0 0, .drnUndarn 1 0, .darnSwapExecute 1 0, .darnMapWritten, .netfaultClear 1 0, .nvsEraseSlot 0,
      .nvsRegLock 0, .nvsDebugLock 0, .nvsWdataWrite 0, .nvsRdataRead false, .nvOpDone false 0 0, .devLoad 0,
      .profileCheckEnd, .profileDrainEnd, .profileLoadTimeout, .profileCommit false, .gppEdge 0 false] : List Instr).all (fun i => i.wf) = true := by
  decide

/-- Well-formedness admits these operands. -/
theorem test_wf_admits_10 : (
    [.dozeToRun 1, .turnaroundGapEnd 1 0, .phaseSlewEnd 1 0] : List Instr).all (fun i => i.wf) = true := by
  decide

/-- The example of the chapter on dies: aerial port 29 is port 5 of field die 4. -/
theorem test_aerial_port : portDie 29 = 4 ∧ portIx 29 = 5 ∧ aerial 4 5 = 29 := by decide

/-- The example of R628: the source of the XEN page of field die 3 is 232. -/
theorem test_page_source : pageSource 3 0x0C = 232 := by decide

/-- The example of the window: FCO_PLAN15_CFG stands at host address 0x00A4F0. -/
theorem test_plan_address : hostAddr 0 (F.FCO_PLAN_CFG_EN 15).page (F.FCO_PLAN_CFG_EN 15).off = 0x00A4F0 := by decide

/-- R60: 32,768 periods at the reset increment are 27,120,000 ticks. -/
theorem test_reset_increment :
    32768 * (State.reset.get 0 F.TBS_INC_INT_INT * 2 ^ 32 + State.reset.get 0 F.TBS_INC_FRAC_FRAC) = 27120000 * 2 ^ 32 := by
  decide

/-- The example of WMIN: 20 ms are 271,200 cycles of fc, two ticks each. -/
theorem test_milliseconds : 20 * ticksPerMs = 2 * 271200 := by decide

/-- R14: a counter one below its maximum stays there after two events, with the flag. -/
theorem test_counter :
    ((W.awake.set 0 (F.PG_ERR_COUNT 5) 32766).countUp 0 (F.PG_ERR_COUNT 5) (F.PG_ERR_OVF 5) 2).reg 0 5 0x014 = 0xFFFF0000 := by
  decide

/-- R97: the first code stays, and every error counts. -/
theorem test_first_error : ((W.awake.err 0 5 3).err 0 5 4).reg 0 5 0x014 = 0x00020003 := by decide

/-- R334: the least significant byte of a window word stands at the lowest address. -/
theorem test_byte_order : Memory.readByte (W.awake.setMemWord 0xB8000 0x04030201).mem 0xB8000 = 1 := by decide

/-- A step runs the front command: NRST_LOW resets the device and leaves the rest of the queue. -/
theorem test_step :
    (match step { W.awake with pending := [.nrstLow, .busFree] } with
      | .next (t : State) => decide (t.device = .reset) && decide (t.pending = [.busFree])
      | _ => false) = true := by decide

/-- No row of the table has bits: no word spells a command. -/
theorem test_no_words : decodeTableWord 32 0 = none ∧ W.awake.withFetchWord 32 0 = W.awake := by decide

/-- R441: the CRC-32 of the ASCII string "123456789". -/
theorem test_crc32 : crc32 [0x31, 0x32, 0x33, 0x34, 0x35, 0x36, 0x37, 0x38, 0x39] = 0xCBF43926 := by decide +kernel

/-- The example of R442: LENGTH 0x14, MODE 2 and FEC give the header 0x145D. -/
theorem test_header : phyHeader 0x12 0x14 = 0x145D := by decide

/-- The example of R442: 15,840 µs at 12.5 kbit/s coded, 5,880 µs at 50 kbit/s. -/
theorem test_air_time : airTime false 0x12 0x14 = 15840 ∧ airTime false 0x10 0x14 = 5880 := by decide

/-- R437: a single 1 gives the taps of both generators, 133 before 171. -/
theorem test_code : convCode [true] =
    [true, true, false, true, true, true, true, true, false, false, true, false, true, true] := by decide


theorem wit_SeamCommands_1 :
    (∃ (s : State) (seam : Nat) (cw again : Bool) (n : Nat), (seam < 8) ∧ (s.seamState seam ≠ 0) ∧ (n = (if again then
      (if cw then (s.seam seam).badCw else (s.seam seam).badCcw) + 1 else 1)) ∧ (n < 4)) ∧
    (∃ (s : State) (seam : Nat) (cw again : Bool) (n : Nat), (seam < 8) ∧ (s.seamState seam ≠ 0) ∧ (n = (if again then
      (if cw then (s.seam seam).badCw else (s.seam seam).badCcw) + 1 else 1)) ∧ (4 ≤ n)) ∧
    (∃ (s : State) (seam : Nat) (cw : Bool), (seam < 8) ∧ (s.seamState seam ≠ 0)) ∧
    (∃ (s : State) (seam : Nat) (cw : Bool), (seam < 8) ∧ (s.seamState seam = 1 ∨ s.seamState seam = 2 ∧ s.flag 0 (if
      cw then F.SEM_SEAM_FAULT_CW seam else F.SEM_SEAM_FAULT_CCW seam) = false)) ∧
    (∃ (s : State) (seam : Nat), (s.awake = true) ∧ (seam < 8) ∧ (s.flag 0 F.SEM_CTRL_RETRAIN_EN = true) ∧
      (s.seamState seam = 2)) ∧
    (∃ (s : State) (seam : Nat) (pass : Bool) (n : Nat), (seam < 8) ∧ (s.seamState seam = 3) ∧ (n = (if pass then
      (s.seam seam).passes + 1 else 0))) :=
  ⟨⟨W.seamUp.setSeam 7 { badCw := 2 }, 7, true, true, 3, by decide⟩,
   ⟨W.seamUp.setSeam 7 { badCw := 3 }, 7, true, true, 4, by decide⟩,
   ⟨W.seamUp, 7, false, by decide⟩,
   ⟨(W.seamUp.set 0 (F.SEM_SEAM_STATE 7) 2).set 0 (F.SEM_SEAM_FAULT_CCW 7) 1, 7, true, by decide⟩,
   ⟨(W.awake.set 0 F.SEM_CTRL_RETRAIN_EN 1).set 0 (F.SEM_SEAM_STATE 7) 2, 7, by decide⟩,
   ⟨(W.awake.set 0 (F.SEM_SEAM_STATE 7) 3).setSeam 7 { passes := 2 }, 7, true, 3, by decide⟩⟩

theorem wit_SeamCommands_2 :
    (∃ (s : State) (seam : Nat), (seam < 8) ∧ (s.seamState seam = 2) ∧ ((s.seam seam).restoring = true) ∧
      (s.roundBoundary = true)) ∧
    (∃ (s : State) (seam : Nat), (seam < 8) ∧ (s.seamState seam ≠ 2 ∨ (s.seam seam).restoring = false ∨
      s.roundBoundary = false)) ∧
    (W.awake.seamState 0 = 0) ∧
    (W.seamUp.seamState 7 ≠ 0 ∧ W.seamUp.flag 0 (F.SEM_SEAM_FAULT_CW 7) = false) :=
  ⟨⟨(W.awake.set 0 (F.SEM_SEAM_STATE 7) 2).setSeam 7 { restoring := true }, 7, by decide⟩,
   ⟨W.seamUp, 7, by decide⟩,
   (by decide),
   (by decide)⟩

theorem wit_DieCommands_1 :
    (∃ (s : State) (die : Nat), (s.fieldDie die = true) ∧ (1 ≤ s.pstate die)) ∧
    (∃ (s : State) (die : Nat), (s.fieldDie die = false ∨ s.pstate die = 0)) ∧
    (∃ (s : State) (die : Nat), (s.fieldDie die = true) ∧ (1 ≤ s.pstate die)) ∧
    (∃ (s : State) (die : Nat), (s.fieldDie die = false ∨ s.pstate die = 0)) ∧
    (∃ (s : State) (die : Nat), (s.awake = true) ∧ (s.inService die = true) ∧ (1 ≤ s.pstate die)) ∧
    (∃ (s : State) (die : Nat), (s.awake = false ∨ s.inService die = false ∨ s.pstate die = 0)) :=
  ⟨⟨W.up, 7, by decide⟩,
   ⟨W.up, 0, by decide⟩,
   ⟨W.up, 7, by decide⟩,
   ⟨W.up, 0, by decide⟩,
   ⟨W.up, 7, by decide⟩,
   ⟨W.up, 0, by decide⟩⟩

theorem wit_DieCommands_2 :
    (∃ (s : State) (die : Nat) (reachable : Bool), (s.awake = true) ∧ (s.flag 0 (F.PG_LOCK 0x02) = false) ∧
      (s.fieldDie die = true) ∧ (s.inService die = false) ∧ (reachable = true)) ∧
    (∃ (s : State) (die : Nat) (reachable : Bool), (s.awake = true) ∧ (s.flag 0 (F.PG_LOCK 0x02) = false) ∧
      (s.fieldDie die = false ∨ s.inService die = true ∨ reachable = false)) ∧
    (∃ (s : State) (die : Nat), (s.inService die = true) ∧ (s.locked die = true) ∧ (1 ≤ s.pstate die)) ∧
    (∃ (s : State) (die : Nat), (s.inService die = false ∨ s.locked die = false ∨ s.pstate die = 0)) ∧
    (∃ (s : State) (die : Nat) (u v : State), (s.inService die = true) ∧ (s.locked die = false) ∧ (1 ≤ s.pstate die) ∧
      (u = (s.setBit 0 F.SEM_DIES_LOCKED (die - 1) true).raise 0 0x02 6) ∧ (v = u.setDie die
      { u.die die with heldOff := false })) ∧
    (∃ (s : State) (die : Nat), (s.inService die = false ∨ s.locked die = true ∨ s.pstate die = 0)) :=
  ⟨⟨W.awake, 7, true, by decide⟩,
   ⟨W.up, 7, true, by decide⟩,
   ⟨W.up, 7, by decide⟩,
   ⟨W.up, 0, by decide⟩,
   ⟨W.up.set 0 F.SEM_DIES_LOCKED 0, 7, ((W.up.set 0 F.SEM_DIES_LOCKED 0).setBit 0 F.SEM_DIES_LOCKED 6 true).raise 0 0x02 6, (((W.up.set 0 F.SEM_DIES_LOCKED 0).setBit 0 F.SEM_DIES_LOCKED 6 true).raise 0 0x02 6).setDie 7 {}, by decide⟩,
   ⟨W.up, 7, by decide⟩⟩

theorem wit_DieCommands_3 :
    (∃ (s : State) (die : Nat) (offset : Int) (late : Bool), (s.awake = true) ∧ (s.inService die = true)) ∧
    (∃ (s : State) (die : Nat) (offset : Int) (late : Bool), (s.awake = false ∨ s.inService die = false)) ∧
    (∃ (s : State) (die : Nat) (a b c x y r z v u : State) (ws held : List (Nat × Word)) (pages : List (Nat × Nat)),
      (s.awake = true) ∧ (s.fieldDie die = true) ∧ (s.inService die = false) ∧ ((s.die die).rejoining = true) ∧
      (s.cwUp die = true ∨ s.ccwUp die = true) ∧ (a = s.resetDie die) ∧ (b =
      { a with calSets := (a.nv.cal.filter (fun (e : Nat × CalSet) => decide (e.1 < 0x1000) && e.1 / 16 == die)).foldl (fun (l : List (Nat × CalSet)) e => Store.insert (Store.erase l e.1) e.1 e.2) a.calSets })
      ∧ (c = (List.range 19).foldl (fun (z : State) j => z.set 0 (F.ICU_SRC_LEVEL (pageSource die j)) 0) b) ∧ (x =
      (((c.setBit 0 F.SEM_DIES_REACHABLE (die - 1) true).setBit 0 F.SEM_DIES_LOCKED (die - 1) true).set die
      F.DPWR_STAT_PSTATE 1).setDie die { timeLoaded := true }) ∧ (y = x.applyMaps die) ∧ (ws = y.activeWrites.filter
      (fun e => e.1 / 1048576 == die)) ∧ (pages = (profilePages [die]).filter (fun p => p.1 == die)) ∧
      ((y.writeWindows ws).stageImage pages (fun _ => false) ws = (r, held)) ∧ (z = (if ws.isEmpty then y else
      r.commitStaged pages held)) ∧ (v =
      { z with coord := { z.coord with released := z.coord.released.filter (fun n => portDie n != die), lineBlocked := die :: z.coord.lineBlocked.filter (· != die) } })
      ∧ (u = ((v.raise 0 0x02 3).reroute).dieDue die)) ∧
    (∃ (s : State) (die : Nat), (s.awake = false ∨ s.fieldDie die = false ∨ s.inService die = true ∨ (s.die
      die).rejoining = false ∨ s.cwUp die = false ∧ s.ccwUp die = false)) ∧
    ((W.up.setFstate 7 9 2).fstate 7 9 = 2 ∧ ((W.up.setFstate 7 9 2).cancelDrive 7 9).fstate 7 9 = (W.up.setFstate 7 9
      2).fstate 7 9) ∧
    (((W.up.setFstate 7 9 1).cancelDrive 7 9).fstate 7 9 = 1) :=
  ⟨⟨W.up, 7, -5, true, by decide⟩,
   ⟨W.up, 0, -5, true, by decide⟩,
   ⟨W.rejoins, 1, _, _, _, _, _, _, _, _, _, _, _, _, by decide, by decide, by decide, by decide, by decide, rfl, rfl, rfl, rfl, rfl, rfl, rfl, rfl, rfl, rfl, rfl⟩,
   ⟨W.up, 7, by decide⟩,
   (by decide),
   (by decide)⟩

theorem wit_SeamAccessAndRecords_1 :
    (∃ (s : State) (die tag : Nat) (write : Bool) (offset : Nat) (data : Word) (r : Word), (s.awake = true) ∧
      (s.inService die = true) ∧ (Store.find? (s.die die).replies tag = some r)) ∧
    (∃ (s : State) (die tag : Nat) (write : Bool) (offset : Nat) (data : Word) (u : State) (reply : Word), (s.awake =
      true) ∧ (s.inService die = true) ∧ (Store.find? (s.die die).replies tag = none) ∧ ((s.touchDie die).seamAccess
      die write offset data = (u, reply))) ∧
    (∃ (s : State) (die xfer : Nat) (r : OutRec) (rest : List OutRec), (s.awake = true) ∧ (s.inService die = true) ∧
      ((s.die die).out = r :: rest) ∧ (r.xfer = xfer)) ∧
    (∃ (s : State) (die xfer : Nat) (r : OutRec) (rest : List OutRec), (s.awake = true) ∧ (s.inService die = true) ∧
      ((s.die die).out = r :: rest) ∧ (r.xfer ≠ xfer)) ∧
    (pageExists 7 (addrPage 0x17010) = false) ∧
    (pageExists 7 (addrPage 0x12010) = true ∧ windowOf 7 (addrPage 0x12010) = .none) :=
  ⟨⟨W.up.setDie 7 { replies := [(3, 5)] }, 7, 3, true, 0, 0, 5, by decide⟩,
   ⟨W.up, 7, 3, true, 0x17010, 1, W.up, 0, by decide⟩,
   ⟨W.up.setDie 7 { out := [W.outRec] }, 7, 1, W.outRec, [], by decide⟩,
   ⟨W.up.setDie 7 { out := [W.outRec] }, 7, 2, W.outRec, [], by decide⟩,
   (by decide),
   (by decide)⟩

theorem wit_SeamAccessAndRecords_2 :
    (windowOf 7 (addrPage 0x40FFC) ≠ .none) ∧
    (((W.up.setDie 7 { out := [W.outRec], sent := 8 }).die 7).out = [W.outRec] ∧ W.outRec.payload.length + 3 ≤
      ((W.up.setDie 7 { out := [W.outRec], sent := 8 }).die 7).sent) :=
  ⟨(by decide),
   (by decide)⟩

theorem wit_TimebaseCommands :
    (∃ (s : State), (s.awake = true) ∧ (s.tb.align = true)) ∧
    (∃ (s : State) (count : Nat), (s.awake = true)) ∧
    (∃ (s : State) (alarm : Nat) (hi : Word), (s.awake = true) ∧ (s.flag 0 (F.PG_LOCK 0x01) = false) ∧ (alarm < 2)) ∧
    (∃ (s : State) (alarm : Nat) (u : State), (alarm < 2) ∧ (s.alarmArmed alarm = true) ∧ (s.flag 0 (alarmEnable
      alarm) = true) ∧ (s.alarmTime alarm ≤ s.time) ∧ (u = (s.setArmed alarm false).raise 0 0x01 alarm) ∧ (u.flag 0
      (alarmWake alarm) = false)) ∧
    (∃ (s : State) (alarm : Nat) (u : State), (alarm < 2) ∧ (s.alarmArmed alarm = true) ∧ (s.flag 0 (alarmEnable
      alarm) = true) ∧ (s.alarmTime alarm ≤ s.time) ∧ (u = (s.setArmed alarm false).raise 0 0x01 alarm) ∧ (u.flag 0
      (alarmWake alarm) = true)) :=
  ⟨⟨{ W.awake with tb := { align := true } }, by decide⟩,
   ⟨W.awake, 27120000, by decide⟩,
   ⟨W.awake, 1, 5, by decide⟩,
   ⟨((W.awake.set 0 F.TBS_CTRL_ALM1_EN 1).setArmed 1 true), 1, (((W.awake.set 0 F.TBS_CTRL_ALM1_EN 1).setArmed 1 true).setArmed 1 false).raise 0 0x01 1, by decide⟩,
   ⟨((W.awake.set 0 F.TBS_CTRL_ALM1_EN 1).setArmed 1 true).set 0 F.PWR_WAKE_EN_ALM1 1, 1, ((((W.awake.set 0 F.TBS_CTRL_ALM1_EN 1).setArmed 1 true).set 0 F.PWR_WAKE_EN_ALM1 1).setArmed 1 false).raise 0 0x01 1, by decide⟩⟩

theorem wit_PageControl_1 :
    (∃ (s : State) (die page : Nat) (value : Bool) (u : State), (s.awake = true) ∧ (RegTable.implemented die page =
      true) ∧ (die = 0 ∨ s.inService die = true) ∧ (u = s.touchDie die) ∧ (u.awake = true) ∧ (u.flag die (F.PG_LOCK
      page) = false) ∧ (u.flag die (F.PG_EN page) = value)) ∧
    (∃ (s : State) (die page : Nat) (value : Bool) (u : State), (s.awake = true) ∧ (RegTable.implemented die page =
      true) ∧ (die = 0 ∨ s.inService die = true) ∧ (u = s.touchDie die) ∧ (u.awake = true) ∧ (u.flag die (F.PG_LOCK
      page) = false) ∧ (u.flag die (F.PG_EN page) = false) ∧ (value = true) ∧ (u.pageState die page = 0)) ∧
    (∃ (s : State) (die page : Nat) (value : Bool) (u : State), (s.awake = true) ∧ (RegTable.implemented die page =
      true) ∧ (die = 0 ∨ s.inService die = true) ∧ (u = s.touchDie die) ∧ (u.awake = true) ∧ (u.flag die (F.PG_LOCK
      page) = false) ∧ (u.flag die (F.PG_EN page) = false) ∧ (value = true) ∧ (u.pageState die page = 3)) ∧
    (∃ (s : State) (die page : Nat) (value : Bool) (u : State), (s.awake = true) ∧ (RegTable.implemented die page =
      true) ∧ (die = 0 ∨ s.inService die = true) ∧ (u = s.touchDie die) ∧ (u.awake = true) ∧ (u.flag die (F.PG_LOCK
      page) = false) ∧ (u.flag die (F.PG_EN page) = false) ∧ (value = true) ∧ (u.pageState die page ≠ 0) ∧
      (u.pageState die page ≠ 3)) ∧
    (∃ (s : State) (die page : Nat) (value : Bool) (u : State), (s.awake = true) ∧ (RegTable.implemented die page =
      true) ∧ (die = 0 ∨ s.inService die = true) ∧ (u = s.touchDie die) ∧ (u.awake = true) ∧ (u.flag die (F.PG_LOCK
      page) = false) ∧ (u.flag die (F.PG_EN page) = true) ∧ (value = false) ∧ (u.pageState die page = 1 ∨ u.pageState
      die page = 2)) ∧
    (∃ (s : State) (die page : Nat) (value : Bool) (u : State), (s.awake = true) ∧ (RegTable.implemented die page =
      true) ∧ (die = 0 ∨ s.inService die = true) ∧ (u = s.touchDie die) ∧ (u.awake = true) ∧ (u.flag die (F.PG_LOCK
      page) = false) ∧ (u.flag die (F.PG_EN page) = true) ∧ (value = false) ∧ (u.pageState die page = 3)) :=
  ⟨⟨(W.up.setPage 7 0x0E 2).set 7 (F.PG_EN 0x0E) 1, 7, 0x0E, true, ((W.up.setPage 7 0x0E 2).set 7 (F.PG_EN 0x0E) 1).touchDie 7, by decide⟩,
   ⟨(W.up.set 7 (F.PG_EN 0x0E) 0).setPage 7 0x0E 0, 7, 0x0E, true, ((W.up.set 7 (F.PG_EN 0x0E) 0).setPage 7 0x0E 0).touchDie 7, by decide⟩,
   ⟨(W.up.set 7 (F.PG_EN 0x0E) 0).setPage 7 0x0E 3, 7, 0x0E, true, ((W.up.set 7 (F.PG_EN 0x0E) 0).setPage 7 0x0E 3).touchDie 7, by decide⟩,
   ⟨(W.up.set 7 (F.PG_EN 0x0E) 0).setPage 7 0x0E 6, 7, 0x0E, true, ((W.up.set 7 (F.PG_EN 0x0E) 0).setPage 7 0x0E 6).touchDie 7, by decide⟩,
   ⟨(W.up.set 7 (F.PG_EN 0x0E) 1).setPage 7 0x0E 2, 7, 0x0E, false, ((W.up.set 7 (F.PG_EN 0x0E) 1).setPage 7 0x0E 2).touchDie 7, by decide⟩,
   ⟨(W.up.set 7 (F.PG_EN 0x0E) 1).setPage 7 0x0E 3, 7, 0x0E, false, ((W.up.set 7 (F.PG_EN 0x0E) 1).setPage 7 0x0E 3).touchDie 7, by decide⟩⟩

theorem wit_PageControl_2 :
    (∃ (s : State) (die page : Nat) (value : Bool) (u : State), (s.awake = true) ∧ (RegTable.implemented die page =
      true) ∧ (die = 0 ∨ s.inService die = true) ∧ (u = s.touchDie die) ∧ (u.awake = true) ∧ (u.flag die (F.PG_LOCK
      page) = false) ∧ (u.flag die (F.PG_EN page) = true) ∧ (value = false) ∧ (u.pageState die page = 5) ∧
      (isSlicePage die page = false)) ∧
    (∃ (s : State) (die page : Nat) (value : Bool) (u : State), (s.awake = true) ∧ (RegTable.implemented die page =
      true) ∧ (die = 0 ∨ s.inService die = true) ∧ (u = s.touchDie die) ∧ (u.awake = true) ∧ (u.flag die (F.PG_LOCK
      page) = false) ∧ (u.flag die (F.PG_EN page) = true) ∧ (value = false) ∧ (u.pageState die page = 5) ∧
      (isSlicePage die page = true)) ∧
    (∃ (s : State) (die page : Nat) (value : Bool) (u : State), (s.awake = true) ∧ (RegTable.implemented die page =
      true) ∧ (die = 0 ∨ s.inService die = true) ∧ (u = s.touchDie die) ∧ (u.awake = true) ∧ (u.flag die (F.PG_LOCK
      page) = false) ∧ (u.flag die (F.PG_EN page) = true) ∧ (value = false) ∧ (u.pageState die page = 0 ∨ 4 =
      u.pageState die page ∨ 6 ≤ u.pageState die page)) ∧
    (∃ (s : State) (die page : Nat) (value : Bool) (u : State), (s.awake = true) ∧ (RegTable.implemented die page =
      true) ∧ (die = 0 ∨ s.inService die = true) ∧ (u = s.touchDie die) ∧ (u.awake = true) ∧ (u.flag die (F.PG_LOCK
      page) = false) ∧ (u.flag die (F.PG_DRAIN page) = value)) ∧
    (∃ (s : State) (die page : Nat) (value : Bool) (u : State), (s.awake = true) ∧ (RegTable.implemented die page =
      true) ∧ (die = 0 ∨ s.inService die = true) ∧ (u = s.touchDie die) ∧ (u.awake = true) ∧ (u.flag die (F.PG_LOCK
      page) = false) ∧ (u.flag die (F.PG_DRAIN page) = !value) ∧ (u.pageState die page = 6)) ∧
    (∃ (s : State) (die page : Nat) (value : Bool) (u : State), (s.awake = true) ∧ (RegTable.implemented die page =
      true) ∧ (die = 0 ∨ s.inService die = true) ∧ (u = s.touchDie die) ∧ (u.awake = true) ∧ (u.flag die (F.PG_LOCK
      page) = false) ∧ (u.flag die (F.PG_DRAIN page) = false) ∧ (value = true) ∧ (u.pageState die page = 1 ∨
      u.pageState die page = 2)) :=
  ⟨⟨(W.up.set 7 (F.PG_EN 0x0E) 1).setPage 7 0x0E 5, 7, 0x0E, false, ((W.up.set 7 (F.PG_EN 0x0E) 1).setPage 7 0x0E 5).touchDie 7, by decide⟩,
   ⟨(W.up.set 7 (F.PG_EN 10) 1).setPage 7 10 5, 7, 10, false, ((W.up.set 7 (F.PG_EN 10) 1).setPage 7 10 5).touchDie 7, by decide⟩,
   ⟨(W.up.set 7 (F.PG_EN 0x0E) 1).setPage 7 0x0E 4, 7, 0x0E, false, ((W.up.set 7 (F.PG_EN 0x0E) 1).setPage 7 0x0E 4).touchDie 7, by decide⟩,
   ⟨W.awake, 0, 0x16, false, (W.awake).touchDie 0, by decide⟩,
   ⟨W.up.setPage 7 10 6, 7, 10, true, (W.up.setPage 7 10 6).touchDie 7, by decide⟩,
   ⟨W.awake.setPage 0 0x16 2, 0, 0x16, true, (W.awake.setPage 0 0x16 2).touchDie 0, by decide⟩⟩

theorem wit_PageControl_3 :
    (∃ (s : State) (die page : Nat) (value : Bool) (u : State), (s.awake = true) ∧ (RegTable.implemented die page =
      true) ∧ (die = 0 ∨ s.inService die = true) ∧ (u = s.touchDie die) ∧ (u.awake = true) ∧ (u.flag die (F.PG_LOCK
      page) = false) ∧ (u.flag die (F.PG_DRAIN page) = !value) ∧ (u.pageState die page ≠ 6) ∧ (value = false ∨
      u.pageState die page ≠ 1 ∧ u.pageState die page ≠ 2)) ∧
    (∃ (s : State) (die page : Nat) (u : State), (s.awake = true) ∧ (RegTable.implemented die page = true) ∧ (die = 0
      ∨ s.inService die = true) ∧ (u = s.touchDie die) ∧ (u.awake = true) ∧ (u.flag die (F.PG_LOCK page) = false) ∧
      (u.pageState die page = 6)) ∧
    (∃ (s : State) (die page : Nat) (u : State), (s.awake = true) ∧ (RegTable.implemented die page = true) ∧ (die = 0
      ∨ s.inService die = true) ∧ (u = s.touchDie die) ∧ (u.awake = true) ∧ (u.flag die (F.PG_LOCK page) = false) ∧
      (u.pageState die page ≠ 6) ∧ (hasShadows die page = true)) ∧
    (∃ (s : State) (die page : Nat) (u : State), (s.awake = true) ∧ (RegTable.implemented die page = true) ∧ (die = 0
      ∨ s.inService die = true) ∧ (u = s.touchDie die) ∧ (u.awake = true) ∧ (u.flag die (F.PG_LOCK page) = false) ∧
      (u.pageState die page ≠ 6) ∧ (hasShadows die page = false)) ∧
    (∃ (s : State) (die page : Nat) (u : State), (s.awake = true) ∧ (RegTable.implemented die page = true) ∧ (die = 0
      ∨ s.inService die = true) ∧ (u = s.touchDie die) ∧ (u.awake = true) ∧ (u.flag die (F.PG_LOCK page) = false) ∧
      (pageTestKind die page = none)) ∧
    (∃ (s : State) (die page : Nat) (u : State) (kind : Nat), (s.awake = true) ∧ (RegTable.implemented die page =
      true) ∧ (die = 0 ∨ s.inService die = true) ∧ (u = s.touchDie die) ∧ (u.awake = true) ∧ (u.flag die (F.PG_LOCK
      page) = false) ∧ (pageTestKind die page = some kind) ∧ (u.flag die (F.PG_TEST page) = true)) :=
  ⟨⟨W.awake.set 0 (F.PG_DRAIN 0x16) 1, 0, 0x16, false, (W.awake.set 0 (F.PG_DRAIN 0x16) 1).touchDie 0, by decide⟩,
   ⟨W.up.setPage 7 10 6, 7, 10, (W.up.setPage 7 10 6).touchDie 7, by decide⟩,
   ⟨W.up, 7, 0x0E, (W.up).touchDie 7, by decide⟩,
   ⟨W.awake, 0, 0x01, (W.awake).touchDie 0, by decide⟩,
   ⟨W.awake, 0, 0x01, (W.awake).touchDie 0, by decide⟩,
   ⟨W.up.set 7 (F.PG_TEST 1) 1, 7, 1, (W.up.set 7 (F.PG_TEST 1) 1).touchDie 7, 1, by decide⟩⟩

theorem wit_PageControl_4 :
    (∃ (s : State) (die page : Nat) (u : State) (kind : Nat), (s.awake = true) ∧ (RegTable.implemented die page =
      true) ∧ (die = 0 ∨ s.inService die = true) ∧ (u = s.touchDie die) ∧ (u.awake = true) ∧ (u.flag die (F.PG_LOCK
      page) = false) ∧ (pageTestKind die page = some kind) ∧ (u.flag die (F.PG_TEST page) = false) ∧ (u.pageState die
      page ≠ 0) ∧ (u.pageState die page ≠ 2)) ∧
    (∃ (s : State) (die page : Nat) (u : State) (kind : Nat), (s.awake = true) ∧ (RegTable.implemented die page =
      true) ∧ (die = 0 ∨ s.inService die = true) ∧ (u = s.touchDie die) ∧ (u.awake = true) ∧ (u.flag die (F.PG_LOCK
      page) = false) ∧ (pageTestKind die page = some kind) ∧ (u.flag die (F.PG_TEST page) = false) ∧ (kind = 1) ∧
      (u.pageState die page = 0 ∨ u.pageState die page = 2 ∧ u.fstate die (page - 1) = 0)) ∧
    (∃ (s : State) (die page : Nat) (u : State) (kind : Nat), (s.awake = true) ∧ (RegTable.implemented die page =
      true) ∧ (die = 0 ∨ s.inService die = true) ∧ (u = s.touchDie die) ∧ (u.awake = true) ∧ (u.flag die (F.PG_LOCK
      page) = false) ∧ (pageTestKind die page = some kind) ∧ (u.flag die (F.PG_TEST page) = false) ∧ (kind = 1) ∧
      (u.pageState die page = 2) ∧ (u.fstate die (page - 1) ≠ 0)) ∧
    (∃ (s : State) (die page : Nat) (u : State) (kind : Nat) (fresh : List Nat) (v : State), (s.awake = true) ∧
      (RegTable.implemented die page = true) ∧ (die = 0 ∨ s.inService die = true) ∧ (u = s.touchDie die) ∧ (u.awake =
      true) ∧ (u.flag die (F.PG_LOCK page) = false) ∧ (pageTestKind die page = some kind) ∧ (u.flag die (F.PG_TEST
      page) = false) ∧ (kind ≠ 1) ∧ (u.pageState die page = 0 ∨ u.pageState die page = 2) ∧ (fresh = ((if kind = 3
      then (List.range 8).filter (u.unitPresent 3 0) else if kind = 4 then ((List.range 128).find? (u.unitPresent 4
      0)).toList else [0]).filter (fun x => !(u.testUnit (testKey kind die x)).requested && !(u.testUnit (testKey kind
      die x)).granted && !(u.testUnit (testKey kind die x)).running))) ∧ (fresh ≠ []) ∧ (v =
      { u with testFrom := Store.insert (Store.erase u.testFrom (256 * die + page)) (256 * die + page) (u.pageState die page) })) ∧
    (∃ (s : State) (die page : Nat) (u : State) (kind : Nat) (fresh : List Nat), (s.awake = true) ∧
      (RegTable.implemented die page = true) ∧ (die = 0 ∨ s.inService die = true) ∧ (u = s.touchDie die) ∧ (u.awake =
      true) ∧ (u.flag die (F.PG_LOCK page) = false) ∧ (pageTestKind die page = some kind) ∧ (u.flag die (F.PG_TEST
      page) = false) ∧ (kind ≠ 1) ∧ (u.pageState die page = 0 ∨ u.pageState die page = 2) ∧ (fresh = ((if kind = 3
      then (List.range 8).filter (u.unitPresent 3 0) else if kind = 4 then ((List.range 128).find? (u.unitPresent 4
      0)).toList else [0]).filter (fun x => !(u.testUnit (testKey kind die x)).requested && !(u.testUnit (testKey kind
      die x)).granted && !(u.testUnit (testKey kind die x)).running))) ∧ (fresh = [])) ∧
    (∃ (s : State) (die page : Nat) (u : State), (s.awake = true) ∧ (RegTable.implemented die page = true) ∧ (die = 0
      ∨ s.inService die = true) ∧ (u = s.touchDie die) ∧ (u.awake = true) ∧ (u.flag die (F.PG_LOCK page) = false)) :=
  ⟨⟨W.up.setPage 7 1 3, 7, 1, (W.up.setPage 7 1 3).touchDie 7, 1, by decide⟩,
   ⟨W.up.setPage 7 1 2, 7, 1, (W.up.setPage 7 1 2).touchDie 7, 1, by decide⟩,
   ⟨(W.up.setPage 7 1 2).setFstate 7 0 2, 7, 1, ((W.up.setPage 7 1 2).setFstate 7 0 2).touchDie 7, 1, by decide⟩,
   ⟨W.seamUp.setPage 0 0x02 2, 0, 0x02, (W.seamUp.setPage 0 0x02 2).touchDie 0, 3, [7], { W.seamUp.setPage 0 0x02 2 with testFrom := [(2, 2)] }, by decide +kernel⟩,
   ⟨W.awake.setPage 0 0x10 2, 0, 0x10, (W.awake.setPage 0 0x10 2).touchDie 0, 4, [], by decide +kernel⟩,
   ⟨W.up, 7, 0x12, (W.up).touchDie 7, by decide⟩⟩

theorem wit_PageControl_5 :
    (∃ (s : State) (die page : Nat) (value : Word) (same : Option Nat) (u : State), (s.awake = true) ∧
      (RegTable.implemented die page = true) ∧ (die = 0 ∨ s.inService die = true) ∧ (u = s.touchDie die) ∧ (u.awake =
      true) ∧ (u.flag die (F.PG_LOCK page) = false) ∧ (same = none)) ∧
    (∃ (s : State) (die page : Nat) (value : Word) (same : Option Nat) (u : State) (c : Nat), (s.awake = true) ∧
      (RegTable.implemented die page = true) ∧ (die = 0 ∨ s.inService die = true) ∧ (u = s.touchDie die) ∧ (u.awake =
      true) ∧ (u.flag die (F.PG_LOCK page) = false) ∧ (same = some c)) :=
  ⟨⟨W.up, 7, 0x0E, 1, none, (W.up).touchDie 7, by decide⟩,
   ⟨W.up, 7, 0x0E, 1, some 6, (W.up).touchDie 7, 6, by decide⟩⟩

theorem wit_PageControl_6 :
    ∃ (s : State) (die page : Nat) (value raised : Word) (u v w : State), (s.awake = true) ∧ (RegTable.implemented die
      page = true) ∧ (die = 0 ∨ s.inService die = true) ∧ (u = s.touchDie die) ∧ (v = u.attnSync.writeRo die page
      0x00C value) ∧ (w = v.setReg die page 0x00C (v.reg die page 0x00C &&& ~~~ (value &&& ~~~ raised))) :=
  ⟨W.awake.set 0 (F.PG_LOCK 0x16) 1, 0, 0x16, 1, 2, (W.awake.set 0 (F.PG_LOCK 0x16) 1).touchDie 0, ((W.awake.set 0 (F.PG_LOCK 0x16) 1).touchDie 0).attnSync.writeRo 0 0x16 0x00C 1, (((W.awake.set 0 (F.PG_LOCK 0x16) 1).touchDie 0).attnSync.writeRo 0 0x16 0x00C 1).setReg 0 0x16 0x00C 0, by decide⟩

theorem wit_PageEvents_1 :
    (∃ (s : State) (die page : Nat) (fault : Bool), (RegTable.implemented die page = true) ∧ (isSlicePage die page =
      false) ∧ (s.pageState die page = 1) ∧ (fault = false) ∧ (s.flag die (F.PG_DRAIN page) = false)) ∧
    (∃ (s : State) (die page : Nat) (fault : Bool), (RegTable.implemented die page = true) ∧ (isSlicePage die page =
      false) ∧ (s.pageState die page = 1) ∧ (fault = false) ∧ (s.flag die (F.PG_DRAIN page) = true)) ∧
    (∃ (s : State) (die page : Nat) (fault : Bool), (RegTable.implemented die page = true) ∧ (isSlicePage die page =
      false) ∧ (s.pageState die page = 1) ∧ (fault = true)) ∧
    (∃ (s : State) (die page : Nat), (RegTable.implemented die page = true) ∧ (s.pageState die page = 3) ∧
      (s.pageQuiet die page = true) ∧ (s.flag die (F.PG_RESTART_PEND page) = true)) ∧
    (∃ (s : State) (die page : Nat), (RegTable.implemented die page = true) ∧ (s.pageState die page = 3) ∧
      (s.pageQuiet die page = true) ∧ (s.flag die (F.PG_RESTART_PEND page) = false) ∧ (s.flag die (F.PG_EN page) =
      false)) ∧
    (∃ (s : State) (die page : Nat), (RegTable.implemented die page = true) ∧ (s.pageState die page = 3) ∧
      (s.pageQuiet die page = true) ∧ (s.flag die (F.PG_RESTART_PEND page) = false) ∧ (s.flag die (F.PG_EN page) =
      true) ∧ (s.flag die (F.PG_DRAIN page) = false)) :=
  ⟨⟨W.up.setPage 7 0x0E 1, 7, 0x0E, false, by decide⟩,
   ⟨(W.up.setPage 7 0x0E 1).set 7 (F.PG_DRAIN 0x0E) 1, 7, 0x0E, false, by decide⟩,
   ⟨W.up.setPage 7 0x0E 1, 7, 0x0E, true, by decide⟩,
   ⟨(W.up.setPage 7 0x0E 3).set 7 (F.PG_RESTART_PEND 0x0E) 1, 7, 0x0E, by decide⟩,
   ⟨(W.up.setPage 7 0x0E 3).set 7 (F.PG_EN 0x0E) 0, 7, 0x0E, by decide⟩,
   ⟨(W.up.setPage 7 0x0E 3).set 7 (F.PG_EN 0x0E) 1, 7, 0x0E, by decide⟩⟩

theorem wit_PageEvents_2 :
    ∃ (s : State) (die page : Nat), (RegTable.implemented die page = true) ∧ (s.pageState die page = 3) ∧ (s.pageQuiet
      die page = true) ∧ (s.flag die (F.PG_RESTART_PEND page) = false) ∧ (s.flag die (F.PG_EN page) = true) ∧ (s.flag
      die (F.PG_DRAIN page) = true) :=
  ⟨((W.up.setPage 7 0x0E 3).set 7 (F.PG_EN 0x0E) 1).set 7 (F.PG_DRAIN 0x0E) 1, 7, 0x0E, by decide +kernel⟩

theorem wit_PageEvents_3 :
    ∃ (s : State) (die page port : Nat) (u : State), (RegTable.implemented die page = true) ∧ (s.present die = true) ∧
      (s.flag die (F.PG_COMMIT_PEND page) = true) ∧ (s.loadLets = true) ∧ (s.atBoundary die page port = true) ∧ (u =
      s.attnSync) ∧ (u.commitOk die page (u.shadowWord die page) = true) ∧ (portPage die page = false ∨ u.pageStill
      die page = true) :=
  ⟨((W.up.setPage 7 0x0E 0).set 7 (F.PG_COMMIT_PEND 0x0E) 1), 7, 0x0E, 7, ((W.up.setPage 7 0x0E 0).set 7 (F.PG_COMMIT_PEND 0x0E) 1).attnSync, by decide, by decide, by decide, rfl, by decide +kernel, rfl, by decide +kernel, by decide +kernel⟩

theorem wit_PageEvents_4 :
    ∃ (s : State) (die page port : Nat) (u : State), (RegTable.implemented die page = true) ∧ (s.present die = true) ∧
      (s.flag die (F.PG_COMMIT_PEND page) = true) ∧ (s.loadLets = true) ∧ (s.atBoundary die page port = true) ∧ (u =
      s.attnSync) ∧ (u.commitOk die page (u.shadowWord die page) = true) ∧ (portPage die page = true) ∧ (u.pageStill
      die page = false) ∧ (port < 8) :=
  ⟨(W.up.setPage 7 0x0E 2).set 7 (F.PG_COMMIT_PEND 0x0E) 1, 7, 0x0E, 7, ((W.up.setPage 7 0x0E 2).set 7 (F.PG_COMMIT_PEND 0x0E) 1).attnSync, by decide +kernel⟩

theorem wit_PageEvents_5 :
    ∃ (s : State) (die page port : Nat) (u : State), (RegTable.implemented die page = true) ∧ (s.present die = true) ∧
      (s.flag die (F.PG_COMMIT_PEND page) = true) ∧ (s.loadLets = true) ∧ (s.atBoundary die page port = true) ∧ (u =
      s.attnSync) ∧ (u.commitOk die page (u.shadowWord die page) = false) :=
  ⟨((W.up.setPage 7 0x0E 0).set 7 (F.PG_COMMIT_PEND 0x0E) 1).set 7 (F.CWT_P_PROBE_BURST 7) 1, 7, 0x0E, 7, (((W.up.setPage 7 0x0E 0).set 7 (F.PG_COMMIT_PEND 0x0E) 1).set 7 (F.CWT_P_PROBE_BURST 7) 1).attnSync, by decide +kernel⟩

theorem wit_HostWrites_1 :
    (∃ (s : State) (addr : Nat) (value : Word) (d p o : Nat) (u : State) (v : State), (s.awake = true) ∧ (d = addrDie
      addr) ∧ (s.addrOk addr = true) ∧ (p = addrPage addr) ∧ (o = addrOff addr) ∧ (u = s.touchDie d) ∧ (windowOf d p =
      .none) ∧ (v = (u.regWrite d p o value).1)) ∧
    (∃ (s : State) (addr : Nat) (value : Word) (d p o : Nat) (u : State), (s.awake = true) ∧ (d = addrDie addr) ∧
      (s.addrOk addr = true) ∧ (p = addrPage addr) ∧ (o = addrOff addr) ∧ (u = s.touchDie d) ∧ (windowOf d p = .none)
      ∧ (o ≠ 0x00C) ∧ (o ≠ 0x010) ∧ (u.flag d (F.PG_LOCK p) = true)) ∧
    (∃ (s : State) (addr : Nat) (value : Word), (s.awake = true) ∧ (addrDie addr ≠ 15) ∧ (s.addrOk addr = false)) ∧
    (∃ (s : State) (addr : Nat) (value : Word), (s.awake = true) ∧ (addrDie addr ≠ 15) ∧ (s.addrOk addr = false)) ∧
    (∃ (s : State) (addr : Nat) (value : Word) (d p o : Nat) (u : State) (k : Window), (s.awake = true) ∧ (d = addrDie
      addr) ∧ (s.addrOk addr = true) ∧ (p = addrPage addr) ∧ (o = addrOff addr) ∧ (u = s.touchDie d) ∧ (k = windowOf d
      p) ∧ (k.writable = true) ∧ (k = .program → u.protectedWord (1024 * (p - 0xB0) + o / 4) = false) ∧ (k = .frames →
      u.rxWord d (4096 * (p - 0x44) + o) = false)) ∧
    (∃ (s : State) (addr : Nat) (value : Word) (d p o : Nat) (u : State) (k : Window), (s.awake = true) ∧ (d = addrDie
      addr) ∧ (s.addrOk addr = true) ∧ (p = addrPage addr) ∧ (o = addrOff addr) ∧ (u = s.touchDie d) ∧ (k = windowOf d
      p) ∧ (k ≠ .none) ∧ (k.writable = false)) :=
  ⟨⟨W.up, 0x712020, 1, addrDie 7413792, addrPage 7413792, addrOff 7413792, W.up.touchDie (addrDie 7413792), ((W.up.touchDie 7).regWrite 7 0x12 0x020 1).1, by decide⟩,
   ⟨W.awake.set 0 (F.PG_LOCK 0x16) 1, 0x16FFC, 1, addrDie 94204, addrPage 94204, addrOff 94204, (W.awake.set 0 (F.PG_LOCK 0x16) 1).touchDie (addrDie 94204), by decide⟩,
   ⟨W.awake, 0x17000, 1, by decide⟩,
   ⟨W.awake, 0xB0001, 1, by decide⟩,
   ⟨W.up, 0x747FFC, 0x01020304, addrDie 7634940, addrPage 7634940, addrOff 7634940, W.up.touchDie (addrDie 7634940), Window.frames, by decide⟩,
   ⟨W.awake, 0xAFFFC, 1, addrDie 720892, addrPage 720892, addrOff 720892, W.awake.touchDie (addrDie 720892), Window.ticket, by decide⟩⟩

theorem wit_HostWrites_2 :
    (∃ (s : State) (addr : Nat) (value : Word) (d p o : Nat) (u : State) (k : Window), (s.awake = true) ∧ (d = addrDie
      addr) ∧ (s.addrOk addr = true) ∧ (p = addrPage addr) ∧ (o = addrOff addr) ∧ (u = s.touchDie d) ∧ (k = windowOf d
      p) ∧ (k = .program ∧ u.protectedWord (1024 * (p - 0xB0) + o / 4) = true ∨ k = .frames ∧ u.rxWord d (4096 * (p -
      0x44) + o) = true)) ∧
    (∃ (s : State) (addr : Nat) (value : Word) (p : Nat), (s.awake = true) ∧ (addrDie addr = 15) ∧ (addr % 4 = 0) ∧ (p
      = addrPage addr) ∧ (pageExists 1 p = true) ∧ (windowOf 1 p = .none)) ∧
    (∃ (s : State) (addr : Nat) (value : Word) (p : Nat), (s.awake = true) ∧ (addrDie addr = 15) ∧ (addr % 4 = 0) ∧ (p
      = addrPage addr) ∧ (pageExists 1 p = true) ∧ (windowOf 1 p ≠ .none)) :=
  ⟨⟨(W.awake.set 0 (F.PLE_L_CFG_EN 31) 1).set 0 (F.PLE_L_CFG_LAST 31) 4095, 0xB3FFC, 1, addrDie 737276, addrPage 737276, addrOff 737276, ((W.awake.set 0 (F.PLE_L_CFG_EN 31) 1).set 0 (F.PLE_L_CFG_LAST 31) 4095).touchDie (addrDie 737276), Window.program, by decide +kernel⟩,
   ⟨W.up, 0xf12020, 1, addrPage 0xf12020, by decide⟩,
   ⟨W.up, 0xf40000, 1, addrPage 0xf40000, by decide⟩⟩

theorem wit_SerialFrames_1 :
    (∃ (s : State) (mode3 : Bool) (clocks : Nat) (more : Bool), (s.device ≠ .off) ∧ (s.device ≠ .reset) ∧
      (s.hsp.statusOn = true)) ∧
    (∃ (s : State) (mode3 : Bool) (clocks : Nat) (more : Bool), (s.device ≠ .off) ∧ (s.device ≠ .reset) ∧
      (s.hsp.statusOn = false) ∧ (0 < clocks)) ∧
    (∃ (s : State) (mode3 : Bool) (clocks : Nat) (more : Bool), (s.device ≠ .off) ∧ (s.device ≠ .reset) ∧
      (s.hsp.statusOn = false) ∧ (clocks = 0)) ∧
    (∃ (s : State) (mode3 : Bool) (clocks : Nat) (u : State), (s.device ≠ .off) ∧ (s.device ≠ .reset) ∧ (8 ≤ clocks) ∧
      (u = s.frameShift mode3 clocks)) ∧
    (∃ (s : State) (addr : Nat) (mode3 fast : Bool) (clocks : Nat) (ready : Option Nat) (ahead : Nat) (u : State) (d :
      Nat) (raised : Bool), (s.device ≠ .off) ∧ (s.device ≠ .reset) ∧ (8 ≤ clocks) ∧ (u = s.frameShift mode3 clocks) ∧
      (u.ready = true) ∧ (u.dummyClocks fast = (d, raised)) ∧ (clocks < 32 + d)) ∧
    (∃ (s : State) (addr : Nat) (mode3 fast : Bool) (clocks : Nat) (ready : Option Nat) (ahead : Nat) (u v : State) (d
      : Nat) (raised : Bool), (s.device ≠ .off) ∧ (s.device ≠ .reset) ∧ (8 ≤ clocks) ∧ (u = s.frameShift mode3 clocks)
      ∧ (u.ready = true) ∧ (u.dummyClocks fast = (d, raised)) ∧ (32 + d ≤ clocks) ∧ (v = u.dummyUsed d raised) ∧
      (ready = none)) :=
  ⟨⟨{ W.awake with hsp := { statusOn := true } }, true, 8, true, by decide⟩,
   ⟨W.awake, true, 8, false, by decide⟩,
   ⟨W.awake, true, 0, true, by decide⟩,
   ⟨W.awake, false, 8, W.awake.frameShift false 8, by decide⟩,
   ⟨W.awake, 0x1000, false, false, 33, none, 0, W.awake.frameShift false 33, 8, false, by decide⟩,
   ⟨W.awake, 0x1000, false, false, 72, none, 0, W.awake.frameShift false 72, (W.awake.frameShift false 72).dummyUsed 8 false, 8, false, by decide⟩⟩

theorem wit_SerialFrames_2 :
    (∃ (s : State) (addr : Nat) (mode3 fast : Bool) (clocks : Nat) (ready : Option Nat) (ahead : Nat) (u v : State) (d
      k : Nat) (raised : Bool), (s.device ≠ .off) ∧ (s.device ≠ .reset) ∧ (8 ≤ clocks) ∧ (u = s.frameShift mode3
      clocks) ∧ (u.ready = true) ∧ (u.dummyClocks fast = (d, raised)) ∧ (32 + d ≤ clocks) ∧ (v = u.dummyUsed d raised)
      ∧ (ready = some k) ∧ (clocks ≤ 32 + d + 8 * k)) ∧
    (∃ (s : State) (addr : Nat) (mode3 fast : Bool) (clocks : Nat) (ready : Option Nat) (ahead : Nat) (u v x : State)
      (d k : Nat) (raised : Bool), (s.device ≠ .off) ∧ (s.device ≠ .reset) ∧ (8 ≤ clocks) ∧ (u = s.frameShift mode3
      clocks) ∧ (u.ready = true) ∧ (u.dummyClocks fast = (d, raised)) ∧ (32 + d ≤ clocks) ∧ (v = u.dummyUsed d raised)
      ∧ (ready = some k) ∧ (32 + d + 8 * k < clocks) ∧ (x =
      ({ v with hsp := { v.hsp with line := v.hsp.line.take (32 + d + 8 * k) } } : State).shiftOut ((frameBits 8
      0xA5).take (clocks - (32 + d + 8 * k))))) ∧
    (∃ (s : State) (mask : Nat) (mode3 fast : Bool) (clocks : Nat) (ready : Option Nat) (u : State) (d : Nat) (raised
      : Bool), (s.device ≠ .off) ∧ (s.device ≠ .reset) ∧ (8 ≤ clocks) ∧ (u = s.frameShift mode3 clocks) ∧ (u.ready =
      true) ∧ (u.dummyClocks fast = (d, raised)) ∧ (clocks < 32 + d)) ∧
    (∃ (s : State) (mask : Nat) (mode3 fast : Bool) (clocks : Nat) (ready : Option Nat) (u v : State) (d : Nat)
      (raised : Bool), (s.device ≠ .off) ∧ (s.device ≠ .reset) ∧ (8 ≤ clocks) ∧ (u = s.frameShift mode3 clocks) ∧
      (u.ready = true) ∧ (u.dummyClocks fast = (d, raised)) ∧ (32 + d ≤ clocks) ∧ (v = u.dummyUsed d raised) ∧ (ready
      = none)) ∧
    (∃ (s : State) (mask : Nat) (mode3 fast : Bool) (clocks : Nat) (ready : Option Nat) (u v : State) (d k : Nat)
      (raised : Bool), (s.device ≠ .off) ∧ (s.device ≠ .reset) ∧ (8 ≤ clocks) ∧ (u = s.frameShift mode3 clocks) ∧
      (u.ready = true) ∧ (u.dummyClocks fast = (d, raised)) ∧ (32 + d ≤ clocks) ∧ (v = u.dummyUsed d raised) ∧ (ready
      = some k) ∧ (clocks ≤ 32 + d + 8 * k)) ∧
    (∃ (s : State) (mask : Nat) (mode3 fast : Bool) (clocks : Nat) (ready : Option Nat) (u v x : State) (d k : Nat)
      (raised : Bool), (s.device ≠ .off) ∧ (s.device ≠ .reset) ∧ (8 ≤ clocks) ∧ (u = s.frameShift mode3 clocks) ∧
      (u.ready = true) ∧ (u.dummyClocks fast = (d, raised)) ∧ (32 + d ≤ clocks) ∧ (v = u.dummyUsed d raised) ∧ (ready
      = some k) ∧ (32 + d + 8 * k < clocks) ∧ (x =
      ({ v with hsp := { v.hsp with line := v.hsp.line.take (32 + d + 8 * k) } } : State).shiftOut ((frameBits 8
      0xA5).take (clocks - (32 + d + 8 * k))))) :=
  ⟨⟨W.awake, 0x1000, false, false, 48, some 1, 0, W.awake.frameShift false 48, (W.awake.frameShift false 48).dummyUsed 8 false, 8, 1, false, by decide⟩,
   ⟨W.awake, 0x1000, false, false, 72, some 0, 0, W.awake.frameShift false 72, (W.awake.frameShift false 72).dummyUsed 8 false, ({ (W.awake.frameShift false 72).dummyUsed 8 false with hsp := { ((W.awake.frameShift false 72).dummyUsed 8 false).hsp with line := ((W.awake.frameShift false 72).dummyUsed 8 false).hsp.line.take (32 + 8 + 8 * 0) } } : State).shiftOut ((frameBits 8 0xA5).take (72 - (32 + 8 + 8 * 0))), 8, 0, false, by decide⟩,
   ⟨W.awake, 15, false, false, 33, none, W.awake.frameShift false 33, 8, false, by decide⟩,
   ⟨W.awake, 15, false, false, 72, none, W.awake.frameShift false 72, (W.awake.frameShift false 72).dummyUsed 8 false, 8, false, by decide⟩,
   ⟨W.awake, 15, false, false, 48, some 1, W.awake.frameShift false 48, (W.awake.frameShift false 48).dummyUsed 8 false, 8, 1, false, by decide⟩,
   ⟨W.awake, 15, false, false, 72, some 0, W.awake.frameShift false 72, (W.awake.frameShift false 72).dummyUsed 8 false, ({ (W.awake.frameShift false 72).dummyUsed 8 false with hsp := { ((W.awake.frameShift false 72).dummyUsed 8 false).hsp with line := ((W.awake.frameShift false 72).dummyUsed 8 false).hsp.line.take (32 + 8 + 8 * 0) } } : State).shiftOut ((frameBits 8 0xA5).take (72 - (32 + 8 + 8 * 0))), 8, 0, false, by decide⟩⟩

theorem wit_SerialFrames_3 :
    (∃ (s : State) (addr : Nat) (data : List Word) (mode3 : Bool) (clocks : Nat) (u v : State) (code : Nat), (s.device
      ≠ .off) ∧ (s.device ≠ .reset) ∧ (8 ≤ clocks) ∧ (u = s.frameShift mode3 clocks) ∧ (u.ready = true) ∧ (32 ≤
      clocks) ∧ (u.writeData none addr (data.take ((clocks - 32) / 32)) clocks = (v, code))) ∧
    (∃ (s : State) (addr : Nat) (data : List Word) (mode3 : Bool) (clocks : Nat) (u v : State) (ws : List Word),
      (s.device ≠ .off) ∧ (s.device ≠ .reset) ∧ (8 ≤ clocks) ∧ (u = s.frameShift mode3 clocks) ∧ (u.ready = true) ∧
      (32 ≤ clocks) ∧ (ws = data.take ((clocks - 32) / 32)) ∧ (ws ≠ []) ∧ (u.writeData (some (addr / 4096)) addr ws
      clocks = (v, 0))) ∧
    (∃ (s : State) (addr : Nat) (data : List Word) (mode3 : Bool) (clocks : Nat) (u v : State) (ws : List Word) (code
      : Nat), (s.device ≠ .off) ∧ (s.device ≠ .reset) ∧ (8 ≤ clocks) ∧ (u = s.frameShift mode3 clocks) ∧ (u.ready =
      true) ∧ (32 ≤ clocks) ∧ (ws = data.take ((clocks - 32) / 32)) ∧ (u.writeData (some (addr / 4096)) addr ws clocks
      = (v, code)) ∧ (ws = [] ∨ code ≠ 0)) ∧
    (∃ (s : State) (addr : Nat) (data : List Word) (mode3 : Bool) (clocks : Nat) (u : State), (s.device ≠ .off) ∧
      (s.device ≠ .reset) ∧ (8 ≤ clocks) ∧ (u = s.frameShift mode3 clocks) ∧ (u.ready = true) ∧ (clocks < 32)) ∧
    (∃ (s : State) (addr : Nat) (data : List Word) (mode3 : Bool) (clocks : Nat) (u : State), (s.device ≠ .off) ∧
      (s.device ≠ .reset) ∧ (8 ≤ clocks) ∧ (u = s.frameShift mode3 clocks) ∧ (u.ready = true) ∧ (clocks < 32)) ∧
    (∃ (s : State) (addr : Nat) (mode3 : Bool) (clocks : Nat) (u : State), (s.device ≠ .off) ∧ (s.device ≠ .reset) ∧
      (8 ≤ clocks) ∧ (u = s.frameShift mode3 clocks) ∧ (u.ready = true) ∧ (clocks < 32)) :=
  ⟨⟨W.awake, 0x16010, [1], false, 64, W.awake.frameShift false 64, ((W.awake.frameShift false 64).writeData none 0x16010 [1] 64).1, ((W.awake.frameShift false 64).writeData none 0x16010 [1] 64).2, by decide +kernel⟩,
   ⟨W.awake, 0x16020, [1], false, 64, W.awake.frameShift false 64, ((W.awake.frameShift false 64).writeData (some 0x16) 0x16020 [1] 64).1, [1], by decide +kernel⟩,
   ⟨W.awake, 0x16020, [1], false, 32, W.awake.frameShift false 32, W.awake.frameShift false 32, [], 0, by decide +kernel⟩,
   ⟨W.awake, 0x16010, [], false, 31, W.awake.frameShift false 31, by decide⟩,
   ⟨W.awake, 0x16010, [], false, 31, W.awake.frameShift false 31, by decide⟩,
   ⟨W.awake, 3, false, 31, W.awake.frameShift false 31, by decide⟩⟩

theorem wit_SerialFrames_4 :
    (∃ (s : State) (addr : Nat) (mode3 : Bool) (clocks : Nat) (u : State), (s.device ≠ .off) ∧ (s.device ≠ .reset) ∧
      (8 ≤ clocks) ∧ (u = s.frameShift mode3 clocks) ∧ (u.ready = true) ∧ (32 ≤ clocks) ∧ (addr < 4) ∧ (u.load = none)
      ∧ (u.power.phase = .none)) ∧
    (∃ (s : State) (addr : Nat) (mode3 : Bool) (clocks : Nat) (u : State), (s.device ≠ .off) ∧ (s.device ≠ .reset) ∧
      (8 ≤ clocks) ∧ (u = s.frameShift mode3 clocks) ∧ (u.ready = true) ∧ (32 ≤ clocks) ∧ (addr < 4) ∧ (u.load ≠ none
      ∨ u.power.phase ≠ .none)) ∧
    (∃ (s : State) (addr : Nat) (mode3 : Bool) (clocks : Nat) (u : State), (s.device ≠ .off) ∧ (s.device ≠ .reset) ∧
      (8 ≤ clocks) ∧ (u = s.frameShift mode3 clocks) ∧ (u.ready = true) ∧ (32 ≤ clocks) ∧ (4 ≤ addr)) ∧
    (∃ (s : State) (key0 key1 : Nat) (mode3 : Bool) (clocks : Nat) (u : State), (s.device ≠ .off) ∧ (s.device ≠
      .reset) ∧ (8 ≤ clocks) ∧ (u = s.frameShift mode3 clocks) ∧ (u.ready = true) ∧ (clocks = 24) ∧ (key0 = 0xA5) ∧
      (key1 = 0x5A)) ∧
    (∃ (s : State) (key0 key1 : Nat) (mode3 : Bool) (clocks : Nat) (u : State), (s.device ≠ .off) ∧ (s.device ≠
      .reset) ∧ (8 ≤ clocks) ∧ (u = s.frameShift mode3 clocks) ∧ (u.ready = true) ∧ (clocks ≠ 24 ∨ key0 ≠ 0xA5 ∨ key1
      ≠ 0x5A) ∧ (24 ≤ clocks ∨ clocks = 8 ∨ clocks = 16)) ∧
    (∃ (s : State) (key0 key1 : Nat) (mode3 : Bool) (clocks : Nat) (u : State), (s.device ≠ .off) ∧ (s.device ≠
      .reset) ∧ (8 ≤ clocks) ∧ (u = s.frameShift mode3 clocks) ∧ (u.ready = true) ∧ (clocks < 24) ∧ (clocks ≠ 8) ∧
      (clocks ≠ 16)) :=
  ⟨⟨W.awake, 3, false, 32, W.awake.frameShift false 32, by decide⟩,
   ⟨W.loads .check, 3, false, 32, (W.loads .check).frameShift false 32, by decide⟩,
   ⟨W.awake, 4, false, 32, W.awake.frameShift false 32, by decide⟩,
   ⟨W.awake, 0xA5, 0x5A, false, 24, W.awake.frameShift false 24, by decide⟩,
   ⟨W.awake, 0xA5, 0x5B, false, 24, W.awake.frameShift false 24, by decide⟩,
   ⟨W.awake, 0xA5, 0x5A, false, 23, W.awake.frameShift false 23, by decide⟩⟩

theorem wit_SerialFrames_5 :
    (∃ (s : State) (cmd : Nat) (mode3 : Bool) (clocks : Nat) (u : State), (s.device ≠ .off) ∧ (s.device ≠ .reset) ∧ (8
      ≤ clocks) ∧ (u = s.frameShift mode3 clocks) ∧ (hspCommands.contains cmd = false)) ∧
    (8 ≤ ({ W.awake with hsp := { line := List.replicate 16 true } } : State).hsp.line.length ∧
      ({ W.awake with hsp := { line := List.replicate 16 true } } : State).hsp.line.length % 8 = 0) ∧
    (W.awake.hsp.line = [] ∧ 8 ≤ 19) ∧
    ((15 : Nat) < 16 ∧ W.awake.grant .hsp 15 = ((W.awake.grant .hsp 15).1, (W.awake.grant .hsp 15).2)) :=
  ⟨⟨W.awake, 0x7F, false, 8, W.awake.frameShift false 8, by decide⟩,
   (by decide),
   (by decide),
   (by decide)⟩

theorem wit_SerialFrameErrors_1 :
    (∃ (s : State) (addr : Nat) (mode3 fast : Bool) (clocks : Nat) (ready : Option Nat) (ahead : Nat), (s.device ≠
      .off) ∧ (s.device ≠ .reset) ∧ (0 < clocks) ∧ (clocks < 8)) ∧
    (∃ (s : State) (addr : Nat) (mode3 fast : Bool) (clocks : Nat) (ready : Option Nat) (ahead : Nat), (s.device ≠
      .off) ∧ (s.device ≠ .reset) ∧ (clocks = 0)) ∧
    (∃ (s : State) (mask : Nat) (mode3 fast : Bool) (clocks : Nat) (ready : Option Nat), (s.device ≠ .off) ∧ (s.device
      ≠ .reset) ∧ (0 < clocks) ∧ (clocks < 8)) ∧
    (∃ (s : State) (mask : Nat) (mode3 fast : Bool) (clocks : Nat) (ready : Option Nat), (s.device ≠ .off) ∧ (s.device
      ≠ .reset) ∧ (clocks = 0)) ∧
    (∃ (s : State) (addr : Nat) (data : List Word) (mode3 : Bool) (clocks : Nat), (s.device ≠ .off) ∧ (s.device ≠
      .reset) ∧ (0 < clocks) ∧ (clocks < 8)) ∧
    (∃ (s : State) (addr : Nat) (data : List Word) (mode3 : Bool) (clocks : Nat), (s.device ≠ .off) ∧ (s.device ≠
      .reset) ∧ (clocks = 0)) :=
  ⟨⟨W.awake, 0, false, false, 7, none, 0, by decide⟩,
   ⟨W.awake, 0, false, false, 0, none, 0, by decide⟩,
   ⟨W.awake, 0, false, false, 7, none, by decide⟩,
   ⟨W.awake, 0, false, false, 0, none, by decide⟩,
   ⟨W.awake, 0, [], false, 7, by decide⟩,
   ⟨W.awake, 0, [], false, 0, by decide⟩⟩

theorem wit_SerialFrameErrors_2 :
    (∃ (s : State) (addr : Nat) (data : List Word) (mode3 : Bool) (clocks : Nat), (s.device ≠ .off) ∧ (s.device ≠
      .reset) ∧ (0 < clocks) ∧ (clocks < 8)) ∧
    (∃ (s : State) (addr : Nat) (data : List Word) (mode3 : Bool) (clocks : Nat), (s.device ≠ .off) ∧ (s.device ≠
      .reset) ∧ (clocks = 0)) ∧
    (∃ (s : State) (addr : Nat) (mode3 : Bool) (clocks : Nat), (s.device ≠ .off) ∧ (s.device ≠ .reset) ∧ (0 < clocks)
      ∧ (clocks < 8)) ∧
    (∃ (s : State) (addr : Nat) (mode3 : Bool) (clocks : Nat), (s.device ≠ .off) ∧ (s.device ≠ .reset) ∧ (clocks = 0)) ∧
    (∃ (s : State) (key0 key1 : Nat) (mode3 : Bool) (clocks : Nat), (s.device ≠ .off) ∧ (s.device ≠ .reset) ∧ (0 <
      clocks) ∧ (clocks < 8)) ∧
    (∃ (s : State) (key0 key1 : Nat) (mode3 : Bool) (clocks : Nat), (s.device ≠ .off) ∧ (s.device ≠ .reset) ∧ (clocks
      = 0)) :=
  ⟨⟨W.awake, 0, [], false, 7, by decide⟩,
   ⟨W.awake, 0, [], false, 0, by decide⟩,
   ⟨W.awake, 0, false, 7, by decide⟩,
   ⟨W.awake, 0, false, 0, by decide⟩,
   ⟨W.awake, 0xA5, 0x5A, false, 7, by decide⟩,
   ⟨W.awake, 0xA5, 0x5A, false, 0, by decide⟩⟩

theorem wit_SerialFrameErrors_3 :
    (∃ (s : State) (mode3 : Bool) (clocks : Nat), (s.device ≠ .off) ∧ (s.device ≠ .reset) ∧ (0 < clocks) ∧ (clocks <
      8)) ∧
    (∃ (s : State) (mode3 : Bool) (clocks : Nat), (s.device ≠ .off) ∧ (s.device ≠ .reset) ∧ (clocks = 0)) ∧
    (∃ (s : State) (cmd : Nat) (mode3 : Bool) (clocks : Nat), (hspCommands.contains cmd = false) ∧ (s.device ≠ .off) ∧
      (s.device ≠ .reset) ∧ (0 < clocks) ∧ (clocks < 8)) ∧
    (∃ (s : State) (cmd : Nat) (mode3 : Bool) (clocks : Nat), (hspCommands.contains cmd = false) ∧ (s.device ≠ .off) ∧
      (s.device ≠ .reset) ∧ (clocks = 0)) ∧
    (∃ (s : State) (mode3 : Bool) (clocks : Nat) (more : Bool), (s.device ≠ .off) ∧ (s.device ≠ .reset) ∧
      (s.hsp.statusOn = false) ∧ (0 < clocks) ∧ (clocks < 8) ∧ (more = false)) ∧
    (∃ (s : State) (addr : Nat) (mode3 fast : Bool) (clocks : Nat) (ready : Option Nat) (ahead : Nat), (s.device ≠
      .off) ∧ (s.device ≠ .reset) ∧ (8 ≤ clocks) ∧ ((s.frameShift mode3 clocks).ready = false)) :=
  ⟨⟨W.awake, false, 7, by decide⟩,
   ⟨W.awake, false, 0, by decide⟩,
   ⟨W.awake, 0x7F, false, 7, by decide⟩,
   ⟨W.awake, 0x7F, false, 0, by decide⟩,
   ⟨W.awake, false, 7, false, by decide⟩,
   ⟨W.early, 0, false, false, 72, none, 0, by decide⟩⟩

theorem wit_SerialFrameErrors_4 :
    (∃ (s : State) (mask : Nat) (mode3 fast : Bool) (clocks : Nat) (ready : Option Nat), (s.device ≠ .off) ∧ (s.device
      ≠ .reset) ∧ (8 ≤ clocks) ∧ ((s.frameShift mode3 clocks).ready = false)) ∧
    (∃ (s : State) (addr : Nat) (data : List Word) (mode3 : Bool) (clocks : Nat), (s.device ≠ .off) ∧ (s.device ≠
      .reset) ∧ (8 ≤ clocks) ∧ ((s.frameShift mode3 clocks).ready = false)) ∧
    (∃ (s : State) (addr : Nat) (data : List Word) (mode3 : Bool) (clocks : Nat), (s.device ≠ .off) ∧ (s.device ≠
      .reset) ∧ (8 ≤ clocks) ∧ ((s.frameShift mode3 clocks).ready = false)) ∧
    (∃ (s : State) (addr : Nat) (mode3 : Bool) (clocks : Nat), (s.device ≠ .off) ∧ (s.device ≠ .reset) ∧ (8 ≤ clocks)
      ∧ ((s.frameShift mode3 clocks).ready = false)) ∧
    (∃ (s : State) (key0 key1 : Nat) (mode3 : Bool) (clocks : Nat), (s.device ≠ .off) ∧ (s.device ≠ .reset) ∧ (8 ≤
      clocks) ∧ ((s.frameShift mode3 clocks).ready = false)) ∧
    (∃ (s : State) (clocks ahead : Nat) (mask : Nat), (s.hsp.frame = some (true, mask))) :=
  ⟨⟨W.early, 0, false, false, 72, none, by decide⟩,
   ⟨W.early, 0, [], false, 72, by decide⟩,
   ⟨W.early, 0, [], false, 72, by decide⟩,
   ⟨W.early, 0, false, 72, by decide⟩,
   ⟨W.early, 0xA5, 0x5A, false, 72, by decide⟩,
   ⟨{ W.awake with hsp := { frame := some (true, 15) } }, 32, 0, 15, by decide⟩⟩

theorem wit_SerialFrameErrors_5 :
    (∃ (s : State) (clocks ahead : Nat) (addr : Nat), (s.hsp.frame = some (false, addr))) ∧
    (∃ (s : State) (clocks : Nat) (x : Bool × Nat), (s.hsp.frame = some x)) :=
  ⟨⟨{ W.awake with hsp := { frame := some (false, 0x1000) } }, 32, 3, 0x1000, by decide⟩,
   ⟨{ W.awake with hsp := { frame := some (true, 15) } }, 3, (true, 15), by decide⟩⟩

theorem wit_FrameEndRecords :
    (65535 : Nat) < 65536 :=
  by decide

theorem wit_TwoWireTransfers_1 :
    (∃ (s : State) (start : Option Nat) (bytes : List Byte) (stretch stop : Bool) (u : State) (addr : Nat),
      (s.attnActive = false) ∧ (s.htw.stretch = none) ∧ (start = some addr) ∧ (s.twStart addr false = (u, true))) ∧
    (∃ (s : State) (start : Option Nat) (bytes : List Byte) (stretch stop : Bool) (u : State) (addr : Nat),
      (s.attnActive = false) ∧ (s.htw.stretch = none) ∧ (start = some addr) ∧ (s.twStart addr false = (u, false))) ∧
    (∃ (s : State) (start : Option Nat) (bytes : List Byte) (stretch stop : Bool), (s.attnActive = false) ∧
      (s.htw.stretch = none) ∧ (start = none) ∧ (s.twServes false = true)) ∧
    (∃ (s : State) (start : Option Nat) (bytes : List Byte) (stretch stop : Bool), (s.attnActive = false) ∧
      (s.htw.stretch = none) ∧ (start = none) ∧ (s.twServes false = false)) ∧
    (∃ (s : State) (start : Option Nat) (count : Nat) (stretch stop : Bool) (u : State) (addr : Nat), (s.attnActive =
      false) ∧ (s.htw.stretch = none) ∧ (start = some addr) ∧ (s.twStart addr true = (u, true))) ∧
    (∃ (s : State) (start : Option Nat) (count : Nat) (stretch stop : Bool) (u : State) (addr : Nat), (s.attnActive =
      false) ∧ (s.htw.stretch = none) ∧ (start = some addr) ∧ (s.twStart addr true = (u, false))) :=
  ⟨⟨W.own, some 88, [0xF0, 1], false, true, (W.own.twStart 88 false).1, 88, by decide⟩,
   ⟨W.awake, some 87, [0xF0, 1], false, true, (W.awake.twStart 87 false).1, 87, by decide⟩,
   ⟨W.tw 0xF0 false, none, [1], false, true, by decide⟩,
   ⟨W.tw 0xF0 true, none, [1], false, true, by decide⟩,
   ⟨W.own, some 88, 1, false, true, (W.own.twStart 88 true).1, 88, by decide⟩,
   ⟨W.awake, some 87, 1, false, true, (W.awake.twStart 87 true).1, 87, by decide⟩⟩

theorem wit_TwoWireTransfers_2 :
    (∃ (s : State) (start : Option Nat) (count : Nat) (stretch stop : Bool), (s.attnActive = false) ∧ (s.htw.stretch =
      none) ∧ (start = none) ∧ (s.twServes true = true)) ∧
    (∃ (s : State) (start : Option Nat) (count : Nat) (stretch stop : Bool), (s.attnActive = false) ∧ (s.htw.stretch =
      none) ∧ (start = none) ∧ (s.twServes true = false)) ∧
    (∃ (s : State) (addr : Nat) (read : Bool), (s.attnActive = false) ∧ (s.htw.stretch = none) ∧ (s.htw.busy = true)) ∧
    (∃ (s : State) (addr : Nat) (read : Bool) (u : State), (s.attnActive = false) ∧ (s.htw.stretch = none) ∧
      (s.htw.busy = false) ∧ (s.twStart addr read = (u, true))) ∧
    (∃ (s : State) (addr : Nat) (read : Bool) (u : State), (s.attnActive = false) ∧ (s.htw.stretch = none) ∧
      (s.htw.busy = false) ∧ (s.twStart addr read = (u, false))) ∧
    (∃ (s : State) (value : Byte) (stop : Bool), (s.attnActive = false) ∧ (s.htw.stretch = none) ∧ (s.twServes false =
      true) ∧ (s.htw.fresh = false) ∧ (s.htw.pointer = 0xF1) ∧ (s.ready = true)) :=
  ⟨⟨W.tw 0xF2 true, none, 1, false, true, by decide⟩,
   ⟨W.tw 0xF2 false, none, 1, false, true, by decide⟩,
   ⟨W.tw 0xF0 false, 88, true, by decide⟩,
   ⟨W.own, 88, true, (W.own.twStart 88 true).1, by decide⟩,
   ⟨W.awake, 87, true, (W.awake.twStart 87 true).1, by decide⟩,
   ⟨W.tw 0xF1 false, 255, true, by decide⟩⟩

theorem wit_TwoWireTransfers_3 :
    (∃ (s : State) (value : Byte) (stop : Bool), (s.attnActive = false) ∧ (s.htw.stretch = none) ∧ (s.twServes false =
      true) ∧ (s.htw.fresh = false) ∧ (s.htw.pointer = 0xF1) ∧ (s.ready = false)) ∧
    (∃ (s : State) (stop : Bool) (l : List Nat) (g : Word), (s.twReadsAt 0xF5 = true) ∧ (s.ready = true) ∧ (s.htw.dead
      = false) ∧ (s.grant .htw s.htw.hmask = (l, g))) ∧
    (∃ (s : State) (stop : Bool) (u : State), (s.twReadsAt 0xF5 = true) ∧ (s.ready = false) ∧ (s.htw.dead = false) ∧
      (u = s.twCode 0x0101)) ∧
    (∃ (s : State) (stop : Bool) (u : State) (b : Byte), (s.twReadsAt 0xF8 = true) ∧ (s.ready = true) ∧ (s.htw.dead =
      false) ∧ (s.streamByte = (u, b))) ∧
    (∃ (s : State) (stop : Bool) (u : State), (s.twReadsAt 0xF8 = true) ∧ (s.ready = false) ∧ (s.htw.dead = false) ∧
      (u = s.twCode 0x0101)) ∧
    (∃ (s : State) (a : Nat) (w : Word), (s.htw.stretch = some (.write a w))) :=
  ⟨⟨{ W.tw 0xF1 false with ready := false }, 255, true, by decide⟩,
   ⟨W.tw 0xF5 true, true, [], 0, by decide⟩,
   ⟨{ W.tw 0xF5 true with ready := false }, true, ({ W.tw 0xF5 true with ready := false } : State).twCode 0x0101, by decide⟩,
   ⟨W.tw 0xF8 true, true, W.tw 0xF8 true, 0, by decide⟩,
   ⟨{ W.tw 0xF8 true with ready := false }, true, ({ W.tw 0xF8 true with ready := false } : State).twCode 0x0101, by decide⟩,
   ⟨W.awake.setHtw { stretch := some (.write 0x16010 1) }, 0x16010, 1, by decide⟩⟩

theorem wit_TwoWireTransfers_4 :
    (∃ (s : State) (a : Nat), (s.htw.stretch = some (.read a))) ∧
    (∃ (s : State) (a : Nat), (s.htw.stretch = some (.read a))) ∧
    (∃ (s : State) (a : Nat) (w : Word), (s.htw.stretch = some (.write a w))) ∧
    (W.own.device ≠ .off ∧ W.own.device ≠ .reset ∧ 88 = W.own.get 0 F.HTW_STAT_OWN_ADDR ∧ W.own.awake = true ∧
      W.own.power.phase = .none ∧ W.own.ready = true) ∧
    (87 ≠ W.awake.get 0 F.HTW_STAT_OWN_ADDR) ∧
    (((W.tw 0 false).setHtw { fresh := true }).htw.fresh = true) :=
  ⟨⟨W.awake.setHtw { stretch := some (.read 0x16010) }, 0x16010, by decide⟩,
   ⟨W.awake.setHtw { stretch := some (.read 0x16010) }, 0x16010, by decide⟩,
   ⟨W.awake.setHtw { stretch := some (.write 0x16010 1) }, 0x16010, 1, by decide⟩,
   (by decide),
   (by decide),
   (by decide)⟩

theorem wit_TwoWireTransfers_5 :
    W.streams.htw.grant = some [1, 1] ∧ (W.streams.cls 1).nextWord = some 7 ∧ (W.streams.cls 1).openTo ≠ some .hsp :=
  by decide

theorem wit_TwoWireFaultsAndAttention_1 :
    (∃ (s : State) (start : Bool) (u : State), (s.htw.busy = true) ∧ (u = ((s.countUp 0 F.HTW_CNT_PROTO_COUNT
      F.HTW_CNT_PROTO_OVF 1).raise 0 0x07 2).twAbort 0x0109)) ∧
    (∃ (s : State), (s.twOn = true) ∧ (s.htw.stretch = none)) ∧
    (∃ (s : State), (s.twOn = true)) ∧
    (∃ (s : State), (s.attnActive = false)) ∧
    (∃ (s : State) (depth : Bool) (c : Nat), (depth = false) ∧ (s.awake = true) ∧ (s.htw.attn = none) ∧ (s.htw.busy =
      false) ∧ (s.htw.busFree = true) ∧ (topCause (s.attnSync.get 0 F.HTW_STAT_ATTN_PEND) = some c)) ∧
    (∃ (s : State) (depth : Bool), (depth = false) ∧ (s.awake = true) ∧ (s.htw.attn = none) ∧ (s.htw.busy = false) ∧
      (s.htw.busFree = true) ∧ (topCause (s.attnSync.get 0 F.HTW_STAT_ATTN_PEND) = none)) :=
  ⟨⟨W.tw 0xF0 false, true, (((W.tw 0xF0 false).countUp 0 F.HTW_CNT_PROTO_COUNT F.HTW_CNT_PROTO_OVF 1).raise 0 0x07 2).twAbort 0x0109, by decide⟩,
   ⟨W.tw 0xF0 false, by decide⟩,
   ⟨W.tw 0xF0 false, by decide⟩,
   ⟨W.awake, by decide⟩,
   ⟨W.pend, false, 5, by decide⟩,
   ⟨W.awake.setHtw { busFree := true }, false, by decide⟩⟩

theorem wit_TwoWireFaultsAndAttention_2 :
    (∃ (s : State) (depth : Bool), (depth = true) ∧ (s.attnActive = true) ∧ (s.htw.depth = none)) ∧
    (∃ (s : State) (c dep : Nat) (u v : State), (s.htw.backoff = false) ∧ (s.htw.attn = some c) ∧ (u = s.attnDrop) ∧
      (dep = s.htw.depth.getD (min 65535 s.fill)) ∧ (v = u.setHtw
      { u.htw with sent := [2 * s.get 0 F.HTW_HOSTADDR_ADDR, 2 * s.get 0 F.HTW_STAT_OWN_ADDR, c, dep / 256, dep % 256] })) ∧
    (∃ (s : State), (s.attnActive = true)) ∧
    (∃ (s : State) (edge own read : Bool) (u : State), (s.attnActive = true) ∧ (u = (s.countUp 0 F.HTW_CNT_ARB_COUNT
      F.HTW_CNT_ARB_OVF 1).raise 0 0x07 5) ∧ (edge = false ∨ u.flag 0 F.HTW_CFG_ARB_MODE = false) ∧ (own = false ∨
      edge = true)) ∧
    (∃ (s : State) (edge own read : Bool) (u : State), (s.attnActive = true) ∧ (u = (s.countUp 0 F.HTW_CNT_ARB_COUNT
      F.HTW_CNT_ARB_OVF 1).raise 0 0x07 5) ∧ (edge = false ∨ u.flag 0 F.HTW_CFG_ARB_MODE = false) ∧ (own = true) ∧
      (edge = false)) ∧
    (∃ (s : State) (edge own read : Bool) (u : State), (s.attnActive = true) ∧ (u = (s.countUp 0 F.HTW_CNT_ARB_COUNT
      F.HTW_CNT_ARB_OVF 1).raise 0 0x07 5) ∧ (edge = true) ∧ (u.flag 0 F.HTW_CFG_ARB_MODE = true)) :=
  ⟨⟨W.awake.setHtw { attn := some 5 }, true, by decide⟩,
   ⟨W.awake.setHtw { attn := some 5 }, 5, 0, (W.awake.setHtw { attn := some 5 }).attnDrop, ((W.awake.setHtw { attn := some 5 }).attnDrop).setHtw { ((W.awake.setHtw { attn := some 5 }).attnDrop).htw with sent := [2 * W.awake.get 0 F.HTW_HOSTADDR_ADDR, 2 * W.awake.get 0 F.HTW_STAT_OWN_ADDR, 5, 0, 0] }, by decide⟩,
   ⟨W.awake.setHtw { attn := some 1 }, by decide⟩,
   ⟨W.awake.setHtw { attn := some 1 }, false, false, false, ((W.awake.setHtw { attn := some 1 }).countUp 0 F.HTW_CNT_ARB_COUNT F.HTW_CNT_ARB_OVF 1).raise 0 0x07 5, by decide⟩,
   ⟨W.awake.setHtw { attn := some 1 }, false, true, false, ((W.awake.setHtw { attn := some 1 }).countUp 0 F.HTW_CNT_ARB_COUNT F.HTW_CNT_ARB_OVF 1).raise 0 0x07 5, by decide⟩,
   ⟨(W.awake.setHtw { attn := some 1 }).set 0 F.HTW_CFG_ARB_MODE 1, true, false, false, (((W.awake.setHtw { attn := some 1 }).set 0 F.HTW_CFG_ARB_MODE 1).countUp 0 F.HTW_CNT_ARB_COUNT F.HTW_CNT_ARB_OVF 1).raise 0 0x07 5, by decide⟩⟩

theorem wit_TwoWireFaultsAndAttention_3 :
    (∃ (s : State) (c : Nat), (s.awake = true) ∧ (s.htw.backoff = true) ∧ (s.htw.busFree = true) ∧ (s.htw.busy =
      false) ∧ (s.htw.attn = some c)) ∧
    (∃ (s : State), (s.device = .deepSleep ∨ s.device = .watch) ∧ (s.power.waking = false)) ∧
    (8 ≤ (W.awake.set 0 F.HTW_STAT_ATTEMPT 8).get 0 F.HTW_STAT_ATTEMPT) ∧
    (W.awake.get 0 F.HTW_STAT_ATTEMPT < 8) :=
  ⟨⟨W.awake.setHtw { attn := some 3, backoff := true, busFree := true }, 3, by decide⟩,
   ⟨{ W.awake with device := .watch }, by decide⟩,
   (by decide),
   (by decide)⟩

theorem wit_SliceFieldStates_1 :
    (∃ (s : State) (die slice : Nat) (late : Bool) (u : State), (s.fieldDie die = true) ∧ (slice < 10) ∧ (s.fstate die
      slice ≤ 5) ∧ ((s.slice die slice).want ≠ none) ∧ ((s.die die).heldOff = false) ∧ (s.coord.lineBlocked.contains
      die = false) ∧ (s.tickCome die slice = true) ∧ (s.guardedSlice die slice = false) ∧ (u = s.syncLate late) ∧ (∀ p
      e, u.servedPort die slice = some p → u.exch die p = some e → e.phase ≠ .energise ∨ e.origin.isExchange = false)) ∧
    (∃ (s : State) (die slice : Nat) (late : Bool) (u : State) (p : Nat) (e : Exch) (r : Drive), (s.fieldDie die =
      true) ∧ (slice < 10) ∧ (s.fstate die slice ≤ 5) ∧ ((s.slice die slice).want ≠ none) ∧ ((s.die die).heldOff =
      false) ∧ (s.coord.lineBlocked.contains die = false) ∧ (s.tickCome die slice = true) ∧ (s.guardedSlice die slice
      = false) ∧ (u = s.syncLate late) ∧ (u.servedPort die slice = some p) ∧ (u.exch die p = some e) ∧ (e.phase =
      .energise) ∧ (e.origin.isExchange = true) ∧ ((u.slice die slice).want = some r)) ∧
    (∃ (s : State) (die slice : Nat), (s.fieldDie die = true) ∧ (slice < 10) ∧ (s.fstate die slice = 1) ∧
      ((s.setFstate die slice 2).servedPort die slice = none)) ∧
    (∃ (s : State) (die slice : Nat) (p : Nat), (s.fieldDie die = true) ∧ (slice < 10) ∧ (s.fstate die slice = 1) ∧
      ((s.setFstate die slice 2).servedPort die slice = some p)) ∧
    (∃ (s : State) (die slice : Nat), (s.fieldDie die = true) ∧ (slice < 10) ∧ (s.fstate die slice = 4)) ∧
    (∃ (s : State) (die slice : Nat) (u : State), (s.fieldDie die = true) ∧ (slice < 10) ∧ (s.fstate die slice = 5) ∧
      ((s.slice die slice).openFault = true) ∧ (u = (if (s.slice die slice).cw = true ∧ s.work (sliceWork die slice) =
      none then s.raise die (slcPage slice) 4 else s))) :=
  ⟨⟨(W.up.setSlice 7 9 { want := some W.drive }), 7, 9, false, (W.up.setSlice 7 9 { want := some W.drive }).syncLate false, by decide, by decide, by decide, by decide, by decide, by decide, by decide, by decide, rfl, by intro p e h; rw [show (W.up.setSlice 7 9 { want := some W.drive } |>.syncLate false).servedPort 7 9 = none from by decide] at h; cases h⟩,
   ⟨(W.up.setSlice 7 7 { want := some W.drive }).setExch 7 7 (W.exch .energise []), 7, 7, false, ((W.up.setSlice 7 7 { want := some W.drive }).setExch 7 7 (W.exch .energise [])).syncLate false, 7, W.exch .energise [], W.drive, by decide⟩,
   ⟨W.up.setFstate 7 9 1, 7, 9, by decide⟩,
   ⟨W.up.setFstate 7 7 1, 7, 7, 7, by decide⟩,
   ⟨W.up.setFstate 7 9 4, 7, 9, by decide⟩,
   ⟨(W.up.setFstate 7 9 5).setSlice 7 9 { openFault := true, cw := true }, 7, 9, ((W.up.setFstate 7 9 5).setSlice 7 9 { openFault := true, cw := true }).raise 7 10 4, by decide⟩⟩

theorem wit_SliceFieldStates_2 :
    (∃ (s : State) (die slice : Nat), (s.fieldDie die = true) ∧ (slice < 10) ∧ (s.fstate die slice = 5) ∧ ((s.slice
      die slice).openFault = false) ∧ ((s.slice die slice).restart = none)) ∧
    (∃ (s : State) (die slice : Nat) (r : Drive) (u : State), (s.fieldDie die = true) ∧ (slice < 10) ∧ (s.fstate die
      slice = 5) ∧ ((s.slice die slice).openFault = false) ∧ ((s.slice die slice).restart = some r) ∧ (s.guardedSlice
      die slice = false) ∧ (u = ((s.setSlice die slice { s.slice die slice with restart := none }).startRamp die slice
      r).raise die (slcPage slice) 3)) ∧
    ((W.up.setSlice 7 9 { want := some W.drive }).fstate 7 9 = 0 ∧ ((W.up.setSlice 7 9 { want := some W.drive }).slice
      7 9).want = some W.drive) ∧
    (((W.up.setFstate 7 9 5).setSlice 7 9 { want := some W.drive }).fstate 7 9 = 5) ∧
    (((W.up.setFstate 7 9 4).setSlice 7 9 { want := some W.drive }).fstate 7 9 = 4) ∧
    (((W.up.setFstate 7 9 3).setSlice 7 9 { want := some W.drive }).fstate 7 9 = 3) :=
  ⟨⟨W.up.setFstate 7 9 5, 7, 9, by decide⟩,
   ⟨(W.up.setFstate 7 9 5).setSlice 7 9 { restart := some W.drive }, 7, 9, W.drive, (((W.up.setFstate 7 9 5).setSlice 7 9 { restart := some W.drive }).setSlice 7 9 {}).startRamp 7 9 W.drive |>.raise 7 10 3, by decide, by decide, by decide, by decide, by decide, by decide, rfl⟩,
   (by decide),
   (by decide),
   (by decide),
   (by decide)⟩

theorem wit_SliceFaults_1 :
    (∃ (s : State) (die slice : Nat), (s.fieldDie die = true) ∧ (slice < 10) ∧ (energisedState (s.fstate die slice) =
      true)) ∧
    (∃ (s : State) (die slice : Nat) (u : State), (s.fieldDie die = true) ∧ (slice < 10) ∧ (energisedState (s.fstate
      die slice) = true) ∧ (20 ≤ s.level die slice) ∧ ((s.slice die slice).openFault = false) ∧ (u = (s.set die
      (F.SLC_FAULT_OPEN_LOAD slice) 1).fieldOff die slice false)) ∧
    (∃ (s : State) (die slice : Nat) (pass : Bool), (s.fieldDie die = true) ∧ (slice < 10) ∧ (s.pageState die (slcPage
      slice) = 1) ∧ (pass = true)) ∧
    (∃ (s : State) (die slice : Nat) (pass : Bool), (s.fieldDie die = true) ∧ (slice < 10) ∧ (s.pageState die (slcPage
      slice) = 1) ∧ (pass = false)) ∧
    (∃ (s : State) (die slice pwr headroom ampl detune : Nat), (s.fieldDie die = true) ∧ (slice < 10) ∧
      (energisedState (s.fstate die slice) = true) ∧ (s.get die (F.SLC_FSTAT_USER slice) ≠ 2) ∧ (s.level die slice ≤
      headroom)) ∧
    (∃ (s : State) (die slice pwr headroom ampl detune : Nat), (s.fieldDie die = true) ∧ (slice < 10) ∧
      (energisedState (s.fstate die slice) = true) ∧ (s.get die (F.SLC_FSTAT_USER slice) ≠ 2) ∧ (headroom < s.level
      die slice)) :=
  ⟨⟨W.up.setFstate 7 9 4, 7, 9, by decide⟩,
   ⟨(W.up.setFstate 7 9 2).set 7 (F.SLC_APPLIED_LEVEL 9) 20, 7, 9, (((W.up.setFstate 7 9 2).set 7 (F.SLC_APPLIED_LEVEL 9) 20).set 7 (F.SLC_FAULT_OPEN_LOAD 9) 1).fieldOff 7 9 false, by decide⟩,
   ⟨W.up.setPage 7 10 1, 7, 9, true, by decide⟩,
   ⟨W.up.setPage 7 10 1, 7, 9, false, by decide⟩,
   ⟨(W.up.setFstate 7 9 2).set 7 (F.SLC_APPLIED_LEVEL 9) 20, 7, 9, 5, 20, 6, 7, by decide⟩,
   ⟨(W.up.setFstate 7 9 2).set 7 (F.SLC_APPLIED_LEVEL 9) 20, 7, 9, 5, 19, 6, 7, by decide⟩⟩

theorem wit_SliceFaults_2 :
    (∃ (s : State) (die slice phase : Nat) (late : Bool) (u : State), (s.inService die = true) ∧ (slice < 10) ∧ (u =
      (s.syncLate late).command die slice phase)) ∧
    (∃ (s : State) (die slice : Nat), (s.fieldDie die = true) ∧ (slice < 10) ∧ (s.flag die (F.SLC_PHASE_SLEWING slice)
      = true) ∧ (s.fstate die slice ≠ 3)) ∧
    (W.up.servedPort 7 9 = none) ∧
    (W.up.servedPort 7 7 = some 7) :=
  ⟨⟨W.up, 7, 9, 255, true, (W.up.syncLate true).command 7 9 255, by decide⟩,
   ⟨W.up.set 7 (F.SLC_PHASE_SLEWING 9) 1, 7, 9, by decide⟩,
   (by decide),
   (by decide)⟩

theorem wit_ContinuousWave :
    (∃ (s : State) (die slice : Nat) (u : State), (s.awake = true) ∧ (s.flag die (F.PG_LOCK (slcPage slice)) = false)
      ∧ (s.inService die = true) ∧ (slice < 10) ∧ ((s.slice die slice).cwAsked = false) ∧ ((s.pageOn die (slcPage
      slice) && (s.servedPort die slice).isSome && s.fstate die slice == 0 && (s.slice die slice).restart.isNone) =
      true) ∧ (u = (s.set die (F.SLC_CW_START slice) 1).setSlice die slice
      { s.slice die slice with cwAsked := true })) ∧
    (∃ (s : State) (die slice : Nat), (s.awake = true) ∧ (s.flag die (F.PG_LOCK (slcPage slice)) = false) ∧
      (s.inService die = true) ∧ (slice < 10) ∧ ((s.slice die slice).cwAsked = true) ∧ ((s.pageOn die (slcPage slice)
      && (s.servedPort die slice).isSome && s.fstate die slice == 0 && (s.slice die slice).restart.isNone) = true)) ∧
    (∃ (s : State) (die slice : Nat), (s.awake = true) ∧ (s.flag die (F.PG_LOCK (slcPage slice)) = false) ∧
      (s.inService die = true) ∧ (slice < 10) ∧ ((s.pageOn die (slcPage slice) && (s.servedPort die slice).isSome &&
      s.fstate die slice == 0 && (s.slice die slice).restart.isNone) = false)) ∧
    (∃ (s : State) (die slice : Nat), (s.awake = true) ∧ (s.flag die (F.PG_LOCK (slcPage slice)) = false) ∧
      (s.inService die = true) ∧ (slice < 10) ∧ (s.cwLive die slice = true)) ∧
    (∃ (s : State) (die slice : Nat), (s.fieldDie die = true) ∧ (slice < 10) ∧ (s.cwLive die slice = true) ∧ ((s.slice
      die slice).cw = true) ∧ (s.fstate die slice = 2)) :=
  ⟨⟨W.up.setPage 7 8 2, 7, 7, ((W.up.setPage 7 8 2).set 7 (F.SLC_CW_START 7) 1).setSlice 7 7 { cwAsked := true }, by decide⟩,
   ⟨(W.up.setPage 7 8 2).setSlice 7 7 { cwAsked := true }, 7, 7, by decide⟩,
   ⟨W.up.setPage 7 8 0, 7, 7, by decide⟩,
   ⟨W.cw, 7, 7, by decide⟩,
   ⟨(W.cw.setSlice 7 7 { cw := true }).setFstate 7 7 2, 7, 7, by decide⟩⟩

theorem wit_SingleExchanges_1 :
    (∃ (s : State) (value : Word) (u v : State) (d : Nat) (ms : List Member) (m : Member), (s.awake = true) ∧ (s.flag
      0 (F.PG_LOCK 0x0A) = false) ∧ (v = s.writeRo 0 0x0A 0x044 value) ∧ (d = bits value 16 3) ∧ (v.hostQueue < 16) ∧
      (v.inService d = true) ∧ (v.pageOn d 0x0C = true) ∧ (v.formChain d (bits value 0 9) = (u, ms)) ∧ (ms[0]? = some
      m) ∧ (u.power.phase = .none)) ∧
    (∃ (s : State) (value : Word) (u v : State) (d : Nat) (ms : List Member), (s.awake = true) ∧ (s.flag 0 (F.PG_LOCK
      0x0A) = false) ∧ (v = s.writeRo 0 0x0A 0x044 value) ∧ (d = bits value 16 3) ∧ (v.hostQueue < 16) ∧ (v.inService
      d = true) ∧ (v.pageOn d 0x0C = true) ∧ (v.formChain d (bits value 0 9) = (u, ms)) ∧ (ms = [])) ∧
    (∃ (s : State) (value : Word) (u v w : State) (d : Nat) (ms : List Member) (m : Member) (c : Cand), (s.awake =
      true) ∧ (s.flag 0 (F.PG_LOCK 0x0A) = false) ∧ (v = s.writeRo 0 0x0A 0x044 value) ∧ (d = bits value 16 3) ∧
      (v.hostQueue < 16) ∧ (v.inService d = true) ∧ (v.pageOn d 0x0C = true) ∧ (v.formChain d (bits value 0 9) = (u,
      ms)) ∧ (ms[0]? = some m) ∧ (u.power.phase ≠ .none) ∧ (c =
      { mkCand .host d m.port (u.chainLevel d m.port ms) (chainCredits ms) (bits value 24 3) with members := ms, order := u.coord.order, since := u.time })
      ∧ (w = { u with coord := { u.coord with order := u.coord.order + 1, cands := u.coord.cands ++ [c] } })) ∧
    (∃ (s : State) (value : Word) (v : State) (d : Nat), (s.awake = true) ∧ (s.flag 0 (F.PG_LOCK 0x0A) = false) ∧ (v =
      s.writeRo 0 0x0A 0x044 value) ∧ (d = bits value 16 3) ∧ (16 ≤ v.hostQueue)) ∧
    (∃ (s : State) (value : Word) (v : State) (d : Nat), (s.awake = true) ∧ (s.flag 0 (F.PG_LOCK 0x0A) = false) ∧ (v =
      s.writeRo 0 0x0A 0x044 value) ∧ (d = bits value 16 3) ∧ (v.hostQueue < 16) ∧ (v.inService d = false ∨ v.pageOn d
      0x0C = false)) ∧
    (∃ (s : State) (value : Word) (v : State) (cs : List Cand) (es : List (Nat × Exch)), (s.awake = true) ∧ (s.flag 0
      (F.PG_LOCK 0x0A) = false) ∧ (v = s.writeRo 0 0x0A 0x048 value) ∧ (cs = v.coord.cands.filter (fun c => c.die ==
      bits value 16 3 && c.members.any (fun m => m.index == bits value 0 9))) ∧ (es = v.exchs.filter (fun e => decide
      (e.1 / 16 = bits value 16 3) && (e.2.members.drop e.2.cur).any (fun m => m.index == bits value 0 9))) ∧ (cs ≠ []
      ∨ es ≠ [])) :=
  ⟨⟨W.tagged, 0x01070000, W.tagged, W.tagged, 7, [W.tagged.snapMember 7 0], W.tagged.snapMember 7 0, by decide, by decide, rfl, rfl, by decide +kernel, by decide +kernel, by decide +kernel, rfl, rfl, by decide⟩,
   ⟨W.notag, 0x01070000, (W.notag.formChain 7 0).1, W.notag, 7, [], by decide, by decide, rfl, rfl, by decide +kernel, by decide +kernel, by decide +kernel, rfl, rfl⟩,
   ⟨W.tagged.setPhase .drain, 0x01070000, W.tagged.setPhase .drain, W.tagged.setPhase .drain, _, 7, [(W.tagged.setPhase .drain).snapMember 7 0], (W.tagged.setPhase .drain).snapMember 7 0, _, by decide, by decide, rfl, rfl, by decide +kernel, by decide +kernel, by decide +kernel, by decide +kernel, rfl, by decide, rfl, rfl⟩,
   ⟨W.full, 0x01070000, W.full, 7, by decide +kernel⟩,
   ⟨W.awake, 0x01070000, W.awake, 7, by decide⟩,
   ⟨W.full, 0x00070000, W.full, W.full.coord.cands, [], by decide⟩⟩

theorem wit_SingleExchanges_2 :
    (∃ (s : State) (value : Word) (v : State) (cs : List Cand) (es : List (Nat × Exch)), (s.awake = true) ∧ (s.flag 0
      (F.PG_LOCK 0x0A) = false) ∧ (v = s.writeRo 0 0x0A 0x048 value) ∧ (cs = v.coord.cands.filter (fun c => c.die ==
      bits value 16 3 && c.members.any (fun m => m.index == bits value 0 9))) ∧ (es = v.exchs.filter (fun e => decide
      (e.1 / 16 = bits value 16 3) && (e.2.members.drop e.2.cur).any (fun m => m.index == bits value 0 9))) ∧ (cs =
      []) ∧ (es = [])) ∧
    (∃ (s : State) (order : Nat) (c : Cand), (s.coord.cands.find? (fun c => c.order == order) = some c) ∧ (c.aged =
      false) ∧ (0 ≤ c.prio)) ∧
    (∃ (s : State) (order : Nat) (c : Cand), (s.coord.cands.find? (fun c => c.order == order) = some c) ∧ (c.aged =
      true ∨ c.prio < 0)) :=
  ⟨⟨W.awake, 0x00070000, W.awake, [], [], by decide⟩,
   ⟨W.full, 3, W.cand 3, by decide⟩,
   ⟨W.fullCal, 3, { W.cand 3 with prio := -1 }, by decide⟩⟩

theorem wit_RoundsAndBudget_1 :
    (∃ (s : State) (plan : Nat) (late : Bool), (s.awake = true) ∧ (plan < 64) ∧ (s.flag 0 (F.FCO_PLAN_CFG_EN plan) =
      true)) ∧
    (∃ (s : State) (temps : List Int) (m : Int) (d : Nat) (a u v w x : State), (s.awake = true) ∧ (hottest (temps.take
      (s.dies + 1)) 0 = some (m, d)) ∧ (a = (s.set 0 F.FCO_THERM_TMAX (field 8 (m / 10))).set 0 F.FCO_THERM_DIE d) ∧
      (u = (List.range s.dies).foldl (fun (z : State) i => z.set (i + 1) F.FDC_STAT_TEMP (field 8 (((temps[i +
      1]?).getD 0) / 10))) (({ a with coord := { a.coord with thermal := thermalFactor m } } : State).set 0
      F.FCO_THERM_FACTOR (thermalFactor m * 100 / 320))) ∧ (v = (if thermalFactor m < 320 && s.coord.thermal == 320
      then u.raise 0 0x0A 4 else u)) ∧ (w = (if thermalFactor m = 0 && !v.flag 0 F.FCO_THERM_STOPPED then
      v.thermalStop else if v.flag 0 F.FCO_THERM_STOPPED && decide (m < (1150 : Int)) then (v.set 0
      F.FCO_THERM_STOPPED 0).raise 0 0x0A 6 else v)) ∧ (x =
      ({ w with coord := { w.coord with overT := w.overLimit w.coord.overT } } : State))) ∧
    (∃ (s : State) (vsup : Nat) (u x : State), (s.awake = true) ∧ (u = (s.set 0 F.SRL_VSUP_VSUP vsup).set 0
      F.FCO_LIMITS_SUPPLY (supplyCenti vsup / 100)) ∧ (x =
      ({ u with coord := { u.coord with overV := u.overLimit u.coord.overV } } : State))) ∧
    (∃ (s : State) (u : State), (s.awake = true) ∧ (s.flag 0 F.FCO_VSUP_CTL_AUTO = true) ∧ (s.fieldIdle = true) ∧
      (s.coord.idleSent = false) ∧ (s.noStartWithin (s.get 0 F.FCO_VSUP_CTL_HOLD * ticksPerMs) = true) ∧ (u =
      s.supplyRequest { cmd := 1, value := s.get 0 F.FCO_VSUP_IDLE })) ∧
    (∃ (s : State) (plan : Nat), (s.awake = true) ∧ (plan < 64) ∧ (s.flag 0 (F.FCO_PLAN_CFG_EN plan) = true) ∧
      (s.power.phase = .none)) ∧
    (∃ (s : State) (die : Nat), (s.awake = true) ∧ (s.fieldDie die = true) ∧ (s.pstate die = 2) ∧ (s.dieIdle die =
      true) ∧ (s.noWakeDue die = true) ∧ (s.flag die F.DPWR_CFG_KEEP_RUN = false)) :=
  ⟨⟨W.plan, 63, false, by decide⟩,
   ⟨W.awake, [250], 250, 0, W.th, W.th2, W.th2, W.th2, W.th3, by decide +kernel, by decide +kernel, rfl, rfl, by decide +kernel, by decide +kernel, rfl⟩,
   ⟨W.hot, 0, (W.hot.set 0 F.SRL_VSUP_VSUP 0).set 0 F.FCO_LIMITS_SUPPLY (supplyCenti 0 / 100), W.hotx, by decide, rfl, rfl⟩,
   ⟨W.awake.set 0 F.FCO_VSUP_CTL_AUTO 1, (W.awake.set 0 F.FCO_VSUP_CTL_AUTO 1).supplyRequest { cmd := 1, value := (W.awake.set 0 F.FCO_VSUP_CTL_AUTO 1).get 0 F.FCO_VSUP_IDLE }, by decide +kernel⟩,
   ⟨W.plan, 63, by decide⟩,
   ⟨W.up, 7, by decide +kernel⟩⟩

theorem wit_RoundsAndBudget_2 :
    (∃ (s : State) (die : Nat), (s.awake = true) ∧ (s.inService die = true) ∧ (s.pstate die = 1) ∧ ((s.die
      die).runAsked = true ∨ s.flag die F.DPWR_CFG_KEEP_RUN = true)) ∧
    (W.running.draining = false ∧ W.running.awake = true ∧ W.running.pageOn 0 0x0A = true ∧ W.running.coord.runs.any
      (fun r => r.plan == 63) = true) ∧
    ((W.plan.setPhase .drain).draining = true) :=
  ⟨⟨(W.up.set 7 F.DPWR_STAT_PSTATE 1).setDie 7 { runAsked := true }, 7, by decide⟩,
   (by decide),
   (by decide)⟩

theorem wit_ExchangeFrames_1 :
    (∃ (s : State) (die port : Nat) (e : Exch), (s.exch die port = some e) ∧ (e.phase = .settle) ∧ (s.fieldOn die port
      = true)) ∧
    (∃ (s : State) (die port : Nat) (e : Exch) (sl : Nat) (u : State), (s.exch die port = some e) ∧ (e.phase =
      .linkGap) ∧ (s.fieldOn die port = true) ∧ (s.servingSlice die port = some sl) ∧ (u = (s.chooseAtt die port
      (s.levelInForce die sl e.member.reqLevel)).applyAtOn (s.memberDrives die port e.partner e.member))) ∧
    (∃ (s : State) (die port : Nat) (resid : List (Nat × Nat)) (e : Exch), (s.exch die port = some e) ∧ (e.phase =
      .transmit) ∧ (∀ uid, e.inv.frame ≠ .quiet uid)) ∧
    (∃ (s : State) (die port : Nat) (resid : List (Nat × Nat)) (e x : Exch) (uid : Nat), (s.exch die port = some e) ∧
      (e.phase = .transmit) ∧ (e.inv.frame = .quiet uid) ∧ ((s.txEnd die port e resid).exch die port = some x)) ∧
    (∃ (s : State) (die port : Nat) (resid : List (Nat × Nat)) (sl : Nat), (s.exch die port = none) ∧ (s.servingSlice
      die port = some sl)) ∧
    (∃ (s : State) (die port : Nat) (e : Exch), (s.exch die port = some e) ∧ (e.phase = .gap) ∧ (s.fieldOn die port =
      true)) :=
  ⟨⟨W.inPhase .settle [], 7, 7, W.exch .settle [], by decide⟩,
   ⟨W.inPhase .linkGap [], 7, 7, W.exch .linkGap [], 7, ((W.inPhase .linkGap []).chooseAtt 7 7 ((W.inPhase .linkGap []).levelInForce 7 7 (W.exch .linkGap []).member.reqLevel)).applyAtOn ((W.inPhase .linkGap []).memberDrives 7 7 none (W.exch .linkGap []).member), by decide, by decide, by decide, by decide +kernel, rfl⟩,
   ⟨W.inPhase .transmit [], 7, 7, [], W.exch .transmit [], by decide, by decide, by intro uid h; cases h⟩,
   ⟨(W.inPhase .transmit [0xC0000000]).setExch 7 7 { W.exch .transmit [0xC0000000] with inv := { frame := .quiet 5 } }, 7, 7, [], { W.exch .transmit [0xC0000000] with inv := { frame := .quiet 5 } }, { W.exch .listen [0xC0000000] with inv := { frame := .quiet 5 }, reference := some 0 }, 5, by decide +kernel⟩,
   ⟨W.on.setFstate 7 7 3, 7, 7, [], 7, by decide +kernel⟩,
   ⟨W.inPhase .gap [], 7, 7, W.exch .gap [], by decide⟩⟩

theorem wit_ExchangeFrames_2 :
    (∃ (s : State) (die port : Nat) (e : Exch), (s.exch die port = some e) ∧ (e.phase = .listen) ∧ (e.member.kind = 0)
      ∧ (e.member.eofReq = true) ∧ (e.eofSent = false)) ∧
    (∃ (s : State) (die port : Nat) (e : Exch), (s.exch die port = some e) ∧ (e.phase = .next) ∧ (e.member.kind = 1 ∨
      e.member.kind = 2) ∧ (s.fieldOn die port = true)) ∧
    (∃ (s : State) (die port : Nat) (e : Exch), (s.exch die port = some e) ∧ (e.phase = .next) ∧ (e.member.kind = 3) ∧
      (s.fieldOn die port = true)) ∧
    (∃ (s : State) (die port entry : Nat) (late : Bool) (e : TermEvent) (u : State), (s.fieldDie die = true) ∧ (port <
      8) ∧ (entry < 4) ∧ (s.coord.termEvents.find? (fun e => e.port == aerial die port && e.entry == entry) = some e)
      ∧ (u =
      { s with coord := { s.coord with termEvents := s.coord.termEvents.eraseP (fun e => e.port == aerial die port && e.entry == entry) } })) ∧
    (∃ (s : State) (die port entry : Nat) (late : Bool), (s.fieldDie die = true) ∧ (port < 8) ∧ (entry < 4) ∧
      (s.coord.termEvents.find? (fun e => e.port == aerial die port && e.entry == entry) = none)) :=
  ⟨⟨W.inPhase .listen [0, 0, 0, 0, 0, 0x8000], 7, 7, W.exch .listen [0, 0, 0, 0, 0, 0x8000], by decide⟩,
   ⟨W.inPhase .next [0x80000000], 7, 7, W.exch .next [0x80000000], by decide⟩,
   ⟨W.inPhase .next [0xC0000000], 7, 7, W.exch .next [0xC0000000], by decide⟩,
   ⟨W.terms, 7, 7, 3, false, ⟨55, 3, .off⟩, W.awake, by decide⟩,
   ⟨W.awake, 7, 7, 3, false, by decide⟩⟩

theorem wit_ExchangeReplies_1 :
    (∃ (s : State) (die port fdt ampl angle : Nat) (e : Exch) (u : State), (s.exch die port = some e) ∧ (e.phase =
      .listen) ∧ (e.fdt = none) ∧ (s.startSeen die e fdt = true) ∧ (u = (s.set die (F.RCV_P_LAST_AMPL port) ampl).set
      die (F.RCV_P_LAST_ANGLE port) angle)) ∧
    (∃ (s : State) (die port : Nat) (data : List Byte) (nbits : Nat) (parityOk : Bool) (collision : Option Nat) (sat :
      List Nat) (e x : Exch) (f : Nat) (r : Result), (s.exch die port = some e) ∧ (e.phase = .listen) ∧ (e.fdt = some
      f) ∧ (x = { e with sat := e.sat ++ e.chains die port sat }) ∧ (x.member.kind = 0) ∧ (r = x.member.decode
      { data := data, nbits := nbits, parityOk := parityOk, collision := collision } x.timing)) ∧
    (∃ (s : State) (die port : Nat) (data : List Byte) (nbits : Nat) (parityOk : Bool) (collision : Option Nat) (sat :
      List Nat) (e x : Exch) (f : Nat), (s.exch die port = some e) ∧ (e.phase = .listen) ∧ (e.fdt = some f) ∧ (x =
      { e with sat := e.sat ++ e.chains die port sat }) ∧ (x.member.kind = 1)) ∧
    (∃ (s : State) (die port : Nat) (data : List Byte) (nbits : Nat) (parityOk : Bool) (collision : Option Nat) (sat :
      List Nat) (e x : Exch) (f : Nat), (s.exch die port = some e) ∧ (e.phase = .listen) ∧ (e.fdt = some f) ∧ (x =
      { e with sat := e.sat ++ e.chains die port sat }) ∧ (x.member.kind = 2)) ∧
    (∃ (s : State) (die port : Nat) (data : List Byte) (nbits : Nat) (parityOk : Bool) (collision : Option Nat) (sat :
      List Nat) (e x : Exch) (f : Nat) (u : State) (y : Exch), (s.exch die port = some e) ∧ (e.phase = .listen) ∧
      (e.fdt = some f) ∧ (x = { e with sat := e.sat ++ e.chains die port sat }) ∧ (x.member.kind = 3) ∧ (s.slotStreams
      die x (e.chains die port sat) = (u, y)) ∧ (∀ uid, x.inv.frame ≠ .read uid)) ∧
    (∃ (s : State) (die port : Nat) (data : List Byte) (nbits : Nat) (parityOk : Bool) (collision : Option Nat) (sat :
      List Nat) (e x : Exch) (f uid : Nat), (s.exch die port = some e) ∧ (e.phase = .listen) ∧ (e.fdt = some f) ∧ (x =
      { e with sat := e.sat ++ e.chains die port sat }) ∧ (x.member.kind = 3) ∧ (x.inv.frame = .read uid)) :=
  ⟨⟨W.inPhase .listen [0, 0, 0, 4352, 0x10C0000, 0x10000000], 7, 7, 4352, 100, 3, W.exch .listen [0, 0, 0, 4352, 0x10C0000, 0x10000000], ((W.inPhase .listen [0, 0, 0, 4352, 0x10C0000, 0x10000000]).set 7 (F.RCV_P_LAST_AMPL 7) 100).set 7 (F.RCV_P_LAST_ANGLE 7) 3, by decide +kernel⟩,
   ⟨(W.inPhase .listen [0]).setExch 7 7 { W.exch .listen [0] with fdt := some 4300 }, 7, 7, [1, 2], 16, true, none, [], { W.exch .listen [0] with fdt := some 4300 }, { W.exch .listen [0] with fdt := some 4300 }, 4300, (W.exch .listen [0]).member.decode { data := [1, 2], nbits := 16, parityOk := true, collision := none } .accepted, by decide +kernel⟩,
   ⟨(W.inPhase .listen [0x40000000]).setExch 7 7 { W.exch .listen [0x40000000] with fdt := some 4300 }, 7, 7, [1, 2], 16, true, none, [], { W.exch .listen [0x40000000] with fdt := some 4300 }, { W.exch .listen [0x40000000] with fdt := some 4300 }, 4300, by decide +kernel⟩,
   ⟨(W.inPhase .listen [0x80000000]).setExch 7 7 { W.exch .listen [0x80000000] with fdt := some 4300 }, 7, 7, [1, 2], 16, true, none, [], { W.exch .listen [0x80000000] with fdt := some 4300 }, { W.exch .listen [0x80000000] with fdt := some 4300 }, 4300, by decide +kernel⟩,
   ⟨(W.inPhase .listen [0xC0000000]).setExch 7 7 { W.exch .listen [0xC0000000] with fdt := some 4300 }, 7, 7, [1, 2], 16, true, none, [], { W.exch .listen [0xC0000000] with fdt := some 4300 }, { W.exch .listen [0xC0000000] with fdt := some 4300 }, 4300, (W.inPhase .listen [0xC0000000]).setExch 7 7 { W.exch .listen [0xC0000000] with fdt := some 4300 }, { W.exch .listen [0xC0000000] with fdt := some 4300 }, by decide, by decide, by decide, by decide, by decide, by decide +kernel, by intro uid h; cases h⟩,
   ⟨(W.inPhase .listen [0xC0000000]).setExch 7 7 { W.exch .listen [0xC0000000] with fdt := some 4300, inv := { frame := .read 5 } }, 7, 7, [1, 2], 16, true, none, [], { W.exch .listen [0xC0000000] with fdt := some 4300, inv := { frame := .read 5 } }, { W.exch .listen [0xC0000000] with fdt := some 4300, inv := { frame := .read 5 } }, 4300, 5, by decide +kernel⟩⟩

theorem wit_ExchangeReplies_2 :
    (∃ (s : State) (die port : Nat) (sat : List Nat) (e x : Exch), (s.exch die port = some e) ∧ (e.phase = .listen) ∧
      (e.fdt = none) ∧ (x = { e with sat := e.sat ++ e.chains die port sat }) ∧ (x.member.kind = 0) ∧ (x.member.eofReq
      = false ∨ x.eofSent = true)) ∧
    (∃ (s : State) (die port : Nat) (sat : List Nat) (e x : Exch), (s.exch die port = some e) ∧ (e.phase = .listen) ∧
      (e.fdt = none) ∧ (x = { e with sat := e.sat ++ e.chains die port sat }) ∧ (x.member.kind = 0) ∧ (x.member.eofReq
      = true) ∧ (x.eofSent = false)) ∧
    (∃ (s : State) (die port : Nat) (sat : List Nat) (e x : Exch), (s.exch die port = some e) ∧ (e.phase = .listen) ∧
      (e.fdt = none) ∧ (x = { e with sat := e.sat ++ e.chains die port sat }) ∧ (x.member.kind = 1)) ∧
    (∃ (s : State) (die port : Nat) (sat : List Nat) (e x : Exch), (s.exch die port = some e) ∧ (e.phase = .listen) ∧
      (e.fdt = none) ∧ (x = { e with sat := e.sat ++ e.chains die port sat }) ∧ (x.member.kind = 2)) ∧
    (∃ (s : State) (die port : Nat) (sat : List Nat) (e x : Exch) (u : State) (y : Exch), (s.exch die port = some e) ∧
      (e.phase = .listen) ∧ (e.fdt = none) ∧ (x = { e with sat := e.sat ++ e.chains die port sat }) ∧ (x.member.kind =
      3) ∧ (s.slotStreams die x (e.chains die port sat) = (u, y)) ∧ (∀ uid, x.inv.frame ≠ .read uid)) ∧
    (∃ (s : State) (die port : Nat) (sat : List Nat) (e x : Exch) (uid : Nat), (s.exch die port = some e) ∧ (e.phase =
      .listen) ∧ (e.fdt = none) ∧ (x = { e with sat := e.sat ++ e.chains die port sat }) ∧ (x.member.kind = 3) ∧
      (x.inv.frame = .read uid)) :=
  ⟨⟨W.on.setExch 7 7 (W.exch .listen []), 7, 7, [], W.exch .listen [], W.exch .listen [], by decide⟩,
   ⟨W.on.setExch 7 7 (W.exch .listen [0, 0, 0, 0, 0, 0x8000]), 7, 7, [], W.exch .listen [0, 0, 0, 0, 0, 0x8000], W.exch .listen [0, 0, 0, 0, 0, 0x8000], by decide⟩,
   ⟨W.on.setExch 7 7 (W.exch .listen [0x40000000]), 7, 7, [], W.exch .listen [0x40000000], W.exch .listen [0x40000000], by decide⟩,
   ⟨W.on.setExch 7 7 (W.exch .listen [0x80000000]), 7, 7, [], W.exch .listen [0x80000000], W.exch .listen [0x80000000], by decide⟩,
   ⟨W.on.setExch 7 7 (W.exch .listen [0xC0000000]), 7, 7, [], W.exch .listen [0xC0000000], W.exch .listen [0xC0000000], W.on.setExch 7 7 (W.exch .listen [0xC0000000]), W.exch .listen [0xC0000000], by decide, by decide, by decide, by decide, by decide, by decide +kernel, by intro uid h; cases h⟩,
   ⟨W.on.setExch 7 7 ({ W.exch .listen [0xC0000000] with inv := { frame := .read 5 } }), 7, 7, [], { W.exch .listen [0xC0000000] with inv := { frame := .read 5 } }, { W.exch .listen [0xC0000000] with inv := { frame := .read 5 } }, 5, by decide⟩⟩

theorem wit_ExchangeReplies_3 :
    (∃ (s : State) (die port : Nat) (h : Hold), (s.fieldHold die port = some h)) ∧
    (∃ (s : State) (die : Nat) (value : Word), (s.awake = true) ∧ (s.flag die (F.PG_LOCK 0x0C) = false) ∧ (s.inService
      die = true)) ∧
    (∃ (s : State) (die port listener : Nat) (e : Exch), (s.exch die port = some e) ∧ (e.listeners.contains listener =
      true) ∧ (e.inv.broken.contains listener = false)) ∧
    (∃ (s : State) (die port listener : Nat) (e : Exch), (s.exch die port = some e) ∧ (e.inv.broken.contains listener
      = true)) ∧
    (∃ (s : State) (die port slot : Nat) (eigen : List Int) (replies : List (List Byte × Nat × Nat × Nat)) (e : Exch)
      (m : Nat), (s.exch die port = some e) ∧ (Store.find? e.inv.unclearSlots slot = some (.solving m)) ∧ (((s.die
      die).solves.take 2).contains (port, slot) = true)) ∧
    (∃ (s : State) (die port slot : Nat) (eigen : List Int) (replies : List (List Byte × Nat × Nat × Nat)) (e : Exch)
      (m : Nat), (s.exch die port = some e) ∧ (Store.find? e.inv.unclearSlots slot = some (.solving m)) ∧ (((s.die
      die).solves.take 2).contains (port, slot) = false)) :=
  ⟨⟨{ W.up with fieldHolds := [(119, W.hold)] }, 7, 7, W.hold, by decide⟩,
   ⟨W.up, 7, 0xFF, by decide⟩,
   ⟨(W.inPhase .listen []).setExch 7 7 { W.exch .listen [] with listeners := [8] }, 7, 7, 8, { W.exch .listen [] with listeners := [8] }, by decide⟩,
   ⟨(W.inPhase .listen []).setExch 7 7 { W.exch .listen [] with listeners := [8], inv := { broken := [8] } }, 7, 7, 8, { W.exch .listen [] with listeners := [8], inv := { broken := [8] } }, by decide⟩,
   ⟨((W.inPhase .solve []).setExch 7 7 { W.exch .solve [] with inv := { unclearSlots := [(3, .solving 2)] } }).setDie 7 { solves := [(7, 3)] }, 7, 7, 3, [], [], { W.exch .solve [] with inv := { unclearSlots := [(3, .solving 2)] } }, 2, by decide⟩,
   ⟨((W.inPhase .solve []).setExch 7 7 { W.exch .solve [] with inv := { unclearSlots := [(3, .solving 2)] } }), 7, 7, 3, [], [], { W.exch .solve [] with inv := { unclearSlots := [(3, .solving 2)] } }, 2, by decide⟩⟩

theorem wit_ExchangeReplies_4 :
    (∃ (s : State) (die port listener : Nat) (late : Bool) (e : Exch), (s.awake = true) ∧ (s.exch die port = some e) ∧
      (e.listeners.contains listener = true) ∧ (e.phase ≠ .listen) ∧ (s.coord.cands.any (fun c => decide (e.prio <
      c.eff) && (s.needs c).any (fun x => x.1 == portDie listener && s.servingSlice x.1 (portIx listener) == some
      x.2)) = true)) ∧
    (({ status := 1 } : Result).status = 1 ∧ { W.exch .listen [0xF00] with attempt := 15 }.attempt ≤ (W.exch .listen
      [0xF00]).member.retry) :=
  ⟨⟨W.wanted, 7, 7, 0, false, { W.exch .transmit [] with listeners := [0] }, by decide +kernel⟩,
   (by decide)⟩

theorem wit_CardWatch_1 :
    (∃ (s : State) (die port : Nat) (sl level : Nat) (u : State), (s.fieldDie die = true) ∧ (port < 8) ∧ (s.watchState
      die port ≠ 0) ∧ (s.watchState die port ≠ 5) ∧ (s.pageOn die 0x0E = true) ∧ (s.power.phase = .none) ∧
      (s.servingSlice die port = some sl) ∧ (level = s.levelInForce die sl (s.get die (F.CWT_P_PROBE_LEVEL port))) ∧
      (s.device = .active) ∧ (s.sequenced die = false) ∧ (u =
      (match s.waitingProbe die port with | some c => (s.dropCand c.order).skipProbe die | none => s)) ∧ (20 ≤ level)) ∧
    (∃ (s : State) (die port : Nat) (sl level : Nat) (u : State), (s.fieldDie die = true) ∧ (port < 8) ∧ (s.watchState
      die port ≠ 0) ∧ (s.watchState die port ≠ 5) ∧ (s.pageOn die 0x0E = true) ∧ (s.power.phase = .none) ∧
      (s.servingSlice die port = some sl) ∧ (level = s.levelInForce die sl (s.get die (F.CWT_P_PROBE_LEVEL port))) ∧
      (s.device = .active) ∧ (s.sequenced die = false) ∧ (u =
      (match s.waitingProbe die port with | some c => (s.dropCand c.order).skipProbe die | none => s)) ∧ (level < 20)) ∧
    (∃ (s : State) (die port : Nat) (sl level : Nat), (s.fieldDie die = true) ∧ (port < 8) ∧ (s.watchState die port ≠
      0) ∧ (s.watchState die port ≠ 5) ∧ (s.pageOn die 0x0E = true) ∧ (s.power.phase = .none) ∧ (s.servingSlice die
      port = some sl) ∧ (level = s.levelInForce die sl (s.get die (F.CWT_P_PROBE_LEVEL port))) ∧ (s.sequenced die =
      true) ∧ (level < 20)) ∧
    (∃ (s : State) (die port : Nat) (sl level : Nat), (s.fieldDie die = true) ∧ (port < 8) ∧ (s.watchState die port ≠
      0) ∧ (s.watchState die port ≠ 5) ∧ (s.pageOn die 0x0E = true) ∧ (s.power.phase = .none) ∧ (s.servingSlice die
      port = some sl) ∧ (level = s.levelInForce die sl (s.get die (F.CWT_P_PROBE_LEVEL port))) ∧ (s.sequenced die =
      true) ∧ (20 ≤ level) ∧ (s.exch die port = none)) ∧
    (∃ (s : State) (die port ampl : Nat) (detune : Int) (e : Exch) (a b c u v w : State) (rec : Option (List Word)),
      (port < 8) ∧ (s.exch die port = some e) ∧ (e.origin.isProbe = true) ∧ (e.phase = .probing) ∧ (s.fieldOn die port
      = true) ∧ (a = (s.set die (F.CWT_P_LAST_AMPL port) ampl).set die (F.CWT_P_LAST_DETUNE port) (field 16 detune)) ∧
      (b = (if a.device = .active then a.set die F.CWT_TEMP_TEMP (a.get die F.FDC_STAT_TEMP) else a)) ∧ (c =
      b.setWatch die port
      { b.watchOf die port with probed := true, probes := min 65535 ((b.watchOf die port).probes + 1) }) ∧
      (c.judgeProbe die port (ampl % 65536) detune = (u, rec)) ∧ (v = u.dropExch die port) ∧ (rec = none) ∧ (w =
      v.unreserveAll e.res)) ∧
    (∃ (s : State) (die port ampl : Nat) (detune : Int) (e : Exch) (a b c u v w : State) (rec : Option (List Word)) (r
      : List Word), (port < 8) ∧ (s.exch die port = some e) ∧ (e.origin.isProbe = true) ∧ (e.phase = .probing) ∧
      (s.fieldOn die port = true) ∧ (a = (s.set die (F.CWT_P_LAST_AMPL port) ampl).set die (F.CWT_P_LAST_DETUNE port)
      (field 16 detune)) ∧ (b = (if a.device = .active then a.set die F.CWT_TEMP_TEMP (a.get die F.FDC_STAT_TEMP) else
      a)) ∧ (c = b.setWatch die port
      { b.watchOf die port with probed := true, probes := min 65535 ((b.watchOf die port).probes + 1) }) ∧
      (c.judgeProbe die port (ampl % 65536) detune = (u, rec)) ∧ (v = u.dropExch die port) ∧ (rec = some r) ∧
      (e.res.any (· != 0) = true) ∧ (w = v.sendWatch die port (e.res.findIdx (· != 0)) (v.watchTime die) r)) :=
  ⟨⟨W.watched, 7, 7, 7, 100, W.watched, by decide +kernel⟩,
   ⟨W.watched.set 7 (F.CWT_P_PROBE_LEVEL 7) 19, 7, 7, 7, 19, W.watched.set 7 (F.CWT_P_PROBE_LEVEL 7) 19, by decide +kernel⟩,
   ⟨{ (W.watched.set 7 F.DPWR_STAT_WATCHDOM 1).set 7 (F.CWT_P_PROBE_LEVEL 7) 19 with device := .watch }, 7, 7, 7, 19, by decide +kernel⟩,
   ⟨{ W.watched.set 7 F.DPWR_STAT_WATCHDOM 1 with device := .watch }, 7, 7, 7, 100, by decide +kernel⟩,
   ⟨W.probes [] W.on, 7, 7, 4464, -3, { W.exch .probing [] with origin := .probe, res := [] }, W.pa, W.pb, W.pc, (W.pc.judgeProbe 7 7 4464 (-3)).1, (W.pc.judgeProbe 7 7 4464 (-3)).1.dropExch 7 7, _, none, by decide, rfl, by decide, by decide, by decide +kernel, rfl, rfl, rfl, by decide +kernel, rfl, by decide +kernel, rfl⟩,
   ⟨W.detects [0, 7], 7, 7, 900, 0, { W.exch .probing [] with origin := .probe, res := [0, 7] }, W.da [0, 7], W.db [0, 7], W.dc [0, 7], ((W.dc [0, 7]).judgeProbe 7 7 900 0).1, (((W.dc [0, 7]).judgeProbe 7 7 900 0).1).dropExch 7 7, _, ((W.dc [0, 7]).judgeProbe 7 7 900 0).2, ((((W.dc [0, 7]).judgeProbe 7 7 900 0).2).getD []), by decide, rfl, by decide, by decide, by decide +kernel, rfl, rfl, rfl, by decide +kernel, rfl, by decide +kernel, by decide, rfl⟩⟩

theorem wit_CardWatch_2 :
    (∃ (s : State) (die port ampl : Nat) (detune : Int) (e : Exch) (a b c u v w : State) (rec : Option (List Word)) (r
      : List Word), (port < 8) ∧ (s.exch die port = some e) ∧ (e.origin.isProbe = true) ∧ (e.phase = .probing) ∧
      (s.fieldOn die port = true) ∧ (a = (s.set die (F.CWT_P_LAST_AMPL port) ampl).set die (F.CWT_P_LAST_DETUNE port)
      (field 16 detune)) ∧ (b = (if a.device = .active then a.set die F.CWT_TEMP_TEMP (a.get die F.FDC_STAT_TEMP) else
      a)) ∧ (c = b.setWatch die port
      { b.watchOf die port with probed := true, probes := min 65535 ((b.watchOf die port).probes + 1) }) ∧
      (c.judgeProbe die port (ampl % 65536) detune = (u, rec)) ∧ (v = u.dropExch die port) ∧ (rec = some r) ∧
      (e.res.any (· != 0) = false) ∧ (w = v.setWatch die port
      { v.watchOf die port with pendingRec := some (v.watchTime die, r) })) ∧
    (∃ (s : State) (die port : Nat), (s.fieldDie die = true) ∧ (port < 8) ∧ (s.watchState die port = 4) ∧ (s.get die
      (F.CWT_P_TRACK_ABSORB port) ≠ 0) ∧ ((s.watchOf die port).pendingRec = none) ∧ ((s.watchOf die port).reported =
      false)) ∧
    (∃ (s : State) (die port : Nat), (s.fieldDie die = true) ∧ (port < 8) ∧ (s.watchState die port = 4) ∧ (s.get die
      (F.CWT_P_TRACK_ABSORB port) ≠ 0) ∧ ((s.watchOf die port).pendingRec = none) ∧ ((s.watchOf die port).reported =
      true)) ∧
    (∃ (s : State) (die : Nat) (temp : Int), (s.fieldDie die = true) ∧ (s.device = .watch)) :=
  ⟨⟨W.detects [], 7, 7, 900, 0, { W.exch .probing [] with origin := .probe, res := [] }, W.da [], W.db [], W.dc [], ((W.dc []).judgeProbe 7 7 900 0).1, (((W.dc []).judgeProbe 7 7 900 0).1).dropExch 7 7, _, ((W.dc []).judgeProbe 7 7 900 0).2, ((((W.dc []).judgeProbe 7 7 900 0).2).getD []), by decide, rfl, by decide, by decide, by decide +kernel, rfl, rfl, rfl, by decide +kernel, rfl, by decide +kernel, by decide, rfl⟩,
   ⟨(W.watched.setWatchState 7 7 4).set 7 (F.CWT_P_TRACK_ABSORB 7) 1, 7, 7, by decide +kernel⟩,
   ⟨((W.watched.setWatchState 7 7 4).set 7 (F.CWT_P_TRACK_ABSORB 7) 1).setWatch 7 7 { reported := true }, 7, 7, by decide +kernel⟩,
   ⟨{ W.up with device := .watch }, 7, -40, by decide⟩⟩

theorem wit_ReceiverSearch_1 :
    (∃ (s : State) (rssi : Int), (s.rxState = 1) ∧ (s.rssiThr ≤ rssi)) ∧
    (∃ (s : State), (s.rxState = 2)) ∧
    (∃ (s : State) (symbols : Nat) (rssi : Int), (s.rxState = 2) ∧ (32 ≤ symbols ∨ rssi < s.rssiThr - 6)) ∧
    (∃ (s : State), (s.rxState = 3)) ∧
    (∃ (s : State) (rssi : Int), (s.rxState = 3) ∧ (s.rxCredit = true)) ∧
    (∃ (s : State) (rssi : Int), (s.rxState = 3) ∧ (s.rxCredit = false)) :=
  ⟨⟨W.awake.setRx 1, 0, by decide⟩,
   ⟨W.awake.setRx 2, by decide⟩,
   ⟨W.awake.setRx 2, 32, 0, by decide⟩,
   ⟨W.awake.setRx 3, by decide⟩,
   ⟨W.credit 3, -100, by decide⟩,
   ⟨W.nocredit 3, -100, by decide⟩⟩

theorem wit_ReceiverSearch_2 :
    (∃ (s : State), (s.rxState = 1 ∨ s.rxState = 2 ∨ s.rxState = 3) ∧ (s.rxCredit = true)) ∧
    (∃ (s : State), (s.rxState = 1 ∨ s.rxState = 2 ∨ s.rxState = 3) ∧ (s.rxCredit = false)) ∧
    (∃ (s : State) (rssi : Int) (step : Nat), (s.rxState = 4)) ∧
    (∃ (s : State) (rssi : Int) (step : Nat) (u v : State), (s.rstate = 4) ∧ (u = s.set 0 F.RFX_RSSI_LIVE (field 16
      rssi)) ∧ (u.rxState = 1) ∧ (v = u.set 0 F.RFX_STAT_GAIN (gainOf step)) ∧ (v.rxState = 1)) ∧
    (∃ (s : State) (rssi : Int) (step : Nat) (u v : State), (s.rstate = 4) ∧ (u = s.set 0 F.RFX_RSSI_LIVE (field 16
      rssi)) ∧ (u.rxState = 2) ∧ (v = u.set 0 F.RFX_STAT_GAIN (gainOf step)) ∧ (v.rxState ≠ 1)) ∧
    (∃ (s : State) (rssi : Int) (step : Nat) (u : State), (s.rstate = 4) ∧ (u = s.set 0 F.RFX_RSSI_LIVE (field 16
      rssi)) ∧ (u.rxState ≠ 1) ∧ (u.rxState ≠ 2)) :=
  ⟨⟨W.credit 1, by decide⟩,
   ⟨W.nocredit 2, by decide⟩,
   ⟨W.awake.setRx 4, -180, 24, by decide⟩,
   ⟨W.rx 1, -200, 24, (W.rx 1).set 0 F.RFX_RSSI_LIVE (field 16 (-200)), ((W.rx 1).set 0 F.RFX_RSSI_LIVE (field 16 (-200))).set 0 F.RFX_STAT_GAIN 72, by decide⟩,
   ⟨W.rx 2, -200, 24, (W.rx 2).set 0 F.RFX_RSSI_LIVE (field 16 (-200)), ((W.rx 2).set 0 F.RFX_RSSI_LIVE (field 16 (-200))).set 0 F.RFX_STAT_GAIN 72, by decide⟩,
   ⟨W.rx 5, 100, 0, (W.rx 5).set 0 F.RFX_RSSI_LIVE (field 16 100), by decide⟩⟩

theorem wit_ReceiverSearch_3 :
    (∃ (s : State) (rssi : Int) (step : Nat), (s.rstate ≠ 4)) ∧
    (∃ (s : State) (rssi : Int), (s.rxState ≠ 1 ∨ rssi < s.rssiThr)) ∧
    (∃ (s : State), (s.rxState ≠ 2)) ∧
    (∃ (s : State) (symbols : Nat) (rssi : Int), (s.rxState ≠ 2 ∨ symbols < 32 ∧ s.rssiThr - 6 ≤ rssi)) ∧
    (∃ (s : State), (s.rxState ≠ 3)) ∧
    (∃ (s : State) (rssi : Int), (s.rxState ≠ 3)) :=
  ⟨⟨W.awake, 100, 0, by decide⟩,
   ⟨W.awake.setRx 2, 0, by decide⟩,
   ⟨W.awake.setRx 3, by decide⟩,
   ⟨W.awake.setRx 3, 32, 0, by decide⟩,
   ⟨W.awake.setRx 2, by decide⟩,
   ⟨W.awake.setRx 4, 0, by decide⟩⟩

theorem wit_ReceiverSearch_4 :
    (∃ (s : State), (s.rxState ≠ 1) ∧ (s.rxState ≠ 2) ∧ (s.rxState ≠ 3)) ∧
    (∃ (s : State) (rssi : Int) (step : Nat), (s.rxState ≠ 4)) :=
  ⟨⟨W.awake.setRx 4, by decide⟩,
   ⟨W.awake.setRx 3, 0, 0, by decide⟩⟩

theorem wit_ReceiverFrames_1 :
    (∃ (s : State) (header : Nat) (fofs : Int) (r : RxRun) (h : Nat), (s.rxState = 5) ∧ (s.radio.rx = some r) ∧ (h =
      (if r.isari then header % 256 else header % 65536)) ∧ (s.headerBad r.isari h = true)) ∧
    (∃ (s : State) (header : Nat) (fofs : Int) (r : RxRun) (h more : Nat) (u : State), (s.rxState = 5) ∧ (s.radio.rx =
      some r) ∧ (h = (if r.isari then header % 256 else header % 65536)) ∧ (s.headerBad r.isari h = false) ∧ (more =
      (({ r with header := h, fofs := fofs } : RxRun).plain + 3) / 4) ∧ (s.canReserve r.cls more = true) ∧ (u =
      s.reserve r.cls more)) ∧
    (∃ (s : State) (header : Nat) (fofs : Int) (r : RxRun) (h more : Nat), (s.rxState = 5) ∧ (s.radio.rx = some r) ∧
      (h = (if r.isari then header % 256 else header % 65536)) ∧ (s.headerBad r.isari h = false) ∧ (more =
      (({ r with header := h, fofs := fofs } : RxRun).plain + 3) / 4) ∧ (s.canReserve r.cls more = false)) ∧
    (∃ (s : State) (rssi : Int) (ownWord : Bool), (s.receiving = true) ∧ (s.flag 0 F.RFX_CAPT_CAPT_EN = true) ∧
      (ownWord = false) ∧ (signed 16 (s.get 0 F.RFX_RSSI_LATCHED) + 2 * (s.get 0 F.RFX_CAPT_CAPT_DB : Nat) ≤ rssi) ∧
      (s.rxCredit = true)) ∧
    (∃ (s : State) (rssi : Int) (ownWord : Bool), (s.receiving = true) ∧ (s.flag 0 F.RFX_CAPT_CAPT_EN = true) ∧
      (ownWord = false) ∧ (signed 16 (s.get 0 F.RFX_RSSI_LATCHED) + 2 * (s.get 0 F.RFX_CAPT_CAPT_DB : Nat) ≤ rssi) ∧
      (s.rxCredit = false)) ∧
    (∃ (s : State) (rssi : Int) (ownWord : Bool), (s.receiving = false ∨ s.flag 0 F.RFX_CAPT_CAPT_EN = false ∨ ownWord
      = true ∨ rssi < signed 16 (s.get 0 F.RFX_RSSI_LATCHED) + 2 * (s.get 0 F.RFX_CAPT_CAPT_DB : Nat))) :=
  ⟨⟨W.recv 5 W.rxRun, 0, 0, W.rxRun, 0, by decide⟩,
   ⟨W.recv 5 { W.rxRun with isari := true }, 3, -2, { W.rxRun with isari := true }, 3, 1, (W.recv 5 { W.rxRun with isari := true }).reserve 1 1, by decide⟩,
   ⟨W.recvFull { W.rxRun with isari := true }, 3, -2, { W.rxRun with isari := true }, 3, 1, by decide⟩,
   ⟨(W.setRadioRx (W.credit 5) (some W.rxRun)).set 0 F.RFX_CAPT_CAPT_EN 1, 20, false, by decide +kernel⟩,
   ⟨(W.setRadioRx (W.nocredit 5) (some W.rxRun)).set 0 F.RFX_CAPT_CAPT_EN 1, 20, false, by decide +kernel⟩,
   ⟨(W.setRadioRx (W.credit 5) (some W.rxRun)), 20, true, by decide +kernel⟩⟩

theorem wit_ReceiverFrames_2 :
    (∃ (s : State) (header : Nat) (fofs : Int), (s.rxState ≠ 5 ∨ s.radio.rx = none)) ∧
    (∃ (s : State) (payload : List Byte), (s.rxState ≠ 6 ∨ s.radio.rx = none)) ∧
    (∃ (s : State) (payload : List Byte) (r : RxRun), (s.rxState = 6) ∧ (s.radio.rx = some r) ∧ (payload.length ≠ (if
      r.isari = true then r.header else r.header / 256))) ∧
    (∃ (s : State) (payload : List Byte) (r : RxRun) (body : List Byte) (u : State), (s.rxState = 6) ∧ (s.radio.rx =
      some r) ∧ (r.isari = false) ∧ (payload.length = r.header / 256) ∧ (body = payload.take r.plain) ∧ (u =
      (({ s with radio := { s.radio with rx := none } } : State).setRx 1).rxBuffer r payload) ∧ (payload.drop r.plain
      ≠ le4 (crc32 body))) ∧
    (∃ (s : State) (payload : List Byte) (r : RxRun) (body : List Byte) (u v w : State) (a k : Nat) (data : List
      Byte), (s.rxState = 6) ∧ (s.radio.rx = some r) ∧ (r.isari = false) ∧ (payload.length = r.header / 256) ∧ (body =
      payload.take r.plain) ∧ (u = (({ s with radio := { s.radio with rx := none } } : State).setRx 1).rxBuffer r
      payload) ∧ (payload.drop r.plain = le4 (crc32 body)) ∧ (u.rxSecurity body = (v, a, k, data)) ∧ (w = v.rxRecord r
      0 (r.header / 16 % 2) (r.header / 32 % 8) (r.header / 256) (field 16 r.fofs) a k data)) ∧
    (∃ (s : State) (payload : List Byte) (r : RxRun) (body : List Byte) (u : State) (c : Nat), (s.rxState = 6) ∧
      (s.radio.rx = some r) ∧ (r.isari = true) ∧ (payload.length = r.header) ∧ (body = payload.take r.plain) ∧ (u =
      (({ s with radio := { s.radio with rx := none } } : State).setRx 1).rxBuffer r payload) ∧ (c = crcIsari
      (BitVec.ofNat 8 r.header :: body)) ∧ (payload.drop r.plain ≠ [BitVec.ofNat 8 (c / 256), BitVec.ofNat 8 c])) :=
  ⟨⟨W.credit 5, 0, 0, by decide⟩,
   ⟨W.credit 6, [], by decide⟩,
   ⟨W.recv 6 { W.rxRun with header := 0x0500 }, [1], { W.rxRun with header := 0x0500 }, by decide +kernel⟩,
   ⟨W.recv 6 { W.rxRun with header := 0x0400 }, [1, 2, 3, 4], { W.rxRun with header := 0x0400 }, [], (({ W.recv 6 { W.rxRun with header := 0x0400 } with radio := { (W.recv 6 { W.rxRun with header := 0x0400 }).radio with rx := none } } : State).setRx 1).rxBuffer { W.rxRun with header := 0x0400 } ([1, 2, 3, 4]), rfl, rfl, rfl, rfl, rfl, rfl, by decide +kernel⟩,
   ⟨W.recv 6 { W.rxRun with header := 0x0400 }, le4 (crc32 []), { W.rxRun with header := 0x0400 }, [], (({ W.recv 6 { W.rxRun with header := 0x0400 } with radio := { (W.recv 6 { W.rxRun with header := 0x0400 }).radio with rx := none } } : State).setRx 1).rxBuffer { W.rxRun with header := 0x0400 } (le4 (crc32 [])), (({ W.recv 6 { W.rxRun with header := 0x0400 } with radio := { (W.recv 6 { W.rxRun with header := 0x0400 }).radio with rx := none } } : State).setRx 1).rxBuffer { W.rxRun with header := 0x0400 } (le4 (crc32 [])), ((({ W.recv 6 { W.rxRun with header := 0x0400 } with radio := { (W.recv 6 { W.rxRun with header := 0x0400 }).radio with rx := none } } : State).setRx 1).rxBuffer { W.rxRun with header := 0x0400 } (le4 (crc32 []))).rxRecord { W.rxRun with header := 0x0400 } 0 0 0 ((({ W.rxRun with header := 0x0400 } : RxRun).header / 256)) (field 16 0) 0 noTicket ([]), 0, noTicket, [], rfl, rfl, rfl, rfl, rfl, rfl, by decide +kernel, by decide +kernel, rfl⟩,
   ⟨W.recv 6 { W.rxRun with header := 3, isari := true }, [7, 1, 2], { W.rxRun with header := 3, isari := true }, [7], (({ W.recv 6 { W.rxRun with header := 3, isari := true } with radio := { (W.recv 6 { W.rxRun with header := 3, isari := true }).radio with rx := none } } : State).setRx 1).rxBuffer { W.rxRun with header := 3, isari := true } ([7, 1, 2]), crcIsari [3, 7], rfl, rfl, rfl, rfl, rfl, rfl, rfl, by decide +kernel⟩⟩

theorem wit_ReceiverFrames_3 :
    ∃ (s : State) (payload : List Byte) (r : RxRun) (body : List Byte) (u v w : State) (a k : Nat) (data : List Byte)
      (c : Nat), (s.rxState = 6) ∧ (s.radio.rx = some r) ∧ (r.isari = true) ∧ (payload.length = r.header) ∧ (body =
      payload.take r.plain) ∧ (u = (({ s with radio := { s.radio with rx := none } } : State).setRx 1).rxBuffer r
      payload) ∧ (c = crcIsari (BitVec.ofNat 8 r.header :: body)) ∧ (payload.drop r.plain = [BitVec.ofNat 8 (c / 256),
      BitVec.ofNat 8 c]) ∧ (u.rxSecurity body = (v, a, k, data)) ∧ (w = v.rxRecord r 0 0 0 r.header (field 16 r.fofs)
      a k data) :=
  ⟨W.recv 6 { W.rxRun with header := 3, isari := true }, [7, BitVec.ofNat 8 (crcIsari [3, 7] / 256), BitVec.ofNat 8 (crcIsari [3, 7])], { W.rxRun with header := 3, isari := true }, [7], (({ W.recv 6 { W.rxRun with header := 3, isari := true } with radio := { (W.recv 6 { W.rxRun with header := 3, isari := true }).radio with rx := none } } : State).setRx 1).rxBuffer { W.rxRun with header := 3, isari := true } ([7, BitVec.ofNat 8 (crcIsari [3, 7] / 256), BitVec.ofNat 8 (crcIsari [3, 7])]), (({ W.recv 6 { W.rxRun with header := 3, isari := true } with radio := { (W.recv 6 { W.rxRun with header := 3, isari := true }).radio with rx := none } } : State).setRx 1).rxBuffer { W.rxRun with header := 3, isari := true } ([7, BitVec.ofNat 8 (crcIsari [3, 7] / 256), BitVec.ofNat 8 (crcIsari [3, 7])]), ((({ W.recv 6 { W.rxRun with header := 3, isari := true } with radio := { (W.recv 6 { W.rxRun with header := 3, isari := true }).radio with rx := none } } : State).setRx 1).rxBuffer { W.rxRun with header := 3, isari := true } ([7, BitVec.ofNat 8 (crcIsari [3, 7] / 256), BitVec.ofNat 8 (crcIsari [3, 7])])).rxRecord { W.rxRun with header := 3, isari := true } 0 0 0 (({ W.rxRun with header := 3, isari := true } : RxRun).header) (field 16 0) 0 noTicket ([7]), 0, noTicket, [7], crcIsari [3, 7], rfl, rfl, rfl, rfl, rfl, rfl, rfl, rfl, rfl, rfl⟩

theorem wit_RadioCommandQueue_1 :
    (∃ (s : State), (s.awake = true) ∧ (s.flag 0 (F.PG_LOCK 0x10) = false)) ∧
    (∃ (s : State), (s.awake = true) ∧ (s.flag 0 (F.PG_LOCK 0x10) = false)) ∧
    (∃ (s : State) (channel : Nat), (s.awake = true) ∧ (s.flag 0 (F.PG_LOCK 0x10) = false)) ∧
    (∃ (s : State) (channel : Nat), (s.awake = true) ∧ (s.flag 0 (F.PG_LOCK 0x10) = false)) ∧
    (∃ (s : State) (after : Nat) (pri : Bool) (template channel ticket : Nat), (s.awake = true) ∧ (s.flag 0 (F.PG_LOCK
      0x10) = false)) ∧
    (∃ (s : State) (channel : Nat), (s.awake = true) ∧ (s.flag 0 (F.PG_LOCK 0x10) = false)) :=
  ⟨⟨W.awake, by decide⟩,
   ⟨W.awake, by decide⟩,
   ⟨W.hop 127, 127, by decide⟩,
   ⟨W.hop 127, 127, by decide⟩,
   ⟨W.hop 0, 2, true, 15, 0, 1023, by decide⟩,
   ⟨W.hop 127, 127, by decide⟩⟩

theorem wit_RadioCommandQueue_2 :
    (∃ (s : State), (s.awake = true) ∧ (s.flag 0 (F.PG_LOCK 0x10) = false)) ∧
    (∃ (s : State), (s.awake = true) ∧ (s.flag 0 (F.PG_LOCK 0x10) = false)) ∧
    (∃ (s : State) (c : RadioCmd) (cs : List RadioCmd) (u : State), (s.awake = true) ∧ (s.radio.running = false) ∧
      (s.radio.goal = none) ∧ (s.flag 0 F.RFC_STAT_PERMIT = true) ∧ (s.pageOn 0 0x10 = true) ∧ (s.pageOn 0 0x0F =
      true) ∧ (s.radioTested = false) ∧ ((s.get 0 F.PWR_STAT_PADHELD).testBit 2 = false) ∧ (s.coord.loading = false) ∧
      (s.power.phase = .none) ∧ (s.radio.queue = c :: cs) ∧ (u =
      { s.abandonHop with radio := { s.abandonHop.radio with running := true } }) ∧ (c.code = 8)) ∧
    (∃ (s : State) (c : RadioCmd) (cs : List RadioCmd) (u : State), (s.awake = true) ∧ (s.radio.running = false) ∧
      (s.radio.goal = none) ∧ (s.flag 0 F.RFC_STAT_PERMIT = true) ∧ (s.pageOn 0 0x10 = true) ∧ (s.pageOn 0 0x0F =
      true) ∧ (s.radioTested = false) ∧ ((s.get 0 F.PWR_STAT_PADHELD).testBit 2 = false) ∧ (s.coord.loading = false) ∧
      (s.power.phase = .none) ∧ (s.radio.queue = c :: cs) ∧ (u =
      { s.abandonHop with radio := { s.abandonHop.radio with running := true } }) ∧ (c.code = 5) ∧ (u.canReserve
      (u.get 0 F.RFC_CFG_TXCLASS) 6 = true)) ∧
    (∃ (s : State) (c : RadioCmd) (cs : List RadioCmd) (u : State), (s.awake = true) ∧ (s.radio.running = false) ∧
      (s.radio.goal = none) ∧ (s.flag 0 F.RFC_STAT_PERMIT = true) ∧ (s.pageOn 0 0x10 = true) ∧ (s.pageOn 0 0x0F =
      true) ∧ (s.radioTested = false) ∧ ((s.get 0 F.PWR_STAT_PADHELD).testBit 2 = false) ∧ (s.coord.loading = false) ∧
      (s.power.phase = .none) ∧ (s.radio.queue = c :: cs) ∧ (u =
      { s.abandonHop with radio := { s.abandonHop.radio with running := true } }) ∧ (c.code = 5) ∧ (u.canReserve
      (u.get 0 F.RFC_CFG_TXCLASS) 6 = false) ∧ (u.radio.creditSeen = true)) ∧
    (∃ (s : State) (c : RadioCmd) (cs : List RadioCmd) (u : State), (s.awake = true) ∧ (s.radio.running = false) ∧
      (s.radio.goal = none) ∧ (s.flag 0 F.RFC_STAT_PERMIT = true) ∧ (s.pageOn 0 0x10 = true) ∧ (s.pageOn 0 0x0F =
      true) ∧ (s.radioTested = false) ∧ ((s.get 0 F.PWR_STAT_PADHELD).testBit 2 = false) ∧ (s.coord.loading = false) ∧
      (s.power.phase = .none) ∧ (s.radio.queue = c :: cs) ∧ (u =
      { s.abandonHop with radio := { s.abandonHop.radio with running := true } }) ∧ (c.code = 5) ∧ (u.canReserve
      (u.get 0 F.RFC_CFG_TXCLASS) 6 = false) ∧ (u.radio.creditSeen = false)) :=
  ⟨⟨W.awake, by decide⟩,
   ⟨W.awake, by decide⟩,
   ⟨W.radioQ [W.rcmd 8], W.rcmd 8, [], { (W.radioQ [W.rcmd 8]).abandonHop with radio := { (W.radioQ [W.rcmd 8]).abandonHop.radio with running := true } }, by decide +kernel⟩,
   ⟨W.radioQ [W.rcmd 5], W.rcmd 5, [], { (W.radioQ [W.rcmd 5]).abandonHop with radio := { (W.radioQ [W.rcmd 5]).abandonHop.radio with running := true } }, by decide +kernel⟩,
   ⟨W.radioQS [W.rcmd 5], W.rcmd 5, [], { (W.radioQS [W.rcmd 5]).abandonHop with radio := { (W.radioQS [W.rcmd 5]).abandonHop.radio with running := true } }, by decide +kernel⟩,
   ⟨W.radioQX [W.rcmd 5], W.rcmd 5, [], { (W.radioQX [W.rcmd 5]).abandonHop with radio := { (W.radioQX [W.rcmd 5]).abandonHop.radio with running := true } }, by decide +kernel⟩⟩

theorem wit_RadioCommandQueue_3 :
    (∃ (s : State) (c : RadioCmd) (cs : List RadioCmd) (u : State), (s.awake = true) ∧ (s.radio.running = false) ∧
      (s.radio.goal = none) ∧ (s.flag 0 F.RFC_STAT_PERMIT = true) ∧ (s.pageOn 0 0x10 = true) ∧ (s.pageOn 0 0x0F =
      true) ∧ (s.radioTested = false) ∧ ((s.get 0 F.PWR_STAT_PADHELD).testBit 2 = false) ∧ (s.coord.loading = false) ∧
      (s.power.phase = .none) ∧ (s.radio.queue = c :: cs) ∧ (u =
      { s.abandonHop with radio := { s.abandonHop.radio with running := true } }) ∧ (c.code = 6)) ∧
    (∃ (s : State) (c : RadioCmd) (cs : List RadioCmd) (u : State), (s.awake = true) ∧ (s.radio.running = false) ∧
      (s.radio.goal = none) ∧ (s.flag 0 F.RFC_STAT_PERMIT = true) ∧ (s.pageOn 0 0x10 = true) ∧ (s.pageOn 0 0x0F =
      true) ∧ (s.radioTested = false) ∧ ((s.get 0 F.PWR_STAT_PADHELD).testBit 2 = false) ∧ (s.coord.loading = false) ∧
      (s.power.phase = .none) ∧ (s.radio.queue = c :: cs) ∧ (u =
      { s.abandonHop with radio := { s.abandonHop.radio with running := true } }) ∧ (c.code = 7)) ∧
    (∃ (s : State) (c : RadioCmd) (cs : List RadioCmd) (u : State), (s.awake = true) ∧ (s.radio.running = false) ∧
      (s.radio.goal = none) ∧ (s.flag 0 F.RFC_STAT_PERMIT = true) ∧ (s.pageOn 0 0x10 = true) ∧ (s.pageOn 0 0x0F =
      true) ∧ (s.radioTested = false) ∧ ((s.get 0 F.PWR_STAT_PADHELD).testBit 2 = false) ∧ (s.coord.loading = false) ∧
      (s.power.phase = .none) ∧ (s.radio.queue = c :: cs) ∧ (u =
      { s.abandonHop with radio := { s.abandonHop.radio with running := true } }) ∧ (c.code = 1 ∨ c.code = 2)) ∧
    (∃ (s : State) (c : RadioCmd) (cs : List RadioCmd) (u : State), (s.awake = true) ∧ (s.radio.running = false) ∧
      (s.radio.goal = none) ∧ (s.flag 0 F.RFC_STAT_PERMIT = true) ∧ (s.pageOn 0 0x10 = true) ∧ (s.pageOn 0 0x0F =
      true) ∧ (s.radioTested = false) ∧ ((s.get 0 F.PWR_STAT_PADHELD).testBit 2 = false) ∧ (s.coord.loading = false) ∧
      (s.power.phase = .none) ∧ (s.radio.queue = c :: cs) ∧ (u =
      { s.abandonHop with radio := { s.abandonHop.radio with running := true } }) ∧ (c.code = 3)) ∧
    (∃ (s : State) (c : RadioCmd) (cs : List RadioCmd) (u : State) (v : State), (s.awake = true) ∧ (s.radio.running =
      false) ∧ (s.radio.goal = none) ∧ (s.flag 0 F.RFC_STAT_PERMIT = true) ∧ (s.pageOn 0 0x10 = true) ∧ (s.pageOn 0
      0x0F = true) ∧ (s.radioTested = false) ∧ ((s.get 0 F.PWR_STAT_PADHELD).testBit 2 = false) ∧ (s.coord.loading =
      false) ∧ (s.power.phase = .none) ∧ (s.radio.queue = c :: cs) ∧ (u =
      { s.abandonHop with radio := { s.abandonHop.radio with running := true } }) ∧ (c.code = 4) ∧ (v = u.cxAssert
      (u.flag 0 F.RFC_CX_RXPRI))) ∧
    (∃ (s : State), (s.awake = false ∨ s.radio.running = true ∨ s.radio.goal ≠ none ∨ s.flag 0 F.RFC_STAT_PERMIT =
      false ∨ s.pageOn 0 0x10 = false ∨ s.pageOn 0 0x0F = false ∨ s.radioTested = true ∨ (s.get 0
      F.PWR_STAT_PADHELD).testBit 2 = true ∨ s.coord.loading = true ∨ s.power.phase ≠ .none ∨ s.radio.queue = [])) :=
  ⟨⟨W.radioQ [W.rcmd 6], W.rcmd 6, [], { (W.radioQ [W.rcmd 6]).abandonHop with radio := { (W.radioQ [W.rcmd 6]).abandonHop.radio with running := true } }, by decide +kernel⟩,
   ⟨W.radioQ [W.rcmd 7], W.rcmd 7, [], { (W.radioQ [W.rcmd 7]).abandonHop with radio := { (W.radioQ [W.rcmd 7]).abandonHop.radio with running := true } }, by decide +kernel⟩,
   ⟨W.radioQ [W.rcmd 2], W.rcmd 2, [], { (W.radioQ [W.rcmd 2]).abandonHop with radio := { (W.radioQ [W.rcmd 2]).abandonHop.radio with running := true } }, by decide +kernel⟩,
   ⟨W.radioQ [W.rcmd 3], W.rcmd 3, [], { (W.radioQ [W.rcmd 3]).abandonHop with radio := { (W.radioQ [W.rcmd 3]).abandonHop.radio with running := true } }, by decide +kernel⟩,
   ⟨W.radioQ [W.rcmd 4], W.rcmd 4, [], { (W.radioQ [W.rcmd 4]).abandonHop with radio := { (W.radioQ [W.rcmd 4]).abandonHop.radio with running := true } }, ({ (W.radioQ [W.rcmd 4]).abandonHop with radio := { (W.radioQ [W.rcmd 4]).abandonHop.radio with running := true } }).cxAssert false, by decide +kernel⟩,
   ⟨W.awake, by decide⟩⟩

theorem wit_RadioCommandQueue_4 :
    (8 ≤ (W.radioQ (List.replicate 8 (W.rcmd 1))).radio.queue.length) ∧
    (W.awake.radio.queue.length < 8 ∧ (W.rcmd 3).code = 3 ∧ W.awake.hopEn 0 = false) ∧
    ((W.hop 0).radio.queue.length < 8 ∧ (W.rcmd 5).after = 0 ∧ (W.hop 0).hopEn 0 = true) :=
  ⟨(by decide),
   (by decide),
   (by decide)⟩

theorem wit_RadioStatesAndTransmit_1 :
    (∃ (s : State) (st n : Nat) (u v w x : State), (s.awake = true) ∧ (s.finishWaits = false) ∧ (s.radioNext = some
      (st, n)) ∧ (u = (if s.rstate = 4 then s.leaveRx else s)) ∧ (v = (u.set 0 F.RFC_STAT_RSTATE st).set 0
      F.RFC_STAT_CHAN n) ∧ (w = (if st = 4 then v.setRx 1 else v)) ∧ (x = (if st = 4 ∧ w.flag 0 F.RFC_STAT_CXREQ =
      false then w.cxAssert (w.flag 0 F.RFC_CX_RXPRI) else w))) ∧
    (∃ (s : State), (s.awake = true) ∧ (s.finishWaits = true ∨ s.radioNext = none)) ∧
    (∃ (s : State) (c : RadioCmd) (cls st : Nat) (x : TxRun) (u : State), (s.awake = true) ∧ (s.radio.running = true)
      ∧ (s.radio.tx = none) ∧ (s.radio.queue.head? = some c) ∧ (cls = s.get 0 F.RFC_CFG_TXCLASS) ∧ (c.code = 5) ∧
      (s.canReserve cls 6 = true) ∧ ((s.reserve cls 6).prepareTx c cls = (st, x)) ∧ (u = s.reserve cls 6) ∧ (st = 0)) ∧
    (∃ (s : State) (c : RadioCmd) (cls st : Nat) (x : TxRun) (u : State), (s.awake = true) ∧ (s.radio.running = true)
      ∧ (s.radio.tx = none) ∧ (s.radio.queue.head? = some c) ∧ (cls = s.get 0 F.RFC_CFG_TXCLASS) ∧ (c.code = 5) ∧
      (s.canReserve cls 6 = true) ∧ ((s.reserve cls 6).prepareTx c cls = (st, x)) ∧ (u = s.reserve cls 6) ∧ (st ≠ 0)) ∧
    (∃ (s : State) (c : RadioCmd), (s.radio.queue.head? = some c) ∧ (s.canReserve (s.get 0 F.RFC_CFG_TXCLASS) 6 =
      false)) ∧
    (∃ (s : State) (x : TxRun) (charge : Nat), (s.awake = true) ∧ (s.rampReady = true) ∧ (s.radio.tx = some x) ∧
      (charge = airTime (s.flag 0 F.RFX_CFG_ISARI) x.flags x.len + 2 * s.get 0 F.RFX_TXCFG_RAMP_T) ∧ (s.dutyLimit
      x.subband ≠ 1000) ∧ (s.dutyLimit x.subband * 3600000 < s.dutyUsed x.subband + charge)) :=
  ⟨⟨W.goal 1 3, 2, 3, W.goal 1 3, W.goal23, W.goal23, W.goal23, by decide⟩,
   ⟨W.awake, by decide⟩,
   ⟨W.ready5, W.rcmd 5, 1, 0, ((W.ready5.reserve 1 6).prepareTx (W.rcmd 5) 1).2, W.ready5.reserve 1 6, by decide +kernel⟩,
   ⟨W.ready6, W.rcmd 5, 1, 6, ((W.ready6.reserve 1 6).prepareTx (W.rcmd 5) 1).2, W.ready6.reserve 1 6, by decide +kernel⟩,
   ⟨W.radioQX [W.rcmd 5], W.rcmd 5, by decide +kernel⟩,
   ⟨W.ramp 0 4000000, W.txRun 0, 2576, by decide +kernel⟩⟩

theorem wit_RadioStatesAndTransmit_2 :
    (∃ (s : State) (x y : TxRun) (charge ctr : Nat) (u v w : State), (s.awake = true) ∧ (s.rampReady = true) ∧
      (s.radio.tx = some x) ∧ (charge = airTime (s.flag 0 F.RFX_CFG_ISARI) x.flags x.len + 2 * s.get 0
      F.RFX_TXCFG_RAMP_T) ∧ (s.dutyLimit x.subband = 1000 ∨ s.dutyUsed x.subband + charge ≤ s.dutyLimit x.subband *
      3600000) ∧ (u = s) ∧ (ctr = u.get 0 F.SEC_TXCTR_CTR) ∧ (y =
      { x with started := true, charge := charge, frame := txFrame (s.flag 0 F.RFX_CFG_ISARI) x u.ownId ctr, fcnt := if x.secure.isSome = true then ctr else 0, firstChip := u.time + usTicks (u.get 0 F.RFX_TXCFG_RAMP_T) })
      ∧ (v = (if x.secure.isSome = true then u.nextCounter else u)) ∧ (w =
      ({ v with radio := { v.radio with tx := some y, charges := v.radio.charges ++ [(x.subband, v.radio.second, charge)] } }
      : State).set 0 F.RFC_STAT_RSTATE 5)) ∧
    (∃ (s : State), (s.awake = false ∨ s.rampReady = false)) ∧
    (∃ (s : State), (s.sending = false)) ∧
    (∃ (s : State), (s.sending = false)) ∧
    (∃ (s : State), (s.radio.tx = none ∨ s.sending = true)) ∧
    (∃ (s : State) (below : List Nat), (s.sending = false ∨ s.flag 0 F.RFX_CFG_ISARI = false)) :=
  ⟨⟨W.ramp 10 0, W.txRun 0, { W.txRun 0 with started := true, charge := 2576, frame := txFrame false (W.txRun 0) (W.ramp 10 0).ownId ((W.ramp 10 0).get 0 F.SEC_TXCTR_CTR), fcnt := 0, firstChip := (W.ramp 10 0).time + usTicks ((W.ramp 10 0).get 0 F.RFX_TXCFG_RAMP_T) }, 2576, 0, W.ramp 10 0, W.ramp 10 0, ({ W.ramp 10 0 with radio := { (W.ramp 10 0).radio with tx := some { W.txRun 0 with started := true, charge := 2576, frame := txFrame false (W.txRun 0) (W.ramp 10 0).ownId ((W.ramp 10 0).get 0 F.SEC_TXCTR_CTR), fcnt := 0, firstChip := (W.ramp 10 0).time + usTicks ((W.ramp 10 0).get 0 F.RFX_TXCFG_RAMP_T) }, charges := (W.ramp 10 0).radio.charges ++ [(0, (W.ramp 10 0).radio.second, 2576)] } } : State).set 0 F.RFC_STAT_RSTATE 5, by decide, by decide, rfl, by decide +kernel, by decide +kernel, rfl, rfl, rfl, rfl, rfl⟩,
   ⟨W.awake, by decide⟩,
   ⟨W.awake, by decide⟩,
   ⟨W.awake, by decide⟩,
   ⟨W.sending, by decide⟩,
   ⟨W.sending, [0], by decide⟩⟩

theorem wit_RadioStatesAndTransmit_3 :
    (∃ (s : State), (s.sending = true)) ∧
    (∃ (s : State), (s.sending = true)) ∧
    (∃ (s : State) (x : TxRun) (c : RadioCmd), (s.radio.tx = some x) ∧ (s.sending = false) ∧ (s.radio.queue.head? =
      some c) ∧ (s.rstate ≠ 3 ∧ s.rstate ≠ 4 ∨ s.chan ≠ c.channel ∨ s.hopValid c.channel = false)) ∧
    (∃ (s : State) (below : List Nat) (x : TxRun) (bad : List Nat), (s.sending = true) ∧ (s.flag 0 F.RFX_CFG_ISARI =
      true) ∧ (s.radio.tx = some x) ∧ (bad = s.maskViolated below) ∧ (bad.any x.maskBad.contains = true)) ∧
    (∃ (s : State) (below : List Nat) (x : TxRun) (bad : List Nat), (s.sending = true) ∧ (s.flag 0 F.RFX_CFG_ISARI =
      true) ∧ (s.radio.tx = some x) ∧ (bad = s.maskViolated below) ∧ (bad.any x.maskBad.contains = false)) ∧
    ((List.replicate 20 (0 : Byte)).length = 20) :=
  ⟨⟨W.sending, by decide⟩,
   ⟨W.sending, by decide⟩,
   ⟨(W.ramp 0 0).set 0 F.RFC_STAT_RSTATE 2, W.txRun 0, W.rcmd 5, by decide⟩,
   ⟨W.masked [3], [127, 127, 127, 0], { W.txRun 1 with maskBad := [3] }, [3], by decide +kernel⟩,
   ⟨W.masked [], [127, 127, 127, 0], { W.txRun 1 with maskBad := [] }, [3], by decide +kernel⟩,
   (by decide)⟩

theorem wit_RadioCoexDutyKeys_1 :
    (∃ (s : State) (u : State), (u = s.set 0 F.RFC_STAT_CXGNT 0) ∧ (u.flag 0 F.RFC_CX_MODE = false)) ∧
    (∃ (s : State) (u : State) (x : TxRun), (u = s.set 0 F.RFC_STAT_CXGNT 0) ∧ (u.flag 0 F.RFC_CX_MODE = true) ∧
      (u.sending = true) ∧ (u.radio.tx = some x) ∧ (x.lastChip (u.get 0 F.RFX_TXCFG_RAMP_T) ≤ u.time)) ∧
    (∃ (s : State) (u : State) (x : TxRun), (u = s.set 0 F.RFC_STAT_CXGNT 0) ∧ (u.flag 0 F.RFC_CX_MODE = true) ∧
      (u.sending = true) ∧ (u.radio.tx = some x) ∧ (x.lastChip (u.get 0 F.RFX_TXCFG_RAMP_T) > u.time)) ∧
    (∃ (s : State) (u : State), (u = s.set 0 F.RFC_STAT_CXGNT 0) ∧ (u.flag 0 F.RFC_CX_MODE = true) ∧ (u.sending =
      false)) ∧
    (∃ (s : State) (x : TxRun), (s.radio.tx = some x) ∧ (s.sending = false) ∧ (s.flag 0 F.RFC_CX_MODE = true) ∧
      (s.flag 0 F.RFC_STAT_CXGNT = false)) ∧
    (∃ (s : State) (entry : Nat) (u : State), (s.awake = true) ∧ (s.rstate = 1) ∧ (s.radio.queue = []) ∧ (s.radio.goal
      = none) ∧ (s.radio.hopRun = none) ∧ ((s.calTarget (hopSet entry)).due = true) ∧ (s.hopEn entry = true) ∧
      (s.power.phase = .none) ∧ (s.pageOn 0 0x12 = true) ∧ (s.radioTested = false) ∧ (u = s.setCalTarget (hopSet
      entry) { s.calTarget (hopSet entry) with running := true })) :=
  ⟨⟨W.awake, W.awake.set 0 F.RFC_STAT_CXGNT 0, by decide⟩,
   ⟨W.sending.set 0 F.RFC_CX_MODE 1, (W.sending.set 0 F.RFC_CX_MODE 1).set 0 F.RFC_STAT_CXGNT 0, W.txRun 1, by decide⟩,
   ⟨({ W.sending with radio := { W.sending.radio with tx := some { W.txRun 1 with firstChip := 9999999 } } } : State).set 0 F.RFC_CX_MODE 1, (({ W.sending with radio := { W.sending.radio with tx := some { W.txRun 1 with firstChip := 9999999 } } } : State).set 0 F.RFC_CX_MODE 1).set 0 F.RFC_STAT_CXGNT 0, { W.txRun 1 with firstChip := 9999999 }, by decide⟩,
   ⟨W.awake.set 0 F.RFC_CX_MODE 1, (W.awake.set 0 F.RFC_CX_MODE 1).set 0 F.RFC_STAT_CXGNT 0, by decide⟩,
   ⟨(W.ramp 0 0).set 0 F.RFC_CX_MODE 1, W.txRun 0, by decide⟩,
   ⟨W.stale, 127, W.stale.setCalTarget (hopSet 127) { W.stale.calTarget (hopSet 127) with running := true }, by decide⟩⟩

theorem wit_RadioCoexDutyKeys_2 :
    (∃ (s : State) (entry : Nat) (temp band gain : Int) (k : Nat) (u : State), (s.awake = true) ∧ (s.radio.startup =
      []) ∧ (k = hopSet entry) ∧ (u = ((s.setCalTarget k { s.calTarget k with due := false, aged := false }).set 0
      (F.RFC_HOP_VALID entry) 1).endRun k true temp [(13, 0, band), (14, 0, gain)]) ∧ (s.rstate = 2) ∧ (s.chan =
      entry) ∧ (s.radio.hopRun = none)) ∧
    (∃ (s : State) (entry : Nat) (temp band gain : Int) (k : Nat) (u : State), (s.awake = true) ∧ (s.radio.startup =
      []) ∧ (k = hopSet entry) ∧ (u = ((s.setCalTarget k { s.calTarget k with due := false, aged := false }).set 0
      (F.RFC_HOP_VALID entry) 1).endRun k true temp [(13, 0, band), (14, 0, gain)]) ∧ (s.rstate ≠ 2 ∨ s.chan ≠ entry)
      ∧ (s.radio.hopRun = some entry)) ∧
    (∃ (s : State), (s.device ≠ .off)) ∧
    (∃ (s : State) (entry : Nat) (temp band gain : Int) (k : Nat) (rest : List Nat) (u v : State), (s.awake = true) ∧
      (s.radio.startup = entry :: rest) ∧ (k = hopSet entry) ∧ (u = ((s.setCalTarget k
      { s.calTarget k with due := false, aged := false }).set 0 (F.RFC_HOP_VALID entry) 1).endRun k true temp [(13, 0,
      band), (14, 0, gain)]) ∧ (s.rstate ≠ 2) ∧ (s.radio.hopRun = none) ∧ (v =
      { u with radio := { u.radio with startup := u.radio.startup.tail } }) ∧ (v.radio.startup.isEmpty = false)) ∧
    (∃ (s : State) (entry : Nat) (temp band gain : Int) (k : Nat) (rest : List Nat) (u v : State), (s.awake = true) ∧
      (s.radio.startup = entry :: rest) ∧ (k = hopSet entry) ∧ (u = ((s.setCalTarget k
      { s.calTarget k with due := false, aged := false }).set 0 (F.RFC_HOP_VALID entry) 1).endRun k true temp [(13, 0,
      band), (14, 0, gain)]) ∧ (s.rstate ≠ 2) ∧ (s.radio.hopRun = none) ∧ (v =
      { u with radio := { u.radio with startup := u.radio.startup.tail } }) ∧ (v.radio.startup.isEmpty = true)) ∧
    (∃ (s : State) (entry : Nat) (temp band gain : Int), (s.awake = false ∨ s.radio.startup.head? ≠ some entry ∧
      (s.rstate ≠ 2 ∨ s.chan ≠ entry) ∧ s.radio.hopRun ≠ some entry)) :=
  ⟨⟨W.hopRun 127 false, 127, 250, 3, 4, hopSet 127, W.endHop (W.hopRun 127 false) 127, by decide, by decide, rfl, rfl, by decide, by decide, by decide⟩,
   ⟨W.hopRun 127 true, 0, 250, 3, 4, hopSet 0, W.endHop (W.hopRun 127 true) 0, by decide, by decide, rfl, rfl, by decide, by decide⟩,
   ⟨W.ramp 0 5, by decide⟩,
   ⟨W.startHop [127], 5, 250, 3, 4, hopSet 5, [127], W.endHop (W.startHop [127]) 5, { W.endHop (W.startHop [127]) 5 with radio := { (W.endHop (W.startHop [127]) 5).radio with startup := (W.endHop (W.startHop [127]) 5).radio.startup.tail } }, by decide, rfl, rfl, rfl, by decide, by decide, rfl, by decide +kernel⟩,
   ⟨W.startHop [], 5, 250, 3, 4, hopSet 5, [], W.endHop (W.startHop []) 5, { W.endHop (W.startHop []) 5 with radio := { (W.endHop (W.startHop []) 5).radio with startup := (W.endHop (W.startHop []) 5).radio.startup.tail } }, by decide, rfl, rfl, rfl, by decide, by decide, rfl, by decide +kernel⟩,
   ⟨W.awake, 5, 250, 3, 4, by decide⟩⟩

theorem wit_RadioCoexDutyKeys_3 :
    (∃ (s : State), (s.device = .off)) ∧
    (∃ (s : State) (slot : Nat), (s.awake = true) ∧ (s.flag 0 (F.PG_LOCK 0x11) = false) ∧ (slot < 64) ∧ (s.radio.tx =
      none)) ∧
    (∃ (s : State) (slot : Nat) (x : TxRun), (s.awake = true) ∧ (s.flag 0 (F.PG_LOCK 0x11) = false) ∧ (slot < 64) ∧
      (s.radio.tx = some x) ∧ (x.secure = none)) ∧
    (∃ (s : State) (slot : Nat) (x : TxRun) (l m : Nat) (k : List Word), (s.awake = true) ∧ (s.flag 0 (F.PG_LOCK 0x11)
      = false) ∧ (slot < 64) ∧ (s.radio.tx = some x) ∧ (x.secure = some (l, m, k)) ∧ (m ≠ slot)) ∧
    (∃ (s : State) (slot : Nat) (x : TxRun) (l : Nat) (k : List Word), (s.awake = true) ∧ (s.flag 0 (F.PG_LOCK 0x11) =
      false) ∧ (slot < 64) ∧ (s.radio.tx = some x) ∧ (x.secure = some (l, slot, k))) ∧
    (∃ (s : State) (slot : Nat), (s.awake = true) ∧ (s.flag 0 (F.PG_LOCK 0x11) = false) ∧ (slot < 64) ∧ (s.radio.tx =
      none)) :=
  ⟨⟨W.off, by decide⟩,
   ⟨W.awake, 63, by decide⟩,
   ⟨W.sending, 63, W.txRun 1, by decide⟩,
   ⟨W.keyed, 62, { W.txRun 1 with secure := some (5, 63, []) }, 5, 63, [], by decide⟩,
   ⟨W.keyed, 63, { W.txRun 1 with secure := some (5, 63, []) }, 5, [], by decide⟩,
   ⟨W.awake, 63, by decide⟩⟩

theorem wit_RadioCoexDutyKeys_4 :
    (∃ (s : State) (slot : Nat) (x : TxRun), (s.awake = true) ∧ (s.flag 0 (F.PG_LOCK 0x11) = false) ∧ (slot < 64) ∧
      (s.radio.tx = some x) ∧ (x.secure = none)) ∧
    (∃ (s : State) (slot : Nat) (x : TxRun) (l m : Nat) (k : List Word), (s.awake = true) ∧ (s.flag 0 (F.PG_LOCK 0x11)
      = false) ∧ (slot < 64) ∧ (s.radio.tx = some x) ∧ (x.secure = some (l, m, k)) ∧ (m ≠ slot)) ∧
    (∃ (s : State) (slot : Nat) (x : TxRun) (l : Nat) (k : List Word), (s.awake = true) ∧ (s.flag 0 (F.PG_LOCK 0x11) =
      false) ∧ (slot < 64) ∧ (s.radio.tx = some x) ∧ (x.secure = some (l, slot, k))) :=
  ⟨⟨W.sending, 63, W.txRun 1, by decide⟩,
   ⟨W.keyed, 62, { W.txRun 1 with secure := some (5, 63, []) }, 5, 63, [], by decide⟩,
   ⟨W.keyed, 63, { W.txRun 1 with secure := some (5, 63, []) }, 5, [], by decide⟩⟩

theorem wit_PollArithmetic_1 :
    (∃ (s : State) (list : Nat) (r : PleRun) (w v : Word) (u : State), ((s.pleList list).run = some r) ∧ (w =
      s.progWord r.pc) ∧ (v = s.progWord (r.pc + 1)) ∧ (s.pleEngine = true) ∧ (opOf w = 2) ∧ (s.pleSelected = some
      list) ∧ (r.wait = .none) ∧ (u =
      { s with ple := { s.ple with last := Store.insert (Store.erase s.ple.last r.prio) r.prio list, wrote := [] } })) ∧
    (∃ (s : State) (list : Nat) (r : PleRun) (w v : Word) (u : State), ((s.pleList list).run = some r) ∧ (w =
      s.progWord r.pc) ∧ (v = s.progWord (r.pc + 1)) ∧ (s.pleEngine = true) ∧ (opOf w = 3) ∧ (s.pleSelected = some
      list) ∧ (r.wait = .none) ∧ (u =
      { s with ple := { s.ple with last := Store.insert (Store.erase s.ple.last r.prio) r.prio list, wrote := [] } })) ∧
    (∃ (s : State) (list : Nat) (r : PleRun) (w v : Word) (u : State) (x : Int), ((s.pleList list).run = some r) ∧ (w
      = s.progWord r.pc) ∧ (v = s.progWord (r.pc + 1)) ∧ (s.pleEngine = true) ∧ (opOf w = 6) ∧ (s.pleSelected = some
      list) ∧ (r.wait = .none) ∧ (u =
      { s with ple := { s.ple with last := Store.insert (Store.erase s.ple.last r.prio) r.prio list, wrote := [] } })
      ∧ (x = (u.pleVar (fieldB w)).toInt + (u.pleVar (fieldC w)).toInt)) ∧
    (∃ (s : State) (list : Nat) (r : PleRun) (w v : Word) (u : State) (x : Int), ((s.pleList list).run = some r) ∧ (w
      = s.progWord r.pc) ∧ (v = s.progWord (r.pc + 1)) ∧ (s.pleEngine = true) ∧ (opOf w = 7) ∧ (s.pleSelected = some
      list) ∧ (r.wait = .none) ∧ (u =
      { s with ple := { s.ple with last := Store.insert (Store.erase s.ple.last r.prio) r.prio list, wrote := [] } })
      ∧ (x = (u.pleVar (fieldB w)).toInt - (u.pleVar (fieldC w)).toInt)) ∧
    (∃ (s : State) (list : Nat) (r : PleRun) (w v : Word) (u : State) (x : Int), ((s.pleList list).run = some r) ∧ (w
      = s.progWord r.pc) ∧ (v = s.progWord (r.pc + 1)) ∧ (s.pleEngine = true) ∧ (opOf w = 8) ∧ (s.pleSelected = some
      list) ∧ (r.wait = .none) ∧ (u =
      { s with ple := { s.ple with last := Store.insert (Store.erase s.ple.last r.prio) r.prio list, wrote := [] } })
      ∧ (x = Int.fdiv ((u.pleVar (fieldB w)).toInt * signed 16 (bits v 16 16)) (2 ^ bits v 0 5 : Nat))) ∧
    (∃ (s : State) (list : Nat) (r : PleRun) (w v : Word) (u : State) (x : Word), ((s.pleList list).run = some r) ∧ (w
      = s.progWord r.pc) ∧ (v = s.progWord (r.pc + 1)) ∧ (s.pleEngine = true) ∧ (opOf w = 9) ∧ (s.pleSelected = some
      list) ∧ (r.wait = .none) ∧ (u =
      { s with ple := { s.ple with last := Store.insert (Store.erase s.ple.last r.prio) r.prio list, wrote := [] } })
      ∧ (x = (if bit w 0 then ofInt (signed (bits w 4 5 + 1) (bits (u.pleVar (fieldB w)) (bits w 9 5) (bits w 4 5 +
      1))) else word (bits (u.pleVar (fieldB w)) (bits w 9 5) (bits w 4 5 + 1))))) :=
  ⟨⟨W.ple 0x13f08000 0, 31, W.prun, 0x13f08000, 0, W.pleU (W.ple 0x13f08000 0), by decide +kernel⟩,
   ⟨W.ple 0x1bf00000 0x80000000, 31, W.prun, 0x1bf00000, 0x80000000, W.pleU (W.ple 0x1bf00000 0x80000000), by decide +kernel⟩,
   ⟨W.ple 0x30108300 0, 31, W.prun, 0x30108300, 0, W.pleU (W.ple 0x30108300 0), 0, by decide +kernel⟩,
   ⟨W.ple 0x38108300 0, 31, W.prun, 0x38108300, 0, W.pleU (W.ple 0x38108300 0), 0, by decide +kernel⟩,
   ⟨W.ple 0x40108000 0xFFFF001F, 31, W.prun, 0x40108000, 0xFFFF001F, W.pleU (W.ple 0x40108000 0xFFFF001F), 0, by decide +kernel⟩,
   ⟨W.ple 0x481081f1 0, 31, W.prun, 0x481081f1, 0, W.pleU (W.ple 0x481081f1 0), 0, by decide +kernel⟩⟩

theorem wit_PollArithmetic_2 :
    (∃ (s : State) (list : Nat) (r : PleRun) (w v : Word) (u : State) (x : Word), ((s.pleList list).run = some r) ∧ (w
      = s.progWord r.pc) ∧ (v = s.progWord (r.pc + 1)) ∧ (s.pleEngine = true) ∧ (opOf w = 10) ∧ (s.pleSelected = some
      list) ∧ (r.wait = .none) ∧ (u =
      { s with ple := { s.ple with last := Store.insert (Store.erase s.ple.last r.prio) r.prio list, wrote := [] } })
      ∧ (u.pleValid (fieldA w) = false) ∧ (x = u.pleVar (fieldB w))) ∧
    (∃ (s : State) (list : Nat) (r : PleRun) (w v : Word) (u : State) (d : Int) (x : Word), ((s.pleList list).run =
      some r) ∧ (w = s.progWord r.pc) ∧ (v = s.progWord (r.pc + 1)) ∧ (s.pleEngine = true) ∧ (opOf w = 10) ∧
      (s.pleSelected = some list) ∧ (r.wait = .none) ∧ (u =
      { s with ple := { s.ple with last := Store.insert (Store.erase s.ple.last r.prio) r.prio list, wrote := [] } })
      ∧ (u.pleValid (fieldA w) = true) ∧ (d = (u.pleVar (fieldB w)).toInt - (u.pleVar (fieldA w)).toInt) ∧ (x = ofInt
      ((u.pleVar (fieldA w)).toInt + Int.fdiv (sat32 d) (2 ^ bits w 0 4 : Nat)))) ∧
    (∃ (s : State) (list : Nat) (r : PleRun) (w v : Word) (u : State) (old hist : List (Word × Bool)) (m : Word),
      ((s.pleList list).run = some r) ∧ (w = s.progWord r.pc) ∧ (v = s.progWord (r.pc + 1)) ∧ (s.pleEngine = true) ∧
      (opOf w = 11) ∧ (s.pleSelected = some list) ∧ (r.wait = .none) ∧ (u =
      { s with ple := { s.ple with last := Store.insert (Store.erase s.ple.last r.prio) r.prio list, wrote := [] } })
      ∧ (old = [0, 1, 2, 3].map (fun i => (u.pleVar (fieldC w + i), u.pleValid (fieldC w + i)))) ∧ (m = ofInt
      (medianOf ((u.pleVar (fieldB w)).toInt :: (old.filter Prod.snd).map (fun x => x.1.toInt)))) ∧ (hist = (u.pleVar
      (fieldB w), u.pleValid (fieldB w)) :: old.take 3)) ∧
    (∃ (s : State) (list : Nat) (r : PleRun) (w v : Word) (u : State), ((s.pleList list).run = some r) ∧ (w =
      s.progWord r.pc) ∧ (v = s.progWord (r.pc + 1)) ∧ (s.pleEngine = true) ∧ (opOf w = 12) ∧ (s.pleSelected = some
      list) ∧ (r.wait = .none) ∧ (u =
      { s with ple := { s.ple with last := Store.insert (Store.erase s.ple.last r.prio) r.prio list, wrote := [] } })
      ∧ ((List.range (bits w 0 5)).all (fun i => !u.pleValid (fieldB w + i)) = true)) ∧
    (∃ (s : State) (list : Nat) (r : PleRun) (w v : Word) (u : State) (l : List Nat) (x : Word), ((s.pleList list).run
      = some r) ∧ (w = s.progWord r.pc) ∧ (v = s.progWord (r.pc + 1)) ∧ (s.pleEngine = true) ∧ (opOf w = 12) ∧
      (s.pleSelected = some list) ∧ (r.wait = .none) ∧ (u =
      { s with ple := { s.ple with last := Store.insert (Store.erase s.ple.last r.prio) r.prio list, wrote := [] } })
      ∧ (l = ((List.range (bits w 0 5)).map (fieldB w + ·)).filter u.pleValid) ∧ (l ≠ []) ∧ (x = ofInt (Int.tdiv
      ((l.map (fun i => (u.pleVar i).toInt)).foldl (· + ·) 0) l.length))) ∧
    (∃ (s : State) (list : Nat) (r : PleRun) (w v : Word) (u : State) (on change : Bool), ((s.pleList list).run = some
      r) ∧ (w = s.progWord r.pc) ∧ (v = s.progWord (r.pc + 1)) ∧ (s.pleEngine = true) ∧ (opOf w = 13) ∧ (s.pleSelected
      = some list) ∧ (r.wait = .none) ∧ (u =
      { s with ple := { s.ple with last := Store.insert (Store.erase s.ple.last r.prio) r.prio list, wrote := [] } })
      ∧ (on = (u.pleValid (fieldA w) && u.pleVar (fieldA w) != 0)) ∧ (change = (if on then decide ((u.pleVar (fieldB
      w)).toInt < sat32 ((u.pleVar (fieldC w)).toInt - (u.pleVar (fieldD w)).toInt)) else decide (sat32 ((u.pleVar
      (fieldC w)).toInt + (u.pleVar (fieldD w)).toInt) ≤ (u.pleVar (fieldB w)).toInt)))) :=
  ⟨⟨W.ple 0x5010800f 0, 31, W.prun, 0x5010800f, 0, W.pleU (W.ple 0x5010800f 0), 0, by decide +kernel⟩,
   ⟨W.pleV 0x5010800f 0, 31, W.prun, 0x5010800f, 0, W.pleU (W.pleV 0x5010800f 0), 4, 5, by decide +kernel⟩,
   ⟨W.ple 0x5810bc00 0, 31, W.prun, 0x5810bc00, 0, W.pleU (W.ple 0x5810bc00 0), List.replicate 4 (0, false), List.replicate 4 (0, false), 0, by decide +kernel⟩,
   ⟨W.ple 0x601c0010 0, 31, W.prun, 0x601c0010, 0, W.pleU (W.ple 0x601c0010 0), by decide +kernel⟩,
   ⟨W.pleV 0x60100002 0, 31, W.prun, 0x60100002, 0, W.pleU (W.pleV 0x60100002 0), [1], 5, by decide +kernel⟩,
   ⟨W.ple 0x68108310 0, 31, W.prun, 0x68108310, 0, W.pleU (W.ple 0x68108310 0), false, true, by decide +kernel⟩⟩

theorem wit_PollArithmetic_3 :
    (∃ (s : State) (list : Nat) (r : PleRun) (w v : Word) (u : State), ((s.pleList list).run = some r) ∧ (w =
      s.progWord r.pc) ∧ (v = s.progWord (r.pc + 1)) ∧ (s.pleEngine = true) ∧ (opOf w = 14) ∧ (s.pleSelected = some
      list) ∧ (r.wait = .none) ∧ (u =
      { s with ple := { s.ple with last := Store.insert (Store.erase s.ple.last r.prio) r.prio list, wrote := [] } })) ∧
    (∃ (s : State) (list : Nat) (r : PleRun) (w v : Word) (u : State) (x : Nat), ((s.pleList list).run = some r) ∧ (w
      = s.progWord r.pc) ∧ (v = s.progWord (r.pc + 1)) ∧ (s.pleEngine = true) ∧ (opOf w = 15) ∧ (s.pleSelected = some
      list) ∧ (r.wait = .none) ∧ (u =
      { s with ple := { s.ple with last := Store.insert (Store.erase s.ple.last r.prio) r.prio list, wrote := [] } })
      ∧ (x = field 64 ((r.time : Int) + v.toInt * 27120))) ∧
    ((0x00, Instr.pleEnd 31) ∈ [(0x00, Instr.pleEnd 31)] ∧ (W.awake.pleList 31).run = none) ∧
    ((W.ple 0 0).pleEngine = true ∧ ((W.ple 0 0).pleList 31).run = some W.prun ∧ opOf ((W.ple 0 0).progWord W.prun.pc)
      ≠ 24) :=
  ⟨⟨W.ple 0x73c00000 0, 31, W.prun, 0x73c00000, 0, W.pleU (W.ple 0x73c00000 0), by decide +kernel⟩,
   ⟨W.ple 0x7be00000 0xFFFFFFFF, 31, W.prun, 0x7be00000, 0xFFFFFFFF, W.pleU (W.ple 0x7be00000 0xFFFFFFFF), field 64 (5 - 27120), by decide +kernel⟩,
   (by decide),
   (by decide)⟩

theorem wit_PollControl_1 :
    (∃ (s : State) (list : Nat) (r : PleRun) (w v : Word) (u : State) (z : State), ((s.pleList list).run = some r) ∧
      (w = s.progWord r.pc) ∧ (v = s.progWord (r.pc + 1)) ∧ (s.pleEngine = true) ∧ (opOf w = 0) ∧ (s.pleSelected =
      some list) ∧ (r.wait = .none) ∧ (u =
      { s with ple := { s.ple with last := Store.insert (Store.erase s.ple.last r.prio) r.prio list, wrote := [] } })
      ∧ (z = u.setList list { u.pleList list with run := none })) ∧
    (∃ (s : State) (list : Nat) (r : PleRun) (w v : Word) (u : State), ((s.pleList list).run = some r) ∧ (w =
      s.progWord r.pc) ∧ (v = s.progWord (r.pc + 1)) ∧ (s.pleEngine = true) ∧ (opOf w = 1) ∧ (s.pleSelected = some
      list) ∧ (r.wait = .none) ∧ (u =
      { s with ple := { s.ple with last := Store.insert (Store.erase s.ple.last r.prio) r.prio list, wrote := [] } })) ∧
    (∃ (s : State) (list : Nat) (r : PleRun) (w v : Word) (u : State), ((s.pleList list).run = some r) ∧ (w =
      s.progWord r.pc) ∧ (v = s.progWord (r.pc + 1)) ∧ (s.pleEngine = true) ∧ (opOf w = 16) ∧ (s.pleSelected = some
      list) ∧ (r.wait = .none) ∧ (u =
      { s with ple := { s.ple with last := Store.insert (Store.erase s.ple.last r.prio) r.prio list, wrote := [] } })) ∧
    (∃ (s : State) (list : Nat) (r : PleRun) (w v : Word) (u : State) (z : State) (x : Word) (bad : Bool), ((s.pleList
      list).run = some r) ∧ (w = s.progWord r.pc) ∧ (v = s.progWord (r.pc + 1)) ∧ (s.pleEngine = true) ∧ (opOf w = 4)
      ∧ (s.pleSelected = some list) ∧ (r.wait = .none) ∧ (u =
      { s with ple := { s.ple with last := Store.insert (Store.erase s.ple.last r.prio) r.prio list, wrote := [] } })
      ∧ (u.busRead 2 (bits v 0 24) (addrPage (bits v 0 24) == 0x05) = (z, x, bad))) ∧
    (∃ (s : State) (list : Nat) (r : PleRun) (w v : Word) (u : State) (z : State), ((s.pleList list).run = some r) ∧
      (w = s.progWord r.pc) ∧ (v = s.progWord (r.pc + 1)) ∧ (s.pleEngine = true) ∧ (opOf w = 5) ∧ (s.pleSelected =
      some list) ∧ (r.wait = .none) ∧ (u =
      { s with ple := { s.ple with last := Store.insert (Store.erase s.ple.last r.prio) r.prio list, wrote := [] } })
      ∧ (u.busWrite (bits v 0 24) (u.pleVar (fieldA w)) = (z, 0)) ∧ (u.discards (bits v 0 24) (u.pleVar (fieldA w)) =
      0)) ∧
    (∃ (s : State) (list : Nat) (r : PleRun) (w v : Word) (u : State) (z : State) (code : Nat), ((s.pleList list).run
      = some r) ∧ (w = s.progWord r.pc) ∧ (v = s.progWord (r.pc + 1)) ∧ (s.pleEngine = true) ∧ (opOf w = 5) ∧
      (s.pleSelected = some list) ∧ (r.wait = .none) ∧ (u =
      { s with ple := { s.ple with last := Store.insert (Store.erase s.ple.last r.prio) r.prio list, wrote := [] } })
      ∧ (u.busWrite (bits v 0 24) (u.pleVar (fieldA w)) = (z, code)) ∧ (code ≠ 0 ∨ u.discards (bits v 0 24) (u.pleVar
      (fieldA w)) ≠ 0)) :=
  ⟨⟨W.ple 0x0 0, 31, W.prun, 0x0, 0, W.pleU (W.ple 0x0 0), (W.pleU (W.ple 0x0 0)).setList 31 { (W.pleU (W.ple 0x0 0)).pleList 31 with run := none }, by decide +kernel⟩,
   ⟨W.ple 0x8ffffff 0, 31, W.prun, 0x8ffffff, 0, W.pleU (W.ple 0x8ffffff 0), by decide +kernel⟩,
   ⟨W.ple 0x83800004 0, 31, W.prun, 0x83800004, 0, W.pleU (W.ple 0x83800004 0), by decide +kernel⟩,
   ⟨W.ple 0x20100000 0x00016010, 31, W.prun, 0x20100000, 0x00016010, W.pleU (W.ple 0x20100000 0x00016010), ((W.pleU (W.ple 0x20100000 0x00016010)).busRead 2 0x16010 false).1, ((W.pleU (W.ple 0x20100000 0x00016010)).busRead 2 0x16010 false).2.1, ((W.pleU (W.ple 0x20100000 0x00016010)).busRead 2 0x16010 false).2.2, by decide +kernel⟩,
   ⟨W.ple 0x28100000 0x00016020, 31, W.prun, 0x28100000, 0x00016020, W.pleU (W.ple 0x28100000 0x00016020), ((W.pleU (W.ple 0x28100000 0x00016020)).busWrite 0x16020 0).1, by decide +kernel⟩,
   ⟨W.ple 0x28100000 0x00110000, 31, W.prun, 0x28100000, 0x00110000, W.pleU (W.ple 0x28100000 0x00110000), ((W.pleU (W.ple 0x28100000 0x00110000)).busWrite 0x110000 0).1, ((W.pleU (W.ple 0x28100000 0x00110000)).busWrite 0x110000 0).2, by decide +kernel⟩⟩

theorem wit_PollControl_2 :
    (∃ (s : State) (list : Nat) (r : PleRun) (w v : Word) (u : State) (c n : Nat), ((s.pleList list).run = some r) ∧
      (w = s.progWord r.pc) ∧ (v = s.progWord (r.pc + 1)) ∧ (s.pleEngine = true) ∧ (opOf w = 17) ∧ (s.pleSelected =
      some list) ∧ (r.wait = .none) ∧ (u =
      { s with ple := { s.ple with last := Store.insert (Store.erase s.ple.last r.prio) r.prio list, wrote := [] } })
      ∧ (c = bits w 24 2) ∧ (n = 4 + bits w 8 5) ∧ (u.canReserve c n = true)) ∧
    (∃ (s : State) (list : Nat) (r : PleRun) (w v : Word) (u : State) (c n : Nat) (z : State), ((s.pleList list).run =
      some r) ∧ (w = s.progWord r.pc) ∧ (v = s.progWord (r.pc + 1)) ∧ (s.pleEngine = true) ∧ (opOf w = 17) ∧
      (s.pleSelected = some list) ∧ (r.wait = .none) ∧ (u =
      { s with ple := { s.ple with last := Store.insert (Store.erase s.ple.last r.prio) r.prio list, wrote := [] } })
      ∧ (c = bits w 24 2) ∧ (n = 4 + bits w 8 5) ∧ (u.canReserve c n = false) ∧ (z = u.setList list
      { u.pleList list with run := some { r with wait := .credit } })) ∧
    (∃ (s : State) (list : Nat) (r : PleRun) (w : Word), ((s.pleList list).run = some r) ∧ (w = s.progWord r.pc) ∧
      (s.pleEngine = false ∨ r.wait ≠ .credit ∨ s.canReserve (bits w 24 2) (4 + bits w 8 5) = false)) ∧
    (∃ (s : State) (list : Nat) (r : PleRun) (w : Word) (c n : Nat), ((s.pleList list).run = some r) ∧ (w = s.progWord
      r.pc) ∧ (c = bits w 24 2) ∧ (n = 4 + bits w 8 5) ∧ (s.pleEngine = true) ∧ (r.wait = .credit) ∧ (s.canReserve c n
      = true)) ∧
    (∃ (s : State) (list : Nat) (r : PleRun) (w v : Word) (u : State), ((s.pleList list).run = some r) ∧ (w =
      s.progWord r.pc) ∧ (v = s.progWord (r.pc + 1)) ∧ (s.pleEngine = true) ∧ (opOf w = 18) ∧ (s.pleSelected = some
      list) ∧ (r.wait = .none) ∧ (u =
      { s with ple := { s.ple with last := Store.insert (Store.erase s.ple.last r.prio) r.prio list, wrote := [] } })) ∧
    (∃ (s : State) (list : Nat) (r : PleRun) (w v : Word) (u : State), ((s.pleList list).run = some r) ∧ (w =
      s.progWord r.pc) ∧ (v = s.progWord (r.pc + 1)) ∧ (s.pleEngine = true) ∧ (opOf w = 19) ∧ (s.pleSelected = some
      list) ∧ (r.wait = .none) ∧ (u =
      { s with ple := { s.ple with last := Store.insert (Store.erase s.ple.last r.prio) r.prio list, wrote := [] } })
      ∧ (u.listOn (bits w 0 5) = true)) :=
  ⟨⟨W.pleC 0x8b0fc100 0, 31, W.prun, 0x8b0fc100, 0, W.pleU (W.pleC 0x8b0fc100 0), 3, 5, by decide +kernel⟩,
   ⟨W.pleX 0x8b0fc100 0, 31, W.prun, 0x8b0fc100, 0, W.pleU (W.pleX 0x8b0fc100 0), 3, 5, (W.pleU (W.pleX 0x8b0fc100 0)).setList 31 { (W.pleU (W.pleX 0x8b0fc100 0)).pleList 31 with run := some { W.prun with wait := .credit } }, by decide +kernel⟩,
   ⟨W.pleX 0x8B000000 0, 31, W.prun, 0x8B000000, by decide +kernel⟩,
   ⟨W.pleWaits .credit 0x8B000000, 31, { W.prun with wait := .credit }, 0x8B000000, 3, 4, by decide +kernel⟩,
   ⟨W.ple 0x9000000f 0, 31, W.prun, 0x9000000f, 0, W.pleU (W.ple 0x9000000f 0), by decide +kernel⟩,
   ⟨W.pleL 0x9800001e 0, 31, W.prun, 0x9800001e, 0, W.pleU (W.pleL 0x9800001e 0), by decide +kernel⟩⟩

theorem wit_PollControl_3 :
    (∃ (s : State) (list : Nat) (r : PleRun) (w v : Word) (u : State), ((s.pleList list).run = some r) ∧ (w =
      s.progWord r.pc) ∧ (v = s.progWord (r.pc + 1)) ∧ (s.pleEngine = true) ∧ (opOf w = 19) ∧ (s.pleSelected = some
      list) ∧ (r.wait = .none) ∧ (u =
      { s with ple := { s.ple with last := Store.insert (Store.erase s.ple.last r.prio) r.prio list, wrote := [] } })
      ∧ (u.listOn (bits w 0 5) = false)) ∧
    ((W.ple 0 0).get 0 F.PLE_CFG_MAXSTEP ≤ { W.prun with steps := 65535 }.steps + 1) ∧
    (W.prun.steps + 1 < (W.ple 0 0).get 0 F.PLE_CFG_MAXSTEP ∧ W.prun.pc ≤ W.prun.last) ∧
    (W.prun.last < { W.prun with pc := 4095 }.pc) :=
  ⟨⟨W.ple 0x9800001e 0, 31, W.prun, 0x9800001e, 0, W.pleU (W.ple 0x9800001e 0), by decide +kernel⟩,
   (by decide),
   (by decide),
   (by decide)⟩

theorem wit_PollInputOutput_1 :
    (∃ (s : State) (list : Nat) (r : PleRun) (w v : Word) (u : State), ((s.pleList list).run = some r) ∧ (w =
      s.progWord r.pc) ∧ (v = s.progWord (r.pc + 1)) ∧ (s.pleEngine = true) ∧ (opOf w = 20) ∧ (s.pleSelected = some
      list) ∧ (r.wait = .none) ∧ (u =
      { s with ple := { s.ple with last := Store.insert (Store.erase s.ple.last r.prio) r.prio list, wrote := [] } })
      ∧ (32 * bits w 10 4 < bits (u.reg 0 0x0C (0x808 + 32 * (bits w 0 6))) 0 12)) ∧
    (∃ (s : State) (list : Nat) (r : PleRun) (w v : Word) (u : State), ((s.pleList list).run = some r) ∧ (w =
      s.progWord r.pc) ∧ (v = s.progWord (r.pc + 1)) ∧ (s.pleEngine = true) ∧ (opOf w = 20) ∧ (s.pleSelected = some
      list) ∧ (r.wait = .none) ∧ (u =
      { s with ple := { s.ple with last := Store.insert (Store.erase s.ple.last r.prio) r.prio list, wrote := [] } })
      ∧ (bits (u.reg 0 0x0C (0x808 + 32 * (bits w 0 6))) 0 12 ≤ 32 * bits w 10 4) ∧ (u.ssc.queue.length < 64)) ∧
    (∃ (s : State) (list : Nat) (r : PleRun) (w v : Word) (u : State), ((s.pleList list).run = some r) ∧ (w =
      s.progWord r.pc) ∧ (v = s.progWord (r.pc + 1)) ∧ (s.pleEngine = true) ∧ (opOf w = 20) ∧ (s.pleSelected = some
      list) ∧ (r.wait = .none) ∧ (u =
      { s with ple := { s.ple with last := Store.insert (Store.erase s.ple.last r.prio) r.prio list, wrote := [] } })
      ∧ (bits (u.reg 0 0x0C (0x808 + 32 * (bits w 0 6))) 0 12 ≤ 32 * bits w 10 4) ∧ (64 ≤ u.ssc.queue.length)) ∧
    (∃ (s : State) (list : Nat) (r : PleRun) (w v : Word) (u : State), ((s.pleList list).run = some r) ∧ (w =
      s.progWord r.pc) ∧ (v = s.progWord (r.pc + 1)) ∧ (s.pleEngine = true) ∧ (r.wait = .room) ∧ (u =
      { s with ple := { s.ple with wrote := [] } }) ∧ (opOf w = 20) ∧ (bits (u.reg 0 0x0C (0x808 + 32 * (bits w 0 6)))
      0 12 ≤ 32 * bits w 10 4) ∧ (u.ssc.queue.length < 64)) ∧
    (∃ (s : State) (list : Nat) (r : PleRun) (w : Word) (l : Nat) (ws : List Word) (tm : Nat) (u : State), ((s.pleList
      list).run = some r) ∧ (w = s.progWord r.pc) ∧ (s.pleEngine = true) ∧ (s.ssc.results.find? (fun e => e.1 == list)
      = some (l, 0, ws, tm)) ∧ (r.wait = .spi) ∧ (u =
      { s with ssc := { s.ssc with results := s.ssc.results.filter (fun e => e.1 != list) } })) ∧
    (∃ (s : State) (list : Nat) (r : PleRun) (w : Word) (l st : Nat) (ws : List Word) (tm : Nat) (u : State),
      ((s.pleList list).run = some r) ∧ (w = s.progWord r.pc) ∧ (s.pleEngine = true) ∧ (s.ssc.results.find? (fun e =>
      e.1 == list) = some (l, st, ws, tm)) ∧ (st ≠ 0) ∧ (r.wait = .spi) ∧ (u =
      { s with ssc := { s.ssc with results := s.ssc.results.filter (fun e => e.1 != list) } })) :=
  ⟨⟨W.pleT 0xa010803f 0, 31, W.prun, 0xa010803f, 0, W.pleU (W.pleT 0xa010803f 0), by decide +kernel⟩,
   ⟨W.ple 0xa010843f 0, 31, W.prun, 0xa010843f, 0, W.pleU (W.ple 0xa010843f 0), by decide +kernel⟩,
   ⟨W.pleF 0xa010843f 0, 31, W.prun, 0xa010843f, 0, W.pleU (W.pleF 0xa010843f 0), by decide +kernel⟩,
   ⟨W.pleWaits .room 0xa010843f, 31, { W.prun with wait := .room }, 0xa010843f, 0, W.pleR (W.pleWaits .room 0xa010843f), by decide +kernel⟩,
   ⟨W.spiEnds 0, 31, { W.prun with wait := .spi }, 0xA0108400, 31, [7], 9, W.pleWaits .spi 0xA0108400, by decide +kernel⟩,
   ⟨W.spiEnds 1, 31, { W.prun with wait := .spi }, 0xA0108400, 31, 1, [7], 9, W.pleWaits .spi 0xA0108400, by decide +kernel⟩⟩

theorem wit_PollInputOutput_2 :
    (∃ (s : State) (list : Nat) (r : PleRun) (w v : Word) (u : State), ((s.pleList list).run = some r) ∧ (w =
      s.progWord r.pc) ∧ (v = s.progWord (r.pc + 1)) ∧ (s.pleEngine = true) ∧ (opOf w = 21) ∧ (s.pleSelected = some
      list) ∧ (r.wait = .none) ∧ (u =
      { s with ple := { s.ple with last := Store.insert (Store.erase s.ple.last r.prio) r.prio list, wrote := [] } })
      ∧ (u.listenFull w = true ∨ bits w 0 10 = 0)) ∧
    (∃ (s : State) (list : Nat) (r : PleRun) (w v : Word) (u : State), ((s.pleList list).run = some r) ∧ (w =
      s.progWord r.pc) ∧ (v = s.progWord (r.pc + 1)) ∧ (s.pleEngine = true) ∧ (opOf w = 21) ∧ (s.pleSelected = some
      list) ∧ (r.wait = .none) ∧ (u =
      { s with ple := { s.ple with last := Store.insert (Store.erase s.ple.last r.prio) r.prio list, wrote := [] } })
      ∧ (u.listenFull w = false) ∧ (bits w 0 10 ≠ 0)) ∧
    (∃ (s : State) (list : Nat) (r : PleRun) (w : Word) (due : Nat), ((s.pleList list).run = some r) ∧ (w = s.progWord
      r.pc) ∧ (s.pleEngine = true) ∧ (r.wait = .listen due) ∧ (s.listenFull w = true ∨ due ≤ s.time)) ∧
    (∃ (s : State) (list : Nat) (r : PleRun) (w v : Word) (u : State), ((s.pleList list).run = some r) ∧ (w =
      s.progWord r.pc) ∧ (v = s.progWord (r.pc + 1)) ∧ (s.pleEngine = true) ∧ (opOf w = 22) ∧ (s.pleSelected = some
      list) ∧ (r.wait = .none) ∧ (u =
      { s with ple := { s.ple with last := Store.insert (Store.erase s.ple.last r.prio) r.prio list, wrote := [] } })
      ∧ (u.pageOn 0 0x0E = true)) ∧
    (∃ (s : State) (list : Nat) (r : PleRun) (w v : Word) (u : State), ((s.pleList list).run = some r) ∧ (w =
      s.progWord r.pc) ∧ (v = s.progWord (r.pc + 1)) ∧ (s.pleEngine = true) ∧ (opOf w = 22) ∧ (s.pleSelected = some
      list) ∧ (r.wait = .none) ∧ (u =
      { s with ple := { s.ple with last := Store.insert (Store.erase s.ple.last r.prio) r.prio list, wrote := [] } })
      ∧ (u.pageOn 0 0x0E = false)) ∧
    (∃ (s : State) (list : Nat) (volts : List Int) (r : PleRun) (w : Word) (ch n : Nat) (rest : List (Nat × Nat ×
      Option Nat)) (u : State) (x : Word), ((s.pleList list).run = some r) ∧ (w = s.progWord r.pc) ∧ (s.pleEngine =
      true) ∧ (s.saf.reqs = (ch, n, some list) :: rest) ∧ (r.wait = .adc) ∧ (volts.length = n) ∧ (s.safRuns = true) ∧
      (s.converterHeld = false) ∧ (u = { s with saf := { s.saf with reqs := rest } }) ∧ (x = word (meanCode (volts.map
      adcCode)))) :=
  ⟨⟨W.ple 0xa8108400 0, 31, W.prun, 0xa8108400, 0, W.pleU (W.ple 0xa8108400 0), by decide +kernel⟩,
   ⟨W.ple 0xa81087ff 0, 31, W.prun, 0xa81087ff, 0, W.pleU (W.ple 0xa81087ff 0), by decide +kernel⟩,
   ⟨W.pleWaits (.listen 0) 0xa8108400, 31, { W.prun with wait := .listen 0 }, 0xa8108400, 0, by decide +kernel⟩,
   ⟨W.pleT 0xb010070f 0, 31, W.prun, 0xb010070f, 0, W.pleU (W.pleT 0xb010070f 0), by decide +kernel⟩,
   ⟨W.ple 0xb010070f 0, 31, W.prun, 0xb010070f, 0, W.pleU (W.ple 0xb010070f 0), by decide +kernel⟩,
   ⟨W.adcEnds, 31, [2500000000], { W.prun with wait := .adc }, 0xB0100700, 7, 1, [], (W.pleWaits .adc 0xB0100700).setPage 0 0x0E 2, 65535, by decide +kernel⟩⟩

theorem wit_PollInputOutput_3 :
    (∃ (s : State) (list : Nat) (r : PleRun) (w v : Word) (u : State), ((s.pleList list).run = some r) ∧ (w =
      s.progWord r.pc) ∧ (v = s.progWord (r.pc + 1)) ∧ (s.pleEngine = true) ∧ (opOf w = 23) ∧ (s.pleSelected = some
      list) ∧ (r.wait = .none) ∧ (u =
      { s with ple := { s.ple with last := Store.insert (Store.erase s.ple.last r.prio) r.prio list, wrote := [] } })
      ∧ (u.inService (bits w 16 3) = false)) ∧
    (∃ (s : State) (list : Nat) (r : PleRun) (w v : Word) (u : State) (z : State), ((s.pleList list).run = some r) ∧
      (w = s.progWord r.pc) ∧ (v = s.progWord (r.pc + 1)) ∧ (s.pleEngine = true) ∧ (opOf w = 23) ∧ (s.pleSelected =
      some list) ∧ (r.wait = .none) ∧ (u =
      { s with ple := { s.ple with last := Store.insert (Store.erase s.ple.last r.prio) r.prio list, wrote := [] } })
      ∧ (u.inService (bits w 16 3) = true) ∧ (u.formChain (bits w 16 3) (bits w 0 9) = (z, []))) ∧
    (∃ (s : State) (list : Nat) (r : PleRun) (w v : Word) (u : State) (z x y : State) (c : Cand) (m : Member) (ms :
      List Member), ((s.pleList list).run = some r) ∧ (w = s.progWord r.pc) ∧ (v = s.progWord (r.pc + 1)) ∧
      (s.pleEngine = true) ∧ (opOf w = 23) ∧ (s.pleSelected = some list) ∧ (r.wait = .none) ∧ (u =
      { s with ple := { s.ple with last := Store.insert (Store.erase s.ple.last r.prio) r.prio list, wrote := [] } })
      ∧ (u.inService (bits w 16 3) = true) ∧ (u.formChain (bits w 16 3) (bits w 0 9) = (z, m :: ms)) ∧ (z.power.phase
      ≠ .none) ∧ (x = ({ z with recDone := Store.erase z.recDone list } : State).pleAwait list r .tag) ∧ (c =
      { mkCand (.list list) (bits w 16 3) m.port (x.chainLevel (bits w 16 3) m.port (m :: ms)) (chainCredits (m :: ms)) (bits w 13 3) with members := m :: ms, order := x.coord.order, since := x.time })
      ∧ (y = { x with coord := { x.coord with order := x.coord.order + 1, cands := x.coord.cands ++ [c] } })) ∧
    (∃ (s : State) (list : Nat) (r : PleRun) (w v : Word) (u : State) (z : State) (m : Member) (ms : List Member),
      ((s.pleList list).run = some r) ∧ (w = s.progWord r.pc) ∧ (v = s.progWord (r.pc + 1)) ∧ (s.pleEngine = true) ∧
      (opOf w = 23) ∧ (s.pleSelected = some list) ∧ (r.wait = .none) ∧ (u =
      { s with ple := { s.ple with last := Store.insert (Store.erase s.ple.last r.prio) r.prio list, wrote := [] } })
      ∧ (u.inService (bits w 16 3) = true) ∧ (u.formChain (bits w 16 3) (bits w 0 9) = (z, m :: ms)) ∧ (z.power.phase
      = .none)) ∧
    (∃ (s : State) (list : Nat) (r : PleRun) (w : Word) (u : State), ((s.pleList list).run = some r) ∧ (w = s.progWord
      r.pc) ∧ (s.pleEngine = true) ∧ (Store.find? s.recDone list = some []) ∧ (r.wait = .tag) ∧ (u =
      { s with recDone := Store.erase s.recDone list })) ∧
    (∃ (s : State) (list : Nat) (r : PleRun) (w : Word) (ws : List Word) (u : State) (x : Nat → Word), ((s.pleList
      list).run = some r) ∧ (w = s.progWord r.pc) ∧ (s.pleEngine = true) ∧ (Store.find? s.recDone list = some ws) ∧
      (ws ≠ []) ∧ (r.wait = .tag) ∧ (u = { s with recDone := Store.erase s.recDone list }) ∧ (x = (fun (i : Nat) =>
      (ws[i]?).getD 0))) :=
  ⟨⟨W.ple 0xb8112000 0, 31, W.prun, 0xb8112000, 0, W.pleU (W.ple 0xb8112000 0), by decide +kernel⟩,
   ⟨W.pleNotag 0xb8172000 0, 31, W.prun, 0xb8172000, 0, W.pleU (W.pleNotag 0xb8172000 0), ((W.pleU (W.pleNotag 0xb8172000 0)).formChain 7 0).1, by decide +kernel⟩,
   ⟨W.pleTagSleeps 0xb8172000 0, 31, W.prun, 0xb8172000, 0, W.pleU (W.pleTagSleeps 0xb8172000 0), ((W.pleU (W.pleTagSleeps 0xb8172000 0)).formChain 7 0).1, _, _, _, (W.pleU (W.pleTagSleeps 0xb8172000 0)).snapMember 7 0, [], by decide +kernel, by decide +kernel, by decide +kernel, by decide +kernel, by decide +kernel, by decide +kernel, by decide +kernel, by decide +kernel, by decide +kernel, by decide +kernel, by decide +kernel, rfl, rfl, rfl⟩,
   ⟨W.pleTag 0xb8172000 0, 31, W.prun, 0xb8172000, 0, W.pleU (W.pleTag 0xb8172000 0), ((W.pleU (W.pleTag 0xb8172000 0)).formChain 7 0).1, (W.pleU (W.pleTag 0xb8172000 0)).snapMember 7 0, [], by decide +kernel⟩,
   ⟨W.recEnds 31 .tag [], 31, { W.prun with wait := .tag }, 0xB8100000, W.pleWaits .tag 0xB8100000, by decide +kernel⟩,
   ⟨W.recEnds 31 .tag [1], 31, { W.prun with wait := .tag }, 0xB8100000, [1], W.pleWaits .tag 0xB8100000, fun i => (([1] : List Word)[i]?).getD 0, by decide +kernel, by decide +kernel, by decide +kernel, by decide +kernel, by decide, by decide, by decide +kernel, rfl⟩⟩

theorem wit_PollInputOutput_4 :
    (∃ (s : State) (list : Nat) (r : PleRun) (w v : Word) (u : State), ((s.pleList list).run = some r) ∧ (w =
      s.progWord r.pc) ∧ (v = s.progWord (r.pc + 1)) ∧ (s.pleEngine = true) ∧ (opOf w = 24) ∧ (s.pleSelected = some
      list) ∧ (r.wait = .none) ∧ (u =
      { s with ple := { s.ple with last := Store.insert (Store.erase s.ple.last r.prio) r.prio list, wrote := [] } })
      ∧ (8 ≤ u.radio.queue.length)) ∧
    (∃ (s : State) (list : Nat) (r : PleRun) (w v : Word) (u : State) (c : RadioCmd), ((s.pleList list).run = some r)
      ∧ (w = s.progWord r.pc) ∧ (v = s.progWord (r.pc + 1)) ∧ (s.pleEngine = true) ∧ (opOf w = 24) ∧ (s.pleSelected =
      some list) ∧ (r.wait = .none) ∧ (u =
      { s with ple := { s.ple with last := Store.insert (Store.erase s.ple.last r.prio) r.prio list, wrote := [] } })
      ∧ (u.radio.queue.length < 8) ∧ (c =
      ({ code := 5, after := bits w 10 2, pri := bit w 12, template := bits w 0 4, channel := bits v 14 7, ticket := if bit w 13 then bits (u.pleVar (fieldB w)) 0 14 else bits v 0 14, list := some list }
      : RadioCmd)) ∧ (u.radioInvalid c = true)) ∧
    (∃ (s : State) (list : Nat) (r : PleRun) (w v : Word) (u : State) (c : RadioCmd), ((s.pleList list).run = some r)
      ∧ (w = s.progWord r.pc) ∧ (v = s.progWord (r.pc + 1)) ∧ (s.pleEngine = true) ∧ (opOf w = 24) ∧ (s.pleSelected =
      some list) ∧ (r.wait = .none) ∧ (u =
      { s with ple := { s.ple with last := Store.insert (Store.erase s.ple.last r.prio) r.prio list, wrote := [] } })
      ∧ (u.radio.queue.length < 8) ∧ (c =
      ({ code := 5, after := bits w 10 2, pri := bit w 12, template := bits w 0 4, channel := bits v 14 7, ticket := if bit w 13 then bits (u.pleVar (fieldB w)) 0 14 else bits v 0 14, list := some list }
      : RadioCmd)) ∧ (u.radioInvalid c = false)) ∧
    (∃ (s : State) (list : Nat) (r : PleRun) (w v : Word) (u : State) (c : RadioCmd), ((s.pleList list).run = some r)
      ∧ (w = s.progWord r.pc) ∧ (v = s.progWord (r.pc + 1)) ∧ (s.pleEngine = true) ∧ (r.wait = .room) ∧ (u =
      { s with ple := { s.ple with wrote := [] } }) ∧ (opOf w = 24) ∧ (u.radio.queue.length < 8) ∧ (c =
      ({ code := 5, after := bits w 10 2, pri := bit w 12, template := bits w 0 4, channel := bits v 14 7, ticket := if bit w 13 then bits (u.pleVar (fieldB w)) 0 14 else bits v 0 14, list := some list }
      : RadioCmd)) ∧ (u.radioInvalid c = false)) ∧
    (∃ (s : State) (list : Nat) (r : PleRun) (w : Word) (u : State), ((s.pleList list).run = some r) ∧ (w = s.progWord
      r.pc) ∧ (s.pleEngine = true) ∧ (Store.find? s.recDone (32 + list) = some []) ∧ (r.wait = .radio) ∧ (u =
      { s with recDone := Store.erase s.recDone (32 + list) })) ∧
    (∃ (s : State) (list : Nat) (r : PleRun) (w : Word) (ws : List Word) (u : State) (x : Nat → Word), ((s.pleList
      list).run = some r) ∧ (w = s.progWord r.pc) ∧ (s.pleEngine = true) ∧ (Store.find? s.recDone (32 + list) = some
      ws) ∧ (ws ≠ []) ∧ (r.wait = .radio) ∧ (u = { s with recDone := Store.erase s.recDone (32 + list) }) ∧ (x = (fun
      (i : Nat) => (ws[i]?).getD 0))) :=
  ⟨⟨W.pleF 0xc0108000 0, 31, W.prun, 0xc0108000, 0, W.pleU (W.pleF 0xc0108000 0), by decide +kernel⟩,
   ⟨W.ple 0xc0108000 0, 31, W.prun, 0xc0108000, 0, W.pleU (W.ple 0xc0108000 0), { code := 5, after := 0, pri := false, template := 0, channel := 0, ticket := 0, list := some 31 }, by decide +kernel⟩,
   ⟨W.pleT 0xc0108000 0, 31, W.prun, 0xc0108000, 0, W.pleU (W.pleT 0xc0108000 0), { code := 5, after := 0, pri := false, template := 0, channel := 0, ticket := 0, list := some 31 }, by decide +kernel⟩,
   ⟨W.pleWaits .room 0xc0108000, 31, { W.prun with wait := .room }, 0xc0108000, 0, W.pleR (W.pleWaits .room 0xc0108000), { code := 5, after := 0, pri := false, template := 0, channel := 0, ticket := 0, list := some 31 }, by decide +kernel⟩,
   ⟨W.recEnds 63 .radio [], 31, { W.prun with wait := .radio }, 0xC0100000, W.pleWaits .radio 0xC0100000, by decide +kernel⟩,
   ⟨W.recEnds 63 .radio [1], 31, { W.prun with wait := .radio }, 0xC0100000, [1], W.pleWaits .radio 0xC0100000, fun i => (([1] : List Word)[i]?).getD 0, by decide +kernel, by decide +kernel, by decide +kernel, by decide +kernel, by decide, by decide, by decide +kernel, rfl⟩⟩

theorem wit_PollInputOutput_5 :
    (∃ (s : State) (list : Nat) (r : PleRun), ((s.pleList list).run = some r) ∧ (s.pleEngine = false ∨ r.wait ≠ .spi ∨
      s.ssc.results.find? (fun e => e.1 == list) = none)) ∧
    (∃ (s : State) (list : Nat) (r : PleRun), ((s.pleList list).run = some r) ∧ (s.pleEngine = false ∨ r.wait ≠ .tag ∨
      Store.find? s.recDone list = none)) ∧
    (∃ (s : State) (list : Nat) (r : PleRun), ((s.pleList list).run = some r) ∧ (s.pleEngine = false ∨ r.wait ≠ .radio
      ∨ Store.find? s.recDone (32 + list) = none)) ∧
    (∃ (s : State) (list : Nat) (r : PleRun) (due : Nat), ((s.pleList list).run = some r) ∧ (r.wait = .listen due) ∧
      (s.pleEngine = false ∨ s.listenFull (s.progWord r.pc) = false ∧ s.time < due)) ∧
    ((W.awake.pleList 31).run = none) :=
  ⟨⟨W.pleWaits .spi 0xA0108400, 31, { W.prun with wait := .spi }, by decide +kernel⟩,
   ⟨W.pleWaits .tag 0xB8100000, 31, { W.prun with wait := .tag }, by decide +kernel⟩,
   ⟨W.pleWaits .radio 0xC0100000, 31, { W.prun with wait := .radio }, by decide +kernel⟩,
   ⟨W.pleWaits (.listen 1) 0xa8108400, 31, { W.prun with wait := .listen 1 }, 1, by decide +kernel⟩,
   (by decide)⟩

theorem wit_PollHost_1 :
    (∃ (s : State) (list : Nat), (s.awake = true) ∧ (s.flag 0 (F.PG_LOCK 0x0B) = false) ∧ (s.listOn (list % 32) =
      true) ∧ ((s.pleList (list % 32)).faulted = false)) ∧
    (∃ (s : State) (list : Nat), (s.awake = true) ∧ (s.flag 0 (F.PG_LOCK 0x0B) = false) ∧ (s.listOn (list % 32) =
      false ∨ (s.pleList (list % 32)).faulted = true)) ∧
    (∃ (s : State) (list : Nat), (s.awake = true) ∧ (s.flag 0 (F.PG_LOCK 0x0B) = false)) ∧
    (∃ (s : State) (list : Nat) (td : Nat), ((s.pleList list).due = some td) ∧ (list < 32) ∧ (td ≤ s.time) ∧ (s.listOn
      list = true) ∧ (s.get 0 (F.PLE_L_TRIG_KIND list) = 1) ∧ (s.device ≠ .off) ∧ (s.device ≠ .reset)) ∧
    (∃ (s : State) (list : Nat) (r : PleRun) (due : Nat), ((s.pleList list).run = some r) ∧ (r.wait = .time due) ∧
      (due ≤ s.time)) ∧
    (∃ (s : State) (list : Nat), ((s.pleList list).due = none ∨ 32 ≤ list ∨ s.listOn list = false ∨ s.get 0
      (F.PLE_L_TRIG_KIND list) ≠ 1 ∨ s.device = .off ∨ s.device = .reset)) :=
  ⟨⟨W.pleL 0 0, 30, by decide +kernel⟩,
   ⟨W.awake, 31, by decide⟩,
   ⟨W.ple 0 0, 31, by decide⟩,
   ⟨(W.periodic 30), 30, 0, by decide +kernel⟩,
   ⟨W.pleWaits (.time 0) 0, 31, { W.prun with wait := .time 0 }, 0, by decide⟩,
   ⟨W.awake, 0, by decide⟩⟩

theorem wit_PollHost_2 :
    (∃ (s : State) (list : Nat) (td : Nat), ((s.pleList list).due = some td) ∧ (s.time < td)) ∧
    (∃ (s : State) (list : Nat) (r : PleRun) (due : Nat), ((s.pleList list).run = some r) ∧ (r.wait = .time due) ∧
      (s.time < due)) ∧
    (∃ (s : State) (n : Nat) (value : Word), (s.awake = true) ∧ (s.flag 0 (F.PG_LOCK 0x0B) = false) ∧ (64 ≤ n)) ∧
    (∃ (s : State) (n : Nat) (value : Word), (s.awake = true) ∧ (s.flag 0 (F.PG_LOCK 0x0B) = false) ∧ (n < 64) ∧
      (s.varTaken n = false)) ∧
    (∃ (s : State) (n : Nat) (value : Word), (s.awake = true) ∧ (s.flag 0 (F.PG_LOCK 0x0B) = false) ∧ (n < 64) ∧
      (s.varTaken n = true)) ∧
    (∃ (s : State) (hi : Bool) (value : Word), (s.awake = true) ∧ (s.flag 0 (F.PG_LOCK 0x0B) = false)) :=
  ⟨⟨W.awake.setList 3 { due := some 5 }, 3, 5, by decide⟩,
   ⟨W.pleWaits (.time 7) 0, 31, { W.prun with wait := .time 7 }, 7, by decide⟩,
   ⟨W.awake, 64, 5, by decide⟩,
   ⟨W.awake, 63, 5, by decide⟩,
   ⟨W.awake.setPleVar 63 1, 63, 5, by decide⟩,
   ⟨W.awake, true, 0xFFFFFFFF, by decide⟩⟩

theorem wit_PollHost_3 :
    (63 : Nat) < 64 ∧ (62 : Nat) < 64 ∧ (62 : Nat) ≠ 63 :=
  by decide

theorem wit_PollHost_4 :
    ∃ (s : State) (value : Word) (u : State), (s.awake = true) ∧ (s.flag 0 (F.PG_LOCK 0x0B) = false) ∧ (u =
      s.attnSync.writeRo 0 0x0B 0x02C value) :=
  ⟨W.awake, 0xFFFF, W.awake.attnSync.writeRo 0 0x0B 0x02C 0xFFFF, by decide⟩

theorem wit_SensorSerial_1 :
    (∃ (s : State) (tag buf template : Nat), (s.awake = true) ∧ (s.flag 0 (F.PG_LOCK 0x0C) = false) ∧ (s.pageOn 0 0x0C
      = true) ∧ (s.ssc.queue.length < 64) ∧ (s.sscHost + s.ssc.done.length < 64)) ∧
    (∃ (s : State) (tag buf template : Nat), (s.awake = true) ∧ (s.flag 0 (F.PG_LOCK 0x0C) = false) ∧ (s.pageOn 0 0x0C
      = true) ∧ (64 ≤ s.ssc.queue.length ∨ 64 ≤ s.sscHost + s.ssc.done.length)) ∧
    (∃ (s : State) (tag buf template : Nat), (s.awake = true) ∧ (s.flag 0 (F.PG_LOCK 0x0C) = false) ∧ (s.pageOn 0 0x0C
      = false)) ∧
    (∃ (s : State) (input : List Word) (e : SscEntry) (es : List SscEntry) (tm : List Word) (sel : Nat), (s.awake =
      true) ∧ (s.pageOn 0 0x0C = true) ∧ (s.ssc.running = false) ∧ (s.padHeld 1 = false) ∧ (s.coord.loading = false) ∧
      (s.ssc.queue = e :: es) ∧ (tm = s.sscTemplate e.template) ∧ (sel = bits ((tm[0]?).getD 0) 28 3) ∧ ((s.get 0
      F.SSC_SELCFG_DRIVE).testBit sel = true) ∧ (input.length = sscWords tm) ∧ (e.list = none)) ∧
    (∃ (s : State) (input : List Word) (e : SscEntry) (es : List SscEntry) (tm : List Word) (sel l : Nat), (s.awake =
      true) ∧ (s.pageOn 0 0x0C = true) ∧ (s.ssc.running = false) ∧ (s.padHeld 1 = false) ∧ (s.coord.loading = false) ∧
      (s.ssc.queue = e :: es) ∧ (tm = s.sscTemplate e.template) ∧ (sel = bits ((tm[0]?).getD 0) 28 3) ∧ ((s.get 0
      F.SSC_SELCFG_DRIVE).testBit sel = true) ∧ (input.length = sscWords tm) ∧ (e.list = some l)) ∧
    (∃ (s : State) (input : List Word) (e : SscEntry) (es : List SscEntry) (tm : List Word) (sel : Nat), (s.awake =
      true) ∧ (s.pageOn 0 0x0C = true) ∧ (s.ssc.running = false) ∧ (s.padHeld 1 = false) ∧ (s.coord.loading = false) ∧
      (s.ssc.queue = e :: es) ∧ (tm = s.sscTemplate e.template) ∧ (sel = bits ((tm[0]?).getD 0) 28 3) ∧ ((s.get 0
      F.SSC_SELCFG_DRIVE).testBit sel = false)) :=
  ⟨⟨W.sscOn, 65535, 3, 63, by decide⟩,
   ⟨W.sscFull, 0, 0, 0, by decide⟩,
   ⟨W.awake.setPage 0 0x0C 0, 0, 0, 0, by decide⟩,
   ⟨W.sscDrive, [], W.entry, [], [3, 0x04020800, 0x001f0000, 0, 0], 0, by decide⟩,
   ⟨W.sscDriveL, [], { W.entry with list := some 31 }, [], [3, 0x04020800, 0x001f0000, 0, 0], 0, 31, by decide⟩,
   ⟨W.sscFull, [], W.entry, List.replicate 63 W.entry, [3, 0x04020800, 0x001f0000, 0, 0], 0, by decide +kernel⟩⟩

theorem wit_SensorSerial_2 :
    (∃ (s : State) (input : List Word), (s.awake = false ∨ s.pageOn 0 0x0C = false ∨ s.ssc.running = true ∨ s.padHeld
      1 = true ∨ s.coord.loading = true ∨ s.ssc.queue = [])) ∧
    (∃ (s : State) (input : List Word) (e : SscEntry) (es : List SscEntry) (tm : List Word) (sel : Nat), (s.awake =
      true) ∧ (s.pageOn 0 0x0C = true) ∧ (s.ssc.running = false) ∧ (s.padHeld 1 = false) ∧ (s.coord.loading = false) ∧
      (s.ssc.queue = e :: es) ∧ (tm = s.sscTemplate e.template) ∧ (sel = bits ((tm[0]?).getD 0) 28 3) ∧ ((s.get 0
      F.SSC_SELCFG_DRIVE).testBit sel = true) ∧ (input.length ≠ sscWords tm)) ∧
    (∃ (s : State), (s.ssc.running = false ∨ s.ssc.queue = [])) ∧
    (∃ (s : State) (e : SscEntry) (es : List SscEntry) (ws : List Word) (l : Nat), (s.ssc.running = true) ∧
      (s.ssc.queue = e :: es) ∧ (ws = s.ssc.input) ∧ (e.list = some l)) ∧
    (∃ (s : State) (e : SscEntry) (es : List SscEntry) (ws : List Word), (s.ssc.running = true) ∧ (s.ssc.queue = e ::
      es) ∧ (ws = s.ssc.input) ∧ (e.list = none)) ∧
    (∃ (s : State) (x : Nat × Nat) (xs : List (Nat × Nat)), (s.awake = true) ∧ (s.flag 0 (F.PG_LOCK 0x0C) = false) ∧
      (s.ssc.done = x :: xs)) :=
  ⟨⟨W.awake, [], by decide⟩,
   ⟨W.sscDrive, [7], W.entry, [], [3, 0x04020800, 0x001f0000, 0, 0], 0, by decide⟩,
   ⟨W.awake, by decide⟩,
   ⟨{ W.sscDriveL with ssc := { queue := [{ W.entry with list := some 31 }], running := true, tmpl := [0, 0, 8], input := [5] } }, { W.entry with list := some 31 }, [], [5], 31, by decide⟩,
   ⟨{ W.sscDriveL with ssc := { queue := [W.entry], running := true, tmpl := [0, 0, 8], input := [5] } }, W.entry, [], [5], by decide⟩,
   ⟨{ W.awake with ssc := { done := [(9, 2)] } }, (9, 2), [], by decide⟩⟩

theorem wit_SensorSerial_3 :
    (∃ (s : State), (s.awake = true) ∧ (s.flag 0 (F.PG_LOCK 0x0C) = false) ∧ (s.ssc.done = [])) ∧
    (W.entry.list = none) :=
  ⟨⟨W.awake, by decide⟩,
   (by decide)⟩

theorem wit_ListenerAndAnalogue_1 :
    (∃ (s : State) (level : Bool) (ticks : Nat), (s.slselIs level ticks true = true) ∧ (s.flag 0 F.SSL_STAT_SELACT =
      false)) ∧
    (∃ (s : State) (level : Bool) (ticks : Nat), (s.slselIs level ticks true = false ∨ s.flag 0 F.SSL_STAT_SELACT =
      true)) ∧
    (∃ (s : State) (sldi : List (Bool × Bool)) (start : Nat), (s.awake = true) ∧ (s.pageState 0 0x0D = 2 ∨ s.pageState
      0 0x0D = 3) ∧ (s.flag 0 F.SSL_STAT_SELACT = true)) ∧
    (∃ (s : State) (level : Bool) (ticks : Nat), (s.slselIs level ticks false = true) ∧ (s.awake = true) ∧
      (s.pageState 0 0x0D = 2 ∨ s.pageState 0 0x0D = 3) ∧ (s.flag 0 F.SSL_STAT_SELACT = true)) ∧
    (∃ (s : State) (level : Bool) (ticks : Nat), (s.slselIs level ticks false = true) ∧ (s.awake = false ∨ ¬
      (s.pageState 0 0x0D = 2 ∨ s.pageState 0 0x0D = 3)) ∧ (s.flag 0 F.SSL_STAT_SELACT = true)) ∧
    (∃ (s : State), (s.awake = true) ∧ (s.pageState 0 0x0D = 2 ∨ s.pageState 0 0x0D = 3) ∧ (s.flag 0 F.SSL_STAT_SELACT
      = true) ∧ (s.ssl.active = true) ∧ (s.get 0 F.SSL_CFG_IDLE ≠ 0)) :=
  ⟨⟨W.awake.setPage 0 0x0D 2, false, 2, by decide⟩,
   ⟨W.awake.setPage 0 0x0D 2, false, 1, by decide⟩,
   ⟨W.hears 1, List.replicate 8 (true, false), 3, by decide⟩,
   ⟨W.hears 1, true, 2, by decide⟩,
   ⟨(W.hears 1).setPage 0 0x0D 0, true, 2, by decide⟩,
   ⟨{ (W.hears 0).set 0 F.SSL_CFG_IDLE 1 with ssl := { active := true } }, by decide⟩⟩

theorem wit_ListenerAndAnalogue_2 :
    (∃ (s : State) (sldi : List (Bool × Bool)) (start : Nat), (s.awake = false ∨ ¬ (s.pageState 0 0x0D = 2 ∨
      s.pageState 0 0x0D = 3) ∨ s.flag 0 F.SSL_STAT_SELACT = false)) ∧
    (∃ (s : State) (level : Bool) (ticks : Nat), (s.slselIs level ticks false = false ∨ s.flag 0 F.SSL_STAT_SELACT =
      false)) ∧
    (∃ (s : State), (s.awake = false ∨ ¬ (s.pageState 0 0x0D = 2 ∨ s.pageState 0 0x0D = 3) ∨ s.flag 0
      F.SSL_STAT_SELACT = false ∨ s.ssl.active = false ∨ s.get 0 F.SSL_CFG_IDLE = 0)) ∧
    (∃ (s : State) (count ch : Nat), (s.awake = true) ∧ (s.flag 0 (F.PG_LOCK 0x0E) = false) ∧ (s.pageOn 0 0x0E = true)
      ∧ (s.safBusy = false)) ∧
    (∃ (s : State) (count ch : Nat), (s.awake = true) ∧ (s.flag 0 (F.PG_LOCK 0x0E) = false) ∧ (s.pageOn 0 0x0E = true)
      ∧ (s.safBusy = true)) ∧
    (∃ (s : State) (count ch : Nat), (s.awake = true) ∧ (s.flag 0 (F.PG_LOCK 0x0E) = false) ∧ (s.pageOn 0 0x0E =
      false)) :=
  ⟨⟨W.awake, [], 3, by decide⟩,
   ⟨W.awake, true, 2, by decide⟩,
   ⟨W.awake, by decide⟩,
   ⟨W.awake.setPage 0 0x0E 2, 15, 7, by decide⟩,
   ⟨{ W.awake.setPage 0 0x0E 2 with saf := { reqs := [(7, 1, none)] } }, 15, 7, by decide⟩,
   ⟨W.awake.setPage 0 0x0E 0, 15, 7, by decide⟩⟩

theorem wit_ListenerAndAnalogue_3 :
    (∃ (s : State) (volts : List Int) (ch n : Nat) (rest : List (Nat × Nat × Option Nat)), (s.awake = true) ∧
      (s.pageState 0 0x0E = 2 ∨ s.pageState 0 0x0E = 3) ∧ (s.converterHeld = false) ∧ (s.saf.reqs = (ch, n, none) ::
      rest) ∧ (volts.length = n)) ∧
    (∃ (s : State) (volts : List Int), (s.awake = false ∨ s.converterHeld = true ∨ s.saf.reqs = [])) ∧
    (∃ (s : State) (k : Nat) (level : Int), (s.cmpRuns k = false)) ∧
    (∃ (s : State) (k : Nat) (level : Int) (was now : Bool), (s.cmpRuns k = true) ∧ (was = (s.get 0
      F.SAF_CMPSTAT_STATE).testBit k) ∧ (now = (if clampI 0 1023 ((s.get 0 (F.SAF_CMP_THR k) : Nat) + (s.get 0
      (F.SAF_CMP_HYST k) : Nat) : Int) ≤ level then true else if level < clampI 0 1023 ((s.get 0 (F.SAF_CMP_THR k) :
      Nat) - (s.get 0 (F.SAF_CMP_HYST k) : Nat) : Int) then false else was)) ∧ (s.saf.primed.contains k = false)) ∧
    (∃ (s : State) (k : Nat) (level : Int) (was now : Bool), (s.cmpRuns k = true) ∧ (was = (s.get 0
      F.SAF_CMPSTAT_STATE).testBit k) ∧ (now = (if clampI 0 1023 ((s.get 0 (F.SAF_CMP_THR k) : Nat) + (s.get 0
      (F.SAF_CMP_HYST k) : Nat) : Int) ≤ level then true else if level < clampI 0 1023 ((s.get 0 (F.SAF_CMP_THR k) :
      Nat) - (s.get 0 (F.SAF_CMP_HYST k) : Nat) : Int) then false else was)) ∧ (s.saf.primed.contains k = true)) ∧
    ((W.wordIn 3).ssl.part ≠ [] ∧ (W.wordIn 3).ssl.part.length < (W.wordIn 3).get 0 F.SSL_CFG_WIDTH) :=
  ⟨⟨{ W.awake.setPage 0 0x0E 2 with saf := { reqs := [(7, 2, none)] } }, [2500000000, -1], 7, 2, [], by decide⟩,
   ⟨W.awake, [], by decide⟩,
   ⟨W.awake, 3, 0, by decide⟩,
   ⟨W.cmp, 3, 1023, false, true, by decide +kernel⟩,
   ⟨{ W.cmp with saf := { primed := [3] } }, 3, -1, false, false, by decide +kernel⟩,
   (by decide)⟩

theorem wit_ListenerAndAnalogue_4 :
    (W.wordIn 7).ssl.part ≠ [] ∧ (W.wordIn 7).ssl.part.length = (W.wordIn 7).get 0 F.SSL_CFG_WIDTH :=
  by decide

theorem wit_HamperRecords_1 :
    (∃ (s : State) (cls found : Nat) (u : State), (s.awake = true) ∧ (cls ≤ 3) ∧ (found ≠ s.regionSize cls) ∧ (u =
      ((s.setCls cls { s.cls cls with frozen := true }).err 0 0x08 0x0103).raise 0 0x08 4) ∧ (cls ≠ 3)) ∧
    (∃ (s : State) (cls found : Nat) (u : State), (s.awake = true) ∧ (cls ≤ 3) ∧ (found ≠ s.regionSize cls) ∧ (u =
      ((s.setCls cls { s.cls cls with frozen := true }).err 0 0x08 0x0103).raise 0 0x08 4) ∧ (cls = 3)) ∧
    (∃ (s : State) (cls found : Nat), (s.awake = false ∨ 3 < cls ∨ found = s.regionSize cls)) ∧
    (∃ (s : State), (s.hamper.sysq = [])) ∧
    (∃ (s : State) (r : SysRec) (rest : List SysRec) (c : Nat) (p : PendRec), (s.hamper.sysq = r :: rest) ∧ (r.build
      s.hamper.merged = (c, p)) ∧ (s.canReserve c p.reserved = true)) ∧
    (∃ (s : State) (r : SysRec) (rest : List SysRec) (c : Nat) (p : PendRec), (s.hamper.sysq = r :: rest) ∧ (r.build
      s.hamper.merged = (c, p)) ∧ (s.canReserve c p.reserved = false) ∧ (s.hamper.tooBig = false)) :=
  ⟨⟨W.awake, 2, 1, ((W.awake.setCls 2 { W.awake.cls 2 with frozen := true }).err 0 0x08 0x0103).raise 0 0x08 4, by decide⟩,
   ⟨W.awake, 3, 1, ((W.awake.setCls 3 { W.awake.cls 3 with frozen := true }).err 0 0x08 0x0103).raise 0 0x08 4, by decide⟩,
   ⟨W.awake, 4, 1, by decide⟩,
   ⟨W.awake, by decide⟩,
   ⟨W.queued, .mark 3 5 9, [], 3, { type := 0xE, time := 9, payload := [5], reserved := 4, note := .none }, by decide⟩,
   ⟨W.queued.setCls 3 { frozen := true }, .mark 3 5 9, [], 3, { type := 0xE, time := 9, payload := [5], reserved := 4, note := .none }, by decide⟩⟩

theorem wit_HamperRecords_2 :
    (∃ (s : State) (r : SysRec) (rest : List SysRec) (c : Nat) (p : PendRec), (s.hamper.sysq = r :: rest) ∧ (r.build
      s.hamper.merged = (c, p)) ∧ (s.canReserve c p.reserved = false) ∧ (s.hamper.tooBig = true)) ∧
    (∃ (s : State) (value : Word) (u : State), (s.awake = true) ∧ (s.flag 0 (F.PG_LOCK 0x08) = false) ∧ (u = s.writeRo
      0 0x08 0x034 value) ∧ (u.hamper.sysq.any SysRec.isMark = false) ∧ (u.hamper.sysq.length < 16)) ∧
    (∃ (s : State) (value : Word) (u : State), (s.awake = true) ∧ (s.flag 0 (F.PG_LOCK 0x08) = false) ∧ (u = s.writeRo
      0 0x08 0x034 value) ∧ (u.hamper.sysq.any SysRec.isMark = true ∨ 16 ≤ u.hamper.sysq.length)) :=
  ⟨⟨{ W.queued.setCls 3 { frozen := true } with hamper := { W.queued.hamper with tooBig := true } }, .mark 3 5 9, [], 3, { type := 0xE, time := 9, payload := [5], reserved := 4, note := .none }, by decide⟩,
   ⟨W.awake, 3, W.awake.writeRo 0 0x08 0x034 3, by decide⟩,
   ⟨W.queued, 3, W.queued.writeRo 0 0x08 0x034 3, by decide⟩⟩

theorem wit_Tickets_1 :
    (∃ (s : State), (s.flag 0 (F.PG_COMMIT_PEND 0x09) = true) ∧ (s.loadLets = true) ∧ (s.sget 0 F.TKT_OP_OP = 0) ∧
      (s.commitOk 0 0x09 (s.shadowWord 0 0x09) = true)) ∧
    (∃ (s : State), (s.flag 0 (F.PG_COMMIT_PEND 0x09) = true) ∧ (s.loadLets = true) ∧ (s.sget 0 F.TKT_OP_OP = 1) ∧
      (s.commitOk 0 0x09 (s.shadowWord 0 0x09) = true)) ∧
    (∃ (s : State), (s.flag 0 (F.PG_COMMIT_PEND 0x09) = true) ∧ (s.loadLets = true) ∧ (s.sget 0 F.TKT_OP_OP = 2) ∧
      (s.commitOk 0 0x09 (s.shadowWord 0 0x09) = true)) ∧
    (∃ (s : State), (s.flag 0 (F.PG_COMMIT_PEND 0x09) = true) ∧ (s.loadLets = true) ∧ (s.sget 0 F.TKT_OP_OP = 3) ∧
      (s.commitOk 0 0x09 (s.shadowWord 0 0x09) = true)) ∧
    (∃ (s : State), (s.flag 0 (F.PG_COMMIT_PEND 0x09) = true) ∧ (s.loadLets = true) ∧ (s.sget 0 F.TKT_OP_OP = 4) ∧
      (s.commitOk 0 0x09 (s.shadowWord 0 0x09) = true)) ∧
    (∃ (s : State), (s.flag 0 (F.PG_COMMIT_PEND 0x09) = true) ∧ (s.loadLets = true) ∧ (s.sget 0 F.TKT_OP_OP = 0) ∧
      (s.commitOk 0 0x09 (s.shadowWord 0 0x09) = false)) :=
  ⟨⟨W.op 0 0, by decide +kernel⟩,
   ⟨W.op 1 0, by decide +kernel⟩,
   ⟨W.op 2 1, by decide +kernel⟩,
   ⟨W.op 3 0, by decide +kernel⟩,
   ⟨W.op 4 1, by decide +kernel⟩,
   ⟨W.opBad 0, by decide +kernel⟩⟩

theorem wit_Tickets_2 :
    (∃ (s : State), (s.flag 0 (F.PG_COMMIT_PEND 0x09) = false ∨ s.loadLets = false ∨ s.sget 0 F.TKT_OP_OP ≠ 0)) ∧
    (∃ (s : State), (s.flag 0 (F.PG_COMMIT_PEND 0x09) = true) ∧ (s.loadLets = true) ∧ (s.sget 0 F.TKT_OP_OP = 1) ∧
      (s.commitOk 0 0x09 (s.shadowWord 0 0x09) = false)) ∧
    (∃ (s : State), (s.flag 0 (F.PG_COMMIT_PEND 0x09) = false ∨ s.loadLets = false ∨ s.sget 0 F.TKT_OP_OP ≠ 1)) ∧
    (∃ (s : State), (s.flag 0 (F.PG_COMMIT_PEND 0x09) = true) ∧ (s.loadLets = true) ∧ (s.sget 0 F.TKT_OP_OP = 2) ∧
      (s.commitOk 0 0x09 (s.shadowWord 0 0x09) = false)) ∧
    (∃ (s : State), (s.flag 0 (F.PG_COMMIT_PEND 0x09) = false ∨ s.loadLets = false ∨ s.sget 0 F.TKT_OP_OP ≠ 2)) ∧
    (∃ (s : State), (s.flag 0 (F.PG_COMMIT_PEND 0x09) = true) ∧ (s.loadLets = true) ∧ (s.sget 0 F.TKT_OP_OP = 3) ∧
      (s.commitOk 0 0x09 (s.shadowWord 0 0x09) = false)) :=
  ⟨⟨W.awake, by decide⟩,
   ⟨W.op 1 5, by decide +kernel⟩,
   ⟨W.awake, by decide⟩,
   ⟨W.op 2 0, by decide +kernel⟩,
   ⟨W.awake, by decide⟩,
   ⟨W.opBad 3, by decide +kernel⟩⟩

theorem wit_Tickets_3 :
    (∃ (s : State), (s.flag 0 (F.PG_COMMIT_PEND 0x09) = false ∨ s.loadLets = false ∨ s.sget 0 F.TKT_OP_OP ≠ 3)) ∧
    (∃ (s : State), (s.flag 0 (F.PG_COMMIT_PEND 0x09) = true) ∧ (s.loadLets = true) ∧ (s.sget 0 F.TKT_OP_OP = 4) ∧
      (s.commitOk 0 0x09 (s.shadowWord 0 0x09) = false)) ∧
    (∃ (s : State), (s.flag 0 (F.PG_COMMIT_PEND 0x09) = false ∨ s.loadLets = false ∨ s.sget 0 F.TKT_OP_OP ≠ 4)) ∧
    (∃ (s : State) (u : State), (s.awake = true) ∧ (s.flag 0 (F.PG_LOCK 0x09) = false) ∧ (s.flag 0 F.TKT_SNAP_BUSY =
      false) ∧ (u = (((s.set 0 F.TKT_SNAP_BUSY 1).set 0 F.TKT_SNAP_SAVE 1).set 0 F.TKT_SNAP_VALID 0).set 0
      F.TKT_SNAP_PROGRESS 0)) ∧
    (∃ (s : State), (s.awake = true) ∧ (s.flag 0 (F.PG_LOCK 0x09) = false) ∧ (s.flag 0 F.TKT_SNAP_BUSY = true)) ∧
    (∃ (s : State) (ok : Bool) (bucket : Nat) (code : Nat) (u v : State), (s.flag 0 F.TKT_SNAP_BUSY = true) ∧ (s.flag
      0 F.TKT_SNAP_SAVE = true) ∧ (s.nvRuns .snapSave = true) ∧ (ok = true) ∧ (u = (((s.saveTo 3072).set 0
      F.TKT_SNAP_BUSY 0).set 0 F.TKT_SNAP_SAVE 0).nvPop.nvBetween) ∧ (v = (u.set 0 F.TKT_SNAP_VALID 1).raise 0 0x09
      3)) :=
  ⟨⟨W.awake, by decide⟩,
   ⟨W.op 4 0, by decide +kernel⟩,
   ⟨W.awake, by decide⟩,
   ⟨W.awake, (((W.awake.set 0 F.TKT_SNAP_BUSY 1).set 0 F.TKT_SNAP_SAVE 1).set 0 F.TKT_SNAP_VALID 0).set 0 F.TKT_SNAP_PROGRESS 0, by decide⟩,
   ⟨W.awake.set 0 F.TKT_SNAP_BUSY 1, by decide⟩,
   ⟨W.snapSaves, true, 0, 0, W.snapSavedU, (W.snapSavedU.set 0 F.TKT_SNAP_VALID 1).raise 0 0x09 3, by decide⟩⟩

theorem wit_Tickets_4 :
    (∃ (s : State) (ok : Bool) (bucket : Nat) (code : Nat) (u : State), (s.flag 0 F.TKT_SNAP_BUSY = true) ∧ (s.flag 0
      F.TKT_SNAP_SAVE = true) ∧ (s.nvRuns .snapSave = true) ∧ (ok = false) ∧ (u = (((s.set 0 F.TKT_SNAP_PROGRESS
      bucket).set 0 F.TKT_SNAP_BUSY 0).set 0 F.TKT_SNAP_SAVE 0).nvPop.nvBetween)) ∧
    (∃ (s : State) (ok : Bool) (bucket : Nat) (code : Nat), (s.flag 0 F.TKT_SNAP_BUSY = false ∨ s.flag 0
      F.TKT_SNAP_SAVE = false ∨ s.nvRuns .snapSave = false)) ∧
    (∃ (s : State), (s.awake = true) ∧ (s.flag 0 (F.PG_LOCK 0x09) = false) ∧ (s.flag 0 F.TKT_SNAP_BUSY = false) ∧
      (s.pageState 0 0x09 = 0)) ∧
    (∃ (s : State), (s.awake = true) ∧ (s.flag 0 (F.PG_LOCK 0x09) = false) ∧ (s.flag 0 F.TKT_SNAP_BUSY = true ∨
      s.pageState 0 0x09 ≠ 0)) ∧
    (∃ (s : State) (crcOk : Bool) (u v : State) (l : List (Nat × Ticket)), (s.flag 0 F.TKT_SNAP_BUSY = true) ∧ (s.flag
      0 F.TKT_SNAP_LOAD = true) ∧ (u = (s.set 0 F.TKT_SNAP_BUSY 0).set 0 F.TKT_SNAP_LOAD 0) ∧ (crcOk = true) ∧
      (s.nv.snap = some l) ∧ (v = u.set 0 F.TKT_SNAP_PROGRESS 3072)) ∧
    (∃ (s : State) (crcOk : Bool) (u : State), (s.flag 0 F.TKT_SNAP_BUSY = true) ∧ (s.flag 0 F.TKT_SNAP_LOAD = true) ∧
      (u = (s.set 0 F.TKT_SNAP_BUSY 0).set 0 F.TKT_SNAP_LOAD 0) ∧ (crcOk = false ∨ s.nv.snap = none)) :=
  ⟨⟨W.snapSaves, false, 3071, 7, (((W.snapSaves.set 0 F.TKT_SNAP_PROGRESS 3071).set 0 F.TKT_SNAP_BUSY 0).set 0 F.TKT_SNAP_SAVE 0).nvPop.nvBetween, by decide⟩,
   ⟨W.awake, true, 0, 0, by decide⟩,
   ⟨W.awake.setPage 0 9 0, by decide⟩,
   ⟨W.awake.setPage 0 9 2, by decide⟩,
   ⟨W.snapLoads, true, (W.snapLoads.set 0 F.TKT_SNAP_BUSY 0).set 0 F.TKT_SNAP_LOAD 0, ((W.snapLoads.set 0 F.TKT_SNAP_BUSY 0).set 0 F.TKT_SNAP_LOAD 0).set 0 F.TKT_SNAP_PROGRESS 3072, [], by decide⟩,
   ⟨W.snapLoads, false, (W.snapLoads.set 0 F.TKT_SNAP_BUSY 0).set 0 F.TKT_SNAP_LOAD 0, by decide⟩⟩

theorem wit_Tickets_5 :
    ∃ (s : State) (crcOk : Bool), (s.flag 0 F.TKT_SNAP_BUSY = false ∨ s.flag 0 F.TKT_SNAP_LOAD = false) :=
  ⟨W.awake, true, by decide⟩

theorem wit_InterruptController_1 :
    (∃ (s : State) (target : Nat) (slot : Nat), (s.awake = true) ∧ (s.flag 0 (F.PG_LOCK 0x05) = false) ∧ (target < 4)
      ∧ (slot % 512 = 0 ∨ slot % 512 = 511)) ∧
    (∃ (s : State) (target : Nat) (slot : Nat) (k src : Nat) (w : Word), (s.awake = true) ∧ (s.flag 0 (F.PG_LOCK 0x05)
      = false) ∧ (target < 4) ∧ (k = slot % 512) ∧ (k ≠ 0) ∧ (k ≠ 511) ∧ (s.slotSource k = some (src, w)) ∧ (bit w 28
      = true) ∧ (bits w 26 2 = target)) ∧
    (∃ (s : State) (target : Nat) (slot : Nat) (k : Nat), (s.awake = true) ∧ (s.flag 0 (F.PG_LOCK 0x05) = false) ∧
      (target < 4) ∧ (k = slot % 512) ∧ (k ≠ 0) ∧ (k ≠ 511) ∧ (s.slotSource k = none)) ∧
    (∃ (s : State) (target : Nat) (slot : Nat) (k src : Nat) (w : Word), (s.awake = true) ∧ (s.flag 0 (F.PG_LOCK 0x05)
      = false) ∧ (target < 4) ∧ (k = slot % 512) ∧ (k ≠ 0) ∧ (k ≠ 511) ∧ (s.slotSource k = some (src, w)) ∧ (bit w 28
      = false ∨ bits w 26 2 ≠ target)) ∧
    (∃ (s : State) (target : Nat), (s.awake = false ∨ 4 ≤ target)) ∧
    (∃ (s : State) (target : Nat) (others : List Nat) (fetch : Bool), (s.awake = false ∨ 4 ≤ target)) :=
  ⟨⟨W.awake, 3, 511, by decide⟩,
   ⟨W.serving, 3, 510, 510, 5, 0x1CF001FE, by decide +kernel⟩,
   ⟨W.awake, 3, 510, 510, by decide⟩,
   ⟨W.serving, 2, 510, 510, 5, 0x1CF001FE, by decide +kernel⟩,
   ⟨W.asleep, 3, by decide⟩,
   ⟨W.awake, 4, [], false, by decide⟩⟩

theorem wit_InterruptController_2 :
    (∃ (s : State) (target : Nat) (slot : Nat), (s.awake = true) ∧ (s.flag 0 (F.PG_LOCK 0x05) = false) ∧ (4 ≤ target)) ∧
    (∃ (s : State) (source : Nat) (value : Word), (s.awake = true) ∧ (s.flag 0 (F.PG_LOCK 0x05) = false) ∧ (420 ≤
      source)) ∧
    (∃ (s : State) (target : Nat) (value : Word), (s.awake = true) ∧ (s.flag 0 (F.PG_LOCK 0x05) = false) ∧ (4 ≤
      target)) ∧
    (∃ (s : State) (source : Nat), (s.awake = false ∨ source < 140 ∨ 420 ≤ source ∨ reservedSource source = true ∨
      s.inService ((source - 140) / 40 + 1) = false)) ∧
    (∃ (s : State) (source bit : Nat), (420 ≤ source ∨ 32 ≤ bit ∨ s.awake = true)) ∧
    (∃ (s : State) (target : Nat), (s.awake = true) ∧ (target < 4)) :=
  ⟨⟨W.awake, 4, 5, by decide⟩,
   ⟨W.awake, 420, 0, by decide⟩,
   ⟨W.awake, 4, 0, by decide⟩,
   ⟨W.awake, 420, by decide⟩,
   ⟨W.awake, 420, 0, by decide⟩,
   ⟨W.awake, 3, by decide⟩⟩

theorem wit_InterruptController_3 :
    (∃ (s : State) (source : Nat), (s.awake = true) ∧ (140 ≤ source) ∧ (source < 420) ∧ (reservedSource source =
      false) ∧ (s.inService ((source - 140) / 40 + 1) = true)) ∧
    (∃ (s : State) (source bit : Nat), (source < 140) ∧ (bit < 32) ∧ (s.latched 0 source = true)) ∧
    (∃ (s : State) (source bit : Nat), (140 ≤ source) ∧ (source < 420) ∧ (bit < 32) ∧ (s.latched ((source - 140) / 40
      + 1) ((source - 140) % 40) = true)) :=
  ⟨⟨W.up, 380, by decide⟩,
   ⟨W.asleep, 14, 3, by decide⟩,
   ⟨W.asleep, 154, 3, by decide⟩⟩

theorem wit_InterruptController_4 :
    ∃ (s : State) (target : Nat) (others : List Nat) (fetch : Bool) (b u : State), (s.awake = true) ∧ (target < 4) ∧
      (b = s.attnSync) ∧ (u = ({ b with icu := { b.icu with claims := Store.erase b.icu.claims target } } : State)) ∧
      (fetch = true) :=
  ⟨W.awake, 3, [], true, W.awake.attnSync, W.unclaims W.awake, by decide⟩

theorem wit_InterruptController_5 :
    ∃ (s : State) (target : Nat) (others : List Nat) (fetch : Bool) (b u : State) (taken : List Nat) (slot src : Nat),
      (s.awake = true) ∧ (target < 4) ∧ (b = s.attnSync) ∧ (u =
      ({ b with icu := { b.icu with claims := Store.erase b.icu.claims target } } : State)) ∧ (fetch = false) ∧ (taken
      = (others.filter (fun k => decide (k < target))).filterMap (fun k => Store.find? b.icu.claims k)) ∧ (u.topFor
      target (taken.filterMap (fun k => (u.slotSource k).map Prod.fst)) = (slot, src)) ∧ (slot = 0) :=
  ⟨W.awake, 3, [], false, W.awake.attnSync, W.unclaims W.awake, [], 0, 0, by decide +kernel⟩

theorem wit_InterruptController_6 :
    ∃ (s : State) (target : Nat) (others : List Nat) (fetch : Bool) (b u : State) (taken : List Nat) (slot src : Nat),
      (s.awake = true) ∧ (target < 4) ∧ (b = s.attnSync) ∧ (u =
      ({ b with icu := { b.icu with claims := Store.erase b.icu.claims target } } : State)) ∧ (fetch = false) ∧ (taken
      = (others.filter (fun k => decide (k < target))).filterMap (fun k => Store.find? b.icu.claims k)) ∧ (u.topFor
      target (taken.filterMap (fun k => (u.slotSource k).map Prod.fst)) = (slot, src)) ∧ (slot ≠ 0) ∧ (taken.contains
      slot = true) :=
  ⟨W.claimed, 3, [0], false, W.claimed.attnSync, W.unclaims W.claimed, [510], 510, 5, by decide +kernel⟩

theorem wit_InterruptController_7 :
    ∃ (s : State) (target : Nat) (others : List Nat) (fetch : Bool) (b u : State) (taken : List Nat) (slot src : Nat)
      (x v : State), (s.awake = true) ∧ (target < 4) ∧ (b = s.attnSync) ∧ (u =
      ({ b with icu := { b.icu with claims := Store.erase b.icu.claims target } } : State)) ∧ (fetch = false) ∧ (taken
      = (others.filter (fun k => decide (k < target))).filterMap (fun k => Store.find? b.icu.claims k)) ∧ (u.topFor
      target (taken.filterMap (fun k => (u.slotSource k).map Prod.fst)) = (slot, src)) ∧ (slot ≠ 0) ∧ (taken.contains
      slot = false) ∧ (x = (u.set 0 (F.ICU_SRC_INSVC src) 1).set 0 (F.ICU_SRC_SVCT src) target) ∧ (v = (x.set 0
      (F.ICU_T_CFG_IDLE target) 0).set 0 (F.ICU_T_STAT_HOLD target) (b2n (x.get 0 (F.ICU_T_CFG_MODGAP target) != 0))) :=
  ⟨W.interrupt, 3, [], false, W.interrupt.attnSync, W.unclaims W.interrupt, [], 510, 5, W.inService, (W.inService.set 0 (F.ICU_T_CFG_IDLE 3) 0).set 0 (F.ICU_T_STAT_HOLD 3) (b2n (W.inService.get 0 (F.ICU_T_CFG_MODGAP 3) != 0)), by decide +kernel⟩

theorem wit_InterruptController_8 :
    ∃ (s : State) (source : Nat) (value : Word) (u : State) (slot : Nat), (s.awake = true) ∧ (s.flag 0 (F.PG_LOCK
      0x05) = false) ∧ (source < 420) ∧ (u = s.attnSync) ∧ (slot = bits value 0 9) ∧ (reservedSource source = true) :=
  ⟨W.awake, 419, 0, W.awake.attnSync, 0, by decide⟩

theorem wit_InterruptController_9 :
    ∃ (s : State) (source : Nat) (value : Word) (u : State) (slot : Nat), (s.awake = true) ∧ (s.flag 0 (F.PG_LOCK
      0x05) = false) ∧ (source < 420) ∧ (u = s.attnSync) ∧ (slot = bits value 0 9) ∧ (reservedSource source = false) ∧
      (slot = 511) :=
  ⟨W.awake, 5, 511, W.awake.attnSync, 511, by decide⟩

theorem wit_InterruptController_10 :
    ∃ (s : State) (source : Nat) (value : Word) (u : State) (slot : Nat), (s.awake = true) ∧ (s.flag 0 (F.PG_LOCK
      0x05) = false) ∧ (source < 420) ∧ (u = s.attnSync) ∧ (slot = bits value 0 9) ∧ (reservedSource source = false) ∧
      (slot ≠ 511) ∧ (slot ≠ 0) ∧ (u.slotHeld source slot = true) :=
  ⟨W.interrupt, 6, 510, W.interrupt.attnSync, 510, by decide +kernel⟩

theorem wit_InterruptController_11 :
    ∃ (s : State) (source : Nat) (value : Word) (u : State) (slot : Nat), (s.awake = true) ∧ (s.flag 0 (F.PG_LOCK
      0x05) = false) ∧ (source < 420) ∧ (u = s.attnSync) ∧ (slot = bits value 0 9) ∧ (reservedSource source = false) ∧
      (slot ≠ 511) ∧ (slot = 0 ∨ u.slotHeld source slot = false) ∧ (u.flag 0 (F.ICU_SRC_INSVC source) = true) ∧ (u.get
      0 (F.ICU_SRC_SLOT source) ≠ slot) :=
  ⟨W.serving, 5, 0, W.serving.attnSync, 0, by decide +kernel⟩

theorem wit_InterruptController_12 :
    ∃ (s : State) (source : Nat) (value : Word) (u : State) (slot : Nat) (y v x : State), (s.awake = true) ∧ (s.flag 0
      (F.PG_LOCK 0x05) = false) ∧ (source < 420) ∧ (u = s.attnSync) ∧ (slot = bits value 0 9) ∧ (reservedSource source
      = false) ∧ (slot ≠ 511) ∧ (slot = 0 ∨ u.slotHeld source slot = false) ∧ (u.flag 0 (F.ICU_SRC_INSVC source) =
      false ∨ u.get 0 (F.ICU_SRC_SLOT source) = slot) ∧ (y = u.writeRo 0 0x05 (0x400 + 4 * source) value) ∧ (v =
      (({ y with icu := { y.icu with unmapped := Store.erase y.icu.unmapped source } } : State).set 0 (F.ICU_SRC_SLOT
      source) slot).set 0 (F.ICU_SRC_TARGET source) (bits value 20 4)) ∧ (x = v.set 0 (F.ICU_SRC_COUNT source) (v.get
      0 (F.ICU_SRC_COUNT source) - bits value 12 8)) :=
  ⟨W.interrupt, 5, 0x001FF1FD, W.interrupt.attnSync, 509, W.interrupt.attnSync.writeRo 0 0x05 (0x400 + 4 * 5) 0x001FF1FD, W.remapped, W.remapped.set 0 (F.ICU_SRC_COUNT 5) 0, by decide +kernel⟩

theorem wit_InterruptController_13 :
    ∃ (s : State) (target : Nat) (value : Word) (u : State), (s.awake = true) ∧ (s.flag 0 (F.PG_LOCK 0x05) = false) ∧
      (target < 4) ∧ (u = (s.attnSync.writeRo 0 0x05 (0x044 + 32 * target) value).setReg 0 0x05 (0x044 + 32 * target)
      (value &&& writableMask 0 0x05 (0x044 + 32 * target))) :=
  ⟨W.awake, 3, 0x40000000, (W.awake.attnSync.writeRo 0 0x05 (0x044 + 32 * 3) 0x40000000).setReg 0 0x05 (0x044 + 32 * 3) (0x40000000 &&& writableMask 0 0x05 (0x044 + 32 * 3)), by decide⟩

theorem wit_SleepEntry_1 :
    (∃ (s : State) (u v : State), (s.awake = true) ∧ (s.flag 0 (F.PG_LOCK 0x03) = false) ∧ (s.power.phase = .none) ∧
      (s.load = none) ∧ (u = s.setPhase .drain) ∧ (v =
      { u with power := { u.power with toWatch := false, frozenHolders := none } })) ∧
    (∃ (s : State), (s.awake = true) ∧ (s.flag 0 (F.PG_LOCK 0x03) = false) ∧ (s.power.phase ≠ .none ∨ s.load ≠ none)) ∧
    (∃ (s : State) (u v : State), (s.awake = true) ∧ (s.flag 0 (F.PG_LOCK 0x03) = false) ∧ (s.power.phase = .none) ∧
      (s.load = none) ∧ (s.sleepPorts.length ≤ 8) ∧ (u = s.setPhase .drain) ∧ (v =
      { u with power := { u.power with toWatch := true, frozenHolders := none } })) ∧
    (∃ (s : State), (s.awake = true) ∧ (s.flag 0 (F.PG_LOCK 0x03) = false) ∧ (s.power.phase ≠ .none ∨ s.load ≠ none)) ∧
    (∃ (s : State), (s.awake = true) ∧ (s.flag 0 (F.PG_LOCK 0x03) = false) ∧ (s.power.phase = .none) ∧ (s.load = none)
      ∧ (8 < s.sleepPorts.length)) ∧
    (∃ (s : State) (u : State), (s.power.phase = .drain) ∧ (s.holders ≠ 0) ∧ (u = s.setPhase .none)) :=
  ⟨⟨W.full, W.full.setPhase .drain, { W.full.setPhase .drain with power := { (W.full.setPhase .drain).power with toWatch := false, frozenHolders := none } }, by decide +kernel⟩,
   ⟨W.awake.setPhase .drain, by decide⟩,
   ⟨W.full, W.full.setPhase .drain, { W.full.setPhase .drain with power := { (W.full.setPhase .drain).power with toWatch := true, frozenHolders := none } }, by decide +kernel⟩,
   ⟨W.awake.setPhase .drain, by decide⟩,
   ⟨W.sleepers, by decide +kernel⟩,
   ⟨(W.hears 1).setPhase .drain, ((W.hears 1).setPhase .drain).setPhase .none, by decide⟩⟩

theorem wit_SleepEntry_2 :
    (∃ (s : State) (u : State), (s.power.phase = .prepare) ∧ (s.holders ≠ 0) ∧ (u = (s.releasePads 7).setPhase .none)) ∧
    (∃ (s : State), (s.power.phase = .none ∨ s.holders = 0)) ∧
    (∃ (s : State) (u v : State), (s.power.phase = .drain) ∧ (s.holders = 0) ∧ (u =
      ({ s with power := { s.power with prepared := false } } : State).setPhase .prepare) ∧ (v =
      u.sslRelease.radioSleep) ∧ (v.get 0 F.PWR_VSLEEP_TARGET = 0)) ∧
    (∃ (s : State) (u v : State), (s.power.phase = .drain) ∧ (s.holders = 0) ∧ (u =
      ({ s with power := { s.power with prepared := false } } : State).setPhase .prepare) ∧ (v =
      u.sslRelease.radioSleep) ∧ (v.get 0 F.PWR_VSLEEP_TARGET ≠ 0)) ∧
    (∃ (s : State), (s.power.phase ≠ .drain ∨ s.holders ≠ 0)) ∧
    (∃ (s : State), (s.power.phase ≠ .prepare ∨ s.power.prepared = false ∨ s.holders ≠ 0)) :=
  ⟨⟨(W.hears 1).setPhase .prepare, (((W.hears 1).setPhase .prepare).releasePads 7).setPhase .none, by decide +kernel⟩,
   ⟨W.awake, by decide⟩,
   ⟨(W.awake.set 0 F.PWR_VSLEEP_TARGET 0).setPhase .drain, ({ (W.awake.set 0 F.PWR_VSLEEP_TARGET 0).setPhase .drain with power := { ((W.awake.set 0 F.PWR_VSLEEP_TARGET 0).setPhase .drain).power with prepared := false } } : State).setPhase .prepare, (({ (W.awake.set 0 F.PWR_VSLEEP_TARGET 0).setPhase .drain with power := { ((W.awake.set 0 F.PWR_VSLEEP_TARGET 0).setPhase .drain).power with prepared := false } } : State).setPhase .prepare).sslRelease.radioSleep, by decide, by decide +kernel, rfl, rfl, by decide +kernel⟩,
   ⟨(W.awake.set 0 F.PWR_VSLEEP_TARGET 2000).setPhase .drain, ({ (W.awake.set 0 F.PWR_VSLEEP_TARGET 2000).setPhase .drain with power := { ((W.awake.set 0 F.PWR_VSLEEP_TARGET 2000).setPhase .drain).power with prepared := false } } : State).setPhase .prepare, (({ (W.awake.set 0 F.PWR_VSLEEP_TARGET 2000).setPhase .drain with power := { ((W.awake.set 0 F.PWR_VSLEEP_TARGET 2000).setPhase .drain).power with prepared := false } } : State).setPhase .prepare).sslRelease.radioSleep, by decide, by decide +kernel, rfl, rfl, by decide +kernel⟩,
   ⟨W.awake, by decide⟩,
   ⟨W.awake, by decide⟩⟩

theorem wit_SleepEntry_3 :
    (∃ (s : State), (s.power.phase = .prepare) ∧ (s.power.prepared = true) ∧ (s.holders = 0)) ∧
    (W.awake.padHeld 0 = false) :=
  ⟨⟨{ W.up.setPhase .prepare with power := { phase := .prepare, toWatch := true, prepared := true } }, by decide⟩,
   (by decide)⟩

theorem wit_WakeAndPads_1 :
    (∃ (s : State) (high : Bool) (periods : Nat), (s.flag 0 F.PWR_WAKE_EN_WAKEPIN = true) ∧ (high = s.flag 0
      F.PWR_CFG_WAKE_POL) ∧ (2 ≤ periods)) ∧
    (∃ (s : State) (high : Bool) (periods : Nat), (s.flag 0 F.PWR_WAKE_EN_WAKEPIN = false ∨ high ≠ s.flag 0
      F.PWR_CFG_WAKE_POL ∨ periods < 2)) ∧
    (∃ (s : State) (die : Nat) (front : Bool) (found : List (Nat × Nat)) (l : List Nat) (u : State), (s.device =
      .deepSleep ∨ s.device = .watch) ∧ (s.power.waking = true) ∧ (s.present die = true) ∧ (l = (s.failing die
      found).filter (fun x => !s.power.failed.contains x)) ∧ (u =
      { s with power := { s.power with failed := s.power.failed ++ l, anchorReady := s.power.anchorReady || (die == 0 && !front) } })) ∧
    (∃ (s : State) (die : Nat) (front : Bool) (found : List (Nat × Nat)) (l : List Nat) (u v w : State), (s.awake =
      true) ∧ (s.inService die = true) ∧ (s.pstate die = 0) ∧ (front = true ∨ (s.die die).runAsked = true ∨ s.flag die
      F.DPWR_CFG_KEEP_RUN = true) ∧ (l = s.failing die found) ∧ (u =
      { s with power := { s.power with lostWatch := 0 } }) ∧ (v = l.foldl (fun (z : State) x => z.failBank die (x %
      256)) (u.reloadReads die l)) ∧ (w = (v.dieUp die).coordinate)) ∧
    (∃ (s : State) (die : Nat) (front : Bool) (found : List (Nat × Nat)), (s.awake = true) ∧ (s.inService die = false
      ∨ s.pstate die ≠ 0 ∨ front = false ∧ (s.die die).runAsked = false ∧ s.flag die F.DPWR_CFG_KEEP_RUN = false)) ∧
    (∃ (s : State) (die : Nat) (front : Bool) (found : List (Nat × Nat)), (s.awake = false) ∧ (s.power.waking = false
      ∨ s.present die = false)) :=
  ⟨⟨W.asleep.set 0 F.PWR_WAKE_EN_WAKEPIN 1, (W.asleep.set 0 F.PWR_WAKE_EN_WAKEPIN 1).flag 0 F.PWR_CFG_WAKE_POL, 2, by decide⟩,
   ⟨W.asleep.set 0 F.PWR_WAKE_EN_WAKEPIN 0, true, 2, by decide⟩,
   ⟨W.waking, 7, true, [(0x81, 5)], W.waking.failing 7 [(0x81, 5)], { W.waking with power := { W.waking.power with failed := W.waking.failing 7 [(0x81, 5)] } }, by decide, by decide, by decide, by decide +kernel, by decide +kernel⟩,
   ⟨W.dieOff, 7, true, [], [], W.dieOffU, W.dieOffU.reloadReads 7 [], ((W.dieOffU.reloadReads 7 []).dieUp 7).coordinate, by decide, by decide, by decide, by decide, by decide +kernel, rfl, rfl, rfl⟩,
   ⟨W.up, 7, true, [], by decide⟩,
   ⟨W.asleep, 7, true, [], by decide⟩⟩

theorem wit_WakeAndPads_2 :
    (∃ (s : State) (gp : Nat), (s.device = .active ∨ s.device = .off ∨ s.device = .reset ∨ s.power.waking = false ∨
      s.power.anchorReady = false)) ∧
    (∃ (s : State) (gp : Nat), (s.device = .deepSleep ∨ s.device = .watch) ∧ (s.power.waking = true) ∧
      (s.power.anchorReady = true)) ∧
    (∃ (s : State) (value : Word), (s.awake = true) ∧ (s.flag 0 (F.PG_LOCK 0x03) = false)) ∧
    (∃ (s : State) (die : Nat) (u : State), (s.awake = true) ∧ (s.fieldDie die = true) ∧ (s.inService die = true) ∧ (u
      = s.touchDie die) ∧ (u.awake = true) ∧ (u.flag die (F.PG_LOCK 0x12) = false)) ∧
    (∃ (s : State) (die : Nat), (s.awake = false ∨ s.fieldDie die = false ∨ s.inService die = false)) ∧
    (∃ (s : State) (die : Nat), (s.awake = false ∨ s.inService die = false ∨ s.pstate die ≠ 1 ∨ s.get die
      F.DPWR_CFG_OFF_IDLE = 0 ∨ (s.die die).runAsked = true)) :=
  ⟨⟨W.awake, 255, by decide⟩,
   ⟨{ W.waking with power := { W.waking.power with anchorReady := true } }, 255, by decide⟩,
   ⟨W.awake, 7, by decide⟩,
   ⟨W.up, 7, W.up, by decide⟩,
   ⟨W.up, 0, by decide⟩,
   ⟨W.up, 7, by decide⟩⟩

theorem wit_WakeAndPads_3 :
    (∃ (s : State) (die : Nat) (u : State), (s.awake = true) ∧ (s.inService die = true) ∧ (s.pstate die = 1) ∧ (s.get
      die F.DPWR_CFG_OFF_IDLE ≠ 0) ∧ ((s.die die).runAsked = false) ∧ (u = ((s.storeCrcs [die]).set die
      F.DPWR_STAT_PSTATE 0).setBit 0 F.SEM_DIES_LOCKED (die - 1) false)) ∧
    (∃ (s : State) (pin : Nat) (level : Bool), (s.awake = true) ∧ (pin < 8) ∧ ((s.get 0 F.GPP_IN_LEVEL).testBit pin ≠
      level)) ∧
    (∃ (s : State) (pin : Nat) (level : Bool), (s.awake = true) ∧ (pin < 8) ∧ ((s.get 0 F.GPP_IN_LEVEL).testBit pin =
      level)) ∧
    (∃ (s : State) (pin : Nat) (level : Bool), (s.awake = false ∨ 8 ≤ pin)) ∧
    (W.asleep.device = .watch ∧ W.asleep.power.waking = false) ∧
    (W.waking.device = .watch ∧ W.waking.power.waking = true ∧ W.waking.power.wakeTime = W.waking.time ∧ (0 : Nat) <
      W.waking.power.wakeSrc) :=
  ⟨⟨(W.up.set 7 F.DPWR_STAT_PSTATE 1).set 7 F.DPWR_CFG_OFF_IDLE 1, 7, ((((W.up.set 7 F.DPWR_STAT_PSTATE 1).set 7 F.DPWR_CFG_OFF_IDLE 1).storeCrcs [7]).set 7 F.DPWR_STAT_PSTATE 0).setBit 0 F.SEM_DIES_LOCKED 6 false, by decide +kernel⟩,
   ⟨W.awake, 7, true, by decide⟩,
   ⟨W.awake, 7, false, by decide⟩,
   ⟨W.awake, 8, true, by decide⟩,
   (by decide),
   (by decide)⟩

theorem wit_WakeAndPads_4 :
    (W.waking.device = .watch ∧ W.waking.power.waking = true ∧ W.waking.power.wakeSrc ≤ 1) ∧
    ((W.awake.setPhase .drain).device = .active ∧ (W.awake.setPhase .drain).power.phase ≠ .none) ∧
    (W.off.device = .off) ∧
    (((W.up.set 7 F.DPWR_STAT_PSTATE 1).set 7 F.DPWR_CFG_KEEP_RUN 1).inService 7 = true ∧ ((W.up.set 7
      F.DPWR_STAT_PSTATE 1).set 7 F.DPWR_CFG_KEEP_RUN 1).pstate 7 = 1 ∧ ((W.up.set 7 F.DPWR_STAT_PSTATE 1).set 7
      F.DPWR_CFG_KEEP_RUN 1).flag 7 F.DPWR_CFG_KEEP_RUN = true) :=
  ⟨(by decide),
   (by decide),
   (by decide),
   (by decide)⟩

theorem wit_SupplyLink_1 :
    (∃ (s : State) (value : Nat) (origin : SupplyOrigin), (s.awake = true) ∧ (s.flag 0 (F.PG_LOCK 0x04) = false) ∧
      (origin = .host) ∧ (1500 ≤ value) ∧ (value ≤ 2750)) ∧
    (∃ (s : State) (value : Nat) (origin : SupplyOrigin), (s.awake = true) ∧ (s.flag 0 (F.PG_LOCK 0x04) = false) ∧
      (origin = .host) ∧ (value < 1500 ∨ 2750 < value)) ∧
    (∃ (s : State) (value : Nat) (origin : SupplyOrigin), (s.awake = true) ∧ (origin ≠ .host)) ∧
    (∃ (s : State) (value : Nat), (s.awake = true) ∧ (s.flag 0 (F.PG_LOCK 0x04) = false)) ∧
    (∃ (s : State) (value : Nat), (s.awake = true) ∧ (s.flag 0 (F.PG_LOCK 0x04) = false)) ∧
    (∃ (s : State), (s.awake = true) ∧ (s.flag 0 (F.PG_LOCK 0x04) = false)) :=
  ⟨⟨W.awake, 2750, .host, by decide⟩,
   ⟨W.awake, 2751, .host, by decide⟩,
   ⟨W.awake, 2000, .coordinator, by decide⟩,
   ⟨W.awake, 4095, by decide⟩,
   ⟨W.awake, 4095, by decide⟩,
   ⟨W.awake, by decide⟩⟩

theorem wit_SupplyLink_2 :
    (∃ (s : State) (value : Nat) (origin : SupplyOrigin), (s.awake = false) ∧ (origin ≠ .host)) ∧
    (∃ (s : State), (s.supply.flight ≠ none ∨ s.supply.waiting = none)) ∧
    (∃ (s : State), (s.supply.flight = none)) ∧
    (∃ (s : State), (s.supply.flight = none)) ∧
    (∃ (s : State) (r : SupplyReq) (b target : Nat) (u : State), (s.supply.flight = none) ∧ (s.supply.waiting = some
      r) ∧ (b = s.supplyTarget) ∧ (target = (if r.cmd = 1 then r.value else if r.cmd = 2 then (clampI 1500 2750 ((b :
      Int) + r.value)).toNat else if r.cmd = 3 then (clampI 1500 2750 ((b : Int) - r.value)).toNat else b)) ∧ (u =
      { s with supply := { s.supply with flight := some r, waiting := none, sent := target } }) ∧ (r.cmd ≠ 4)) ∧
    (∃ (s : State) (r : SupplyReq) (b target : Nat) (u : State), (s.supply.flight = none) ∧ (s.supply.waiting = some
      r) ∧ (b = s.supplyTarget) ∧ (target = (if r.cmd = 1 then r.value else if r.cmd = 2 then (clampI 1500 2750 ((b :
      Int) + r.value)).toNat else if r.cmd = 3 then (clampI 1500 2750 ((b : Int) - r.value)).toNat else b)) ∧ (u =
      { s with supply := { s.supply with flight := some r, waiting := none, sent := target } }) ∧ (r.cmd = 4)) :=
  ⟨⟨W.asleep, 2000, .coordinator, by decide⟩,
   ⟨W.awake, by decide⟩,
   ⟨W.awake, by decide⟩,
   ⟨W.awake, by decide⟩,
   ⟨W.asks 2 900, { cmd := 2, value := 900 }, 2000, 2750, { W.asks 2 900 with supply := { (W.asks 2 900).supply with flight := some { cmd := 2, value := 900 }, waiting := none, sent := 2750 } }, by decide⟩,
   ⟨W.asks 4 0, { cmd := 4, value := 0 }, 2000, 2000, { W.asks 4 0 with supply := { (W.asks 4 0).supply with flight := some { cmd := 4, value := 0 }, waiting := none, sent := 2000 } }, by decide⟩⟩

theorem wit_SupplyLink_3 :
    (∃ (s : State) (r : SupplyReq) (u v : State), (s.supply.flight = some r) ∧ (r.cmd ≠ 4) ∧ (u =
      { s with supply := { s.supply with inForce := some s.supply.sent } }) ∧ (v = u.set 0 F.SRL_STAT_SRAK 1)) ∧
    (∃ (s : State) (r : SupplyReq) (v : State), (s.supply.flight = some r) ∧ (r.cmd = 4) ∧ (v = s.set 0
      F.SRL_STAT_SRAK 1)) ∧
    (∃ (s : State) (r : SupplyReq), (s.supply.flight = some r)) ∧
    ((W.awake.setPhase .prepare).power.phase = .prepare ∧ (W.awake.setPhase .prepare).power.prepared = false ∧
      (W.awake.setPhase .prepare).supply.flight = none ∧ (W.awake.setPhase .prepare).supply.waiting = none) ∧
    (W.awake.power.phase ≠ .prepare) :=
  ⟨⟨W.flies 1, { cmd := 1, value := 2000 }, { W.flies 1 with supply := { (W.flies 1).supply with inForce := some 2000 } }, ({ W.flies 1 with supply := { (W.flies 1).supply with inForce := some 2000 } } : State).set 0 F.SRL_STAT_SRAK 1, by decide⟩,
   ⟨W.flies 4, { cmd := 4, value := 2000 }, (W.flies 4).set 0 F.SRL_STAT_SRAK 1, by decide⟩,
   ⟨W.flies 1, { cmd := 1, value := 2000 }, by decide⟩,
   (by decide),
   (by decide)⟩

theorem wit_ResetsAndStartUp_1 :
    (∃ (s : State) (iosel : Bool) (u : State), (s.device = .off) ∧ (u =
      { s.resetDevice 0 with epoch := true, rail33 := iosel })) ∧
    (∃ (s : State) (iosel : Bool), (s.device ≠ .off)) ∧
    (∃ (s : State) (torn : Bool) (lock : Bool) (n : Nv), (lock =
      (match s.nv.ops with | .regLock _ :: _ => true | _ => false)) ∧ (n =
      { s.nv.cut with torn := s.nv.torn || (torn && lock) })) ∧
    (∃ (s : State), (s.device ≠ .off)) ∧
    (∃ (s : State), (s.device = .off)) ∧
    (∃ (s : State), (s.device ≠ .off)) :=
  ⟨⟨W.off, true, { W.off.resetDevice 0 with epoch := true, rail33 := true }, by decide, rfl⟩,
   ⟨W.awake, true, by decide⟩,
   ⟨W.awake, true, false, W.awake.nv.cut, by decide⟩,
   ⟨W.awake, by decide⟩,
   ⟨W.off, by decide⟩,
   ⟨W.awake, by decide⟩⟩

theorem wit_ResetsAndStartUp_2 :
    (∃ (s : State), (s.device = .off)) ∧
    (∃ (s : State), (s.device ≠ .off)) ∧
    (∃ (s : State), (s.device = .off)) ∧
    (∃ (s : State) (prof twa : Nat) (u : State), (s.device = .reset) ∧ (u =
      { s with device := .active, ready := false })) ∧
    (∃ (s : State) (prof twa : Nat), (s.device ≠ .reset)) ∧
    (∃ (s : State) (faults : List (Nat × Nat)), (s.awake = false ∨ s.ready = true)) :=
  ⟨⟨W.off, by decide⟩,
   ⟨W.awake, by decide⟩,
   ⟨W.off, by decide⟩,
   ⟨State.reset, 3, 7, { State.reset with device := .active, ready := false }, by decide⟩,
   ⟨W.awake, 3, 7, by decide⟩,
   ⟨W.awake, [], by decide⟩⟩

theorem wit_ResetsAndStartUp_3 :
    (∃ (s : State) (seams : Nat) (badSets : List Nat), (s.awake = false ∨ s.ready = true)) ∧
    (∃ (s : State) (faults : List (Nat × Nat)) (l : List (Nat × Nat)) (u : State) (out : List (Nat × Nat)), (s.awake =
      true) ∧ (s.ready = false) ∧ (l = (banksOf 0).filterMap (fun b => (Store.find? faults b).map (fun n => (b, n))))
      ∧ ((u, out) = l.foldl (fun (x : State × List (Nat × Nat)) f => ((x.1.remapRows f.1 f.2).1, if (x.1.remapRows f.1
      f.2).2 = 0 then x.2 else x.2 ++ [f])) (s, []))) ∧
    (∃ (s : State) (seams : Nat) (badSets : List Nat), (s.awake = true) ∧ (s.ready = false)) ∧
    ((7 : Nat) < 8) :=
  ⟨⟨W.awake, 255, [], by decide⟩,
   ⟨W.early, [], [], W.early, [], by decide, by decide, by decide, by decide⟩,
   ⟨W.early, 255, [], by decide⟩,
   (by decide)⟩

theorem wit_CalibrationRequests_1 :
    (∃ (s : State) (die mask : Nat) (l : List Nat), (s.awake = true) ∧ (s.flag 0 (F.PG_LOCK 0x12) = false) ∧
      (s.fieldDie die = true) ∧ (l = maskSlices mask (fun sl => s.sound die sl && (s.servedPort die sl).isSome ==
      true)) ∧ (l ≠ [])) ∧
    (∃ (s : State) (die mask : Nat), (s.awake = true) ∧ (s.flag 0 (F.PG_LOCK 0x12) = false) ∧ (s.fieldDie die = false
      ∨ maskSlices mask (fun sl => s.sound die sl && (s.servedPort die sl).isSome == true) = [])) ∧
    (∃ (s : State) (die mask : Nat) (l : List Nat), (s.awake = true) ∧ (s.flag 0 (F.PG_LOCK 0x12) = false) ∧
      (s.fieldDie die = true) ∧ (l = maskSlices mask (fun sl => s.sound die sl && (s.servedPort die sl).isSome ==
      false)) ∧ (l ≠ [])) ∧
    (∃ (s : State) (die mask : Nat), (s.awake = true) ∧ (s.flag 0 (F.PG_LOCK 0x12) = false) ∧ (s.fieldDie die = false
      ∨ maskSlices mask (fun sl => s.sound die sl && (s.servedPort die sl).isSome == false) = [])) ∧
    (∃ (s : State) (die : Nat), (s.awake = true) ∧ (s.flag 0 (F.PG_LOCK 0x12) = false) ∧ (s.fieldDie die = true)) ∧
    (∃ (s : State) (die : Nat), (s.awake = true) ∧ (s.flag 0 (F.PG_LOCK 0x12) = false) ∧ (s.fieldDie die = false)) :=
  ⟨⟨W.up, 7, 1023, List.range 8, by decide +kernel⟩,
   ⟨W.up, 7, 0, by decide +kernel⟩,
   ⟨W.up, 7, 1023, [8, 9], by decide +kernel⟩,
   ⟨W.up, 7, 0, by decide +kernel⟩,
   ⟨W.up, 7, by decide⟩,
   ⟨W.up, 0, by decide⟩⟩

theorem wit_CalibrationRequests_2 :
    (∃ (s : State), (s.awake = true) ∧ (s.flag 0 (F.PG_LOCK 0x12) = false)) ∧
    (∃ (s : State), (s.awake = true) ∧ (s.flag 0 (F.PG_LOCK 0x12) = false)) ∧
    (∃ (s : State) (die : Nat) (temp : Int), (s.awake = true) ∧ (s.present die = true) ∧ (1 ≤ die)) ∧
    (∃ (s : State) (die : Nat) (temp : Int), (s.awake = true) ∧ (die = 0)) ∧
    (∃ (s : State) (die : Nat) (temp : Int), (s.awake = false ∨ s.present die = false)) ∧
    (∃ (s : State) (target : Nat) (refv refres temp : Int) (values : List (Nat × Nat × Int)) (u : State), (s.awake =
      true) ∧ ((s.calTarget target).running = true) ∧ (target < 0x1000) ∧ (u = (s.set 0 F.CAL_REF_REFV_DEV (field 16
      refv)).set 0 F.CAL_REF_REFRES_DEV (field 16 refres))) :=
  ⟨⟨W.awake, by decide⟩,
   ⟨W.awake, by decide⟩,
   ⟨W.up, 7, -400, by decide⟩,
   ⟨W.up, 0, 250, by decide⟩,
   ⟨W.asleep, 7, 0, by decide⟩,
   ⟨W.calRuns, 0, 1, -1, 250, [], (W.calRuns.set 0 F.CAL_REF_REFV_DEV (field 16 1)).set 0 F.CAL_REF_REFRES_DEV (field 16 (-1)), by decide⟩⟩

theorem wit_CalibrationRequests_3 :
    (∃ (s : State) (target : Nat) (refv refres temp : Int) (values : List (Nat × Nat × Int)), (s.awake = true) ∧
      ((s.calTarget target).running = true) ∧ (0x1000 ≤ target)) ∧
    (∃ (s : State) (target : Nat) (refv refres temp : Int) (values : List (Nat × Nat × Int)), (s.awake = false ∨
      (s.calTarget target).running = false)) ∧
    (∃ (s : State) (target : Nat), (s.awake = false ∨ (s.calTarget target).due = false ∨ (s.calTarget target).aged =
      true)) ∧
    (∃ (s : State), (s.awake = false ∨ s.pageOn 0 0x12 = false ∨ (s.calTarget 0).due = false ∨ s.converterHeld = true
      ∨ s.power.phase ≠ .none ∨ s.coord.loading = true)) ∧
    (∃ (s : State), (s.awake = false ∨ s.flag 0 F.CAL_SAVE_DIRTY = false ∨ s.flag 0 F.CAL_SAVE_BUSY = true)) ∧
    (∃ (s : State) (ok : Bool), (s.flag 0 F.CAL_SAVE_BUSY = false ∨ s.nvRuns .calSave = false)) :=
  ⟨⟨W.awake.setCalTarget 0x1000 { W.awake.calTarget 0x1000 with running := true }, 0x1000, 1, -1, 250, [], by decide⟩,
   ⟨W.awake, 17, 1, -1, 250, [], by decide⟩,
   ⟨W.awake, 17, by decide⟩,
   ⟨W.awake, by decide⟩,
   ⟨W.awake, by decide⟩,
   ⟨W.awake, true, by decide⟩⟩

theorem wit_CalibrationRequests_4 :
    (∃ (s : State) (target : Nat) (u v : State), (s.awake = true) ∧ ((s.calTarget target).due = true) ∧ ((s.calTarget
      target).aged = false) ∧ (u = (s.setCalTarget target { s.calTarget target with aged := true }).raise 0 0x12 4) ∧
      (v = (if u.coord.cands.any (fun (c : Cand) =>
      (match c.origin with | .cal 3 _ => dieSet c.die == target | .cal _ n => sliceSet c.die n == target | _ => false)
      && c.budgetWait && !c.aged) then u.raise 0 0x0A 1 else u))) ∧
    (∃ (s : State), (s.awake = true) ∧ (s.pageOn 0 0x12 = true) ∧ ((s.calTarget 0).due = true) ∧ (s.converterHeld =
      false) ∧ (s.power.phase = .none) ∧ (s.coord.loading = false)) ∧
    (∃ (s : State), (s.awake = true) ∧ (s.flag 0 (F.PG_LOCK 0x12) = false) ∧ (s.flag 0 F.CAL_SAVE_BUSY = false)) ∧
    (∃ (s : State), (s.awake = true) ∧ (s.flag 0 (F.PG_LOCK 0x12) = false) ∧ (s.flag 0 F.CAL_SAVE_BUSY = true)) ∧
    (∃ (s : State), (s.awake = true) ∧ (s.flag 0 F.CAL_SAVE_DIRTY = true) ∧ (s.flag 0 F.CAL_SAVE_BUSY = false)) ∧
    (∃ (s : State) (ok : Bool), (s.flag 0 F.CAL_SAVE_BUSY = true) ∧ (s.nvRuns .calSave = true) ∧ (ok = false)) :=
  ⟨⟨W.calDue, 17, (W.calDue.setCalTarget 17 { W.calDue.calTarget 17 with aged := true }).raise 0 0x12 4, (W.calDue.setCalTarget 17 { W.calDue.calTarget 17 with aged := true }).raise 0 0x12 4, by decide⟩,
   ⟨(W.awake.setPage 0 0x12 2).setCalTarget 0 { W.awake.calTarget 0 with due := true }, by decide⟩,
   ⟨W.awake, by decide⟩,
   ⟨W.awake.set 0 F.CAL_SAVE_BUSY 1, by decide⟩,
   ⟨W.awake.set 0 F.CAL_SAVE_DIRTY 1, by decide⟩,
   ⟨W.calSaves, false, by decide⟩⟩

theorem wit_CalibrationRequests_5 :
    (∃ (s : State) (ok : Bool) (u v : State), (s.flag 0 F.CAL_SAVE_BUSY = true) ∧ (s.nvRuns .calSave = true) ∧ (ok =
      true) ∧ (u = (s.set 0 F.CAL_SAVE_BUSY 0).nvPop.nvBetween) ∧ (v = ((s.cal.filter (fun e => e.2.dirty)).map
      Prod.fst).foldl (fun (z : State) k => (fun (w : State) =>
      { w with nv := { w.nv with cal := Store.put w.nv.cal k {} (w.calSet k) } }) (z.setCalTarget k
      { z.calTarget k with dirty := false })) u)) ∧
    (∃ (s : State) (ok : Bool), (s.flag 0 F.CAL_SAVE_BUSY = true) ∧ (s.nvRuns .calSave = true) ∧ (ok = true)) :=
  ⟨⟨W.calSaves, true, (W.calSaves.set 0 F.CAL_SAVE_BUSY 0).nvPop.nvBetween, (W.calSaves.set 0 F.CAL_SAVE_BUSY 0).nvPop.nvBetween, by decide⟩,
   ⟨W.calSaves, true, by decide⟩⟩

theorem wit_SelfTests_1 :
    (∃ (s : State) (die mask : Nat) (l : List Nat), (s.awake = true) ∧ (s.flag 0 (F.PG_LOCK 0x13) = false) ∧ (l =
      (maskSlices mask (s.sound die)).filter (s.unitPresent 1 die)) ∧ (l ≠ [])) ∧
    (∃ (s : State) (die : Nat) (l : List Nat), (s.awake = true) ∧ (s.flag 0 (F.PG_LOCK 0x13) = false) ∧ (l =
      ([0]).filter (s.unitPresent 2 die)) ∧ (l ≠ [])) ∧
    (∃ (s : State) (mask : Nat) (l : List Nat), (s.awake = true) ∧ (s.flag 0 (F.PG_LOCK 0x13) = false) ∧ (l =
      ((List.range 8).filter mask.testBit).filter (s.unitPresent 3 0)) ∧ (l ≠ [])) ∧
    (∃ (s : State) (entry : Nat) (l : List Nat), (s.awake = true) ∧ (s.flag 0 (F.PG_LOCK 0x13) = false) ∧ (l =
      ([entry]).filter (s.unitPresent 4 0)) ∧ (l ≠ [])) ∧
    (∃ (s : State) (l : List Nat), (s.awake = true) ∧ (s.flag 0 (F.PG_LOCK 0x13) = false) ∧ (l = ([0]).filter
      (s.unitPresent 5 0)) ∧ (l ≠ [])) ∧
    (∃ (s : State) (die mask : Nat), (s.awake = true) ∧ (s.flag 0 (F.PG_LOCK 0x13) = false) ∧ ((maskSlices mask
      (s.sound die)).filter (s.unitPresent 1 die) = [])) :=
  ⟨⟨W.up, 7, 1023, List.range 10, by decide +kernel⟩,
   ⟨W.up, 7, [0], by decide +kernel⟩,
   ⟨W.seamUp, 128, [7], by decide +kernel⟩,
   ⟨W.hop 127, 127, [127], by decide +kernel⟩,
   ⟨W.awake, [0], by decide +kernel⟩,
   ⟨W.up, 0, 1023, by decide +kernel⟩⟩

theorem wit_SelfTests_2 :
    (∃ (s : State) (die : Nat), (s.awake = true) ∧ (s.flag 0 (F.PG_LOCK 0x13) = false) ∧ (([0]).filter (s.unitPresent
      2 die) = [])) ∧
    (∃ (s : State) (mask : Nat), (s.awake = true) ∧ (s.flag 0 (F.PG_LOCK 0x13) = false) ∧ (((List.range 8).filter
      mask.testBit).filter (s.unitPresent 3 0) = [])) ∧
    (∃ (s : State) (entry : Nat), (s.awake = true) ∧ (s.flag 0 (F.PG_LOCK 0x13) = false) ∧ (([entry]).filter
      (s.unitPresent 4 0) = [])) ∧
    (∃ (s : State), (s.awake = true) ∧ (s.flag 0 (F.PG_LOCK 0x13) = false)) ∧
    (∃ (s : State), (s.awake = true) ∧ (s.get 0 F.BST_CFG_PERIOD ≠ 0) ∧ (s.power.phase = .none)) ∧
    (∃ (s : State), (s.awake = false ∨ s.get 0 F.BST_CFG_PERIOD = 0 ∨ s.power.phase ≠ .none)) :=
  ⟨⟨W.up, 0, by decide +kernel⟩,
   ⟨W.seamUp, 256, by decide +kernel⟩,
   ⟨W.awake, 128, by decide +kernel⟩,
   ⟨W.awake, by decide⟩,
   ⟨W.awake.set 0 F.BST_CFG_PERIOD 1, by decide⟩,
   ⟨W.awake.setPhase .drain, by decide⟩⟩

theorem wit_SelfTests_3 :
    (∃ (s : State) (kind die unit : Nat), (s.testReady kind die unit = false)) ∧
    (∃ (s : State) (kind die unit : Nat) (classes : List Nat) (value : Int) (cw : Bool), (s.awake = false ∨
      (s.testUnit (testKey kind die unit)).running = false ∨ classes.length ≠ testSteps kind)) ∧
    (∃ (s : State) (kind die unit : Nat), (s.testReady kind die unit = true)) ∧
    (∃ (s : State) (kind die unit : Nat) (classes : List Nat) (value : Int) (cw : Bool), (s.awake = true) ∧
      ((s.testUnit (testKey kind die unit)).running = true) ∧ (classes.length = testSteps kind)) ∧
    (W.wantsTest.testReady 5 0 0 = true) :=
  ⟨⟨W.awake, 5, 0, 0, by decide⟩,
   ⟨W.awake, 5, 0, 0, [], 0, false, by decide⟩,
   ⟨W.wantsTest, 5, 0, 0, by decide⟩,
   ⟨W.tests, 5, 0, 0, [5, 5, 5, 5, 5, 5, 5, 5], 0, false, by decide⟩,
   (by decide)⟩

theorem wit_Darning_1 :
    (∃ (s : State) (die port slice : Nat), (s.awake = true) ∧ (s.flag 0 (F.PG_LOCK 0x15) = false) ∧ (s.fieldDie die =
      true) ∧ (port < 8) ∧ (slice = 15 ∨ slice < 10 ∧ s.eligible die slice = true) ∧ (s.swapping die port = false)) ∧
    (∃ (s : State) (die port slice : Nat), (s.awake = true) ∧ (s.flag 0 (F.PG_LOCK 0x15) = false) ∧ (s.fieldDie die =
      true) ∧ (port < 8) ∧ (slice = 15 ∨ slice < 10 ∧ s.eligible die slice = true) ∧ (s.swapping die port = true)) ∧
    (∃ (s : State) (die port slice : Nat), (s.awake = true) ∧ (s.flag 0 (F.PG_LOCK 0x15) = false) ∧ (s.fieldDie die =
      false ∨ 8 ≤ port ∨ slice ≠ 15 ∧ (10 ≤ slice ∨ s.eligible die slice = false))) ∧
    (∃ (s : State) (die slice : Nat) (u : State), (s.awake = true) ∧ (s.flag 0 (F.PG_LOCK 0x15) = false) ∧ (s.fieldDie
      die = true) ∧ (slice < 10) ∧ ((s.get die F.DDRN_SLICES_FACTORY).testBit slice = false) ∧ ((s.get die
      F.DDRN_SLICES_DARNED).testBit slice = true) ∧ (u = ((((s.setPage die (slcPage slice) 0).setFstate die slice
      0).setDarned die slice false).set die (F.PG_EN (slcPage slice)) 0).mapPending)) ∧
    (∃ (s : State) (die slice : Nat), (s.awake = true) ∧ (s.flag 0 (F.PG_LOCK 0x15) = false) ∧ (s.fieldDie die = true)
      ∧ (slice < 10) ∧ ((s.get die F.DDRN_SLICES_FACTORY).testBit slice = true)) ∧
    (∃ (s : State) (die slice : Nat), (s.awake = true) ∧ (s.flag 0 (F.PG_LOCK 0x15) = false) ∧ (s.fieldDie die = true)
      ∧ (slice < 10) ∧ ((s.get die F.DDRN_SLICES_FACTORY).testBit slice = false) ∧ ((s.get die
      F.DDRN_SLICES_DARNED).testBit slice = false)) :=
  ⟨⟨W.up, 7, 7, 15, by decide⟩,
   ⟨W.swaps, 7, 7, 15, by decide⟩,
   ⟨W.up, 7, 8, 15, by decide⟩,
   ⟨W.darned, 7, 9, ((((W.darned.setPage 7 (slcPage 9) 0).setFstate 7 9 0).setDarned 7 9 false).set 7 (F.PG_EN (slcPage 9)) 0).mapPending, by decide +kernel⟩,
   ⟨W.up.set 7 F.DDRN_SLICES_FACTORY 512, 7, 9, by decide⟩,
   ⟨W.up, 7, 9, by decide⟩⟩

theorem wit_Darning_2 :
    (∃ (s : State) (die slice : Nat), (s.awake = true) ∧ (s.flag 0 (F.PG_LOCK 0x15) = false) ∧ (s.fieldDie die = false
      ∨ 10 ≤ slice)) ∧
    (∃ (s : State) (die port : Nat) (w : Swap) (u : State) (x : Nat), (s.awake = true) ∧ (s.darn.swaps.find? (fun w =>
      w.die == die && w.port == port) = some w) ∧ (u = s.clearFaulted w) ∧ (u.outgoingIdle w = true) ∧ (u.pickSpare w
      = some x) ∧ (u.fstate w.die x = 0) ∧ (u.sliceGranted w.die x = false)) ∧
    (∃ (s : State) (die port : Nat) (w : Swap) (u : State) (x : Nat), (s.awake = true) ∧ (s.darn.swaps.find? (fun w =>
      w.die == die && w.port == port) = some w) ∧ (u = s.clearFaulted w) ∧ (u.outgoingIdle w = true) ∧ (u.pickSpare w
      = some x) ∧ (u.fstate w.die x ≠ 0 ∨ u.sliceGranted w.die x = true)) ∧
    (∃ (s : State) (die port : Nat) (w : Swap) (u : State), (s.awake = true) ∧ (s.darn.swaps.find? (fun w => w.die ==
      die && w.port == port) = some w) ∧ (u = s.clearFaulted w) ∧ (u.outgoingIdle w = true) ∧ (u.pickSpare w = none) ∧
      (u.spareTested w.die = true)) ∧
    (∃ (s : State) (die port : Nat) (w : Swap) (u : State) (x : Nat), (s.awake = true) ∧ (s.darn.swaps.find? (fun w =>
      w.die == die && w.port == port) = some w) ∧ (u = s.clearFaulted w) ∧ (u.outgoingIdle w = true) ∧ (u.pickSpare w
      = none) ∧ (u.spareTested w.die = false) ∧ ((List.range 10).find? (fun x => u.untested w.die x &&
      !w.passed.contains x) = some x)) ∧
    (∃ (s : State) (die port : Nat) (w : Swap) (u : State), (s.awake = true) ∧ (s.darn.swaps.find? (fun w => w.die ==
      die && w.port == port) = some w) ∧ (u = s.clearFaulted w) ∧ (u.outgoingIdle w = true) ∧ (u.pickSpare w = none) ∧
      (u.spareTested w.die = false) ∧ ((List.range 10).find? (fun x => u.untested w.die x && !w.passed.contains x) =
      none)) :=
  ⟨⟨W.up, 7, 10, by decide⟩,
   ⟨W.swapsTested, 7, 7, W.swap, W.swapsTested, 9, by decide +kernel⟩,
   ⟨W.swapsTested.setFstate 7 9 2, 7, 7, W.swap, W.swapsTested.setFstate 7 9 2, 9, by decide +kernel⟩,
   ⟨W.swaps.setTest (testKey 1 7 9) { requested := true }, 7, 7, W.swap, W.swaps.setTest (testKey 1 7 9) { requested := true }, by decide +kernel⟩,
   ⟨W.swaps, 7, 7, W.swap, W.swaps, 8, by decide +kernel⟩,
   ⟨W.swapsNone, 7, 7, { W.swap with passed := [8, 9] }, W.swapsNone, by decide +kernel⟩⟩

theorem wit_Darning_3 :
    (∃ (s : State) (die port : Nat) (w : Swap) (u : State), (s.awake = true) ∧ (s.darn.swaps.find? (fun w => w.die ==
      die && w.port == port) = some w) ∧ (u = s.clearFaulted w) ∧ (u.outgoingIdle w = false)) ∧
    (∃ (s : State) (die port : Nat), (s.awake = false ∨ s.darn.swaps.find? (fun w => w.die == die && w.port == port) =
      none)) ∧
    (∃ (s : State), (s.flag 0 F.DRN_STAT_NVPEND = false ∨ s.nvRuns .darnMap = false)) ∧
    (∃ (s : State) (die port : Nat), (s.awake = true) ∧ (s.flag die (F.PG_LOCK 0x11) = false) ∧ (s.inService die =
      false ∨ 8 ≤ port)) ∧
    (∃ (s : State) (a : List Nat) (b : List (Nat × Nat)), (s.flag 0 F.DRN_STAT_NVPEND = true) ∧ (s.nvRuns .darnMap =
      true) ∧ (s.darnMap = (a, b))) ∧
    (∃ (s : State) (die port : Nat) (u : State) (sl : Nat), (s.awake = true) ∧ (s.flag die (F.PG_LOCK 0x11) = false) ∧
      (s.inService die = true) ∧ (port < 8) ∧ (u = (s.set die (F.DDRN_P_NETFAULT port) 0).watchSyncDie die) ∧
      (u.servingSlice die port = some sl)) :=
  ⟨⟨W.swapsBusy, 7, 7, W.swap, W.swapsBusy, by decide +kernel⟩,
   ⟨W.up, 7, 7, by decide⟩,
   ⟨W.awake, by decide⟩,
   ⟨W.up, 7, 8, by decide⟩,
   ⟨W.awake.mapPending, W.awake.mapPending.darnMap.1, W.awake.mapPending.darnMap.2, by decide +kernel⟩,
   ⟨W.up, 7, 7, (W.up.set 7 (F.DDRN_P_NETFAULT 7) 0).watchSyncDie 7, 7, by decide +kernel⟩⟩

theorem wit_Darning_4 :
    (∃ (s : State) (die port : Nat) (u : State), (s.awake = true) ∧ (s.flag die (F.PG_LOCK 0x11) = false) ∧
      (s.inService die = true) ∧ (port < 8) ∧ (u = (s.set die (F.DDRN_P_NETFAULT port) 0).watchSyncDie die) ∧
      (u.servingSlice die port = none)) ∧
    (({ W.swap with spare := 9 } : Swap).spare ≠ 15 ∧ W.swapsTested.eligible 7 9 = true) ∧
    (W.swap.spare = 15) :=
  ⟨⟨W.up.set 7 (F.DDRN_P_VALID 7) 0, 7, 7, ((W.up.set 7 (F.DDRN_P_VALID 7) 0).set 7 (F.DDRN_P_NETFAULT 7) 0).watchSyncDie 7, by decide +kernel⟩,
   (by decide),
   (by decide)⟩

theorem wit_NvStore_1 :
    (∃ (s : State) (slot : Nat), (s.awake = true) ∧ (s.flag 0 (F.PG_LOCK 0x14) = false) ∧ (s.activeSlot ≠ some (slot %
      4))) ∧
    (∃ (s : State) (slot : Nat), (s.awake = true) ∧ (s.flag 0 (F.PG_LOCK 0x14) = false) ∧ (s.activeSlot = some (slot %
      4))) ∧
    (∃ (s : State) (value : Word) (sl o : Nat), (s.awake = true) ∧ (s.flag 0 (F.PG_LOCK 0x14) = false) ∧ (sl = s.get 0
      F.NVS_ADDR_SLOT) ∧ (o = s.get 0 F.NVS_ADDR_OFFSET / 4) ∧ (s.activeSlot ≠ some sl) ∧ (s.programs < 64) ∧
      (s.wordErased sl o = true)) ∧
    (∃ (s : State) (value : Word) (sl o : Nat), (s.awake = true) ∧ (s.flag 0 (F.PG_LOCK 0x14) = false) ∧ (sl = s.get 0
      F.NVS_ADDR_SLOT) ∧ (o = s.get 0 F.NVS_ADDR_OFFSET / 4) ∧ (s.activeSlot = some sl)) ∧
    (∃ (s : State) (value : Word) (sl o : Nat), (s.awake = true) ∧ (s.flag 0 (F.PG_LOCK 0x14) = false) ∧ (sl = s.get 0
      F.NVS_ADDR_SLOT) ∧ (o = s.get 0 F.NVS_ADDR_OFFSET / 4) ∧ (s.activeSlot ≠ some sl) ∧ (64 ≤ s.programs)) ∧
    (∃ (s : State) (value : Word) (sl o : Nat), (s.awake = true) ∧ (s.flag 0 (F.PG_LOCK 0x14) = false) ∧ (sl = s.get 0
      F.NVS_ADDR_SLOT) ∧ (o = s.get 0 F.NVS_ADDR_OFFSET / 4) ∧ (s.activeSlot ≠ some sl) ∧ (s.programs < 64) ∧
      (s.wordErased sl o = false)) :=
  ⟨⟨W.awake, 3, by decide⟩,
   ⟨W.awake, 4, by decide⟩,
   ⟨W.awake.set 0 F.NVS_ADDR_SLOT 3, 5, 3, 0, by decide⟩,
   ⟨W.awake, 5, 0, 0, by decide⟩,
   ⟨W.nvFull, 5, 3, 0, by decide +kernel⟩,
   ⟨W.nvWritten, 5, 3, 0, by decide⟩⟩

theorem wit_NvStore_2 :
    (∃ (s : State) (fetch : Bool), (s.awake = true) ∧ (fetch = true)) ∧
    (∃ (s : State) (fetch : Bool) (w : Word), (s.awake = true) ∧ (fetch = false) ∧ (w = s.nvRead (s.get 0
      F.NVS_ADDR_SLOT) (s.get 0 F.NVS_ADDR_OFFSET / 4))) ∧
    (∃ (s : State) (fetch : Bool), (s.awake = false)) ∧
    (∃ (s : State) (ok : Bool) (spares worn : Nat), (s.nv.ops = [])) ∧
    (∃ (s : State) (ok : Bool) (spares worn : Nat) (o : NvOp) (rest : List NvOp), (s.nv.ops = o :: rest) ∧ (o.apart =
      true)) ∧
    (∃ (s : State) (key : Nat), (s.awake = true) ∧ (s.flag 0 (F.PG_LOCK 0x14) = false) ∧ (key % 256 = 0xA5) ∧
      (s.nv.lockDone = false) ∧ (s.nv.torn = false) ∧ (s.nv.ops.any NvOp.isLock = false) ∧ (lockOk s.stagedLock =
      true)) :=
  ⟨⟨W.awake, true, by decide⟩,
   ⟨W.nvWritten, false, 9, by decide⟩,
   ⟨W.asleep, false, by decide⟩,
   ⟨W.awake, true, 7, 300, by decide⟩,
   ⟨W.snapSaves, true, 7, 300, .snapSave, [], by decide⟩,
   ⟨W.lockable, 0xA5, by decide +kernel⟩⟩

theorem wit_NvStore_3 :
    (∃ (s : State) (key : Nat), (s.awake = true) ∧ (s.flag 0 (F.PG_LOCK 0x14) = false) ∧ (key % 256 = 0xA5) ∧
      (s.nv.lockDone = false) ∧ (s.nv.torn = false) ∧ (s.nv.ops.any NvOp.isLock = false) ∧ (lockOk s.stagedLock =
      false)) ∧
    (∃ (s : State) (key : Nat), (s.awake = true) ∧ (s.flag 0 (F.PG_LOCK 0x14) = false) ∧ (key % 256 = 0xA5) ∧
      (s.nv.lockDone = true ∨ s.nv.torn = true ∨ s.nv.ops.any NvOp.isLock = true)) ∧
    (∃ (s : State) (key : Nat), (s.awake = true) ∧ (s.flag 0 (F.PG_LOCK 0x14) = false) ∧ (key % 256 ≠ 0xA5)) ∧
    (∃ (s : State) (key : Nat), (s.awake = true) ∧ (s.flag 0 (F.PG_LOCK 0x14) = false) ∧ (key % 256 = 0xA5) ∧
      (s.nv.debugLock = false) ∧ (s.nv.ops.any NvOp.isDebug = false)) ∧
    (∃ (s : State) (key : Nat), (s.awake = true) ∧ (s.flag 0 (F.PG_LOCK 0x14) = false) ∧ (key % 256 = 0xA5) ∧
      (s.nv.debugLock = true ∨ s.nv.ops.any NvOp.isDebug = true)) ∧
    (∃ (s : State) (key : Nat), (s.awake = true) ∧ (s.flag 0 (F.PG_LOCK 0x14) = false) ∧ (key % 256 ≠ 0xA5)) :=
  ⟨⟨W.awake, 0xA5, by decide +kernel⟩,
   ⟨W.locked, 0xA5, by decide⟩,
   ⟨W.awake, 0x5A, by decide⟩,
   ⟨W.awake, 0xA5, by decide⟩,
   ⟨W.locked, 0xA5, by decide⟩,
   ⟨W.awake, 0, by decide⟩⟩

theorem wit_NvStore_4 :
    (∃ (s : State) (ok : Bool) (spares worn : Nat) (o : NvOp) (rest : List NvOp) (u v : State), (s.nv.ops = o :: rest)
      ∧ (o.apart = false) ∧ (u = (({ s with nv := { s.nv with ops := rest } } : State).set 0 F.NVS_WEAR_SPARES
      spares).set 0 F.NVS_WEAR_WORN (min 255 worn)) ∧ (v = (if spares % 256 < 8 ∧ (8 ≤ s.get 0 F.NVS_WEAR_SPARES ∨
      s.get 0 F.NVS_WEAR_SPARES = 0) then u.raise 0 0x14 2 else u)) ∧ (ok = true)) ∧
    (∃ (s : State) (ok : Bool) (spares worn : Nat) (o : NvOp) (rest : List NvOp) (u v : State), (s.nv.ops = o :: rest)
      ∧ (o.apart = false) ∧ (u = (({ s with nv := { s.nv with ops := rest } } : State).set 0 F.NVS_WEAR_SPARES
      spares).set 0 F.NVS_WEAR_WORN (min 255 worn)) ∧ (v = (if spares % 256 < 8 ∧ (8 ≤ s.get 0 F.NVS_WEAR_SPARES ∨
      s.get 0 F.NVS_WEAR_SPARES = 0) then u.raise 0 0x14 2 else u)) ∧ (ok = false)) ∧
    (W.nvWritten.nvWord 3 0 = some 9) ∧
    (W.awake.nvBusy = false) :=
  ⟨⟨W.nvRuns, true, 7, 300, .eraseSlot 3, [], W.nvU, W.nvU.raise 0 0x14 2, by decide +kernel⟩,
   ⟨W.nvRuns, false, 7, 300, .eraseSlot 3, [], W.nvU, W.nvU.raise 0 0x14 2, by decide +kernel⟩,
   (by decide),
   (by decide)⟩

theorem wit_ProfileLoads_1 :
    (∃ (s : State) (slot : Nat) (u : State), (s.awake = true) ∧ (s.flag 0 (F.PG_LOCK 0x00) = false) ∧ (s.load = none)
      ∧ (s.power.phase = .none) ∧ (u = ((s.set 0 F.DEV_PROFILE_LOADING 1).set 0 F.DEV_PROFILE_LAYOUT_KEPT 0).set 0
      F.DEV_PROFILE_LOCK_SKIPPED 0)) ∧
    (∃ (s : State) (slot : Nat), (s.awake = true) ∧ (s.flag 0 (F.PG_LOCK 0x00) = false) ∧ (s.load ≠ none ∨
      s.power.phase ≠ .none)) ∧
    (∃ (s : State) (l m : Load) (u v x y : State), (s.load = some l) ∧ (l.phase = .check) ∧ (u =
      { s with coord := { s.coord with loading := true } }) ∧ (v = (u.coord.cands.foldl (fun (z : State) c =>
      z.withdraw c) u).endHolds none) ∧ (x = (List.range 32).foldl (fun (z : State) n => if (z.pleList n).run.isSome
      then z.stopList n else z) v) ∧ (x.radioToSynth { l with phase := .drain } = (y, m))) ∧
    (∃ (s : State), (s.load = none)) ∧
    (∃ (s : State) (l : Load), (s.load = some l) ∧ (l.phase ≠ .check)) ∧
    (∃ (s : State), (s.load = none)) :=
  ⟨⟨W.awake, 7, ((W.awake.set 0 F.DEV_PROFILE_LOADING 1).set 0 F.DEV_PROFILE_LAYOUT_KEPT 0).set 0 F.DEV_PROFILE_LOCK_SKIPPED 0, by decide⟩,
   ⟨W.awake.setPhase .drain, 0, by decide⟩,
   ⟨W.loads .check, W.load .check, W.load .drain, W.loadsU, W.loadsU, W.loadsU, W.loadsU, by decide, by decide, rfl, by decide +kernel, by decide +kernel, by decide +kernel⟩,
   ⟨W.awake, by decide⟩,
   ⟨W.loads .drain, W.load .drain, by decide⟩,
   ⟨W.awake, by decide⟩⟩

theorem wit_ProfileLoads_2 :
    (∃ (s : State) (l : Load), (s.load = some l) ∧ (l.phase ≠ .drain ∨ s.drained = true)) ∧
    (∃ (s : State), (s.load = none)) ∧
    (∃ (s : State) (l : Load), (s.load = some l) ∧ (l.phase ≠ .drain ∨ s.drained = false)) ∧
    (∃ (s : State) (late : Bool), (s.load = none)) ∧
    (∃ (s : State) (late : Bool) (l : Load), (s.load = some l) ∧ (l.phase ≠ .staged)) ∧
    (∃ (s : State) (l : Load), (s.load = some l) ∧ (l.phase = .drain) ∧ (s.drained = false)) :=
  ⟨⟨W.loads .drain, W.load .drain, by decide +kernel⟩,
   ⟨W.awake, by decide⟩,
   ⟨W.loads .check, W.load .check, by decide⟩,
   ⟨W.awake, true, by decide⟩,
   ⟨W.loads .check, true, W.load .check, by decide⟩,
   ⟨W.busyLoad, W.load .drain, by decide⟩⟩

theorem wit_ProfileLoads_3 :
    ∃ (s : State) (l m : Load) (u : State), (s.load = some l) ∧ (l.phase = .drain) ∧ (s.drained = true) ∧
      (s.radioToSynth l = (u, m)) :=
  ⟨W.loads .drain, W.load .drain, W.load .drain, W.loads .drain, by decide, by decide, by decide +kernel, rfl⟩

theorem wit_ProfileLoads_4 :
    ∃ (s : State) (late : Bool) (l : Load) (pages : List (Nat × Nat)) (id : Word) (u v : State), (s.load = some l) ∧
      (l.phase = .staged) ∧ (pages = (profilePages s.loadDies).filter (fun p => !s.flag p.1 (F.PG_LOCK p.2))) ∧ (id =
      (s.nvWord l.slot 2).getD 0) ∧ (u = (s.syncLate late).attnSync.commitStaged pages l.held) ∧ (v = ((((u.set 0
      F.DEV_PROFILE_LASTRES 1).set 0 F.DEV_PROFILE_ACTIVE l.slot).set 0 F.DEV_PROFILE_NONE 0).set 0
      F.DEV_PROFILE_FALLBACK 0).setReg 0 0x00 0x02C id) :=
  ⟨W.loads .staged, false, W.load .staged, (profilePages (W.loads .staged).loadDies).filter (fun p => !(W.loads .staged).flag p.1 (F.PG_LOCK p.2)), 0, (W.loads .staged).attnSync.commitStaged ((profilePages (W.loads .staged).loadDies).filter (fun p => !(W.loads .staged).flag p.1 (F.PG_LOCK p.2))) [], ((((((W.loads .staged).attnSync.commitStaged ((profilePages (W.loads .staged).loadDies).filter (fun p => !(W.loads .staged).flag p.1 (F.PG_LOCK p.2))) []).set 0 F.DEV_PROFILE_LASTRES 1).set 0 F.DEV_PROFILE_ACTIVE 1).set 0 F.DEV_PROFILE_NONE 0).set 0 F.DEV_PROFILE_FALLBACK 0).setReg 0 0x00 0x02C 0, by decide, by decide, rfl, by decide, rfl, rfl⟩

theorem wit_StepRunsFrontCommand :
    ({ W.awake with pending := [.busFree, .nrstLow] } : State).pending = .busFree :: [.nrstLow] :=
  by decide

theorem wit_EmptyQueueTick :
    (W.awake.pending = [] ∧ W.awake.device = .active ∧ W.awake.tb.align = false) ∧
    (State.reset.pending = [] ∧ State.reset.device = .reset) ∧
    (W.asleep.pending = [] ∧ W.asleep.device = .watch) ∧
    (({ W.awake with tb := { align := true } } : State).pending = [] ∧ ({ W.awake with tb := { align := true } } :
      State).device = .active) :=
  ⟨(by decide),
   (by decide),
   (by decide),
   (by decide)⟩

theorem wit_MemoryStaysCanonical :
    Memory.wf (W.awake.setMemWord 0xB8FFC 0x01020304).mem = true ∧ (W.awake.setMemWord 0xB8FFC 0x01020304).mem ≠ [] :=
  by decide

theorem wit_PartAndQueueStay :
    (exec .nrstLow W.awake = .next (W.awake.resetFrom 1)) ∧
    (∃ t : State, step { W.awake with pending := [.nrstLow, .busFree] } = .next t ∧ t.pending = [.busFree]) :=
  ⟨rfl,
   ⟨_, rfl, by decide⟩⟩

theorem wit_LockBlockLasts :
    ∃ t : State, step { W.locked with pending := [.nrstLow] } = .next t ∧ W.locked.nv.lockDone = true ∧
      W.locked.nv.debugLock = true ∧ t.nv.lockDone = true ∧ W.locked.nv.ops = [] :=
  ⟨_, rfl, by decide, by decide, by decide, by decide⟩

theorem wit_EpochOnlyByReset :
    ∃ t : State, exec .nrstLow W.awake = .next t ∧ t.epoch = false ∧ W.awake.epoch = true :=
  ⟨_, rfl, by decide, by decide⟩

theorem wit_DeviceStatesMove :
    (∃ t : State, exec (.resetEnd 0 0) State.reset = .next t ∧ t.device = .active ∧ t.ready = false) ∧
    (∃ t : State, exec .busFree W.awake = .next t ∧ t.ready = true ∧ W.awake.device = .active) :=
  ⟨⟨_, rfl, by decide, by decide⟩,
   ⟨_, rfl, by decide, by decide⟩⟩

theorem wit_MemoryFrame :
    mayStore .busFree = false ∧ ∃ t : State, exec .busFree (W.awake.setMemWord 0xB8FFC 7) = .next t :=
  ⟨by decide, _, rfl⟩

theorem wit_StoredBytes :
    (addrDie 0xB8FFC ≠ 15 ∧ ∃ t : State, exec (.windowWrite 0xB8FFC 7) W.awake = .next t) ∧
    (∃ t : State, exec (.registerWrite 0x16010 1) W.awake = .next t) ∧
    (∃ t : State, exec (.seamRegisterAccess 7 3 true 0x40000 7) W.up = .next t) ∧
    (∃ t : State, exec (.rxPayloadEnd [1, 2]) W.awake = .next t) ∧
    ((∀ e ∈ W.on.exchs, 16 ≤ e.1) ∧ ∃ t : State, exec (.fcoAbort 0) W.on = .next t) :=
  ⟨⟨by decide, _, rfl⟩,
   ⟨_, rfl⟩,
   ⟨_, rfl⟩,
   ⟨_, rfl⟩,
   ⟨by decide, _, rfl⟩⟩

theorem wit_RegisterFrame :
    ownPages .rxSfdTimeout = some [0x05, 0x0F] ∧ ∃ t : State, exec .rxSfdTimeout W.awake = .next t :=
  ⟨by decide, _, rfl⟩

theorem wit_CounterSaturates :
    (F.PG_ERR_COUNT 5).lo + (F.PG_ERR_COUNT 5).width ≤ 32 ∧ (F.PG_ERR_OVF 5).width = 1 ∧ (F.PG_ERR_OVF 5).lo < 32 ∧
      (F.PG_ERR_COUNT 5).lo + (F.PG_ERR_COUNT 5).width ≤ (F.PG_ERR_OVF 5).lo ∧ (F.PG_ERR_OVF 5).off = (F.PG_ERR_COUNT
      5).off :=
  by decide

theorem wit_LockedPageWrites :
    ((W.up.set 7 (F.PG_LOCK 0x12) 1).flag 7 (F.PG_LOCK 0x12) = true) ∧
    ((W.awake.set 0 (F.PG_LOCK 0x16) 1).awake = true ∧ (W.awake.set 0 (F.PG_LOCK 0x16) 1).flag 0 (F.PG_LOCK 0x16) =
      true) ∧
    (RegTable.implemented 7 0x12 = true ∧ (W.up.set 7 (F.PG_LOCK 0x12) 1).awake = true ∧ (W.up.set 7 (F.PG_LOCK 0x12)
      1).inService 7 = true ∧ 1 ≤ (W.up.set 7 (F.PG_LOCK 0x12) 1).pstate 7) ∧
    (W.awake.get 0 (F.PG_ERR_COUNT 0x16) = 0) ∧
    (RegTable.implemented 0 0x16 = true ∧ (W.awake.set 0 (F.PG_LOCK 0x16) 1).awake = true) :=
  ⟨(by decide),
   (by decide),
   (by decide),
   (by decide),
   (by decide)⟩

theorem wit_EventsAndTheSource :
    (W.awake.latched 0 0x16 = false) ∧
    (RegTable.implemented 7 0x12 = true ∧ W.up.awake = true ∧ W.up.inService 7 = true ∧ 1 ≤ W.up.pstate 7) ∧
    (1 ≤ 7 ∧ 7 ≤ 7 ∧ 18 ≤ 18) :=
  ⟨(by decide),
   (by decide),
   (by decide)⟩

theorem wit_FirstErrorRecord :
    RegTable.implemented 7 0x12 = true ∧ W.up.awake = true ∧ W.up.flag 7 (F.PG_LOCK 0x12) = false :=
  by decide

theorem wit_PollTriggersLatched :
    (W.trig.pageOn 0 0x0B = true ∧ W.trig.listOn 31 = true ∧ (W.trig.pleList 31).faulted = false ∧ (W.trig.pleList
      31).run.isSome = true ∧ (W.trig.pleList 31).pend = none) ∧
    (W.trigP.pageOn 0 0x0B = true ∧ W.trigP.listOn 31 = true ∧ (W.trigP.pleList 31).faulted = false ∧ (W.trigP.pleList
      31).run.isSome = true ∧ (W.trigP.pleList 31).pend.isSome = true) ∧
    (W.trig.pageOn 0 0x0B = true ∧ W.trig.listOn 30 = false) ∧
    (W.trigF.pageOn 0 0x0B = true ∧ W.trigF.listOn 31 = true ∧ (W.trigF.pleList 31).faulted = true) ∧
    (31 < 32 ∧ W.trigN.awake = true ∧ W.trigN.coord.loading = false ∧ (W.trigN.pleList 31).run = none ∧
      (W.trigN.pleList 31).pend = some (5, 9)) ∧
    ((W.trigE.pleList 31).run = some W.prun ∧ W.trigE.pleEngine = true ∧ opOf (W.trigE.progWord W.prun.pc) = 0 ∧
      W.trigE.pleSelected = some 31 ∧ W.prun.wait = .none) :=
  ⟨(by decide),
   (by decide),
   (by decide),
   (by decide),
   (by decide),
   (by decide)⟩

end
end

namespace Sys2Proof.Machine

/-- The registers of a page's header lie apart from every register of its block (chapter 02, the page header). -/
theorem hostAddr_header_ne {d p o d' p' o' : Nat} (ho : o < 0x020) (h1 : 0x020 ≤ o') (h2 : o' < 0x1000) :
    hostAddr d p o ≠ hostAddr d' p' o' := by
  unfold hostAddr; omega

theorem and_ne_zero_iff_common_bit (x y : Word) :
    x &&& y ≠ 0 ↔ ∃ i, i < 32 ∧ bit x i = true ∧ bit y i = true := by
  constructor
  · refine fun h => Classical.byContradiction fun hn => h (BitVec.eq_of_getLsbD_eq fun i hi => ?_)
    have hb : ¬ (x.getLsbD i && y.getLsbD i) = true := fun hb => hn ⟨i, hi, Bool.and_eq_true_iff.1 hb⟩
    rw [BitVec.getLsbD_and, Bool.eq_false_iff.2 hb]
    exact BitVec.getLsbD_zero.symm
  · rintro ⟨i, -, hx, hy⟩ h
    have hi : (x &&& y).getLsbD i = true := by rw [BitVec.getLsbD_and]; exact Bool.and_eq_true_iff.2 ⟨hx, hy⟩
    rw [h] at hi
    exact Bool.false_ne_true (BitVec.getLsbD_zero.symm.trans hi)

/-! What the operations around a header write leave of the registers. -/

theorem State.reg_writeRo_ne (s : State) {d p : Nat} (o : Nat) (v : Word) {d' p' o' : Nat}
    (h : hostAddr d' p' o' ≠ hostAddr d p 0x014) : (s.writeRo d p o v).reg d' p' o' = s.reg d' p' o' := by
  unfold State.writeRo
  split
  · rfl
  · exact State.reg_err_ne s 2 h

theorem State.reg_attnSync_header (s : State) {d p o : Nat} (ho : o < 0x020) : s.attnSync.reg d p o = s.reg d p o :=
  State.reg_set_ne _ F.HTW_STAT_ATTN_PEND _ (hostAddr_header_ne ho (by decide) (by decide))

theorem State.reg_icuAdd_header (s : State) (src n : Nat) {d p o : Nat} (ho : o < 0x020) :
    (s.icuAdd src n).1.reg d p o = s.reg d p o := by
  simp only [State.icuAdd]
  split
  · rfl
  · next hs =>
    have hc : hostAddr d p o ≠ hostAddr 0 (F.ICU_SRC_COUNT src).page (F.ICU_SRC_COUNT src).off :=
      hostAddr_header_ne ho (show 0x020 ≤ 0x400 + 4 * src by omega) (show 0x400 + 4 * src < 0x1000 by omega)
    have hovf : hostAddr d p o ≠ hostAddr 0 (F.ICU_SRC_OVF src).page (F.ICU_SRC_OVF src).off := hc
    split
    · rw [State.reg_set_ne _ _ _ hovf, State.reg_set_ne _ _ _ hc]
    · rw [State.reg_set_ne _ _ _ hc]

/-- The delivery of a field die's source touches registers of page ICU only (R631). -/
theorem State.reg_icuDeliver_ne (s : State) {src d p o : Nat} (hsrc : src < 420) (h : 0x6000 ≤ hostAddr d p o) :
    (s.icuDeliver src).reg d p o = s.reg d p o := by
  have hl : hostAddr d p o ≠ hostAddr 0 (F.ICU_SRC_LEVEL src).page (F.ICU_SRC_LEVEL src).off := by
    change hostAddr d p o ≠ hostAddr 0 0x05 (0x400 + 4 * src)
    unfold hostAddr at *
    omega
  simp only [State.icuDeliver]
  split
  · exact State.reg_set_ne _ _ _ hl
  · exact (State.reg_icuCount_ne _ _ _ (.inr h)).trans (State.reg_set_ne _ _ _ hl)

/-- R632: the level changes of a die reach the controller without a change of any register of a field die. -/
theorem State.reg_icuDeliverDie_ne (s : State) {e d p o : Nat} (he : 1 ≤ e ∧ e ≤ 7) (hd : 1 ≤ d) :
    (s.icuDeliverDie e).reg d p o = s.reg d p o := by
  have h : 0x6000 ≤ hostAddr d p o := by unfold hostAddr; omega
  unfold State.icuDeliverDie
  refine List.foldlRecOn (motive := fun t : State => t.reg d p o = s.reg d p o) _ _ rfl fun t ht j hj => ?_
  have hsrc : pageSource e j < 420 := by
    have := List.mem_range.1 hj
    unfold pageSource; rw [if_neg (by omega)]; omega
  dsimp only
  split
  · exact (State.reg_icuDeliver_ne t hsrc h).trans ht
  · exact ht

/-! An event once set stays set while other events are raised and counted. -/

/-- Bits put into one register by OR clear no bit of any register. -/
theorem State.bit_reg_setReg_or (s : State) (d p o : Nat) (m : Word) {d' p' o' i : Nat}
    (h : bit (s.reg d' p' o') i = true) : bit ((s.setReg d p o (s.reg d p o ||| m)).reg d' p' o') i = true := by
  by_cases ha : hostAddr d' p' o' = hostAddr d p o
  · have hreg (t : State) : t.reg d' p' o' = t.reg d p o := by unfold State.reg; rw [ha]
    rw [hreg] at h ⊢
    unfold bit at *
    rw [State.reg_setReg_same, BitVec.getLsbD_or, h, Bool.true_or]
  · rw [State.reg_setReg_ne _ _ ha, h]

/-- R650: a count at the controller raises CNT_OVF of page ICU at most, and clears no event. -/
theorem State.bit_reg_icuCount (s : State) (src n : Nat) {d p o i : Nat} (ho : o < 0x020)
    (h : bit (s.reg d p o) i = true) : bit ((s.icuCount src n).reg d p o) i = true := by
  have hadd : bit ((s.icuAdd src n).1.reg d p o) i = true := by rwa [State.reg_icuAdd_header _ _ _ ho]
  simp only [State.icuCount]
  split
  · split
    · rw [State.reg_icuAdd_header _ _ _ ho]; exact State.bit_reg_setReg_or _ _ _ _ _ hadd
    · exact State.bit_reg_setReg_or _ _ _ _ _ hadd
  · exact hadd

theorem State.bit_reg_sourceEvent (s : State) (src n : Nat) {d p o i : Nat} (ho : o < 0x020)
    (h : bit (s.reg d p o) i = true) : bit ((s.sourceEvent src n).reg d p o) i = true := by
  unfold State.sourceEvent
  split
  · exact State.bit_reg_icuCount s src n ho h
  · exact h

theorem State.bit_reg_setEvent (s : State) (d p : Nat) {e : Nat} (he : e < 32) :
    bit ((s.setEvent d p e).reg d p 0x00C) e = true := by
  unfold State.setEvent
  rw [State.reg_setReg_same, bit, BitVec.getLsbD_or, BitVec.getLsbD_ofNat, Nat.testBit_two_pow_self, decide_eq_true he]
  exact Bool.or_true _

theorem State.bit_reg_present1 (s : State) (d p : Nat) {e : Nat} (he : e < 32) :
    bit ((s.present1 d p e).reg d p 0x00C) e = true := by
  have h := State.bit_reg_icuCount _ (pageSource d p) 1 (by decide) (State.bit_reg_setEvent s d p he)
  simp only [State.present1]
  split
  · next hsrc =>
    have hlevel : hostAddr d p 0x00C ≠ hostAddr 0 (F.ICU_SRC_LEVEL (pageSource d p)).page
        (F.ICU_SRC_LEVEL (pageSource d p)).off :=
      hostAddr_header_ne (by decide) (show 0x020 ≤ 0x400 + 4 * pageSource d p by omega)
        (show 0x400 + 4 * pageSource d p < 0x1000 by omega)
    rwa [State.reg_set_ne _ _ _ hlevel]
  · exact h

/-- R94: an event of a page whose clock runs stands in PG_EVT, on each of the ways it takes to the controller. -/
theorem State.bit_reg_raise (s : State) {d p e : Nat} (hl : s.latched d p = false) (he : e < 32) :
    bit ((s.raise d p e).reg d p 0x00C) e = true := by
  have hset := State.bit_reg_setEvent s d p he
  simp only [State.raise, hl, Bool.false_eq_true, if_false]
  split
  · exact State.bit_reg_present1 s d p he
  · split
    · exact State.bit_reg_sourceEvent _ _ _ (by decide) hset
    · exact hset

/-- R628: the source of a page has the level of the page's enabled events. -/
theorem State.originLevel_pageSource (s : State) {d p : Nat} (h : (d = 0 ∧ p ≤ 22) ∨ (1 ≤ d ∧ d ≤ 7 ∧ p ≤ 18)) :
    s.originLevel (pageSource d p) = decide (s.reg d p 0x00C &&& s.reg d p 0x010 ≠ 0) := by
  rcases h with ⟨rfl, hp⟩ | ⟨h1, h7, hp⟩
  · have hsrc : pageSource 0 p = p := rfl
    unfold State.originLevel
    dsimp only
    rw [hsrc, if_pos (by omega), if_pos hp]
  · have hsrc : pageSource d p = 140 + 40 * (d - 1) + p := if_neg (by omega)
    have hd : (140 + 40 * (d - 1) + p - 140) / 40 + 1 = d := by omega
    have hm : (140 + 40 * (d - 1) + p - 140) % 40 = p := by omega
    have hr : reservedSource (140 + 40 * (d - 1) + p) = false := by
      unfold reservedSource; rw [if_neg (by omega), hm, decide_eq_false (by omega)]
    unfold State.originLevel
    dsimp only
    rw [hsrc, if_neg (by omega), hd, hm, hr, Bool.not_false, Bool.true_and]

/-- R94: a write of PG_EVT clears the events written 1 that are not raised in its cycle, whatever LOCK says. -/
theorem execPgEvtClear_reg (s : State) {d p : Nat} (v raised : Word) (h1 : s.awake = true)
    (h2 : RegTable.implemented d p = true) (h3 : d = 0 ∨ s.inService d = true ∧ 1 ≤ s.pstate d) (h7 : d ≤ 7) :
    ∃ t : State, execPgEvtClear d p v raised s = .next t ∧
      t.reg d p 0x00C = s.reg d p 0x00C &&& ~~~ (v &&& ~~~ raised) := by
  refine ⟨_, congrArg Host.Outcome.next (State.pageAccess_open _ h1 h2 h3), ?_⟩
  have hro : (s.attnSync.writeRo d p 0x00C v).reg d p 0x00C = s.reg d p 0x00C := by
    rw [State.reg_writeRo_ne _ _ _ (by unfold hostAddr; omega), State.reg_attnSync_header _ (by decide)]
  rw [State.reg_attnSync_header _ (by decide)]
  split
  · rw [State.reg_setReg_same, hro]
  · rw [State.reg_icuDeliverDie_ne _ (by omega) (by omega), State.reg_setReg_same, hro]

/-- R97: the count of errors after one more. -/
theorem State.get_err_count (s : State) (d p c : Nat) :
    (s.err d p c).get d (F.PG_ERR_COUNT p) = min 32767 (s.get d (F.PG_ERR_COUNT p) + 1) := by
  unfold State.err
  extract_lets t
  have ht : t.get d (F.PG_ERR_COUNT p) = s.get d (F.PG_ERR_COUNT p) := by
    unfold t
    split
    · exact State.get_set_beside s d (F.PG_ERR_CODE p) (F.PG_ERR_COUNT p) c rfl rfl (show 0 + 16 ≤ 32 by decide)
        (.inr (show 0 + 16 ≤ 16 by decide))
    · rfl
  have hw : (F.PG_ERR_COUNT p).width = 15 := rfl
  have hfit : (F.PG_ERR_COUNT p).lo + (F.PG_ERR_COUNT p).width ≤ 32 := show 16 + 15 ≤ 32 by decide
  simp only [State.countUp, ht, hw]
  split
  · next hmax =>
    rw [State.get_set_beside _ d (F.PG_ERR_OVF p) (F.PG_ERR_COUNT p) 1 rfl rfl (show 31 + 1 ≤ 32 by decide)
      (.inl (show 16 + 15 ≤ 31 by decide)), State.get_set_same _ _ _ _ hfit, hw]
    omega
  · rw [State.get_set_same _ _ _ _ hfit, hw]
    omega

/-- R97: the first error since the last clear gives CODE; a later one leaves it. -/
theorem State.get_err_code (s : State) (d p c : Nat) :
    (s.err d p c).get d (F.PG_ERR_CODE p) =
      if s.get d (F.PG_ERR_COUNT p) = 0 then c % 65536 else s.get d (F.PG_ERR_CODE p) := by
  have hcount (t : State) (v : Nat) :
      (t.set d (F.PG_ERR_COUNT p) v).get d (F.PG_ERR_CODE p) = t.get d (F.PG_ERR_CODE p) :=
    State.get_set_beside t d (F.PG_ERR_COUNT p) (F.PG_ERR_CODE p) v rfl rfl
      (show 16 + 15 ≤ 32 by decide) (.inl (show 0 + 16 ≤ 16 by decide))
  have hovf (t : State) (v : Nat) :
      (t.set d (F.PG_ERR_OVF p) v).get d (F.PG_ERR_CODE p) = t.get d (F.PG_ERR_CODE p) :=
    State.get_set_beside t d (F.PG_ERR_OVF p) (F.PG_ERR_CODE p) v rfl rfl
      (show 31 + 1 ≤ 32 by decide) (.inl (show 0 + 16 ≤ 31 by decide))
  have hup (t : State) : (t.countUp d (F.PG_ERR_COUNT p) (F.PG_ERR_OVF p) 1).get d (F.PG_ERR_CODE p) =
      t.get d (F.PG_ERR_CODE p) := by
    simp only [State.countUp]
    split
    · rw [hovf, hcount]
    · rw [hcount]
  simp only [State.err, hup]
  split
  · exact State.get_set_same s d (F.PG_ERR_CODE p) c (show 0 + 16 ≤ 32 by decide)
  · rfl

theorem State.run_of_next {s t : State} {f : State → Out} (h : f s = .next t) : s.run f = t := by
  unfold State.run; rw [h]

/-- R90: a locked page refuses a write of every register but PG_EVT and PG_EVT_EN. -/
theorem State.regWrite_locked {s : State} {d p o : Nat} (v : Word) (h : s.flag d (F.PG_LOCK p) = true)
    (hevt : o ≠ 0x00C) (hen : o ≠ 0x010) : s.regWrite d p o v = (s.err d p 1, 0) := by
  unfold State.regWrite; rw [if_neg hevt, if_neg hen, if_pos h]

/-- R94: PG_EVT_EN takes the bits of the page's events, whatever LOCK says. -/
theorem State.reg_regWrite_evtEn (s : State) (d p : Nat) (v : Word) :
    (s.regWrite d p 0x010 v).1.reg d p 0x010 = v &&& writableMask d p 0x010 := by
  unfold State.regWrite
  rw [if_neg (by decide), if_pos rfl]
  dsimp only
  rw [State.reg_attnSync_header _ (by decide), State.reg_setReg_same]

theorem State.reg_regWrite_evt (s : State) {d p : Nat} (v : Word) (h1 : s.awake = true)
    (h2 : RegTable.implemented d p = true) (h3 : d = 0 ∨ s.inService d = true ∧ 1 ≤ s.pstate d) (h7 : d ≤ 7) :
    (s.regWrite d p 0x00C v).1.reg d p 0x00C = s.reg d p 0x00C &&& ~~~ v := by
  obtain ⟨t, ht, hreg⟩ := execPgEvtClear_reg s v 0 h1 h2 h3 h7
  unfold State.regWrite
  have hmask : v &&& ~~~(0 : Word) = v := BitVec.and_allOnes
  rw [if_pos rfl, State.run_of_next ht, hreg, hmask]

/-- R90: a host write to a locked page that can be accessed is the record of WRITE_LOCKED, whatever it would do. -/
theorem State.pageAccess_hostWrite_locked {s : State} {d p : Nat} (f : State → State) (h1 : s.awake = true)
    (h2 : RegTable.implemented d p = true) (h3 : d = 0 ∨ s.inService d = true ∧ 1 ≤ s.pstate d)
    (hlock : s.flag d (F.PG_LOCK p) = true) : s.pageAccess d p (fun s => s.hostWrite d p f) = s.err d p 1 := by
  rw [State.pageAccess_open _ h1 h2 h3, State.hostWrite_locked f h1 hlock]

/-- R90: each of the five writes of PG_CTRL is refused while the page is locked. -/
theorem exec_pgCtrl_locked {s : State} {d p : Nat} {c : Instr} (h1 : s.awake = true)
    (h2 : RegTable.implemented d p = true) (h3 : d = 0 ∨ s.inService d = true ∧ 1 ≤ s.pstate d)
    (hlock : s.flag d (F.PG_LOCK p) = true)
    (hc : (∃ v, c = .pgCtrlEn d p v) ∨ (∃ v, c = .pgCtrlDrain d p v) ∨ c = .pgCtrlCommit d p ∨ c = .pgCtrlTest d p ∨
      c = .pgCtrlLock d p) : exec c s = .next (s.err d p 1) := by
  have refused (f : State → State) :
      (.next (s.pageAccess d p fun s => s.hostWrite d p f) : Out) = .next (s.err d p 1) :=
    congrArg _ (State.pageAccess_hostWrite_locked f h1 h2 h3 hlock)
  rcases hc with ⟨v, rfl⟩ | ⟨v, rfl⟩ | rfl | rfl | rfl
  · exact refused fun s => s.writeEn d p v
  · exact refused fun s => s.writeDrain d p v
  · exact refused fun s => s.writeCommit d p
  · exact refused fun s => s.writeTest d p true
  · exact refused fun s => s.set d (F.PG_LOCK p) 1

/-- Settles O57: LOCK is tested before any write takes effect, and the writes of PG_EVT and PG_EVT_EN do not test it. -/
theorem lockedPageWrites : Obligations.LockedPageWrites := by
  unfold Obligations.LockedPageWrites
  refine ⟨?regWrites, ?hostWrites, ?ctrlWrites, ?record, ?evtWrites⟩
  case regWrites => exact fun s d p o v hlock hevt hen => State.regWrite_locked v hlock hevt hen
  case hostWrites => exact fun s d p f h1 hlock => State.hostWrite_locked f h1 hlock
  case ctrlWrites => exact fun s d p c h1 h2 h3 hlock hc => exec_pgCtrl_locked h1 h2 h3 hlock hc
  case record =>
    intro s d p
    refine ⟨State.reg_err_ne s 1 (by unfold hostAddr; omega), fun hfirst => ?_, State.get_err_count s d p 1⟩
    rw [State.get_err_code, if_pos hfirst]
  case evtWrites =>
    exact fun s d p v h1 h2 h3 h7 _ _ => ⟨State.reg_regWrite_evtEn s d p v, State.reg_regWrite_evt s v h1 h2 h3 h7⟩

/-- Settles O58, by the ways of an event to the controller, the order of a PG_EVT write, and the level of a page's
source. -/
theorem eventsAndTheSource : Obligations.EventsAndTheSource := by
  unfold Obligations.EventsAndTheSource
  refine ⟨fun s d p e hl he => State.bit_reg_raise s hl he,
    fun s d p v raised h1 h2 h3 h7 _ => execPgEvtClear_reg s v raised h1 h2 h3 h7, fun s d p hp => ?_⟩
  rw [State.originLevel_pageSource s hp, decide_eq_true_iff]
  exact and_ne_zero_iff_common_bit _ _

end Sys2Proof.Machine

namespace Sys2Proof.Machine

/-! The rules of one trigger of a poll list (R510), one per outcome. -/

theorem State.pleTrigger_of_not_listOn {s : State} {n : Nat} (instant : Nat) (arg : Word) (h : s.listOn n = false) :
    s.pleTrigger n instant arg = s := by
  simp [State.pleTrigger, h]

theorem State.pleTrigger_of_faulted {s : State} {n : Nat} (instant : Nat) (arg : Word)
    (hpage : s.pageOn 0 0x0B = true) (hon : s.listOn n = true) (hf : (s.pleList n).faulted = true) :
    s.pleTrigger n instant arg = s.pleMiss n := by
  simp [State.pleTrigger, hpage, hon, hf]

/-- R510: while a list runs, its first trigger is latched and each further one is missed. -/
theorem State.pleTrigger_of_running {s : State} {n : Nat} (instant : Nat) (arg : Word)
    (hpage : s.pageOn 0 0x0B = true) (hon : s.listOn n = true) (hf : (s.pleList n).faulted = false)
    (hrun : (s.pleList n).run.isSome = true) :
    s.pleTrigger n instant arg =
      if (s.pleList n).pend.isNone then s.setList n { s.pleList n with pend := some (instant, arg) }
      else s.pleMiss n := by
  simp [State.pleTrigger, hpage, hon, hf, Option.isNone_eq_false_iff.2 hrun]

/-! The start of a run (R509): the list takes the run, and PLE_ARG the argument. -/

theorem State.pleList_pleStart (s : State) (n instant : Nat) (arg : Word) :
    (s.pleStart n instant arg).pleList n = { s.pleList n with
      run := some
        { prio := s.get 0 (F.PLE_L_CFG_PRIO n), start := s.get 0 (F.PLE_L_CFG_START n),
          last := s.get 0 (F.PLE_L_CFG_LAST n), pc := s.get 0 (F.PLE_L_CFG_START n), flags := 0, steps := 0,
          time := instant, wait := .none } } :=
  State.pleList_setList s n _

theorem State.get_arg_pleStart (s : State) (n instant : Nat) (arg : Word) :
    (s.pleStart n instant arg).get 0 (F.PLE_ARG_ARG n) = arg.toNat :=
  (State.get_set_same _ 0 (F.PLE_ARG_ARG n) arg.toNat (show 0 + 32 ≤ 32 by decide)).trans (Nat.mod_eq_of_lt arg.isLt)

/-- R510: the pending trigger of an idle list is taken out and starts the run. -/
theorem State.pleNext_of_pending {s : State} {n instant : Nat} {arg : Word} (hawake : s.awake = true)
    (hload : s.coord.loading = false) (hrun : (s.pleList n).run = none)
    (hpend : (s.pleList n).pend = some (instant, arg)) :
    s.pleNext n = (s.setList n { s.pleList n with pend := none }).pleStart n instant arg := by
  simp [State.pleNext, hawake, hload, hrun, hpend]

/-- R518: a list whose turn has come executes the instruction at its PC, and is noted as the last one of its PRIO. -/
theorem State.pleStep_of_selected {s : State} {n op : Nat} {r : PleRun} (room : Bool)
    (f : State → PleRun → Word → Word → State) (hrun : (s.pleList n).run = some r) (heng : s.pleEngine = true)
    (hop : opOf (s.progWord r.pc) = op) (hsel : s.pleSelected = some n) (hwait : r.wait = .none) :
    s.pleStep n op room f =
      f { s with ple := { s.ple with last := Store.insert (Store.erase s.ple.last r.prio) r.prio n, wrote := [] } } r
        (s.progWord r.pc) (s.progWord (r.pc + 1)) := by
  simp [State.pleStep, hrun, heng, hop, hsel, hwait]

/-- Settles O60, by the outcomes of a trigger, the start of a run, and the step of a selected list. -/
theorem pollTriggersLatched : Obligations.PollTriggersLatched := by
  unfold Obligations.PollTriggersLatched
  refine ⟨?trigger, ?next, ?atEnd⟩
  case trigger =>
    rintro s n instant m arg hpage rfl
    refine ⟨fun hon hf hrun hpend => ?latched, fun hon hf hrun hpend => ?missed,
      State.pleTrigger_of_not_listOn instant arg, State.pleTrigger_of_faulted instant arg hpage⟩
    case latched =>
      rw [State.pleTrigger_of_running instant arg hpage hon hf hrun, hpend]
      rfl
    case missed =>
      rw [State.pleTrigger_of_running instant arg hpage hon hf hrun, Option.isNone_eq_false_iff.2 hpend]
      rfl
  case next =>
    intro s n instant arg _ hawake hload hrun hpend
    rw [State.pleNext_of_pending hawake hload hrun hpend]
    refine ⟨?_, ?_, State.get_arg_pleStart _ n instant arg⟩
    · rw [State.pleList_pleStart, State.pleList_setList]
    · rw [State.pleList_pleStart]; rfl
  case atEnd =>
    rintro s _ _ n r hrun heng hop hsel hwait rfl rfl
    exact congrArg Host.Outcome.next (State.pleStep_of_selected false _ hrun heng hop hsel hwait)

end Sys2Proof.Machine

namespace Sys2Proof.Machine

/-! What every command keeps: one case per command, by the frame lemma of its meaning. -/

/-- No meaning faults or refuses: what a command answers is the next state that `State.run` gives. -/
theorem exec_eq_next_run (c : Instr) (s : State) : exec c s = .next (s.run (exec c)) := by
  cases c <;> rfl

theorem exec_next_iff (c : Instr) (s t : State) : exec c s = .next t ↔ s.run (exec c) = t := by
  rw [exec_eq_next_run c s, Host.Outcome.next.injEq]
  
/-- R85: a command that `mayStore` does not name leaves the window memory. -/
theorem exec_bytes_of_not_mayStore (c : Instr) (s : State) (h : mayStore c = false) :
    (s.run (exec c)).bytes = s.bytes := by
  cases c
  all_goals
    delta mayStore at h
    delta exec
    simp at h ⊢

/-- Every command keeps the canonical form of the window memory. -/
theorem exec_wf (c : Instr) (s : State) (h : Memory.wf s.bytes = true) : Memory.wf (s.run (exec c)).bytes = true := by
  cases c
  all_goals
    delta exec
    simp [h]

/-- The commands that change the device state, EPOCH or the one-time block. -/
def movesDevice : Instr → Bool
  | .powerOn .. | .vsupLoss .. | .vsupDip .. | .nrstLow .. | .coreRailReset .. | .softReset .. | .nvOpDone .. |
      .sleepCommit | .resetEnd .. | .startupReady .. | .wakeComplete .. => true
  | _ => false

theorem exec_kept_of_not_movesDevice (c : Instr) (s : State) (h : movesDevice c = false) :
    (s.run (exec c)).kept = s.kept := by
  cases c
  all_goals
    delta movesDevice at h
    delta exec
    simp at h ⊢

/-- A command that moves the device state and READY only keeps what lasts. -/
theorem lasting_of_device {s t : State} {d : Device} {r : Bool}
    (h : t.kept = s.kept ∨
      t.kept = (s.part, s.pending, s.epoch, s.nv.lockDone, s.nv.lockWords, s.nv.debugLock, d, r)) :
    t.lasting = s.lasting := by
  rcases h with h | h
  · exact lasting_of_kept h
  · rw [lasting_eq, h]; rfl

theorem epoch_of_device {s t : State} {d : Device} {r : Bool}
    (h : t.kept = s.kept ∨
      t.kept = (s.part, s.pending, s.epoch, s.nv.lockDone, s.nv.lockWords, s.nv.debugLock, d, r)) :
    t.epoch = s.epoch := by
  rcases h with h | h
  · exact epoch_of_kept h
  · simp only [State.kept, Prod.mk.injEq] at h
    exact h.2.2.1

/-- The part, the queue and the one-time block last over every command but the end of an NV operation. -/
theorem exec_lasting (c : Instr) (s : State) (h : ∀ ok spares worn, c ≠ .nvOpDone ok spares worn) :
    (s.run (exec c)).lasting = s.lasting := by
  cases c
  case powerOn iosel => exact execPowerOn_lasting iosel s
  case vsupLoss torn => exact execVsupLoss_lasting torn s
  case vsupDip => exact execVsupDip_lasting s
  case nrstLow => exact execNrstLow_lasting s
  case coreRailReset => exact execCoreRailReset_lasting s
  case softReset key0 key1 mode3 clocks => exact execSoftReset_lasting key0 key1 mode3 clocks s
  case sleepCommit => exact lasting_of_device (execSleepCommit_kept s)
  case resetEnd prof twa => exact lasting_of_device (execResetEnd_kept prof twa s)
  case startupReady seams bad => exact lasting_of_device (execStartupReady_kept seams bad s)
  case wakeComplete gp => exact lasting_of_device (execWakeComplete_kept gp s)
  case nvOpDone ok spares worn => exact absurd rfl (h ok spares worn)
  all_goals exact lasting_of_kept (exec_kept_of_not_movesDevice _ s rfl)

/-- EPOCH stays over the end of an NV operation, and over every other command that is no reset. -/
theorem exec_epoch_of_not_mayReset (c : Instr) (s : State) (h : mayReset c = false) :
    (s.run (exec c)).epoch = s.epoch := by
  cases c
  case powerOn | vsupLoss | vsupDip | nrstLow | coreRailReset | softReset => exact nomatch (show true = false from h)
  case sleepCommit => exact epoch_of_device (execSleepCommit_kept s)
  case resetEnd prof twa => exact epoch_of_device (execResetEnd_kept prof twa s)
  case startupReady seams bad => exact epoch_of_device (execStartupReady_kept seams bad s)
  case wakeComplete gp => exact epoch_of_device (execWakeComplete_kept gp s)
  case nvOpDone ok spares worn =>
    rcases execNvOpDone_lock ok spares worn s with hkept | ⟨n, o, -, -, -, -, hkept⟩
    · exact epoch_of_kept hkept
    · simp only [State.kept, Prod.mk.injEq] at hkept
      exact hkept.2.2.1
  all_goals exact epoch_of_kept (exec_kept_of_not_movesDevice _ s rfl)

theorem part_pending_of_lasting {s t : State} (h : t.lasting = s.lasting) :
    t.part = s.part ∧ t.pending = s.pending := by
  simp only [State.lasting, Prod.mk.injEq] at h
  exact ⟨h.1, h.2.1⟩

theorem exec_part_pending (c : Instr) (s : State) :
    (s.run (exec c)).part = s.part ∧ (s.run (exec c)).pending = s.pending := by
  by_cases h : ∃ ok spares worn, c = .nvOpDone ok spares worn
  · obtain ⟨ok, spares, worn, rfl⟩ := h
    rcases execNvOpDone_lock ok spares worn s with hkept | ⟨n, o, -, -, -, -, hkept⟩
    · exact part_pending_of_lasting (lasting_of_kept hkept)
    · simp only [State.kept, Prod.mk.injEq] at hkept
      exact ⟨hkept.1, hkept.2.1⟩
  · exact part_pending_of_lasting (exec_lasting c s fun ok spares worn hc => h ⟨ok, spares, worn, hc⟩)

/-- The one-time block of `n` closes no less than that of `m` (R492, R761): locks stay set, and the words and LOCKED
change only where a REG_LOCK operation is at the head of the queue of `m`. -/
def Nv.lockStays (m n : Nv) : Prop :=
  (m.lockDone = true → n.lockDone = true) ∧ (m.debugLock = true → n.debugLock = true) ∧
    ((∀ ws rest, m.ops ≠ .regLock ws :: rest) → n.lockWords = m.lockWords ∧ n.lockDone = m.lockDone)

theorem Nv.lockStays_of_eq {m n : Nv} (hdone : n.lockDone = m.lockDone) (hwords : n.lockWords = m.lockWords)
    (hdebug : n.debugLock = m.debugLock) : m.lockStays n := by
  unfold Nv.lockStays
  rw [hdone, hwords, hdebug]
  exact ⟨id, id, fun _ => ⟨rfl, rfl⟩⟩

theorem lockStays_of_lasting {s t : State} (h : t.lasting = s.lasting) : s.nv.lockStays t.nv := by
  simp only [State.lasting, Prod.mk.injEq] at h
  obtain ⟨-, -, hdone, hwords, hdebug⟩ := h
  exact Nv.lockStays_of_eq hdone hwords hdebug

theorem exec_lockStays (c : Instr) (s : State) : s.nv.lockStays (s.run (exec c)).nv := by
  by_cases h : ∃ ok spares worn, c = .nvOpDone ok spares worn
  · obtain ⟨ok, spares, worn, rfl⟩ := h
    rcases execNvOpDone_lock ok spares worn s with hkept | ⟨n, o, ⟨rest, hops⟩, hdone, hwords, hdebug, hkept⟩
    · exact lockStays_of_lasting (lasting_of_kept hkept)
    · simp only [State.kept, Prod.mk.injEq] at hkept
      obtain ⟨-, -, -, hdone', hwords', hdebug', -, -⟩ := hkept
      obtain ⟨hkeepDone, hkeepDebug, hkeepWords⟩ := Nv.apply_lock n o
      change s.nv.lockStays (s.run (execNvOpDone ok spares worn)).nv
      unfold Nv.lockStays
      rw [hdone', hwords', hdebug', ← hdone, ← hwords, ← hdebug]
      exact ⟨hkeepDone, hkeepDebug, fun hno => hkeepWords fun ws ho => hno ws rest (ho ▸ hops)⟩
  · exact lockStays_of_lasting (exec_lasting c s fun ok spares worn hc => h ⟨ok, spares, worn, hc⟩)

/-! A step runs the front command on the rest of the queue, or lets the clock tick. -/

theorem step_of_pending {s : State} {c : Instr} {rest : List Instr} (h : s.pending = c :: rest) :
    step s = exec c { s with pending := rest } := by
  unfold step; rw [h]

theorem step_of_empty {s : State} (h : s.pending = []) : step s = .next s.tick := by
  unfold step; rw [h]

/-- Settles O44: it is the second arm of `step`. -/
theorem stepRunsFrontCommand : Obligations.StepRunsFrontCommand := fun _ _ _ h => step_of_pending h
  
/-- A property of the steps follows from the tick and from every command on a state with a shorter queue. -/
theorem step_cases {P : State → Prop} {s t : State} (h : step s = .next t) (htick : s.pending = [] → P s.tick)
    (hexec : ∀ c rest, s.pending = c :: rest → P (State.run { s with pending := rest } (exec c))) : P t := by
  cases hp : s.pending with
  | nil =>
    rw [step_of_empty hp, Host.Outcome.next.injEq] at h
    exact h ▸ htick hp
  | cons c rest =>
    rw [step_of_pending hp, exec_next_iff] at h
    exact h ▸ hexec c rest hp

/-! The tick, one rule per clock that runs (R57, R60 to R62). -/

theorem State.tick_of_main {s : State} (hdev : s.device = .active) (halign : s.tb.align = false) :
    s.tick = s.advance 1 := by
  simp [State.tick, hdev, halign]

theorem State.tick_of_stopped {s : State} (hdev : s.device = .off ∨ s.device = .reset) : s.tick = s := by
  rcases hdev with hdev | hdev <;> simp [State.tick, hdev]

theorem State.tick_of_crystal {s : State}
    (hdev : s.device = .deepSleep ∨ s.device = .watch ∨ s.device = .active ∧ s.tb.align = true) :
    s.tick = s.period := by
  rcases hdev with hdev | hdev | ⟨hdev, halign⟩
  · simp [State.tick, hdev]
  · simp [State.tick, hdev]
  · simp [State.tick, hdev, halign]

/-- Settles O45, by the rules of the tick. -/
theorem emptyQueueTick : Obligations.EmptyQueueTick := by
  intro s hs
  rw [step_of_empty hs]
  refine ⟨fun h => ?main, fun h => ?stopped, fun h => ?crystal⟩
  case main => rw [State.tick_of_main h.1 h.2]; rfl
  case stopped => rw [State.tick_of_stopped h]
  case crystal => rw [State.tick_of_crystal h]; rfl

/-- Settles O46, by what every command keeps. -/
theorem everyCommandAnswers : Obligations.EveryCommandAnswers := by
  refine fun c s => ⟨⟨s.run (exec c), exec_eq_next_run c s, ?_⟩, ?_⟩
  · obtain ⟨hpart, hpending⟩ := exec_part_pending c s
    exact ⟨hpart, hpending, exec_epoch_of_not_mayReset c s, exec_bytes_of_not_mayStore c s⟩
  · cases hs : s.pending with
    | nil => exact ⟨_, step_of_empty hs⟩
    | cons c rest => exact ⟨_, (step_of_pending hs).trans (exec_eq_next_run c _)⟩

/-- The register store of the reset state is empty: a register reads its reset value. -/
theorem State.reset_reg (d p o : Nat) : State.reset.reg d p o = resetAt (hostAddr d p o) := by
  unfold State.reg State.reset
  dsimp only
  rw [Store.get, Store.find?_nil, Option.getD_none]

/-- Settles O47, by evaluation of the reset state. -/
theorem resetState : Obligations.ResetState :=
  ⟨rfl, rfl, rfl, rfl, State.reset_reg, by decide, by decide, fun _ => rfl, by decide, by decide, by decide, by decide,
    by decide, by decide, by decide, by decide, by decide, rfl, rfl, rfl, rfl⟩

/-- Settles O48: every command keeps the canonical form, by the frame or the store of its meaning. -/
theorem memoryStaysCanonical : Obligations.MemoryStaysCanonical := by
  intro s t hwf hstep
  refine step_cases (P := fun t => Memory.wf t.bytes = true) hstep (fun _ => ?tick) fun c rest _ => exec_wf c _ hwf
  case tick => rw [State.tick_bytes]; exact hwf

/-- Settles O49, by what lasts over every command. -/
theorem partAndQueueStay : Obligations.PartAndQueueStay := by
  constructor
  · intro c s t h
    rw [exec_next_iff] at h
    exact h ▸ exec_part_pending c s
  · intro s t h
    refine step_cases (P := fun t => t.part = s.part ∧ t.pending = s.pending.tail) h (fun hs => ?tick)
      fun c rest hs => ?command
    case tick =>
      obtain ⟨hpart, hpending⟩ := part_pending_of_lasting (lasting_of_kept s.tick_kept)
      exact ⟨hpart, by rw [hpending, hs]; rfl⟩
    case command =>
      obtain ⟨hpart, hpending⟩ := exec_part_pending c { s with pending := rest }
      exact ⟨hpart, by rw [hpending, hs]; rfl⟩

/-- Settles O50: a tick leaves the one-time block, and of the commands only the end of an NV operation can close it. -/
theorem lockBlockLasts : Obligations.LockBlockLasts := by
  intro s t h
  refine step_cases (P := fun t => s.nv.lockStays t.nv) h (fun _ => ?tick)
    fun c rest _ => exec_lockStays c { s with pending := rest }
  case tick =>
    obtain ⟨hdone, hwords, hdebug⟩ := locks_of_kept s.tick_kept
    exact Nv.lockStays_of_eq hdone hwords hdebug

/-- Settles O53, by the frame of every command outside `mayStore`. -/
theorem memoryFrame : Obligations.MemoryFrame := by
  refine ⟨fun c s t hc h a => ?_, State.tick_bytes⟩
  rw [exec_next_iff] at h
  exact h ▸ congrArg (Memory.readByte · a) (exec_bytes_of_not_mayStore c s hc)

end Sys2Proof.Machine

namespace Sys2Proof.Machine

/-! The shapes of a meaning: a guard that holds, one that does not, and a host write to a page that is not locked. -/

theorem next_when {s t : State} {c : Bool} {f : State → State} (hc : c = true) (hf : f s = t) :
    (.next (s.when c f) : Out) = .next t :=
  congrArg _ ((State.when_true f hc).trans hf)

theorem next_unless {s : State} {c : Bool} {f : State → State} (hc : c = false) :
    (.next (s.when c f) : Out) = .next s :=
  congrArg _ (State.when_false f hc)

theorem next_hostWrite {s t : State} {d p : Nat} {f : State → State} (hawake : s.awake = true)
    (hlock : s.flag d (F.PG_LOCK p) = false) (hf : f s = t) : (.next (s.hostWrite d p f) : Out) = .next t :=
  congrArg _ ((State.hostWrite_open f hawake hlock).trans hf)

end Sys2Proof.Machine

namespace Sys2Proof.Machine

/-! Chapter 01: what a seam reads after a fault of one of its directions is marked. -/

/-- R94: an event of the seam page leaves the seam registers. -/
theorem State.get_raise_seam (s : State) (evt : Nat) {f : Fld} (hpage : f.page = 0x02) (hlo : 0x040 ≤ f.off)
    (hhi : f.off < 0x1000) : (s.raise 0 0x02 evt).get 0 f = s.get 0 f := by
  unfold State.get
  rw [State.reg_raise_ne]
  · exact (hostAddr_header_ne (by decide) (by omega) hhi).symm
  · left; unfold hostAddr; omega

/-- The register field of a direction's fault. -/
def seamFaultField (n : Nat) (cw : Bool) : Fld := if cw then F.SEM_SEAM_FAULT_CW n else F.SEM_SEAM_FAULT_CCW n

/-- The registers of a seam with a direction marked faulted, with the event. -/
def State.faultMarked (s : State) (n : Nat) (cw : Bool) : State :=
  ((s.set 0 (seamFaultField n cw) 1).set 0 (F.SEM_SEAM_STATE n) (if s.seamState n = 3 then 3 else 2)).raise 0 0x02 0

theorem State.get_faultMarked_state (s : State) {n : Nat} (cw : Bool) (hn : n < 8) :
    (s.faultMarked n cw).get 0 (F.SEM_SEAM_STATE n) = if s.seamState n = 3 then 3 else 2 := by
  unfold State.faultMarked
  rw [State.get_raise_seam _ _ rfl (show 0x040 ≤ 0x040 + 4 * n by omega) (show 0x040 + 4 * n < 0x1000 by omega),
    State.get_set_same _ _ _ _ (show 0 + 2 ≤ 32 by decide)]
  split <;> rfl

theorem State.flag_faultMarked (s : State) {n : Nat} (cw : Bool) (hn : n < 8) :
    (s.faultMarked n cw).flag 0 (seamFaultField n cw) = true := by
  have hpage : (seamFaultField n cw).page = 0x02 := by cases cw <;> rfl
  have hoff : (seamFaultField n cw).off = 0x040 + 4 * n := by cases cw <;> rfl
  have hlo : 2 ≤ (seamFaultField n cw).lo := by cases cw <;> simp [seamFaultField, F.SEM_SEAM_FAULT_CW,
    F.SEM_SEAM_FAULT_CCW]
  have hfit : (seamFaultField n cw).lo + (seamFaultField n cw).width ≤ 32 := by
    cases cw <;> simp [seamFaultField, F.SEM_SEAM_FAULT_CW, F.SEM_SEAM_FAULT_CCW]
  have hwidth : (seamFaultField n cw).width = 1 := by cases cw <;> rfl
  unfold State.flag State.faultMarked
  rw [State.get_raise_seam _ _ hpage (by omega) (by omega),
    State.get_set_beside _ 0 (F.SEM_SEAM_STATE n) (seamFaultField n cw) _ hpage hoff (show 0 + 2 ≤ 32 by decide)
      (.inr (show 0 + 2 ≤ _ by omega)),
    State.get_set_same _ _ _ _ hfit, hwidth]
  rfl

/-- Settles O1, by the guard of each command, and what a seam reads after a fault is marked. -/
theorem seamCommands : Obligations.SeamCommands := by
  refine ⟨?seamBadCrc, ?seamBadCrcElse, ?seamWatchdog, ?seamIdleWord, ?seamRetrainStart, ?seamRetrainEnd,
    ?seamRestored, ?seamRestoredElse, ?seamFault⟩
  case seamBadCrc =>
    rintro s seam cw again n hseam hseamState rfl hn
    exact next_when (by simp [hseam, hseamState]) (by simp [Nat.not_le.2 hn])
  case seamBadCrcElse =>
    rintro s seam cw again n hseam hseamState rfl hn
    exact next_when (by simp [hseam, hseamState]) (by simp [hn])
  case seamWatchdog =>
    intro s seam cw hseam hseamState
    exact next_when (by simp [hseam, hseamState]) rfl
  case seamIdleWord =>
    intro s seam cw hseam hseamFaultCw
    exact next_when (by rcases hseamFaultCw with h | ⟨h, hfault⟩ <;> simp [State.carries, *]) rfl
  case seamRetrainStart =>
    intro s seam hawake hseam hctrlRetrainEn hseamState
    exact next_when (by simp [hawake, hseam, hctrlRetrainEn, hseamState]) rfl
  case seamRetrainEnd =>
    rintro s seam pass n hseam hseamState rfl
    exact next_when (by simp [hseam, hseamState]) rfl
  case seamRestored =>
    intro s seam hseam hseamState hrestoring hroundBoundary
    exact next_when (by simp [hseam, hseamState, hrestoring, hroundBoundary]) rfl
  case seamRestoredElse =>
    intro s seam hseam hroundBoundary
    exact next_unless (by rcases hroundBoundary with hroundBoundary | hroundBoundary | hroundBoundary
      <;> simp [hseam, hroundBoundary])
  case seamFault =>
    intro s n cw hn
    refine ⟨fun h => if_pos h, fun hpresent hfault =>
      ⟨(s.faultMarked n cw).setSeam n { (s.faultMarked n cw).seam n with passes := 0, restoring := false },
        if_neg (by simp [hpresent, hfault]), State.get_faultMarked_state s cw hn, State.flag_faultMarked s cw hn, ?_,
          ?_, ?_, ?_⟩⟩
    · rw [State.seam_setSeam]
    · rw [State.seam_setSeam]
    · simp [State.faultMarked]
    · simp [State.faultMarked]

end Sys2Proof.Machine

namespace Sys2Proof.Machine

/-! The calibration targets over a candidate that appears: nothing on its way touches them. -/

theorem State.foldl_cal {α : Type} (f : State → α → State) (h : ∀ s x, (f s x).cal = s.cal) (l : List α) (s : State) :
    (l.foldl f s).cal = s.cal := by
  induction l generalizing s with
  | nil => rfl
  | cons x l ih => rw [List.foldl_cons, ih, h]

@[simp] theorem State.askRun_cal (s : State) (d : Nat) : (s.askRun d).cal = s.cal := by
  unfold State.askRun
  split
  · exact State.setDie_cal ..
  · rfl

@[simp] theorem State.askRunPorts_cal (s : State) (l : List Nat) : (s.askRunPorts l).cal = s.cal :=
  State.foldl_cal _ (fun s n => State.askRun_cal s (portDie n)) _ s

@[simp] theorem State.askRunFor_cal (s : State) (c : Cand) (listen : Bool) : (s.askRunFor c listen).cal = s.cal := by
  unfold State.askRunFor
  extract_lets t u
  have hu : u.cal = s.cal := (State.foldl_cal _ (fun s (e : Nat × Nat) => State.askRun_cal s e.1) _ _).trans
    (State.askRun_cal ..)
  split
  · exact (State.askRunPorts_cal ..).trans hu
  · exact hu

@[simp] theorem State.supplyRequest_cal (s : State) (r : SupplyReq) : (s.supplyRequest r).cal = s.cal := by
  unfold State.supplyRequest
  exact Eq.refl _

@[simp] theorem State.supplyForRun_cal (s : State) : s.supplyForRun.cal = s.cal := by
  unfold State.supplyForRun
  extract_lets run
  split
  · exact State.supplyRequest_cal s { cmd := 1, value := run }
  · exact Eq.refl _

@[simp] theorem State.refDone_cal (s : State) (o : Origin) : (s.refDone o).cal = s.cal := by
  cases o <;> rfl

@[simp] theorem State.withdraw_cal (s : State) (c : Cand) : (s.withdraw c).cal = s.cal := by
  have h : (((s.dropCand c.order).countUp 0 F.FCO_CNT_WITHDRAWN_COUNT F.FCO_CNT_WITHDRAWN_OVF 1).refDone c.origin).cal
      = s.cal := by simp
  unfold State.withdraw
  dsimp only
  split
  · exact h
  · rw [State.set_cal, State.setSlice_cal, h]
  · exact h

@[simp] theorem State.addCand_cal (s : State) (c : Cand) : (s.addCand c).cal = s.cal := by
  unfold State.addCand
  dsimp only
  split
  · rw [State.supplyForRun_cal, State.askRunFor_cal]
  · rw [State.withdraw_cal]

@[simp] theorem State.calBits_cal (s : State) (k : Nat) : (s.calBits k).cal = s.cal := by
  unfold State.calBits
  split
  · rfl
  · rw [State.setBit_cal, State.setBit_cal]

theorem State.calTarget_of_cal {s t : State} (h : t.cal = s.cal) (k : Nat) : t.calTarget k = s.calTarget k := by
  unfold State.calTarget
  rw [h]

/-- R709: a target that is offered stays DUE. -/
theorem State.due_offerCal (s : State) (k : Nat) : ((s.offerCal k).calTarget k).due = (s.calTarget k).due := by
  unfold State.offerCal
  dsimp only
  split
  · rw [State.calTarget_of_cal (State.addCand_cal ..), State.calTarget_setCalTarget]
  · rfl

/-- Settles O2, by the guard of each command, and what a field-off and a DUE mark leave of the slice and the target. -/
theorem dieCommands : Obligations.DieCommands := by
  refine ⟨?dieSeamSilence, ?dieSeamSilenceElse, ?dieAnchorSilence, ?dieAnchorSilenceElse, ?anchorKeepAlive,
    ?anchorKeepAliveElse, ?rejoin, ?rejoinElse, ?carrierUnlock, ?carrierUnlockElse, ?carrierRelock,
    ?carrierRelockElse, ?timeLoad, ?timeLoadElse, ?dieRejoined, ?dieRejoinedElse, ?cutFields, ?fieldOff,
    ?makeDue⟩
  case dieSeamSilence =>
    intro s die hdie hpstate
    exact next_when (by simp [hdie, hpstate]) rfl
  case dieSeamSilenceElse =>
    intro s die hdie
    exact next_unless (by rcases hdie with hdie | hdie <;> simp [hdie])
  case dieAnchorSilence =>
    intro s die hdie hpstate
    exact next_when (by simp [hdie, hpstate]) rfl
  case dieAnchorSilenceElse =>
    intro s die hdie
    exact next_unless (by rcases hdie with hdie | hdie <;> simp [hdie])
  case anchorKeepAlive =>
    intro s die hawake hserv hpstate
    exact next_when (by simp [hawake, hserv, hpstate]) rfl
  case anchorKeepAliveElse =>
    intro s die hawake
    exact next_unless (by rcases hawake with hawake | hawake | hawake <;> simp [hawake])
  case rejoin =>
    intro s die reachable hawake hlock hdie hserv hreachable
    exact next_hostWrite hawake hlock (State.when_true _ (by simp [hdie, hserv, hreachable]))
  case rejoinElse =>
    intro s die reachable hawake hlock hserv
    exact next_hostWrite hawake hlock (State.when_false _ (by rcases hserv with hserv | hserv | hserv
      <;> simp [hserv]))
  case carrierUnlock =>
    intro s die hserv hlocked hpstate
    exact next_when (by simp [hserv, hlocked, hpstate]) rfl
  case carrierUnlockElse =>
    intro s die hserv
    exact next_unless (by rcases hserv with hserv | hserv | hserv <;> simp [hserv])
  case carrierRelock =>
    rintro s die u v hserv hlocked hpstate rfl rfl
    exact next_when (by simp [hserv, hlocked, hpstate]) rfl
  case carrierRelockElse =>
    intro s die hserv
    exact next_unless (by rcases hserv with hserv | hserv | hserv <;> simp [hserv])
  case timeLoad =>
    intro s die offset late hawake hserv
    exact next_when (by simp [hawake, hserv]) rfl
  case timeLoadElse =>
    intro s die offset late hawake
    exact next_unless (by rcases hawake with hawake | hawake <;> simp [hawake])
  case dieRejoined =>
    rintro s die a b c x y r z v u ws held pages hawake hdie hserv hrejoining hccwUp rfl rfl rfl rfl rfl rfl rfl
      hstageImage rfl rfl rfl
    obtain ⟨rfl, rfl⟩ := Prod.ext_iff.1 hstageImage
    exact next_when (by simp [hawake, hdie, hserv, hrejoining, hccwUp]) rfl
  case dieRejoinedElse =>
    intro s die hawake
    exact next_unless (by
      rcases hawake with hawake | hawake | hawake | hawake | ⟨hawakeA, hawakeB⟩
      · simp [hawake]
      · simp [hawake]
      · simp [hawake]
      · simp [hawake]
      · simp [hawakeA, hawakeB])
  case cutFields =>
    intro s d
    exact ⟨rfl, by rw [State.rampDie, State.die_setDie], rfl, rfl, rfl⟩
  case fieldOff =>
    intro s d sl
    refine ⟨fun hst hkeep => ?_, fun hst => ?_⟩
    · unfold State.fieldOff
      dsimp only
      rw [hkeep, if_neg (by rcases hst with h | h <;> simp [h]), if_pos hst]
    · unfold State.fieldOff
      dsimp only
      rw [hst]; rfl
  case makeDue =>
    intro s k line
    unfold State.makeDue
    dsimp only
    rw [State.due_offerCal, State.calTarget_of_cal (State.calBits_cal ..)]
    split
    · next hdue => rw [State.calTarget_setCalTarget]; exact hdue
    · rw [State.calTarget_setCalTarget]

end Sys2Proof.Machine

namespace Sys2Proof.Machine

/-- R85: a page of a memory window exists. -/
theorem pageExists_of_windowOf {d p : Nat} (h : windowOf d p ≠ .none) : pageExists d p = true := by
  simp [pageExists, h]

/-- Settles O3, by the guard of each command, and the outcomes of an access and of an arriving word. -/
theorem seamAccessAndRecords : Obligations.SeamAccessAndRecords := by
  refine ⟨?seamRegisterAccess, ?seamRegisterAccessElse, ?recordWordArrival, ?recordWordArrivalElse,
    ?seamAccess, ?arrive⟩
  case seamRegisterAccess =>
    intro s die tag write offset data r hawake hserv hreplies
    exact next_when (by simp [hawake, hserv]) (by simp [hreplies])
  case seamRegisterAccessElse =>
    intro s die tag write offset data u reply hawake hserv hreplies hseamAccess
    exact next_when (by simp [hawake, hserv]) (by simp [hreplies, hseamAccess])
  case recordWordArrival =>
    intro s die xfer r rest hawake hserv hout hxfer
    exact next_when (by simp [hawake, hserv]) (by simp [hout, hxfer])
  case recordWordArrivalElse =>
    intro s die xfer r rest hawake hserv hout hxfer
    exact next_when (by simp [hawake, hserv]) (by simp [hout, hxfer])
  case seamAccess =>
    rintro s d offset p o w rfl rfl
    refine ⟨fun habsent => ?_, fun hexists hwindow => ?_, fun hwindow => ?_⟩
    · simp [State.seamAccess, habsent]
    · simp [State.seamAccess, hexists, hwindow]
    · simp [State.seamAccess, pageExists_of_windowOf hwindow, hwindow]
  case arrive =>
    intro s d r rest hout
    refine ⟨fun hmore hcredit => ?_, fun hstop => ?_⟩
    · simp only [State.arrive, hout]
      exact if_pos ⟨hmore, hcredit⟩
    · simp only [State.arrive, hout]
      exact if_neg (by omega)

end Sys2Proof.Machine

namespace Sys2Proof.Machine

/-- Settles O4, by the guard of each command. -/
theorem timebaseCommands : Obligations.TimebaseCommands := by
  refine ⟨?realigned, ?tbsMeasUpdate, ?tbsAlmHiWrite, ?alarmFire, ?alarmFireElse, ?period⟩
  case realigned =>
    intro s hawake halign
    exact next_when (by simp [hawake, halign]) rfl
  case tbsMeasUpdate =>
    intro s count hawake
    exact next_when (by simp [hawake]) rfl
  case tbsAlmHiWrite =>
    intro s alarm hi hawake hlock halarm
    exact next_hostWrite hawake hlock (State.when_true _ (by simp [halarm]))
  case alarmFire =>
    rintro s alarm u halarm halarmArmed hs htime rfl hu
    exact next_when (by simp [halarm, halarmArmed, hs, htime]) (by simp [hu])
  case alarmFireElse =>
    rintro s alarm u halarm halarmArmed hs htime rfl hu
    exact next_when (by simp [halarm, halarmArmed, hs, htime]) (by simp [hu])
  case period =>
    exact fun s => rfl

end Sys2Proof.Machine

namespace Sys2Proof.Machine

/-! Writes of PG_CTRL (chapter 02): the access first, then one rule per outcome of each write. -/

/-- R84: an access to a page of the anchor or of a die in service, which is woken first. -/
theorem State.pageAccess_touched {s : State} {d p : Nat} (f : State → State) (hawake : s.awake = true)
    (himpl : RegTable.implemented d p = true) (hserv : d = 0 ∨ s.inService d = true) :
    s.pageAccess d p f = f (s.touchDie d) :=
  if_pos (by rcases hserv with rfl | hserv <;> simp [*])

theorem next_pageAccess {s t : State} {d p : Nat} {f : State → State} (hawake : s.awake = true)
    (himpl : RegTable.implemented d p = true) (hserv : d = 0 ∨ s.inService d = true) (hf : f (s.touchDie d) = t) :
    (.next (s.pageAccess d p f) : Out) = .next t :=
  congrArg _ ((State.pageAccess_touched f hawake himpl hserv).trans hf)

theorem next_pageWrite {s t : State} {d p : Nat} {f : State → State} (hawake : s.awake = true)
    (himpl : RegTable.implemented d p = true) (hserv : d = 0 ∨ s.inService d = true)
    (hwoken : (s.touchDie d).awake = true) (hlock : (s.touchDie d).flag d (F.PG_LOCK p) = false)
    (hf : f (s.touchDie d) = t) : (.next (s.pageAccess d p fun s => s.hostWrite d p f) : Out) = .next t :=
  next_pageAccess hawake himpl hserv ((State.hostWrite_open f hwoken hlock).trans hf)

theorem State.writeEn_held {s : State} {d p : Nat} {v : Bool} (h : s.flag d (F.PG_EN p) = v) : s.writeEn d p v = s :=
  if_pos h

theorem State.writeEn_start {s : State} {d p : Nat} (hen : s.flag d (F.PG_EN p) = false) (hst : s.pageState d p = 0) :
    s.writeEn d p true = ((s.set d (F.PG_EN p) 1).setPage d p 1).pageMoved d p := by
  simp [State.writeEn, hen, hst, b2n]

theorem State.writeEn_restart {s : State} {d p : Nat} (hen : s.flag d (F.PG_EN p) = false)
    (hst : s.pageState d p = 3) : s.writeEn d p true = (s.set d (F.PG_EN p) 1).set d (F.PG_RESTART_PEND p) 1 := by
  simp [State.writeEn, hen, hst, b2n]

theorem State.writeEn_refused {s : State} {d p : Nat} (hen : s.flag d (F.PG_EN p) = false) (h0 : s.pageState d p ≠ 0)
    (h3 : s.pageState d p ≠ 3) : s.writeEn d p true = s.err d p 7 := by
  simp only [State.writeEn, hen, Bool.false_eq_true, if_false, if_true]

theorem State.writeEn_drain {s : State} {d p : Nat} (hen : s.flag d (F.PG_EN p) = true)
    (hst : s.pageState d p = 1 ∨ s.pageState d p = 2) :
    s.writeEn d p false = ((s.set d (F.PG_EN p) 0).setPage d p 3).pageMoved d p := by
  rcases hst with hst | hst <;> simp [State.writeEn, hen, hst, b2n]

theorem State.writeEn_withdraw {s : State} {d p : Nat} (hen : s.flag d (F.PG_EN p) = true)
    (hst : s.pageState d p = 3) : s.writeEn d p false = (s.set d (F.PG_EN p) 0).set d (F.PG_RESTART_PEND p) 0 := by
  simp [State.writeEn, hen, hst, b2n]

/-- R92, R230: EN 0 leaves FAULT. -/
theorem State.writeEn_clear {s : State} {d p : Nat} (hen : s.flag d (F.PG_EN p) = true) (hst : s.pageState d p = 5) :
    s.writeEn d p false =
      (if isSlicePage d p then (s.set d (F.PG_EN p) 0).faultCleared d (p - 1)
        else (s.set d (F.PG_EN p) 0).setPage d p 0).pageMoved d p := by
  simp [State.writeEn, hen, hst, b2n]

theorem State.writeEn_off_refused {s : State} {d p : Nat} (hen : s.flag d (F.PG_EN p) = true)
    (hst : s.pageState d p = 0 ∨ 4 = s.pageState d p ∨ 6 ≤ s.pageState d p) : s.writeEn d p false = s.err d p 7 := by
  simp only [State.writeEn, hen, Bool.true_eq_false, Bool.false_eq_true, if_false]
  split
  any_goals omega
  rfl

theorem State.writeDrain_held {s : State} {d p : Nat} {v : Bool} (h : s.flag d (F.PG_DRAIN p) = v) :
    s.writeDrain d p v = s :=
  if_pos h

theorem State.writeDrain_darned {s : State} {d p : Nat} {v : Bool} (h : s.flag d (F.PG_DRAIN p) = !v)
    (hst : s.pageState d p = 6) : s.writeDrain d p v = s.err d p 7 := by
  simp [State.writeDrain, h, hst]

theorem State.writeDrain_drains {s : State} {d p : Nat} (h : s.flag d (F.PG_DRAIN p) = false)
    (hst : s.pageState d p = 1 ∨ s.pageState d p = 2) :
    s.writeDrain d p true = ((s.set d (F.PG_DRAIN p) 1).setPage d p 3).pageMoved d p := by
  rcases hst with hst | hst <;> simp [State.writeDrain, h, hst, b2n]

theorem State.writeDrain_taken {s : State} {d p : Nat} {v : Bool} (h : s.flag d (F.PG_DRAIN p) = !v)
    (hst : s.pageState d p ≠ 6) (hstay : v = false ∨ s.pageState d p ≠ 1 ∧ s.pageState d p ≠ 2) :
    s.writeDrain d p v = s.set d (F.PG_DRAIN p) (b2n v) := by
  rcases hstay with rfl | ⟨h1, h2⟩
  · simp [State.writeDrain, h, hst]
  · simp [State.writeDrain, h, hst, h1, h2]

/-- The units of a page's test that are not yet requested, granted or running (R726). -/
def State.freshUnits (s : State) (kind d : Nat) : List Nat :=
  (if kind = 3 then (List.range 8).filter (s.unitPresent 3 0)
    else if kind = 4 then ((List.range 128).find? (s.unitPresent 4 0)).toList else [0]).filter fun x =>
      !(s.testUnit (testKey kind d x)).requested && !(s.testUnit (testKey kind d x)).granted &&
        !(s.testUnit (testKey kind d x)).running

theorem State.writeTest_none {s : State} {d p : Nat} (h : pageTestKind d p = none) : s.writeTest d p true = s := by
  simp [State.writeTest, h]

theorem State.writeTest_held {s : State} {d p kind : Nat} (hkind : pageTestKind d p = some kind)
    (h : s.flag d (F.PG_TEST p) = true) : s.writeTest d p true = s := by
  simp [State.writeTest, hkind, h]

theorem State.writeTest_refused {s : State} {d p kind : Nat} (hkind : pageTestKind d p = some kind)
    (h : s.flag d (F.PG_TEST p) = false) (h0 : s.pageState d p ≠ 0) (h2 : s.pageState d p ≠ 2) :
    s.writeTest d p true = s.err d p 7 := by
  simp [State.writeTest, hkind, h, h0, h2]

/-- PG_CTRL and the field state of a slice are registers apart. -/
theorem State.fstate_set_test (s : State) (d p sl : Nat) : (s.set d (F.PG_TEST p) 1).fstate d sl = s.fstate d sl :=
  State.get_set_ne s (F.PG_TEST p) (F.SLC_FSTAT_FSTATE sl) 1
    (hostAddr_header_ne (show 0x004 < 0x020 by decide) (by simp [F.SLC_FSTAT_FSTATE])
      (by simp [F.SLC_FSTAT_FSTATE])).symm

/-- R240: the test of a slice whose field is OFF is requested at once. -/
theorem State.writeTest_slice {s : State} {d p : Nat} (hkind : pageTestKind d p = some 1)
    (h : s.flag d (F.PG_TEST p) = false)
    (hst : s.pageState d p = 0 ∨ s.pageState d p = 2 ∧ s.fstate d (p - 1) = 0) :
    s.writeTest d p true = ((s.set d (F.PG_TEST p) 1).requestTest 1 d (p - 1)).coordinate := by
  rcases hst with hst | ⟨hst, hoff⟩
  · simp [State.writeTest, hkind, h, hst]
  · simp [State.writeTest, hkind, h, hst, State.fstate_set_test, hoff]

/-- R240: a slice with a field is tested once it is OFF. -/
theorem State.writeTest_sliceHeld {s : State} {d p : Nat} (hkind : pageTestKind d p = some 1)
    (h : s.flag d (F.PG_TEST p) = false) (hst : s.pageState d p = 2) (hfield : s.fstate d (p - 1) ≠ 0) :
    s.writeTest d p true = (s.set d (F.PG_TEST p) 1).setSlice d (p - 1)
      { s.slice d (p - 1) with testHeld := true } := by
  have hslice : (s.set d (F.PG_TEST p) 1).slice d (p - 1) = s.slice d (p - 1) := by
    unfold State.slice
    rw [State.set_slices]
  simp [State.writeTest, hkind, h, hst, State.fstate_set_test, hfield, hslice]

theorem State.writeTest_units {s : State} {d p kind : Nat} (hkind : pageTestKind d p = some kind)
    (h : s.flag d (F.PG_TEST p) = false) (hslice : kind ≠ 1) (hst : s.pageState d p = 0 ∨ s.pageState d p = 2)
    (hfresh : s.freshUnits kind d ≠ []) :
    s.writeTest d p true =
      ((s.freshUnits kind d).foldl (fun z x => z.requestTest kind d x)
        ((({ s with testFrom := Store.insert (Store.erase s.testFrom (256 * d + p)) (256 * d + p) (s.pageState d p) } :
          State).set d (F.PG_TEST p) 1).setPage d p 4)).coordinate := by
  have hopen : ¬ (s.pageState d p ≠ 0 ∧ s.pageState d p ≠ 2) := by omega
  simp only [State.writeTest, hkind, h, hopen, Bool.false_eq_true, Bool.not_true, if_false]
  rw [if_neg hslice]
  exact if_neg (mt List.isEmpty_iff.1 hfresh)

theorem State.writeTest_noUnit {s : State} {d p kind : Nat} (hkind : pageTestKind d p = some kind)
    (h : s.flag d (F.PG_TEST p) = false) (hslice : kind ≠ 1) (hst : s.pageState d p = 0 ∨ s.pageState d p = 2)
    (hfresh : s.freshUnits kind d = []) : s.writeTest d p true = s := by
  have hopen : ¬ (s.pageState d p ≠ 0 ∧ s.pageState d p ≠ 2) := by omega
  simp only [State.writeTest, hkind, h, hopen, Bool.false_eq_true, Bool.not_true, if_false]
  rw [if_neg hslice]
  exact if_pos (List.isEmpty_iff.2 hfresh)

/-- Settles O5, by the rules of the writes of PG_CTRL, each on the page as the access leaves it. -/
theorem pageControl : Obligations.PageControl := by
  refine ⟨?enHeld, ?enStarts, ?enRestarts, ?enRefused, ?enDrains, ?enTakenBack, ?enLeavesFault,
    ?enLeavesSliceFault, ?enOffRefused, ?drainHeld, ?drainDarned, ?drainDrains, ?drainTaken, ?commitDarned,
    ?commitPending, ?commitCounted, ?testNone, ?testHeld, ?testRefused, ?testSlice, ?testSliceWaits,
    ?testUnits, ?testNoUnit, ?lock, ?events, ?firstError, ?firstErrorSame⟩
  case enHeld =>
    rintro s die page value u hawake himpl hserv rfl hawake2 hlock hen
    exact next_pageWrite hawake himpl hserv hawake2 hlock (State.writeEn_held hen)
  case enStarts =>
    rintro s die page value u hawake himpl hserv rfl hawake2 hlock hen rfl hpageState
    exact next_pageWrite hawake himpl hserv hawake2 hlock (State.writeEn_start hen hpageState)
  case enRestarts =>
    rintro s die page value u hawake himpl hserv rfl hawake2 hlock hen rfl hpageState
    exact next_pageWrite hawake himpl hserv hawake2 hlock (State.writeEn_restart hen hpageState)
  case enRefused =>
    rintro s die page value u hawake himpl hserv rfl hawake2 hlock hen rfl hpageState hpageState2
    exact next_pageWrite hawake himpl hserv hawake2 hlock (State.writeEn_refused hen hpageState hpageState2)
  case enDrains =>
    rintro s die page value u hawake himpl hserv rfl hawake2 hlock hen rfl hpageState
    exact next_pageWrite hawake himpl hserv hawake2 hlock (State.writeEn_drain hen hpageState)
  case enTakenBack =>
    rintro s die page value u hawake himpl hserv rfl hawake2 hlock hen rfl hpageState
    exact next_pageWrite hawake himpl hserv hawake2 hlock (State.writeEn_withdraw hen hpageState)
  case enLeavesFault =>
    rintro s die page value u hawake himpl hserv rfl hawake2 hlock hen rfl hpageState hisSlicePage
    exact next_pageWrite hawake himpl hserv hawake2 hlock ((State.writeEn_clear hen hpageState).trans
      (by rw [hisSlicePage, if_neg (by decide)]))
  case enLeavesSliceFault =>
    rintro s die page value u hawake himpl hserv rfl hawake2 hlock hen rfl hpageState hisSlicePage
    exact next_pageWrite hawake himpl hserv hawake2 hlock ((State.writeEn_clear hen hpageState).trans
      (by rw [hisSlicePage, if_pos rfl]))
  case enOffRefused =>
    rintro s die page value u hawake himpl hserv rfl hawake2 hlock hen rfl hpageState
    exact next_pageWrite hawake himpl hserv hawake2 hlock (State.writeEn_off_refused hen hpageState)
  case drainHeld =>
    rintro s die page value u hawake himpl hserv rfl hawake2 hlock hdrain
    exact next_pageWrite hawake himpl hserv hawake2 hlock (State.writeDrain_held hdrain)
  case drainDarned =>
    rintro s die page value u hawake himpl hserv rfl hawake2 hlock hdrain hpageState
    exact next_pageWrite hawake himpl hserv hawake2 hlock (State.writeDrain_darned hdrain hpageState)
  case drainDrains =>
    rintro s die page value u hawake himpl hserv rfl hawake2 hlock hdrain rfl hpageState
    exact next_pageWrite hawake himpl hserv hawake2 hlock (State.writeDrain_drains hdrain hpageState)
  case drainTaken =>
    rintro s die page value u hawake himpl hserv rfl hawake2 hlock hdrain hpageState hpageState2
    exact next_pageWrite hawake himpl hserv hawake2 hlock (State.writeDrain_taken hdrain hpageState hpageState2)
  case commitDarned =>
    rintro s die page u hawake himpl hserv rfl hawake2 hlock hpageState
    exact next_pageWrite hawake himpl hserv hawake2 hlock (if_pos hpageState)
  case commitPending =>
    rintro s die page u hawake himpl hserv rfl hawake2 hlock hpageState hhasShadows
    exact next_pageWrite hawake himpl hserv hawake2 hlock ((if_neg hpageState).trans (if_pos hhasShadows))
  case commitCounted =>
    rintro s die page u hawake himpl hserv rfl hawake2 hlock hpageState hhasShadows
    exact next_pageWrite hawake himpl hserv hawake2 hlock ((if_neg hpageState).trans (if_neg (by simp [hhasShadows])))
  case testNone =>
    rintro s die page u hawake himpl hserv rfl hawake2 hlock hpageTestKind
    exact next_pageWrite hawake himpl hserv hawake2 hlock (State.writeTest_none hpageTestKind)
  case testHeld =>
    rintro s die page u kind hawake himpl hserv rfl hawake2 hlock hpageTestKind htest
    exact next_pageWrite hawake himpl hserv hawake2 hlock (State.writeTest_held hpageTestKind htest)
  case testRefused =>
    rintro s die page u kind hawake himpl hserv rfl hawake2 hlock hpageTestKind htest hpageState hpageState2
    exact next_pageWrite hawake himpl hserv hawake2 hlock (State.writeTest_refused hpageTestKind htest hpageState
      hpageState2)
  case testSlice =>
    rintro s die page u kind hawake himpl hserv rfl hawake2 hlock hpageTestKind htest rfl hfstate
    exact next_pageWrite hawake himpl hserv hawake2 hlock (State.writeTest_slice hpageTestKind htest hfstate)
  case testSliceWaits =>
    rintro s die page u kind hawake himpl hserv rfl hawake2 hlock hpageTestKind htest rfl hpageState hfstate
    exact next_pageWrite hawake himpl hserv hawake2 hlock (State.writeTest_sliceHeld hpageTestKind htest hpageState
      hfstate)
  case testUnits =>
    rintro s die page u kind fresh v hawake himpl hserv rfl hawake2 hlock hpageTestKind htest hkind hpageState rfl
      hfresh rfl
    exact next_pageWrite hawake himpl hserv hawake2 hlock (State.writeTest_units hpageTestKind htest hkind hpageState
      hfresh)
  case testNoUnit =>
    rintro s die page u kind fresh hawake himpl hserv rfl hawake2 hlock hpageTestKind htest hkind hpageState rfl hfresh
    exact next_pageWrite hawake himpl hserv hawake2 hlock (State.writeTest_noUnit hpageTestKind htest hkind
      hpageState hfresh)
  case lock =>
    rintro s die page u hawake himpl hserv rfl hawake2 hlock
    exact next_pageWrite hawake himpl hserv hawake2 hlock rfl
  case events =>
    rintro s die page value raised u v w hawake himpl hserv rfl rfl rfl
    exact next_pageAccess hawake himpl hserv rfl
  case firstError =>
    rintro s die page value same u hawake himpl hserv rfl hawake2 hlock rfl
    exact next_pageWrite hawake himpl hserv hawake2 hlock rfl
  case firstErrorSame =>
    rintro s die page value same u c hawake himpl hserv rfl hawake2 hlock rfl
    exact next_pageWrite hawake himpl hserv hawake2 hlock rfl

end Sys2Proof.Machine

namespace Sys2Proof.Machine

/-- Settles O6, by the guard of each event and the check of the shadow set. -/
theorem pageEvents : Obligations.PageEvents := by
  refine ⟨?pageReady, ?pageReadyElse, ?pageReadyOther, ?pageDrainEnd, ?pageDrainEndElse, ?pageDrainEndOther,
    ?pageDrainEndThird, ?commitTakeEffect, ?commitTakeEffectElse, ?commitTakeEffectOther⟩
  case pageReady =>
    rintro s die page fault himpl hisSlicePage hpageState rfl hdrain
    exact next_when (by simp [himpl, hisSlicePage, hpageState]) (by simp [State.pageStarted, hdrain])
  case pageReadyElse =>
    rintro s die page fault himpl hisSlicePage hpageState rfl hdrain
    exact next_when (by simp [himpl, hisSlicePage, hpageState]) (by simp [State.pageStarted, hdrain])
  case pageReadyOther =>
    rintro s die page fault himpl hisSlicePage hpageState rfl
    exact next_when (by simp [himpl, hisSlicePage, hpageState]) (by simp [State.pageFault, hpageState])
  case pageDrainEnd =>
    intro s die page himpl hpageState hpageQuiet hrestartPend
    exact next_when (by simp [himpl, hpageState, hpageQuiet]) (by simp [hrestartPend])
  case pageDrainEndElse =>
    intro s die page himpl hpageState hpageQuiet hrestartPend hen
    exact next_when (by simp [himpl, hpageState, hpageQuiet]) (by simp [hrestartPend, hen])
  case pageDrainEndOther =>
    intro s die page himpl hpageState hpageQuiet hrestartPend hen hdrain
    exact next_when (by simp [himpl, hpageState, hpageQuiet]) (by simp [hrestartPend, hen, hdrain])
  case pageDrainEndThird =>
    intro s die page himpl hpageState hpageQuiet hrestartPend hen hdrain
    exact next_when (by simp [himpl, hpageState, hpageQuiet]) (by simp [hrestartPend, hen, hdrain])
  case commitTakeEffect =>
    rintro s die page port u himpl hpresent hcommitPend hloadLets hatBoundary rfl hshadowWord hpageStill
    refine next_when (by simp [himpl, hpresent, hcommitPend, hloadLets, hatBoundary]) ((if_neg ?whole).trans ?taken)
    case whole => rcases hpageStill with h | h <;> simp [h]
    case taken => rw [State.commitNow, if_pos hshadowWord]
  case commitTakeEffectElse =>
    rintro s die page port u himpl hpresent hcommitPend hloadLets hatBoundary rfl hshadowWord hportPage hpageStill
      hport
    exact next_when (by simp [himpl, hpresent, hcommitPend, hloadLets, hatBoundary])
      (by simp [hshadowWord, hportPage, hpageStill, hport])
  case commitTakeEffectOther =>
    rintro s die page port u himpl hpresent hcommitPend hloadLets hatBoundary rfl hshadowWord
    refine next_when (by simp [himpl, hpresent, hcommitPend, hloadLets, hatBoundary]) ((if_neg ?whole).trans ?refused)
    case whole => simp [hshadowWord]
    case refused => rw [State.commitNow, if_neg (by simp [hshadowWord])]

end Sys2Proof.Machine

namespace Sys2Proof.Machine

/-! Frames of the host serial port (chapter 03): the frame up to its command byte, then the rules of its bodies. -/

theorem next_frame {s t : State} {m : Bool} {n : Nat} {always : Bool} {body : State → State} (hoff : s.device ≠ .off)
    (hreset : s.device ≠ .reset) (hclocks : 8 ≤ n) (hready : always = true ∨ (s.frameShift m n).ready = true)
    (hbody : body (s.frameShift m n) = t) : (.next (s.hspFrame m n always body) : Out) = .next t :=
  congrArg _ ((State.hspFrame_body body hoff hreset hclocks hready).trans hbody)

theorem next_frame_short {s : State} {m : Bool} {n : Nat} {always : Bool} {body : State → State}
    (hoff : s.device ≠ .off) (hreset : s.device ≠ .reset) (hpos : 0 < n) (hshort : n < 8) :
    (.next (s.hspFrame m n always body) : Out) = .next ((s.frameShift m n).frameEnd 0x0103) :=
  congrArg _ (State.hspFrame_short body hoff hreset hpos hshort)

theorem next_frame_early {s : State} {m : Bool} {n : Nat} {body : State → State} (hoff : s.device ≠ .off)
    (hreset : s.device ≠ .reset) (hclocks : 8 ≤ n) (hready : (s.frameShift m n).ready = false) :
    (.next (s.hspFrame m n false body) : Out) = .next ((s.frameShift m n).frameEnd 0x0101) :=
  congrArg _ (State.hspFrame_early body hoff hreset hclocks hready)

/-- A frame without a clock only begins, and HSEL is high again. -/
theorem next_frame_empty {s : State} {m : Bool} {always : Bool} {body : State → State} (hoff : s.device ≠ .off)
    (hreset : s.device ≠ .reset) : (.next (s.hspFrame m 0 always body) : Out) =
      .next { s.frameBegin with hsp := { s.frameBegin.hsp with selLow := false } } :=
  congrArg _ ((if_neg (by simp [hoff, hreset])).trans (if_pos rfl))

/-! The token phase (R127, R151): the clocks end in the header, before the word is ready, before the token,
  or behind it. -/

theorem State.tokenFrame_short {s : State} {d arg n : Nat} {raised h fast : Bool} {r : Option Nat}
    {data : State → Nat → State} (hdummy : s.dummyClocks fast = (d, raised)) (hn : n < 32 + d) :
    s.tokenFrame h arg fast n r data = s.frameEnd 0x0103 := by
  unfold State.tokenFrame
  rw [hdummy]
  exact if_pos hn

theorem State.tokenFrame_open {s : State} {d arg n : Nat} {raised h fast : Bool} {data : State → Nat → State}
    (hdummy : s.dummyClocks fast = (d, raised)) (hn : 32 + d ≤ n) :
    s.tokenFrame h arg fast n none data =
      { s.dummyUsed d raised with hsp := { (s.dummyUsed d raised).hsp with frame := some (h, arg) } } := by
  unfold State.tokenFrame
  rw [hdummy]
  exact if_neg (by omega)

theorem State.tokenFrame_cut {s : State} {d arg n k : Nat} {raised h fast : Bool} {data : State → Nat → State}
    (hdummy : s.dummyClocks fast = (d, raised)) (hn : 32 + d ≤ n) (hcut : n ≤ 32 + d + 8 * k) :
    s.tokenFrame h arg fast n (some k) data = (s.dummyUsed d raised).frameEnd 0 := by
  unfold State.tokenFrame
  rw [hdummy]
  exact (if_neg (by omega)).trans (if_pos hcut)

theorem State.tokenFrame_data {s : State} {d arg n k : Nat} {raised h fast : Bool} {data : State → Nat → State}
    (hdummy : s.dummyClocks fast = (d, raised)) (hn : 32 + d + 8 * k < n) :
    s.tokenFrame h arg fast n (some k) data =
      data (({ s.dummyUsed d raised with hsp := { (s.dummyUsed d raised).hsp with
        line := (s.dummyUsed d raised).hsp.line.take (32 + d + 8 * k) } } : State).shiftOut
          ((frameBits 8 0xA5).take (n - (32 + d + 8 * k)))) (n - (32 + d + 8 * k + 8)) := by
  unfold State.tokenFrame
  rw [hdummy]
  exact (if_neg (by omega)).trans (if_neg (by omega))

/-! A STATUS frame (R125). -/

@[simp] theorem length_frameBits (n v : Nat) : (frameBits n v).length = n := by simp [frameBits]

/-- The clocks of a STATUS frame that begin with a byte: repetitions of the status byte as the state stands. -/
theorem State.statusClocks_aligned {s : State} (n : Nat) (hlen : s.hsp.line.length % 8 = 0) :
    s.statusClocks n = { s with hsp := { s.hsp with
      line := s.hsp.line ++ ((List.replicate ((n + 7) / 8) (frameBits 8 (s.statusByte s.hsp.err))).flatten).take n
      out := s.hsp.out ++ List.replicate (n / 8) (word (s.statusByte s.hsp.err))
      status := if n = 0 then s.hsp.status else s.statusByte s.hsp.err } } := by
  simp [State.statusClocks, State.shiftOut, hlen]

theorem State.statusOut_more {s : State} (n : Nat) (hline : s.hsp.line ≠ []) :
    s.statusOut n true = { s.statusClocks n with hsp := { (s.statusClocks n).hsp with statusOn := true } } := by
  simp [State.statusOut, hline]

/-- No clock within the first byte changes nothing. -/
theorem State.statusClocks_zero {s : State} (hlen : s.hsp.line.length < 8) : s.statusClocks 0 = s := by
  simp [State.statusClocks, State.shiftOut, hlen, -bytes_fold]

/-- A STATUS frame that has clocked its first byte ends without a code. -/
theorem State.statusOut_end {s : State} (n : Nat) (hline : s.hsp.line ≠ [])
    (hlen : 8 ≤ (s.statusClocks n).hsp.line.length) : s.statusOut n false = (s.statusClocks n).frameEnd 0 := by
  have hempty : (s.statusClocks n).hsp.line ≠ [] := fun h => by simp [h] at hlen
  simp [State.statusOut, hline, hempty, Nat.not_lt.2 hlen]

/-- The data phase of a HAMPER_READ on the lines: the grant word, the words consumed, zeros, and a word that is cut off
(R141). -/
def State.hamperShown (u : State) (l : List Nat) (g : Word) (ws : List Word) (clocks : Nat) : State :=
  let n := (clocks - 32) / 32
  let out := if clocks = 0 then [] else g :: (ws ++ List.replicate (n - ws.length) 0)
  let cut := ((l[n]?).bind fun c => (u.cls c).nextWord).getD 0
  let v := u.shiftOut (((out ++ [cut]).map fun w => frameBits 32 w.toNat).flatten.take clocks)
  { v with hsp := { v.hsp with out := out } }

theorem State.hamperData_granted {s u : State} {mask clocks : Nat} {l : List Nat} {g : Word} {ws : List Word}
    (hmask : mask < 16) (hgrant : s.grant .hsp mask = (l, g))
    (hconsume : s.attnSync.consumeWords .hsp (l.take ((clocks - 32) / 32)) = (u, ws)) :
    s.hamperData mask clocks =
      ((if ws.isEmpty then u.hamperShown l g ws clocks
        else (u.hamperShown l g ws clocks).creditsBack).attnSync).frameEnd 0 := by
  unfold State.hamperData
  rw [if_pos hmask, hgrant]
  dsimp only
  rw [hconsume]
  exact congrArg _ (if_pos hmask)

/-- Settles O8, by the frame up to its command byte and the rules of the bodies. -/
theorem serialFrames : Obligations.SerialFrames := by
  refine ⟨?statusOn, ?status, ?statusEmpty, ?wake, ?readShort, ?readOpen, ?readCut, ?readData, ?hamperShort,
    ?hamperOpen, ?hamperCut, ?hamperData, ?write, ?writeCommit, ?writeCommitRejected, ?writeShort,
    ?writeCommitShort, ?loadShort, ?load, ?loadRefused, ?loadNoSlot, ?softReset, ?softResetBad,
    ?softResetShort, ?unknown, ?statusGoesOn, ?statusFirstByte, ?header, ?hamperWords⟩
  case statusOn =>
    intro s mode3 clocks more hoff hreset hstatusOn
    exact congrArg _ ((if_neg (by simp [hoff, hreset])).trans (if_pos hstatusOn))
  case status =>
    intro s mode3 clocks more hoff hreset hstatusOn hclocks
    refine congrArg _ ((if_neg (by simp [hoff, hreset])).trans ((if_neg (by simp [hstatusOn])).trans ?_))
    dsimp only
    rw [if_neg (by omega)]
  case statusEmpty =>
    rintro s mode3 clocks more hoff hreset hstatusOn rfl
    exact congrArg _ ((if_neg (by simp [hoff, hreset])).trans (if_neg (by simp [hstatusOn])))
  case wake =>
    rintro s mode3 clocks u hoff hreset hclocks rfl
    exact next_frame hoff hreset hclocks (.inl rfl) rfl
  case readShort =>
    rintro s addr mode3 fast clocks ready ahead u d raised hoff hreset hclocks rfl hready hdummyClocks hclocks2
    exact next_frame hoff hreset hclocks (.inr hready) (State.tokenFrame_short hdummyClocks hclocks2)
  case readOpen =>
    rintro s addr mode3 fast clocks ready ahead u v d raised hoff hreset hclocks rfl hready hdummyClocks hd rfl rfl
    exact next_frame hoff hreset hclocks (.inr hready) (State.tokenFrame_open hdummyClocks hd)
  case readCut =>
    rintro s addr mode3 fast clocks ready ahead u v d k raised hoff hreset hclocks rfl hready hdummyClocks hd rfl rfl
      hclocks2
    exact next_frame hoff hreset hclocks (.inr hready) (State.tokenFrame_cut hdummyClocks hd hclocks2)
  case readData =>
    rintro s addr mode3 fast clocks ready ahead u v x d k raised hoff hreset hclocks rfl hready hdummyClocks hd rfl
      rfl hd2 rfl
    exact next_frame hoff hreset hclocks (.inr hready) (State.tokenFrame_data hdummyClocks hd2)
  case hamperShort =>
    rintro s mask mode3 fast clocks ready u d raised hoff hreset hclocks rfl hready hdummyClocks hclocks2
    exact next_frame hoff hreset hclocks (.inr hready) (State.tokenFrame_short hdummyClocks hclocks2)
  case hamperOpen =>
    rintro s mask mode3 fast clocks ready u v d raised hoff hreset hclocks rfl hready hdummyClocks hd rfl rfl
    exact next_frame hoff hreset hclocks (.inr hready) (State.tokenFrame_open hdummyClocks hd)
  case hamperCut =>
    rintro s mask mode3 fast clocks ready u v d k raised hoff hreset hclocks rfl hready hdummyClocks hd rfl rfl
      hclocks2
    exact next_frame hoff hreset hclocks (.inr hready) (State.tokenFrame_cut hdummyClocks hd hclocks2)
  case hamperData =>
    rintro s mask mode3 fast clocks ready u v x d k raised hoff hreset hclocks rfl hready hdummyClocks hd rfl rfl hd2
      rfl
    exact next_frame hoff hreset hclocks (.inr hready) (State.tokenFrame_data hdummyClocks hd2)
  case write =>
    rintro s addr data mode3 clocks u v code hoff hreset hclocks rfl hready hclocks2 htake
    exact next_frame hoff hreset hclocks (.inr hready) ((if_neg (by omega)).trans (by rw [htake]))
  case writeCommit =>
    rintro s addr data mode3 clocks u v ws hoff hreset hclocks rfl hready hclocks2 rfl hws hwriteData
    refine next_frame hoff hreset hclocks (.inr hready) ((if_neg (by omega)).trans ?_)
    dsimp only
    rw [hwriteData]
    exact if_neg (by simp [hws])
  case writeCommitRejected =>
    rintro s addr data mode3 clocks u v ws code hoff hreset hclocks rfl hready hclocks2 rfl hwriteData hws
    refine next_frame hoff hreset hclocks (.inr hready) ((if_neg (by omega)).trans ?_)
    dsimp only
    rw [hwriteData]
    exact if_pos (by rcases hws with h | h <;> simp [h])
  case writeShort =>
    rintro s addr data mode3 clocks u hoff hreset hclocks rfl hready hclocks2
    exact next_frame hoff hreset hclocks (.inr hready) (if_pos hclocks2)
  case writeCommitShort =>
    rintro s addr data mode3 clocks u hoff hreset hclocks rfl hready hclocks2
    exact next_frame hoff hreset hclocks (.inr hready) (if_pos hclocks2)
  case loadShort =>
    rintro s addr mode3 clocks u hoff hreset hclocks rfl hready hclocks2
    exact next_frame hoff hreset hclocks (.inr hready) (if_pos hclocks2)
  case load =>
    rintro s addr mode3 clocks u hoff hreset hclocks rfl hready hclocks2 haddr hload hnone
    exact next_frame hoff hreset hclocks (.inr hready) ((if_neg (by omega)).trans ((if_neg (by omega)).trans
      (by simp [hload, hnone])))
  case loadRefused =>
    rintro s addr mode3 clocks u hoff hreset hclocks rfl hready hclocks2 haddr hnone
    refine next_frame hoff hreset hclocks (.inr hready) ((if_neg (by omega)).trans ((if_neg (by omega)).trans ?_))
    rcases hnone with h | h
    · simp [Option.isSome_iff_ne_none.2 h]
    · simp [h]
  case loadNoSlot =>
    rintro s addr mode3 clocks u hoff hreset hclocks rfl hready hclocks2 haddr
    exact next_frame hoff hreset hclocks (.inr hready) ((if_neg (by omega)).trans (if_pos haddr))
  case softReset =>
    rintro s key0 key1 mode3 clocks u hoff hreset hclocks rfl hready rfl rfl rfl
    exact next_frame hoff hreset hclocks (.inr hready) (if_pos ⟨rfl, rfl, rfl⟩)
  case softResetBad =>
    rintro s key0 key1 mode3 clocks u hoff hreset hclocks rfl hready hclocks2 hclocks3
    exact next_frame hoff hreset hclocks (.inr hready) ((if_neg (by omega)).trans (if_neg (by omega)))
  case softResetShort =>
    rintro s key0 key1 mode3 clocks u hoff hreset hclocks rfl hready hclocks2 hclocks3 hclocks4
    exact next_frame hoff hreset hclocks (.inr hready) ((if_neg
      (by omega)).trans (if_pos ⟨hclocks2, hclocks3, hclocks4⟩))
  case unknown =>
    rintro s cmd mode3 clocks u hoff hreset hclocks rfl hcontains
    exact next_when (by rw [hcontains]; rfl) (State.hspFrame_body _ hoff hreset hclocks (.inl rfl))
  case statusGoesOn =>
    intro s n hlong haligned
    have hline : s.hsp.line ≠ [] := by
      intro h
      simp [h] at hlong
    have hclocks := State.statusClocks_aligned n haligned
    refine ⟨?_, ?_, ?_, ?_, State.statusOut_end n hline ?_⟩
    · rw [State.statusOut_more n hline, hclocks]
    · rw [State.statusOut_more n hline, hclocks]
    · rw [State.statusOut_more n hline]
    · rw [State.statusOut_more n hline, hclocks]
    · rw [hclocks]
      exact Nat.le_trans hlong (by simp)
  case statusFirstByte =>
    intro s n hline hn
    have hbits : (frameBits 8 s.hsp.status).take n = frameBits 8 s.hsp.status := List.take_of_length_le
      (by simpa using hn)
    have hnonempty : frameBits 8 s.hsp.status ≠ [] := by simp [← List.length_eq_zero_iff]
    refine Eq.trans ?_ (State.statusOut_more (n - 8) hnonempty).symm
    simp [State.statusOut, State.shiftOut, hline, hbits]
  case header =>
    intro s m n
    simp [State.frameShift, State.shiftOut, State.frameBegin]
  case hamperWords =>
    exact fun s u mask clocks l g ws hmask hgrant hconsume =>
      ⟨u.hamperShown l g ws clocks, State.hamperData_granted hmask hgrant hconsume, rfl, rfl⟩

end Sys2Proof.Machine

namespace Sys2Proof.Machine

/-- R120, R125: a STATUS frame that ends within its first byte has shifted out what every short frame does. -/
theorem State.statusOut_short {s : State} {m : Bool} {n : Nat} (hpos : 0 < n) (hshort : n < 8) :
    (s.frameBegin.set 0 F.HSP_STAT_MODE (b2n m)).statusOut n false = (s.frameShift m n).frameEnd 0x0103 := by
  have hline : (s.frameBegin.set 0 F.HSP_STAT_MODE (b2n m)).hsp.line = [] := by
    rw [State.set_hsp]; rfl
  have hbits : s.frameShift m n = (s.frameBegin.set 0 F.HSP_STAT_MODE (b2n m)).shiftOut
      ((frameBits 8 (s.frameBegin.set 0 F.HSP_STAT_MODE (b2n m)).hsp.status).take n) := by
    unfold State.frameShift
    dsimp only
    rw [Nat.sub_eq_zero_of_le (Nat.le_of_lt hshort), List.replicate_zero, List.append_nil]
  have hlen : (s.frameShift m n).hsp.line.length = n := by
    rw [hbits, State.shiftOut, hline]
    simp [Nat.min_eq_left (Nat.le_of_lt hshort)]
  have hnonempty : (s.frameShift m n).hsp.line ≠ [] := by
    intro h
    rw [h] at hlen
    exact Nat.ne_of_lt hpos hlen
  have hlong : (s.frameShift m n).hsp.line.length < 8 := by rw [hlen]; exact hshort
  unfold State.statusOut
  dsimp only
  rw [hline, if_pos List.isEmpty_nil, Nat.sub_eq_zero_of_le (Nat.le_of_lt hshort), ← hbits, State.statusClocks_zero hlong]
  simp [hnonempty, hlong]

/-- Settles O9, by the rules of a frame that is short, empty or early, and the guards of the other events. -/
theorem serialFrameErrors : Obligations.SerialFrameErrors := by
  refine ⟨?readShort, ?readEmpty, ?hamperReadShort, ?hamperReadEmpty, ?writeShort, ?writeEmpty,
    ?writeCommitShort, ?writeCommitEmpty, ?profileLoadShort, ?profileLoadEmpty, ?softResetShort,
    ?softResetEmpty, ?wakeShort, ?wakeEmpty, ?unknownShort, ?unknownEmpty, ?statusShort, ?readEarly,
    ?hamperReadEarly, ?writeEarly, ?writeCommitEarly, ?profileLoadEarly, ?softResetEarly, ?tokenReady,
    ?tokenReadyElse, ?readTimeout, ?hselWake⟩
  case readShort =>
    intro s addr mode3 fast clocks ready ahead hoff hreset hclocks hclocks2
    exact next_frame_short hoff hreset hclocks hclocks2
  case readEmpty =>
    rintro s addr mode3 fast clocks ready ahead hoff hreset rfl
    exact next_frame_empty hoff hreset
  case hamperReadShort =>
    intro s mask mode3 fast clocks ready hoff hreset hclocks hclocks2
    exact next_frame_short hoff hreset hclocks hclocks2
  case hamperReadEmpty =>
    rintro s mask mode3 fast clocks ready hoff hreset rfl
    exact next_frame_empty hoff hreset
  case writeShort =>
    intro s addr data mode3 clocks hoff hreset hclocks hclocks2
    exact next_frame_short hoff hreset hclocks hclocks2
  case writeEmpty =>
    rintro s addr data mode3 clocks hoff hreset rfl
    exact next_frame_empty hoff hreset
  case writeCommitShort =>
    intro s addr data mode3 clocks hoff hreset hclocks hclocks2
    exact next_frame_short hoff hreset hclocks hclocks2
  case writeCommitEmpty =>
    rintro s addr data mode3 clocks hoff hreset rfl
    exact next_frame_empty hoff hreset
  case profileLoadShort =>
    intro s addr mode3 clocks hoff hreset hclocks hclocks2
    exact next_frame_short hoff hreset hclocks hclocks2
  case profileLoadEmpty =>
    rintro s addr mode3 clocks hoff hreset rfl
    exact next_frame_empty hoff hreset
  case softResetShort =>
    intro s key0 key1 mode3 clocks hoff hreset hclocks hclocks2
    exact next_frame_short hoff hreset hclocks hclocks2
  case softResetEmpty =>
    rintro s key0 key1 mode3 clocks hoff hreset rfl
    exact next_frame_empty hoff hreset
  case wakeShort =>
    intro s mode3 clocks hoff hreset hclocks hclocks2
    exact next_frame_short hoff hreset hclocks hclocks2
  case wakeEmpty =>
    rintro s mode3 clocks hoff hreset rfl
    exact next_frame_empty hoff hreset
  case unknownShort =>
    intro s cmd mode3 clocks hcontains hoff hreset hclocks hclocks2
    exact next_when (by rw [hcontains]; rfl) (State.hspFrame_short _ hoff hreset hclocks hclocks2)
  case unknownEmpty =>
    rintro s cmd mode3 clocks hcontains hoff hreset rfl
    exact next_when (by rw [hcontains]; rfl) ((if_neg (by simp [hoff, hreset])).trans (if_pos rfl))
  case statusShort =>
    rintro s mode3 clocks more hoff hreset hstatusOn hclocks hclocks2 rfl
    refine congrArg _ ((if_neg (by simp [hoff, hreset])).trans ((if_neg (by simp [hstatusOn])).trans ?_))
    dsimp only
    rw [if_neg (Nat.ne_of_gt hclocks)]
    exact State.statusOut_short hclocks hclocks2
  case readEarly =>
    intro s addr mode3 fast clocks ready ahead hoff hreset hclocks hready
    exact next_frame_early hoff hreset hclocks hready
  case hamperReadEarly =>
    intro s mask mode3 fast clocks ready hoff hreset hclocks hready
    exact next_frame_early hoff hreset hclocks hready
  case writeEarly =>
    intro s addr data mode3 clocks hoff hreset hclocks hready
    exact next_frame_early hoff hreset hclocks hready
  case writeCommitEarly =>
    intro s addr data mode3 clocks hoff hreset hclocks hready
    exact next_frame_early hoff hreset hclocks hready
  case profileLoadEarly =>
    intro s addr mode3 clocks hoff hreset hclocks hready
    exact next_frame_early hoff hreset hclocks hready
  case softResetEarly =>
    intro s key0 key1 mode3 clocks hoff hreset hclocks hready
    exact next_frame_early hoff hreset hclocks hready
  case tokenReady =>
    intro s clocks ahead mask hframe
    show execTokenReady clocks ahead _ = _
    simp [execTokenReady, hframe]
  case tokenReadyElse =>
    intro s clocks ahead addr hframe
    show execTokenReady clocks ahead _ = _
    simp [execTokenReady, hframe]
  case readTimeout =>
    intro s clocks x hframe
    exact next_when (by simp [hframe]) rfl
  case hselWake =>
    intro s
    show execHselWake  _ = _
    simp [execHselWake]

end Sys2Proof.Machine

namespace Sys2Proof.Machine

/-! Bytes of the two-wire port at a control address (chapter 04). -/

theorem twReadsAt_iff (s : State) (p : Nat) : s.twReadsAt p = true ↔
    s.attnActive = false ∧ s.htw.stretch = none ∧ s.twServes true = true ∧ s.htw.pointer = p := by
  simp [State.twReadsAt, and_assoc]

theorem State.twGet_control {s : State} (hready : s.ready = true) (hdead : s.htw.dead = false)
    (hp : 0xF0 ≤ s.htw.pointer) :
    s.twGet = ((s.twControlRead s.htw.pointer).1.setHtw { (s.twControlRead s.htw.pointer).1.htw with
      out := (s.twControlRead s.htw.pointer).1.htw.out ++ [(s.twControlRead s.htw.pointer).2] }).twNext true := by
  unfold State.twGet
  dsimp only
  rw [if_neg (by simp [hdead]), if_neg (by simp [hready]), if_neg (Nat.not_lt.2 hp)]

/-- R182: before READY a read byte is 0 and the transfer is rejected, but at the status and the code. -/
theorem State.twGet_early {s : State} (hready : s.ready = false) (hdead : s.htw.dead = false)
    (h2 : s.htw.pointer ≠ 0xF2) (h3 : s.htw.pointer ≠ 0xF3) :
    s.twGet = ((s.twCode 0x0101).setHtw { (s.twCode 0x0101).htw with
      out := (s.twCode 0x0101).htw.out ++ [0] }).twNext true := by
  unfold State.twGet
  dsimp only
  rw [if_neg (by simp [hdead]), if_pos (by simp [hready, h2, h3])]

/-- R170, R161: WIN_MID applies WIN_BASE, and the pointer goes on. -/
theorem State.twPut_winMid {s : State} {b : Byte} {hold : Bool} (hfresh : s.htw.fresh = false)
    (hpointer : s.htw.pointer = 0xF1) (hready : s.ready = true) :
    s.twPut b hold = s.setHtw { s.htw with
      mid := b.toNat, base := 65536 * s.htw.hi + 256 * b.toNat + s.htw.lo / 16 * 16, pointer := 0xF2 } := by
  simp [State.twPut, State.twControlByte, State.winApply, State.twNext, State.setHtw, hfresh, hpointer, hready]

theorem State.twPut_early {s : State} {b : Byte} {hold : Bool} (hfresh : s.htw.fresh = false)
    (hready : s.ready = false) : s.twPut b hold = (s.twCode 0x0101).twNext false := by
  simp [State.twPut, hfresh, hready]

theorem State.grant2_eq {s : State} {l : List Nat} {g : Word} (h : s.grant .htw s.htw.hmask = (l, g)) :
    s.grant2 = (s.setHtw { s.htw with grant := some l, grantWord := g, streamed := 0 },
      BitVec.ofNat 8 (128 * bits g 30 1 + 64 * bits g 31 1 + 16 * bits g 26 2 + bits g 16 1)) := by
  simp [State.grant2, h]

/-- R660: a source that comes while the device is in ACTIVE, outside a sleep entry, wakes nothing. -/
theorem State.wakeBy_awake {s : State} (src num : Nat) (hawake : s.awake = true) (hphase : s.power.phase = .none) :
    s.wakeBy src num = s :=
  (if_pos (of_decide_eq_true hawake)).trans (if_pos hphase)

/-- Settles O11, by the guard of each transfer and the rules of its bytes. -/
theorem twoWireTransfers : Obligations.TwoWireTransfers := by
  refine ⟨?twWriteTransfer, ?twWriteTransferElse, ?twWriteTransferOther, ?twWriteTransferThird,
    ?twReadTransfer, ?twReadTransferElse, ?twReadTransferOther, ?twReadTransferThird, ?quickCommand,
    ?quickCommandElse, ?quickCommandOther, ?winMid, ?winMidEarly, ?grant2, ?grant2Early, ?stream, ?streamEarly,
    ?twStretchRelease, ?twStretchReleaseElse, ?twStretchTimeout, ?twStretchTimeoutElse, ?addressed, ?firstByte,
    ?streamByte⟩
  case twWriteTransfer =>
    rintro s start bytes stretch stop u addr hattnActive hstretch rfl htwStart
    exact next_when (by simp [hattnActive, hstretch]) (by simp [htwStart])
  case twWriteTransferElse =>
    rintro s start bytes stretch stop u addr hattnActive hstretch rfl htwStart
    exact next_when (by simp [hattnActive, hstretch]) (by simp [htwStart])
  case twWriteTransferOther =>
    rintro s start bytes stretch stop hattnActive hstretch rfl htwServes
    exact next_when (by simp [hattnActive, hstretch]) (by simp [htwServes])
  case twWriteTransferThird =>
    rintro s start bytes stretch stop hattnActive hstretch rfl htwServes
    exact next_when (by simp [hattnActive, hstretch]) (by simp [htwServes])
  case twReadTransfer =>
    rintro s start count stretch stop u addr hattnActive hstretch rfl htwStart
    exact next_when (by simp [hattnActive, hstretch]) (by simp [htwStart])
  case twReadTransferElse =>
    rintro s start count stretch stop u addr hattnActive hstretch rfl htwStart
    exact next_when (by simp [hattnActive, hstretch]) (by simp [htwStart])
  case twReadTransferOther =>
    rintro s start count stretch stop hattnActive hstretch rfl htwServes
    exact next_when (by simp [hattnActive, hstretch]) (by simp [htwServes])
  case twReadTransferThird =>
    rintro s start count stretch stop hattnActive hstretch rfl htwServes
    exact next_when (by simp [hattnActive, hstretch]) (by simp [htwServes])
  case quickCommand =>
    intro s addr read hattnActive hstretch hbusy
    exact next_when (by simp [hattnActive, hstretch]) (by simp [hbusy])
  case quickCommandElse =>
    intro s addr read u hattnActive hstretch hbusy htwStart
    exact next_when (by simp [hattnActive, hstretch]) (by simp [hstretch, hbusy, htwStart])
  case quickCommandOther =>
    intro s addr read u hattnActive hstretch hbusy htwStart
    exact next_when (by simp [hattnActive, hstretch]) (by simp [hbusy, htwStart])
  case winMid =>
    intro s value stop hattnActive hstretch htwServes hfresh hpointer hready
    exact next_when (by simp [hattnActive, hstretch, htwServes, hfresh, hpointer]) (congrArg (State.twStop · stop)
      (State.twPut_winMid hfresh hpointer hready))
  case winMidEarly =>
    intro s value stop hattnActive hstretch htwServes hfresh hpointer hready
    exact next_when (by simp [hattnActive, hstretch, htwServes, hfresh, hpointer]) (congrArg (State.twStop · stop)
      (State.twPut_early hfresh hready))
  case grant2 =>
    intro s stop l g htwReadsAt hready hdead hhmask
    obtain ⟨-, -, -, hpointer⟩ := (twReadsAt_iff s 0xF5).1 htwReadsAt
    refine next_when htwReadsAt (congrArg (State.twStop · stop) ?_)
    rw [State.twGet_control hready hdead (by rw [hpointer]; decide), hpointer,
      show s.twControlRead 0xF5 = s.grant2 from rfl, State.grant2_eq hhmask]
    simp [State.twNext, State.setHtw, hpointer]
  case grant2Early =>
    rintro s stop u htwReadsAt hready hdead rfl
    obtain ⟨-, -, -, hpointer⟩ := (twReadsAt_iff s 0xF5).1 htwReadsAt
    exact next_when htwReadsAt (congrArg (State.twStop · stop)
      (State.twGet_early hready hdead (by rw [hpointer]; decide) (by rw [hpointer]; decide)))
  case stream =>
    intro s stop u b htwReadsAt hready hdead hstreamByte
    obtain ⟨-, -, -, hpointer⟩ := (twReadsAt_iff s 0xF8).1 htwReadsAt
    refine next_when htwReadsAt (congrArg (State.twStop · stop) ?_)
    rw [State.twGet_control hready hdead (by rw [hpointer]; decide), hpointer,
      show s.twControlRead 0xF8 = s.streamByte from rfl, hstreamByte]
  case streamEarly =>
    rintro s stop u htwReadsAt hready hdead rfl
    obtain ⟨-, -, -, hpointer⟩ := (twReadsAt_iff s 0xF8).1 htwReadsAt
    exact next_when htwReadsAt (congrArg (State.twStop · stop)
      (State.twGet_early hready hdead (by rw [hpointer]; decide) (by rw [hpointer]; decide)))
  case twStretchRelease =>
    intro s a w hwrite
    show execTwStretchRelease  _ = _
    simp [execTwStretchRelease, hwrite]
  case twStretchReleaseElse =>
    intro s a hread
    show execTwStretchRelease  _ = _
    simp [execTwStretchRelease, hread]
  case twStretchTimeout =>
    intro s a hread
    show execTwStretchTimeout  _ = _
    simp [execTwStretchTimeout, hread]
  case twStretchTimeoutElse =>
    intro s a w hwrite
    show execTwStretchTimeout  _ = _
    simp [execTwStretchTimeout, hwrite]
  case addressed =>
    intro s addr read hoff hreset
    refine ⟨fun hother => ?_, fun hown hawake hphase hready => ?_⟩
    · simp [State.twStart, hoff, hreset, hother]
    · have hactive : s.device = .active := of_decide_eq_true hawake
      simp [State.twStart, State.wakeBy_awake 6 0 hawake hphase, State.setHtw, State.awake, hactive, hown, hready]
  case firstByte =>
    exact fun s b hold hfresh => if_pos hfresh
  case streamByte =>
    intro s c rest w hgrant hnext
    unfold State.streamByte
    rw [hgrant]
    refine ⟨fun hserial => if_pos hserial, fun hopen hpart => ?_, fun hopen hlast u hu => ?_⟩
    · simp [hopen, hnext, hpart]
    · subst hu
      simp [hopen, hnext, Nat.not_lt.2 hlast]

end Sys2Proof.Machine

namespace Sys2Proof.Machine

/-- Settles O12, by the guard of each event and the state of the attention in hand. -/
theorem twoWireFaultsAndAttention : Obligations.TwoWireFaultsAndAttention := by
  refine ⟨?busProto, ?sclLow, ?sdaLow, ?busFree, ?attention, ?attentionNone, ?attentionDepth, ?attnSent,
    ?attnNack, ?arbLost, ?arbLostElse, ?arbLostOther, ?attnBackoffEnd, ?twAddressWake, ?lowTimeout, ?attnLost⟩
  case busProto =>
    rintro s start u hbusy rfl
    exact next_when (by simp [hbusy]) rfl
  case sclLow =>
    intro s htwOn hstretch
    exact next_when (by simp [htwOn, hstretch]) rfl
  case sdaLow =>
    intro s htwOn
    exact next_when (by simp [htwOn]) rfl
  case busFree =>
    intro s hattnActive
    exact next_when (by simp [hattnActive]) rfl
  case attention =>
    rintro s depth c rfl hawake hattn hbusy hbusFree hstatAttnPend
    refine congrArg _ ((if_neg Bool.false_ne_true).trans ((State.when_true _
      (by simp [hawake, hattn, hbusy, hbusFree])).trans ?_))
    dsimp only
    rw [hstatAttnPend]
  case attentionNone =>
    rintro s depth rfl hawake hattn hbusy hbusFree hstatAttnPend
    refine congrArg _ ((if_neg Bool.false_ne_true).trans ((State.when_true _
      (by simp [hawake, hattn, hbusy, hbusFree])).trans ?_))
    dsimp only
    rw [hstatAttnPend]
  case attentionDepth =>
    rintro s depth rfl hattnActive hdepth
    exact congrArg _ ((if_pos rfl).trans (State.when_true _ (by simp [hattnActive, hdepth])))
  case attnSent =>
    rintro s c dep u v hbackoff hattn rfl rfl rfl
    refine next_when (by simp [State.attnActive, hattn, hbackoff]) ?_
    rw [hattn]
    rfl
  case attnNack =>
    intro s hattnActive
    exact next_when (by simp [hattnActive]) rfl
  case arbLost =>
    rintro s edge own read u hattnActive rfl hcfgArbMode hown
    refine next_when hattnActive ((if_neg ?edge).trans (if_neg ?own))
    case edge => rcases hcfgArbMode with h | h <;> simp [h]
    case own => rcases hown with h | h <;> simp [h]
  case arbLostElse =>
    rintro s edge own read u hattnActive rfl hcfgArbMode rfl rfl
    exact next_when (by simp [hattnActive]) (by simp)
  case arbLostOther =>
    rintro s edge own read u hattnActive rfl rfl hcfgArbMode
    exact next_when (by simp [hattnActive]) (by simp [hcfgArbMode])
  case attnBackoffEnd =>
    intro s c hawake hbackoff hbusFree hbusy hattn
    exact next_when (by simp [hawake, hbackoff, hbusFree, hbusy]) (by simp [hattn])
  case twAddressWake =>
    intro s hwatch hwaking
    exact next_when (by simp [hwatch, hwaking]) rfl
  case lowTimeout =>
    rintro s u v f e c rfl rfl
    rfl
  case attnLost =>
    intro s
    exact ⟨fun h => if_pos h, fun h => if_neg (Nat.not_le.2 h)⟩

end Sys2Proof.Machine

namespace Sys2Proof.Machine

/-- Settles O13, by the guard of each command and the field state it finds. -/
theorem sliceFieldStates : Obligations.SliceFieldStates := by
  refine ⟨?energiseOther, ?energiseOwn, ?rampUpEnd, ?rampUpEndElse, ?rampDownEnd, ?guardEnd, ?guardEndElse,
    ?guardEndOther, ?energise, ?startRamp⟩
  case energiseOther =>
    rintro s die slice late u hdie hslice hfstate hwant hheldOff hcontains htickCome hguardedSlice rfl hisExchange
    refine next_when (by simp [hdie, hslice, hfstate, Option.isSome_iff_ne_none, hwant, hheldOff, hcontains,
      htickCome, hguardedSlice, -List.contains_eq_mem]) ?_
    cases hport : (s.syncLate late).servedPort die slice with
    | none => simp [hport]
    | some p =>
      cases hexch : (s.syncLate late).exch die p with
      | none => simp [hport, hexch]
      | some e => rcases hisExchange p e hport hexch with h | h <;> simp [hport, hexch, h]
  case energiseOwn =>
    rintro s die slice late u p e r hdie hslice hfstate hwant hheldOff hcontains htickCome hguardedSlice rfl
      hservedPort hexch henergise hisExchange hwant2
    refine next_when (by simp [hdie, hslice, hfstate, Option.isSome_iff_ne_none, hwant, hheldOff, hcontains,
      htickCome, hguardedSlice, -List.contains_eq_mem]) ?_
    simp [hservedPort, hexch, henergise, hisExchange, hwant2]
  case rampUpEnd =>
    intro s die slice hdie hslice hfstate hservedPort
    exact next_when (by simp [hdie, hslice, hfstate]) (by simp [hservedPort])
  case rampUpEndElse =>
    intro s die slice p hdie hslice hfstate hservedPort
    exact next_when (by simp [hdie, hslice, hfstate]) (by simp [hservedPort])
  case rampDownEnd =>
    intro s die slice hdie hslice hfstate
    exact next_when (by simp [hdie, hslice, hfstate]) rfl
  case guardEnd =>
    intro s die slice u hdie hslice hfstate hopenFault hraise
    exact next_when (by simp [hdie, hslice, hfstate, hopenFault]) (by simp [hopenFault, hraise])
  case guardEndElse =>
    intro s die slice hdie hslice hfstate hopenFault hrestart
    exact next_when (by simp [hdie, hslice, hfstate, hopenFault, hrestart]) (by simp [hopenFault, hrestart])
  case guardEndOther =>
    rintro s die slice r u hdie hslice hfstate hopenFault hrestart hguardedSlice rfl
    exact next_when (by simp [hdie, hslice, hfstate, hopenFault, hrestart, hguardedSlice])
      (by simp [hopenFault, hrestart])
  case energise =>
    intro s d sl r hwant
    refine ⟨fun hoff => ?_, fun hdown => ?_, fun hon => ?_⟩
    · simp [State.energise, hwant, hoff]
    · rcases hdown with h | h <;> simp [State.energise, hwant, h]
    · rcases hon with h | h <;> simp [State.energise, hwant, h]
  case startRamp =>
    rintro s u v d sl q r rfl rfl rfl
    rfl

end Sys2Proof.Machine

namespace Sys2Proof.Machine

/-- Settles O14, by the guard of each event and what a fault does to the slice and its users. -/
theorem sliceFaults : Obligations.SliceFaults := by
  refine ⟨?overcurrent, ?openLoad, ?sliceStartCheck, ?sliceStartCheckElse, ?senseWithin, ?senseInterval,
    ?phaseCommand, ?phaseSlewEnd, ?sliceFault, ?faultSlice⟩
  case overcurrent =>
    intro s die slice hdie hslice hfstate
    exact next_when (by simp [hdie, hslice, hfstate]) rfl
  case openLoad =>
    rintro s die slice u hdie hslice hfstate hlevel hopenFault rfl
    exact next_when (by simp [hdie, hslice, hfstate, hlevel, hopenFault]) rfl
  case sliceStartCheck =>
    rintro s die slice pass hdie hslice hpageState rfl
    exact next_when (by simp [hdie, hslice, hpageState]) (by simp)
  case sliceStartCheckElse =>
    rintro s die slice pass hdie hslice hpageState rfl
    exact next_when (by simp [hdie, hslice, hpageState]) (by simp)
  case senseWithin =>
    intro s die slice pwr headroom ampl detune hdie hslice hfstate hfstatUser hlevel
    exact next_when (by simp [hdie, hslice, hfstate, hfstatUser]) (by simp [Nat.not_lt.2 hlevel])
  case senseInterval =>
    intro s die slice pwr headroom ampl detune hdie hslice hfstate hfstatUser hlevel
    exact next_when (by simp [hdie, hslice, hfstate, hfstatUser]) (by simp [hlevel])
  case phaseCommand =>
    rintro s die slice phase late u hserv hslice rfl
    exact next_when (by simp [hserv, hslice]) rfl
  case phaseSlewEnd =>
    intro s die slice hdie hslice hphaseSlewing hfstate
    exact next_when (by simp [hdie, hslice, hphaseSlewing, hfstate]) rfl
  case sliceFault =>
    rintro s u v d sl code rfl rfl
    rfl
  case faultSlice =>
    intro s d sl code phase p
    refine ⟨fun hnone => ?_, fun hport => ?_, ?_, rfl⟩
    · simp [State.faultSlice, hnone]
    · simp [State.faultSlice, hport]
    · unfold State.pageStarted
      split <;> rfl

end Sys2Proof.Machine

namespace Sys2Proof.Machine

/-- Settles O15, by the guard of each command. -/
theorem continuousWave : Obligations.ContinuousWave := by
  refine ⟨?cwStart, ?cwWaiting, ?cwRefused, ?cwStop, ?cwTimeout, ?endCw⟩
  case cwStart =>
    rintro s die slice u hawake hlock hserv hslice hcwAsked hisNone rfl
    exact next_hostWrite hawake hlock ((State.when_true _ (by simp [hserv, hslice])).trans
      ((if_pos hisNone).trans (if_neg (by simp [hcwAsked]))))
  case cwWaiting =>
    intro s die slice hawake hlock hserv hslice hcwAsked hisNone
    exact next_hostWrite hawake hlock ((State.when_true _ (by simp [hserv, hslice])).trans ((if_pos hisNone).trans
      (if_pos hcwAsked)))
  case cwRefused =>
    intro s die slice hawake hlock hserv hslice hisNone
    exact next_hostWrite hawake hlock ((State.when_true _ (by simp [hserv, hslice])).trans (if_neg
      (by simp [hisNone])))
  case cwStop =>
    intro s die slice hawake hlock hserv hslice hcwLive
    exact next_hostWrite hawake hlock (State.when_true _ (by simp [hserv, hslice, hcwLive]))
  case cwTimeout =>
    intro s die slice hdie hslice hcwLive hcw hfstate
    exact next_when (by simp [hdie, hslice, hcwLive, hcw, hfstate]) rfl
  case endCw =>
    intro s d sl
    refine ⟨rfl, ?_⟩
    unfold State.cwLive
    cases hwork : s.work (sliceWork d sl) <;> simp

end Sys2Proof.Machine

namespace Sys2Proof.Machine

theorem isEmpty_ne_of_head {α : Type} {l : List α} {x : α} (h : l[0]? = some x) : ¬ l.isEmpty = true := by
  rintro hl
  rw [List.isEmpty_iff.1 hl] at h
  contradiction

/-- Settles O16, by the host write, the engine of the die, and the candidates and exchanges of the descriptor. -/
theorem singleExchanges : Obligations.SingleExchanges := by
  refine ⟨?run, ?fcoRun, ?runWithdrawn, ?fcoRunElse, ?fcoRunOther, ?fcoAbort, ?abortNone, ?candidateAgeing,
    ?candidateAgeingElse, ?ageing⟩
  case run =>
    rintro s value u v d ms m hawake hlock rfl rfl hhostQueue hserv hpageOn hformChain hms hnone
    refine next_hostWrite hawake hlock ((if_neg (Nat.not_le.2 hhostQueue)).trans ((if_neg
      (by simp [hserv, hpageOn])).trans ?_))
    rw [hformChain]
    dsimp only
    rw [if_neg (isEmpty_ne_of_head hms), hms]
    rfl
  case fcoRun =>
    rintro s value u v d ms hawake hlock rfl rfl hhostQueue hserv hpageOn hformChain rfl
    exact next_hostWrite hawake hlock (by simp [Nat.not_le.2 hhostQueue, hserv, hpageOn, hformChain])
  case runWithdrawn =>
    rintro s value u v w d ms m c hawake hlock rfl rfl hhostQueue hserv hpageOn hformChain hms hnone rfl rfl
    refine next_hostWrite hawake hlock ((if_neg (Nat.not_le.2 hhostQueue)).trans ((if_neg
      (by simp [hserv, hpageOn])).trans ?_))
    rw [hformChain]
    dsimp only
    rw [if_neg (isEmpty_ne_of_head hms), hms]
    exact congrArg State.coordinate (if_neg hnone)
  case fcoRunElse =>
    rintro s value v d hawake hlock rfl rfl hhostQueue
    exact next_hostWrite hawake hlock (by simp [hhostQueue])
  case fcoRunOther =>
    rintro s value v d hawake hlock rfl rfl hhostQueue hserv
    exact next_hostWrite hawake hlock (by simp [Nat.not_le.2 hhostQueue, hserv])
  case fcoAbort =>
    rintro s value v cs es hawake hlock rfl rfl rfl hcs
    exact next_hostWrite hawake hlock (if_neg (by rcases hcs with hcs | hcs <;> simp [hcs]))
  case abortNone =>
    rintro s value v cs es hawake hlock rfl rfl rfl hcs hes
    exact next_hostWrite hawake hlock (if_pos (by simp only [hcs, hes]; rfl))
  case candidateAgeing =>
    intro s order c horder haged hprio
    show execCandidateAgeing order _ = _
    simp [execCandidateAgeing, horder, haged, Int.not_lt.2 hprio]
  case candidateAgeingElse =>
    intro s order c horder hprio
    show execCandidateAgeing order _ = _
    simp [execCandidateAgeing, horder, hprio]
  case ageing =>
    rintro s c x rfl
    rfl

end Sys2Proof.Machine

namespace Sys2Proof.Machine

/-- Settles O17, by the guard of each event, the rounds in hand and the limits. -/
theorem roundsAndBudget : Obligations.RoundsAndBudget := by
  refine ⟨?roundStart, ?thermalSample, ?vsupWindowEnd, ?vsupIdleRequest, ?dieWakeLead, ?dieDozeReturn,
    ?dozeToRun, ?roundDue, ?anchorSample, ?overLimit⟩
  case roundStart =>
    intro s plan late hawake hplan hplanCfgEn
    exact next_when (by simp [hawake, hplan, hplanCfgEn]) rfl
  case thermalSample =>
    intro s temps m d a u v w x hawake hdies ha hu hv hw hx
    refine next_when hawake ?_
    rw [hdies]
    dsimp -zeta only
    extract_lets _ _ readings _ scaled shown eased stopped _ _ counted _
    have hreadings : readings = a := ha.symm
    have hdiesStay : scaled.dies = s.dies := by
      simp only [scaled, readings, State.dies, State.set_part]
    have hshown : shown = u := by
      rw [hu, ← hreadings]
      exact congrArg (List.foldl _ scaled ∘ List.range) hdiesStay
    have heased : eased = v := by rw [hv, ← hshown]
    have hstopped : stopped = w := by rw [hw, ← heased]
    have hcounted : counted = x := by rw [hx, ← hstopped]
    rw [← hcounted, ← hstopped]
  case vsupWindowEnd =>
    rintro s vsup u x hawake rfl rfl
    exact next_when (by simp [hawake]) rfl
  case vsupIdleRequest =>
    rintro s u hawake hvsupCtlAuto hfieldIdle hidleSent hvsupCtlHold rfl
    exact next_when (by simp [hawake, hvsupCtlAuto, hfieldIdle, hidleSent, hvsupCtlHold]) rfl
  case dieWakeLead =>
    intro s plan hawake hplan hplanCfgEn hnone
    exact next_when (by simp [hawake, hplan, hplanCfgEn, hnone]) rfl
  case dieDozeReturn =>
    intro s die hawake hdie hpstate hdieIdle hnoWakeDue hcfgKeepRun
    exact next_when (by simp [hawake, hdie, hpstate, hdieIdle, hnoWakeDue, hcfgKeepRun]) rfl
  case dozeToRun =>
    intro s die hawake hserv hpstate hcfgKeepRun
    exact next_when (by simp [hawake, hserv, hpstate, hcfgKeepRun]) rfl
  case roundDue =>
    rintro s v n rfl
    refine ⟨fun hdrop => ?dropped, fun hdrain hawake hpage => ⟨fun hfree => ?starts, fun hruns hskips => ?skipped,
      fun hruns hskips => ?saturated⟩⟩
    case dropped => exact if_pos (by rcases hdrop with h | h | h <;> rw [h] <;> simp)
    case starts => exact (if_neg (by rw [hdrain, hawake, hpage]; simp)).trans (if_neg (by rw [hfree]; simp))
    case skipped =>
      exact (if_neg (by rw [hdrain, hawake, hpage]; simp)).trans ((if_pos hruns).trans
        (congrArg (State.raise · 0 0x0A 2) (if_neg (Nat.not_le.2 (Nat.succ_lt_succ hskips)))))
    case saturated =>
      exact (if_neg (by rw [hdrain, hawake, hpage]; simp)).trans ((if_pos hruns).trans
        (congrArg (State.raise · 0 0x0A 2) (if_pos (Nat.succ_le_succ hskips))))
  case anchorSample =>
    exact fun s temp => rfl
  case overLimit =>
    exact fun s n v => ⟨rfl, by unfold supplyCenti; omega⟩

end Sys2Proof.Machine

namespace Sys2Proof.Machine

/-- Settles O18, by the exchange of the port, its phase and the kind of its member. -/
theorem exchangeFrames : Obligations.ExchangeFrames := by
  refine ⟨?settleEnd, ?turnaroundGapEnd, ?txFrameEnd, ?txFrameEndElse, ?txFrameEndOther, ?retryStart,
    ?eofReqSend, ?activateNextCommand, ?invSlotEof, ?neighbourTermSwitch, ?neighbourTermSwitchElse, ?startTx,
    ?switchTerm⟩
  case settleEnd =>
    intro s die port e hexch hsettle hfieldOn
    show execSettleEnd die port _ = _
    simp [execSettleEnd, hexch, hsettle, hfieldOn]
  case turnaroundGapEnd =>
    rintro s die port e sl u hexch hlinkGap hfieldOn hservingSlice rfl
    show execTurnaroundGapEnd die port _ = _
    simp [execTurnaroundGapEnd, hexch, hlinkGap, hfieldOn, hservingSlice]
  case txFrameEnd =>
    intro s die port resid e hexch htransmit hquiet
    show execTxFrameEnd die port resid _ = _
    simp [execTxFrameEnd, hexch, htransmit]
  case txFrameEndElse =>
    intro s die port resid e x uid hexch htransmit hquiet hexch2
    show execTxFrameEnd die port resid _ = _
    simp [execTxFrameEnd, hexch, htransmit, hquiet, hexch2]
  case txFrameEndOther =>
    intro s die port resid sl hexch hservingSlice
    show execTxFrameEnd die port resid _ = _
    simp [execTxFrameEnd, hexch, hservingSlice]
  case retryStart =>
    intro s die port e hexch hgap hfieldOn
    show execRetryStart die port _ = _
    simp [execRetryStart, hexch, hgap, hfieldOn]
  case eofReqSend =>
    intro s die port e hexch hlisten hkind heofReq heofSent
    show execEofReqSend die port _ = _
    simp [execEofReqSend, hexch, hlisten, hkind, heofReq, heofSent]
  case activateNextCommand =>
    intro s die port e hexch hnext hkind hfieldOn
    show execActivateNextCommand die port _ = _
    simp [execActivateNextCommand, hexch, hnext, hkind, hfieldOn]
  case invSlotEof =>
    intro s die port e hexch hnext hkind hfieldOn
    show execInvSlotEof die port _ = _
    simp [execInvSlotEof, hexch, hnext, hkind, hfieldOn]
  case neighbourTermSwitch =>
    rintro s die port entry late e u hdie hport hentry hentry2 rfl
    exact next_when (by simp [hdie, hport, hentry]) (by simp [hentry2])
  case neighbourTermSwitchElse =>
    intro s die port entry late hdie hport hentry hentry2
    exact next_when (by simp [hdie, hport, hentry]) (by simp [hentry2])
  case startTx =>
    rintro s d p e x rfl
    have hfresh : e.fresh.phase = .transmit ∧ e.fresh.fdt = none ∧ e.fresh.members = e.members ∧ e.fresh.cur = e.cur ∧
        e.fresh.attempt = e.attempt ∧ e.fresh.res = e.res := ⟨rfl, rfl, rfl, rfl, rfl, rfl⟩
    refine ⟨rfl, ?_⟩
    split
    · exact hfresh
    · exact hfresh
  case switchTerm =>
    exact fun s d p k l ph => ⟨rfl, rfl, rfl, rfl⟩

end Sys2Proof.Machine

namespace Sys2Proof.Machine

/-- Settles O19, by the exchange of the port, the kind of its member and the frame of the round. -/
theorem exchangeReplies : Obligations.ExchangeReplies := by
  refine ⟨?replyStart, ?frameReply, ?replyA, ?replyB, ?slotReply, ?readReply, ?windowEnd, ?windowWaits,
    ?windowA, ?windowB, ?windowSlot, ?windowRead, ?fieldHoldExpiry, ?xenHoldEnd, ?streamGap, ?streamBroken,
    ?solveEnds, ?solveWaits, ?listenerWithdraw, ?attemptEnd⟩
  case replyStart =>
    rintro s die port fdt ampl angle e u hexch hlisten hfdt hstartSeen rfl
    show execReplyStart die port fdt ampl angle _ = _
    simp [execReplyStart, hexch, hlisten, hfdt, hstartSeen]
  case frameReply =>
    rintro s die port data nbits parityOk collision sat e x f r hexch hlisten hfdt rfl hkind rfl
    refine congrArg Host.Outcome.next ?_
    rw [hexch]
    exact (if_pos ⟨hlisten, by rw [hfdt]; rfl⟩).trans (if_pos hkind)
  case replyA =>
    rintro s die port data nbits parityOk collision sat e x f hexch hlisten hfdt rfl hkind
    have hlooked : e.phase = .listen ∧ e.fdt.isSome = true := ⟨hlisten, by rw [hfdt]; rfl⟩
    refine congrArg Host.Outcome.next ?_
    rw [hexch]
    exact (if_pos hlooked).trans ((if_neg (by simp [hkind])).trans (if_pos hkind))
  case replyB =>
    rintro s die port data nbits parityOk collision sat e x f hexch hlisten hfdt rfl hkind
    have hlooked : e.phase = .listen ∧ e.fdt.isSome = true := ⟨hlisten, by rw [hfdt]; rfl⟩
    refine congrArg Host.Outcome.next ?_
    rw [hexch]
    exact (if_pos hlooked).trans ((if_neg (by simp [hkind])).trans ((if_neg (by simp [hkind])).trans (if_pos hkind)))
  case slotReply =>
    rintro s die port data nbits parityOk collision sat e x f u y hexch hlisten hfdt rfl hkind hchains hread
    have hlooked : e.phase = .listen ∧ e.fdt.isSome = true := ⟨hlisten, by rw [hfdt]; rfl⟩
    refine congrArg Host.Outcome.next ?_
    rw [hexch]
    refine (if_pos hlooked).trans ((if_neg (by simp [hkind])).trans ((if_neg (by simp [hkind])).trans ((if_neg
      (by simp [hkind])).trans ?_)))
    rw [hchains]
    split
    next uid hr => exact absurd hr (hread uid)
    next => rfl
  case readReply =>
    rintro s die port data nbits parityOk collision sat e x f uid hexch hlisten hfdt rfl hkind hread
    have hlooked : e.phase = .listen ∧ e.fdt.isSome = true := ⟨hlisten, by rw [hfdt]; rfl⟩
    refine congrArg Host.Outcome.next ?_
    rw [hexch]
    refine (if_pos hlooked).trans ((if_neg (by simp [hkind])).trans ((if_neg (by simp [hkind])).trans ((if_neg
      (by simp [hkind])).trans ?_)))
    rw [hread]
  case windowEnd =>
    rintro s die port sat e x hexch hlisten hfdt rfl hkind heofSent
    have hwaits : (e.member.eofReq && !e.eofSent) = false := by
      rcases heofSent with (h : e.member.eofReq = false) | (h : e.eofSent = true)
      · rw [h, Bool.false_and]
      · rw [h, Bool.not_true, Bool.and_false]
    refine congrArg Host.Outcome.next ?_
    rw [hexch]
    exact (if_pos ⟨hlisten, by rw [hfdt]; rfl⟩).trans ((if_pos hkind).trans (if_neg (ne_true_of_eq_false hwaits)))
  case windowWaits =>
    rintro s die port sat e x hexch hlisten hfdt rfl hkind heofReq heofSent
    have hwaits : (e.member.eofReq && !e.eofSent) = true :=
      Bool.and_eq_true_iff.2 ⟨heofReq, congrArg not heofSent⟩
    refine congrArg Host.Outcome.next ?_
    rw [hexch]
    exact (if_pos ⟨hlisten, by rw [hfdt]; rfl⟩).trans ((if_pos hkind).trans (if_pos hwaits))
  case windowA =>
    rintro s die port sat e x hexch hlisten hfdt rfl hkind
    have hempty : e.phase = .listen ∧ e.fdt.isNone = true := ⟨hlisten, by rw [hfdt]; rfl⟩
    refine congrArg Host.Outcome.next ?_
    rw [hexch]
    exact (if_pos hempty).trans ((if_neg (by simp [hkind])).trans (if_pos hkind))
  case windowB =>
    rintro s die port sat e x hexch hlisten hfdt rfl hkind
    have hempty : e.phase = .listen ∧ e.fdt.isNone = true := ⟨hlisten, by rw [hfdt]; rfl⟩
    refine congrArg Host.Outcome.next ?_
    rw [hexch]
    exact (if_pos hempty).trans ((if_neg (by simp [hkind])).trans ((if_neg (by simp [hkind])).trans (if_pos hkind)))
  case windowSlot =>
    rintro s die port sat e x u y hexch hlisten hfdt rfl hkind hchains hread
    have hempty : e.phase = .listen ∧ e.fdt.isNone = true := ⟨hlisten, by rw [hfdt]; rfl⟩
    refine congrArg Host.Outcome.next ?_
    rw [hexch]
    refine (if_pos hempty).trans ((if_neg (by simp [hkind])).trans ((if_neg (by simp [hkind])).trans ((if_neg
      (by simp [hkind])).trans ?_)))
    rw [hchains]
    split
    next uid hr => exact absurd hr (hread uid)
    next => rfl
  case windowRead =>
    rintro s die port sat e x uid hexch hlisten hfdt rfl hkind hread
    have hempty : e.phase = .listen ∧ e.fdt.isNone = true := ⟨hlisten, by rw [hfdt]; rfl⟩
    refine congrArg Host.Outcome.next ?_
    rw [hexch]
    refine (if_pos hempty).trans ((if_neg (by simp [hkind])).trans ((if_neg (by simp [hkind])).trans ((if_neg
      (by simp [hkind])).trans ?_)))
    rw [hread]
  case fieldHoldExpiry =>
    intro s die port h hfieldHold
    exact next_when (by simp [hfieldHold]) rfl
  case xenHoldEnd =>
    intro s die value hawake hlock hserv
    exact next_hostWrite hawake hlock (State.when_true _ (by simp [hserv]))
  case streamGap =>
    intro s die port listener e hexch hcontains hcontains2
    refine congrArg Host.Outcome.next ?_
    rw [hexch]
    exact if_pos (by rw [hcontains, hcontains2]; rfl)
  case streamBroken =>
    intro s die port listener e hexch hcontains
    refine congrArg Host.Outcome.next ?_
    rw [hexch]
    exact if_neg (by rw [hcontains, Bool.not_true, Bool.and_false]; decide)
  case solveEnds =>
    intro s die port slot eigen replies e m hexch hsolving hcontains
    refine congrArg Host.Outcome.next ?_
    rw [hexch]
    dsimp only
    rw [hsolving]
    exact if_pos hcontains
  case solveWaits =>
    intro s die port slot eigen replies e m hexch hsolving hcontains
    refine congrArg Host.Outcome.next ?_
    rw [hexch]
    dsimp only
    rw [hsolving]
    exact if_neg (ne_true_of_eq_false hcontains)
  case listenerWithdraw =>
    intro s die port listener late e hawake hexch hcontains hlisten hservingSlice
    refine next_when hawake ?_
    rw [hexch]
    exact if_pos ⟨hcontains, hlisten, hservingSlice⟩
  case attemptEnd =>
    exact fun s d p e r => ⟨fun hagain => if_pos hagain, fun hlast => if_neg hlast⟩

end Sys2Proof.Machine

namespace Sys2Proof.Machine

/-- What the baseline shown and the choices the manual leaves open do not touch: the watches, the windows,
  the exchanges,
the coordinator and the state register of the port. -/
structure State.WatchKept (d p : Nat) (s t : State) : Prop where
  watches : t.watches = s.watches
  mem : t.mem = s.mem
  exchs : t.exchs = s.exchs
  coord : t.coord = s.coord
  stat : t.reg d 0x0E (0x118 + 64 * p) = s.reg d 0x0E (0x118 + 64 * p)

namespace State.WatchKept

theorem trans {d p : Nat} {s t u : State} (h : State.WatchKept d p s t) (h' : State.WatchKept d p t u) :
    State.WatchKept d p s u :=
  ⟨h'.watches.trans h.watches, h'.mem.trans h.mem, h'.exchs.trans h.exchs, h'.coord.trans h.coord,
    h'.stat.trans h.stat⟩

theorem free {d p : Nat} (s : State) (l : Nat) : State.WatchKept d p s { s with free := l } := ⟨rfl, rfl, rfl, rfl,
  rfl⟩

theorem set {d p : Nat} (s : State) {f : Fld} (v : Nat) (hpage : f.page = 0x0E) (hoff : f.off ≠ 0x118 + 64 * p) :
    State.WatchKept d p s (s.set d f v) :=
  ⟨State.set_watches .., State.set_mem .., State.set_exchs .., State.set_coord ..,
    State.reg_set_ne s f v (by unfold hostAddr; rw [hpage]; omega)⟩

theorem freeDiv {d p : Nat} (s : State) (a b : Int) : State.WatchKept d p s (s.freeDiv a b).1 := by
  unfold State.freeDiv
  split
  · exact free s s.free
  · exact free s _

theorem takeBase {d p : Nat} (s : State) : State.WatchKept d p s (s.takeBase d p).1 := by
  have htemp : State.WatchKept d p s (if s.device = .active then s.set d F.CWT_TEMP_TEMP
    (s.get d F.FDC_STAT_TEMP) else s) := by
    split
    · exact set s _ rfl (show 0x024 ≠ 0x118 + 64 * p by omega)
    · exact free s s.free
  have hbase : 0x110 + 64 * p ≠ 0x118 + 64 * p := by omega
  simp only [State.takeBase]
  exact htemp.trans (((freeDiv _ _ _).trans (freeDiv _ _ _)).trans ((set _ _ rfl hbase).trans (set _ _ rfl hbase)))

end State.WatchKept

/-- R423: the port that is absorbed, with the watch it is left. -/
def State.absorbed (s : State) (d p : Nat) (w : Watch) : State :=
  (((s.setWatchState d p 2).set d (F.CWT_P_STAT_RUN p) 0).setWatch d p w).showBase d p

section Absorbed

theorem State.setWatch_frame (s : State) (d p : Nat) (w : Watch) : (s.setWatch d p w).regs = s.regs ∧
    (s.setWatch d p w).mem = s.mem ∧ (s.setWatch d p w).exchs = s.exchs ∧ (s.setWatch d p w).coord = s.coord :=
  ⟨rfl, rfl, rfl, rfl⟩

variable (s : State) (d p : Nat) (w : Watch)

theorem State.absorbed_kept : State.WatchKept d p
    (((s.setWatchState d p 2).set d (F.CWT_P_STAT_RUN p) 0).setWatch d p w) (s.absorbed d p w) :=
  State.WatchKept.takeBase _

theorem State.get_absorbed {f : Fld} (hpage : f.page = 0x0E) (hoff : f.off = 0x118 + 64 * p) :
    (s.absorbed d p w).get d f = ((s.setWatchState d p 2).set d (F.CWT_P_STAT_RUN p) 0).get d f := by
  unfold State.get
  rw [hpage, hoff, (s.absorbed_kept d p w).stat]
  unfold State.reg
  rw [(State.setWatch_frame ..).1]

theorem State.watchState_absorbed : (s.absorbed d p w).watchState d p = 2 :=
  (s.get_absorbed d p w rfl rfl).trans
    ((State.get_set_beside (s.setWatchState d p 2) d (F.CWT_P_STAT_RUN p) (F.CWT_P_STAT_STATE p) 0 rfl rfl
      (show 24 + 4 ≤ 32 by decide) (.inl (show 0 + 4 ≤ 24 by decide))).trans
      (State.get_set_same s d (F.CWT_P_STAT_STATE p) 2 (show 0 + 4 ≤ 32 by decide)))

theorem State.run_absorbed : (s.absorbed d p w).get d (F.CWT_P_STAT_RUN p) = 0 :=
  (s.get_absorbed d p w rfl rfl).trans
    (State.get_set_same (s.setWatchState d p 2) d (F.CWT_P_STAT_RUN p) 0 (show 24 + 4 ≤ 32 by decide))

theorem State.watchOf_absorbed : (s.absorbed d p w).watchOf d p = w := by
  unfold State.watchOf
  rw [(s.absorbed_kept d p w).watches]
  exact State.watchOf_setWatch _ d p w

theorem State.absorbed_frame : (s.absorbed d p w).mem = s.mem ∧ (s.absorbed d p w).exchs = s.exchs ∧
    (s.absorbed d p w).coord = s.coord := by
  obtain ⟨-, hmem, hexchs, hcoord⟩ := ((s.setWatchState d p 2).set d (F.CWT_P_STAT_RUN p) 0).setWatch_frame d p w
  obtain ⟨-, hmem', hexchs', hcoord', -⟩ := s.absorbed_kept d p w
  unfold State.setWatchState at *
  refine ⟨hmem'.trans (hmem.trans ?_), hexchs'.trans (hexchs.trans ?_), hcoord'.trans (hcoord.trans ?_)⟩
  · rw [State.set_mem, State.set_mem]
  · rw [State.set_exchs, State.set_exchs]
  · rw [State.set_coord, State.set_coord]

end Absorbed

/-- WATCH_ABSORB of a DETECTED port: a state in which only registers and free choices have moved is absorbed, and is
reported when the detection was. -/
theorem exec_watchAbsorb (s : State) {d p : Nat} (hdie : s.fieldDie d = true) (hport : p < 8)
    (hdetected : s.watchState d p = 4) (habsorb : s.get d (F.CWT_P_TRACK_ABSORB p) ≠ 0)
    (hpending : (s.watchOf d p).pendingRec = none) : ∃ (u : State) (w : Watch) (base : Int × Int),
    State.WatchKept d p s u ∧ w.reported = false ∧ exec (.watchAbsorb d p) s = .next
      (if (s.watchOf d p).reported = true then
        let z := ((u.absorbed d p w).raise d 0x0E 2).watchRecord d p 3 false base (s.get d (F.CWT_P_CFG_DEB p) + 1)
        (z.1.setWatch d p { z.1.watchOf d p with pendingRec := some (z.1.watchTime d, z.2) }).flushWatch
      else u.absorbed d p w) := by
  have hguard : (s.fieldDie d && decide (p < 8) && s.watchState d p == 4
      && s.get d (F.CWT_P_TRACK_ABSORB p) != 0 && (s.watchOf d p).pendingRec.isNone) = true := by
    simp [hdie, hport, hdetected, habsorb, hpending]
  have hkept := State.WatchKept.takeBase (d := d) (p := p) s
  have hreported : (s.watchOf d p).reported = ((s.takeBase d p).1.watchOf d p).reported := by
    unfold State.watchOf
    rw [hkept.watches]
  rw [hreported]
  exact ⟨_, _, _, (hkept.trans (State.WatchKept.freeDiv _ _ _)).trans (State.WatchKept.freeDiv _ _ _), rfl,
    next_when hguard rfl⟩

/-- Settles O20, by the guard of a due probe, the exchange of an ended one,
  and what an absorption leaves of the port. -/
theorem cardWatch : Obligations.CardWatch := by
  refine ⟨?probeStarts, ?probeTooLow, ?probeDue, ?probeDueElse, ?probeQuiet, ?probeRecord, ?probeHeld,
    ?absorbQuiet, ?absorbReported, ?watchTempSample⟩
  case probeStarts =>
    rintro s die port sl level u hdie hport hwatchState hwatchState2 hpageOn hnone hservingSlice rfl hactive
      hsequenced rfl hlevel
    refine next_when (by simp [hdie, hport, hwatchState, hwatchState2, hpageOn, hnone]) ?_
    rw [hservingSlice]
    exact (if_pos ⟨hactive, by rw [hsequenced]; rfl⟩).trans (if_neg (Nat.not_lt.2 hlevel))
  case probeTooLow =>
    rintro s die port sl level u hdie hport hwatchState hwatchState2 hpageOn hnone hservingSlice rfl hactive
      hsequenced rfl hlevel
    refine next_when (by simp [hdie, hport, hwatchState, hwatchState2, hpageOn, hnone]) ?_
    rw [hservingSlice]
    exact (if_pos ⟨hactive, by rw [hsequenced]; rfl⟩).trans (if_pos hlevel)
  case probeDue =>
    rintro s die port sl level hdie hport hwatchState hwatchState2 hpageOn hnone hservingSlice rfl hsequenced hlevel
    exact next_when (by simp [hdie, hport, hwatchState, hwatchState2, hpageOn, hnone])
      (by simp [hservingSlice, hsequenced, hlevel])
  case probeDueElse =>
    rintro s die port sl level hdie hport hwatchState hwatchState2 hpageOn hnone hservingSlice rfl hsequenced hlevel
      hexch
    exact next_when (by simp [hdie, hport, hwatchState, hwatchState2, hpageOn, hnone])
      (by simp [hservingSlice, hsequenced, Nat.not_lt.2 hlevel, hexch])
  case probeQuiet =>
    rintro s die port ampl detune e a b c u v w rec hport hexch hisProbe hprobing hfieldOn rfl rfl rfl hjudgeProbe
      rfl rfl rfl
    refine congrArg Host.Outcome.next ?_
    rw [hexch]
    refine (if_pos ⟨hisProbe, hprobing, hfieldOn⟩).trans ?_
    dsimp only
    rw [hjudgeProbe]
  case probeRecord =>
    rintro s die port ampl detune e a b c u v w rec r hport hexch hisProbe hprobing hfieldOn rfl rfl rfl hjudgeProbe
      rfl rfl hany rfl
    refine congrArg Host.Outcome.next ?_
    rw [hexch]
    refine (if_pos ⟨hisProbe, hprobing, hfieldOn⟩).trans ?_
    dsimp only
    rw [hjudgeProbe]
    dsimp only
    rw [if_pos hany]
  case probeHeld =>
    rintro s die port ampl detune e a b c u v w rec r hport hexch hisProbe hprobing hfieldOn rfl rfl rfl hjudgeProbe
      rfl rfl hany rfl
    refine congrArg Host.Outcome.next ?_
    rw [hexch]
    refine (if_pos ⟨hisProbe, hprobing, hfieldOn⟩).trans ?_
    dsimp only
    rw [hjudgeProbe]
    dsimp only
    rw [if_neg (ne_true_of_eq_false hany)]
  case absorbQuiet =>
    intro s die port hdie hport hdetected habsorb hpending hreported
    obtain ⟨u, w, base, hkept, hw, hexec⟩ := exec_watchAbsorb s hdie hport hdetected habsorb hpending
    rw [if_neg (ne_true_of_eq_false hreported)] at hexec
    obtain ⟨hmem, hexchs, hcoord⟩ := u.absorbed_frame die port w
    exact ⟨_, hexec, u.watchState_absorbed die port w, u.run_absorbed die port w,
      (congrArg Watch.reported (u.watchOf_absorbed die port w)).trans hw, hmem.trans hkept.mem,
        hexchs.trans hkept.exchs,
      hcoord.trans hkept.coord⟩
  case absorbReported =>
    intro s die port hdie hport hdetected habsorb hpending hreported
    obtain ⟨u, w, base, hkept, hw, hexec⟩ := exec_watchAbsorb s hdie hport hdetected habsorb hpending
    rw [if_pos hreported] at hexec
    exact ⟨_, hexec, u.absorbed die port w, _, _, base, u.watchState_absorbed die port w, u.run_absorbed die port w,
      (congrArg Watch.reported (u.watchOf_absorbed die port w)).trans hw, rfl, rfl⟩
  case watchTempSample =>
    intro s die temp hdie hwatch
    exact next_when (by simp [hdie, hwatch]) rfl

end Sys2Proof.Machine

namespace Sys2Proof.Machine

/-! Counters, first errors and the end of a serial frame: what the registers of a page header and of a counter read. -/

/-- A write of a field leaves a field of another register, or beside it in the same one. -/
theorem State.get_set_apart (s : State) {d : Nat} {f g : Fld} (v : Nat) (hfit : f.lo + f.width ≤ 32)
    (h : hostAddr d g.page g.off ≠ hostAddr d f.page f.off ∨
      g.page = f.page ∧ g.off = f.off ∧ (g.lo + g.width ≤ f.lo ∨ f.lo + f.width ≤ g.lo)) :
    (s.set d f v).get d g = s.get d g := by
  rcases h with hne | ⟨hpage, hoff, hbeside⟩
  · exact State.get_set_ne s f g v hne
  · exact State.get_set_beside s d f g v hpage hoff hfit hbeside

section CountUp
variable (s : State) {d : Nat} {cnt ovf : Fld} (n : Nat) (hcnt : cnt.lo + cnt.width ≤ 32) (hw : ovf.width = 1)
  (hovf : ovf.lo < 32) (hapart : hostAddr d ovf.page ovf.off ≠ hostAddr d cnt.page cnt.off ∨
    ovf.page = cnt.page ∧ ovf.off = cnt.off ∧ (ovf.lo < cnt.lo ∨ cnt.lo + cnt.width ≤ ovf.lo))
include hcnt hw hovf hapart

/-- R14: the count of a counter after `n` events. -/
theorem State.get_countUp_count :
    (s.countUp d cnt ovf n).get d cnt = min (2 ^ cnt.width - 1) (s.get d cnt + n) := by
  have hpos : 0 < 2 ^ cnt.width := Nat.two_pow_pos cnt.width
  unfold State.countUp
  dsimp only
  split
  next hfull =>
    rw [State.get_set_apart _ 1 (by omega) (hapart.imp Ne.symm fun ⟨hp, ho, h⟩ => ⟨hp.symm, ho.symm, by omega⟩),
      State.get_set_same _ _ _ _ hcnt, Nat.mod_eq_of_lt (by omega), Nat.min_eq_left hfull]
  next hroom =>
    rw [State.get_set_same _ _ _ _ hcnt, Nat.mod_eq_of_lt (by omega), Nat.min_eq_right (by omega)]

/-- R14: the overflow flag of a counter after `n` events. -/
theorem State.flag_countUp_ovf :
    (s.countUp d cnt ovf n).flag d ovf = (decide (2 ^ cnt.width - 1 ≤ s.get d cnt + n) || s.flag d ovf) := by
  unfold State.countUp State.flag
  dsimp only
  split
  next hfull => rw [State.get_set_same _ _ _ _ (by omega), hw, decide_eq_true hfull]; rfl
  next hroom =>
    rw [State.get_set_apart _ _ hcnt (hapart.imp_right fun ⟨hp, ho, h⟩ => ⟨hp, ho, by omega⟩),
      decide_eq_false hroom,
      Bool.false_or]

end CountUp

/-- Settles O56, by the counter below and at its maximum. -/
theorem counterSaturates : Obligations.CounterSaturates := fun s _ cnt ovf n hcnt hw hovf hapart =>
  ⟨s.get_countUp_count n hcnt hw hovf hapart, s.flag_countUp_ovf n hcnt hw hovf hapart,
    fun _ _ _ hc ho => State.reg_countUp_ne s cnt ovf n hc ho⟩

/-- R97: with PG_FIRSTERR clear, an error is the new first error and counts 1. -/
theorem State.err_of_clear {s : State} {d p : Nat} (c : Nat) (hclear : s.reg d p 0x014 = 0) :
    (s.err d p c).get d (F.PG_ERR_CODE p) = c % 65536 ∧ (s.err d p c).get d (F.PG_ERR_COUNT p) = 1 ∧
      (s.err d p c).flag d (F.PG_ERR_OVF p) = false := by
  have hcount : s.get d (F.PG_ERR_COUNT p) = 0 := congrArg (bits · 16 15) hclear
  have hovf : s.get d (F.PG_ERR_OVF p) = 0 := congrArg (bits · 31 1) hclear
  refine ⟨by rw [State.get_err_code, if_pos hcount], by rw [State.get_err_count, hcount]; rfl, ?_⟩
  unfold State.err
  dsimp only
  rw [if_pos hcount, State.flag_countUp_ovf (cnt := F.PG_ERR_COUNT p) (ovf := F.PG_ERR_OVF p) _ 1
    (show 16 + 15 ≤ 32 by decide) rfl (show 31 < 32 by decide)
    (.inr ⟨rfl, rfl, .inr (show 16 + 15 ≤ 31 by decide)⟩)]
  have hbeside (g : Fld) (hpage : g.page = p) (hoff : g.off = 0x014) (hlo : 16 ≤ g.lo) :
      (s.set d (F.PG_ERR_CODE p) c).get d g = s.get d g :=
    State.get_set_beside s d (F.PG_ERR_CODE p) g c hpage hoff (show 0 + 16 ≤ 32 by decide) (.inr hlo)
  unfold State.flag
  rw [hbeside (F.PG_ERR_COUNT p) rfl rfl (show 16 ≤ 16 by decide), hbeside (F.PG_ERR_OVF p) rfl rfl
    (show 16 ≤ 31 by decide),
    hcount, hovf]
  rfl

/-- Settles O59, by what an error leaves in PG_FIRSTERR, clear or not. -/
theorem firstErrorRecord : Obligations.FirstErrorRecord := by
  refine ⟨fun s d p c => ⟨State.get_err_code s d p c, State.get_err_count s d p c,
    fun d' p' o h => State.reg_err_ne s c h⟩, fun s d p c v hawake himpl hserv hlock => ?_⟩
  have hclear : (s.setReg d p 0x014 0).reg d p 0x014 = 0 := State.reg_setReg_same ..
  have hopen (f : State → State) : s.pageAccess d p (fun s => s.hostWrite d p f) = f s :=
    (State.pageAccess_open _ hawake himpl hserv).trans (State.hostWrite_open f hawake hlock)
  refine ⟨⟨_, congrArg Host.Outcome.next (hopen _), hclear, State.err_of_clear c hclear⟩,
    _, congrArg Host.Outcome.next (hopen _), ?_⟩
  have hfirst := State.err_of_clear (c % 65536) hclear
  rwa [Nat.mod_mod] at hfirst

/-- R124: the end of a frame writes HSP_LASTERR, and nothing else of the registers without a code. -/
theorem State.reg_lasterr_ne (s : State) (h : Hsp) (code : Nat) {d p o : Nat}
    (hne : hostAddr d p o ≠ hostAddr 0 0x06 F.HSP_LASTERR_CODE.off) :
    (({ s with hsp := h } : State).set 0 F.HSP_LASTERR_CODE code).reg d p o = s.reg d p o :=
  State.reg_set_ne { s with hsp := h } F.HSP_LASTERR_CODE code hne

/-- R156, R157: what a reject records: its first error, its count and its event. -/
def State.rejected (s : State) (code : Nat) : State :=
  ((s.err 0 0x06 code).countUp 0 F.HSP_CNT_REJECT_COUNT F.HSP_CNT_REJECT_OVF 1).raise 0 0x06 0

theorem State.rejected_frame (s : State) (code : Nat) :
    (s.rejected code).hsp = s.hsp ∧ (s.rejected code).mem = s.mem := by
  unfold State.rejected
  exact ⟨by rw [State.raise_hsp, State.countUp_hsp, State.err_hsp],
    by rw [State.raise_mem, State.countUp_mem, State.err_mem]⟩

/-- A reject touches the header and the counter of page HSP and the interrupt controller. -/
theorem State.reg_rejected_ne (s : State) (code : Nat) {d p o : Nat} (hevt : hostAddr d p o ≠ hostAddr 0 0x06 0x00C)
    (herr : hostAddr d p o ≠ hostAddr 0 0x06 0x014) (hcnt : hostAddr d p o ≠ hostAddr 0 0x06 0x02C)
    (hicu : hostAddr d p o < 0x5000 ∨ 0x6000 ≤ hostAddr d p o) : (s.rejected code).reg d p o = s.reg d p o := by
  unfold State.rejected
  rw [State.reg_raise_ne _ _ hevt hicu,
    State.reg_countUp_ne _ F.HSP_CNT_REJECT_COUNT F.HSP_CNT_REJECT_OVF _ hcnt hcnt, State.reg_err_ne _ _ herr]

theorem State.frameEnd_eq (s : State) (code : Nat) : s.frameEnd code =
    let h : Hsp := { s.hsp with err := code != 0, frame := none, statusOn := false, selLow := false }
    let t := ({ s with hsp := h } : State).set 0 F.HSP_LASTERR_CODE code
    if code = 0 then t else t.rejected code :=
  rfl

/-- Settles O10, by the frames that are accepted and those that are rejected. -/
theorem frameEndRecords : Obligations.FrameEndRecords := by
  intro s code hcode
  rw [State.frameEnd_eq]
  extract_lets _ _ t
  have hlast : t.get 0 F.HSP_LASTERR_CODE = code :=
    (State.get_set_same _ _ _ _ (show 0 + 16 ≤ 32 by decide)).trans (Nat.mod_eq_of_lt hcode)
  have hreg {d p o : Nat} (hne : hostAddr d p o ≠ hostAddr 0 0x06 F.HSP_LASTERR_CODE.off) : t.reg d p o = s.reg d p o
    :=
    State.reg_lasterr_ne s _ code hne
  have hpages {d p o off : Nat} (hout : hostAddr d p o / 4096 ∉ [0x05, 0x06]) (hoff : off < 4096) :
      hostAddr d p o ≠ hostAddr 0 0x06 off := by
    rintro heq
    have hsix : hostAddr d p o / 4096 = 6 := by rw [heq]; unfold hostAddr; omega
    simp [hsix] at hout
  split
  next hz =>
    exact ⟨hlast, State.set_hsp .., State.set_mem .., fun d p o hout => hreg (hpages hout (by decide)),
      fun _ d p o hne => hreg hne⟩
  next hnz =>
    obtain ⟨hhsp, hmem⟩ := t.rejected_frame code
    refine ⟨Eq.trans ?_ hlast, hhsp.trans (State.set_hsp ..), hmem.trans (State.set_mem ..), fun d p o hout => ?_,
      fun hz => absurd hz hnz⟩
    · unfold State.get
      rw [State.reg_rejected_ne _ _ (by decide) (by decide) (by decide) (.inr (by decide))]
    · have hicu : hostAddr d p o < 0x5000 ∨ 0x6000 ≤ hostAddr d p o := by
        simp only [List.mem_cons, List.not_mem_nil, not_or] at hout
        omega
      rw [State.reg_rejected_ne _ _ (hpages hout (by decide)) (hpages hout (by decide)) (hpages hout (by decide)) hicu,
        hreg (hpages hout (by decide))]

end Sys2Proof.Machine

namespace Sys2Proof.Machine

/-- Settles O21, by the receiver state that each event acts in. -/
theorem receiverSearch : Obligations.ReceiverSearch := by
  refine ⟨?rxRssiDetect, ?rxPreambleQualified, ?rxDetectTimeout, ?rxSfdTimeout, ?rxSfdFound, ?rxSfdFoundElse,
    ?freeSfdCredit, ?freeSfdRefused, ?rxAgcRerunEnd, ?rssiUpdate, ?rssiUpdateElse, ?rssiUpdateOther,
    ?rssiUpdateThird, ?rxRssiDetectElse, ?rxPreambleQualifiedElse, ?rxDetectTimeoutElse, ?rxSfdTimeoutElse,
    ?rxSfdFoundOther, ?rxFreeSfd, ?rxAgcRerunEndElse⟩
  case rxRssiDetect =>
    intro s rssi hrxState hrssiThr
    exact next_when (by simp [hrxState, hrssiThr]) rfl
  case rxPreambleQualified =>
    intro s hrxState
    exact next_when (by simp [hrxState]) rfl
  case rxDetectTimeout =>
    intro s symbols rssi hrxState hrssiThr
    exact next_when (by simp [hrxState, hrssiThr]) rfl
  case rxSfdTimeout =>
    intro s hrxState
    exact next_when (by simp [hrxState]) rfl
  case rxSfdFound =>
    intro s rssi hrxState hrxCredit
    exact next_when (by simp [hrxState]) (by simp [hrxCredit])
  case rxSfdFoundElse =>
    intro s rssi hrxState hrxCredit
    exact next_when (by simp [hrxState]) (by simp [hrxCredit])
  case freeSfdCredit =>
    intro s hrxState hrxCredit
    exact next_when (by rcases hrxState with h | h | h <;> rw [h] <;> rfl) (if_pos hrxCredit)
  case freeSfdRefused =>
    intro s hrxState hrxCredit
    exact next_when (by rcases hrxState with h | h | h <;> rw [h] <;> rfl) (if_neg (ne_true_of_eq_false hrxCredit))
  case rxAgcRerunEnd =>
    intro s rssi step hrxState
    exact next_when (by simp [hrxState]) rfl
  case rssiUpdate =>
    rintro s rssi step u v hrstate rfl hrxState rfl hrxState2
    exact next_when (by simp [hrstate]) (by simp [hrxState, hrxState2])
  case rssiUpdateElse =>
    rintro s rssi step u v hrstate rfl hrxState rfl hrxState2
    exact next_when (by simp [hrstate]) (by simp [hrxState, hrxState2])
  case rssiUpdateOther =>
    rintro s rssi step u hrstate rfl hrxState hrxState2
    exact next_when (by simp [hrstate]) (by simp [hrxState, hrxState2])
  case rssiUpdateThird =>
    intro s rssi step hrstate
    exact next_unless (by simp [hrstate])
  case rxRssiDetectElse =>
    intro s rssi hrssiThr
    exact next_unless (by rcases hrssiThr with hrssiThr | hrssiThr <;> simp [hrssiThr])
  case rxPreambleQualifiedElse =>
    intro s hrxState
    exact next_unless (by simp [hrxState])
  case rxDetectTimeoutElse =>
    intro s symbols rssi hrssiThr
    exact next_unless (by
      rcases hrssiThr with hrssiThr | ⟨hrssiThrA, hrssiThrB⟩
      · simp [hrssiThr]
      · simp [hrssiThrA, hrssiThrB])
  case rxSfdTimeoutElse =>
    intro s hrxState
    exact next_unless (by simp [hrxState])
  case rxSfdFoundOther =>
    intro s rssi hrxState
    exact next_unless (by simp [hrxState])
  case rxFreeSfd =>
    intro s hrxState hrxState2 hrxState3
    exact next_unless (by simp [hrxState, hrxState2, hrxState3])
  case rxAgcRerunEndElse =>
    intro s rssi step hrxState
    exact next_unless (by simp [hrxState])

end Sys2Proof.Machine

namespace Sys2Proof.Machine

/-- Settles O22, by the receiver state, the reception in hand and its CRC. -/
theorem receiverFrames : Obligations.ReceiverFrames := by
  refine ⟨?rxHeaderEnd, ?rxHeaderEndElse, ?rxHeaderEndOther, ?rxCapture, ?rxCaptureElse, ?rxCaptureOther,
    ?noHeader, ?noPayload, ?otherLength, ?badCrc, ?goodCrc, ?badIsariCrc, ?goodIsariCrc⟩
  case rxHeaderEnd =>
    rintro s header fofs r h hrxState hrx rfl hisari
    exact next_when (by simp [hrxState]) (by simp [hrx, hisari])
  case rxHeaderEndElse =>
    rintro s header fofs r h more u hrxState hrx rfl hisari rfl hcls rfl
    exact next_when (by simp [hrxState]) (by simp [hrx, hisari, hcls])
  case rxHeaderEndOther =>
    rintro s header fofs r h more hrxState hrx rfl hisari rfl hcls
    exact next_when (by simp [hrxState]) (by simp [hrx, hisari, hcls])
  case rxCapture =>
    rintro s rssi ownWord hreceiving hcaptCaptEn rfl hrssiLatched hrxCredit
    exact next_when (by simp [hreceiving, hcaptCaptEn, hrssiLatched]) (by simp [hrxCredit])
  case rxCaptureElse =>
    rintro s rssi ownWord hreceiving hcaptCaptEn rfl hrssiLatched hrxCredit
    exact next_when (by simp [hreceiving, hcaptCaptEn, hrssiLatched]) (by simp [hrxCredit])
  case rxCaptureOther =>
    intro s rssi ownWord hcaptCaptEn
    exact next_unless (by rcases hcaptCaptEn with hcaptCaptEn | hcaptCaptEn | hcaptCaptEn | hcaptCaptEn
      <;> simp [hcaptCaptEn])
  case noHeader =>
    intro s header fofs hrx
    refine congrArg Host.Outcome.next ?_
    rcases hrx with h | h
    · exact State.when_false _ (beq_eq_false_iff_ne.2 h)
    · dsimp only [execRxHeaderEnd, State.when]
      rw [h, ite_self]
  case noPayload =>
    intro s payload hrx
    refine congrArg Host.Outcome.next ?_
    rcases hrx with h | h
    · exact State.when_false _ (beq_eq_false_iff_ne.2 h)
    · dsimp only [execRxPayloadEnd, State.when]
      rw [h, ite_self]
  case otherLength =>
    intro s payload r hrxState hrx hheader
    refine next_when (by rw [hrxState]; rfl) ?_
    rw [hrx]
    dsimp only
    cases hisari : r.isari <;> rw [hisari] at hheader <;> exact State.when_false _ (beq_eq_false_iff_ne.2 hheader)
  case badCrc =>
    rintro s payload r body u hrxState hrx hisari hheader rfl rfl hplain
    refine next_when (by rw [hrxState]; rfl) ?_
    rw [hrx]
    dsimp only
    rw [hisari, if_neg Bool.false_ne_true, State.when_true _
      (beq_iff_eq.2 hheader), if_neg Bool.false_ne_true, beq_eq_false_iff_ne.2 hplain]
    rfl
  case goodCrc =>
    rintro s payload r body u v w a k data hrxState hrx hisari hheader rfl rfl hplain hrxSecurity rfl
    refine next_when (by rw [hrxState]; rfl) ?_
    rw [hrx]
    dsimp only
    rw [hisari, if_neg Bool.false_ne_true, State.when_true _
      (beq_iff_eq.2 hheader), if_neg Bool.false_ne_true, beq_iff_eq.2 hplain]
    dsimp only at hrxSecurity
    simp only [if_true, hrxSecurity]
  case badIsariCrc =>
    rintro s payload r body u c hrxState hrx hisari hheader rfl rfl rfl hofNat
    refine next_when (by rw [hrxState]; rfl) ?_
    rw [hrx]
    dsimp only
    rw [hisari, if_pos rfl, State.when_true _ (beq_iff_eq.2 hheader), if_pos rfl, beq_eq_false_iff_ne.2 hofNat]
    rfl
  case goodIsariCrc =>
    rintro s payload r body u v w a k data c hrxState hrx hisari hheader rfl rfl rfl hofNat hrxSecurity rfl
    refine next_when (by rw [hrxState]; rfl) ?_
    rw [hrx]
    dsimp only
    rw [hisari, if_pos rfl, State.when_true _ (beq_iff_eq.2 hheader), if_pos rfl, beq_iff_eq.2 hofNat]
    dsimp only at hrxSecurity
    simp only [if_true, hrxSecurity]

end Sys2Proof.Machine

namespace Sys2Proof.Machine

/-- The conditions of R475 under which the command at the head of the radio queue starts. -/
def State.radioReady (s : State) : Bool :=
  s.awake && !s.radio.running && s.radio.goal.isNone && s.flag 0 F.RFC_STAT_PERMIT && s.pageOn 0 0x10 &&
    s.pageOn 0 0x0F && !s.radioTested && !(s.get 0 F.PWR_STAT_PADHELD).testBit 2 && !s.coord.loading &&
    decide (s.power.phase = .none)

/-- The state in which the command at the head has started. -/
def State.radioRuns (s : State) : State :=
  { s.abandonHop with radio := { s.abandonHop.radio with running := true } }

/-- R477: a TX command starts, and waits for its credit, which is counted once. -/
theorem next_radioTx {s : State} {c : RadioCmd} {cs : List RadioCmd} (hready : s.radioReady = true)
    (hqueue : s.radio.queue = c :: cs) (hcode : c.code = 5) : exec (.radioCmdStart) s = .next
      (if s.radioRuns.canReserve (s.radioRuns.get 0 F.RFC_CFG_TXCLASS) 6 ∨ s.radioRuns.radio.creditSeen then
        s.radioRuns
      else ({ s.radioRuns with radio := { s.radioRuns.radio with creditSeen := true } } : State).countUp 0
        F.RFC_CNT_CREDIT_COUNT F.RFC_CNT_CREDIT_OVF 1) := by
  refine next_when hready ?_
  rw [hqueue]
  exact (if_neg (by rw [hcode]; decide)).trans (if_pos hcode)

/-- Settles O23, by the conditions of a start and the code of the command at the head. -/
theorem radioCommandQueue : Obligations.RadioCommandQueue := by
  refine ⟨?radioCmdSleep, ?radioCmdStandby, ?radioCmdSynth, ?radioCmdRx, ?radioCmdTx, ?radioCmdCal,
    ?radioCmdCalAll, ?radioCmdFlush, ?radioCmdStart, ?txCredit, ?txWaits, ?txCounted, ?radioCmdStartElse,
    ?radioCmdStartOther, ?toState, ?radioCmdStartThird, ?radioCmdStartFourth, ?notReady, ?queueRadio⟩
  case radioCmdSleep =>
    intro s hawake hlock
    exact next_hostWrite hawake hlock rfl
  case radioCmdStandby =>
    intro s hawake hlock
    exact next_hostWrite hawake hlock rfl
  case radioCmdSynth =>
    intro s channel hawake hlock
    exact next_hostWrite hawake hlock rfl
  case radioCmdRx =>
    intro s channel hawake hlock
    exact next_hostWrite hawake hlock rfl
  case radioCmdTx =>
    intro s after pri template channel ticket hawake hlock
    exact next_hostWrite hawake hlock rfl
  case radioCmdCal =>
    intro s channel hawake hlock
    exact next_hostWrite hawake hlock rfl
  case radioCmdCalAll =>
    intro s hawake hlock
    exact next_hostWrite hawake hlock rfl
  case radioCmdFlush =>
    intro s hawake hlock
    exact next_hostWrite hawake hlock rfl
  case radioCmdStart =>
    rintro s c cs u hawake hrunning hgoal hstatPermit hpageOn hpageOn2 hradioTested hstatPadheld hloading hnone
      hqueue rfl hcode
    exact next_when (by simp [hawake, hrunning, hgoal, hstatPermit, hpageOn, hpageOn2, hradioTested, hstatPadheld,
      hloading, hnone]) (by simp [hqueue, hcode])
  case txCredit =>
    rintro s c cs u hawake hrunning hgoal hstatPermit hpageOn hpageOn2 hradioTested hstatPadheld hloading hnone
      hqueue rfl hcode hcfgTxclass
    have hready : s.radioReady = true := by simp [State.radioReady, hawake, hrunning, hgoal, hstatPermit, hpageOn,
      hpageOn2, hradioTested, hstatPadheld, hloading, hnone]
    exact (next_radioTx hready hqueue hcode).trans (congrArg _ (if_pos (.inl hcfgTxclass)))
  case txWaits =>
    rintro s c cs u hawake hrunning hgoal hstatPermit hpageOn hpageOn2 hradioTested hstatPadheld hloading hnone
      hqueue rfl hcode hcfgTxclass hcreditSeen
    have hready : s.radioReady = true := by simp [State.radioReady, hawake, hrunning, hgoal, hstatPermit, hpageOn,
      hpageOn2, hradioTested, hstatPadheld, hloading, hnone]
    exact (next_radioTx hready hqueue hcode).trans (congrArg _ (if_pos (.inr hcreditSeen)))
  case txCounted =>
    rintro s c cs u hawake hrunning hgoal hstatPermit hpageOn hpageOn2 hradioTested hstatPadheld hloading hnone
      hqueue rfl hcode hcfgTxclass hcreditSeen
    have hready : s.radioReady = true := by simp [State.radioReady, hawake, hrunning, hgoal, hstatPermit, hpageOn,
      hpageOn2, hradioTested, hstatPadheld, hloading, hnone]
    refine (next_radioTx hready hqueue hcode).trans (congrArg _ (if_neg (not_or.2 ⟨?_, ?_⟩)))
    · exact ne_true_of_eq_false hcfgTxclass
    · exact ne_true_of_eq_false hcreditSeen
  case radioCmdStartElse =>
    rintro s c cs u hawake hrunning hgoal hstatPermit hpageOn hpageOn2 hradioTested hstatPadheld hloading hnone
      hqueue rfl hcode
    exact next_when (by simp [hawake, hrunning, hgoal, hstatPermit, hpageOn, hpageOn2, hradioTested, hstatPadheld,
      hloading, hnone]) (by simp [hqueue, hcode])
  case radioCmdStartOther =>
    rintro s c cs u hawake hrunning hgoal hstatPermit hpageOn hpageOn2 hradioTested hstatPadheld hloading hnone
      hqueue rfl hcode
    exact next_when (by simp [hawake, hrunning, hgoal, hstatPermit, hpageOn, hpageOn2, hradioTested, hstatPadheld,
      hloading, hnone]) (by simp [hqueue, hcode])
  case toState =>
    rintro s c cs u hawake hrunning hgoal hstatPermit hpageOn hpageOn2 hradioTested hstatPadheld hloading hnone
      hqueue rfl hcode
    have hready : s.radioReady = true := by simp [State.radioReady, hawake, hrunning, hgoal, hstatPermit, hpageOn,
      hpageOn2, hradioTested, hstatPadheld, hloading, hnone]
    refine next_when hready ?_
    rw [hqueue]
    dsimp only
    rcases hcode with h | h <;> rw [h] <;> rfl
  case radioCmdStartThird =>
    rintro s c cs u hawake hrunning hgoal hstatPermit hpageOn hpageOn2 hradioTested hstatPadheld hloading hnone
      hqueue rfl hcode
    exact next_when (by simp [hawake, hrunning, hgoal, hstatPermit, hpageOn, hpageOn2, hradioTested, hstatPadheld,
      hloading, hnone]) (by simp [hqueue, hcode])
  case radioCmdStartFourth =>
    rintro s c cs u v hawake hrunning hgoal hstatPermit hpageOn hpageOn2 hradioTested hstatPadheld hloading hnone
      hqueue rfl hcode rfl
    exact next_when (by simp [hawake, hrunning, hgoal, hstatPermit, hpageOn, hpageOn2, hradioTested, hstatPadheld,
      hloading, hnone]) (by simp [hqueue, hcode])
  case notReady =>
    intro s hawake
    refine congrArg Host.Outcome.next ?_
    by_cases hready : s.radioReady = true
    · have hempty : s.radio.queue = [] := by
        simp only [State.radioReady, Bool.and_eq_true, Bool.not_eq_true', decide_eq_true_eq,
          Option.isNone_iff_eq_none] at hready
        simpa [hready] using hawake
      refine (State.when_true _ hready).trans ?_
      rw [hempty]
    · exact State.when_false _ (Bool.not_eq_true _ ▸ hready)
  case queueRadio =>
    intro s c hlo hhi
    have hinvalid : s.radioInvalid c = true ↔ c.code = 5 ∧ 2 < c.after ∨
        (c.code = 3 ∨ c.code = 4 ∨ c.code = 5 ∨ c.code = 6) ∧ s.hopEn c.channel = false := by
      have hcode : ¬(c.code = 0 ∨ 8 < c.code) := by omega
      simp [State.radioInvalid, hcode, or_assoc]
    refine ⟨fun hfull => if_pos hfull, fun hroom => ⟨fun hbad => ?_, fun hgood => ?_⟩⟩
    · exact (if_neg (Nat.not_le.2 hroom)).trans (if_pos (hinvalid.2 hbad))
    · exact (if_neg (Nat.not_le.2 hroom)).trans (if_neg (mt hinvalid.1 hgood))

end Sys2Proof.Machine

namespace Sys2Proof.Machine

/-- A guarded meaning that would change nothing changes nothing under any guard. -/
theorem next_of_unchanged {s : State} {c : Bool} {f : State → State} (hf : f s = s) :
    (.next (s.when c f) : Out) = .next s := by
  cases c
  · exact next_unless rfl
  · exact next_when rfl hf

@[simp] theorem length_airBits (n x : Nat) : (airBits n x).length = n := by simp [airBits]

/-- A list put together of parts of one length. -/
theorem length_flatten_map {α β : Type} {f : α → List β} {n : Nat} (hf : ∀ a, (f a).length = n) (l : List α) :
    (l.map f).flatten.length = n * l.length := by
  induction l with
  | nil => rfl
  | cons a l ih => rw [List.map_cons, List.flatten_cons, List.length_append, hf, ih, List.length_cons, Nat.mul_succ,
    Nat.add_comm]

@[simp] theorem length_spreadBits (seq bs : List Bool) : (spreadBits seq bs).length = seq.length * bs.length :=
  length_flatten_map (fun _ => List.length_map _) bs

@[simp] theorem length_payloadBits (frame : List Byte) : (payloadBits frame).length = 8 * frame.length :=
  length_flatten_map (fun _ => by simp) frame

/-- R437: the encoder gives two bits for one. -/
@[simp] theorem length_convFrom (st bs : List Bool) : (convFrom st bs).length = 2 * bs.length := by
  induction bs generalizing st with
  | nil => rfl
  | cons b bs ih => simp [convFrom, ih]; omega

@[simp] theorem length_convCode (bs : List Bool) : (convCode bs).length = 2 * (bs.length + 6) := by
  simp [convCode]

theorem length_spreadZero (mode : Nat) :
    (spreadZero mode).length = if mode = 0 then 4 else if mode = 1 then 8 else 16 := by
  unfold spreadZero
  split
  · exact length_airBits _ _
  · split <;> exact length_airBits _ _

/-- Settles O24, by the state the radio heads for, the command at the head and the frame on air. -/
theorem radioStatesAndTransmit : Obligations.RadioStatesAndTransmit := by
  refine ⟨?stateReached, ?noneReached, ?txReserved, ?txRefused, ?txNoCredit, ?txRampStart, ?txRampStartElse,
    ?txRampStartOther, ?txLastChip, ?synthLockLoss, ?txSynthDeadline, ?maskMeasure, ?txLastChipElse,
    ?synthLockLossElse, ?synthLate, ?maskMeasureElse, ?maskMeasureOther, ?chips⟩
  case stateReached =>
    rintro s st n u v w x hawake hfinishWaits hradioNext rfl rfl rfl hstatCxreq
    refine next_when hawake ?_
    rw [hradioNext]
    dsimp only
    refine (State.when_true _ (by rw [hfinishWaits]; rfl)).trans ?_
    rw [hstatCxreq]
    simp only [Bool.not_eq_true']
  case noneReached =>
    intro s hawake hradioNext
    refine next_when hawake ?_
    rcases hradioNext with h | h
    · cases hn : s.radioNext
      · rfl
      · exact State.when_false _ (by rw [h]; rfl)
    · rw [h]
  case txReserved =>
    rintro s c cls st x u hawake hrunning htx hhead rfl hcode hcanReserve hprepareTx rfl rfl
    refine next_when (by rw [hawake, hrunning, htx]; rfl) ?_
    rw [hhead]
    refine (State.when_true _ (by rw [hcode, hcanReserve]; rfl)).trans ?_
    dsimp only
    rw [hprepareTx]
    rfl
  case txRefused =>
    rintro s c cls st x u hawake hrunning htx hhead rfl hcode hcanReserve hprepareTx rfl hst
    refine next_when (by rw [hawake, hrunning, htx]; rfl) ?_
    rw [hhead]
    refine (State.when_true _ (by rw [hcode, hcanReserve]; rfl)).trans ?_
    dsimp only
    rw [hprepareTx, if_neg hst]
  case txNoCredit =>
    intro s c hhead hcfgTxclass
    refine next_of_unchanged ?_
    rw [hhead]
    exact State.when_false _ (by rw [hcfgTxclass, Bool.and_false])
  case txRampStart =>
    rintro s x charge hawake hrampReady htx rfl hsubband hsubband2
    exact next_when (by simp [hawake, hrampReady]) (by simp [htx, hsubband, Nat.not_le.2 hsubband2])
  case txRampStartElse =>
    rintro s x y charge ctr u v w hawake hrampReady htx rfl hsubband rfl rfl rfl rfl rfl
    exact next_when (by simp [hawake, hrampReady]) (by simp [htx, hsubband])
  case txRampStartOther =>
    intro s hawake
    exact next_unless (by rcases hawake with hawake | hawake <;> simp [hawake])
  case txLastChip =>
    intro s hsending
    exact next_unless (by simp [hsending])
  case synthLockLoss =>
    intro s hsending
    exact next_unless (by simp [hsending])
  case txSynthDeadline =>
    intro s hsending
    exact next_unless (by rcases hsending with hsending | hsending <;> simp [hsending])
  case maskMeasure =>
    intro s below hcfgIsari
    exact next_unless (by rcases hcfgIsari with hcfgIsari | hcfgIsari <;> simp [hcfgIsari])
  case txLastChipElse =>
    intro s hsending
    exact next_when (by simp [hsending]) rfl
  case synthLockLossElse =>
    intro s hsending
    exact next_when (by simp [hsending]) rfl
  case synthLate =>
    intro s x c htx hsending hhead hchannel
    refine next_when (by rw [htx, hsending]; rfl) ?_
    rw [hhead]
    refine State.when_true _ ?_
    rcases hchannel with ⟨h, h'⟩ | h | h <;> simp [*]
  case maskMeasureElse =>
    rintro s below x bad hsending hcfgIsari htx rfl hcontains
    exact next_when (by simp [hsending, hcfgIsari]) (by simp [htx, hcontains])
  case maskMeasureOther =>
    rintro s below x bad hsending hcfgIsari htx rfl hcontains
    exact next_when (by simp [hsending, hcfgIsari]) (by simp [htx, hcontains])
  case chips =>
    rintro flags len frame rfl
    constructor
    · have hcoded : (if flags / 16 % 2 = 1 then convCode (payloadBits frame) else payloadBits frame).length =
          if flags / 16 % 2 = 1 then 2 * (8 * frame.length + 6) else 8 * frame.length := by
        rw [apply_ite List.length, length_convCode, length_payloadBits]
      rw [wearunakChips, List.length_append, length_spreadBits, length_spreadBits, length_spreadZero, length_spreadZero,
        hcoded, Nat.mul_comm (ite _ _ _) (ite (flags % 8 = 0) _ _)]
      simp
    · unfold isariChips
      have hbytes : (frame.map fun x => airBits 8 x.toNat).flatten.length = 8 * frame.length :=
        length_flatten_map (fun _ => length_airBits _ _) frame
      rw [length_spreadBits, List.length_append, hbytes]
      simp
      omega

end Sys2Proof.Machine

namespace Sys2Proof.Machine

section KeyOp
variable {s : State} {x : TxRun} {slot m : Nat} (words : List Word)

/-! R499: a key operation acts at once, but on the slot that the frame on its way uses. -/

theorem State.keyOp_idle (htx : s.radio.tx = none) : s.keyOp slot words = s.keySet slot words :=
  if_neg (by rw [htx]; exact Bool.false_ne_true)

theorem State.keyOp_open (htx : s.radio.tx = some x) (hopen : x.secure = none) :
    s.keyOp slot words = s.keySet slot words :=
  if_neg (by rw [htx]; dsimp only; rw [hopen]; exact Bool.false_ne_true)

theorem State.keyOp_other {l : Nat} {k : List Word} (htx : s.radio.tx = some x) (hsecure : x.secure = some (l, m, k))
  (hm : m ≠ slot) :
    s.keyOp slot words = s.keySet slot words :=
  if_neg (by rw [htx]; dsimp only; rw [hsecure]; exact ne_true_of_eq_false (beq_eq_false_iff_ne.2 hm))

theorem State.keyOp_used {l : Nat} {k : List Word} (htx : s.radio.tx = some x) (hsecure : x.secure = some
  (l, slot, k)) :
    s.keyOp slot words = { s with radio := { s.radio with keyOps := s.radio.keyOps ++ [(slot, words)] } } :=
  if_pos (by rw [htx]; dsimp only; rw [hsecure]; exact beq_self_eq_true _)

end KeyOp

/-- Settles O25, by the grant line, the entry being calibrated and the frame that uses a key slot. -/
theorem radioCoexDutyKeys : Obligations.RadioCoexDutyKeys := by
  refine ⟨?cxgntAssert, ?cxgntWithdraw, ?lastChipEnded, ?cutFrame, ?cxgntWithdrawElse, ?coexGrantTimeout,
    ?hopCalBackground, ?hopCalEnd, ?backgroundEnds, ?dutyClockSecond, ?hopCalEndElse, ?hopCalEndOther,
    ?notCalibrated, ?dutyClockSecondElse, ?keyLoadIdle, ?keyLoadOpen, ?keyLoadOther, ?keyLoadUsed,
    ?keyEraseIdle, ?keyEraseOpen, ?keyEraseOther, ?keyEraseUsed⟩
  case cxgntAssert =>
    intro s
    show execCxgntAssert  _ = _
    simp [execCxgntAssert]
  case cxgntWithdraw =>
    rintro s u rfl hcxMode
    show execCxgntWithdraw  _ = _
    simp [execCxgntWithdraw, hcxMode]
  case lastChipEnded =>
    rintro s u x rfl hcxMode hsending htx htxcfgRampT
    refine congrArg Host.Outcome.next ((if_neg (by rw [hcxMode]; decide)).trans ((if_pos hsending).trans ?_))
    rw [htx]
    dsimp only
    rw [decide_eq_true htxcfgRampT]
    rfl
  case cutFrame =>
    rintro s u x rfl hcxMode hsending htx htxcfgRampT
    refine congrArg Host.Outcome.next ((if_neg (by rw [hcxMode]; decide)).trans ((if_pos hsending).trans ?_))
    rw [htx]
    dsimp only
    rw [decide_eq_false (Nat.not_le.2 htxcfgRampT)]
    rfl
  case cxgntWithdrawElse =>
    rintro s u rfl hcxMode hsending
    show execCxgntWithdraw  _ = _
    simp [execCxgntWithdraw, hcxMode, hsending]
  case coexGrantTimeout =>
    intro s x htx hsending hcxMode hstatCxgnt
    exact next_when (by simp [htx, hsending, hcxMode, hstatCxgnt]) rfl
  case hopCalBackground =>
    rintro s entry u hawake hrstate hqueue hgoal hhopRun hdue hhopEn hnone hpageOn hradioTested rfl
    exact next_when (by simp [hawake, hrstate, hqueue, hgoal, hhopRun, hdue, hhopEn, hnone, hpageOn, hradioTested]) rfl
  case hopCalEnd =>
    rintro s entry temp band gain k u hawake hstartup rfl rfl hrstate hchan hhopRun
    exact next_when (by simp [hawake, hstartup, hrstate, hchan, hhopRun]) (by simp [hstartup, hrstate, hchan, hhopRun])
  case backgroundEnds =>
    rintro s entry temp band gain k u hawake hstartup rfl rfl hchan hhopRun
    have hstart : (s.radio.startup.head? == some entry) = false := by rw [hstartup]; rfl
    have hrun : (s.rstate == 2 && s.chan == entry) = false := by
      rcases hchan with h | h <;> simp [h]
    have hback : (s.radio.hopRun == some entry) = true := by rw [hhopRun]; exact beq_self_eq_true _
    refine next_when (by rw [hawake, hback, Bool.or_true]; rfl) ?_
    dsimp only
    rw [hstart, hrun, hback, if_neg (by simp), if_pos rfl, if_pos rfl, if_neg (by simp), if_neg (by simp)]
  case dutyClockSecond =>
    intro s hoff
    exact next_when (by simp [hoff]) rfl
  case hopCalEndElse =>
    rintro s entry temp band gain k rest u v hawake hstartup rfl rfl hrstate hhopRun rfl hisEmpty
    exact next_when (by simp [hawake, hstartup, hhopRun]) (by simp [hstartup, hrstate, hhopRun, hisEmpty])
  case hopCalEndOther =>
    rintro s entry temp band gain k rest u v hawake hstartup rfl rfl hrstate hhopRun rfl hisEmpty
    exact next_when (by simp [hawake, hstartup, hhopRun]) (by simp [hstartup, hrstate, hhopRun, hisEmpty])
  case notCalibrated =>
    intro s entry temp band gain hawake
    refine next_unless ?_
    rcases hawake with h | ⟨hstart, hrun, hback⟩
    · rw [h, Bool.false_and]
    · have hstart : (s.radio.startup.head? == some entry) = false := beq_eq_false_iff_ne.2 hstart
      have hback : (s.radio.hopRun == some entry) = false := beq_eq_false_iff_ne.2 hback
      rcases hrun with h | h <;> simp [hstart, hback, h]
  case dutyClockSecondElse =>
    intro s hoff
    exact next_unless (by simp [hoff])
  case keyLoadIdle =>
    intro s slot hawake hlock hslot htx
    exact next_hostWrite hawake hlock ((State.when_true _ (decide_eq_true hslot)).trans (State.keyOp_idle _ htx))
  case keyLoadOpen =>
    intro s slot x hawake hlock hslot htx hsecure
    exact next_hostWrite hawake hlock ((State.when_true _ (decide_eq_true hslot)).trans
      (State.keyOp_open _ htx hsecure))
  case keyLoadOther =>
    intro s slot x l m k hawake hlock hslot htx hsecure hm
    exact next_hostWrite hawake hlock ((State.when_true _ (decide_eq_true hslot)).trans
      (State.keyOp_other _ htx hsecure hm))
  case keyLoadUsed =>
    intro s slot x l k hawake hlock hslot htx hsecure
    exact next_hostWrite hawake hlock ((State.when_true _ (decide_eq_true hslot)).trans
      (State.keyOp_used _ htx hsecure))
  case keyEraseIdle =>
    intro s slot hawake hlock hslot htx
    exact next_hostWrite hawake hlock ((State.when_true _ (decide_eq_true hslot)).trans (State.keyOp_idle _ htx))
  case keyEraseOpen =>
    intro s slot x hawake hlock hslot htx hsecure
    exact next_hostWrite hawake hlock ((State.when_true _ (decide_eq_true hslot)).trans
      (State.keyOp_open _ htx hsecure))
  case keyEraseOther =>
    intro s slot x l m k hawake hlock hslot htx hsecure hm
    exact next_hostWrite hawake hlock ((State.when_true _ (decide_eq_true hslot)).trans
      (State.keyOp_other _ htx hsecure hm))
  case keyEraseUsed =>
    intro s slot x l k hawake hlock hslot htx hsecure
    exact next_hostWrite hawake hlock ((State.when_true _ (decide_eq_true hslot)).trans
      (State.keyOp_used _ htx hsecure))

end Sys2Proof.Machine

namespace Sys2Proof.Machine

/-- The rule of an instruction whose list has its turn. -/
theorem next_pleStep {s t : State} {n op : Nat} {r : PleRun} {room : Bool} {f : State → PleRun → Word → Word → State}
    (hrun : (s.pleList n).run = some r) (hengine : s.pleEngine = true) (hop : opOf (s.progWord r.pc) = op)
    (hselected : s.pleSelected = some n) (hwait : r.wait = .none)
    (hf : f { s with ple :=
        { s.ple with last := Store.insert (Store.erase s.ple.last r.prio) r.prio n, wrote := [] } } r
      (s.progWord r.pc) (s.progWord (r.pc + 1)) = t) : (.next (s.pleStep n op room f) : Out) = .next t :=
  congrArg _ ((State.pleStep_of_selected room f hrun hengine hop hselected hwait).trans hf)

/-- The rule of an instruction whose list has its turn, at the state `u` of that turn. -/
theorem next_pleStep_at {s t u : State} {n op : Nat} {r : PleRun} {room : Bool} {f : State → PleRun → Word → Word → State}
    (hu : u = { s with ple :=
      { s.ple with last := Store.insert (Store.erase s.ple.last r.prio) r.prio n, wrote := [] } })
    (hrun : (s.pleList n).run = some r) (hengine : s.pleEngine = true) (hop : opOf (s.progWord r.pc) = op)
    (hselected : s.pleSelected = some n) (hwait : r.wait = .none)
    (hf : f u r (s.progWord r.pc) (s.progWord (r.pc + 1)) = t) : (.next (s.pleStep n op room f) : Out) = .next t := by
  subst hu
  exact next_pleStep hrun hengine hop hselected hwait hf

/-- An instruction whose list does not run, has no turn or holds another instruction, changes nothing. -/
theorem State.pleStep_idle {s : State} {n op : Nat} (room : Bool) (f : State → PleRun → Word → Word → State)
    (h : (s.pleList n).run = none ∨ s.pleEngine = false ∨ ∃ r, (s.pleList n).run = some r ∧
      (opOf (s.progWord r.pc) ≠ op ∨ s.pleSelected ≠ some n ∧ r.wait ≠ .room)) : s.pleStep n op room f = s := by
  unfold State.pleStep
  split
  next r hrun =>
    refine if_neg ?_
    rcases h with h | h | ⟨r', hrun', h⟩
    · rw [hrun] at h
      contradiction
    · simp [h]
    · obtain rfl : r = r' := Option.some.inj (hrun.symm.trans hrun')
      rcases h with h | ⟨hselected, hroom⟩
      · simp [h]
      · simp [hselected, hroom]
  next => rfl

/-- R525, R527: an arithmetic instruction is a step that writes A with Z, N and S. -/
theorem State.pleArith_eq (s : State) (n op : Nat) (f : State → Word → Word → Int) :
    s.pleArith n op f = s.pleStep n op false fun s r w v =>
      (s.setPleVar (fieldA w) (ofInt (sat32 (f s w v)))).pleDone n
        (((r.zn (ofInt (sat32 (f s w v)))).setFlag 6 (sats (f s w v))).next op) :=
  rfl

/-- The instructions of a poll list and their opcodes (R527). -/
def pleInstrs (n : Nat) : List (Nat × Instr) :=
  [(0x00, .pleEnd n), (0x01, .pleWait n), (0x02, .pleMovi n), (0x03, .pleMovw n), (0x04, .pleLoad n),
    (0x05, .pleStore n), (0x06, .pleAdd n), (0x07, .pleSub n), (0x08, .pleScale n), (0x09, .pleExt n),
    (0x0A, .pleIir n), (0x0B, .pleMedian5 n), (0x0C, .pleMean n), (0x0D, .pleCmph n), (0x0E, .pleWindow n),
    (0x0F, .pleTime n), (0x10, .pleBranch n), (0x11, .pleEmit n), (0x12, .pleRaise n), (0x13, .pleTrig n),
    (0x14, .pleSpi n), (0x15, .pleListen n), (0x16, .pleAdc n), (0x17, .pleTag n), (0x18, .pleRadio n)]

/-- Each of them is the step of its opcode. -/
theorem pleInstrs_step (s : State) (n : Nat) :
    ∀ x ∈ pleInstrs n, ∃ room f, exec x.2 s = .next (s.pleStep n x.1 room f) := by
  unfold pleInstrs
  iterate 6 refine List.forall_mem_cons.2 ⟨⟨_, _, rfl⟩, ?_⟩
  iterate 3 refine List.forall_mem_cons.2 ⟨⟨_, _, congrArg Host.Outcome.next (State.pleArith_eq ..)⟩, ?_⟩
  iterate 16 refine List.forall_mem_cons.2 ⟨⟨_, _, rfl⟩, ?_⟩
  exact List.forall_mem_nil _

/-- Settles O26, by the step of a list that has its turn, and by one that has none. -/
theorem pollArithmetic : Obligations.PollArithmetic := by
  refine ⟨?movi, ?movw, ?add, ?sub, ?scale, ?ext, ?iirFirst, ?iirMoves, ?median5, ?meanOfNone, ?mean, ?cmph,
    ?window, ?time, ?idle⟩
  case movi =>
    rintro s list r w v u hrun rfl rfl hpleEngine hopOf hpleSelected hnone hu
    exact next_pleStep_at hu hrun hpleEngine hopOf hpleSelected hnone rfl
  case movw =>
    rintro s list r w v u hrun rfl rfl hpleEngine hopOf hpleSelected hnone hu
    exact next_pleStep_at hu hrun hpleEngine hopOf hpleSelected hnone rfl
  case add =>
    rintro s list r w v u x hrun rfl rfl hpleEngine hopOf hpleSelected hnone hu rfl
    exact (congrArg Host.Outcome.next (State.pleArith_eq ..)).trans
      (next_pleStep_at hu hrun hpleEngine hopOf hpleSelected hnone rfl)
  case sub =>
    rintro s list r w v u x hrun rfl rfl hpleEngine hopOf hpleSelected hnone hu rfl
    exact (congrArg Host.Outcome.next (State.pleArith_eq ..)).trans
      (next_pleStep_at hu hrun hpleEngine hopOf hpleSelected hnone rfl)
  case scale =>
    rintro s list r w v u x hrun rfl rfl hpleEngine hopOf hpleSelected hnone hu rfl
    exact (congrArg Host.Outcome.next (State.pleArith_eq ..)).trans
      (next_pleStep_at hu hrun hpleEngine hopOf hpleSelected hnone rfl)
  case ext =>
    rintro s list r w v u x hrun rfl rfl hpleEngine hopOf hpleSelected hnone hu rfl
    exact next_pleStep_at hu hrun hpleEngine hopOf hpleSelected hnone rfl
  case iirFirst =>
    rintro s list r w v u x hrun rfl rfl hpleEngine hopOf hpleSelected hnone hu hpleValid rfl
    refine next_pleStep_at hu hrun hpleEngine hopOf hpleSelected hnone ?_
    dsimp only
    rw [if_neg (ne_true_of_eq_false hpleValid)]
  case iirMoves =>
    rintro s list r w v u d x hrun rfl rfl hpleEngine hopOf hpleSelected hnone hu hpleValid rfl rfl
    refine next_pleStep_at hu hrun hpleEngine hopOf hpleSelected hnone ?_
    dsimp only
    rw [if_pos hpleValid]
  case median5 =>
    rintro s list r w v u old hist m hrun rfl rfl hpleEngine hopOf hpleSelected hnone hu rfl rfl rfl
    exact next_pleStep_at hu hrun hpleEngine hopOf hpleSelected hnone rfl
  case meanOfNone =>
    rintro s list r w v u hrun rfl rfl hpleEngine hopOf hpleSelected hnone hu hpleValid
    refine next_pleStep_at hu hrun hpleEngine hopOf hpleSelected hnone (congrArg
      (fun x : State × PleRun => x.1.pleDone list (x.2.next 0x0C)) (if_pos ?_))
    simpa using hpleValid
  case mean =>
    rintro s list r w v u l x hrun rfl rfl hpleEngine hopOf hpleSelected hnone hu rfl hl rfl
    refine next_pleStep_at hu hrun hpleEngine hopOf hpleSelected hnone ?_
    dsimp only
    rw [if_neg (mt List.isEmpty_iff.1 hl)]
    rfl
  case cmph =>
    rintro s list r w v u on change hrun rfl rfl hpleEngine hopOf hpleSelected hnone hu rfl rfl
    exact next_pleStep_at hu hrun hpleEngine hopOf hpleSelected hnone rfl
  case window =>
    rintro s list r w v u hrun rfl rfl hpleEngine hopOf hpleSelected hnone hu
    exact next_pleStep_at hu hrun hpleEngine hopOf hpleSelected hnone rfl
  case time =>
    rintro s list r w v u x hrun rfl rfl hpleEngine hopOf hpleSelected hnone hu rfl
    exact next_pleStep_at hu hrun hpleEngine hopOf hpleSelected hnone rfl
  case idle =>
    intro s n op i hi h
    obtain ⟨room, f, hstep⟩ := pleInstrs_step s n (op, i) hi
    exact hstep.trans (congrArg Host.Outcome.next (State.pleStep_idle room f h))

end Sys2Proof.Machine

namespace Sys2Proof.Machine

/-- Settles O27, by the step of the list and the branches of its instruction. -/
theorem pollControl : Obligations.PollControl := by
  refine ⟨?ends, ?waits, ?branches, ?load, ?store, ?storeRefused, ?emit, ?emitWaits, ?creditWaits,
    ?pleEmitCredit, ?raises, ?trig, ?trigRefused, ?pleDone⟩
  case ends =>
    rintro s list r w v u z hrun rfl rfl hpleEngine hopOf hpleSelected hnone rfl rfl
    exact next_pleStep hrun hpleEngine hopOf hpleSelected hnone rfl
  case waits =>
    rintro s list r w v u hrun rfl rfl hpleEngine hopOf hpleSelected hnone rfl
    exact next_pleStep hrun hpleEngine hopOf hpleSelected hnone rfl
  case branches =>
    rintro s list r w v u hrun rfl rfl hpleEngine hopOf hpleSelected hnone rfl
    exact next_pleStep hrun hpleEngine hopOf hpleSelected hnone rfl
  case load =>
    rintro s list r w v u z x bad hrun rfl rfl hpleEngine hopOf hpleSelected hnone rfl hbusRead
    refine next_pleStep hrun hpleEngine hopOf hpleSelected hnone ?_
    dsimp only
    dsimp only at hbusRead
    rw [hbusRead]
    rfl
  case store =>
    rintro s list r w v u z hrun rfl rfl hpleEngine hopOf hpleSelected hnone rfl hpleVar hpleVar2
    refine next_pleStep hrun hpleEngine hopOf hpleSelected hnone ?_
    dsimp only
    dsimp only at hpleVar hpleVar2
    rw [hpleVar]
    dsimp only
    rw [if_pos ⟨rfl, hpleVar2⟩]
  case storeRefused =>
    rintro s list r w v u z code hrun rfl rfl hpleEngine hopOf hpleSelected hnone rfl hpleVar hpleVar2
    refine next_pleStep hrun hpleEngine hopOf hpleSelected hnone ?_
    dsimp only
    dsimp only at hpleVar hpleVar2
    rw [hpleVar]
    dsimp only
    rw [if_neg (Classical.not_and_iff_not_or_not.2 hpleVar2)]
  case emit =>
    rintro s list r w v u c n hrun rfl rfl hpleEngine hopOf hpleSelected hnone rfl rfl rfl hcanReserve
    exact next_pleStep hrun hpleEngine hopOf hpleSelected hnone (if_pos hcanReserve)
  case emitWaits =>
    rintro s list r w v u c n z hrun rfl rfl hpleEngine hopOf hpleSelected hnone rfl rfl rfl hcanReserve rfl
    exact next_pleStep hrun hpleEngine hopOf hpleSelected hnone (if_neg (ne_true_of_eq_false hcanReserve))
  case creditWaits =>
    rintro s list r w hrun rfl hcanReserve
    refine congrArg Host.Outcome.next ?_
    rw [hrun]
    refine if_neg ?_
    rcases hcanReserve with h | h | h <;> simp [h]
  case pleEmitCredit =>
    rintro s list r w c n hrun rfl rfl rfl hpleEngine hcredit hcanReserve
    show execPleEmitCredit list _ = _
    simp [execPleEmitCredit, hrun, hpleEngine, hcredit, hcanReserve]
  case raises =>
    rintro s list r w v u hrun rfl rfl hpleEngine hopOf hpleSelected hnone rfl
    exact next_pleStep hrun hpleEngine hopOf hpleSelected hnone rfl
  case trig =>
    rintro s list r w v u hrun rfl rfl hpleEngine hopOf hpleSelected hnone rfl hlistOn
    refine next_pleStep hrun hpleEngine hopOf hpleSelected hnone ?_
    dsimp only
    rw [if_pos hlistOn]
  case trigRefused =>
    rintro s list r w v u hrun rfl rfl hpleEngine hopOf hpleSelected hnone rfl hlistOn
    refine next_pleStep hrun hpleEngine hopOf hpleSelected hnone ?_
    dsimp only
    rw [if_neg (ne_true_of_eq_false hlistOn)]
  case pleDone =>
    intro s n r
    exact ⟨fun hfull => if_pos hfull, fun hroom hend => (if_neg (Nat.not_le.2 hroom)).trans (if_pos hend),
      fun hroom hin => (if_neg (Nat.not_le.2 hroom)).trans (if_neg (Nat.not_lt.2 hin))⟩

end Sys2Proof.Machine

namespace Sys2Proof.Machine

/-- The rule of an instruction that has waited for room, which is there. -/
theorem next_pleStep_room {s t : State} {n op : Nat} {r : PleRun} {room : Bool} {f : State → PleRun → Word → Word →
  State}
    (hrun : (s.pleList n).run = some r) (hengine : s.pleEngine = true) (hop : opOf (s.progWord r.pc) = op)
    (hwait : r.wait = .room) (hroom : room = true)
    (hf : f { s with ple := { s.ple with wrote := [] } } r (s.progWord r.pc) (s.progWord (r.pc + 1)) = t) :
    (.next (s.pleStep n op room f) : Out) = .next t := by
  refine congrArg _ (Eq.trans ?_ hf)
  unfold State.pleStep
  rw [hrun]
  dsimp only
  rw [if_pos (by simp [hengine, hop, hwait, hroom]), if_neg (by rw [hwait]; exact PleWait.noConfusion)]

/-- Settles O28, by the step of the list, the room in the queue of its instruction, and what ends its wait. -/
theorem pollInputOutput : Obligations.PollInputOutput := by
  refine ⟨?spiTooLong, ?spiQueued, ?spiWaits, ?spiRoom, ?pleSpiDone, ?pleSpiDoneElse, ?listenEnds,
    ?listenWaits, ?pleListenDone, ?adc, ?adcRefused, ?adcDone, ?tagNoDie, ?tagNoChain, ?tagWithdrawn, ?tag,
    ?pleTagDone, ?pleTagDoneElse, ?radioWaits, ?radioInvalid, ?radioQueued, ?radioRoom, ?pleRadioDone,
    ?radioDone, ?spiNotDone, ?tagNotDone, ?radioNotDone, ?listenNotDone, ?noRun⟩
  case spiTooLong =>
    rintro s list r w v u hrun rfl rfl hpleEngine hopOf hpleSelected hnone rfl hreg
    exact next_pleStep hrun hpleEngine hopOf hpleSelected hnone (if_pos hreg)
  case spiQueued =>
    rintro s list r w v u hrun rfl rfl hpleEngine hopOf hpleSelected hnone rfl hreg hlength
    exact next_pleStep hrun hpleEngine hopOf hpleSelected hnone ((if_neg (Nat.not_lt.2 hreg)).trans (if_neg
      (Nat.not_le.2 hlength)))
  case spiWaits =>
    rintro s list r w v u hrun rfl rfl hpleEngine hopOf hpleSelected hnone rfl hreg hlength
    exact next_pleStep hrun hpleEngine hopOf hpleSelected hnone ((if_neg (Nat.not_lt.2 hreg)).trans (if_pos hlength))
  case spiRoom =>
    rintro s list r w v u hrun rfl rfl hpleEngine hroom rfl hopOf hreg hlength
    exact next_pleStep_room hrun hpleEngine hopOf hroom (decide_eq_true hlength) ((if_neg (Nat.not_lt.2 hreg)).trans
      (if_neg (Nat.not_le.2 hlength)))
  case pleSpiDone =>
    rintro s list r w l ws tm u hrun rfl hpleEngine hfind hspi rfl
    show execPleSpiDone list _ = _
    simp [execPleSpiDone, hrun, hpleEngine, hfind, hspi]
  case pleSpiDoneElse =>
    rintro s list r w l st ws tm u hrun rfl hpleEngine hfind hst hspi rfl
    show execPleSpiDone list _ = _
    simp [execPleSpiDone, hrun, hpleEngine, hfind, hst, hspi]
  case listenEnds =>
    rintro s list r w v u hrun rfl rfl hpleEngine hopOf hpleSelected hnone rfl hlistenFull
    exact next_pleStep hrun hpleEngine hopOf hpleSelected hnone (if_pos hlistenFull)
  case listenWaits =>
    rintro s list r w v u hrun rfl rfl hpleEngine hopOf hpleSelected hnone rfl hlistenFull hbits
    exact next_pleStep hrun hpleEngine hopOf hpleSelected hnone (if_neg
      (not_or.2 ⟨ne_true_of_eq_false hlistenFull, hbits⟩))
  case pleListenDone =>
    rintro s list r w due hrun rfl hpleEngine hlisten htime
    show execPleListenDone list _ = _
    simp [execPleListenDone, hrun, hpleEngine, hlisten, htime]
  case adc =>
    rintro s list r w v u hrun rfl rfl hpleEngine hopOf hpleSelected hnone rfl hpageOn
    exact next_pleStep hrun hpleEngine hopOf hpleSelected hnone (if_pos hpageOn)
  case adcRefused =>
    rintro s list r w v u hrun rfl rfl hpleEngine hopOf hpleSelected hnone rfl hpageOn
    exact next_pleStep hrun hpleEngine hopOf hpleSelected hnone (if_neg (ne_true_of_eq_false hpageOn))
  case adcDone =>
    rintro s list volts r w ch n rest u x hrun rfl hpleEngine hreqs hadc hlength hsafRuns hconverterHeld rfl rfl
    refine congrArg Host.Outcome.next ?_
    rw [hrun, hreqs]
    exact if_pos (by simp [hpleEngine, hadc, hlength, hsafRuns, hconverterHeld])
  case tagNoDie =>
    rintro s list r w v u hrun rfl rfl hpleEngine hopOf hpleSelected hnone rfl hserv
    exact next_pleStep hrun hpleEngine hopOf hpleSelected hnone (if_pos (by rw [hserv]; rfl))
  case tagNoChain =>
    rintro s list r w v u z hrun rfl rfl hpleEngine hopOf hpleSelected hnone rfl hserv hformChain
    refine next_pleStep hrun hpleEngine hopOf hpleSelected hnone ((if_neg (by rw [hserv]; decide)).trans ?_)
    dsimp only at hformChain
    dsimp only
    rw [hformChain]
    rfl
  case tagWithdrawn =>
    rintro s list r w v u z x y c m ms hrun rfl rfl hpleEngine hopOf hpleSelected hnone rfl hserv hformChain hnone2
      rfl rfl rfl
    refine next_pleStep hrun hpleEngine hopOf hpleSelected hnone ((if_neg (by rw [hserv]; decide)).trans ?_)
    dsimp only at hformChain
    dsimp only
    rw [hformChain]
    exact congrArg State.coordinate (if_neg hnone2)
  case tag =>
    rintro s list r w v u z m ms hrun rfl rfl hpleEngine hopOf hpleSelected hnone rfl hserv hformChain hnone2
    refine next_pleStep hrun hpleEngine hopOf hpleSelected hnone ((if_neg (by rw [hserv]; decide)).trans ?_)
    dsimp only at hformChain
    dsimp only
    rw [hformChain]
    rfl
  case pleTagDone =>
    rintro s list r w u hrun rfl hpleEngine hrecDone htag rfl
    show execPleTagDone list _ = _
    simp [execPleTagDone, hrun, hpleEngine, hrecDone, htag]
  case pleTagDoneElse =>
    rintro s list r w ws u x hrun rfl hpleEngine hrecDone hws htag rfl rfl
    show execPleTagDone list _ = _
    simp [execPleTagDone, hrun, hpleEngine, hrecDone, hws, htag]
  case radioWaits =>
    rintro s list r w v u hrun rfl rfl hpleEngine hopOf hpleSelected hnone rfl hlength
    exact next_pleStep hrun hpleEngine hopOf hpleSelected hnone (if_pos hlength)
  case radioInvalid =>
    rintro s list r w v u c hrun rfl rfl hpleEngine hopOf hpleSelected hnone rfl hlength rfl hradioInvalid
    exact next_pleStep hrun hpleEngine hopOf hpleSelected hnone ((if_neg (Nat.not_le.2 hlength)).trans
      (if_pos hradioInvalid))
  case radioQueued =>
    rintro s list r w v u c hrun rfl rfl hpleEngine hopOf hpleSelected hnone rfl hlength rfl hradioInvalid
    exact next_pleStep hrun hpleEngine hopOf hpleSelected hnone ((if_neg (Nat.not_le.2 hlength)).trans (if_neg
      (ne_true_of_eq_false hradioInvalid)))
  case radioRoom =>
    rintro s list r w v u c hrun rfl rfl hpleEngine hroom rfl hopOf hlength rfl hradioInvalid
    exact next_pleStep_room hrun hpleEngine hopOf hroom (decide_eq_true hlength) ((if_neg
      (Nat.not_le.2 hlength)).trans (if_neg (ne_true_of_eq_false hradioInvalid)))
  case pleRadioDone =>
    rintro s list r w u hrun rfl hpleEngine hrecDone hwait rfl
    show execPleRadioDone list _ = _
    simp [execPleRadioDone, hrun, hpleEngine, hrecDone, hwait]
  case radioDone =>
    rintro s list r w ws u x hrun rfl hpleEngine hrecDone hws hwait rfl rfl
    refine congrArg Host.Outcome.next ?_
    rw [hrun, hrecDone]
    exact (if_pos (by simp [hpleEngine, hwait])).trans (if_neg (mt List.isEmpty_iff.1 hws))
  case spiNotDone =>
    intro s list r hrun hfind
    refine congrArg Host.Outcome.next ?_
    rw [hrun]
    cases hres : s.ssc.results.find? (fun e => e.1 == list) with
    | none => rfl
    | some x =>
      refine if_neg ?_
      rcases hfind with h | h | h
      · simp [h]
      · simp [h]
      · exact absurd (hres.symm.trans h) (Option.some_ne_none x)
  case tagNotDone =>
    intro s list r hrun hrecDone
    refine congrArg Host.Outcome.next ?_
    rw [hrun]
    cases hrec : Store.find? s.recDone list with
    | none => rfl
    | some ws =>
      refine if_neg ?_
      rcases hrecDone with h | h | h
      · simp [h]
      · simp [h]
      · exact absurd (hrec.symm.trans h) (Option.some_ne_none ws)
  case radioNotDone =>
    intro s list r hrun hrecDone
    refine congrArg Host.Outcome.next ?_
    rw [hrun]
    cases hrec : Store.find? s.recDone (32 + list) with
    | none => rfl
    | some ws =>
      refine if_neg ?_
      rcases hrecDone with h | h | h
      · simp [h]
      · simp [h]
      · exact absurd (hrec.symm.trans h) (Option.some_ne_none ws)
  case listenNotDone =>
    intro s list r due hrun hlisten htime
    refine congrArg Host.Outcome.next ?_
    rw [hrun]
    dsimp only
    rw [hlisten]
    refine if_neg ?_
    rcases htime with h | ⟨hfull, hearly⟩
    · simp [h]
    · simp [hfull, Nat.not_le.2 hearly]
  case noRun =>
    intro s n volts hrun
    refine ⟨congrArg Host.Outcome.next ?_, congrArg Host.Outcome.next ?_, congrArg Host.Outcome.next ?_,
      congrArg Host.Outcome.next ?_, congrArg Host.Outcome.next ?_, congrArg Host.Outcome.next ?_,
        congrArg Host.Outcome.next ?_⟩ <;> simp only [hrun]

end Sys2Proof.Machine

namespace Sys2Proof.Machine

section Variables
variable (s : State) {n m : Nat} (w : Word)

theorem bit_putBits (x : Word) (i j v : Nat) (hi : i < 32) :
    bit (putBits x i 1 v) j = if j = i then v.testBit 0 else bit x j := by
  unfold bit
  rw [putBits_getLsbD _ _ _ _ _ (by omega)]
  by_cases hj : j = i
  · rw [if_pos (by omega), if_pos hj, hj, Nat.sub_self]
  · rw [if_neg (by omega), if_neg hj]

/-- R523: VALID of one variable leaves that of the others. -/
theorem State.pleValid_setPleValid (v : Bool) : (s.setPleValid n v).pleValid m = if m % 64 = n % 64 then v else
  s.pleValid m := by
  unfold State.pleValid State.setPleValid
  dsimp only
  by_cases hword : m % 64 / 32 = n % 64 / 32
  · rw [hword, State.reg_setReg_same, bit_putBits _ _ _ _ (Nat.mod_lt _ (by decide))]
    by_cases hm : m % 64 = n % 64
    · rw [if_pos (by omega), if_pos hm]
      cases v <;> rfl
    · rw [if_neg (by omega), if_neg hm]
  · rw [State.reg_setReg_ne _ _ (by unfold hostAddr; omega), if_neg (by omega)]

theorem State.pleVar_setPleValid (v : Bool) : (s.setPleValid n v).pleVar m = s.pleVar m :=
  State.reg_setReg_ne _ _ (by unfold hostAddr; omega)

theorem State.pleVar_putPleVar : (s.putPleVar n w).pleVar m = if m % 64 = n % 64 then w else s.pleVar m := by
  unfold State.putPleVar
  rw [State.pleVar_setPleValid]
  unfold State.pleVar
  by_cases hm : m % 64 = n % 64
  · rw [hm, State.reg_setReg_same, if_pos rfl]
  · rw [State.reg_setReg_ne _ _ (by unfold hostAddr; omega), if_neg hm]

theorem State.pleValid_putPleVar : (s.putPleVar n w).pleValid m = if m % 64 = n % 64 then true else s.pleValid m := by
  unfold State.putPleVar
  rw [State.pleValid_setPleValid]
  congr 1
  unfold State.pleValid
  rw [State.reg_setReg_ne _ _ (by unfold hostAddr; omega)]

end Variables

/-- Settles O29, by the due time of a list and the variable that is written. -/
theorem pollHost : Obligations.PollHost := by
  refine ⟨?pleStart, ?pleStartElse, ?pleStop, ?plePeriodDue, ?pleWaitEnd, ?notDue, ?plePeriodDueElse,
    ?pleWaitEndElse, ?pleVariableWrite, ?varWritten, ?varTaken, ?pleVvalidClear, ?pleRaiseClear, ?putPleVar⟩
  case pleStart =>
    intro s list hawake hlock hlistOn hfaulted
    exact next_hostWrite hawake hlock (by simp [hlistOn, hfaulted])
  case pleStartElse =>
    intro s list hawake hlock hfaulted
    exact next_hostWrite hawake hlock (by simp [hfaulted])
  case pleStop =>
    intro s list hawake hlock
    exact next_hostWrite hawake hlock rfl
  case plePeriodDue =>
    intro s list td hdue hlist htime hlistOn hlTrigKind hoff hreset
    show execPlePeriodDue list _ = _
    simp [execPlePeriodDue, hdue, hlist, htime, hlistOn, hlTrigKind, hoff, hreset]
  case pleWaitEnd =>
    intro s list r due hrun htime htime2
    show execPleWaitEnd list _ = _
    simp [execPleWaitEnd, hrun, htime, htime2]
  case notDue =>
    intro s list hlTrigKind
    refine congrArg Host.Outcome.next ?_
    dsimp only
    cases hdue : (s.pleList list).due with
    | none => rfl
    | some t =>
      refine if_neg fun ⟨hlist, _, hon, hkind, hoff, hreset⟩ => ?_
      rcases hlTrigKind with h | h | h | h | h | h
      · exact Option.some_ne_none t (hdue.symm.trans h)
      · exact Nat.not_le.2 hlist h
      · exact Bool.false_ne_true (h.symm.trans hon)
      · exact h hkind
      · exact hoff h
      · exact hreset h
  case plePeriodDueElse =>
    intro s list td hdue htime
    show execPlePeriodDue list _ = _
    simp [execPlePeriodDue, hdue, Nat.not_le.2 htime]
  case pleWaitEndElse =>
    intro s list r due hrun htime htime2
    show execPleWaitEnd list _ = _
    simp [execPleWaitEnd, hrun, htime, Nat.not_le.2 htime2]
  case pleVariableWrite =>
    intro s n value hawake hlock hn
    exact next_hostWrite hawake hlock (State.when_false _ (by simp [hn]))
  case varWritten =>
    intro s n value hawake hlock hn hvarTaken
    exact next_hostWrite hawake hlock ((State.when_true _ (decide_eq_true hn)).trans (if_neg
      (ne_true_of_eq_false hvarTaken)))
  case varTaken =>
    intro s n value hawake hlock hn hvarTaken
    exact next_hostWrite hawake hlock ((State.when_true _ (decide_eq_true hn)).trans (if_pos hvarTaken))
  case pleVvalidClear =>
    intro s hi value hawake hlock
    exact next_hostWrite hawake hlock rfl
  case pleRaiseClear =>
    rintro s value u hawake hlock rfl
    exact next_hostWrite hawake hlock rfl
  case putPleVar =>
    intro s n w hn
    refine ⟨by rw [State.pleVar_putPleVar, if_pos rfl], by rw [State.pleValid_putPleVar, if_pos rfl],
      fun m hm hne => ?_, ?_⟩
    · have hother : m % 64 ≠ n % 64 := by rwa [Nat.mod_eq_of_lt hm, Nat.mod_eq_of_lt hn]
      rw [State.pleVar_putPleVar, State.pleValid_putPleVar, if_neg hother, if_neg hother]
      exact ⟨rfl, rfl⟩
    · unfold State.setPleVar
      rw [Nat.mod_eq_of_lt hn]

end Sys2Proof.Machine

namespace Sys2Proof.Machine

/-- Settles O30, by the head of the queue, the select of its template and its data phase. -/
theorem sensorSerial : Obligations.SensorSerial := by
  refine ⟨?sscQpush, ?sscQpushElse, ?sscQpushOther, ?hostEntry, ?listEntry, ?selOff, ?noStart, ?otherInput,
    ?noEntry, ?sscEntryEnd, ?sscEntryEndElse, ?sscDonePop, ?sscDonePopElse, ?sscEnd⟩
  case sscQpush =>
    intro s tag buf template hawake hlock hpageOn hlength hlength2
    exact next_hostWrite hawake hlock (by simp [hpageOn, Nat.not_le.2 hlength, Nat.not_le.2 hlength2])
  case sscQpushElse =>
    intro s tag buf template hawake hlock hpageOn hlength
    exact next_hostWrite hawake hlock (by simp [hpageOn, hlength])
  case sscQpushOther =>
    intro s tag buf template hawake hlock hpageOn
    exact next_hostWrite hawake hlock (by simp [hpageOn])
  case hostEntry =>
    rintro s input e es tm sel hawake hpageOn hrunning hpadHeld hloading hqueue rfl rfl hselcfgDrive hlength hlist
    refine next_when (by simp [hawake, hpageOn, hrunning, hpadHeld, hloading]) ?_
    rw [hqueue]
    refine (if_neg (by rw [hselcfgDrive]; decide)).trans ((if_neg (not_not_intro hlength)).trans ?_)
    rw [hlist]
  case listEntry =>
    rintro s input e es tm sel l hawake hpageOn hrunning hpadHeld hloading hqueue rfl rfl hselcfgDrive hlength hlist
    refine next_when (by simp [hawake, hpageOn, hrunning, hpadHeld, hloading]) ?_
    rw [hqueue]
    refine (if_neg (by rw [hselcfgDrive]; decide)).trans ((if_neg (not_not_intro hlength)).trans ?_)
    rw [hlist]
  case selOff =>
    rintro s input e es tm sel hawake hpageOn hrunning hpadHeld hloading hqueue rfl rfl hselcfgDrive
    refine next_when (by simp [hawake, hpageOn, hrunning, hpadHeld, hloading]) ?_
    rw [hqueue]
    exact if_pos (by rw [hselcfgDrive]; rfl)
  case noStart =>
    intro s input hawake
    refine congrArg Host.Outcome.next ?_
    by_cases hready : (s.awake && s.pageOn 0 0x0C && !s.ssc.running && !s.padHeld 1 && !s.coord.loading) = true
    · have hempty : s.ssc.queue = [] := by
        simp only [Bool.and_eq_true, Bool.not_eq_true'] at hready
        simpa [hready] using hawake
      refine (State.when_true _ hready).trans ?_
      rw [hempty]
    · exact State.when_false _ (Bool.not_eq_true _ ▸ hready)
  case otherInput =>
    rintro s input e es tm sel hawake hpageOn hrunning hpadHeld hloading hqueue rfl rfl hselcfgDrive hlength
    refine next_when (by simp [hawake, hpageOn, hrunning, hpadHeld, hloading]) ?_
    rw [hqueue]
    exact (if_neg (by rw [hselcfgDrive]; decide)).trans (if_pos hlength)
  case noEntry =>
    intro s hqueue
    rcases hqueue with h | h
    · exact next_unless h
    · refine next_of_unchanged ?_
      rw [h]
  case sscEntryEnd =>
    rintro s e es ws l hrunning hqueue rfl hlist
    exact next_when (by simp [hrunning]) (by simp [hqueue, hlist])
  case sscEntryEndElse =>
    rintro s e es ws hrunning hqueue rfl hlist
    exact next_when (by simp [hrunning]) (by simp [hqueue, hlist])
  case sscDonePop =>
    intro s x xs hawake hlock hdone
    exact next_hostWrite hawake hlock (by simp [hdone])
  case sscDonePopElse =>
    intro s hawake hlock hdone
    exact next_hostWrite hawake hlock (by simp [hdone])
  case sscEnd =>
    intro e s st ws moved hlist
    unfold State.sscEnd
    rw [hlist]

end Sys2Proof.Machine

namespace Sys2Proof.Machine

/-- R555: the listener hears the clock while its page is ON or drains and its select is asserted. -/
theorem State.sslHears_iff (s : State) : s.sslHears = true ↔
    s.awake = true ∧ (s.pageState 0 0x0D = 2 ∨ s.pageState 0 0x0D = 3) ∧ s.flag 0 F.SSL_STAT_SELACT = true := by
  simp [State.sslHears, and_assoc]

theorem State.sslHears_eq_false {s : State} (h : s.awake = false ∨
    ¬ (s.pageState 0 0x0D = 2 ∨ s.pageState 0 0x0D = 3) ∨ s.flag 0 F.SSL_STAT_SELACT = false) : s.sslHears = false :=
      by
  rw [Bool.eq_false_iff, ne_eq, State.sslHears_iff]
  rintro ⟨hawake, hpage, hselect⟩
  rcases h with h | h | h
  · exact Bool.false_ne_true (h.symm.trans hawake)
  · exact h hpage
  · exact Bool.false_ne_true (h.symm.trans hselect)

/-- Settles O31, by what the listener hears, the request at the head, and the state of a comparator. -/
theorem listenerAndAnalogue : Obligations.ListenerAndAnalogue := by
  refine ⟨?slselAssert, ?slselAssertElse, ?word, ?release, ?releasePin, ?stuck, ?noWord, ?slselRelease,
    ?notStuck, ?listenerReserve, ?safReq, ?safReqElse, ?safReqOther, ?conversion, ?noConversion,
    ?comparatorStrobe, ?firstStrobe, ?strobe, ?slselIs, ?bit, ?lastBit, ?wordEnd⟩
  case slselAssert =>
    intro s level ticks hslselIs hstatSelact
    exact next_when (by simp [hslselIs, hstatSelact]) rfl
  case slselAssertElse =>
    intro s level ticks hstatSelact
    exact next_unless (by rcases hstatSelact with hstatSelact | hstatSelact <;> simp [hstatSelact])
  case word =>
    intro s sldi start hawake hpageState hstatSelact
    exact next_when ((State.sslHears_iff s).2 ⟨hawake, hpageState, hstatSelact⟩) rfl
  case release =>
    intro s level ticks hslselIs hawake hpageState hstatSelact
    refine next_when (by rw [hslselIs, hstatSelact]; rfl) ?_
    rw [(State.sslHears_iff s).2 ⟨hawake, hpageState, hstatSelact⟩]
    rfl
  case releasePin =>
    intro s level ticks hslselIs hawake hstatSelact
    refine next_when (by rw [hslselIs, hstatSelact]; rfl) ?_
    rw [State.sslHears_eq_false (hawake.imp_right .inl)]
    rfl
  case stuck =>
    intro s hawake hpageState hstatSelact hactive hcfgIdle
    have hhears := (State.sslHears_iff s).2 ⟨hawake, hpageState, hstatSelact⟩
    exact next_when (by rw [hhears, hactive, decide_eq_true hcfgIdle]; rfl) rfl
  case noWord =>
    intro s sldi start hawake
    exact next_unless (State.sslHears_eq_false hawake)
  case slselRelease =>
    intro s level ticks hstatSelact
    exact next_unless (by rcases hstatSelact with hstatSelact | hstatSelact <;> simp [hstatSelact])
  case notStuck =>
    intro s hawake
    refine next_unless ?_
    have hcases : s.sslHears = false ∨ s.ssl.active = false ∨ s.get 0 F.SSL_CFG_IDLE = 0 := by
      rcases hawake with h | h | h | h
      · exact .inl (State.sslHears_eq_false (.inl h))
      · exact .inl (State.sslHears_eq_false (.inr (.inl h)))
      · exact .inl (State.sslHears_eq_false (.inr (.inr h)))
      · exact .inr h
    rcases hcases with h | h | h <;> simp [h]
  case listenerReserve =>
    intro s
    show execListenerReserve  _ = _
    simp [execListenerReserve]
  case safReq =>
    intro s count ch hawake hlock hpageOn hsafBusy
    exact next_hostWrite hawake hlock (by simp [hpageOn, hsafBusy])
  case safReqElse =>
    intro s count ch hawake hlock hpageOn hsafBusy
    exact next_hostWrite hawake hlock (by simp [hpageOn, hsafBusy])
  case safReqOther =>
    intro s count ch hawake hlock hpageOn
    exact next_hostWrite hawake hlock (by simp [hpageOn])
  case conversion =>
    intro s volts ch n rest hawake hpageState hconverterHeld hreqs hlength
    have hruns : s.safRuns = true := by simp [State.safRuns, hawake, hpageState]
    refine next_when (by rw [hruns, hconverterHeld]; rfl) ?_
    rw [hreqs]
    exact if_pos hlength
  case noConversion =>
    intro s volts hawake
    rcases hawake with h | h | h
    · exact next_unless (by simp [State.safRuns, h])
    · exact next_unless (by rw [h, Bool.not_true, Bool.and_false])
    · refine next_of_unchanged ?_
      rw [h]
  case comparatorStrobe =>
    intro s k level hcmpRuns
    exact next_unless (by simp [hcmpRuns])
  case firstStrobe =>
    rintro s k level was now hcmpRuns rfl rfl hcontains
    refine next_when hcmpRuns ?_
    dsimp only
    rw [hcontains]
    rfl
  case strobe =>
    rintro s k level was now hcmpRuns rfl rfl hcontains
    refine next_when hcmpRuns ?_
    dsimp only
    rw [hcontains, Bool.true_and, if_pos rfl]
  case slselIs =>
    exact fun s level ticks on => rfl
  case bit =>
    intro s b start hpart hshort
    have hlen : (s.ssl.part ++ [b]).length = s.ssl.part.length + 1 := List.length_append
    unfold State.sslBit
    rw [if_neg (mt List.isEmpty_iff.1 hpart)]
    exact if_neg (Nat.not_lt.2 (hlen ▸ hshort))
  case lastBit =>
    intro s b start hpart hfull
    have hlen : (s.ssl.part ++ [b]).length = s.ssl.part.length + 1 := List.length_append
    unfold State.sslBit
    rw [if_neg (mt List.isEmpty_iff.1 hpart)]
    exact if_pos (hlen ▸ Nat.lt_succ_of_le (Nat.le_of_eq hfull.symm))
  case wordEnd =>
    rintro s u cut rfl
    refine ⟨fun htook hroom => congrArg State.sslUpdate (if_pos (Bool.and_eq_true_iff.2 ⟨htook, hroom⟩)),
      fun hrefused => congrArg State.sslUpdate (if_neg fun h => ?_)⟩
    obtain ⟨htook, hroom⟩ := Bool.and_eq_true_iff.1 h
    rcases hrefused with h | h
    · exact Bool.false_ne_true (h.symm.trans htook)
    · exact Bool.false_ne_true (h.symm.trans hroom)

end Sys2Proof.Machine

namespace Sys2Proof.Machine

/-- Settles O32, by the count found and the credits of the first record. -/
theorem hamperRecords : Obligations.HamperRecords := by
  refine ⟨?creditMismatch, ?anchorClass, ?creditMismatchElse, ?systemRecordWrite, ?written,
    ?systemRecordWriteElse, ?systemRecordWriteOther, ?hmpMark, ?hmpMarkElse⟩
  case creditMismatch =>
    rintro s cls found u hawake hcls hregionSize rfl hcls2
    exact next_when (by simp [hawake, hcls, hregionSize]) (by simp [hcls2])
  case anchorClass =>
    rintro s cls found u hawake hcls hregionSize rfl rfl
    refine next_when (by simp [hawake, hregionSize]) ?_
    rfl
  case creditMismatchElse =>
    intro s cls found hawake
    refine next_unless ?_
    obtain hawake | hcls | hfound := hawake
    · simp [hawake]
    · simp [Nat.not_le.2 hcls]
    · simp [hfound]
  case systemRecordWrite =>
    intro s hsysq
    show execSystemRecordWrite  _ = _
    simp [execSystemRecordWrite, hsysq]
  case written =>
    intro s r rest c p hsysq hmerged hreserved
    refine congrArg Host.Outcome.next ?_
    rw [hsysq]
    dsimp only
    rw [hmerged]
    refine (if_pos hreserved).trans ?_
    simp only [State.serveSys, hsysq, hmerged, hreserved, if_true]
  case systemRecordWriteElse =>
    intro s r rest c p hsysq hmerged hreserved htooBig
    show execSystemRecordWrite  _ = _
    simp [execSystemRecordWrite, hsysq, hmerged, hreserved, htooBig]
  case systemRecordWriteOther =>
    intro s r rest c p hsysq hmerged hreserved htooBig
    show execSystemRecordWrite  _ = _
    simp [execSystemRecordWrite, hsysq, hmerged, hreserved, htooBig]
  case hmpMark =>
    rintro s value u hawake hlock rfl hisMark hlength
    exact next_hostWrite hawake hlock ((if_neg (by simp [hisMark, hlength])).trans (if_neg (by simp [hlength])))
  case hmpMarkElse =>
    rintro s value u hawake hlock rfl hlength
    exact next_hostWrite hawake hlock (if_pos (by rcases hlength with hlength | hlength <;> simp [hlength]))

end Sys2Proof.Machine

namespace Sys2Proof.Machine

/-- Settles O33, by the staged operation, the snapshot work in hand and its outcome. -/
theorem tickets : Obligations.Tickets := by
  refine ⟨?tktOpNone, ?tktOpWrite, ?tktOpInsert, ?tktOpDelete, ?tktOpLookup, ?tktOpNoneElse, ?tktOpNoneOther,
    ?tktOpWriteElse, ?tktOpWriteOther, ?tktOpInsertElse, ?tktOpInsertOther, ?tktOpDeleteElse,
    ?tktOpDeleteOther, ?tktOpLookupElse, ?tktOpLookupOther, ?tktSnapSave, ?tktSnapSaveElse, ?saved,
    ?saveFailed, ?notSaving, ?tktSnapLoad, ?tktSnapLoadElse, ?loaded, ?tktSnapLoadEnd, ?tktSnapLoadEndElse,
    ?saveTo⟩
  case tktOpNone =>
    intro s hcommitPend hloadLets hopOp hshadowWord
    exact next_when (by simp [hcommitPend, hloadLets, hopOp]) (if_pos (by simp [hshadowWord]))
  case tktOpWrite =>
    intro s hcommitPend hloadLets hopOp hshadowWord
    exact next_when (by simp [hcommitPend, hloadLets, hopOp]) (if_pos (by simp [hshadowWord]))
  case tktOpInsert =>
    intro s hcommitPend hloadLets hopOp hshadowWord
    exact next_when (by simp [hcommitPend, hloadLets, hopOp]) (if_pos (by simp [hshadowWord]))
  case tktOpDelete =>
    intro s hcommitPend hloadLets hopOp hshadowWord
    exact next_when (by simp [hcommitPend, hloadLets, hopOp]) (if_pos (by simp [hshadowWord]))
  case tktOpLookup =>
    intro s hcommitPend hloadLets hopOp hshadowWord
    exact next_when (by simp [hcommitPend, hloadLets, hopOp]) (if_pos (by simp [hshadowWord]))
  case tktOpNoneElse =>
    intro s hcommitPend hloadLets hopOp hshadowWord
    exact next_when (by simp [hcommitPend, hloadLets, hopOp]) (if_neg (by simp [hshadowWord]))
  case tktOpNoneOther =>
    intro s hcommitPend
    exact next_unless (by rcases hcommitPend with hcommitPend | hcommitPend | hcommitPend <;> simp [hcommitPend])
  case tktOpWriteElse =>
    intro s hcommitPend hloadLets hopOp hshadowWord
    exact next_when (by simp [hcommitPend, hloadLets, hopOp]) (if_neg (by simp [hshadowWord]))
  case tktOpWriteOther =>
    intro s hcommitPend
    exact next_unless (by rcases hcommitPend with hcommitPend | hcommitPend | hcommitPend <;> simp [hcommitPend])
  case tktOpInsertElse =>
    intro s hcommitPend hloadLets hopOp hshadowWord
    exact next_when (by simp [hcommitPend, hloadLets, hopOp]) (if_neg (by simp [hshadowWord]))
  case tktOpInsertOther =>
    intro s hcommitPend
    exact next_unless (by rcases hcommitPend with hcommitPend | hcommitPend | hcommitPend <;> simp [hcommitPend])
  case tktOpDeleteElse =>
    intro s hcommitPend hloadLets hopOp hshadowWord
    exact next_when (by simp [hcommitPend, hloadLets, hopOp]) (if_neg (by simp [hshadowWord]))
  case tktOpDeleteOther =>
    intro s hcommitPend
    exact next_unless (by rcases hcommitPend with hcommitPend | hcommitPend | hcommitPend <;> simp [hcommitPend])
  case tktOpLookupElse =>
    intro s hcommitPend hloadLets hopOp hshadowWord
    exact next_when (by simp [hcommitPend, hloadLets, hopOp]) (if_neg (by simp [hshadowWord]))
  case tktOpLookupOther =>
    intro s hcommitPend
    exact next_unless (by rcases hcommitPend with hcommitPend | hcommitPend | hcommitPend <;> simp [hcommitPend])
  case tktSnapSave =>
    rintro s u hawake hlock hsnapBusy rfl
    exact next_hostWrite hawake hlock (by simp [hsnapBusy])
  case tktSnapSaveElse =>
    intro s hawake hlock hsnapBusy
    exact next_hostWrite hawake hlock (by simp [hsnapBusy])
  case saved =>
    rintro s ok bucket code u v hsnapBusy hsnapSave hsnapSave2 rfl rfl rfl
    have hsaving : s.snapSaving = true := by simp [State.snapSaving, hsnapBusy, hsnapSave]
    exact next_when (by rw [hsaving, hsnapSave2]; rfl) rfl
  case saveFailed =>
    rintro s ok bucket code u hsnapBusy hsnapSave hsnapSave2 rfl rfl
    have hsaving : s.snapSaving = true := by simp [State.snapSaving, hsnapBusy, hsnapSave]
    exact next_when (by rw [hsaving, hsnapSave2]; rfl) rfl
  case notSaving =>
    intro s ok bucket code hsnapBusy
    refine next_unless ?_
    rcases hsnapBusy with h | h | h <;> simp [State.snapSaving, h]
  case tktSnapLoad =>
    intro s hawake hlock hsnapBusy hpageState
    exact next_hostWrite hawake hlock (by simp [hsnapBusy, hpageState])
  case tktSnapLoadElse =>
    intro s hawake hlock hsnapBusy
    exact next_hostWrite hawake hlock (by simp [hsnapBusy])
  case loaded =>
    rintro s crcOk u v l hsnapBusy hsnapLoad rfl rfl hsnap rfl
    refine next_when (by rw [hsnapBusy, hsnapLoad]; rfl) ?_
    have hu : ((s.set 0 F.TKT_SNAP_BUSY 0).set 0 F.TKT_SNAP_LOAD 0).nv.snap = some l := by
      rw [State.set_nv, State.set_nv, hsnap]
    have hv : (((s.set 0 F.TKT_SNAP_BUSY 0).set 0 F.TKT_SNAP_LOAD 0).set 0 F.TKT_SNAP_PROGRESS 3072).nv.snap = some l
      := by
      rw [State.set_nv, hu]
    dsimp only
    rw [hu]
    refine (if_pos rfl).trans ?_
    unfold State.loadSnapshot
    rw [hv]
  case tktSnapLoadEnd =>
    rintro s crcOk u hsnapBusy hsnapLoad rfl hsnap
    exact next_when (by simp [hsnapBusy, hsnapLoad]) (if_neg (by rcases hsnap with hsnap | hsnap <;> simp [hsnap]))
  case tktSnapLoadEndElse =>
    intro s crcOk hsnapBusy
    exact next_unless (by rcases hsnapBusy with hsnapBusy | hsnapBusy <;> simp [hsnapBusy])
  case saveTo =>
    exact fun s n => rfl

end Sys2Proof.Machine

namespace Sys2Proof.Machine

theorem State.slotFree {s : State} {source slot : Nat} (h : slot = 0 ∨ s.slotHeld source slot = false) :
    ¬(slot != 0 && s.slotHeld source slot) = true := by
  rw [Bool.and_eq_true_iff, bne_iff_ne, Classical.not_and_iff_not_or_not, Classical.not_not]
  exact h.imp_right ne_true_of_eq_false

/-- R634: in ACTIVE the interrupt island runs, and no latch is asynchronous. -/
theorem State.latched_of_awake {s : State} {d p : Nat} (hawake : s.awake = true) : s.latched d p = false := by
  have hactive : s.device = .active := of_decide_eq_true hawake
  simp [State.latched, State.islandStopped, hactive]

/-- Settles O34, by the slot offered, the slot in service, and the reasons that refuse a write of a source. -/
theorem interruptController : Obligations.InterruptController := by
  refine ⟨?icuClaim, ?claimNone, ?claimLost, ?claimed, ?completeNone, ?completed, ?completeUnmapped,
    ?completeOther, ?sourceReserved, ?sourceLast, ?sourceHeld, ?sourceInService, ?sourceWritten,
    ?icuTargetCfgWrite, ?icuModgapEnd, ?icuClaimElse, ?icuComplete, ?icuSrcWrite, ?icuTargetCfgWriteElse,
    ?icuLevelChange, ?noLatch, ?icuModgapEndElse, ?icuLevelChangeElse, ?latchAnchor, ?latchDie, ?slotHeld⟩
  case icuClaim =>
    rintro s target others fetch b u hawake htarget rfl rfl rfl
    exact next_when (by simp [hawake, htarget]) (by simp)
  case claimNone =>
    rintro s target others fetch b u taken slot src hawake htarget rfl rfl rfl rfl hfst rfl
    refine next_when (by rw [hawake, decide_eq_true htarget]; rfl) ((if_neg Bool.false_ne_true).trans ?_)
    dsimp only at hfst
    dsimp only
    rw [hfst]
    rfl
  case claimLost =>
    rintro s target others fetch b u taken slot src hawake htarget rfl rfl rfl rfl hfst hslot hcontains
    refine next_when (by rw [hawake, decide_eq_true htarget]; rfl) ((if_neg Bool.false_ne_true).trans ?_)
    dsimp only at hfst
    dsimp only
    rw [hfst]
    exact (if_neg hslot).trans (if_pos hcontains)
  case claimed =>
    rintro s target others fetch b u taken slot src x v hawake htarget rfl rfl rfl rfl hfst hslot hcontains rfl rfl
    refine next_when (by rw [hawake, decide_eq_true htarget]; rfl) ((if_neg Bool.false_ne_true).trans ?_)
    dsimp only at hfst
    dsimp only
    rw [hfst]
    exact (if_neg hslot).trans (if_neg (ne_true_of_eq_false hcontains))
  case completeNone =>
    intro s target slot hawake hlock htarget hslot
    exact next_hostWrite hawake hlock ((State.when_true _ (decide_eq_true htarget)).trans (if_pos hslot))
  case completed =>
    rintro s target slot k src w hawake hlock htarget rfl hk hk2 hslotSource hbit hbits
    refine next_hostWrite hawake hlock ((State.when_true _ (decide_eq_true htarget)).trans ((if_neg
      (not_or.2 ⟨hk, hk2⟩)).trans ?_))
    rw [hslotSource]
    exact if_pos (by rw [hbit, hbits, beq_self_eq_true]; rfl)
  case completeUnmapped =>
    rintro s target slot k hawake hlock htarget rfl hk hk2 hslotSource
    refine next_hostWrite hawake hlock ((State.when_true _ (decide_eq_true htarget)).trans ((if_neg
      (not_or.2 ⟨hk, hk2⟩)).trans ?_))
    rw [hslotSource]
  case completeOther =>
    rintro s target slot k src w hawake hlock htarget rfl hk hk2 hslotSource hbit
    refine next_hostWrite hawake hlock ((State.when_true _ (decide_eq_true htarget)).trans ((if_neg
      (not_or.2 ⟨hk, hk2⟩)).trans ?_))
    rw [hslotSource]
    exact if_neg (by rcases hbit with h | h <;> simp [h])
  case sourceReserved =>
    rintro s source value u slot hawake hlock hsource rfl rfl hreservedSource
    exact next_hostWrite hawake hlock ((State.when_true _ (decide_eq_true hsource)).trans (if_pos hreservedSource))
  case sourceLast =>
    rintro s source value u slot hawake hlock hsource rfl rfl hreservedSource hslot
    exact next_hostWrite hawake hlock ((State.when_true _ (decide_eq_true hsource)).trans ((if_neg
      (ne_true_of_eq_false hreservedSource)).trans (if_pos hslot)))
  case sourceHeld =>
    rintro s source value u slot hawake hlock hsource rfl rfl hreservedSource hslot hslot2 hslotHeld
    refine next_hostWrite hawake hlock ((State.when_true _ (decide_eq_true hsource)).trans ((if_neg
      (ne_true_of_eq_false hreservedSource)).trans ((if_neg hslot).trans (if_pos ?_))))
    exact Bool.and_eq_true_iff.2 ⟨bne_iff_ne.2 hslot2, hslotHeld⟩
  case sourceInService =>
    rintro s source value u slot hawake hlock hsource rfl rfl hreservedSource hslot hslotHeld hsrcInsvc hsrcSlot
    refine next_hostWrite hawake hlock ((State.when_true _ (decide_eq_true hsource)).trans
      ((if_neg (ne_true_of_eq_false hreservedSource)).trans ((if_neg hslot).trans ((if_neg ?_).trans (if_pos ?_)))))
    · exact State.slotFree hslotHeld
    · exact Bool.and_eq_true_iff.2 ⟨hsrcInsvc, bne_iff_ne.2 hsrcSlot⟩
  case sourceWritten =>
    rintro s source value u slot y v x hawake hlock hsource rfl rfl hreservedSource hslot hslotHeld hsrcInsvc rfl rfl
      rfl
    refine next_hostWrite hawake hlock ((State.when_true _ (decide_eq_true hsource)).trans
      ((if_neg (ne_true_of_eq_false hreservedSource)).trans ((if_neg hslot).trans ((if_neg ?_).trans (if_neg ?_)))))
    · exact State.slotFree hslotHeld
    · rw [Bool.and_eq_true_iff, bne_iff_ne, Classical.not_and_iff_not_or_not, Classical.not_not]
      exact hsrcInsvc.imp_left ne_true_of_eq_false
  case icuTargetCfgWrite =>
    rintro s target value u hawake hlock htarget rfl
    exact next_hostWrite hawake hlock (State.when_true _ (by simp [htarget]))
  case icuModgapEnd =>
    intro s target hawake
    exact next_unless (by rcases hawake with hawake | hawake <;> simp [hawake])
  case icuClaimElse =>
    intro s target others fetch hawake
    exact next_unless (by rcases hawake with hawake | hawake <;> simp [hawake])
  case icuComplete =>
    intro s target slot hawake hlock htarget
    exact next_hostWrite hawake hlock (State.when_false _ (by simp [htarget]))
  case icuSrcWrite =>
    intro s source value hawake hlock hsource
    exact next_hostWrite hawake hlock (State.when_false _ (by simp [hsource]))
  case icuTargetCfgWriteElse =>
    intro s target value hawake hlock htarget
    exact next_hostWrite hawake hlock (State.when_false _ (by simp [htarget]))
  case icuLevelChange =>
    intro s source hawake
    refine next_unless ?_
    obtain hawake | hlow | hhigh | hreserved | hidle := hawake
    · simp [hawake]
    · simp [Nat.not_le.2 hlow]
    · simp [Nat.not_lt.2 hhigh]
    · simp [hreserved]
    · simp [hidle]
  case noLatch =>
    intro s source bit hawake
    refine next_unless ?_
    rcases hawake with h | h | h
    · rw [decide_eq_false (by omega), Bool.false_and]
    · rw [decide_eq_false (by omega), Bool.false_and]
    · rw [State.latched_of_awake h, Bool.and_false]
  case icuModgapEndElse =>
    intro s target hawake htarget
    exact next_when (by simp [hawake, htarget]) rfl
  case icuLevelChangeElse =>
    intro s source hawake hsource hsource2 hreservedSource hserv
    exact next_when (by simp [hawake, hsource, hsource2, hreservedSource, hserv]) rfl
  case latchAnchor =>
    intro s source bit hsource hbit hlatched
    refine next_when ?_ ?_
    · rw [if_pos hsource, if_pos hsource, hlatched, decide_eq_true ⟨by omega, hbit⟩]
      rfl
    · rw [if_pos hsource, if_pos hsource]
  case latchDie =>
    intro s source bit hsource hsource2 hbit hlatched
    have hdie : ¬source < 140 := Nat.not_lt.2 hsource
    refine next_when ?_ ?_
    · rw [if_neg hdie, if_neg hdie, hlatched, decide_eq_true ⟨hsource2, hbit⟩]
      rfl
    · rw [if_neg hdie, if_neg hdie]
  case slotHeld =>
    exact fun s source slot => rfl

end Sys2Proof.Machine

namespace Sys2Proof.Machine

/-! The commit to sleep: every field die is off, and nothing after that powers one again. -/

/-- The power registers of the field dies stay. -/
def State.SamePower (s t : State) : Prop := ∀ d, t.reg d 0x12 0x024 = s.reg d 0x12 0x024

namespace State.SamePower

theorem of_regs {s t : State} (h : t.regs = s.regs) : State.SamePower s t := fun d => by unfold State.reg; rw [h]

theorem trans {s t u : State} (h : State.SamePower s t) (h' : State.SamePower t u) : State.SamePower s u :=
  fun d => (h' d).trans (h d)

theorem set {s : State} {d : Nat} {f : Fld} {v : Nat} (_hpage : f.page < 0x12) (hoff : f.off < 0x1000) :
    State.SamePower s (s.set d f v) :=
  fun _ => State.reg_set_ne s f v (by unfold hostAddr; omega)

theorem setBit {s : State} {d i : Nat} {f : Fld} {v : Bool} (hpage : f.page < 0x12) (hoff : f.off < 0x1000) :
    State.SamePower s (s.setBit d f i v) := by
  unfold State.setBit
  exact set hpage hoff

theorem err {s : State} {d p c : Nat} (_hpage : p < 0x12) : State.SamePower s (s.err d p c) :=
  fun _ => State.reg_err_ne s c (by unfold hostAddr; omega)

theorem foldl {α : Type} {f : State → α → State} (hf : ∀ s x, State.SamePower s (f s x)) (l : List α) (s : State) :
    State.SamePower s (l.foldl f s) := by
  induction l generalizing s with
  | nil => exact of_regs rfl
  | cons x l ih => exact (hf s x).trans (ih (f s x))

theorem setStat {s : State} {d p v : Nat} {f : Nat → Fld} (hpage : (f p).page = 0x0E) (hoff :
  (f p).off = 0x118 + 64 * p)
    (hp : p < 8) : State.SamePower s (s.set d (f p) v) :=
  set (by omega) (by omega)

theorem setWatch {s : State} {d p : Nat} {w : Watch} : State.SamePower s (s.setWatch d p w) :=
  of_regs (State.setWatch_frame s d p w).1

theorem setDie {s : State} {d : Nat} {x : Die} : State.SamePower s (s.setDie d x) :=
  of_regs (State.setDie_regs s d x)

theorem enterLearn {s : State} {d p : Nat} (hp : p < 8) : State.SamePower s (s.enterLearn d p) :=
  (setStat (f := F.CWT_P_STAT_STATE) rfl rfl hp).trans ((setStat (f := F.CWT_P_STAT_RUN) rfl rfl hp).trans setWatch)

theorem armOrLearn {s : State} {d p : Nat} (hp : p < 8) : State.SamePower s (s.armOrLearn d p) := by
  unfold State.armOrLearn
  split
  · exact enterLearn hp
  · split
    · exact (enterLearn hp).trans (err (by decide))
    · exact (setStat (f := F.CWT_P_STAT_STATE) rfl rfl hp).trans (setStat (f := F.CWT_P_STAT_RUN) rfl rfl hp)

theorem resumeWatch {s : State} {d p : Nat} (hp : p < 8) : State.SamePower s (s.resumeWatch d p) := by
  unfold State.resumeWatch
  dsimp only
  split
  · exact armOrLearn hp
  · split
    · exact setStat (f := F.CWT_P_STAT_STATE) rfl rfl hp
    · exact (setStat (f := F.CWT_P_STAT_STATE) rfl rfl hp).trans (setStat (f := F.CWT_P_STAT_RUN) rfl rfl hp)

theorem dropWaiting {s : State} {d p : Nat} : State.SamePower s (s.dropWaiting d p) := by
  unfold State.dropWaiting
  dsimp only
  split
  · split <;> exact of_regs rfl
  · exact of_regs rfl

theorem suspendWatch {s : State} {d p : Nat} (hp : p < 8) : State.SamePower s (s.suspendWatch d p) :=
  setWatch.trans ((setStat (f := F.CWT_P_STAT_STATE) rfl rfl hp).trans dropWaiting)

theorem watchSync {s : State} {d p : Nat} (hp : p < 8) : State.SamePower s (s.watchSync d p) := by
  unfold State.watchSync
  dsimp only
  split
  · exact of_regs rfl
  · split
    · split
      · exact resumeWatch hp
      · exact of_regs rfl
    · split
      · exact of_regs rfl
      · exact suspendWatch hp

theorem watchSyncAll {s : State} : State.SamePower s s.watchSyncAll := by
  refine foldl (fun s i => ?_) _ s
  have hports : ∀ (n : Nat) (s : State), n ≤ 8 →
      State.SamePower s ((List.range n).foldl (fun s p => s.watchSync (i + 1) p) s) := by
    intro n
    induction n with
    | zero => exact fun s _ => of_regs rfl
    | succ n ih =>
      intro s hn
      rw [List.range_succ, List.foldl_append]
      exact (ih s (by omega)).trans (watchSync (by omega))
  exact hports 8 s (Nat.le_refl 8)

theorem cmpSettle {s : State} : State.SamePower s s.cmpSettle := by
  refine foldl (fun s k => ?_) _ s
  split
  · exact of_regs rfl
  · exact (of_regs (t := { s with saf := { s.saf with primed := s.saf.primed.filter (· != k) } }) rfl).trans
      (setBit (by decide) (by decide))

theorem attnSync {s : State} : State.SamePower s s.attnSync :=
  (of_regs (t := { s with htw := { s.htw with levels := s.attnLevels } }) rfl).trans (set (by decide) (by decide))

end State.SamePower

theorem State.pstate_of_samePower {s t : State} (h : State.SamePower s t) (d : Nat) : t.pstate d = s.pstate d :=
  congrArg (bits · 0 2) (h d)

/-- R659: one field die turned off by the commit; `watched` are the dies whose watch domain stays. -/
def State.sleepDie (s : State) (toWatch : Bool) (watched : List Nat) (i : Nat) : State :=
  let d := i + 1
  let s := ((s.set d F.DPWR_STAT_PSTATE 0).set d F.DPWR_STAT_WATCHDOM (b2n (toWatch && watched.contains d))).setBit 0
    F.SEM_DIES_LOCKED i false
  s.setDie d { s.die d with timeLoaded := false, runAsked := false }

theorem State.pstate_sleepDie (s : State) (toWatch : Bool) (watched : List Nat) (i d : Nat) :
    (s.sleepDie toWatch watched i).pstate d = if d = i + 1 then 0 else s.pstate d := by
  have hlocked (t : State) (x : Die) : ((t.setBit 0 F.SEM_DIES_LOCKED i false).setDie
    (i + 1) x).pstate d = t.pstate d :=
    State.pstate_of_samePower ((State.SamePower.setBit (by decide) (by decide)).trans State.SamePower.setDie) d
  refine (hlocked _ _).trans ?_
  by_cases hd : d = i + 1
  · rw [if_pos hd, hd]
    exact (State.get_set_beside _ _ F.DPWR_STAT_WATCHDOM F.DPWR_STAT_PSTATE _ rfl rfl (by decide) (.inl
      (by decide))).trans
      (State.get_set_same _ _ F.DPWR_STAT_PSTATE 0 (by decide))
  · have hne : hostAddr d 0x12 0x024 ≠ hostAddr (i + 1) 0x12 0x024 := by unfold hostAddr; omega
    rw [if_neg hd]
    exact (State.get_set_ne _ F.DPWR_STAT_WATCHDOM F.DPWR_STAT_PSTATE _ hne).trans
      (State.get_set_ne _ F.DPWR_STAT_PSTATE F.DPWR_STAT_PSTATE _ hne)

theorem State.pstate_foldl_sleepDie (s : State) (toWatch : Bool) (watched : List Nat) (n d : Nat) (hd : 1 ≤ d)
  (hn : d ≤ n) :
    ((List.range n).foldl (fun s i => s.sleepDie toWatch watched i) s).pstate d = 0 := by
  induction n with
  | zero => omega
  | succ n ih =>
    rw [List.range_succ, List.foldl_append]
    refine (State.pstate_sleepDie _ _ _ _ _).trans ?_
    split
    · rfl
    · exact ih (by omega)

theorem State.epoch_device_ready_of_kept {s t : State} (h : t.kept = s.kept) :
    t.epoch = s.epoch ∧ t.device = s.device ∧ t.ready = s.ready := by
  simp only [State.kept, Prod.mk.injEq] at h
  obtain ⟨-, -, hepoch, -, -, -, hdevice, hready⟩ := h
  exact ⟨hepoch, hdevice, hready⟩

theorem State.dies_of_kept {s t : State} (h : t.kept = s.kept) : t.dies = s.dies :=
  congrArg (fun k => k.1.fieldDies) h

/-- R659: the device as the commit leaves it asleep, its field dies being off. -/
def State.sleeps (s : State) (toWatch : Bool) (inc : Nat) : State :=
  { s with device := if toWatch then .watch else .deepSleep, ready := false,
           tb := { s.tb with inc := inc, frac := 0, align := true },
           power := { s.power with sleptAt := s.time, waking := false, frontReady := false, anchorReady := false } }

theorem State.sleeps_frame (s : State) (toWatch : Bool) (inc : Nat) : (s.sleeps toWatch inc).regs = s.regs ∧
    (s.sleeps toWatch inc).epoch = s.epoch ∧ (s.sleeps toWatch inc).mem = s.mem :=
  ⟨rfl, rfl, rfl⟩

/-- The dies that the commit turns off, in a state that it has prepared. -/
def State.sleepDies (s : State) (toWatch : Bool) (watched : List Nat) : State :=
  (List.range s.dies).foldl (fun s i => s.sleepDie toWatch watched i) s

theorem State.pstate_sleepDies {s : State} {d : Nat} (toWatch : Bool) (watched : List Nat) (hlo : 1 ≤ d)
    (hhi : d ≤ s.dies) : (s.sleepDies toWatch watched).pstate d = 0 :=
  State.pstate_foldl_sleepDie s toWatch watched s.dies d hlo hhi

theorem exec_sleepCommit {s : State} (hprepare : s.power.phase = .prepare) (hprepared : s.power.prepared = true)
    (hholders : s.holders = 0) :
    let a := s.keepLines.setPhase .none
    exec (.sleepCommit) s = .next ((((a.sleepDies s.power.toWatch
      (s.keepLines.sleepPorts.map portDie).eraseDups).sleeps
      s.power.toWatch (a.get 0 F.TBS_INC_INT_INT * 2 ^ 32 + a.get 0 F.TBS_INC_FRAC_FRAC)).set 0
      F.TBS_MEAS_VALID 0).cmpSettle.watchSyncAll.attnSync) :=
  next_when (by rw [hprepare, hprepared, hholders]; rfl) rfl

/-- R66: the increment that AUTOTRIM loads stands outside the pads. -/
theorem State.padHeld_autotrim (s : State) (g : Nat) : s.autotrim.padHeld g = s.padHeld g := by
  refine congrArg (Nat.testBit · g) (congrArg (bits · _ _) ?_)
  unfold State.autotrim
  dsimp only
  split
  · rfl
  · split
    · rw [State.reg_set_ne _ F.TBS_INC_FRAC_FRAC _ (by decide), State.reg_set_ne _ F.TBS_INC_INT_INT _ (by decide)]
    · exact State.reg_raise_ne _ _ (by decide) (by decide)

/-- R658, step 5: the pads are latched as they are. -/
def State.latchPads (s : State) : State :=
  { s with power := { s.power with padLatch := s.gpWords ++ [s.selWord], sscLatch := s.sscRest, prepared := true } }

theorem State.latchPads_power (s : State) : s.latchPads.power =
    { s.power with padLatch := s.gpWords ++ [s.selWord], sscLatch := s.sscRest, prepared := true } :=
  rfl

theorem State.storeCrcs_pads (s : State) (dies : List Nat) : (s.storeCrcs dies).power.prepared = s.power.prepared ∧
    (s.storeCrcs dies).power.padLatch = s.power.padLatch :=
  ⟨rfl, rfl⟩

/-- The rest of PREPARE latches the pads of a state with the registers and the power of the trimmed one. -/
theorem State.prepareRest_eq (s : State) : ∃ t : State, t.regs = s.autotrim.regs ∧ t.power = s.autotrim.power ∧
    ∃ dies, s.prepareRest = (t.latchPads.set 0 F.PWR_STAT_PADHELD 7).storeCrcs dies := by
  have htrims (l : List Nat) (t : State) :
      (l.foldl (fun s d => s.setDie d { s.die d with watchOscTrimmed := true }) t).regs = t.regs ∧
      (l.foldl (fun s d => s.setDie d { s.die d with watchOscTrimmed := true }) t).power = t.power := by
    induction l generalizing t with
    | nil => exact ⟨rfl, rfl⟩
    | cons d l ih => exact (ih _).imp (·.trans (State.setDie_regs ..)) (·.trans (State.setDie_power ..))
  refine ⟨_, ?_, ?_, _, rfl⟩
  · split
    · exact (htrims _ _).1
    · rfl
  · split
    · exact (htrims _ _).2
    · rfl

/-- The words of pins that are free show the registers. -/
theorem State.gpWords_of_regs {s t : State} (hregs : t.regs = s.regs) (hfree : s.padHeld 0 = false) :
    t.gpWords = s.gpWords ∧ s.gpWords.length = 4 := by
  have hreg (d p o : Nat) : t.reg d p o = s.reg d p o := by unfold State.reg; rw [hregs]
  have hfree' : t.padHeld 0 = false := (congrArg (fun x => (bits x _ _).testBit 0) (hreg ..)).trans hfree
  unfold State.gpWords
  rw [hfree, hfree']
  simp [hreg]

/-- Settles O35, by the phase of the entry, its holders and what its commit leaves. -/
theorem sleepEntry : Obligations.SleepEntry := by
  refine ⟨?sleepDeepRequest, ?deepRefused, ?sleepWatchRequest, ?watchRefused, ?sleepWatchRequestElse,
    ?entryTimeout, ?entryTimeoutElse, ?entryTimeoutOther, ?prepareWhole, ?prepareSupply, ?sleepPrepare,
    ?sleepCommit, ?sleepCommitElse, ?prepareRest⟩
  case sleepDeepRequest =>
    rintro s u v hawake hlock hnone hload rfl rfl
    exact next_hostWrite hawake hlock (by simp [hnone, hload])
  case deepRefused =>
    intro s hawake hlock hload
    exact next_hostWrite hawake hlock (if_pos (hload.imp_right Option.ne_none_iff_isSome.1))
  case sleepWatchRequest =>
    rintro s u v hawake hlock hnone hload hlength rfl rfl
    exact next_hostWrite hawake hlock (by simp [hnone, hload, Nat.not_lt.2 hlength])
  case watchRefused =>
    intro s hawake hlock hload
    exact next_hostWrite hawake hlock (if_pos (hload.imp_right Option.ne_none_iff_isSome.1))
  case sleepWatchRequestElse =>
    intro s hawake hlock hnone hload hlength
    exact next_hostWrite hawake hlock (by simp [hnone, hload, hlength])
  case entryTimeout =>
    rintro s u hdrain hholders rfl
    exact next_when (by simp [hdrain, hholders]) (by simp [hdrain])
  case entryTimeoutElse =>
    rintro s u hprepare hholders rfl
    exact next_when (by simp [hprepare, hholders]) (by simp [hprepare])
  case entryTimeoutOther =>
    intro s hholders
    exact next_unless (by rcases hholders with hholders | hholders <;> simp [hholders])
  case prepareWhole =>
    rintro s u v hdrain hholders rfl rfl hvsleepTarget
    exact next_when (by rw [hdrain, hholders]; rfl) (if_pos hvsleepTarget)
  case prepareSupply =>
    rintro s u v hdrain hholders rfl rfl hvsleepTarget
    exact next_when (by rw [hdrain, hholders]; rfl) (if_neg hvsleepTarget)
  case sleepPrepare =>
    intro s hholders
    exact next_unless (by rcases hholders with hholders | hholders <;> simp [hholders])
  case sleepCommit =>
    intro s hholders
    exact next_unless (by rcases hholders with hholders | hholders | hholders <;> simp [hholders])
  case sleepCommitElse =>
    intro s hprepare hprepared hholders
    refine ⟨_, exec_sleepCommit hprepare hprepared hholders, ?_⟩
    generalize (s.keepLines.sleepPorts.map portDie).eraseDups = watched
    generalize (s.keepLines.setPhase .none).get 0 F.TBS_INC_INT_INT * 2 ^ 32 +
      (s.keepLines.setPhase .none).get 0 F.TBS_INC_FRAC_FRAC = inc
    have hprepares : (s.keepLines.setPhase .none).kept = s.kept := by simp
    have hdies : (s.keepLines.setPhase .none).dies = s.dies := State.dies_of_kept hprepares
    have hv : ((s.keepLines.setPhase .none).sleepDies s.power.toWatch watched).kept = s.kept := by
      simp [State.sleepDies, State.sleepDie]
    have hbytes : ((s.keepLines.setPhase .none).sleepDies s.power.toWatch watched).bytes = s.bytes := by
      simp [State.sleepDies, State.sleepDie]
    have hpower (d : Nat) (hlo : 1 ≤ d) (hhi : d ≤ s.dies) :
        ((s.keepLines.setPhase .none).sleepDies s.power.toWatch watched).pstate d = 0 :=
      State.pstate_sleepDies _ _ hlo (Nat.le_trans hhi (Nat.le_of_eq hdies.symm))
    generalize (s.keepLines.setPhase .none).sleepDies s.power.toWatch watched = v at hv hbytes hpower ⊢
    obtain ⟨hregs, hepoch, hmem⟩ := v.sleeps_frame s.power.toWatch inc
    obtain ⟨hepoch', hdevice', hready'⟩ := State.epoch_device_ready_of_kept
      (show ((v.sleeps s.power.toWatch inc).set 0 F.TBS_MEAS_VALID 0).cmpSettle.watchSyncAll.attnSync.kept =
        (v.sleeps s.power.toWatch inc).kept by simp)
    have hbytes' : ((v.sleeps s.power.toWatch inc).set 0 F.TBS_MEAS_VALID 0).cmpSettle.watchSyncAll.attnSync.bytes =
        (v.sleeps s.power.toWatch inc).bytes := by simp
    have hsame : State.SamePower v ((v.sleeps s.power.toWatch inc).set 0 F.TBS_MEAS_VALID
      0).cmpSettle.watchSyncAll.attnSync :=
      (State.SamePower.of_regs hregs).trans ((State.SamePower.set (by decide) (by decide)).trans
        (State.SamePower.cmpSettle.trans (State.SamePower.watchSyncAll.trans State.SamePower.attnSync)))
    exact ⟨hdevice'.trans rfl, hready'.trans rfl,
      hepoch'.trans (hepoch.trans (State.epoch_device_ready_of_kept hv).1), hbytes'.trans (hmem.trans hbytes),
      fun d hlo hhi => (State.pstate_of_samePower hsame d).trans (hpower d hlo hhi)⟩
  case prepareRest =>
    intro s
    have hkept : s.prepareRest.kept = s.kept := by simp
    obtain ⟨hepoch, hdevice, hready⟩ := State.epoch_device_ready_of_kept hkept
    obtain ⟨t, hregs, hpower, dies, heq⟩ := s.prepareRest_eq
    obtain ⟨hprepared, hlatch⟩ := (t.latchPads.set 0 F.PWR_STAT_PADHELD 7).storeCrcs_pads dies
    rw [State.set_power, State.latchPads_power] at hprepared hlatch
    refine ⟨?_, ?_, State.prepareRest_bytes s, hdevice, hepoch, fun hfree => ?_⟩
    · rw [heq]
      unfold State.get State.reg
      rw [State.storeCrcs_regs]
      exact State.get_set_same t.latchPads 0 F.PWR_STAT_PADHELD 7 (by decide)
    · rw [heq, hprepared]
    · obtain ⟨hwords, hlen⟩ := State.gpWords_of_regs hregs ((State.padHeld_autotrim s 0).trans hfree)
      rw [heq, hlatch]
      dsimp only
      rw [hwords, ← hlen, List.take_left]

end Sys2Proof.Machine

namespace Sys2Proof.Machine

/-- R663: the device in ACTIVE, before the rest of what a wake settles. -/
def State.wakeUp (s : State) : State :=
  { s with device := .active, ready := true,
           power := { s.power with waking := false, frontReady := true, failed := [], lostWatch := 0 } }

/-- R666, R667, R673, R714: the rest of what a wake settles, with the power manager `w` of before. -/
def State.wakeRest (s : State) (w : Power) (gp : Nat) : State :=
  let s := (s.raise 0 0x03 0).retFail w.failed
  let s := ((List.range s.dies).filter (fun i => s.sequenced (i + 1))).foldl (fun s i => s.askRun (i + 1)) s
  let s := s.gpAfterWake gp
  let s := s.flushWatch
  let s : State := if s.flag 0 F.PWR_CFG_WREP_ALL || !w.failed.isEmpty then
      s.wakeReport w.wakeSrc w.wakeFrom w.wakeDetail ((w.wakeTime - w.sleptAt) / ticksPerMs) w.wakeTime w.failed
        w.lostWatch
    else s
  let s := if s.get 0 F.PWR_VSLEEP_TARGET = 0 then s
    else s.supplyRequest { cmd := 1, value := s.get 0 F.FCO_VSUP_IDLE }
  let s := if s.flag 0 F.PWR_CFG_AUTOREL then s.releasePads 7 else s
  let s := (List.range s.dies).foldl (fun s i => s.holdRun (i + 1)) s
  let s := (List.range 32).foldl (fun s n => s.pleNext n) s
  let s := (List.range (s.dies + 1)).foldl (fun s d => s.tempCauses d
    (if d = 0 then s.coord.anchorTemp else s.dieTemp d)) s
  s.cmpSettle.watchSyncAll.sslReserve.coordinate.attnSync

theorem State.wakeRest_kept (s : State) (w : Power) (gp : Nat) : (s.wakeRest w gp).kept = s.kept := by
  simp [State.wakeRest, apply_ite State.kept]

theorem State.wakeRest_bytes (s : State) (w : Power) (gp : Nat) : (s.wakeRest w gp).bytes = s.bytes := by
  simp [State.wakeRest, apply_ite State.bytes]

theorem exec_wakeComplete {s : State} (gp : Nat) (hasleep : s.device = .deepSleep ∨ s.device = .watch)
    (hwaking : s.power.waking = true) (hanchor : s.power.anchorReady = true) :
    exec (.wakeComplete gp) s = .next ((s.frontsUp true).wakeUp.wakeRest (s.frontsUp true).power gp) :=
  next_when (by rw [decide_eq_true hasleep, hwaking, hanchor]; rfl) rfl

theorem State.wakeUp_frame (s : State) : s.wakeUp.device = .active ∧ s.wakeUp.ready = true ∧ s.wakeUp.epoch = s.epoch ∧
    s.wakeUp.mem = s.mem :=
  ⟨rfl, rfl, rfl, rfl⟩
/-- R663: a wake source of a device that sleeps, which it leaves from the state `left` names. -/
def State.wakeAsleep (s : State) (left src detail : Nat) : State :=
  if !s.power.waking then
    ({ s with power := { s.power with
        waking := true, frontReady := false, anchorReady := false, wakeSrc := src, wakeDetail := detail,
        wakeFrom := left, wakeTime := s.time, failed := [], lostWatch := 0 } } : State).recordWake false left src
          detail
  else if s.power.wakeTime = s.time ∧ src < s.power.wakeSrc then
    ({ s with power := { s.power with wakeSrc := src, wakeDetail := detail } } : State).recordWake false left src
      detail
  else s

/-- Settles O36, by the device state, the domain that is ready, and the entry that a wake source abandons. -/
theorem wakeAndPads : Obligations.WakeAndPads := by
  refine ⟨?wakePinAssert, ?wakePinAssertElse, ?wakeDomainReady, ?dieUp, ?dieStays, ?noWake, ?wakeComplete,
    ?wakeCompleteElse, ?padRelease, ?keepRun, ?keepRunNot, ?dieOffIdle, ?dieOffIdleElse, ?gppEdge,
    ?gppEdgeElse, ?gppEdgeOther, ?wakeBy, ?holdRun⟩
  case wakePinAssert =>
    rintro s high periods hwakeEnWakepin rfl hperiods
    exact next_when (by simp [hwakeEnWakepin, hperiods]) rfl
  case wakePinAssertElse =>
    intro s high periods hwakeEnWakepin
    exact next_unless (by rcases hwakeEnWakepin with hwakeEnWakepin | hwakeEnWakepin | hwakeEnWakepin
      <;> simp [hwakeEnWakepin])
  case wakeDomainReady =>
    rintro s die front found l u hwatch hwaking hpresent rfl rfl
    show execWakeDomainReady die front found _ = _
    simp [execWakeDomainReady, hwatch, hwaking, hpresent]
  case dieUp =>
    intro s die front found l u v w hawake hserv hpstate hcfgKeepRun hl hu hv hw
    have hasleep : decide (s.device = .deepSleep ∨ s.device = .watch) = false := by
      rw [(of_decide_eq_true hawake : s.device = .active)]
      rfl
    refine congrArg Host.Outcome.next ((if_neg (by rw [hasleep]; exact Bool.false_ne_true)).trans
      ((if_pos ?_).trans ?_))
    · rw [hawake, hserv, hpstate]
      rcases hcfgKeepRun with h | h | h <;> simp [h]
    · by_cases hsound : s.failing die found = []
      · refine (if_pos (List.isEmpty_iff.2 hsound)).trans (Eq.symm ((if_pos (hl.trans hsound)).trans ?_))
        rw [hw, hv, hu, hl]
      · refine (if_neg (mt List.isEmpty_iff.1 hsound)).trans (Eq.symm ((if_neg (hl ▸ hsound)).trans ?_))
        rw [hw, hv, hu, hl]
  case dieStays =>
    intro s die front found hawake hserv
    have hasleep : decide (s.device = .deepSleep ∨ s.device = .watch) = false := by
      rw [(of_decide_eq_true hawake : s.device = .active)]
      rfl
    refine congrArg Host.Outcome.next ((if_neg (by rw [hasleep]; exact Bool.false_ne_true)).trans (if_neg ?_))
    rcases hserv with h | h | ⟨h, h', h''⟩
    · simp [h]
    · simp [h]
    · simp [h, h', h'']
  case noWake =>
    intro s die front found hawake hpresent
    refine congrArg Host.Outcome.next ((if_neg ?_).trans (if_neg (by rw [hawake]; exact Bool.false_ne_true)))
    rcases hpresent with h | h <;> simp [h]
  case wakeComplete =>
    intro s gp hanchorReady
    exact next_unless (by rcases hanchorReady with hanchorReady | hanchorReady | hanchorReady | hanchorReady |
      hanchorReady <;> simp [hanchorReady])
  case wakeCompleteElse =>
    intro s gp hasleep hwaking hanchor
    refine ⟨_, exec_wakeComplete gp hasleep hwaking hanchor, ?_⟩
    have hkept : (s.frontsUp true).kept = s.kept := State.frontsUp_kept ..
    have hbytes : (s.frontsUp true).bytes = s.bytes := State.frontsUp_bytes ..
    obtain ⟨hepoch, hdevice, hready⟩ := State.epoch_device_ready_of_kept
      (State.wakeRest_kept (s.frontsUp true).wakeUp (s.frontsUp true).power gp)
    have hbytes' := State.wakeRest_bytes (s.frontsUp true).wakeUp (s.frontsUp true).power gp
    obtain ⟨hup, hup', hup'', hmem⟩ := (s.frontsUp true).wakeUp_frame
    exact ⟨hdevice.trans hup, hready.trans hup', hepoch.trans (hup''.trans (State.epoch_device_ready_of_kept hkept).1),
      hbytes'.trans (hmem.trans hbytes)⟩
  case padRelease =>
    intro s value hawake hlock
    exact next_hostWrite hawake hlock rfl
  case keepRun =>
    rintro s die u hawake hdie hserv rfl hawake2 hlock
    exact (congrArg Host.Outcome.next (State.when_true _ hdie)).trans
      (next_pageWrite hawake (by rw [RegTable.implemented]; split <;> rfl) (.inr hserv) hawake2 hlock rfl)
  case keepRunNot =>
    intro s die hawake
    rcases hawake with h | h | h
    · exact next_of_unchanged (if_neg (by rw [h]; exact Bool.false_ne_true))
    · exact next_unless h
    · by_cases hdie : s.fieldDie die = true
      · have hne : (die == 0) = false := by
          have := (of_decide_eq_true hdie).1
          exact beq_eq_false_iff_ne.2 (by omega)
        exact next_of_unchanged (if_neg (by rw [h, hne, Bool.or_false, Bool.and_false]; exact Bool.false_ne_true))
      · exact next_unless (Bool.not_eq_true _ ▸ hdie)
  case dieOffIdle =>
    intro s die hawake
    exact next_unless (by rcases hawake with hawake | hawake | hawake | hawake | hawake <;> simp [hawake])
  case dieOffIdleElse =>
    rintro s die u hawake hserv hpstate hcfgOffIdle hrunAsked rfl
    exact next_when (by simp [hawake, hserv, hpstate, hcfgOffIdle, hrunAsked]) rfl
  case gppEdge =>
    intro s pin level hawake hpin hinLevel
    exact next_when (by simp [hawake, hpin]) (by simp [hinLevel])
  case gppEdgeElse =>
    intro s pin level hawake hpin hinLevel
    exact next_when (by simp [hawake, hpin]) (by simp [hinLevel])
  case gppEdgeOther =>
    intro s pin level hawake
    exact next_unless (by rcases hawake with hawake | hawake <;> simp [hawake])
  case wakeBy =>
    intro s src detail left
    refine ⟨fun hactive hphase => ?_, fun hactive hphase => ?_, fun hleft => ?_, fun hoff => ?_⟩
    · exact (if_pos hactive).trans (if_pos hphase)
    · exact (if_pos hactive).trans (if_neg hphase)
    · have hasleep : s.device = .deepSleep ∨ s.device = .watch := hleft.imp And.left And.left
      have hactive : ¬s.device = .active := by rcases hasleep with h | h <;> rw [h] <;> decide
      have hfrom : (if s.device = .watch then 2 else 1) = left := by
        rcases hleft with ⟨h, rfl⟩ | ⟨h, rfl⟩ <;> rw [h] <;> rfl
      have hwake : s.wakeBy src detail = s.wakeAsleep left src detail := by
        rw [← hfrom]
        exact (if_neg hactive).trans (if_pos hasleep)
      rw [hwake]
      refine ⟨fun hfirst => if_pos (by rw [hfirst]; rfl), fun hwaking htime hlower => ?_, fun hwaking hlate => ?_⟩
      · exact (if_neg (by rw [hwaking]; decide)).trans (if_pos ⟨htime, hlower⟩)
      · refine (if_neg (by rw [hwaking]; decide)).trans (if_neg ?_)
        rw [Classical.not_and_iff_not_or_not, Nat.not_lt]
        exact hlate
    · rcases hoff with h | h <;> simp [State.wakeBy, h]
  case holdRun =>
    intro s d hawake hserv hkeep hdoze
    refine (if_neg ?_).trans (if_neg ?_)
    · simp [hawake, hserv, hkeep, hdoze]
    · rw [hdoze]
      decide

end Sys2Proof.Machine

namespace Sys2Proof.Machine

/-- Settles O37, by the request that waits, the one in flight and the phase of a sleep entry. -/
theorem supplyLink : Obligations.SupplyLink := by
  refine ⟨?hostSet, ?hostSetRefused, ?ownSet, ?srlStepUp, ?srlStepDown, ?srlQuery, ?ownSetAsleep, ?noFrame,
    ?srlAck, ?srlNoack, ?frame, ?srlFrameStart, ?acked, ?queryAcked, ?noack, ?afterSupply⟩
  case hostSet =>
    rintro s value origin hawake hlock rfl hvalue hvalue2
    exact next_hostWrite hawake hlock (if_pos (by simp [setRange, hvalue, hvalue2]))
  case hostSetRefused =>
    rintro s value origin hawake hlock rfl hvalue
    refine next_hostWrite hawake hlock (if_neg ?_)
    have hrange : setRange value = false := decide_eq_false (by omega)
    simp [hrange]
  case ownSet =>
    intro s value origin hawake hhost
    cases origin with
    | host => exact absurd rfl hhost
    | coordinator => exact next_when hawake rfl
    | powerManager => exact next_when hawake rfl
  case srlStepUp =>
    intro s value hawake hlock
    exact next_hostWrite hawake hlock rfl
  case srlStepDown =>
    intro s value hawake hlock
    exact next_hostWrite hawake hlock rfl
  case srlQuery =>
    intro s hawake hlock
    exact next_hostWrite hawake hlock rfl
  case ownSetAsleep =>
    intro s value origin hawake hhost
    cases origin with
    | host => exact absurd rfl hhost
    | coordinator => exact next_unless hawake
    | powerManager => exact next_unless hawake
  case noFrame =>
    intro s hwaiting
    refine congrArg Host.Outcome.next ?_
    cases hf : s.supply.flight with
    | some r => rfl
    | none => rw [hwaiting.resolve_left (not_not_intro hf)]
  case srlAck =>
    intro s hflight
    show execSrlAck  _ = _
    simp [execSrlAck, hflight]
  case srlNoack =>
    intro s hflight
    show execSrlNoack  _ = _
    simp [execSrlNoack, hflight]
  case frame =>
    rintro s r b target u hflight hwaiting rfl rfl rfl hcmd
    refine congrArg Host.Outcome.next ?_
    rw [hflight, hwaiting]
    exact if_neg hcmd
  case srlFrameStart =>
    rintro s r b target u hflight hwaiting rfl rfl rfl hcmd
    show execSrlFrameStart  _ = _
    simp [execSrlFrameStart, hflight, hwaiting, hcmd]
  case acked =>
    rintro s r u v hflight hcmd rfl rfl
    refine congrArg Host.Outcome.next ?_
    rw [hflight]
    dsimp only
    rw [if_neg hcmd]
    rfl
  case queryAcked =>
    rintro s r v hflight hcmd rfl
    refine congrArg Host.Outcome.next ?_
    rw [hflight]
    dsimp only
    rw [if_pos hcmd]
    rfl
  case noack =>
    intro s r hflight
    refine congrArg Host.Outcome.next ?_
    rw [hflight]
    rfl
  case afterSupply =>
    intro s
    refine ⟨fun hprepare hopen hflight hwaiting => State.when_true _ (by rw [hprepare, hopen, hflight, hwaiting]; rfl),
      fun h => State.when_false _ ?_⟩
    rcases h with h | h | h | h <;> simp [h, Option.isNone_eq_false_iff, Option.ne_none_iff_isSome.1]

end Sys2Proof.Machine

namespace Sys2Proof.Machine

/-- R497, R767, R772: the start-up before READY: the seams are trained, the maps and the profile applied, the
calibration sets loaded. -/
def State.startUpLoaded (s : State) (seams : Nat) (badSets : List Nat) : State :=
  ((((List.range (s.trainSeams seams).dies).foldl (fun s i => s.applyMaps (i + 1))
    (s.trainSeams seams)).applyProfile).loadCal
    badSets).resumeCounter

theorem State.startUpLoaded_kept (s : State) (seams : Nat) (badSets : List Nat) :
    (s.startUpLoaded seams badSets).kept = s.kept := by
  simp [State.startUpLoaded, -List.foldl_cons, -List.foldl_nil]

/-- The last steps of the start-up leave the device READY and what almost every operation keeps. -/
theorem State.startUp_kept (u : State) :
    ({ u with ready := true } :
      State).allDue.startRadio.startTests.cmpSettle.watchSyncAll.sslReserve.refreshAll.coordinate.attnSync.kept =
      (u.part, u.pending, u.epoch, u.nv.lockDone, u.nv.lockWords, u.nv.debugLock, u.device, true) := by
  simp only [State.attnSync_kept, State.refreshAll_kept, State.watchSyncAll_kept, State.cmpSettle_kept,
    State.coordinate_kept, State.sslReserve_kept, State.startTests_kept, State.startRadio_kept, State.allDue_kept,
      kept_mk]

/-- R653: what a reset leaves before DEV_RESET names its cause. -/
def State.cleared (s : State) : State :=
  { State.reset with
    part := s.part, rail33 := s.rail33, epoch := !s.epoch, nv := s.nv.cut,
    lockBlock := if s.nv.cut.lockDone then s.nv.cut.lockWords else [],
    radio := { State.reset.radio with second := s.radio.second, charges := s.radio.charges },
    free := s.free, pending := s.pending }

theorem State.resetDevice_eq (s : State) (cause : Nat) :
    s.resetDevice cause = (s.cleared.set 0 F.DEV_RESET_FRESH 1).set 0 F.DEV_RESET_CAUSE cause :=
  rfl

theorem State.cleared_frame (s : State) : s.cleared.epoch = !s.epoch ∧ s.cleared.device = .reset ∧
    s.cleared.ready = false ∧ s.cleared.time = State.reset.time ∧ s.cleared.mem = State.reset.mem ∧
    s.cleared.regs = State.reset.regs :=
  ⟨rfl, rfl, rfl, rfl, rfl, rfl⟩

/-- What an NV operation cut by a reset leaves but the words of the slots: the rest keeps its copy. -/
theorem Nv.cut_eq (n : Nv) : ∃ slots, n.cut = { n with ops := [], slots := slots } := by
  unfold Nv.cut
  split <;> exact ⟨_, rfl⟩

/-- Settles O38, by what a reset clears, what the NV store keeps, and the last steps of the start-up. -/
theorem resetsAndStartUp : Obligations.ResetsAndStartUp := by
  refine ⟨?powerOn, ?powerOnElse, ?vsupLoss, ?vsupDip, ?vsupDipElse, ?nrstLow, ?nrstLowElse, ?coreRailReset,
    ?coreRailResetElse, ?resetEnd, ?resetEndElse, ?memoryTestEnd, ?startupReady, ?memoryTestEndElse,
    ?startupReadyElse, ?cut, ?resetDevice⟩
  case powerOn =>
    rintro s iosel u hoff rfl
    exact next_when (by simp [hoff]) rfl
  case powerOnElse =>
    intro s iosel hoff
    exact next_unless (by simp [hoff])
  case vsupLoss =>
    rintro s torn lock n rfl rfl
    rfl
  case vsupDip =>
    intro s hoff
    exact next_when (by simp [hoff]) rfl
  case vsupDipElse =>
    intro s hoff
    exact next_unless (by simp [hoff])
  case nrstLow =>
    intro s hoff
    exact next_when (by simp [hoff]) rfl
  case nrstLowElse =>
    intro s hoff
    exact next_unless (by simp [hoff])
  case coreRailReset =>
    intro s hoff
    exact next_when (by simp [hoff]) rfl
  case coreRailResetElse =>
    intro s hoff
    exact next_unless (by simp [hoff])
  case resetEnd =>
    rintro s prof twa u hreset rfl
    exact next_when (by simp [hreset]) rfl
  case resetEndElse =>
    intro s prof twa hreset
    exact next_unless (by simp [hreset])
  case memoryTestEnd =>
    intro s faults hawake
    exact next_unless (by rcases hawake with hawake | hawake <;> simp [hawake])
  case startupReady =>
    intro s seams badSets hawake
    exact next_unless (by rcases hawake with hawake | hawake <;> simp [hawake])
  case memoryTestEndElse =>
    rintro s faults l u out hawake hready rfl hremapRows
    refine next_when (by rw [hawake, hready]; rfl) ?_
    dsimp only
    rw [← hremapRows]
    rfl
  case startupReadyElse =>
    intro s seams badSets hawake hready
    refine ⟨_, next_when (by rw [hawake, hready]; rfl) rfl, ?_⟩
    have hkept := kept_device (s.startUpLoaded_kept seams badSets) _ _ (State.startUp_kept
      (s.startUpLoaded seams badSets))
    simp only [State.kept, Prod.mk.injEq] at hkept
    obtain ⟨hpart, hpending, hepoch, -, -, -, hdevice, hready⟩ := hkept
    obtain ⟨hloaded, -⟩ := device_of_kept (s.startUpLoaded_kept seams badSets)
    exact ⟨hready, hdevice.trans hloaded, hepoch, hpending, hpart⟩
  case cut =>
    intro n
    obtain ⟨slots, hcut⟩ := n.cut_eq
    rw [hcut]
    exact ⟨rfl, rfl, rfl, rfl, rfl, rfl, rfl, rfl, rfl, rfl, rfl⟩
  case resetDevice =>
    intro s cause hcause
    obtain ⟨hepoch, hdevice, hready, htime, hmem, hregs⟩ := s.cleared_frame
    rw [State.resetDevice_eq]
    simp only [State.set_epoch, State.set_device, State.set_ready, State.set_time, State.set_mem]
    refine ⟨hepoch, hdevice, hready, htime, hmem, ?_, ?_, fun d p o hne => ?_⟩
    · exact (State.get_set_same _ _ F.DEV_RESET_CAUSE _ (by decide)).trans (Nat.mod_eq_of_lt
      (by change cause < 16; omega))
    · exact (State.get_set_beside _ _ F.DEV_RESET_CAUSE F.DEV_RESET_FRESH _ rfl rfl (by decide) (.inr
      (by decide))).trans
        (State.get_set_same _ _ F.DEV_RESET_FRESH 1 (by decide))
    · rw [State.reg_set_ne _ F.DEV_RESET_CAUSE _ hne, State.reg_set_ne _ F.DEV_RESET_FRESH _ hne]
      unfold State.reg
      rw [hregs]

end Sys2Proof.Machine

namespace Sys2Proof.Machine

/-- R101: shadows take effect at the registers that they shadow. -/
theorem State.reg_applyShadows_ne (s : State) (f : Nat → Bool) {d p o : Nat} (h : f (hostAddr d p o) = false) :
    (s.applyShadows f).reg d p o = s.reg d p o := by
  refine List.foldlRecOn (motive := fun z : State => z.reg d p o = s.reg d p o) _ _ rfl fun z hz e he => ?_
  have hne : hostAddr d p o ≠ e.1 := by
    rintro heq
    rw [List.mem_filter, ← heq, h] at he
    exact Bool.false_ne_true he.2
  exact (Store.get_put_ne _ _ _ _ hne).trans hz

theorem State.applyShadows_cal (s : State) (f : Nat → Bool) : (s.applyShadows f).cal = s.cal :=
  List.foldlRecOn (motive := fun z : State => z.cal = s.cal) _ _ rfl fun _ hz _ _ => hz

/-- R101: the end of a commit touches PG_CTRL, PG_EVT and the counter of its page. -/
theorem State.reg_commitEnd_ne (s : State) {die page d p o : Nat} (hpage : hostAddr d p o / 4096 ≠ 256 * die + page)
    (h : hostAddr d p o < 0x5000 ∨ 0x6000 ≤ hostAddr d p o) :
    (s.commitEnd die page).reg d p o = s.reg d p o := by
  have hne : ∀ off < 4096, hostAddr d p o ≠ hostAddr die page off := fun off hoff heq => hpage (by
    unfold hostAddr at heq ⊢; omega)
  unfold State.commitEnd
  rw [State.reg_raise_ne _ _ (hne _ (by decide)) h, State.reg_set_ne _ (F.PG_SEQ page) _ (hne 0x018 (by decide)),
    State.reg_set_ne _ (F.PG_COMMIT_PEND page) _ (hne 0x008 (by decide)),
    State.reg_set_ne _ (F.PG_SHADOW_DIRTY page) _ (hne 0x008 (by decide))]
  rfl

theorem State.commitEnd_cal (s : State) (die page : Nat) : (s.commitEnd die page).cal = s.cal := by
  unfold State.commitEnd
  rw [State.raise_cal, State.set_cal, State.set_cal, State.set_cal]

/-- R107: what a pending commit of the NVS page leaves. -/
theorem State.reg_nvBetween_ne (s : State) {d p o : Nat} (hpage : hostAddr d p o / 4096 ≠ 0x14)
    (h : hostAddr d p o < 0x5000 ∨ 0x6000 ≤ hostAddr d p o) : s.nvBetween.reg d p o = s.reg d p o := by
  have hne : ∀ off < 4096, hostAddr d p o ≠ hostAddr 0 0x14 off := fun off hoff heq => hpage (by
    unfold hostAddr at heq ⊢; omega)
  unfold State.nvBetween State.when State.commitNow
  split
  · dsimp only
    split
    · exact (State.reg_commitEnd_ne _ hpage h).trans (State.reg_applyShadows_ne s _
        (beq_false_of_ne hpage))
    · rw [State.reg_err_ne _ _ (hne _ (by decide)), State.reg_raise_ne _ _ (hne _ (by decide)) h,
        State.reg_set_ne _ (F.PG_COMMIT_PEND 0x14) _ (hne 0x008 (by decide))]
  · rfl

theorem State.nvBetween_cal (s : State) : s.nvBetween.cal = s.cal := by
  unfold State.nvBetween State.when State.commitNow
  split
  · dsimp only
    split
    · exact (State.commitEnd_cal _ _ _).trans (State.applyShadows_cal s _)
    · rw [State.err_cal, State.raise_cal, State.set_cal]
  · rfl

/-- R718: the save of the calibration sets at the front of the NV store leaves BUSY clear in the page. -/
def State.saveTurn (s : State) : State := (s.set 0 F.CAL_SAVE_BUSY 0).nvPop.nvBetween

theorem State.saveTurn_cal (s : State) : s.saveTurn.cal = s.cal := by
  unfold State.saveTurn
  rw [State.nvBetween_cal, State.nvPop_cal, State.set_cal]

theorem State.reg_saveTurn (s : State) : s.saveTurn.reg 0 0x12 0x02C =
  (s.set 0 F.CAL_SAVE_BUSY 0).reg 0 0x12 0x02C := by
  unfold State.saveTurn
  rw [State.reg_nvBetween_ne _ (by decide) (.inr (by decide))]
  unfold State.reg
  rw [State.nvPop_regs]

/-- R718: the set of a target goes to the NV store. -/
def State.saveSet (s : State) (k : Nat) : State :=
  { s.setCalTarget k { s.calTarget k with dirty := false } with
    nv := { s.nv with cal := Store.put s.nv.cal k {} (s.calSet k) } }

/-- R718: the dirty sets go to the NV store. -/
def State.saveSets (s : State) : State := ((s.cal.filter (fun e => e.2.dirty)).map Prod.fst).foldl State.saveSet s

theorem State.saveSets_regs (s : State) : s.saveSets.regs = s.regs :=
  List.foldlRecOn (motive := fun z : State => z.regs = s.regs) _ _ rfl fun _ hz _ _ => hz

/-- The counter of saves leaves the other bits of its register. -/
theorem State.flag_saveCounted (s : State) {g : Fld} (hpage : g.page = 0x12) (hoff : g.off = 0x02C)
    (hlo : 17 ≤ g.lo) :
    ((s.countUp 0 F.CAL_SAVE_COUNT F.CAL_SAVE_OVF 1).raise 0 0x12 3).flag 0 g = s.flag 0 g := by
  have hcount (t : State) (v : Nat) : (t.set 0 F.CAL_SAVE_COUNT v).get 0 g = t.get 0 g :=
    State.get_set_beside t 0 F.CAL_SAVE_COUNT g v hpage hoff (by decide) (.inr (show 16 ≤ g.lo by omega))
  have hovf (t : State) (v : Nat) : (t.set 0 F.CAL_SAVE_OVF v).get 0 g = t.get 0 g :=
    State.get_set_beside t 0 F.CAL_SAVE_OVF g v hpage hoff (by decide) (.inr hlo)
  have hraise (t : State) : (t.raise 0 0x12 3).get 0 g = t.get 0 g := by
    unfold State.get
    rw [hpage, hoff, State.reg_raise_ne _ _ (by decide) (.inr (by decide))]
  unfold State.flag
  rw [hraise]
  unfold State.countUp
  dsimp only
  split
  · rw [hovf, hcount]
  · rw [hcount]

theorem State.flag_saveSets_busy (s : State) : s.saveTurn.saveSets.flag 0 F.CAL_SAVE_BUSY = false := by
  have hreg : s.saveTurn.saveSets.reg 0 0x12 0x02C = (s.set 0 F.CAL_SAVE_BUSY 0).reg 0 0x12 0x02C := by
    rw [← s.reg_saveTurn]
    unfold State.reg
    rw [State.saveSets_regs]
  have hget : s.saveTurn.saveSets.get 0 F.CAL_SAVE_BUSY = 0 :=
    (congrArg (bits · 30 1) hreg).trans (State.get_set_same s 0 F.CAL_SAVE_BUSY 0 (by decide))
  unfold State.flag
  rw [hget]
  rfl

/-- R718: what a completed save gives. -/
theorem exec_calSaveEnd_ok {s : State} (hbusy : s.flag 0 F.CAL_SAVE_BUSY = true) (hturn : s.nvRuns .calSave = true) :
    exec (.calSaveEnd true) s = .next
      (((s.saveTurn.saveSets.set 0 F.CAL_SAVE_DIRTY 0).countUp 0 F.CAL_SAVE_COUNT F.CAL_SAVE_OVF 1).raise 0 0x12 3) :=
  next_when (by rw [hbusy, hturn]; rfl) rfl

/-- Settles O39, by the slices of the mask, the target of the run, and what the turn of the NV store leaves. -/
theorem calibrationRequests : Obligations.CalibrationRequests := by
  refine ⟨?calReqSlice, ?calReqSliceNone, ?calReqSpare, ?calReqSpareNone, ?calReqDie, ?calReqDieElse,
    ?calReqAnchor, ?calReqAll, ?dieTempUpdate, ?anchorTempUpdate, ?dieTempUpdateElse, ?calRunEnd,
    ?calRunEndElse, ?calRunEndOther, ?calMaxdeferExpiry, ?anchorCalStart, ?calAutosave, ?calSaveEnd,
    ?calMaxdeferExpiryElse, ?anchorCalStartElse, ?calSave, ?calSaveElse, ?calAutosaveElse, ?calSaveEndElse,
    ?calSaveEndOther, ?calSaved⟩
  case calReqSlice =>
    rintro s die mask l hawake hlock hdie rfl hl
    refine next_hostWrite hawake hlock ?_
    dsimp only
    rw [if_pos hdie]
    exact if_neg (by rwa [List.isEmpty_iff])
  case calReqSliceNone =>
    intro s die mask hawake hlock hdie
    refine next_hostWrite hawake hlock ?_
    refine if_pos (List.isEmpty_iff.2 ?_)
    rcases hdie with hdie | hnone
    · exact if_neg (ne_true_of_eq_false hdie)
    · rw [hnone, ite_self]
  case calReqSpare =>
    rintro s die mask l hawake hlock hdie rfl hl
    refine next_hostWrite hawake hlock ?_
    dsimp only
    rw [if_pos hdie]
    exact if_neg (by rwa [List.isEmpty_iff])
  case calReqSpareNone =>
    intro s die mask hawake hlock hdie
    refine next_hostWrite hawake hlock ?_
    refine if_pos (List.isEmpty_iff.2 ?_)
    rcases hdie with hdie | hnone
    · exact if_neg (ne_true_of_eq_false hdie)
    · rw [hnone, ite_self]
  case calReqDie =>
    intro s die hawake hlock hdie
    exact next_hostWrite hawake hlock (by simp [hdie])
  case calReqDieElse =>
    intro s die hawake hlock hdie
    exact next_hostWrite hawake hlock (by simp [hdie])
  case calReqAnchor =>
    intro s hawake hlock
    exact next_hostWrite hawake hlock rfl
  case calReqAll =>
    intro s hawake hlock
    exact next_hostWrite hawake hlock rfl
  case dieTempUpdate =>
    intro s die temp hawake hpresent hdie
    refine next_when (by rw [hawake, hpresent]; rfl) ?_
    have hzero : die ≠ 0 := by omega
    simp only [if_neg hzero]
  case anchorTempUpdate =>
    rintro s die temp hawake rfl
    exact next_when (by rw [hawake]; rfl) rfl
  case dieTempUpdateElse =>
    intro s die temp hawake
    exact next_unless (by rcases hawake with hawake | hawake <;> simp [hawake])
  case calRunEnd =>
    rintro s target refv refres temp values u hawake hrunning htarget rfl
    refine next_when (by rw [hawake, hrunning]; rfl) ?_
    dsimp only
    rw [if_neg (by omega), decide_eq_false (by omega), Bool.or_false]
  case calRunEndElse =>
    intro s target refv refres temp values hawake hrunning h0x1000
    exact next_when (by simp [hawake, hrunning]) (by simp [h0x1000])
  case calRunEndOther =>
    intro s target refv refres temp values hawake
    exact next_unless (by rcases hawake with hawake | hawake <;> simp [hawake])
  case calMaxdeferExpiry =>
    intro s target hawake
    exact next_unless (by rcases hawake with hawake | hawake | hawake <;> simp [hawake])
  case anchorCalStart =>
    intro s hawake
    exact next_unless (by rcases hawake with hawake | hawake | hawake | hawake | hawake | hawake <;> simp [hawake])
  case calAutosave =>
    intro s hawake
    exact next_unless (by rcases hawake with hawake | hawake | hawake <;> simp [hawake])
  case calSaveEnd =>
    intro s ok hsaveBusy
    exact next_unless (by rcases hsaveBusy with hsaveBusy | hsaveBusy <;> simp [hsaveBusy])
  case calMaxdeferExpiryElse =>
    rintro s target u v hawake hdue haged rfl rfl
    exact next_when (by simp [hawake, hdue, haged]) rfl
  case anchorCalStartElse =>
    intro s hawake hpageOn hdue hconverterHeld hnone hloading
    exact next_when (by simp [hawake, hpageOn, hdue, hconverterHeld, hnone, hloading]) rfl
  case calSave =>
    intro s hawake hlock hsaveBusy
    exact next_hostWrite hawake hlock (if_neg (by simp [hsaveBusy]))
  case calSaveElse =>
    intro s hawake hlock hsaveBusy
    exact next_hostWrite hawake hlock (by simp [hsaveBusy])
  case calAutosaveElse =>
    intro s hawake hsaveDirty hsaveBusy
    exact next_when (by simp [hawake, hsaveDirty, hsaveBusy]) rfl
  case calSaveEndElse =>
    rintro s ok hsaveBusy hcalSave rfl
    exact next_when (by simp [hsaveBusy, hcalSave]) (by simp)
  case calSaveEndOther =>
    rintro s ok u v hsaveBusy hcalSave rfl rfl rfl
    rw [exec_calSaveEnd_ok hsaveBusy hcalSave]
    unfold State.saveSets
    rw [State.saveTurn_cal]
    rfl
  case calSaved =>
    intro s ok hbusy hturn hok
    subst hok
    have hexec := exec_calSaveEnd_ok hbusy hturn
    refine ⟨_, hexec, ?_, ?_, ?_⟩
    · rw [State.flag_saveCounted _ rfl rfl (by decide)]
      unfold State.flag
      rw [State.get_set_same _ _ _ _ (by decide)]
      rfl
    · rw [State.flag_saveCounted _ rfl rfl (by decide)]
      unfold State.flag
      rw [State.get_set_beside _ 0 F.CAL_SAVE_DIRTY F.CAL_SAVE_BUSY 0 rfl rfl (by decide) (.inr (by decide))]
      exact s.flag_saveSets_busy
    · have hbytes := execCalSaveEnd_bytes true s
      unfold State.run at hbytes
      rw [show execCalSaveEnd true s = _ from hexec] at hbytes
      exact hbytes

end Sys2Proof.Machine

namespace Sys2Proof.Machine

theorem State.dropWaiting_tests (s : State) (d p : Nat) : (s.dropWaiting d p).tests = s.tests := by
  unfold State.dropWaiting
  dsimp only
  split
  · split
    · exact State.dropExch_tests ..
    · rfl
  · rfl

theorem State.suspendWatch_tests (s : State) (d p : Nat) : (s.suspendWatch d p).tests = s.tests := by
  unfold State.suspendWatch State.setWatchState
  rw [State.dropWaiting_tests, State.set_tests, State.setWatch_tests]

theorem State.enterLearn_tests (s : State) (d p : Nat) : (s.enterLearn d p).tests = s.tests := by
  unfold State.enterLearn State.setWatchState
  rw [State.setWatch_tests, State.set_tests, State.set_tests]

theorem State.armOrLearn_tests (s : State) (d p : Nat) : (s.armOrLearn d p).tests = s.tests := by
  unfold State.armOrLearn State.setWatchState
  split
  · exact s.enterLearn_tests d p
  · split
    · rw [State.err_tests, State.enterLearn_tests]
    · rw [State.set_tests, State.set_tests]

theorem State.resumeWatch_tests (s : State) (d p : Nat) : (s.resumeWatch d p).tests = s.tests := by
  unfold State.resumeWatch State.setWatchState
  dsimp only
  split
  · exact s.armOrLearn_tests d p
  · split
    · exact State.set_tests ..
    · rw [State.set_tests, State.set_tests]

theorem State.watchSync_tests (s : State) (d p : Nat) : (s.watchSync d p).tests = s.tests := by
  unfold State.watchSync
  dsimp only
  split
  · rfl
  · split
    · split
      · exact s.resumeWatch_tests d p
      · rfl
    · split
      · rfl
      · exact s.suspendWatch_tests d p

theorem State.watchSyncDie_tests (s : State) (d : Nat) : (s.watchSyncDie d).tests = s.tests :=
  List.foldlRecOn (motive := fun z : State => z.tests = s.tests) _ _ rfl fun z hz p _ =>
    (z.watchSync_tests d p).trans hz

/-- R729: a test that starts: of the units, its own is changed only. -/
theorem State.beginTest_tests (s : State) (kind die unit : Nat) :
    (s.beginTest kind die unit).tests = (s.setTest (testKey kind die unit)
      { s.testUnit (testKey kind die unit) with requested := false, running := true }).tests := by
  unfold State.beginTest State.setFstate
  dsimp only
  split
  · rw [State.watchSyncDie_tests, State.set_tests, State.set_tests, State.setPage_tests, State.setSlice_tests]
  · rfl

/-- Settles O40, by the units that are present, and the unit of the test that starts. -/
theorem selfTests : Obligations.SelfTests := by
  refine ⟨?bstReqSlice, ?bstReqDie, ?bstReqSeam, ?bstReqRadio, ?bstReqAnchor, ?bstReqSliceElse, ?bstReqDieElse,
    ?bstReqSeamElse, ?bstReqRadioElse, ?bstReqAll, ?bstPeriodic, ?bstPeriodicElse, ?testStart, ?testEnd,
    ?testStartElse, ?testEndElse, ?beginTest⟩
  case bstReqSlice =>
    rintro s die mask l hawake hlock rfl hl
    exact next_hostWrite hawake hlock (by simp [hl])
  case bstReqDie =>
    rintro s die l hawake hlock rfl hl
    exact next_hostWrite hawake hlock (by simp [hl])
  case bstReqSeam =>
    rintro s mask l hawake hlock rfl hl
    exact next_hostWrite hawake hlock (if_neg (by rwa [List.isEmpty_iff]))
  case bstReqRadio =>
    rintro s entry l hawake hlock rfl hl
    exact next_hostWrite hawake hlock (by simp [hl])
  case bstReqAnchor =>
    rintro s l hawake hlock rfl hl
    exact next_hostWrite hawake hlock rfl
  case bstReqSliceElse =>
    intro s die mask hawake hlock hunitPresent
    exact next_hostWrite hawake hlock (by simp [hunitPresent])
  case bstReqDieElse =>
    intro s die hawake hlock hunitPresent
    exact next_hostWrite hawake hlock (by simp [hunitPresent])
  case bstReqSeamElse =>
    intro s mask hawake hlock hunitPresent
    exact next_hostWrite hawake hlock (by simp [hunitPresent])
  case bstReqRadioElse =>
    intro s entry hawake hlock hunitPresent
    exact next_hostWrite hawake hlock (by simp [hunitPresent])
  case bstReqAll =>
    intro s hawake hlock
    exact next_hostWrite hawake hlock rfl
  case bstPeriodic =>
    intro s hawake hcfgPeriod hnone
    exact next_when (by simp [hawake, hcfgPeriod, hnone]) rfl
  case bstPeriodicElse =>
    intro s hawake
    exact next_unless (by rcases hawake with hawake | hawake | hawake <;> simp [hawake])
  case testStart =>
    intro s kind die unit htestReady
    exact next_unless (by simp [htestReady])
  case testEnd =>
    intro s kind die unit classes value cw hawake
    exact next_unless (by rcases hawake with hawake | hawake | hawake <;> simp [hawake])
  case testStartElse =>
    intro s kind die unit htestReady
    exact next_when (by simp [htestReady]) rfl
  case testEndElse =>
    intro s kind die unit classes value cw hawake hrunning hlength
    exact next_when (by simp [hawake, hrunning, hlength]) rfl
  case beginTest =>
    intro s kind die unit _
    have hunit : (s.beginTest kind die unit).testUnit (testKey kind die unit) =
        { s.testUnit (testKey kind die unit) with requested := false, running := true } := by
      unfold State.testUnit
      rw [State.beginTest_tests]
      exact s.testUnit_setTest (testKey kind die unit) _
    rw [hunit]
    exact ⟨rfl, rfl, State.beginTest_bytes s kind die unit⟩

end Sys2Proof.Machine

namespace Sys2Proof.Machine

/-- R744: a swap whose outgoing slice is idle takes a spare, or looks for one. -/
theorem exec_darnSwapExecute {s : State} {die port : Nat} {w : Swap} (hawake : s.awake = true)
    (hswap : s.darn.swaps.find? (fun w => w.die == die && w.port == port) = some w)
    (hidle : (s.clearFaulted w).outgoingIdle w = true) :
    exec (.darnSwapExecute die port) s = .next
      (match (s.clearFaulted w).pickSpare w with
        | some x => (s.clearFaulted w).takeSpare w x
        | none => (s.clearFaulted w).testSpare w) := by
  refine next_when hawake ?_
  rw [hswap]
  exact if_pos hidle

/-- R746: with no spare to take and none under test, the lowest that may pass is tested. -/
theorem State.testSpare_of_untested {s : State} {w : Swap} (htested : s.spareTested w.die = false) :
    s.testSpare w = match (List.range 10).find? (fun x => s.untested w.die x && !w.passed.contains x) with
      | some x => (s.requestTest 1 w.die x).coordinate
      | none => (s.darnOut w).coordinate :=
  if_neg (ne_true_of_eq_false htested)

/-- R743: a host swap of a port of a present die to a legal spare. -/
theorem exec_drnSwapCmd {s : State} {die port slice : Nat} (hawake : s.awake = true)
    (hlock : s.flag 0 (F.PG_LOCK 0x15) = false) (hdie : s.fieldDie die = true) (hport : port < 8)
    (hslice : slice = 15 ∨ slice < 10 ∧ s.eligible die slice = true) :
    exec (.drnSwapCmd die port slice) s = .next
      (if s.swapping die port then s.err 0 0x15 0x0103 else s.startSwap die port slice) := by
  refine next_hostWrite hawake hlock (if_neg ?_)
  rw [hdie, decide_eq_false (by omega : ¬ 8 ≤ port)]
  rcases hslice with rfl | ⟨hlt, heligible⟩
  · simp
  · rw [decide_eq_true hlt, heligible]
    simp

/-- Settles O41, by the spare that the swap picks, the tests of the spares, and the slice that serves the port. -/
theorem darning : Obligations.Darning := by
  refine ⟨?drnSwapCmd, ?drnSwapCmdBusy, ?drnSwapCmdElse, ?drnUndarn, ?drnUndarnElse, ?drnUndarnOther,
    ?drnUndarnThird, ?darnSwapExecute, ?darnSwapWaits, ?darnSwapTesting, ?darnSwapTests, ?darnSwapOut,
    ?darnSwapExecuteElse, ?darnSwapNone, ?darnMapWritten, ?netfaultClear, ?darnMapWrittenElse,
    ?netfaultClearElse, ?netfaultClearUnserved, ?pickSpare⟩
  case drnSwapCmd =>
    intro s die port slice hawake hlock hdie hport heligible hswapping
    rw [exec_drnSwapCmd hawake hlock hdie hport heligible]
    exact congrArg Host.Outcome.next (if_neg (ne_true_of_eq_false hswapping))
  case drnSwapCmdBusy =>
    intro s die port slice hawake hlock hdie hport heligible hswapping
    rw [exec_drnSwapCmd hawake hlock hdie hport heligible]
    exact congrArg Host.Outcome.next (if_pos hswapping)
  case drnSwapCmdElse =>
    intro s die port slice hawake hlock hdie
    exact next_hostWrite hawake hlock (if_pos (by
      rcases hdie with hdie | hdie | ⟨hdieA, hdieB⟩
      · simp [hdie]
      · simp [hdie]
      · simp [hdieA, hdieB]))
  case drnUndarn =>
    rintro s die slice u hawake hlock hdie hslice hslicesFactory hslicesDarned rfl
    exact next_hostWrite hawake hlock (by simp [hdie, Nat.not_le.2 hslice, hslicesFactory, hslicesDarned])
  case drnUndarnElse =>
    intro s die slice hawake hlock hdie hslice hslicesFactory
    exact next_hostWrite hawake hlock (by simp [hdie, Nat.not_le.2 hslice, hslicesFactory])
  case drnUndarnOther =>
    intro s die slice hawake hlock hdie hslice hslicesFactory hslicesDarned
    exact next_hostWrite hawake hlock (by simp [hdie, hslicesFactory, hslicesDarned])
  case drnUndarnThird =>
    intro s die slice hawake hlock hdie
    exact next_hostWrite hawake hlock (by simp [hdie])
  case darnSwapExecute =>
    rintro s die port w u x hawake hport rfl houtgoingIdle hpickSpare hdie hdie2
    rw [exec_darnSwapExecute hawake hport houtgoingIdle, hpickSpare]
    refine congrArg Host.Outcome.next (if_pos ?_)
    rw [hdie, hdie2]
    rfl
  case darnSwapWaits =>
    rintro s die port w u x hawake hport rfl houtgoingIdle hpickSpare hdie
    rw [exec_darnSwapExecute hawake hport houtgoingIdle, hpickSpare]
    refine congrArg Host.Outcome.next (if_neg ?_)
    rcases hdie with hon | hgranted
    · simp [hon]
    · simp [hgranted]
  case darnSwapTesting =>
    rintro s die port w u hawake hport rfl houtgoingIdle hpickSpare hdie
    rw [exec_darnSwapExecute hawake hport houtgoingIdle, hpickSpare]
    exact congrArg Host.Outcome.next (if_pos hdie)
  case darnSwapTests =>
    rintro s die port w u x hawake hport rfl houtgoingIdle hpickSpare hdie hcontains
    rw [exec_darnSwapExecute hawake hport houtgoingIdle, hpickSpare]
    dsimp only
    rw [State.testSpare_of_untested hdie, hcontains]
  case darnSwapOut =>
    rintro s die port w u hawake hport rfl houtgoingIdle hpickSpare hdie hcontains
    rw [exec_darnSwapExecute hawake hport houtgoingIdle, hpickSpare]
    dsimp only
    rw [State.testSpare_of_untested hdie, hcontains]
  case darnSwapExecuteElse =>
    rintro s die port w u hawake hport rfl houtgoingIdle
    exact next_when (by simp [hawake]) (by simp [hport, houtgoingIdle])
  case darnSwapNone =>
    intro s die port hawake
    rcases hawake with hasleep | hnone
    · exact next_unless hasleep
    · cases hawake : s.awake with
      | false => exact next_unless hawake
      | true =>
        refine next_when hawake ?_
        rw [hnone]
  case darnMapWritten =>
    intro s hstatNvpend
    exact next_unless (by rcases hstatNvpend with hstatNvpend | hstatNvpend <;> simp [hstatNvpend])
  case netfaultClear =>
    intro s die port hawake hlock hserv
    exact next_hostWrite hawake hlock (State.when_false _ (by rcases hserv with hserv | hserv <;> simp [hserv]))
  case darnMapWrittenElse =>
    intro s a b hstatNvpend hdarnMap hdarnMap2
    exact next_when (by simp [hstatNvpend, hdarnMap]) (by simp [hdarnMap2])
  case netfaultClearElse =>
    rintro s die port u sl hawake hlock hserv hport rfl hservingSlice
    refine next_hostWrite hawake hlock ((State.when_true _ (by rw [hserv, decide_eq_true hport]; rfl)).trans ?_)
    dsimp only
    rw [hservingSlice]
  case netfaultClearUnserved =>
    rintro s die port u hawake hlock hserv hport rfl hservingSlice
    refine next_hostWrite hawake hlock ((State.when_true _ (by rw [hserv, decide_eq_true hport]; rfl)).trans ?_)
    dsimp only
    rw [hservingSlice]
  case pickSpare =>
    intro s w
    unfold State.pickSpare
    refine ⟨fun hspare heligible => if_pos ?_, fun h => if_neg ?_⟩
    · rw [heligible, Bool.and_true]
      exact bne_iff_ne.2 hspare
    · rcases h with hnone | hnot
      · rw [hnone]
        simp
      · rw [hnot]
        simp

end Sys2Proof.Machine

namespace Sys2Proof.Machine

/-- R758: the operation that ran leaves its wear. -/
def State.nvWorn (s : State) (spares worn : Nat) : State :=
  if spares % 256 < 8 ∧ (8 ≤ s.get 0 F.NVS_WEAR_SPARES ∨ s.get 0 F.NVS_WEAR_SPARES = 0) then
    ((s.nvPop.set 0 F.NVS_WEAR_SPARES spares).set 0 F.NVS_WEAR_WORN (min 255 worn)).raise 0 0x14 2
  else (s.nvPop.set 0 F.NVS_WEAR_SPARES spares).set 0 F.NVS_WEAR_WORN (min 255 worn)

theorem exec_nvOpDone {s : State} (ok : Bool) (spares worn : Nat) {o : NvOp} {rest : List NvOp}
    (hops : s.nv.ops = o :: rest) (hapart : o.apart = false) :
    exec (.nvOpDone ok spares worn) s = .next (((s.nvWorn spares worn).nvEnd o ok).nvBetween) := by
  refine congrArg Host.Outcome.next ?_
  rw [hops]
  exact if_neg (ne_true_of_eq_false hapart)

theorem State.nvPop_eq {s : State} {o : NvOp} {rest : List NvOp} (hops : s.nv.ops = o :: rest) :
    s.nvPop = { s with nv := { s.nv with ops := rest } } := by
  unfold State.nvPop
  rw [hops]
  rfl

/-- Settles O42, by the room of the program buffer, the locks that stand or wait, and the oldest operation. -/
theorem nvStore : Obligations.NvStore := by
  refine ⟨?nvsEraseSlot, ?nvsEraseSlotElse, ?nvsWdataWrite, ?nvsWdataWriteElse, ?nvsWdataWriteOther,
    ?nvsWdataWriteThird, ?nvsRdataRead, ?nvsRdataReadElse, ?nvsRdataReadOther, ?nvOpDone, ?nvOpDoneElse,
    ?nvsRegLock, ?nvsRegLockElse, ?nvsRegLockAgain, ?nvsRegLockOther, ?nvsDebugLock, ?nvsDebugLockAgain,
    ?nvsDebugLockElse, ?nvOpDoneOther, ?nvOpFailed, ?nvRead, ?nvQueue⟩
  case nvsEraseSlot =>
    intro s slot hawake hlock hactiveSlot
    exact next_hostWrite hawake hlock (by simp [hactiveSlot])
  case nvsEraseSlotElse =>
    intro s slot hawake hlock hactiveSlot
    exact next_hostWrite hawake hlock (by simp [hactiveSlot])
  case nvsWdataWrite =>
    rintro s value sl o hawake hlock rfl rfl hactiveSlot hprograms hwordErased
    refine next_hostWrite hawake hlock ?_
    dsimp only
    rw [if_neg hactiveSlot, if_neg (by omega), hwordErased]
    rfl
  case nvsWdataWriteElse =>
    rintro s value sl o hawake hlock rfl rfl hactiveSlot
    exact next_hostWrite hawake hlock (by simp [hactiveSlot])
  case nvsWdataWriteOther =>
    rintro s value sl o hawake hlock rfl rfl hactiveSlot hprograms
    exact next_hostWrite hawake hlock (by simp [hactiveSlot, hprograms])
  case nvsWdataWriteThird =>
    rintro s value sl o hawake hlock rfl rfl hactiveSlot hprograms hwordErased
    exact next_hostWrite hawake hlock (by simp [hactiveSlot, Nat.not_le.2 hprograms, hwordErased])
  case nvsRdataRead =>
    rintro s fetch hawake rfl
    exact next_when (by simp [hawake]) (by simp)
  case nvsRdataReadElse =>
    rintro s fetch w hawake rfl rfl
    exact next_when (by simp [hawake]) (by simp)
  case nvsRdataReadOther =>
    intro s fetch hawake
    exact next_unless (by simp [hawake])
  case nvOpDone =>
    intro s ok spares worn hops
    show execNvOpDone ok spares worn _ = _
    simp [execNvOpDone, hops]
  case nvOpDoneElse =>
    intro s ok spares worn o rest hops hapart
    show execNvOpDone ok spares worn _ = _
    simp [execNvOpDone, hops, hapart]
  case nvsRegLock =>
    intro s key hawake hlock hkey hlockDone htorn hisLock hstagedLock
    exact next_hostWrite hawake hlock (by simp [hkey, hlockDone, htorn, hisLock, hstagedLock])
  case nvsRegLockElse =>
    intro s key hawake hlock hkey hlockDone htorn hisLock hstagedLock
    exact next_hostWrite hawake hlock (by simp [hkey, hlockDone, htorn, hisLock, hstagedLock])
  case nvsRegLockAgain =>
    intro s key hawake hlock hkey hisLock
    refine next_hostWrite hawake hlock ((if_neg (by rw [hkey]; decide)).trans (if_pos ?_))
    rcases hisLock with h | h | h <;> simp [h]
  case nvsRegLockOther =>
    intro s key hawake hlock hkey
    exact next_hostWrite hawake hlock (by simp [hkey])
  case nvsDebugLock =>
    intro s key hawake hlock hkey hdebugLock hisDebug
    exact next_hostWrite hawake hlock (by simp [hkey, hdebugLock, hisDebug])
  case nvsDebugLockAgain =>
    intro s key hawake hlock hkey hisDebug
    refine next_hostWrite hawake hlock ((if_neg (by rw [hkey]; decide)).trans (if_pos ?_))
    rcases hisDebug with h | h <;> simp [h]
  case nvsDebugLockElse =>
    intro s key hawake hlock hkey
    exact next_hostWrite hawake hlock (by simp [hkey])
  case nvOpDoneOther =>
    rintro s ok spares worn o rest u v hops hapart rfl hwearSpares rfl
    rw [exec_nvOpDone true spares worn hops hapart, hwearSpares, ← State.nvPop_eq hops]
    rfl
  case nvOpFailed =>
    rintro s ok spares worn o rest u v hops hapart rfl hwearSpares rfl
    rw [exec_nvOpDone false spares worn hops hapart, hwearSpares, ← State.nvPop_eq hops]
    rfl
  case nvRead =>
    intro s slot off w hword
    unfold State.nvRead
    rw [hword]
    rfl
  case nvQueue =>
    exact fun s o => ⟨rfl, rfl, fun h => if_pos h, fun h => if_neg (ne_true_of_eq_false h)⟩

end Sys2Proof.Machine

namespace Sys2Proof.Machine

/-- Settles O43, by the phase of the load, the image of its slot, and the pages that are not locked. -/
theorem profileLoads : Obligations.ProfileLoads := by
  refine ⟨?devLoad, ?devLoadRefused, ?profileCheckEnd, ?profileCheckEndElse, ?profileCheckEndOther,
    ?profileLoadTimeout, ?profileLoadTimeoutElse, ?profileDrainEnd, ?profileDrainEndElse, ?profileCommit,
    ?profileCommitElse, ?profileLoadTimeoutOther, ?profileDrainEndOther, ?profileCommitOther, ?stageLoad⟩
  case devLoad =>
    rintro s slot u hawake hlock hload hnone rfl
    exact next_hostWrite hawake hlock (if_neg (by simp [hload, hnone]))
  case devLoadRefused =>
    intro s slot hawake hlock hnone
    refine next_hostWrite hawake hlock (if_pos ?_)
    rcases hnone with h | h
    · rw [Option.isSome_iff_ne_none.2 h, Bool.true_or]
    · rw [decide_eq_true h, Bool.or_true]
  case profileCheckEnd =>
    intro s l m u v x y hload hcheck hu hv hx hdrain
    refine congrArg Host.Outcome.next ?_
    split
    next l' hl =>
      obtain rfl : l' = l := Option.some.inj (hl.symm.trans hload)
      refine (if_neg (not_not_intro hcheck)).trans ?_
      cases s.checkImage l'.slot with
      | error e => rfl
      | ok q =>
        extract_lets coord loading withdrawn ended stopped
        have hloading : loading = u := hu.symm
        have hended : ended = v := by rw [hv, ← hloading]
        have hstopped : stopped = x := by rw [hx, ← hended]
        rw [hstopped, hdrain]
    next hnone => exact absurd (hload.symm.trans hnone) (by simp)
  case profileCheckEndElse =>
    intro s hload
    show execProfileCheckEnd  _ = _
    simp [execProfileCheckEnd, hload]
  case profileCheckEndOther =>
    intro s l hload hcheck
    show execProfileCheckEnd  _ = _
    simp [execProfileCheckEnd, hload, hcheck]
  case profileLoadTimeout =>
    intro s hload
    show execProfileLoadTimeout  _ = _
    simp [execProfileLoadTimeout, hload]
  case profileLoadTimeoutElse =>
    intro s l hload hdrained
    refine congrArg Host.Outcome.next ?_
    rw [hload]
    refine if_neg ?_
    rcases hdrained with h | h
    · exact fun hand => h hand.1
    · simp [h]
  case profileDrainEnd =>
    intro s hload
    show execProfileDrainEnd  _ = _
    simp [execProfileDrainEnd, hload]
  case profileDrainEndElse =>
    intro s l hload hdrained
    show execProfileDrainEnd  _ = _
    simp [execProfileDrainEnd, hload, hdrained]
  case profileCommit =>
    intro s late hload
    show execProfileCommit late _ = _
    simp [execProfileCommit, hload]
  case profileCommitElse =>
    intro s late l hload hstaged
    show execProfileCommit late _ = _
    simp [execProfileCommit, hload, hstaged]
  case profileLoadTimeoutOther =>
    intro s l hload hdrain hdrained
    show execProfileLoadTimeout  _ = _
    simp [execProfileLoadTimeout, hload, hdrain, hdrained]
  case profileDrainEndOther =>
    intro s l m u hload hdrain hdrained hradioToSynth
    refine congrArg Host.Outcome.next ?_
    rw [hload]
    refine (if_neg (by simp [hdrain, hdrained])).trans ?_
    rw [hradioToSynth]
    dsimp only
    cases u.checkImage m.slot <;> rfl
  case profileCommitOther =>
    rintro s late l pages id u v hload hstaged rfl rfl rfl rfl
    show execProfileCommit late _ = _
    simp [execProfileCommit, hload, hstaged]
  case stageLoad =>
    intro s v t u l h ws held all pages lay hall hpages hlay hv hstage hu
    unfold State.stageLoad
    dsimp only
    rw [State.reg_set_ne s F.DEV_PROFILE_LOCK_SKIPPED _ (by decide), ← hall, ← hpages, ← hlay, ← hv, hstage]
    dsimp only
    rw [← hu]
    cases u.pagesOk pages <;> rfl

end Sys2Proof.Machine

namespace Sys2Proof.Machine

/-! The frame of a poll command over the registers: a list number is an operand of every poll command,
  and a state whose
store of lists holds a run under a number that no list has lets its fault be recorded outside the page of the engine.
  -/

/-- A run that waits for its SPI entry, at its last step. -/
def strayRun : PleRun :=
  { prio := 0, start := 0, last := 0, pc := 0, flags := 0, steps := 65535, time := 0, wait := .spi }

/-- The engine is ON, and list 1000 waits for an entry that has ended SEL_OFF. -/
def strayList : State :=
  { State.reset.setPage 0 0x0B 2 with
    device := .active
    ple := { lists := [(1000, { run := some strayRun })] }
    ssc := { results := [(1000, 1, [], 0)] } }

/-- An entry that ends without data lets its list go on, the entry taken out. -/
theorem exec_pleSpiDone_failed {s : State} {n status instant : Nat} {r : PleRun} {ws : List Word}
    (hengine : s.pleEngine = true) (hrun : (s.pleList n).run = some r) (hwait : r.wait = .spi)
    (hfind : s.ssc.results.find? (fun e => e.1 == n) = some (n, status, ws, instant)) (hstatus : status ≠ 0) :
    exec (.pleSpiDone n) s = .next
      (({ s with ssc := { s.ssc with results := s.ssc.results.filter (fun e => e.1 != n) } } : State).pleDone n
        ((r.setFlag 5 true).next 0x14)) := by
  refine congrArg Host.Outcome.next ?_
  rw [hrun, hfind]
  exact (if_pos (by rw [hengine, hwait]; rfl)).trans (if_neg hstatus)

/-- R519: a run at its last step ends with a fault. -/
theorem State.pleDone_last {s : State} {n : Nat} {r : PleRun} (hlast : 65535 ≤ r.steps) :
    s.pleDone n r = s.pleFault n 0x0101 := by
  have hbound : s.get 0 F.PLE_CFG_MAXSTEP < 65536 := Nat.mod_lt _ (by decide)
  exact if_pos (show s.get 0 F.PLE_CFG_MAXSTEP ≤ r.steps + 1 by omega)

/-- R519: the fault code of a list stands in its status register, wherever its number puts that. -/
theorem State.get_pleFault_code (s : State) {n : Nat} (code : Nat) (hn : 1000 ≤ n) (hpend :
  (s.pleList n).pend = none) :
    (s.pleFault n code).get 0 (F.PLE_L_STAT_FAULT n) = code % 256 := by
  unfold State.pleFault
  dsimp only
  rw [hpend]
  have hapart : hostAddr 0 0x0B (0x30C + 16 * n) ≠ hostAddr 0 0x0B 0x00C := by unfold hostAddr; omega
  have hicu : hostAddr 0 0x0B (0x30C + 16 * n) < 0x5000 ∨ 0x6000 ≤ hostAddr 0 0x0B (0x30C + 16 * n) := by
    unfold hostAddr; omega
  exact (congrArg (bits · 0 8) (State.reg_raise_ne _ 0 hapart hicu)).trans
    (State.get_set_same _ 0 (F.PLE_L_STAT_FAULT n) code (show 0 + 8 ≤ 32 by decide))

/-- Refutes O55: the end of an SPI entry of list 1000, which runs in a state that no table of 32 lists bounds, writes
  the fault of the list 16,780 bytes into page 0x0B: that is a register of page 0x0F. -/
theorem not_registerFrame : ¬ Obligations.RegisterFrame := by
  intro h
  have hexec := exec_pleSpiDone_failed (s := strayList) (n := 1000) (r := strayRun) (by decide) rfl rfl rfl
    Nat.one_ne_zero
  rw [State.pleDone_last (show 65535 ≤ 65535 from Nat.le_refl _)] at hexec
  have hkept := h (.pleSpiDone 1000) strayList _ [0x05, 0x0B] rfl hexec 0 0x0B 16780 (by decide)
  have hbefore : bits (strayList.reg 0 0x0B 16780) 0 8 = 0 := by decide
  have hafter := (congrArg (bits · 0 8) hkept).trans hbefore
  have hfault := (State.get_pleFault_code _ (n := 1000) 0x0101 (by decide) rfl).symm.trans hafter
  contradiction

end Sys2Proof.Machine

namespace Sys2Proof.Machine

/-! The store of admitted work under the shapes that meanings are built of, and under the operations of the ends of
exchanges that leave it alone, in the order of the model. -/

/-- The admitted work of a state, as a function of its own: a lemma about it is used by
name, never by unfolding a record. -/
def State.works (s : State) : List (Nat × Exch) := s.exchs

@[simp] theorem works_fold (s : State) : s.exchs = s.works := by unfold State.works; exact Eq.refl _

@[simp] theorem works_mk (x0 x1 x2 x3 x4 x5 x6 x7 x8 x9 x10 x11 x12 x13 x14 x15 x16 x17 x18 x19 x20 x21
      x22 x23 x24 x25 x26 x27 x28 x29 x30 x31 x32 x33 x34 x35 x36 x37 x38 x39 x40 x41 x42 x43) :
    (State.mk x0 x1 x2 x3 x4 x5 x6 x7 x8 x9 x10 x11 x12 x13 x14 x15 x16 x17 x18 x19 x20 x21
      x22 x23 x24 x25 x26 x27 x28 x29 x30 x31 x32 x33 x34 x35 x36 x37 x38 x39 x40 x41 x42 x43).works = x14 := by
  unfold State.works
  exact Eq.refl _

@[simp] theorem works_ite (c : Prop) [Decidable c] (a b : State) :
    (if c then a else b).works = if c then a.works else b.works := apply_ite ..

@[simp] theorem works_elim {α : Type} (o : Option α) (s : State) (f : α → State)
    (h : ∀ x, (f x).works = s.works) : (o.elim s f).works = s.works := by
  cases o
  · rfl
  · exact h _

@[simp] theorem works_foldl {α : Type} (f : State → α → State)
    (h : ∀ s x, (f s x).works = s.works) (l : List α) (s : State) : (l.foldl f s).works = s.works := by
  induction l generalizing s with
  | nil => rfl
  | cons x l ih => rw [List.foldl_cons, ih, h]

@[simp] theorem State.fresh_works (s : State) : s.fresh.1.works = s.works := by simp [State.fresh]

@[simp] theorem State.setReg_works (s : State) (die page off : Nat) (v : Word) :
    (s.setReg die page off v).works = s.works := by
  simp [State.setReg]

@[simp] theorem State.set_works (s : State) (die : Nat) (f : Fld) (v : Nat) : (s.set die f v).works = s.works := by
  simp [State.set]

@[simp] theorem State.countUp_works (s : State) (die : Nat) (cnt ovf : Fld) (n : Nat) :
    (s.countUp die cnt ovf n).works = s.works := by
  simp [State.countUp]

@[simp] theorem State.icuAdd_works (s : State) (src n : Nat) : (s.icuAdd src n).1.works = s.works := by
  simp only [State.icuAdd]
  (repeat' split) <;> simp

@[simp] theorem State.icuCount_works (s : State) (src n : Nat) : (s.icuCount src n).works = s.works := by
  simp [State.icuCount]

@[simp] theorem State.sourceEvent_works (s : State) (src n : Nat) : (s.sourceEvent src n).works = s.works := by
  simp [State.sourceEvent]

@[simp] theorem State.setEvent_works (s : State) (die page evt : Nat) :
    (s.setEvent die page evt).works = s.works := by
  simp [State.setEvent]

@[simp] theorem State.present1_works (s : State) (die page evt : Nat) :
    (s.present1 die page evt).works = s.works := by
  simp [State.present1]

@[simp] theorem State.raise_works (s : State) (die page evt : Nat) : (s.raise die page evt).works = s.works := by
  simp [State.raise]

@[simp] theorem State.err_works (s : State) (die page code : Nat) : (s.err die page code).works = s.works := by
  simp [State.err]

@[simp] theorem State.setBit_works (s : State) (die : Nat) (f : Fld) (i : Nat) (v : Bool) :
    (s.setBit die f i v).works = s.works := by
  simp [State.setBit]

@[simp] theorem State.setPage_works (s : State) (die page st : Nat) : (s.setPage die page st).works = s.works := by
  simp [State.setPage]

@[simp] theorem State.setDie_works (s : State) (d : Nat) (x : Die) : (s.setDie d x).works = s.works := by
  simp [State.setDie]

@[simp] theorem State.setSlice_works (s : State) (d sl : Nat) (x : Slice) : (s.setSlice d sl x).works = s.works := by
  simp [State.setSlice]

@[simp] theorem State.setWatch_works (s : State) (d p : Nat) (w : Watch) : (s.setWatch d p w).works = s.works := by
  simp [State.setWatch]

@[simp] theorem State.setList_works (s : State) (n : Nat) (l : PleList) : (s.setList n l).works = s.works := by
  simp [State.setList]

@[simp] theorem State.pleMissed_works (s : State) (n : Nat) : (s.pleMissed n).works = s.works := by
  simp [State.pleMissed]

@[simp] theorem State.pleStart_works (s : State) (n instant : Nat) (arg : Word) :
    (s.pleStart n instant arg).works = s.works := by
  simp [State.pleStart]

@[simp] theorem State.pleMiss_works (s : State) (n : Nat) : (s.pleMiss n).works = s.works := by simp [State.pleMiss]

@[simp] theorem State.pleTrigger_works (s : State) (n instant : Nat) (arg : Word) :
    (s.pleTrigger n instant arg).works = s.works := by
  simp [State.pleTrigger]

@[simp] theorem State.pleCause_works (s : State) (e : PleCause) : (s.pleCause e).works = s.works := by
  simp [State.pleCause]

@[simp] theorem State.ticketTrigger_works (s : State) (event port index instant : Nat) :
    (s.ticketTrigger event port index instant).works = s.works := by
  simp [State.ticketTrigger]

@[simp] theorem State.setCls_works (s : State) (c : Nat) (k : HClass) : (s.setCls c k).works = s.works := by
  simp [State.setCls]

@[simp] theorem State.countEligible_works (s : State) (c : Nat) : (s.countEligible c).works = s.works := by
  simp [State.countEligible]

@[simp] theorem State.flowUpdate_works (s : State) : s.flowUpdate.works = s.works := by simp [State.flowUpdate]

@[simp] theorem State.urgentUpdate_works (s : State) : s.urgentUpdate.works = s.works := by simp [State.urgentUpdate]

@[simp] theorem State.hamperAfter_works (s : State) : s.hamperAfter.works = s.works := by simp [State.hamperAfter]

@[simp] theorem State.unreserve_works (s : State) (c n : Nat) : (s.unreserve c n).works = s.works := by
  simp [State.unreserve]

@[simp] theorem State.saveTo_works (s : State) (n : Nat) : (s.saveTo n).works = s.works := by simp [State.saveTo]

@[simp] theorem State.saveStep_works (s : State) : s.saveStep.works = s.works := by simp [State.saveStep]

@[simp] theorem State.departed_works (s : State) (t : Nat) : (s.departed t).works = s.works := by
  simp [State.departed]

@[simp] theorem State.noteDone_works (s : State) (n : Note) (ws : List Word) :
    (s.noteDone n ws).works = s.works := by
  unfold State.noteDone
  split <;> simp

@[simp] theorem State.writeRecord_works (s : State) (c : Nat) (r : PendRec) :
    (s.writeRecord c r).works = s.works := by
  simp [State.writeRecord]

@[simp] theorem State.flushWaiting_works (s : State) (c : Nat) : (s.flushWaiting c).works = s.works := by
  simp [State.flushWaiting]

@[simp] theorem State.changeTrigger_works (s : State) (r : OutRec) : (s.changeTrigger r).works = s.works := by
  simp [State.changeTrigger]

@[simp] theorem State.drainDie_works (d : Nat) : ∀ (n : Nat) (s : State), (State.drainDie d n s).works = s.works
  | 0, _ => rfl
  | n + 1, s => by
    simp only [State.drainDie]
    (repeat' split) <;> simp [State.drainDie_works d n]

@[simp] theorem State.drainDies_works (s : State) : s.drainDies.works = s.works := by simp [State.drainDies]

@[simp] theorem State.sendRecord_works (s : State) (d : Nat) (r : OutRec) : (s.sendRecord d r).works = s.works := by
  simp [State.sendRecord]

@[simp] theorem State.queueFault_works (s : State) (code die : Nat) (d0 d1 : Word) :
    (s.queueFault code die d0 d1).works = s.works := by
  simp [State.queueFault]

@[simp] theorem State.queueSys_works (s : State) (r : SysRec) : (s.queueSys r).works = s.works := by
  simp [State.queueSys]

@[simp] theorem State.cutRecords_works (s : State) (d : Nat) : (s.cutRecords d).works = s.works := by
  unfold State.cutRecords
  exact works_foldl _ (fun s x => by split <;> simp) _ _

@[simp] theorem State.setTicket_works (s : State) (i : Nat) (t : Ticket) : (s.setTicket i t).works = s.works := by
  simp [State.setTicket]

@[simp] theorem State.bindTicket_works (s : State) (i port : Nat) : (s.bindTicket i port).works = s.works := by
  simp [State.bindTicket]

@[simp] theorem State.sweep_works (s : State) (port mask len n : Nat) (seen : List Nat) :
    (s.sweep port mask len n seen).works = s.works := by
  simp [State.sweep]

@[simp] theorem State.setFstate_works (s : State) (d sl st : Nat) : (s.setFstate d sl st).works = s.works := by
  simp [State.setFstate]

@[simp] theorem State.phaseHere_works (s : State) (d sl : Nat) : (s.phaseHere d sl).works = s.works := by
  simp [State.phaseHere]

@[simp] theorem State.phaseMove_works (s : State) (d sl : Nat) : (s.phaseMove d sl).works = s.works := by
  simp [State.phaseMove]

@[simp] theorem State.command_works (s : State) (d sl phase : Nat) : (s.command d sl phase).works = s.works := by
  simp [State.command]

@[simp] theorem State.applyDrive_works (s : State) (d sl : Nat) (r : Drive) :
    (s.applyDrive d sl r).works = s.works := by
  simp [State.applyDrive]

@[simp] theorem State.announce_works (s : State) (d sl : Nat) (change : TermChange) :
    (s.announce d sl change).works = s.works := by
  unfold State.announce
  split <;> simp

@[simp] theorem State.listenerOn_works (s : State) (d sl : Nat) : (s.listenerOn d sl).works = s.works := by
  unfold State.listenerOn
  split <;> simp

@[simp] theorem State.moveLevel_works (s : State) (d sl level : Nat) : (s.moveLevel d sl level).works = s.works := by
  simp [State.moveLevel]

@[simp] theorem State.startRamp_works (s : State) (d sl : Nat) (r : Drive) :
    (s.startRamp d sl r).works = s.works := by
  simp [State.startRamp]

@[simp] theorem State.cancelDrive_works (s : State) (d sl : Nat) : (s.cancelDrive d sl).works = s.works := by
  simp [State.cancelDrive]

@[simp] theorem State.rampDown_works (s : State) (d sl : Nat) : (s.rampDown d sl).works = s.works := by
  simp [State.rampDown]

@[simp] theorem State.fieldOff_works (s : State) (d sl : Nat) (abort : Bool) :
    (s.fieldOff d sl abort).works = s.works := by
  simp [State.fieldOff]

@[simp] theorem State.heldOff_works (s : State) (d sl : Nat) : (s.heldOff d sl).works = s.works := by
  simp [State.heldOff]

@[simp] theorem State.sliceFault_works (s : State) (d sl code : Nat) : (s.sliceFault d sl code).works = s.works := by
  simp [State.sliceFault]

@[simp] theorem State.sliceBoundary_works (s : State) (d sl : Nat) : (s.sliceBoundary d sl).works = s.works := by
  simp [State.sliceBoundary]

@[simp] theorem State.setWatchState_works (s : State) (d p st : Nat) : (s.setWatchState d p st).works = s.works := by
  simp [State.setWatchState]

@[simp] theorem State.skipProbe_works (s : State) (d : Nat) : (s.skipProbe d).works = s.works := by
  simp [State.skipProbe]

@[simp] theorem State.enterLearn_works (s : State) (d p : Nat) : (s.enterLearn d p).works = s.works := by
  simp [State.enterLearn]

@[simp] theorem State.armOrLearn_works (s : State) (d p : Nat) : (s.armOrLearn d p).works = s.works := by
  simp [State.armOrLearn]

@[simp] theorem State.resumeWatch_works (s : State) (d p : Nat) : (s.resumeWatch d p).works = s.works := by
  simp [State.resumeWatch]

@[simp] theorem State.setCalTarget_works (s : State) (k : Nat) (c : CalTarget) :
    (s.setCalTarget k c).works = s.works := by
  simp [State.setCalTarget]

@[simp] theorem State.setTest_works (s : State) (k : Nat) (t : TestUnit) : (s.setTest k t).works = s.works := by
  simp [State.setTest]

@[simp] theorem State.userFieldOff_works (s : State) (d sl : Nat) : (s.userFieldOff d sl).works = s.works := by
  simp [State.userFieldOff]

@[simp] theorem State.abortFieldOff_works (s : State) (d sl : Nat) : (s.abortFieldOff d sl).works = s.works := by
  simp [State.abortFieldOff]

@[simp] theorem State.releaseGuarded_works (s : State) : s.releaseGuarded.works = s.works := by
  simp [State.releaseGuarded]

@[simp] theorem State.dropHold_works (s : State) (d p : Nat) : (s.dropHold d p).works = s.works := by
  simp [State.dropHold]

@[simp] theorem State.unreserveAll_works (s : State) (res : List Nat) : (s.unreserveAll res).works = s.works := by
  simp [State.unreserveAll]

@[simp] theorem State.calResult_works (s : State) (k result : Nat) (temp : Option Nat) (points : Nat) :
    (s.calResult k result temp points).works = s.works := by
  simp only [State.calResult]
  (repeat' split) <;> simp

@[simp] theorem State.takeRinse_works (s : State) (d p sl : Nat) : (s.takeRinse d p sl).works = s.works := by
  simp [State.takeRinse, -List.foldl_cons, -List.foldl_nil]

@[simp] theorem State.portBoundary_works (s : State) (d p : Nat) : (s.portBoundary d p).works = s.works := by
  unfold State.portBoundary
  split <;> simp

@[simp] theorem State.restSlice_works (s : State) (d sl : Nat) : (s.restSlice d sl).works = s.works := by
  unfold State.restSlice
  split <;> simp

@[simp] theorem State.restSlices_works (s : State) (l : List (Nat × Nat)) : (s.restSlices l).works = s.works := by
  simp [State.restSlices]

@[simp] theorem State.slicesOff_works (s : State) (l : List (Nat × Nat)) (abort : Bool) :
    (s.slicesOff l abort).works = s.works := by
  simp [State.slicesOff]

@[simp] theorem State.reportRun_works (s : State) (res : List Nat) (write : Bool) (payload : List Word) :
    (s.reportRun res write payload).works = s.works := by
  simp only [State.reportRun]
  (repeat' split) <;> simp

@[simp] theorem State.calBits_works (s : State) (k : Nat) : (s.calBits k).works = s.works := by simp [State.calBits]

@[simp] theorem State.leaveTest_works (s : State) (die page : Nat) : (s.leaveTest die page).works = s.works := by
  simp [State.leaveTest]

@[simp] theorem State.pageTested_works (s : State) (kind die unit : Nat) :
    (s.pageTested kind die unit).works = s.works := by
  simp [State.pageTested]

@[simp] theorem State.reportTest_works (s : State) (kind : Nat) (res : List Nat) (result : Nat) (payload : List Word) :
    (s.reportTest kind res result payload).works = s.works := by
  simp only [State.reportTest]
  (repeat' split) <;> simp

@[simp] theorem State.testResult_works (s : State) (kind die unit result first : Nat) :
    (s.testResult kind die unit result first).works = s.works := by
  simp [State.testResult]

@[simp] theorem State.testEvent_works (s : State) (kind die evt : Nat) :
    (s.testEvent kind die evt).works = s.works := by
  simp [State.testEvent]

@[simp] theorem State.startupTested_works (s : State) (k result : Nat) :
    (s.startupTested k result).works = s.works := by
  simp [State.startupTested]

@[simp] theorem State.exchRecord_works (s : State) (d p : Nat) (e : Exch) (r : Result) :
    (s.exchRecord d p e r).works = s.works := by
  unfold State.exchRecord
  dsimp only
  split <;> simp

@[simp] theorem State.sendChange_works (s : State) (d : Nat) (m : Member) (time : Nat) (note : Note)
    (payload : List Word) :
    (s.sendChange d m time note payload).works = s.works := by
  simp [State.sendChange]

@[simp] theorem State.roundRecords_works (s : State) (d p : Nat) (e : Exch) (status : Nat) :
    (s.roundRecords d p e status).works = s.works := by
  simp [State.roundRecords]

@[simp] theorem State.roundStatus_works (s : State) (d p : Nat) (e : Exch) (status : Nat) :
    (s.roundStatus d p e status).works = s.works := by
  simp [State.roundStatus]

@[simp] theorem State.saturated_works (s : State) (d p : Nat) : (s.saturated d p).works = s.works := by
  simp [State.saturated]

@[simp] theorem State.chainReport_works (s : State) (d p : Nat) (e : Exch) :
    (s.chainReport d p e).works = s.works := by
  simp [State.chainReport]

@[simp] theorem State.releaseListeners_works (s : State) (ns : List Nat) :
    (s.releaseListeners ns).works = s.works := by
  unfold State.releaseListeners
  exact works_foldl _ (fun s n => by dsimp only; split <;> simp) _ _

@[simp] theorem State.refDone_works (s : State) (o : Origin) : (s.refDone o).works = s.works := by
  unfold State.refDone
  split <;> simp

@[simp] theorem State.wantListener_works (s : State) (k : Nat) : (s.wantListener k).works = s.works := by
  simp [State.wantListener]

@[simp] theorem State.takeListeners_works (s : State) (d p : Nat) (partner : Option Nat) (m : Member) :
    (s.takeListeners d p partner m).1.works = s.works := by
  unfold State.takeListeners
  split <;> simp

@[simp] theorem State.wantMember_works (s : State) (d p : Nat) (partner : Option Nat) (m : Member) :
    (s.wantMember d p partner m).works = s.works := by
  simp [State.wantMember]

@[simp] theorem State.exchFieldOff_works (s : State) (d p : Nat) (e : Exch) (abort : Bool) :
    (s.exchFieldOff d p e abort).works = s.works := by
  simp [State.exchFieldOff]

@[simp] theorem State.exchBoundary_works (s : State) (d p : Nat) (e : Exch) :
    (s.exchBoundary d p e).works = s.works := by
  unfold State.exchBoundary
  split <;> simp

@[simp] theorem State.beginHold_works (s : State) (d p : Nat) : (s.beginHold d p).works = s.works := by
  unfold State.beginHold
  split <;> simp

@[simp] theorem State.memberRecords_works (s : State) (d p : Nat) (e : Exch) (r : Result) :
    (s.memberRecords d p e r).works = s.works := by
  simp [State.memberRecords]

@[simp] theorem State.freshBytes_works : ∀ (n : Nat) (s : State), (State.freshBytes n s).1.works = s.works
  | 0, _ => rfl
  | n + 1, s => by simp [State.freshBytes, State.freshBytes_works n]

@[simp] theorem State.cutAct_works (s : State) (a : Act) : (s.cutAct a).1.works = s.works := by
  unfold State.cutAct
  dsimp only
  split <;> simp

@[simp] theorem State.cutReply_works (s : State) (e : Exch) : (s.cutReply e).1.works = s.works := by
  simp only [State.cutReply]
  (repeat' split) <;> simp

@[simp] theorem State.dropCand_works (s : State) (order : Nat) : (s.dropCand order).works = s.works := by
  simp [State.dropCand]

@[simp] theorem State.withdraw_works (s : State) (c : Cand) : (s.withdraw c).works = s.works := by
  unfold State.withdraw
  split <;> simp

@[simp] theorem State.safetyItem_works (s : State) : s.safetyItem.works = s.works := by simp [State.safetyItem]

@[simp] theorem State.attnSync_works (s : State) : s.attnSync.works = s.works := by simp [State.attnSync]

@[simp] theorem State.setSeam_works (s : State) (n : Nat) (x : Seam) : (s.setSeam n x).works = s.works := by
  simp [State.setSeam]

@[simp] theorem State.reroute_works (s : State) : s.reroute.works = s.works := by simp [State.reroute]

@[simp] theorem State.lostRecord_works (s : State) (x : ResultId) (c reserved : Nat) (note : Note) :
    (s.lostRecord x c reserved note).works = s.works := by
  simp [State.lostRecord]

@[simp] theorem State.lostBuffer_works (s : State) (d : Nat) : (s.lostBuffer d).works = s.works := by
  unfold State.lostBuffer
  extract_lets x left cleared back kept
  exact (works_foldl _ (fun s r => by split <;> simp) _ _).trans (by simp [kept, cleared])

@[simp] theorem State.rampDie_works (s : State) (d : Nat) : (s.rampDie d).works = s.works := by simp [State.rampDie]

@[simp] theorem State.seamCount_works (s : State) (n : Nat) (f : Fld) : (s.seamCount n f).works = s.works := by
  simp [State.seamCount]

end Sys2Proof.Machine

namespace Sys2Proof.Machine

/-! R348, R356, R44: the ends of exchanges, probes, runs and tests begin no work: what is on field dies stays there. -/

/-- Every entry is work of a field die, its slices or the whole of it: the anchor has no ports. -/
def OnDies (l : List (Nat × Exch)) : Prop := ∀ e ∈ l, 16 ≤ e.1

theorem OnDies.erase {l : List (Nat × Exch)} (h : OnDies l) (k : Nat) : OnDies (Store.erase l k) :=
  fun e he => h e (List.mem_filter.1 he).1

theorem OnDies.insert {l : List (Nat × Exch)} (h : OnDies l) {k : Nat} (hk : 16 ≤ k) (v : Exch) :
    OnDies (Store.insert l k v) := fun e he => by
  rcases (Store.mem_insert l k v e).1 he with rfl | he
  · exact hk
  · exact h e he

theorem OnDies.of_find {l : List (Nat × Exch)} (h : OnDies l) {k : Nat} {v : Exch} (hv : Store.find? l k = some v) :
    16 ≤ k := by
  induction l with
  | nil => exact absurd hv (by simp)
  | cons e t ih =>
    obtain ⟨k', v'⟩ := e
    rw [Store.find?_cons] at hv
    split at hv
    next heq => exact heq ▸ h _ (List.mem_cons_self ..)
    next => exact ih (fun e he => h e (List.mem_cons_of_mem _ he)) hv

theorem OnDies.foldl {α : Type} {f : State → α → State} (hf : ∀ s x, OnDies s.works → OnDies (f s x).works)
    (l : List α)
    {s : State} (h : OnDies s.works) : OnDies (l.foldl f s).works := by
  induction l generalizing s with
  | nil => exact h
  | cons x l ih => exact ih (hf s x h)

theorem State.setExch_onDies {s : State} {d p : Nat} (h : OnDies s.works) (hk : 16 ≤ portKey d p) (e : Exch) :
    OnDies (s.setExch d p e).works :=
  (h.erase _).insert hk e

theorem State.dropExch_onDies {s : State} (h : OnDies s.works) (d p : Nat) : OnDies (s.dropExch d p).works := h.erase _

theorem State.dropWork_onDies {s : State} (h : OnDies s.works) (k : Nat) : OnDies (s.dropWork k).works := h.erase _

theorem State.dropWaiting_onDies {s : State} (h : OnDies s.works) (d p : Nat) : OnDies (s.dropWaiting d p).works := by
  unfold State.dropWaiting
  dsimp only
  split
  · split
    · exact h.erase _
    · exact h
  · exact h

theorem State.watchSync_onDies {s : State} (h : OnDies s.works) (d p : Nat) : OnDies (s.watchSync d p).works := by
  unfold State.watchSync State.suspendWatch
  dsimp only
  split
  · exact h
  · split
    · split
      · simpa using h
      · exact h
    · split
      · exact h
      · exact State.dropWaiting_onDies (by simpa using h) d p

theorem State.watchSyncDie_onDies {s : State} (h : OnDies s.works) (d : Nat) : OnDies (s.watchSyncDie d).works :=
  OnDies.foldl (fun _ p hz => State.watchSync_onDies hz d p) _ h

theorem State.sliceLeavesTest_onDies {s : State} (h : OnDies s.works) (d sl : Nat) :
    OnDies (s.sliceLeavesTest d sl).works := by
  unfold State.sliceLeavesTest
  rw [State.restSlice_works]
  exact State.watchSyncDie_onDies (by (repeat' split) <;> simpa using h) d

theorem State.testAbort_onDies {s : State} (h : OnDies s.works) (kind d unit : Nat) :
    OnDies (s.testAbort kind d unit).works := by
  have hdrop (key : Nat) : OnDies (if kind ≤ 2 then s.dropWork key else s).works := by
    split
    · exact State.dropWork_onDies h key
    · exact h
  unfold State.testAbort
  dsimp only
  split
  · simp only [State.startupTested_works, State.reportTest_works, State.testEvent_works, State.countUp_works,
      State.testResult_works]
    split
    · exact State.sliceLeavesTest_onDies (hdrop _) d unit
    · rw [State.pageTested_works]
      exact hdrop _
  · exact h

theorem State.calAbort_onDies {s : State} (h : OnDies s.works) (key : Nat) : OnDies (s.calAbort key).works := by
  unfold State.calAbort
  split
  · exact h
  · split
    · dsimp only
      (repeat' split) <;> simpa using State.dropWork_onDies h key
    · exact h

theorem State.endCw_onDies {s : State} (h : OnDies s.works) (d sl : Nat) (abort : Bool) :
    OnDies (s.endCw d sl abort).works := by
  unfold State.endCw
  simpa using State.dropWork_onDies h (sliceWork d sl)

/-- R411: the work of longest standing, the first of it, is one of the list. -/
theorem mem_of_foldl_admitted (l : List (Nat × Exch)) :
    ∀ e, l.foldl (fun (b : Option (Nat × Exch)) e => match b with
      | some x => if e.2.admitted < x.2.admitted then some e else b
      | none => some e) none = some e → e ∈ l := by
  refine List.foldlRecOn (motive := fun b : Option (Nat × Exch) => ∀ e, b = some e → e ∈ l) _ _ (by simp)
    fun b hb x hx e he => ?_
  split at he
  · split at he
    · exact Option.some.inj he ▸ hx
    · exact hb e he
  · exact Option.some.inj he ▸ hx

theorem State.startProbes_onDies (d : Nat) : ∀ (n : Nat) {s : State}, OnDies s.works →
    OnDies (State.startProbes d n s).works
  | 0, _, h => h
  | n + 1, s, h => by
    unfold State.startProbes
    dsimp only
    split
    · exact h
    · split
      · exact h
      next k e hfirst =>
        have hmem := List.mem_filter.1 (mem_of_foldl_admitted _ _ hfirst)
        have hdie : k / 16 = d := by simpa using (Bool.and_eq_true_iff.1 (Bool.and_eq_true_iff.1 hmem.2).1).1
        have hk : 16 ≤ portKey d (k % 16) := by
          have hk : 16 ≤ k := h _ hmem.1
          unfold portKey
          omega
        split
        · exact State.dropExch_onDies h _ _
        · split
          · exact State.startProbes_onDies d n (by simpa using State.dropExch_onDies h d (k % 16))
          · rw [State.startRamp_works]
            exact State.setExch_onDies h hk _

theorem State.dropProbe_onDies {s : State} (h : OnDies s.works) (d p : Nat) (abort : Bool) :
    OnDies (s.dropProbe d p abort).works := by
  unfold State.dropProbe
  split
  · exact h
  · exact State.startProbes_onDies d 8 (by simpa [State.exchFieldOff] using State.dropExch_onDies h d p)

theorem State.finishTail_onDies {s : State} {d p : Nat} (h : OnDies s.works) (hk : 16 ≤ portKey d p) (e : Exch)
    (r : Result) :
    OnDies (s.finishTail d p e r).works := by
  unfold State.finishTail
  dsimp only
  split
  · simp only [State.releaseGuarded_works, State.exchBoundary_works]
    refine State.setExch_onDies ?_ hk _
    (repeat' split) <;> simpa using h
  · simp only [State.releaseGuarded_works, State.exchBoundary_works, State.refDone_works, State.setBit_works]
    refine State.dropExch_onDies ?_ _ _
    split
    · rw [State.beginHold_works]
      split <;> simpa using h
    · simpa using h

theorem State.finish_onDies {s : State} {d p : Nat} (h : OnDies s.works) (hk : 16 ≤ portKey d p) (r : Result) :
    OnDies (s.finish d p r).works := by
  unfold State.finish
  split
  · exact h
  · dsimp only
    split
    · rw [State.releaseGuarded_works]
      exact State.setExch_onDies (by simpa using h) hk _
    · exact State.finishTail_onDies (by simpa using h) hk _ _

theorem State.loseListener_onDies {s : State} (h : OnDies s.works) (n : Nat) : OnDies (s.loseListener n).works := by
  unfold State.loseListener
  dsimp only
  intro e he
  obtain ⟨x, hx, rfl⟩ := List.mem_map.1 he
  have hkey : 16 ≤ x.1 := h x (by split at hx <;> simpa using hx)
  split
  · exact hkey
  · split
    · exact hkey
    · exact hkey

theorem State.stopStreams_onDies {s : State} (h : OnDies s.works) (key : Nat) (cut : List Nat) :
    OnDies (s.stopStreams key cut).works := by
  unfold State.stopStreams
  split
  next x hx =>
    rw [State.releaseListeners_works]
    refine (h.erase key).insert ?_ _
    split at hx
    · exact absurd hx (by simp)
    · exact h.of_find hx
  next => exact h

theorem State.cutSeam_onDies {s : State} (h : OnDies s.works) (seam : Nat) : OnDies (s.cutSeam seam).works :=
  OnDies.foldl (fun z e hz => by
    split
    · exact State.stopStreams_onDies hz _ _
    · exact hz) _ h

theorem State.trimSeam_onDies {s : State} (h : OnDies s.works) (seam : Nat) : OnDies (s.trimSeam seam).works :=
  List.foldlRecOn (motive := fun z : State × Nat => OnDies z.1.works) _ _ h fun _ hz _ _ =>
    State.stopStreams_onDies hz _ _

theorem State.lostWork_onDies {s : State} (h : OnDies s.works) (d key : Nat) (e : Exch) :
    OnDies (s.lostWork d key e).works := by
  unfold State.lostWork
  split
  · exact State.calAbort_onDies h key
  · exact State.testAbort_onDies h _ d _
  · exact State.endCw_onDies h d _ true
  · exact State.dropProbe_onDies h d _ true
  · dsimp only
    rw [State.refDone_works]
    (repeat' split) <;> simpa using State.dropWork_onDies (by simpa using h) key

end Sys2Proof.Machine

namespace Sys2Proof.Machine

/-! R360, R356: an exchange that is cut short stores what it received at its own die: the bytes of the anchor windows
stay over every command that ends exchanges. -/

/-- A guard leaves the state as it is, or gives it its meaning. -/
theorem when_elim {motive : State → Prop} {s : State} {c : Bool} {f : State → State} (hno : motive s)
    (hyes : c = true → motive (f s)) : motive (s.when c f) := by
  unfold State.when
  split
  next hc => exact hyes hc
  next => exact hno

/-- What a guarded command answers: its state, or that of its meaning. -/
theorem next_when_elim {motive : State → Prop} {s t : State} {c : Bool} {f : State → State}
    (ht : (.next (s.when c f) : Out) = .next t) (hno : motive s) (hyes : c = true → motive (f s)) : motive t :=
  Host.Outcome.next.inj ht ▸ when_elim hno hyes

/-- Bytes written one after another leave every byte at another address. -/
theorem Memory.readByte_foldl_writeByte {β : Type} (addr : β → Nat) (val : β → Byte) (a : Nat) (l : List β)
    (hne : ∀ x ∈ l, a ≠ addr x) (m : List Host.Cell) :
    Memory.readByte (l.foldl (fun m x => Memory.writeByte m (addr x) (val x)) m) a = Memory.readByte m a :=
  List.foldlRecOn (motive := fun z => Memory.readByte z a = Memory.readByte m a) _ _ rfl fun z hz x hx =>
    (Memory.readByte_writeByte_ne z _ (hne x hx)).trans hz

/-- The bytes of the anchor windows are those of `m`. -/
def Anchored (m : List Host.Cell) (s : State) : Prop :=
  ∀ a < hostAddr 1 0 0, Memory.readByte s.bytes a = Memory.readByte m a

theorem Anchored.of_bytes {m : List Host.Cell} {s t : State} (h : Anchored m s) (hb : t.bytes = s.bytes) :
    Anchored m t :=
  fun a ha => hb ▸ h a ha

/-- What the ends of exchanges keep: all admitted work is on field dies, and the bytes of the anchor windows are those
of `m`. -/
structure Fielded (m : List Host.Cell) (s : State) : Prop where
  works : OnDies s.works
  anchor : Anchored m s

section
variable {m : List Host.Cell} {s : State}

theorem Fielded.keep {t : State} (h : Fielded m s) (hw : OnDies s.works → OnDies t.works) (hb : t.bytes = s.bytes) :
    Fielded m t :=
  ⟨hw h.works, h.anchor.of_bytes hb⟩

theorem Fielded.foldl {α : Type} {f : State → α → State} {l : List α}
    (hf : ∀ x ∈ l, ∀ s, Fielded m s → Fielded m (f s x)) (h : Fielded m s) : Fielded m (l.foldl f s) :=
  List.foldlRecOn (motive := fun z => Fielded m z) _ _ h fun z hz x hx => hf x hx z hz

theorem State.storeRx_fielded (h : Fielded m s) {d : Nat} (hd : 1 ≤ d) (e : Member) (bs : List Byte) :
    Fielded m (s.storeRx d e bs) := by
  unfold State.storeRx
  split
  · refine ⟨h.works, fun a ha => ?_⟩
    rw [bytes_mk]
    refine (Memory.readByte_foldl_writeByte (fun x : Byte × Nat => hostAddr d 0x44 0 + 4 * e.rxRef + x.2) Prod.fst a _ ?_
      s.mem).trans (h.anchor a ha)
    intro x _
    unfold hostAddr at ha ⊢
    omega
  · exact h

theorem State.freshPick_works : ∀ (l : List Nat) (s : State), (State.freshPick l s).1.works = s.works
  | [], _ => rfl
  | _ :: l, s => by simp [State.freshPick, State.freshPick_works l]

theorem State.cutSat_onDies (h : OnDies s.works) {d p : Nat} (hk : 16 ≤ portKey d p) (e : Exch) :
    OnDies (s.cutSat d p e).works := by
  unfold State.cutSat
  exact State.setExch_onDies (by simpa [State.freshPick_works] using h) hk _

theorem State.abortExch_fielded (h : Fielded m s) {d : Nat} (hd : 1 ≤ d) (p status : Nat) :
    Fielded m (s.abortExch d p status) := by
  have hk : 16 ≤ portKey d p := by unfold portKey; omega
  unfold State.abortExch
  split
  · exact h
  next e he =>
    split
    · exact h.keep (fun hw => State.finishTail_onDies hw hk _ _) (by simp)
    · have hcut : Fielded m ((s.cutSat d p (e.cutRead status)).cutReply e).1 :=
        h.keep (fun hw => by rw [State.cutReply_works]; exact State.cutSat_onDies hw hk _)
          (by rw [State.cutReply_bytes, State.cutSat_bytes])
      exact (State.storeRx_fielded hcut hd e.member _).keep (fun hw => State.finish_onDies hw hk _)
        (State.finish_bytes ..)

theorem State.endWork_fielded (h : Fielded m s) {key : Nat} (hk : 16 ≤ key) (status : Nat) :
    Fielded m (s.endWork key status) := by
  unfold State.endWork
  split
  · exact h
  · split
    · exact h.keep (fun hw => State.calAbort_onDies hw key) (by simp)
    · exact h.keep (fun hw => State.testAbort_onDies hw _ _ _) (by simp)
    · exact h.keep (fun hw => State.endCw_onDies hw _ _ _) (by simp)
    · exact h.keep (fun hw => State.dropProbe_onDies hw _ _ _) (by simp)
    · exact State.abortExch_fielded h (by omega) _ _

/-- The item of lowest priority is one of the list. -/
theorem mem_of_lowestWork {l : List (Nat × Exch)} {x : Nat × Exch} (hx : lowestWork l = some x) : x ∈ l := by
  induction l generalizing x with
  | nil => exact absurd hx (by simp [lowestWork])
  | cons h t ih =>
    rw [lowestWork] at hx
    split at hx
    next y hy =>
      split at hx
      · exact List.mem_cons_of_mem _ (Option.some.inj hx ▸ ih hy)
      · exact Option.some.inj hx ▸ List.mem_cons_self ..
    next => exact Option.some.inj hx ▸ List.mem_cons_self ..

theorem State.safetyItem_fielded (h : Fielded m s) : Fielded m s.safetyItem :=
  h.keep (by simp) (by simp)

theorem State.shed_fielded : ∀ (n : Nat) {s : State}, Fielded m s → Fielded m (s.shed n)
  | 0, _, h => h
  | n + 1, s, h => by
    unfold State.shed
    split
    · exact h
    · split
      · dsimp only
        refine State.shed_fielded n (h.keep ?_ ?_)
        · intro hw
          rw [State.safetyItem_works]
          split <;> simpa using hw
        · rw [State.safetyItem_bytes]
          split <;> simp
      · split
        next k e hlow =>
          have hmem := List.mem_filter.1 (mem_of_lowestWork hlow)
          refine State.shed_fielded n (State.safetyItem_fielded (State.endWork_fielded h (h.works _ hmem.1) 6))
        · exact h

theorem State.thermalStop_fielded (h : Fielded m s) : Fielded m s.thermalStop := by
  unfold State.thermalStop
  extract_lets stopped unheld ended
  have hunheld : Fielded m unheld := h.keep (by simp [unheld, stopped]) (by simp [unheld, stopped])
  have hended : Fielded m ended :=
    Fielded.foldl (fun e he _ h => State.safetyItem_fielded (State.endWork_fielded h (hunheld.works e he) 6)) hunheld
  refine Fielded.foldl (fun i _ s h => Fielded.foldl (fun sl _ s h => ?_) h) hended
  split
  · exact h.keep (by simp) (by simp)
  · exact h

theorem State.loseDie_fielded (h : Fielded m s) (d : Nat) : Fielded m (s.loseDie d) := by
  have hguests : ∀ e ∈ s.guestKeys d, 16 ≤ e.1 := fun e he => h.works e (List.mem_filter.1 he).1
  unfold State.loseDie
  extract_lets waiting guests synced unreached told deaf lost cut unbuffered withdrawn ramped
  have htold : Fielded m told := h.keep (by simp [told, unreached, synced]) (by simp [told, unreached, synced])
  have hdeaf : Fielded m deaf :=
    htold.keep (fun hw => OnDies.foldl (fun _ p hz => State.loseListener_onDies hz (aerial d p)) _ hw) (by simp [deaf])
  have hlost : Fielded m lost :=
    Fielded.foldl (fun e _ _ h => h.keep (fun hw => State.lostWork_onDies hw d e.1 e.2) (by simp)) hdeaf
  have hcut : Fielded m cut :=
    Fielded.foldl (fun e he _ h => State.endWork_fielded h (hguests e he) 8) hlost
  have hwithdrawn : Fielded m withdrawn :=
    hcut.keep (by simp [withdrawn, unbuffered]) (by simp [withdrawn, unbuffered])
  exact hwithdrawn.keep (by simp [ramped]) (by simp [ramped])

theorem State.afterSeams_fielded (h : Fielded m s) (seam : Nat) : Fielded m (s.afterSeams seam) := by
  unfold State.afterSeams
  extract_lets trimmed rerouted
  have htrimmed : Fielded m trimmed :=
    Fielded.foldl (fun k _ _ h => h.keep (fun hw => State.trimSeam_onDies hw k) (by simp))
      (h.keep (fun hw => State.cutSeam_onDies hw seam) (by simp))
  refine Fielded.foldl (fun i _ _ h => ?_) (htrimmed.keep (by simp [rerouted]) (by simp [rerouted]))
  split
  · exact State.loseDie_fielded h (i + 1)
  · exact h

theorem State.seamFault_fielded (h : Fielded m s) (n : Nat) (cw : Bool) : Fielded m (s.seamFault n cw) := by
  unfold State.seamFault
  extract_lets f marked
  split
  · exact h
  · exact State.afterSeams_fielded (h.keep (by simp [marked]) (by simp [marked])) n

theorem State.faultSlice_fielded (h : Fielded m s) (d sl code : Nat) : Fielded m (s.faultSlice d sl code) := by
  have husers : ∀ k ∈ s.sliceUsers d sl, 16 ≤ k := by
    intro k hk
    obtain ⟨e, he, rfl⟩ := List.mem_map.1 hk
    exact h.works e (List.mem_filter.1 he).1
  unfold State.faultSlice
  extract_lets users deaf
  have hdeaf : Fielded m deaf := by
    unfold deaf
    split
    · exact h.keep (fun hw => State.loseListener_onDies hw _) (by simp)
    · exact h
  have hended : Fielded m (users.foldl (fun s k => s.endWork k 8) (deaf.sliceFault d sl code)) :=
    Fielded.foldl (fun k hk _ h => State.endWork_fielded h (husers k hk) 8) (hdeaf.keep (by simp) (by simp))
  exact hended.keep (fun hw => State.watchSyncDie_onDies hw d) (by simp)

theorem State.cutFields_fielded (h : Fielded m s) (d : Nat) : Fielded m (s.cutFields d) := by
  have hkeys : ∀ e ∈ s.dieKeys d ++ s.guestKeys d, 16 ≤ e.1 := by
    intro e he
    rcases List.mem_append.1 he with he | he
    · exact h.works e (List.mem_filter.1 he).1
    · exact h.works e (List.mem_filter.1 he).1
  unfold State.cutFields
  extract_lets keys deaf ramped
  have hdeaf : Fielded m deaf :=
    h.keep (fun hw => OnDies.foldl (fun _ p hz => State.loseListener_onDies hz (aerial d p)) _ hw) (by simp [deaf])
  exact Fielded.foldl (fun e he _ h => State.endWork_fielded h (hkeys e he) 8)
    (hdeaf.keep (by simp [ramped]) (by simp [ramped]))

theorem State.endTest_anchored (h : Fielded m s) (kind die unit : Nat) (classes : List Nat) (value : Int) (cw : Bool) :
    Anchored m (s.endTest kind die unit classes value cw) := by
  unfold State.endTest
  extract_lets sig result expected key res dropped left
  split
  rename_i first cls _
  extract_lets judged counted reported faulted darned
  have hdropped : Fielded m dropped := by
    unfold dropped
    split
    · exact h.keep (fun hw => State.dropWork_onDies hw key) (by simp)
    · exact h
  have hleft : Fielded m left := by
    unfold left
    split
    · exact hdropped.keep (fun hw => State.sliceLeavesTest_onDies hw die unit) (by simp)
    · exact hdropped.keep (by simp) (by simp)
  have hreported : Fielded m reported := by
    refine hleft.keep ?_ ?_ <;> unfold reported counted judged <;> (repeat' split) <;> simp
  have hfaulted : Fielded m faulted := by
    unfold faulted
    split
    · exact State.seamFault_fielded hreported unit cw
    · exact hreported
  refine hfaulted.anchor.of_bytes ?_
  unfold darned
  split <;> simp

theorem Anchored.of_next_when {t : State} {c : Bool} {f : State → State} (h : Anchored m s)
    (ht : (.next (s.when c f) : Out) = .next t) (hf : Anchored m (f s)) : Anchored m t :=
  next_when_elim ht h fun _ => hf

theorem State.writeRo_works (s : State) (d p o : Nat) (v : Word) : (s.writeRo d p o v).works = s.works := by
  simp [State.writeRo]

theorem execFcoAbort_anchored {t : State} (v : Word) (h : Fielded m s)
    (ht : execFcoAbort v s = .next t) : Anchored m t := by
  obtain rfl := Host.Outcome.next.inj ht
  unfold State.hostWrite
  split
  · exact h.anchor
  split
  · exact h.anchor.of_bytes (by simp)
  dsimp -zeta only
  extract_lets noted d i uses waiting running withdrawn
  have hnoted : Fielded m noted := h.keep (fun hw => (s.writeRo_works 0 0x0A 0x048 v).symm ▸ hw) (by simp [noted])
  split
  · exact hnoted.anchor.of_bytes (by simp)
  · have hwithdrawn : Fielded m withdrawn := hnoted.keep (by simp [withdrawn]) (by simp [withdrawn])
    exact (Fielded.foldl (fun e he _ h => State.endWork_fielded h (hnoted.works e (List.mem_filter.1 he).1) 7)
      hwithdrawn).anchor.of_bytes (State.coordinate_bytes _)

theorem execThermalSample_anchored {t : State} (temps : List Int) (h : Fielded m s)
    (ht : execThermalSample temps s = .next t) : Anchored m t := by
  refine Anchored.of_next_when h.anchor ht ?_
  split
  · exact h.anchor
  · extract_lets factor old shown coord scaled told warned stopped above coord' counted shed
    have hwarned : Fielded m warned := by
      refine h.keep ?_ ?_ <;> unfold warned told scaled shown <;> (repeat' split) <;> simp
    have hstopped : Fielded m stopped := by
      unfold stopped
      split
      · exact State.thermalStop_fielded hwarned
      · split
        · exact hwarned.keep (by simp) (by simp)
        · exact hwarned
    have hcounted : Fielded m counted := hstopped.keep (by simp [counted]) (by simp [counted])
    have hshed : Fielded m shed := by
      unfold shed
      split
      · exact State.shed_fielded 200 hcounted
      · exact hcounted
    exact hshed.anchor.of_bytes (by simp)

theorem execVsupWindowEnd_anchored {t : State} (v : Nat) (h : Fielded m s)
    (ht : execVsupWindowEnd v s = .next t) : Anchored m t := by
  refine Anchored.of_next_when h.anchor ht ?_
  extract_lets shown above coord counted shed
  have hcounted : Fielded m counted := h.keep (by simp [counted, shown]) (by simp [counted, shown])
  have hshed : Fielded m shed := by
    unfold shed
    split
    · exact State.shed_fielded 200 hcounted
    · exact hcounted
  exact hshed.anchor.of_bytes (by simp)

theorem execOvercurrent_anchored {t : State} (d sl : Nat) (h : Fielded m s)
    (ht : execOvercurrent d sl s = .next t) : Anchored m t := by
  refine Anchored.of_next_when h.anchor ht ?_
  extract_lets marked
  have hmarked : Fielded m marked := h.keep (by simp [marked]) (by simp [marked])
  exact (State.faultSlice_fielded hmarked d sl 0x0110).anchor.of_bytes (by simp)

theorem execSliceStartCheck_anchored {t : State} (d sl : Nat) (pass : Bool) (h : Fielded m s)
    (ht : execSliceStartCheck d sl pass s = .next t) : Anchored m t := by
  refine Anchored.of_next_when h.anchor ht ?_
  split
  · exact h.anchor.of_bytes (by simp)
  · extract_lets marked
    have hmarked : Fielded m marked := h.keep (by simp [marked]) (by simp [marked])
    exact (State.faultSlice_fielded hmarked d sl 0x0112).anchor.of_bytes (by simp)

theorem execGuardEnd_anchored {t : State} (d sl : Nat) (h : Fielded m s)
    (ht : execGuardEnd d sl s = .next t) : Anchored m t := by
  refine Anchored.of_next_when h.anchor ht ?_
  extract_lets x told
  split
  · have htold : Fielded m told := by
      refine h.keep ?_ ?_ <;> unfold told <;> (repeat' split) <;> simp
    exact (State.faultSlice_fielded htold d sl 0x0111).anchor.of_bytes (by simp)
  · refine h.anchor.of_bytes ?_
    split
    · dsimp only
      split <;> simp
    · simp

theorem execDieSeamSilence_anchored {t : State} (d : Nat) (h : Fielded m s)
    (ht : execDieSeamSilence d s = .next t) : Anchored m t :=
  Anchored.of_next_when h.anchor ht ((State.cutFields_fielded h d).anchor.of_bytes (State.coordinate_bytes _))

theorem execDieAnchorSilence_anchored {t : State} (d : Nat) (h : Fielded m s)
    (ht : execDieAnchorSilence d s = .next t) : Anchored m t :=
  execDieSeamSilence_anchored d h ht

theorem execCarrierUnlock_anchored {t : State} (d : Nat) (h : Fielded m s)
    (ht : execCarrierUnlock d s = .next t) : Anchored m t := by
  refine Anchored.of_next_when h.anchor ht ?_
  extract_lets unlocked
  have hunlocked : Fielded m unlocked := h.keep (by simp [unlocked]) (by simp [unlocked])
  exact (State.cutFields_fielded hunlocked d).anchor.of_bytes (State.coordinate_bytes _)

theorem execSeamWatchdog_anchored {t : State} (seam : Nat) (cw : Bool) (h : Fielded m s)
    (ht : execSeamWatchdog seam cw s = .next t) : Anchored m t :=
  Anchored.of_next_when h.anchor ht ((State.seamFault_fielded h seam cw).anchor.of_bytes (State.coordinate_bytes _))

theorem execSeamBadCrc_anchored {t : State} (seam : Nat) (cw again : Bool) (h : Fielded m s)
    (ht : execSeamBadCrc seam cw again s = .next t) : Anchored m t := by
  refine Anchored.of_next_when h.anchor ht ?_
  extract_lets counted x n
  split
  · refine Anchored.of_bytes (State.seamFault_fielded (s := counted.setSeam seam _) ?_ seam cw).anchor
      (State.coordinate_bytes _)
    exact h.keep (by simp [counted]) (by simp [counted])
  · exact h.anchor.of_bytes (by simp [counted])

theorem execTestEnd_anchored {t : State} (kind die unit : Nat) (classes : List Nat) (value : Int) (cw : Bool)
    (h : Fielded m s) (ht : execTestEnd kind die unit classes value cw s = .next t) : Anchored m t :=
  Anchored.of_next_when h.anchor ht
    ((State.endTest_anchored h kind die unit classes value cw).of_bytes (State.coordinate_bytes _))

end

end Sys2Proof.Machine

namespace Sys2Proof.Machine

/-! R86, R462: what a port, a seam and the radio store: the word that they write, and the receive buffer. -/

/-- R76: a write of an anchor register stores no byte of a window, but that FCO_ABORT ends exchanges. -/
theorem State.anchorCmd_bytes (s : State) {page off : Nat} (w : Word) (h : ¬ (page = 0x0A ∧ off = 0x048)) :
    (s.anchorCmd page off w).bytes = s.bytes := by
  unfold State.anchorCmd
  split
  -- FCO_ABORT
  case h_13 => exact absurd ⟨rfl, rfl⟩ h
  all_goals (repeat' split) <;> simp [State.when]

theorem State.regTake_bytes (s : State) {die page off : Nat} (w : Word)
    (h : ¬ (die = 0 ∧ page = 0x0A ∧ off = 0x048)) : (s.regTake die page off w).1.bytes = s.bytes := by
  have hnoted : (if ownCheck die page off then s else s.writeRo die page off w).bytes = s.bytes := by
    split <;> simp
  unfold State.regTake
  extract_lets t v
  split
  · exact hnoted
  · split
    next hdie => exact (State.anchorCmd_bytes t v fun hp => h ⟨hdie, hp⟩).trans hnoted
    next => exact (State.dieCmd_bytes t die page off v).trans hnoted

theorem State.regWrite_bytes (s : State) {die page off : Nat} (w : Word)
    (h : ¬ (die = 0 ∧ page = 0x0A ∧ off = 0x048)) : (s.regWrite die page off w).1.bytes = s.bytes := by
  unfold State.regWrite
  (repeat' split) <;> simp [State.regTake_bytes s w h]

/-- R86: a window write leaves every byte outside its word. -/
theorem State.windowPut_bytes (s : State) (die page off : Nat) (w : Word) {a : Nat}
    (ha : a < hostAddr die page off ∨ hostAddr die page off + 4 ≤ a) :
    Memory.readByte (s.windowPut die page off w).1.bytes a = Memory.readByte s.bytes a := by
  unfold State.windowPut
  dsimp only
  split
  · simp
  · split
    · simp
    · split
      · simp
      · exact Memory.readByte_writeWord_ne s.mem w ha

/-- R84, R632: what a write leaves beside what its window or register takes. -/
theorem State.putAt_bytes (s : State) (die page off : Nat) (w : Word) : (s.putAt die page off w).1.bytes =
    (if windowOf die page ≠ .none then (s.touchDie die).windowPut die page off w
      else (s.touchDie die).regWrite die page off w).1.bytes := by
  unfold State.putAt
  dsimp only
  split
  · rfl
  · rw [State.attnSync_bytes, State.icuDeliverDie_bytes]

theorem State.putAt_bytes_of_register (s : State) {die page off : Nat} (w : Word) (hreg : windowOf die page = .none)
    (h : ¬ (die = 0 ∧ page = 0x0A ∧ off = 0x048)) : (s.putAt die page off w).1.bytes = s.bytes := by
  rw [State.putAt_bytes, if_neg (not_not_intro hreg), State.regWrite_bytes _ w h, State.touchDie_bytes]

theorem State.readByte_putAt (s : State) {die page off : Nat} (w : Word)
    (hwindow : windowOf die page ≠ .none) {a : Nat}
    (ha : a < hostAddr die page off ∨ hostAddr die page off + 4 ≤ a) :
    Memory.readByte (s.putAt die page off w).1.bytes a = Memory.readByte s.bytes a := by
  rw [State.putAt_bytes, if_pos hwindow, State.windowPut_bytes _ _ _ _ _ ha, State.touchDie_bytes]

/-- The field dies have the same windows. -/
theorem windowOf_die {d : Nat} (hd : d ≠ 0) (page : Nat) : windowOf d page = windowOf 1 page := by
  unfold windowOf
  rw [if_neg hd, if_neg Nat.one_ne_zero]

theorem execWindowWrite_bytes {s t : State} {addr : Nat} {value : Word} (hdie : addrDie addr ≠ 15)
    (ht : execWindowWrite addr value s = .next t) {a : Nat} (ha : a < addr % 2 ^ 24 ∨ addr % 2 ^ 24 + 4 ≤ a) :
    Memory.readByte t.bytes a = Memory.readByte s.bytes a := by
  have haddr : addr % 2 ^ 24 = hostAddr (addrDie addr) (addrPage addr) (addrOff addr) := by
    unfold hostAddr addrDie addrPage addrOff
    omega
  refine next_when_elim (motive := fun t => Memory.readByte t.bytes a = Memory.readByte s.bytes a) ht rfl
    fun hwindow => ?_
  rw [if_neg hdie] at hwindow
  have hwindow : windowOf (addrDie addr) (addrPage addr) ≠ .none := by simpa using (Bool.and_eq_true_iff.1 hwindow).2
  unfold State.busWrite
  dsimp only
  rw [if_neg hdie]
  split
  · rfl
  · exact State.readByte_putAt s value hwindow (haddr ▸ ha)

theorem execRegisterWrite_bytes {s t : State} {addr : Nat} {value : Word} (haddr : addr % 2 ^ 24 ≠ 0x0A048)
    (ht : execRegisterWrite addr value s = .next t) : t.bytes = s.bytes := by
  refine next_when_elim (motive := fun t => t.bytes = s.bytes) ht rfl fun hreg => ?_
  have hreg : windowOf (if addrDie addr = 15 then 1 else addrDie addr) (addrPage addr) = .none := by
    simpa using (Bool.and_eq_true_iff.1 hreg).2
  unfold State.busWrite
  dsimp only
  split
  next hall =>
    rw [if_pos hall] at hreg
    split
    · rfl
    · refine List.foldlRecOn (motive := fun z : State × Nat => z.1.bytes = s.bytes) _ _ rfl fun z hz i _ => ?_
      have hdie : i + 1 ≠ 0 := Nat.succ_ne_zero i
      rw [State.putAt_bytes_of_register z.1 value ((windowOf_die hdie _).trans hreg) fun h => hdie h.1, hz]
  next hone =>
    rw [if_neg hone] at hreg
    split
    · rfl
    · refine State.putAt_bytes_of_register s value hreg ?_
      rintro ⟨hdie, hpage, hoff⟩
      unfold addrDie at hdie
      unfold addrPage at hpage
      unfold addrOff at hoff
      omega

theorem State.seamAccess_bytes (s : State) {die : Nat} (hdie : die ≠ 0) (write : Bool) (offset : Nat) (data : Word)
    {a : Nat} (ha : a < hostAddr die (addrPage offset) (addrOff offset / 4 * 4) ∨
      hostAddr die (addrPage offset) (addrOff offset / 4 * 4) + 4 ≤ a) :
    Memory.readByte (s.seamAccess die write offset data).1.bytes a = Memory.readByte s.bytes a := by
  unfold State.seamAccess
  dsimp only
  split
  · rfl
  · split
    · split
      · exact State.windowPut_bytes s _ _ _ data ha
      · rfl
    · split
      · rw [State.regWrite_bytes s data (fun h => hdie h.1)]
      · rw [State.regRead_bytes]

theorem execSeamRegisterAccess_bytes {s t : State} {die tag : Nat} {write : Bool} {offset : Nat} {data : Word}
    (ht : execSeamRegisterAccess die tag write offset data s = .next t)
    {a : Nat} (ha : a < hostAddr die (addrPage offset) (addrOff offset / 4 * 4) ∨
      hostAddr die (addrPage offset) (addrOff offset / 4 * 4) + 4 ≤ a) :
    Memory.readByte t.bytes a = Memory.readByte s.bytes a := by
  refine next_when_elim (motive := fun t => Memory.readByte t.bytes a = Memory.readByte s.bytes a) ht rfl
    fun hserv => ?_
  have hdie : die ≠ 0 := by
    have hin := (Bool.and_eq_true_iff.1 (Bool.and_eq_true_iff.1 hserv).2).1
    have hpos := (of_decide_eq_true hin).1
    omega
  split
  · rw [State.setDie_bytes]
  · dsimp only
    rw [State.setDie_bytes, State.seamAccess_bytes _ hdie _ _ _ ha, State.touchDie_bytes]

/-- R462: the receive buffer takes the two bytes of the header and the payload. -/
theorem State.rxBuffer_bytes (s : State) (r : RxRun) (payload : List Byte) {a : Nat}
    (ha : a < hostAddr 0 0xB9 0 ∨ hostAddr 0 0xB9 0 + payload.length + 2 ≤ a) :
    Memory.readByte (s.rxBuffer r payload).bytes a = Memory.readByte s.bytes a := by
  have hput (hdr : List Byte) (hlen : hdr.length = 2) (m : List Host.Cell) :
      Memory.readByte ((hdr ++ payload).zipIdx.foldl (fun m e => Memory.writeByte m (hostAddr 0 0xB9 e.2) e.1) m) a =
        Memory.readByte m a := by
    refine Memory.readByte_foldl_writeByte (fun e : Byte × Nat => hostAddr 0 0xB9 e.2) Prod.fst a _ (fun e he => ?_) m
    have hlt : e.2 < 2 + payload.length := by
      have := List.snd_lt_of_mem_zipIdx he
      rw [List.length_append, hlen] at this
      omega
    unfold hostAddr at ha ⊢
    omega
  unfold State.rxBuffer
  dsimp only
  rw [bytes_mk]
  split
  · exact (hput _ rfl _).trans (by simp)
  · exact hput _ rfl _

theorem execRxPayloadEnd_bytes {s t : State} {payload : List Byte}
    (ht : execRxPayloadEnd payload s = .next t) {a : Nat}
    (ha : a < hostAddr 0 0xB9 0 ∨ hostAddr 0 0xB9 0 + payload.length + 2 ≤ a) :
    Memory.readByte t.bytes a = Memory.readByte s.bytes a := by
  refine next_when_elim (motive := fun t => Memory.readByte t.bytes a = Memory.readByte s.bytes a) ht rfl fun _ => ?_
  split
  next r _ =>
    split
    refine when_elim (motive := fun t => Memory.readByte t.bytes a = Memory.readByte s.bytes a) rfl fun _ => ?_
    extract_lets body crc c good radio idle stored counted
    have hcounted : Memory.readByte counted.bytes a = Memory.readByte s.bytes a := by
      have hstored : Memory.readByte stored.bytes a = Memory.readByte s.bytes a :=
        (State.rxBuffer_bytes idle r payload ha).trans (by simp [idle])
      unfold counted
      split
      · exact hstored
      · rw [State.countUp_bytes, hstored]
    have hchecked : (if good then counted.rxSecurity body else (counted, 0, noTicket, body)).1.bytes =
        counted.bytes := by
      split
      · exact State.rxSecurity_bytes ..
      · rfl
    split
    next u auth tkt data hu =>
      rw [hu] at hchecked
      rw [State.coordinate_bytes, ← hcounted, ← hchecked]
      split <;> simp
  · rfl

/-- Settles O54, by the word a port or a seam writes, the buffer of the radio, and the field dies that all exchanges
are on. -/
theorem storedBytes : Obligations.StoredBytes := by
  refine ⟨fun s t addr value hdie ht a ha => execWindowWrite_bytes hdie ht ha,
    fun s t addr value haddr ht a => congrArg (Memory.readByte · a) (execRegisterWrite_bytes haddr ht),
    fun s t die tag write offset data ht a ha => execSeamRegisterAccess_bytes ht ha,
    fun s t payload ht a ha => execRxPayloadEnd_bytes ht ha, ?_⟩
  intro c s t hkeys hc ht
  have h : Fielded s.mem s := ⟨hkeys, fun _ _ => rfl⟩
  rcases hc with ⟨v, rfl⟩ | ⟨l, rfl⟩ | ⟨v, rfl⟩ | ⟨d, sl, rfl⟩ | ⟨d, sl, rfl⟩ | ⟨d, sl, b, rfl⟩ | ⟨d, rfl⟩ | ⟨d, rfl⟩ |
    ⟨d, rfl⟩ | ⟨m, cw, b, rfl⟩ | ⟨m, cw, rfl⟩ | ⟨k, d, u, cl, v, cw, rfl⟩
  · exact execFcoAbort_anchored v h ht
  · exact execThermalSample_anchored l h ht
  · exact execVsupWindowEnd_anchored v h ht
  · exact execGuardEnd_anchored d sl h ht
  · exact execOvercurrent_anchored d sl h ht
  · exact execSliceStartCheck_anchored d sl b h ht
  · exact execDieSeamSilence_anchored d h ht
  · exact execDieAnchorSilence_anchored d h ht
  · exact execCarrierUnlock_anchored d h ht
  · exact execSeamBadCrc_anchored m cw b h ht
  · exact execSeamWatchdog_anchored m cw h ht
  · exact execTestEnd_anchored k d u cl v cw h ht

end Sys2Proof.Machine
